-- ==== Sys2Proof/Word.lean ====
section
/-! DEFINITION. The words of the part: bytes, 32-bit register words, 64-bit words and bobbin rows,
and the plainest arithmetic on them.  Byte order is little-endian throughout (R2). -/

namespace Sys2Proof

/-- One byte. -/
abbrev Byte := BitVec 8
/-- One 32-bit register word (R6). -/
abbrev Word := BitVec 32
/-- One 64-bit word: a Whorl time, an address, a scalar register. -/
abbrev Dword := BitVec 64

end Sys2Proof
end

