-- ==== Sys2Proof/Syntax.lean ====
section
/-! DEFINITION. The commands of the part: one constructor of `Instr` for each row of
spec/opcode_table.json, in the table's order, with the operands that the row's operation or event
carries.  A command names a unit of the part by its index (R5), a command of an engine by the number
`uid` that the model gave it at its admission or issue. -/

namespace Sys2Proof

/-- What the boot ROM finds outside the flash (Table 20.4): the PUF, the board and the silicon. -/
structure BootInputs where
  /-- what the PUF region reads at power-on (R549) -/
  puf : List (BitVec 8)
  /-- the flash takes the writes of step 4 -/
  flashWrites : Bool
  /-- skeins that fail the BOOT self-test (R538) -/
  failed : List Nat
  /-- CHECKER and SOURCE of the checkers that miss their injected fault (R537) -/
  missed : List (Nat × Nat)
  /-- rail 0 in mV as the first Voltage read gives it (R580) -/
  mv : Nat
  /-- LPDDR capacity in GiB and a mask of the live channels (R454) -/
  capacity : Nat
  channels : Nat
  /-- HUB_ID.GRADE -/
  grade : Nat
  /-- the slice bound of the Selvedge image (R515) -/
  testBound : Nat
  /-- the range of ring protocols of the hub image -/
  protoMin : Nat
  protoMax : Nat
  deriving DecidableEq, Repr

/-- Who registers a wait at a token (R91): a queued command, a spindle core, a capture stream or a
dataset stream. -/
inductive Wait where
  | cmd (uid : Nat) | core (skein core : Nat) | capture (stream : Nat) | dataset (stream : Nat)
  deriving DecidableEq, Repr

/-- What an encoder's pins show after an edge, and how many ticks they have shown it (R319). -/
structure EncEdge where
  a : Bool
  b : Bool
  i : Bool
  ticks : Nat
  deriving DecidableEq, Repr

/-- How a CSI-2 packet header was received (R329, R335). -/
inductive CsiHeader where
  | clean | corrected | uncorrectable
  deriving DecidableEq, Repr


/-- What the debugger does to a core: a word of the main Selvedge core's memory can also be read and written (R541). -/
inductive DebugAction where
  | halt | step | resume | read (addr : Nat) | write (addr value : Nat)
  deriving DecidableEq, Repr

/-- A frame on a CAN bus (Table 16.2): format 0 Classical, 1 FD, 2 XL. -/
structure CanFrame where
  id : Nat
  format : Nat
  ide : Bool
  rtr : Bool
  brs : Bool
  esiSec : Bool
  len : Nat
  sdt : Nat
  vcid : Nat
  af : Nat
  data : List (BitVec 8)
  deriving DecidableEq, Repr

/-- The operations and events of spec/opcode_table.json. -/
inductive Instr where
  /-- REG_WRITE (R9).  Function `fn` writes `size` bytes of `value` at `offset` of its BAR0. -/
  | regWrite (fn offset size value : Nat)
  /-- LOW_HALF_READ (R7).  A 32-bit read of the low half of a 64-bit register. -/
  | lowHalfRead (fn offset : Nat)
  /-- RC_COUNTER_READ (R13).  A 32-bit read of an RC counter. -/
  | rcCounterRead (fn offset : Nat)
  /-- RAILS_UP (R578). -/
  | railsUp
  /-- RAIL_LOSS (R578).  `aonHolds` says whether VDD_AON and VDDIO_AON stay within their limits. -/
  | railLoss (aonHolds : Bool)
  /-- RESET_N_ASSERT (R589).  RESET_N falls and stays low for `lowNs` ns or more. -/
  | resetNAssert (lowNs : Nat)
  /-- RESET_N_RELEASE (R589). -/
  | resetNRelease
  /-- INTERNAL_RESET_END (R589). -/
  | internalResetEnd
  /-- BOOT_SEQUENCE (R558).  The boot ROM's steps with what they find. -/
  | bootSequence (inputs : BootInputs)
  /-- STATE_REQ_RUN (R395). -/
  | stateReqRun
  /-- RUN_START (R395). -/
  | runStart
  /-- STATE_REQ_STANDBY (R29). -/
  | stateReqStandby
  /-- RUN_EXIT (R29). -/
  | runExit
  /-- STATE_REQ_SLEEP (R590). -/
  | stateReqSleep
  /-- SLEEP_ENTRY (R590). -/
  | sleepEntry
  /-- STATE_REQ_RELEASE_SAFE (R519).  `selfCheck` is what the lockstep comparator's fresh self-check finds (R519). -/
  | stateReqReleaseSafe (selfCheck : Bool)
  /-- STATE_REQ_RESET (R29). -/
  | stateReqReset
  /-- WAKE_N_EVENT (R591).  WAKE_N has been low for `lowUs` µs. -/
  | wakeNEvent (lowUs : Nat)
  /-- CAN_WAKE_DOMINANT (R493).  A dominant level of `us` µs on a listener channel. -/
  | canWakeDominant (channel us : Nat)
  /-- CAN_WAKE_FRAME (R494).  A Classical frame on a listener channel. -/
  | canWakeFrame (channel id : Nat) (ide : Bool) (data : List (BitVec 8))
  /-- WAKE_BOOT_START (R591). -/
  | wakeBootStart
  /-- WAKE_TIMEOUT (R591). -/
  | wakeTimeout
  /-- REFCLK_LOST (R42). -/
  | refclkLost
  /-- REFCLK_RESTORED (R42). -/
  | refclkRestored
  /-- WHORL_STEP_WRITE (R45).  The two halves of a WHORL_STEP write. -/
  | whorlStepWrite (step : BitVec 64)
  /-- DOMAIN_WRITE (R44).  A write of WHORL_CTRL.DOMAIN. -/
  | domainWrite (domain : Nat)
  /-- HOLD_END (R45). -/
  | holdEnd
  /-- TIME_WAVE_FRAME (R49).  A count frame; `bad` are the replicas that disagree with it or receive it with bad parity. -/
  | timeWaveFrame (bad : List Nat)
  /-- BEATMON_UPDATE (R61).  The interval ends in which the monitored loom completed `beats`. -/
  | beatmonUpdate (beats : Nat)
  /-- LAUNCH_GUARD (R56). -/
  | launchGuard (uid : Nat)
  /-- LAUNCH_START (R53). -/
  | launchStart (uid : Nat)
  /-- LAUNCH_LATE (R55). -/
  | launchLate (uid : Nat)
  /-- BUNDLE (R67). -/
  | bundle (skein core : Nat)
  /-- BUNDLE_RESUME (R70). -/
  | bundleResume (skein core : Nat)
  /-- TOKEN_WAIT_REGISTER (R90). -/
  | tokenWaitRegister (waiter : Wait)
  /-- TOKEN_SIGNAL_ARRIVE (R90).  The oldest signal in flight to the token arrives. -/
  | tokenSignalArrive (token : Nat)
  /-- TOKEN_ASSIGN (R86). -/
  | tokenAssign (skein index job count target : Nat) (level : Bool)
  /-- TOKEN_RELEASE (R87). -/
  | tokenRelease (skein index : Nat)
  /-- RELEASE_TOKENS (R87). -/
  | releaseTokens (job : Nat)
  /-- MATMUL (R136).  The running MATMUL ends having spent `beats`. -/
  | matmul (uid beats : Nat)
  /-- VEC (R168). -/
  | vec (uid beats : Nat)
  /-- CONV (R199). -/
  | conv (uid beats : Nat)
  /-- POOL (R212). -/
  | pool (uid beats : Nat)
  /-- ATTN (R238). -/
  | attn (uid beats vecBeats : Nat)
  /-- KVAPPEND (R231). -/
  | kvappend (uid beats : Nat)
  /-- KVAPPEND_WAIT_END (R231). -/
  | kvappendWaitEnd (uid : Nat)
  /-- KVAPPEND_TIMEOUT (R231). -/
  | kvappendTimeout (uid : Nat)
  /-- KVAPPEND_COMMIT (R232). -/
  | kvappendCommit (uid : Nat)
  /-- SLOT_FLUSH (R233). -/
  | slotFlush (stream : Nat)
  /-- FLUSH_DEADLINE (R234). -/
  | flushDeadline (uid : Nat)
  /-- DROP_STAGE (R236). -/
  | dropStage (stream : Nat)
  /-- KV_ENABLE_WRITE (R258). -/
  | kvEnableWrite (enable : Bool)
  /-- FREE_TAIL_WRITE (R235). -/
  | freeTailWrite (tail : Nat)
  /-- SOLVE (R272). -/
  | solve (uid beats : Nat)
  /-- DYN (R284). -/
  | dyn (uid beats : Nat)
  /-- MOVE (R81). -/
  | move (uid beats : Nat)
  /-- PROG (R100). -/
  | prog (uid : Nat)
  /-- WAIT (R98). -/
  | wait (uid : Nat)
  /-- WAIT_DEADLINE (R98). -/
  | waitDeadline (uid : Nat)
  /-- SIGNAL (R98). -/
  | signal (uid : Nat)
  /-- FENCE_DESCRIPTOR (R98). -/
  | fenceDescriptor (uid : Nat)
  /-- DIGEST (R508). -/
  | digest (uid beats : Nat)
  /-- COMMAND_COMPLETE (R89). -/
  | commandComplete (uid : Nat)
  /-- ABORT_TOKEN_RESET (R417). -/
  | abortTokenReset
  /-- ABORT_RECOVERY_END (R417). -/
  | abortRecoveryEnd
  /-- LOOM_YIELD (R175). -/
  | loomYield (skein : Nat)
  /-- PLY_YIELD (R288). -/
  | plyYield (hank : Nat)
  /-- REGION_WRITE (R112). -/
  | regionWrite (skein region : Nat) (value : BitVec 64)
  /-- WIN_OPEN (R125). -/
  | winOpen (skein window : Nat)
  /-- WIN_CLOSE (R131). -/
  | winClose (skein window : Nat)
  /-- WIN_DRAINED (R131). -/
  | winDrained (skein window : Nat)
  /-- WIN_ALARM_PERIOD (R129). -/
  | winAlarmPeriod (skein : Nat)
  /-- APERTURE_READ (R134). -/
  | apertureRead (offset size : Nat)
  /-- APERTURE_WRITE (R134). -/
  | apertureWrite (offset size value : Nat)
  /-- LOOP_SAMPLE (R294). -/
  | loopSample (loop : Nat)
  /-- LOOP_CLOSE (R312). -/
  | loopClose (loop : Nat)
  /-- LOOP_OPEN (R314). -/
  | loopOpen (loop : Nat)
  /-- LOOP_RELEASE (R314). -/
  | loopRelease (loop : Nat)
  /-- OPEN_ALL (R327). -/
  | openAll
  /-- ENC_EDGE (R319). -/
  | encEdge (channel : Nat) (edge : EncEdge)
  /-- SSI_FRAME_START (R320). -/
  | ssiFrameStart (channel : Nat)
  /-- SSI_FRAME_END (R320). -/
  | ssiFrameEnd (channel value : Nat) (parity : Bool)
  /-- SSI_TIMEOUT (R320). -/
  | ssiTimeout (channel : Nat)
  /-- SD_OUTPUT (R321). -/
  | sdOutput (channel bits : Nat)
  /-- SD_CLK_LOST (R321). -/
  | sdClkLost (channel : Nat)
  /-- ADC_TRIGGER (R322). -/
  | adcTrigger (channel : Nat)
  /-- ADC_END_OF_CONVERSION (R322). -/
  | adcEndOfConversion (channel code : Nat)
  /-- PWM_COUNTER_ZERO (R323). -/
  | pwmCounterZero (group : Nat)
  /-- PWM_CENTRE_LOAD (R323). -/
  | pwmCentreLoad (group : Nat)
  /-- FRAME_START_PACKET (R334). -/
  | frameStartPacket (stream vc csiFrame : Nat) (corrected : Bool)
  /-- LINE_PACKET (R332). -/
  | linePacket (stream vc dt : Nat) (header : CsiHeader) (checksumOk : Bool) (pixels : List Nat)
  /-- FRAME_END_PACKET (R336). -/
  | frameEndPacket (stream vc : Nat) (corrected : Bool)
  /-- PUBLICATION_DECISION (R336). -/
  | publicationDecision (stream : Nat)
  /-- CAP_ENABLE (R333). -/
  | capEnable (stream : Nat)
  /-- CAP_DISABLE (R337). -/
  | capDisable (stream : Nat)
  /-- DS_ENABLE (R351). -/
  | dsEnable (stream : Nat)
  /-- DS_DISABLE (R356). -/
  | dsDisable (stream : Nat)
  /-- DS_SAMPLE_START (R343). -/
  | dsSampleStart (stream position : Nat)
  /-- DS_SAMPLE_END (R343). -/
  | dsSampleEnd (stream position epoch : Nat)
  /-- DECODE_BUDGET (R344). -/
  | decodeBudget (stream position : Nat)
  /-- BATCH_PUBLISH (R352). -/
  | batchPublish (stream : Nat)
  /-- SQ_DOORBELL (R368). -/
  | sqDoorbell (client sq offset size value : Nat)
  /-- CQ_DOORBELL (R369). -/
  | cqDoorbell (client cq offset size value : Nat)
  /-- DESCRIPTOR_FETCH (R371). -/
  | descriptorFetch (readFails : Bool)
  /-- COMPLETION_RECORD_WRITE (R377). -/
  | completionRecordWrite (client cq : Nat)
  /-- COAL_TIMER (R381). -/
  | coalTimer (client cq : Nat)
  /-- MSIX_UNMASK (R381). -/
  | msixUnmask (client vector : Nat)
  /-- SQ_ENABLE (R386). -/
  | sqEnable (client sq : Nat)
  /-- SQ_DISABLE (R387). -/
  | sqDisable (client sq : Nat)
  /-- CQ_ENABLE (R386). -/
  | cqEnable (client cq : Nat)
  /-- CQ_DISABLE (R387). -/
  | cqDisable (client cq : Nat)
  /-- FUNCTION_LEVEL_RESET (R388). -/
  | functionLevelReset (client : Nat)
  /-- FLR_TIMEOUT (R388). -/
  | flrTimeout (client : Nat)
  /-- TABLE_LOAD (R393). -/
  | tableLoad
  /-- TABLE_ARM (R394). -/
  | tableArm
  /-- CYCLE_BOUNDARY (R394). -/
  | cycleBoundary
  /-- SLOT_OPEN (R397). -/
  | slotOpen (slot : Nat)
  /-- SLOT_CLOSE (R397). -/
  | slotClose (slot : Nat)
  /-- QUIESCE_START (R402). -/
  | quiesceStart (slot : Nat)
  /-- GOLDEN_RUN_END (R525).  The run's digest is equal or not, and it spent `beats` of the loom and `vecBeats` of the vector engine. -/
  | goldenRunEnd (skein : Nat) (equal : Bool) (beats vecBeats : Nat)
  /-- GOLDEN_TIMEOUT (R525). -/
  | goldenTimeout (skein : Nat)
  /-- STEAL (R404). -/
  | steal (uid thief : Nat)
  /-- STEAL_COPY_BACK_END (R406). -/
  | stealCopyBackEnd (uid : Nat)
  /-- DRAIN_END (R415). -/
  | drainEnd
  /-- DRAIN_TIMEOUT (R415). -/
  | drainTimeout
  /-- SLICE_END (R539).  The slice passes or not, the ply engine that slice 15 covers fails or not, and `beats` by engine kind. -/
  | sliceEnd (pass plyFails : Bool) (beats : List Nat)
  /-- ACCOUNTING_INTERVAL (R421). -/
  | accountingInterval
  /-- PORT_ENABLE (R429). -/
  | portEnable (port : Nat)
  /-- PORT_DISABLE (R429). -/
  | portDisable (port : Nat)
  /-- PORT_TRAINED (R429).  The lanes that have locked, whether the FEC has, and the package at the far end. -/
  | portTrained (port lanes : Nat) (fec : Bool) (neighbour : Nat)
  /-- LINK_DOWN (R430). -/
  | linkDown (port : Nat)
  /-- DATA_FLIT (R428).  The bytes of the flit, the symbols that the code corrected in it, and whether an uncorrectable codeword touched it. -/
  | dataFlit (port : Nat) (flit : List (BitVec 8)) (corrected : Nat) (failed : Bool)
  /-- IDLE_FLIT (R426).  The bytes of the flit, the symbols that the code corrected in it, and whether an uncorrectable codeword touched it. -/
  | idleFlit (port : Nat) (flit : List (BitVec 8)) (corrected : Nat) (failed : Bool)
  /-- NAK_FLIT (R428).  The bytes of the flit, the symbols that the code corrected in it, and whether an uncorrectable codeword touched it. -/
  | nakFlit (port : Nat) (flit : List (BitVec 8)) (corrected : Nat) (failed : Bool)
  /-- SYNC_FLIT (R444).  The bytes of the flit, the symbols that the code corrected in it, and whether an uncorrectable codeword touched it. -/
  | syncFlit (port : Nat) (flit : List (BitVec 8)) (corrected : Nat) (failed : Bool)
  /-- REPLAY_TIMEOUT (R428). -/
  | replayTimeout (port : Nat)
  /-- SYNC_SEND (R444). -/
  | syncSend (port : Nat)
  /-- TS_LOST (R445). -/
  | tsLost
  /-- ROW_WRITE (R434).  The transaction at the front of a VC of a port; port 6 stands for the package itself. -/
  | rowWrite (port vc : Nat)
  /-- ROW_READ (R434).  The transaction at the front of a VC of a port; port 6 stands for the package itself. -/
  | rowRead (port vc : Nat)
  /-- TOKEN_SIGNAL (R434).  The transaction at the front of a VC of a port; port 6 stands for the package itself. -/
  | tokenSignal (port vc : Nat)
  /-- BARRIER_ARRIVE (R442).  The transaction at the front of a VC of a port; port 6 stands for the package itself. -/
  | barrierArrive (port vc : Nat)
  /-- BARRIER_RELEASE (R442).  The transaction at the front of a VC of a port; port 6 stands for the package itself. -/
  | barrierRelease (port vc : Nat)
  /-- PARCEL (R449).  The transaction at the front of a VC of a port; port 6 stands for the package itself. -/
  | parcel (port vc : Nat)
  /-- PARCEL_UNBLOCK (R449).  The transaction at the front of a VC of a port; port 6 stands for the package itself. -/
  | parcelUnblock (port vc : Nat)
  /-- ACK (R436).  The transaction at the front of a VC of a port; port 6 stands for the package itself. -/
  | ack (port vc : Nat)
  /-- READ_DATA (R409).  The transaction at the front of a VC of a port; port 6 stands for the package itself. -/
  | readData (port vc : Nat)
  /-- REFUSE (R128).  The transaction at the front of a VC of a port; port 6 stands for the package itself. -/
  | refuse (port vc : Nat)
  /-- PARCEL_ACK (R449).  The transaction at the front of a VC of a port; port 6 stands for the package itself. -/
  | parcelAck (port vc : Nat)
  /-- REMOTE_TIMEOUT (R431).  The request of a transaction ID. -/
  | remoteTimeout (xid : Nat)
  /-- RELAY_SIGNAL (R440).  The oldest signal that a relay token has passed to the hub. -/
  | relaySignal (skein index : Nat)
  /-- ETH_ENABLE (R478).  The value written to ETH_CTRL.EN. -/
  | ethEnable (mac : Nat) (enable : Bool)
  /-- ETH_TX_KICK (R458). -/
  | ethTxKick (mac : Nat)
  /-- ETH_TX_START (R464). -/
  | ethTxStart (mac : Nat)
  /-- ETH_TX_DONE (R458). -/
  | ethTxDone (mac : Nat)
  /-- ETH_TX_LATE (R463). -/
  | ethTxLate (mac : Nat)
  /-- ETH_RX_FRAME (R460).  The bytes of the frame without FCS, whether its FCS is right, and the tick at which the end of its start-of-frame delimiter crossed the receive pins. -/
  | ethRxFrame (mac : Nat) (frame : List (BitVec 8)) (fcsOk : Bool) (sfd : Nat)
  /-- ETH_LINK_CHANGE (R478).  Block lock and link, and the rate code of the PHY's in-band word. -/
  | ethLinkChange (mac : Nat) (up : Bool) (rate : Nat)
  /-- DOM_OFS_WRITE (R471). -/
  | domOfsWrite (set : Nat) (ofs : BitVec 64)
  /-- DOM_RATE_WRITE (R471). -/
  | domRateWrite (set : Nat) (rate : BitVec 32)
  /-- DOMAIN_LOST (R473). -/
  | domainLost (set : Nat)
  /-- TIME_IN_EDGE (R475).  The pin holds its new level for `ticks`. -/
  | timeInEdge (pin : Nat) (rising : Bool) (ticks : Nat)
  /-- TIN_STAMP_HIGH_READ (R476). -/
  | tinStampHighRead (pin : Nat)
  /-- CAN_ENABLE (R487). -/
  | canEnable (ctrl : Nat)
  /-- CAN_DISABLE (R487). -/
  | canDisable (ctrl : Nat)
  /-- CAN_TX_TAIL_WRITE (R484). -/
  | canTxTailWrite (ctrl value : Nat)
  /-- CAN_TX_ACK_WRITE (R484). -/
  | canTxAckWrite (ctrl value : Nat)
  /-- CAN_RX_ACK_WRITE (R483). -/
  | canRxAckWrite (ctrl value : Nat)
  /-- CAN_TX_ATTEMPT (R489). -/
  | canTxAttempt (ctrl : Nat)
  /-- CAN_ARB_LOST (R489). -/
  | canArbLost (ctrl : Nat)
  /-- CAN_TX_DONE (R484). -/
  | canTxDone (ctrl : Nat)
  /-- CAN_TX_LATE (R489). -/
  | canTxLate (ctrl : Nat)
  /-- CAN_RX_FRAME (R483).  The frame, and the tick at which its start-of-frame edge crossed CANn_RXD. -/
  | canRxFrame (ctrl : Nat) (frame : CanFrame) (sof : Nat)
  /-- CAN_PROTOCOL_ERROR (R492).  The error counters that ISO 11898-1 gives after the error. -/
  | canProtocolError (ctrl tec rxc : Nat)
  /-- CAN_BUS_OFF_RECOVERY (R492). -/
  | canBusOffRecovery (ctrl : Nat)
  /-- NDC_CLEAR (R501). -/
  | ndcClear (job : Nat)
  /-- LOCKSTEP_MISMATCH (R515). -/
  | lockstepMismatch
  /-- PAIR_DECISION (R530). -/
  | pairDecision (pair : Nat)
  /-- PAIR_TIMEOUT (R530). -/
  | pairTimeout (pair : Nat)
  /-- PAIR_FRAME_END (R533). -/
  | pairFrameEnd (pair : Nat)
  /-- PAIR_VALID_WRITE (R527).  A write of SELV_PAIRp_CFG. -/
  | pairValidWrite (pair value : Nat)
  /-- ENGINE_HANG (R535).  The command of the hung engine. -/
  | engineHang (uid : Nat)
  /-- DTI_EXCEEDED (R540). -/
  | dtiExceeded (skein : Nat)
  /-- DTI_FAULT (R540). -/
  | dtiFault (skein : Nat)
  /-- REF_HOLD_EXPIRE (R536). -/
  | refHoldExpire
  /-- JNL_READ (R574). -/
  | jnlRead
  /-- JNL_WRITE (R565). -/
  | jnlWrite
  /-- JNL_DELETE (R563). -/
  | jnlDelete
  /-- CTR_INC (R567). -/
  | ctrInc
  /-- UPDATE (R560). -/
  | update
  /-- ACTIVATE (R560). -/
  | activate
  /-- COMMIT_VERSION (R561). -/
  | commitVersion
  /-- ATTEST (R568). -/
  | attest
  /-- DEBUG_CHALLENGE (R573). -/
  | debugChallenge
  /-- DEBUG_UNLOCK (R573). -/
  | debugUnlock
  /-- DEBUG_LOCK (R573). -/
  | debugLock
  /-- SEC_COMMAND_DONE (R574). -/
  | secCommandDone
  /-- COMPACTION_END (R566). -/
  | compactionEnd
  /-- TAMPER_TRIP (R571).  The sensors that trip in one beat. -/
  | tamperTrip (sensors : List Nat)
  /-- ZEROISATION_COMPLETE (R551). -/
  | zeroisationComplete
  /-- VSET_WRITE (R581). -/
  | vsetWrite (mv : Nat)
  /-- RAMP_STEP (R581). -/
  | rampStep
  /-- AVS_TRANSACTION_FAIL (R583). -/
  | avsTransactionFail
  /-- TELEMETRY_SAMPLE (R585).  Voltages in mV, currents in 10 mA, the five sensors in 1/16 °C, and whether a Status read succeeded. -/
  | telemetrySample (coreMv coreCurrent sramMv sramCurrent : Nat) (tj : List Int) (status : Bool)
  /-- POWER_WINDOW (R586). -/
  | powerWindow
  /-- CAN_BUS_INTEGRATED (R487). -/
  | canBusIntegrated (ctrl : Nat)
  /-- DEBUGGER_HALT_STEP (R541).  The main Selvedge core, or a core of a skein. -/
  | debuggerHaltStep (target : Option (Nat × Nat)) (action : DebugAction)
  deriving DecidableEq, Repr

end Sys2Proof
end

