-- ==== Sys2Proof/Machine/Crypto.lean ====
section
/-! DEFINITION. The checks and hashes that the spec takes from published standards: CRC-32 (R425), CRC-64 (R523),
SHA-512, SHA-512/256 (R99) and HMAC-SHA-512 (R565). -/

namespace Sys2Proof.Machine

/-! ## Cyclic redundancy checks -/

/-- One bit of the CRC-64 of R523, most significant bit first. -/
def crc64Bit (c : Dword) : Dword := if c.msb then c <<< 1 ^^^ 0x42F0E1EBA9EA3693#64 else c <<< 1

/-- One byte of the CRC-64. -/
def crc64Byte (c : Dword) (b : Byte) : Dword :=
  let x := c ^^^ (b.setWidth 64 <<< 56)
  crc64Bit (crc64Bit (crc64Bit (crc64Bit (crc64Bit (crc64Bit (crc64Bit (crc64Bit x)))))))

/-- The CRC-64 of bytes: initial value 0, no reflection, no final XOR (R523). -/
def crc64 (bs : List Byte) : Nat := (bs.foldl crc64Byte 0).toNat

/-- One bit of the CRC-32, least significant bit first. -/
def crc32Bit (c : Word) : Word := if c.getLsbD 0 then c >>> 1 ^^^ 0xEDB88320#32 else c >>> 1

/-- One byte of the CRC-32. -/
def crc32Byte (c : Word) (b : Byte) : Word :=
  let x := c ^^^ b.setWidth 32
  crc32Bit (crc32Bit (crc32Bit (crc32Bit (crc32Bit (crc32Bit (crc32Bit (crc32Bit x)))))))

/-- The CRC-32 of IEEE 802.3. -/
def crc32 (bs : List Byte) : Nat := (bs.foldl crc32Byte 0xFFFFFFFF#32 ^^^ 0xFFFFFFFF#32).toNat

/-! ## SHA-512 -/

/-- The round constants of SHA-512. -/
def Sha.roundConstants : List Dword :=
  [0x428A2F98D728AE22, 0x7137449123EF65CD, 0xB5C0FBCFEC4D3B2F, 0xE9B5DBA58189DBBC,
   0x3956C25BF348B538, 0x59F111F1B605D019, 0x923F82A4AF194F9B, 0xAB1C5ED5DA6D8118,
   0xD807AA98A3030242, 0x12835B0145706FBE, 0x243185BE4EE4B28C, 0x550C7DC3D5FFB4E2,
   0x72BE5D74F27B896F, 0x80DEB1FE3B1696B1, 0x9BDC06A725C71235, 0xC19BF174CF692694] ++
  [0xE49B69C19EF14AD2, 0xEFBE4786384F25E3, 0x0FC19DC68B8CD5B5, 0x240CA1CC77AC9C65,
   0x2DE92C6F592B0275, 0x4A7484AA6EA6E483, 0x5CB0A9DCBD41FBD4, 0x76F988DA831153B5,
   0x983E5152EE66DFAB, 0xA831C66D2DB43210, 0xB00327C898FB213F, 0xBF597FC7BEEF0EE4,
   0xC6E00BF33DA88FC2, 0xD5A79147930AA725, 0x06CA6351E003826F, 0x142929670A0E6E70] ++
  [0x27B70A8546D22FFC, 0x2E1B21385C26C926, 0x4D2C6DFC5AC42AED, 0x53380D139D95B3DF,
   0x650A73548BAF63DE, 0x766A0ABB3C77B2A8, 0x81C2C92E47EDAEE6, 0x92722C851482353B,
   0xA2BFE8A14CF10364, 0xA81A664BBC423001, 0xC24B8B70D0F89791, 0xC76C51A30654BE30,
   0xD192E819D6EF5218, 0xD69906245565A910, 0xF40E35855771202A, 0x106AA07032BBD1B8] ++
  [0x19A4C116B8D2D0C8, 0x1E376C085141AB53, 0x2748774CDF8EEB99, 0x34B0BCB5E19B48A8,
   0x391C0CB3C5C95A63, 0x4ED8AA4AE3418ACB, 0x5B9CCA4F7763E373, 0x682E6FF3D6B2B8A3,
   0x748F82EE5DEFB2FC, 0x78A5636F43172F60, 0x84C87814A1F0AB72, 0x8CC702081A6439EC,
   0x90BEFFFA23631E28, 0xA4506CEBDE82BDE9, 0xBEF9A3F7B2C67915, 0xC67178F2E372532B] ++
  [0xCA273ECEEA26619C, 0xD186B8C721C0C207, 0xEADA7DD6CDE0EB1E, 0xF57D4F7FEE6ED178,
   0x06F067AA72176FBA, 0x0A637DC5A2C898A6, 0x113F9804BEF90DAE, 0x1B710B35131C471B,
   0x28DB77F523047D84, 0x32CAAB7B40C72493, 0x3C9EBE0A15C9BEBC, 0x431D67C49C100D4C,
   0x4CC5D4BECB3E42B6, 0x597F299CFC657E2A, 0x5FCB6FAB3AD6FAEC, 0x6C44198C4A475817]

/-- The initial hash value of SHA-512. -/
def Sha.init512 : List Dword :=
  [0x6A09E667F3BCC908, 0xBB67AE8584CAA73B, 0x3C6EF372FE94F82B, 0xA54FF53A5F1D36F1,
   0x510E527FADE682D1, 0x9B05688C2B3E6C1F, 0x1F83D9ABFB41BD6B, 0x5BE0CD19137E2179]

/-- The initial hash value of SHA-512/256. -/
def Sha.init256 : List Dword :=
  [0x22312194FC2BF72C, 0x9F555FA3C84C64C2, 0x2393B86B6F53B151, 0x963877195940EABD,
   0x96283EE2A88EFFE3, 0xBE5E1E2553863992, 0x2B0199FC2C85B8AA, 0x0EB72DDC81C52CA2]

/-- The eight working words. -/
structure Sha where
  a : Dword
  b : Dword
  c : Dword
  d : Dword
  e : Dword
  f : Dword
  g : Dword
  h : Dword
  deriving DecidableEq, Repr

/-- The working words of a hash value. -/
def Sha.ofWords (v : List Dword) : Sha :=
  ⟨v.getD 0 0, v.getD 1 0, v.getD 2 0, v.getD 3 0, v.getD 4 0, v.getD 5 0, v.getD 6 0, v.getD 7 0⟩

/-- One round with its constant and its schedule word. -/
def Sha.round (x : Sha) (k w : Dword) : Sha :=
  let s1 := x.e.rotateRight 14 ^^^ x.e.rotateRight 18 ^^^ x.e.rotateRight 41
  let t1 := x.h + s1 + ((x.e &&& x.f) ^^^ (~~~x.e &&& x.g)) + k + w
  let s0 := x.a.rotateRight 28 ^^^ x.a.rotateRight 34 ^^^ x.a.rotateRight 39
  let t2 := s0 + ((x.a &&& x.b) ^^^ (x.a &&& x.c) ^^^ (x.b &&& x.c))
  ⟨t1 + t2, x.a, x.b, x.c, x.d + t1, x.e, x.f, x.g⟩

/-- The schedule word that follows 16 others. -/
def Sha.nextWord (ws : List Dword) : Dword :=
  let u := ws.getD 1 0
  let v := ws.getD 14 0
  (v.rotateRight 19 ^^^ v.rotateRight 61 ^^^ v >>> 6) + ws.getD 9 0 +
    (u.rotateRight 1 ^^^ u.rotateRight 8 ^^^ u >>> 7) + ws.getD 0 0

/-- The rounds of a block: the constants left and the next 16 schedule words. -/
def Sha.rounds : List Dword → List Dword → Sha → Sha
  | [], _, x => x
  | k :: ks, ws, x => Sha.rounds ks (ws.drop 1 ++ [Sha.nextWord ws]) (x.round k (ws.getD 0 0))

/-- The number that big-endian bytes spell. -/
def beNat (bs : List Byte) : Nat := bs.foldl (fun v b => 256 * v + b.toNat) 0

/-- The n big-endian bytes of a number. -/
def beBytes : Nat → Nat → List Byte
  | 0, _ => []
  | n + 1, v => beBytes n (v / 256) ++ [BitVec.ofNat 8 v]

/-- One block of 128 bytes. -/
def Sha.block (h : List Dword) (bs : List Byte) : List Dword :=
  let ws := (List.range 16).map (fun i => BitVec.ofNat 64 (beNat ((bs.drop (8 * i)).take 8)))
  let x := Sha.rounds Sha.roundConstants ws (Sha.ofWords h)
  [h.getD 0 0 + x.a, h.getD 1 0 + x.b, h.getD 2 0 + x.c, h.getD 3 0 + x.d,
   h.getD 4 0 + x.e, h.getD 5 0 + x.f, h.getD 6 0 + x.g, h.getD 7 0 + x.h]

/-- The blocks of a padded message. -/
def Sha.blocks : Nat → List Byte → List Dword → List Dword
  | 0, _, h => h
  | n + 1, bs, h => Sha.blocks n (bs.drop 128) (Sha.block h (bs.take 128))

/-- The hash of a message from an initial value. -/
def Sha.hash (iv : List Dword) (m : List Byte) : List Byte :=
  let zeros := (240 - (m.length + 1) % 128) % 128
  let padded := m ++ [0x80#8] ++ List.replicate zeros 0#8 ++ beBytes 16 (8 * m.length)
  ((Sha.blocks (padded.length / 128) padded iv).map (fun w => beBytes 8 w.toNat)).flatten

/-- SHA-512. -/
def sha512 (m : List Byte) : List Byte := Sha.hash Sha.init512 m

/-- SHA-512/256. -/
def sha256t (m : List Byte) : List Byte := (Sha.hash Sha.init256 m).take 32

/-- HMAC-SHA-512. -/
def hmac512 (key m : List Byte) : List Byte :=
  let k0 := if 128 < key.length then sha512 key else key
  let k := k0 ++ List.replicate (128 - k0.length) 0#8
  sha512 (k.map (fun b => b ^^^ 0x5C#8) ++ sha512 (k.map (fun b => b ^^^ 0x36#8) ++ m))

end Sys2Proof.Machine
end

