-- ==== Sys2Proof/Config.lean ====
section
/-! DEFINITION. The constants of the part, and the free values: results that the spec leaves open, each
an opaque constant with no body, so that no proof can see what it is. -/

namespace Sys2Proof.Config

/-- Rows of a bobbin (R105). -/
def rows : Nat := 12288
/-- Bytes of a row (R105). -/
def rowBytes : Nat := 512
/-- Ticks of 250 ps in a microsecond. -/
def us : Nat := 4000
/-- Skeins of a package (Table 1.1). -/
def skeins : Nat := 64
/-- Completion places of a client (R372). -/
def places : Nat := 512

/-- vexp of an FP32 value: which of the results within one unit in the last place of the exact value it is (R245). -/
opaque vexp : BitVec 32 → BitVec 32
/-- vrecip of an FP32 value, likewise (R169). -/
opaque vrecip : BitVec 32 → BitVec 32
/-- vrsqrt of an FP32 value, likewise (R169). -/
opaque vrsqrt : BitVec 32 → BitVec 32
/-- The bobbin bytes whose stored parity goes wrong at an instant of reference time: the spec says that such faults
arise and not when (R106). -/
opaque upset : Nat → List Nat
/-- The bobbin rows whose next read meets a fault on the read path, likewise (R106). -/
opaque pathUpset : Nat → List Nat
/-- What the host writes to the SR-IOV capability at an instant of reference time, if it writes it: the number of virtual
functions enabled after it (R360).  The capability's layout is that of PCI Express, and no command carries the write. -/
opaque sriov : Nat → Option (Fin 16)
/-- A byte that the spec calls undefined: the use's number and the byte's place. -/
opaque freeByte : Nat → Nat → BitVec 8
/-- A choice that the spec leaves open: the use's number and the choice's place. -/
opaque freeBit : Nat → Nat → Bool
/-- A 64-bit value that the spec leaves open: the use's number. -/
opaque freeWord : Nat → BitVec 64
/-- The sine and the cosine of an angle in the format FRAC_A, as Q2.30 values: a revolute joint of DYN turns by its angle,
and the spec does not state how the ply engine forms them. -/
opaque plySin : Nat → Int → BitVec 32
opaque plyCos : Nat → Int → BitVec 32
/-- The normalised reciprocal of a zero, which R264 says never arises. -/
opaque plyRecipZero : BitVec 31
/-- Which way a sample of the inverse DCT of a block differs from the nearest integer, by the sample precision, the block's 64
dequantised coefficients and its place in the block: ISO/IEC 10918-1 does not fix the precision of the transform. -/
opaque idct : Nat → List Int → Nat → BitVec 16
/-- Beats that a sample spends, by its bytes and the settings of its stream (R342). -/
opaque sampleBeats : List (BitVec 8) → List Nat → BitVec 32

/-- The row number that a tile digest gives the i-th row of a MOVE to LPDDR: R523 names only bobbin and mailbox
rows. -/
opaque tileRow : Nat → BitVec 16
/-- The digest of a tile that writes stream pages, as a function of the bytes appended. -/
opaque appendDigest : List (BitVec 8) → BitVec 64

/-- The OBJ_ID of the journal records for which R563 names none: record type and sequence number. -/
opaque objId : Nat → Nat → BitVec 32
/-- The ROM root public keys (R557). -/
opaque rootKey : Nat → BitVec 256
/-- The root secret that a PUF read and the helper data give, none where reconstruction fails (R549). -/
opaque pufRoot : List (BitVec 8) → List (BitVec 8) → Option (BitVec 256)

/-- Whether a quadrature count rises when A leads B: R319 does not say. -/
opaque quadUp : Bool

/-- The elements of a SIMD result that Table 3.4 does not state (a shift of floating elements, a VPERM index that names no
element), by the operation with its type and shift, and its operands. -/
opaque simdOpen : List Nat → Nat → Nat → BitVec 1024

/-- The message symbols of a codeword that carries lane alignment markers: R424 does not give them. -/
opaque alignMarker : Nat → BitVec 10

/-- The signed quotient of −2⁶³ by −1, which does not fit 64 bits: Table 3.4 does not state it. -/
opaque quotientOverflow : BitVec 64

end Sys2Proof.Config
end

