-- ==== Sys2Proof/Machine/Sparse.lean ====
section
/-! DEFINITION. Sparse maps: lists of (key, value) pairs with strictly rising keys, in which a key that
is not listed has a default value.  Memory, register fields, tokens and contexts are held this way, so
that equal contents are equal data. -/

namespace Sys2Proof.Machine

/-- The first value listed for a key. -/
def Sparse.find {α : Type} : List (Nat × α) → Nat → Option α
  | [], _ => none
  | (k, v) :: rest, a => if k = a then some v else Sparse.find rest a

/-- The value of a key, `d` where it is not listed. -/
def Sparse.get {α : Type} (d : α) (m : List (Nat × α)) (a : Nat) : α :=
  match Sparse.find m a with
  | some v => v
  | none => d

/-- The pairs whose key lies in [lo, hi). -/
def Sparse.within {α : Type} (m : List (Nat × α)) (lo hi : Nat) : List (Nat × α) :=
  m.filter (fun p => decide (lo ≤ p.1) && decide (p.1 < hi))

/-- The pairs whose key lies below a bound. -/
def Sparse.below {α : Type} (m : List (Nat × α)) (a : Nat) : List (Nat × α) :=
  m.filter (fun p => decide (p.1 < a))

/-- The pairs whose key lies at or above a bound. -/
def Sparse.above {α : Type} (m : List (Nat × α)) (a : Nat) : List (Nat × α) :=
  m.filter (fun p => decide (a ≤ p.1))

/-- Takes a key out of the list. -/
def Sparse.erase {α : Type} (m : List (Nat × α)) (a : Nat) : List (Nat × α) :=
  Sparse.below m a ++ Sparse.above m (a + 1)

/-- Gives a key a value that is not its default. -/
def Sparse.insert {α : Type} (m : List (Nat × α)) (a : Nat) (v : α) : List (Nat × α) :=
  Sparse.below m a ++ (a, v) :: Sparse.above m (a + 1)

/-- Gives a key a value; the default value is not listed. -/
def Sparse.put {α : Type} [DecidableEq α] (d : α) (m : List (Nat × α)) (a : Nat) (v : α) :
    List (Nat × α) :=
  if v = d then Sparse.erase m a else Sparse.insert m a v

/-- The canonical form: keys rise strictly. -/
def Sparse.sorted {α : Type} : List (Nat × α) → Bool
  | [] => true
  | (k, _) :: rest => rest.all (fun p => decide (k < p.1)) && Sparse.sorted rest

end Sys2Proof.Machine
end

