-- ==== Sys2Proof/Machine/Fields.lean ====
section
/-! DEFINITION. The vocabulary of the register maps: access codes (Table 0.1), the values R600 lets a
field take, fields, registers, and the address decoding of BAR0 (R17, Table 0.4). -/

namespace Sys2Proof.Machine

/-- The register access codes of Table 0.1 (R9). -/
inductive Acc where
  | ro | rw | wo | rw1c | rw1s | rc | rwo
  deriving DecidableEq, Repr

/-- The values that a write may give a field (R600). -/
inductive Legal where
  /-- every value the field can hold -/
  | any
  /-- lo to hi -/
  | range (lo hi : Nat)
  /-- lo to hi in steps of k -/
  | step (lo hi k : Nat)
  /-- 0, or lo to hi -/
  | zeroOr (lo hi : Nat)
  /-- the ranges listed, each with both ends -/
  | oneOf (ranges : List (Nat × Nat))
  deriving DecidableEq, Repr

/-- Whether R600 lets a field take the value. -/
def Legal.allows : Legal → Nat → Bool
  | .any, _ => true
  | .range lo hi, v => decide (lo ≤ v) && decide (v ≤ hi)
  | .step lo hi k, v => decide (lo ≤ v) && decide (v ≤ hi) && decide (v % k = 0)
  | .zeroOr lo hi, v => decide (v = 0) || (decide (lo ≤ v) && decide (v ≤ hi))
  | .oneOf rs, v => rs.any (fun r => decide (r.1 ≤ v) && decide (v ≤ r.2))

/-- The unit whose OPEN or CONFIG condition gates the RWO fields of a register (R9, R14). -/
inductive CfgUnit where
  | none | job | sq | cq | proto | skeinShare | region | window | kvPool | context | plyShare
  | plyRange | loop | enc | ssi | sd | adc | pwm | cap | ds | notRun | dispatcher | inbox | port
  | links | ethSlot | eth | canSlot | can | pair
  deriving DecidableEq, Repr

/-- One field of a register map. -/
structure Field where
  /-- storage code, unique to the field -/
  code : Nat
  /-- lowest bit within its register -/
  lo : Nat
  /-- width in bits -/
  width : Nat
  /-- access code -/
  acc : Acc
  /-- value on leaving RESET (R15) -/
  reset : Nat
  /-- values a write may give it (R600) -/
  legal : Legal
  deriving DecidableEq, Repr

/-- One register of BAR0, or one indexed group of equal registers. -/
structure Reg where
  name : String
  /-- BAR0 address of the first one -/
  base : Nat
  /-- index ranges and strides, outermost first -/
  dims : List (Nat × Nat)
  /-- 64 bits wide, low half first (R7) -/
  wide : Bool
  /-- what gates its RWO fields -/
  unit : CfgUnit
  fields : List Field
  deriving DecidableEq, Repr

/-- Joins an outer and an inner register index into one. -/
def ix (a b : Nat) : Nat := a * 256 + b

/-- Joins three register indices into one. -/
def ix3 (a b c : Nat) : Nat := (a * 256 + b) * 256 + c

/-- The key under which State holds a field of the i-th register of a group. -/
def Field.key (f : Field) (i : Nat) : Nat := f.code * 0x100000000 + i

/-- Peels the index ranges off an offset: the joined index and what is left of the offset. -/
def Reg.peel : List (Nat × Nat) → Nat → Nat → Option (Nat × Nat)
  | [], off, i => some (i, off)
  | (n, stride) :: rest, off, i =>
    if off / stride < n then Reg.peel rest (off % stride) (i * 256 + off / stride) else none

/-- Where an address lies in a register: its joined index, and whether it is the high half. -/
def Reg.locate (r : Reg) (addr : Nat) : Option (Nat × Bool) :=
  if addr < r.base then none else
  match Reg.peel r.dims (addr - r.base) 0 with
  | some (i, 0) => some (i, false)
  | some (i, 4) => if r.wide then some (i, true) else none
  | _ => none

/-- The first register of a list that holds the address. -/
def Reg.lookup : List Reg → Nat → Option (Reg × Nat × Bool)
  | [], _ => none
  | r :: rest, addr =>
    match r.locate addr with
    | some (i, high) => some (r, i, high)
    | none => Reg.lookup rest addr

/-- The outermost of two joined indices. -/
def ixOuter (i : Nat) : Nat := i / 256
/-- The innermost of joined indices. -/
def ixInner (i : Nat) : Nat := i % 256

/-- `width` bits of `v` from bit `lo`. -/
def bitsOf (v lo width : Nat) : Nat := (v / 2 ^ lo) % 2 ^ width

end Sys2Proof.Machine
end

