-- ==== Sys2Proof/Machine/RegsFlyer.lean ====
section
/-! DEFINITION. The register map of the FLYER and CARD blocks (Tables 10.8 to 10.13, 11.8 to 11.10).

A field `Fld.REGISTER_FIELD` is one field row of the spec's register tables: its storage code, its
lowest bit, its width, its access code of Table 0.1, its reset value (0 where the table says `boot`:
BOOT loads it) and the values R600 lets a write give it.  A register `Reg.NAME` is its name, BAR0
address, index strides, whether it is 64 bits wide, the unit whose CONFIG gates its RWO fields, and
its fields. -/

namespace Sys2Proof.Machine

/-! FLYER_LOOP_CMD (R327, 10_flyer_loop_engines.md) -/
def Fld.FLYER_LOOP_CMD_REQ : Field := ⟨321, 0, 4, .wo, 0, .any⟩
def Reg.FLYER_LOOP_CMD : Reg :=
  ⟨"FLYER_LOOP_CMD", 0x408000, [(32, 0x400)], false, .loop,
   [Fld.FLYER_LOOP_CMD_REQ]⟩

/-! FLYER_LOOP_STATE (R327, 10_flyer_loop_engines.md) -/
def Fld.FLYER_LOOP_STATE_LAST_STATUS : Field := ⟨322, 16, 16, .ro, 0, .any⟩
def Fld.FLYER_LOOP_STATE_CLOSE_REASON : Field := ⟨323, 12, 4, .ro, 0, .any⟩
def Fld.FLYER_LOOP_STATE_SAFE_CAUSE : Field := ⟨324, 10, 2, .ro, 0, .any⟩
def Fld.FLYER_LOOP_STATE_SELECTED : Field := ⟨325, 4, 2, .ro, 0, .any⟩
def Fld.FLYER_LOOP_STATE_STATE : Field := ⟨326, 0, 2, .ro, 0, .any⟩
def Reg.FLYER_LOOP_STATE : Reg :=
  ⟨"FLYER_LOOP_STATE", 0x408004, [(32, 0x400)], false, .loop,
   [Fld.FLYER_LOOP_STATE_LAST_STATUS, Fld.FLYER_LOOP_STATE_CLOSE_REASON, Fld.FLYER_LOOP_STATE_SAFE_CAUSE, Fld.FLYER_LOOP_STATE_SELECTED, Fld.FLYER_LOOP_STATE_STATE]⟩

/-! FLYER_LOOP_CFG (R327, 10_flyer_loop_engines.md) -/
def Fld.FLYER_LOOP_CFG_TRIG_MODE : Field := ⟨327, 31, 1, .rwo, 0, .any⟩
def Fld.FLYER_LOOP_CFG_TRIG_ADC : Field := ⟨328, 27, 4, .rwo, 0, .any⟩
def Fld.FLYER_LOOP_CFG_CASCADE : Field := ⟨329, 26, 1, .rwo, 0, .any⟩
def Fld.FLYER_LOOP_CFG_SELECT : Field := ⟨330, 25, 1, .rwo, 0, .any⟩
def Fld.FLYER_LOOP_CFG_SP_SRC : Field := ⟨331, 22, 3, .rwo, 0, .range 0 4⟩
def Fld.FLYER_LOOP_CFG_SP_CH : Field := ⟨332, 17, 5, .rwo, 0, .range 0 15⟩
def Fld.FLYER_LOOP_CFG_FAULT_ACTION : Field := ⟨333, 16, 1, .rwo, 1, .any⟩
def Fld.FLYER_LOOP_CFG_POS_SHIFT : Field := ⟨334, 11, 5, .rwo, 0, .any⟩
def Fld.FLYER_LOOP_CFG_FF_SHIFT : Field := ⟨335, 6, 5, .rwo, 0, .any⟩
def Reg.FLYER_LOOP_CFG : Reg :=
  ⟨"FLYER_LOOP_CFG", 0x408008, [(32, 0x400)], false, .loop,
   [Fld.FLYER_LOOP_CFG_TRIG_MODE, Fld.FLYER_LOOP_CFG_TRIG_ADC, Fld.FLYER_LOOP_CFG_CASCADE, Fld.FLYER_LOOP_CFG_SELECT, Fld.FLYER_LOOP_CFG_SP_SRC, Fld.FLYER_LOOP_CFG_SP_CH, Fld.FLYER_LOOP_CFG_FAULT_ACTION, Fld.FLYER_LOOP_CFG_POS_SHIFT, Fld.FLYER_LOOP_CFG_FF_SHIFT]⟩

/-! FLYER_LOOP_OUT (R327, 10_flyer_loop_engines.md) -/
def Fld.FLYER_LOOP_OUT_GROUP : Field := ⟨336, 5, 3, .rwo, 0, .any⟩
def Fld.FLYER_LOOP_OUT_PHASE : Field := ⟨337, 3, 2, .rwo, 0, .range 0 2⟩
def Fld.FLYER_LOOP_OUT_OUT_KIND : Field := ⟨338, 1, 2, .rwo, 0, .range 0 2⟩
def Reg.FLYER_LOOP_OUT : Reg :=
  ⟨"FLYER_LOOP_OUT", 0x40800C, [(32, 0x400)], false, .loop,
   [Fld.FLYER_LOOP_OUT_GROUP, Fld.FLYER_LOOP_OUT_PHASE, Fld.FLYER_LOOP_OUT_OUT_KIND]⟩

/-! FLYER_LOOP_ANGLE_SCALE (R327, 10_flyer_loop_engines.md) -/
def Fld.FLYER_LOOP_ANGLE_SCALE_SCALE : Field := ⟨339, 0, 32, .rwo, 0, .any⟩
def Reg.FLYER_LOOP_ANGLE_SCALE : Reg :=
  ⟨"FLYER_LOOP_ANGLE_SCALE", 0x408010, [(32, 0x400)], false, .loop,
   [Fld.FLYER_LOOP_ANGLE_SCALE_SCALE]⟩

/-! FLYER_LOOP_ANGLE (R327, 10_flyer_loop_engines.md) -/
def Fld.FLYER_LOOP_ANGLE_ANGLE_OFS : Field := ⟨340, 16, 16, .rwo, 0, .any⟩
def Fld.FLYER_LOOP_ANGLE_ANGLE_SRC : Field := ⟨341, 0, 7, .rwo, 0, .oneOf [(0x00, 0x0F), (0x30, 0x37)]⟩
def Reg.FLYER_LOOP_ANGLE : Reg :=
  ⟨"FLYER_LOOP_ANGLE", 0x408014, [(32, 0x400)], false, .loop,
   [Fld.FLYER_LOOP_ANGLE_ANGLE_OFS, Fld.FLYER_LOOP_ANGLE_ANGLE_SRC]⟩

/-! FLYER_LOOP_GEAR (R327, 10_flyer_loop_engines.md) -/
def Fld.FLYER_LOOP_GEAR_GEAR : Field := ⟨342, 0, 32, .rwo, 65536, .any⟩
def Reg.FLYER_LOOP_GEAR : Reg :=
  ⟨"FLYER_LOOP_GEAR", 0x408018, [(32, 0x400)], false, .loop,
   [Fld.FLYER_LOOP_GEAR_GEAR]⟩

/-! FLYER_LOOP_TRIG_PERIOD (R327, 10_flyer_loop_engines.md) -/
def Fld.FLYER_LOOP_TRIG_PERIOD_TICKS : Field := ⟨343, 0, 32, .rwo, 40000, .range 0 4000000000⟩
def Reg.FLYER_LOOP_TRIG_PERIOD : Reg :=
  ⟨"FLYER_LOOP_TRIG_PERIOD", 0x408020, [(32, 0x400)], false, .loop,
   [Fld.FLYER_LOOP_TRIG_PERIOD_TICKS]⟩

/-! FLYER_LOOP_TRIG_PHASE (R327, 10_flyer_loop_engines.md) -/
def Fld.FLYER_LOOP_TRIG_PHASE_TICKS : Field := ⟨344, 0, 32, .rwo, 0, .any⟩
def Reg.FLYER_LOOP_TRIG_PHASE : Reg :=
  ⟨"FLYER_LOOP_TRIG_PHASE", 0x408024, [(32, 0x400)], false, .loop,
   [Fld.FLYER_LOOP_TRIG_PHASE_TICKS]⟩

/-! FLYER_LOOP_CLOSE_AT (R327, 10_flyer_loop_engines.md) -/
def Fld.FLYER_LOOP_CLOSE_AT_TIME : Field := ⟨345, 0, 64, .rwo, 0, .any⟩
def Reg.FLYER_LOOP_CLOSE_AT : Reg :=
  ⟨"FLYER_LOOP_CLOSE_AT", 0x408028, [(32, 0x400)], true, .loop,
   [Fld.FLYER_LOOP_CLOSE_AT_TIME]⟩

/-! FLYER_LOOP_TX (R327, 10_flyer_loop_engines.md) -/
def Fld.FLYER_LOOP_TX_EN : Field := ⟨346, 31, 1, .rwo, 0, .any⟩
def Fld.FLYER_LOOP_TX_TARGET : Field := ⟨347, 24, 4, .rwo, 0, .range 0 11⟩
def Fld.FLYER_LOOP_TX_SLOT : Field := ⟨348, 22, 2, .rwo, 0, .any⟩
def Fld.FLYER_LOOP_TX_BYTE : Field := ⟨349, 16, 6, .rwo, 0, .range 0 62⟩
def Fld.FLYER_LOOP_TX_WIDTH : Field := ⟨350, 15, 1, .rwo, 0, .any⟩
def Fld.FLYER_LOOP_TX_DIV_M1 : Field := ⟨351, 8, 7, .rwo, 0, .any⟩
def Reg.FLYER_LOOP_TX : Reg :=
  ⟨"FLYER_LOOP_TX", 0x408030, [(32, 0x400)], false, .loop,
   [Fld.FLYER_LOOP_TX_EN, Fld.FLYER_LOOP_TX_TARGET, Fld.FLYER_LOOP_TX_SLOT, Fld.FLYER_LOOP_TX_BYTE, Fld.FLYER_LOOP_TX_WIDTH, Fld.FLYER_LOOP_TX_DIV_M1]⟩

/-! FLYER_LOOP_TX_DELAY (R327, 10_flyer_loop_engines.md) -/
def Fld.FLYER_LOOP_TX_DELAY_TICKS : Field := ⟨352, 0, 32, .rwo, 0, .any⟩
def Reg.FLYER_LOOP_TX_DELAY : Reg :=
  ⟨"FLYER_LOOP_TX_DELAY", 0x408034, [(32, 0x400)], false, .loop,
   [Fld.FLYER_LOOP_TX_DELAY_TICKS]⟩

/-! FLYER_LOOP_EVT (R327, 10_flyer_loop_engines.md) -/
def Fld.FLYER_LOOP_EVT_SAFE_ENTRY : Field := ⟨353, 11, 1, .rw1c, 0, .any⟩
def Fld.FLYER_LOOP_EVT_TX_BUSY : Field := ⟨354, 10, 1, .rw1c, 0, .any⟩
def Fld.FLYER_LOOP_EVT_PROFILE_CLAMP : Field := ⟨355, 9, 1, .rw1c, 0, .any⟩
def Fld.FLYER_LOOP_EVT_ARITH_SAT : Field := ⟨356, 8, 1, .rw1c, 0, .any⟩
def Fld.FLYER_LOOP_EVT_INPUT_FAULT : Field := ⟨357, 7, 1, .rw1c, 0, .any⟩
def Fld.FLYER_LOOP_EVT_TRIG_DROP : Field := ⟨358, 6, 1, .rw1c, 0, .any⟩
def Fld.FLYER_LOOP_EVT_MBX_WITHHELD : Field := ⟨359, 5, 1, .rw1c, 0, .any⟩
def Fld.FLYER_LOOP_EVT_MBX_REPLACED : Field := ⟨360, 4, 1, .rw1c, 0, .any⟩
def Fld.FLYER_LOOP_EVT_MBX_BAD : Field := ⟨361, 3, 1, .rw1c, 0, .any⟩
def Fld.FLYER_LOOP_EVT_COEF_LOCKED : Field := ⟨362, 2, 1, .rw1c, 0, .any⟩
def Fld.FLYER_LOOP_EVT_REQ_REFUSED : Field := ⟨363, 1, 1, .rw1c, 0, .any⟩
def Fld.FLYER_LOOP_EVT_CLOSE_FAIL : Field := ⟨364, 0, 1, .rw1c, 0, .any⟩
def Reg.FLYER_LOOP_EVT : Reg :=
  ⟨"FLYER_LOOP_EVT", 0x408040, [(32, 0x400)], false, .loop,
   [Fld.FLYER_LOOP_EVT_SAFE_ENTRY, Fld.FLYER_LOOP_EVT_TX_BUSY, Fld.FLYER_LOOP_EVT_PROFILE_CLAMP, Fld.FLYER_LOOP_EVT_ARITH_SAT, Fld.FLYER_LOOP_EVT_INPUT_FAULT, Fld.FLYER_LOOP_EVT_TRIG_DROP, Fld.FLYER_LOOP_EVT_MBX_WITHHELD, Fld.FLYER_LOOP_EVT_MBX_REPLACED, Fld.FLYER_LOOP_EVT_MBX_BAD, Fld.FLYER_LOOP_EVT_COEF_LOCKED, Fld.FLYER_LOOP_EVT_REQ_REFUSED, Fld.FLYER_LOOP_EVT_CLOSE_FAIL]⟩

/-! FLYER_LOOP_EVT_CNT (R327, 10_flyer_loop_engines.md) -/
def Fld.FLYER_LOOP_EVT_CNT_COUNT : Field := ⟨365, 0, 32, .rc, 0, .any⟩
def Reg.FLYER_LOOP_EVT_CNT : Reg :=
  ⟨"FLYER_LOOP_EVT_CNT", 0x408044, [(32, 0x400), (12, 0x4)], false, .loop,
   [Fld.FLYER_LOOP_EVT_CNT_COUNT]⟩

/-! FLYER_LOOP_MBX_SEQ (R327, 10_flyer_loop_engines.md) -/
def Fld.FLYER_LOOP_MBX_SEQ_SEQ : Field := ⟨366, 0, 32, .ro, 0, .any⟩
def Reg.FLYER_LOOP_MBX_SEQ : Reg :=
  ⟨"FLYER_LOOP_MBX_SEQ", 0x408078, [(32, 0x400)], false, .loop,
   [Fld.FLYER_LOOP_MBX_SEQ_SEQ]⟩

/-! FLYER_LOOP_MBX_STATE (R327, 10_flyer_loop_engines.md) -/
def Fld.FLYER_LOOP_MBX_STATE_SEGMENT : Field := ⟨367, 16, 3, .ro, 0, .any⟩
def Fld.FLYER_LOOP_MBX_STATE_QUEUE : Field := ⟨368, 8, 4, .ro, 0, .any⟩
def Fld.FLYER_LOOP_MBX_STATE_STAGED : Field := ⟨369, 0, 2, .ro, 0, .any⟩
def Reg.FLYER_LOOP_MBX_STATE : Reg :=
  ⟨"FLYER_LOOP_MBX_STATE", 0x40807C, [(32, 0x400)], false, .loop,
   [Fld.FLYER_LOOP_MBX_STATE_SEGMENT, Fld.FLYER_LOOP_MBX_STATE_QUEUE, Fld.FLYER_LOOP_MBX_STATE_STAGED]⟩

/-! FLYER_LOOP_SP (R327, 10_flyer_loop_engines.md) -/
def Fld.FLYER_LOOP_SP_SP : Field := ⟨370, 0, 64, .ro, 0, .any⟩
def Reg.FLYER_LOOP_SP : Reg :=
  ⟨"FLYER_LOOP_SP", 0x408080, [(32, 0x400)], true, .loop,
   [Fld.FLYER_LOOP_SP_SP]⟩

/-! FLYER_LOOP_U (R327, 10_flyer_loop_engines.md) -/
def Fld.FLYER_LOOP_U_U : Field := ⟨371, 0, 32, .ro, 0, .any⟩
def Reg.FLYER_LOOP_U : Reg :=
  ⟨"FLYER_LOOP_U", 0x408088, [(32, 0x400)], false, .loop,
   [Fld.FLYER_LOOP_U_U]⟩

/-! FLYER_LOOP_VMAX (R327, 10_flyer_loop_engines.md) -/
def Fld.FLYER_LOOP_VMAX_VMAX : Field := ⟨372, 0, 64, .rwo, 0, .any⟩
def Reg.FLYER_LOOP_VMAX : Reg :=
  ⟨"FLYER_LOOP_VMAX", 0x408090, [(32, 0x400)], true, .loop,
   [Fld.FLYER_LOOP_VMAX_VMAX]⟩

/-! FLYER_LOOP_AMAX (R327, 10_flyer_loop_engines.md) -/
def Fld.FLYER_LOOP_AMAX_AMAX : Field := ⟨373, 0, 64, .rwo, 0, .any⟩
def Reg.FLYER_LOOP_AMAX : Reg :=
  ⟨"FLYER_LOOP_AMAX", 0x408098, [(32, 0x400)], true, .loop,
   [Fld.FLYER_LOOP_AMAX_AMAX]⟩

/-! FLYER_LOOP_SAMPLES (R327, 10_flyer_loop_engines.md) -/
def Fld.FLYER_LOOP_SAMPLES_COUNT : Field := ⟨374, 0, 64, .ro, 0, .any⟩
def Reg.FLYER_LOOP_SAMPLES : Reg :=
  ⟨"FLYER_LOOP_SAMPLES", 0x4080A0, [(32, 0x400)], true, .loop,
   [Fld.FLYER_LOOP_SAMPLES_COUNT]⟩

/-! CARD_CAP_CTRL (R358, 11_carding_input_pipeline.md) -/
def Fld.CARD_CAP_CTRL_EN : Field := ⟨375, 31, 1, .rw, 0, .any⟩
def Fld.CARD_CAP_CTRL_PHY : Field := ⟨376, 8, 1, .rwo, 0, .any⟩
def Fld.CARD_CAP_CTRL_LANES : Field := ⟨377, 0, 2, .rwo, 2, .any⟩
def Reg.CARD_CAP_CTRL : Reg :=
  ⟨"CARD_CAP_CTRL", 0x501000, [(16, 0x80)], false, .cap,
   [Fld.CARD_CAP_CTRL_EN, Fld.CARD_CAP_CTRL_PHY, Fld.CARD_CAP_CTRL_LANES]⟩

/-! CARD_CAP_FMT (R358, 11_carding_input_pipeline.md) -/
def Fld.CARD_CAP_FMT_VC : Field := ⟨378, 16, 4, .rwo, 0, .any⟩
def Fld.CARD_CAP_FMT_DT : Field := ⟨379, 0, 6, .rwo, 43, .any⟩
def Reg.CARD_CAP_FMT : Reg :=
  ⟨"CARD_CAP_FMT", 0x501004, [(16, 0x80)], false, .cap,
   [Fld.CARD_CAP_FMT_VC, Fld.CARD_CAP_FMT_DT]⟩

/-! CARD_CAP_TOKENS (R358, 11_carding_input_pipeline.md) -/
def Fld.CARD_CAP_TOKENS_FULL : Field := ⟨380, 16, 16, .rwo, 0, .any⟩
def Fld.CARD_CAP_TOKENS_FREE : Field := ⟨381, 0, 16, .rwo, 0, .any⟩
def Reg.CARD_CAP_TOKENS : Reg :=
  ⟨"CARD_CAP_TOKENS", 0x501008, [(16, 0x80)], false, .cap,
   [Fld.CARD_CAP_TOKENS_FULL, Fld.CARD_CAP_TOKENS_FREE]⟩

/-! CARD_CAP_NBUF (R358, 11_carding_input_pipeline.md) -/
def Fld.CARD_CAP_NBUF_JOB : Field := ⟨382, 8, 8, .rwo, 0, .any⟩
def Fld.CARD_CAP_NBUF_NBUF : Field := ⟨383, 0, 6, .rwo, 2, .range 1 32⟩
def Reg.CARD_CAP_NBUF : Reg :=
  ⟨"CARD_CAP_NBUF", 0x50100C, [(16, 0x80)], false, .cap,
   [Fld.CARD_CAP_NBUF_JOB, Fld.CARD_CAP_NBUF_NBUF]⟩

/-! CARD_CAP_BUF_BASE (R358, 11_carding_input_pipeline.md) -/
def Fld.CARD_CAP_BUF_BASE_BASE : Field := ⟨384, 9, 55, .rwo, 0, .any⟩
def Reg.CARD_CAP_BUF_BASE : Reg :=
  ⟨"CARD_CAP_BUF_BASE", 0x501010, [(16, 0x80)], true, .cap,
   [Fld.CARD_CAP_BUF_BASE_BASE]⟩

/-! CARD_CAP_BUF_STRIDE (R358, 11_carding_input_pipeline.md) -/
def Fld.CARD_CAP_BUF_STRIDE_BYTES : Field := ⟨385, 0, 32, .rwo, 0, .step 0 4294967295 512⟩
def Reg.CARD_CAP_BUF_STRIDE : Reg :=
  ⟨"CARD_CAP_BUF_STRIDE", 0x501018, [(16, 0x80)], false, .cap,
   [Fld.CARD_CAP_BUF_STRIDE_BYTES]⟩

/-! CARD_CAP_AGE_MAX (R358, 11_carding_input_pipeline.md) -/
def Fld.CARD_CAP_AGE_MAX_TICKS : Field := ⟨386, 0, 32, .rwo, 0, .any⟩
def Reg.CARD_CAP_AGE_MAX : Reg :=
  ⟨"CARD_CAP_AGE_MAX", 0x50101C, [(16, 0x80)], false, .cap,
   [Fld.CARD_CAP_AGE_MAX_TICKS]⟩

/-! CARD_CAP_STATUS (R358, 11_carding_input_pipeline.md) -/
def Fld.CARD_CAP_STATUS_POOL : Field := ⟨387, 16, 6, .ro, 0, .any⟩
def Fld.CARD_CAP_STATUS_IN_FRAME : Field := ⟨388, 8, 1, .ro, 0, .any⟩
def Fld.CARD_CAP_STATUS_LEVEL : Field := ⟨389, 0, 6, .ro, 0, .any⟩
def Reg.CARD_CAP_STATUS : Reg :=
  ⟨"CARD_CAP_STATUS", 0x501020, [(16, 0x80)], false, .cap,
   [Fld.CARD_CAP_STATUS_POOL, Fld.CARD_CAP_STATUS_IN_FRAME, Fld.CARD_CAP_STATUS_LEVEL]⟩

/-! CARD_CAP_SEQ (R358, 11_carding_input_pipeline.md) -/
def Fld.CARD_CAP_SEQ_SEQ : Field := ⟨390, 0, 32, .ro, 0, .any⟩
def Reg.CARD_CAP_SEQ : Reg :=
  ⟨"CARD_CAP_SEQ", 0x501024, [(16, 0x80)], false, .cap,
   [Fld.CARD_CAP_SEQ_SEQ]⟩

/-! CARD_CAP_LAST_START (R358, 11_carding_input_pipeline.md) -/
def Fld.CARD_CAP_LAST_START_TIME : Field := ⟨391, 0, 64, .ro, 0, .any⟩
def Reg.CARD_CAP_LAST_START : Reg :=
  ⟨"CARD_CAP_LAST_START", 0x501028, [(16, 0x80)], true, .cap,
   [Fld.CARD_CAP_LAST_START_TIME]⟩

/-! CARD_CAP_EVT (R358, 11_carding_input_pipeline.md) -/
def Fld.CARD_CAP_EVT_PKT_DISCARDED : Field := ⟨392, 5, 1, .rw1c, 0, .any⟩
def Fld.CARD_CAP_EVT_HDR_CORRECTED : Field := ⟨393, 4, 1, .rw1c, 0, .any⟩
def Fld.CARD_CAP_EVT_CFG_REFUSED : Field := ⟨394, 3, 1, .rw1c, 0, .any⟩
def Fld.CARD_CAP_EVT_CORRUPT : Field := ⟨395, 2, 1, .rw1c, 0, .any⟩
def Fld.CARD_CAP_EVT_NO_BUFFER : Field := ⟨396, 1, 1, .rw1c, 0, .any⟩
def Fld.CARD_CAP_EVT_STALE : Field := ⟨397, 0, 1, .rw1c, 0, .any⟩
def Reg.CARD_CAP_EVT : Reg :=
  ⟨"CARD_CAP_EVT", 0x501030, [(16, 0x80)], false, .cap,
   [Fld.CARD_CAP_EVT_PKT_DISCARDED, Fld.CARD_CAP_EVT_HDR_CORRECTED, Fld.CARD_CAP_EVT_CFG_REFUSED, Fld.CARD_CAP_EVT_CORRUPT, Fld.CARD_CAP_EVT_NO_BUFFER, Fld.CARD_CAP_EVT_STALE]⟩

/-! CARD_CAP_EVT_CNT (R358, 11_carding_input_pipeline.md) -/
def Fld.CARD_CAP_EVT_CNT_COUNT : Field := ⟨398, 0, 32, .rc, 0, .any⟩
def Reg.CARD_CAP_EVT_CNT : Reg :=
  ⟨"CARD_CAP_EVT_CNT", 0x501034, [(16, 0x80), (6, 0x4)], false, .cap,
   [Fld.CARD_CAP_EVT_CNT_COUNT]⟩

/-! CARD_DS_CTRL (R358, 11_carding_input_pipeline.md) -/
def Fld.CARD_DS_CTRL_EN : Field := ⟨399, 31, 1, .rw, 0, .any⟩
def Fld.CARD_DS_CTRL_PATH : Field := ⟨400, 30, 1, .rwo, 0, .any⟩
def Fld.CARD_DS_CTRL_SHUFFLE : Field := ⟨401, 29, 1, .rwo, 0, .any⟩
def Fld.CARD_DS_CTRL_AUG : Field := ⟨402, 28, 1, .rwo, 0, .any⟩
def Fld.CARD_DS_CTRL_EPOCH_AUG : Field := ⟨403, 27, 1, .rwo, 1, .any⟩
def Fld.CARD_DS_CTRL_ELEM16 : Field := ⟨404, 26, 1, .rwo, 0, .any⟩
def Fld.CARD_DS_CTRL_RGB : Field := ⟨405, 25, 1, .rwo, 0, .any⟩
def Fld.CARD_DS_CTRL_PACK : Field := ⟨406, 24, 1, .rwo, 0, .any⟩
def Fld.CARD_DS_CTRL_OUT_C : Field := ⟨407, 22, 2, .rwo, 3, .oneOf [(1, 1), (3, 3)]⟩
def Fld.CARD_DS_CTRL_LEVELS : Field := ⟨408, 19, 3, .rwo, 1, .range 1 6⟩
def Fld.CARD_DS_CTRL_LOG_LOG2 : Field := ⟨409, 15, 4, .rwo, 8, .range 4 15⟩
def Fld.CARD_DS_CTRL_JOB : Field := ⟨410, 0, 8, .rwo, 0, .any⟩
def Reg.CARD_DS_CTRL : Reg :=
  ⟨"CARD_DS_CTRL", 0x502000, [(4, 0x100)], false, .ds,
   [Fld.CARD_DS_CTRL_EN, Fld.CARD_DS_CTRL_PATH, Fld.CARD_DS_CTRL_SHUFFLE, Fld.CARD_DS_CTRL_AUG, Fld.CARD_DS_CTRL_EPOCH_AUG, Fld.CARD_DS_CTRL_ELEM16, Fld.CARD_DS_CTRL_RGB, Fld.CARD_DS_CTRL_PACK, Fld.CARD_DS_CTRL_OUT_C, Fld.CARD_DS_CTRL_LEVELS, Fld.CARD_DS_CTRL_LOG_LOG2, Fld.CARD_DS_CTRL_JOB]⟩

/-! CARD_DS_OUT (R358, 11_carding_input_pipeline.md) -/
def Fld.CARD_DS_OUT_OUT_W : Field := ⟨411, 16, 14, .rwo, 224, .range 1 8192⟩
def Fld.CARD_DS_OUT_OUT_H : Field := ⟨412, 0, 14, .rwo, 224, .range 1 8192⟩
def Reg.CARD_DS_OUT : Reg :=
  ⟨"CARD_DS_OUT", 0x502004, [(4, 0x100)], false, .ds,
   [Fld.CARD_DS_OUT_OUT_W, Fld.CARD_DS_OUT_OUT_H]⟩

/-! CARD_DS_AUG (R358, 11_carding_input_pipeline.md) -/
def Fld.CARD_DS_AUG_SMIN_W : Field := ⟨413, 16, 16, .rwo, 32768, .any⟩
def Fld.CARD_DS_AUG_SMIN_H : Field := ⟨414, 0, 16, .rwo, 32768, .any⟩
def Reg.CARD_DS_AUG : Reg :=
  ⟨"CARD_DS_AUG", 0x502008, [(4, 0x100)], false, .ds,
   [Fld.CARD_DS_AUG_SMIN_W, Fld.CARD_DS_AUG_SMIN_H]⟩

/-! CARD_DS_LIMITS (R358, 11_carding_input_pipeline.md) -/
def Fld.CARD_DS_LIMITS_RATIO_MAX : Field := ⟨415, 16, 16, .rwo, 128, .range 1 65535⟩
def Fld.CARD_DS_LIMITS_MAX_DIM : Field := ⟨416, 0, 14, .rwo, 8192, .range 1 16383⟩
def Reg.CARD_DS_LIMITS : Reg :=
  ⟨"CARD_DS_LIMITS", 0x50200C, [(4, 0x100)], false, .ds,
   [Fld.CARD_DS_LIMITS_RATIO_MAX, Fld.CARD_DS_LIMITS_MAX_DIM]⟩

/-! CARD_DS_TABLE_BASE (R358, 11_carding_input_pipeline.md) -/
def Fld.CARD_DS_TABLE_BASE_BASE : Field := ⟨417, 4, 60, .rwo, 0, .any⟩
def Reg.CARD_DS_TABLE_BASE : Reg :=
  ⟨"CARD_DS_TABLE_BASE", 0x502010, [(4, 0x100)], true, .ds,
   [Fld.CARD_DS_TABLE_BASE_BASE]⟩

/-! CARD_DS_N (R358, 11_carding_input_pipeline.md) -/
def Fld.CARD_DS_N_N : Field := ⟨418, 0, 32, .rwo, 0, .range 1 2147483648⟩
def Reg.CARD_DS_N : Reg :=
  ⟨"CARD_DS_N", 0x502018, [(4, 0x100)], false, .ds,
   [Fld.CARD_DS_N_N]⟩

/-! CARD_DS_EPOCH (R358, 11_carding_input_pipeline.md) -/
def Fld.CARD_DS_EPOCH_EPOCH : Field := ⟨419, 0, 32, .rwo, 0, .any⟩
def Reg.CARD_DS_EPOCH : Reg :=
  ⟨"CARD_DS_EPOCH", 0x50201C, [(4, 0x100)], false, .ds,
   [Fld.CARD_DS_EPOCH_EPOCH]⟩

/-! CARD_DS_SEED (R358, 11_carding_input_pipeline.md) -/
def Fld.CARD_DS_SEED_SEED : Field := ⟨420, 0, 64, .rwo, 0, .any⟩
def Reg.CARD_DS_SEED : Reg :=
  ⟨"CARD_DS_SEED", 0x502020, [(4, 0x100)], true, .ds,
   [Fld.CARD_DS_SEED_SEED]⟩

/-! CARD_DS_POS (R358, 11_carding_input_pipeline.md) -/
def Fld.CARD_DS_POS_POS : Field := ⟨421, 0, 32, .ro, 0, .any⟩
def Reg.CARD_DS_POS : Reg :=
  ⟨"CARD_DS_POS", 0x502028, [(4, 0x100)], false, .ds,
   [Fld.CARD_DS_POS_POS]⟩

/-! CARD_DS_BUDGET (R358, 11_carding_input_pipeline.md) -/
def Fld.CARD_DS_BUDGET_MULT : Field := ⟨422, 24, 8, .rwo, 16, .any⟩
def Reg.CARD_DS_BUDGET : Reg :=
  ⟨"CARD_DS_BUDGET", 0x50202C, [(4, 0x100)], false, .ds,
   [Fld.CARD_DS_BUDGET_MULT]⟩

/-! CARD_DS_BUDGET_MIN (R358, 11_carding_input_pipeline.md) -/
def Fld.CARD_DS_BUDGET_MIN_BEATS : Field := ⟨423, 0, 32, .rwo, 100000, .any⟩
def Reg.CARD_DS_BUDGET_MIN : Reg :=
  ⟨"CARD_DS_BUDGET_MIN", 0x502030, [(4, 0x100)], false, .ds,
   [Fld.CARD_DS_BUDGET_MIN_BEATS]⟩

/-! CARD_DS_MEAN (R358, 11_carding_input_pipeline.md) -/
def Fld.CARD_DS_MEAN_MEAN : Field := ⟨424, 0, 32, .ro, 0, .any⟩
def Reg.CARD_DS_MEAN : Reg :=
  ⟨"CARD_DS_MEAN", 0x502034, [(4, 0x100)], false, .ds,
   [Fld.CARD_DS_MEAN_MEAN]⟩

/-! CARD_DS_BATCH (R358, 11_carding_input_pipeline.md) -/
def Fld.CARD_DS_BATCH_NBUF : Field := ⟨425, 16, 6, .rwo, 4, .range 1 32⟩
def Fld.CARD_DS_BATCH_LOW_WATER : Field := ⟨426, 8, 6, .rw, 1, .any⟩
def Fld.CARD_DS_BATCH_BATCH : Field := ⟨427, 0, 7, .rwo, 32, .range 1 64⟩
def Reg.CARD_DS_BATCH : Reg :=
  ⟨"CARD_DS_BATCH", 0x502038, [(4, 0x100)], false, .ds,
   [Fld.CARD_DS_BATCH_NBUF, Fld.CARD_DS_BATCH_LOW_WATER, Fld.CARD_DS_BATCH_BATCH]⟩

/-! CARD_DS_TOKENS (R358, 11_carding_input_pipeline.md) -/
def Fld.CARD_DS_TOKENS_FULL : Field := ⟨428, 16, 16, .rwo, 0, .any⟩
def Fld.CARD_DS_TOKENS_FREE : Field := ⟨429, 0, 16, .rwo, 0, .any⟩
def Reg.CARD_DS_TOKENS : Reg :=
  ⟨"CARD_DS_TOKENS", 0x50203C, [(4, 0x100)], false, .ds,
   [Fld.CARD_DS_TOKENS_FULL, Fld.CARD_DS_TOKENS_FREE]⟩

/-! CARD_DS_BUF_BASE (R358, 11_carding_input_pipeline.md) -/
def Fld.CARD_DS_BUF_BASE_BASE : Field := ⟨430, 9, 55, .rwo, 0, .any⟩
def Reg.CARD_DS_BUF_BASE : Reg :=
  ⟨"CARD_DS_BUF_BASE", 0x502040, [(4, 0x100)], true, .ds,
   [Fld.CARD_DS_BUF_BASE_BASE]⟩

/-! CARD_DS_BUF_STRIDE (R358, 11_carding_input_pipeline.md) -/
def Fld.CARD_DS_BUF_STRIDE_BYTES : Field := ⟨431, 0, 32, .rwo, 0, .step 0 4294967295 512⟩
def Reg.CARD_DS_BUF_STRIDE : Reg :=
  ⟨"CARD_DS_BUF_STRIDE", 0x502048, [(4, 0x100)], false, .ds,
   [Fld.CARD_DS_BUF_STRIDE_BYTES]⟩

/-! CARD_DS_SLOT_STRIDE (R358, 11_carding_input_pipeline.md) -/
def Fld.CARD_DS_SLOT_STRIDE_BYTES : Field := ⟨432, 0, 32, .rwo, 0, .step 0 4294967295 512⟩
def Reg.CARD_DS_SLOT_STRIDE : Reg :=
  ⟨"CARD_DS_SLOT_STRIDE", 0x50204C, [(4, 0x100)], false, .ds,
   [Fld.CARD_DS_SLOT_STRIDE_BYTES]⟩

/-! CARD_DS_LOG_BASE (R358, 11_carding_input_pipeline.md) -/
def Fld.CARD_DS_LOG_BASE_BASE : Field := ⟨433, 5, 59, .rwo, 0, .any⟩
def Reg.CARD_DS_LOG_BASE : Reg :=
  ⟨"CARD_DS_LOG_BASE", 0x502050, [(4, 0x100)], true, .ds,
   [Fld.CARD_DS_LOG_BASE_BASE]⟩

/-! CARD_DS_LOG_WR (R358, 11_carding_input_pipeline.md) -/
def Fld.CARD_DS_LOG_WR_WR : Field := ⟨434, 0, 32, .ro, 0, .any⟩
def Reg.CARD_DS_LOG_WR : Reg :=
  ⟨"CARD_DS_LOG_WR", 0x502058, [(4, 0x100)], false, .ds,
   [Fld.CARD_DS_LOG_WR_WR]⟩

/-! CARD_DS_STATUS (R358, 11_carding_input_pipeline.md) -/
def Fld.CARD_DS_STATUS_LAST_STATUS : Field := ⟨435, 16, 16, .ro, 0, .any⟩
def Fld.CARD_DS_STATUS_LEVEL : Field := ⟨436, 8, 6, .ro, 0, .any⟩
def Fld.CARD_DS_STATUS_POOL : Field := ⟨437, 0, 6, .ro, 0, .any⟩
def Reg.CARD_DS_STATUS : Reg :=
  ⟨"CARD_DS_STATUS", 0x50205C, [(4, 0x100)], false, .ds,
   [Fld.CARD_DS_STATUS_LAST_STATUS, Fld.CARD_DS_STATUS_LEVEL, Fld.CARD_DS_STATUS_POOL]⟩

/-! CARD_DS_EVT (R358, 11_carding_input_pipeline.md) -/
def Fld.CARD_DS_EVT_CFG_REFUSED : Field := ⟨438, 5, 1, .rw1c, 0, .any⟩
def Fld.CARD_DS_EVT_CORRUPT : Field := ⟨439, 4, 1, .rw1c, 0, .any⟩
def Fld.CARD_DS_EVT_BUDGET : Field := ⟨440, 3, 1, .rw1c, 0, .any⟩
def Fld.CARD_DS_EVT_DIM : Field := ⟨441, 2, 1, .rw1c, 0, .any⟩
def Fld.CARD_DS_EVT_LOW_WATER : Field := ⟨442, 1, 1, .rw1c, 0, .any⟩
def Fld.CARD_DS_EVT_EPOCH_END : Field := ⟨443, 0, 1, .rw1c, 0, .any⟩
def Reg.CARD_DS_EVT : Reg :=
  ⟨"CARD_DS_EVT", 0x502060, [(4, 0x100)], false, .ds,
   [Fld.CARD_DS_EVT_CFG_REFUSED, Fld.CARD_DS_EVT_CORRUPT, Fld.CARD_DS_EVT_BUDGET, Fld.CARD_DS_EVT_DIM, Fld.CARD_DS_EVT_LOW_WATER, Fld.CARD_DS_EVT_EPOCH_END]⟩

/-! CARD_DS_EVT_CNT (R358, 11_carding_input_pipeline.md) -/
def Fld.CARD_DS_EVT_CNT_COUNT : Field := ⟨444, 0, 32, .rc, 0, .any⟩
def Reg.CARD_DS_EVT_CNT : Reg :=
  ⟨"CARD_DS_EVT_CNT", 0x502064, [(4, 0x100), (6, 0x4)], false, .ds,
   [Fld.CARD_DS_EVT_CNT_COUNT]⟩

/-! FLYER_CLOSED (R327, 10_flyer_loop_engines.md) -/
def Fld.FLYER_CLOSED_MASK : Field := ⟨445, 0, 32, .ro, 0, .any⟩
def Reg.FLYER_CLOSED : Reg :=
  ⟨"FLYER_CLOSED", 0x400000, [], false, .none,
   [Fld.FLYER_CLOSED_MASK]⟩

/-! FLYER_SAFE (R327, 10_flyer_loop_engines.md) -/
def Fld.FLYER_SAFE_MASK : Field := ⟨446, 0, 32, .ro, 0, .any⟩
def Reg.FLYER_SAFE : Reg :=
  ⟨"FLYER_SAFE", 0x400004, [], false, .none,
   [Fld.FLYER_SAFE_MASK]⟩

/-! FLYER_OPEN_ALL (R327, 10_flyer_loop_engines.md) -/
def Fld.FLYER_OPEN_ALL_OPEN : Field := ⟨447, 0, 1, .wo, 0, .any⟩
def Reg.FLYER_OPEN_ALL : Reg :=
  ⟨"FLYER_OPEN_ALL", 0x400008, [], false, .none,
   [Fld.FLYER_OPEN_ALL_OPEN]⟩

/-! FLYER_CTL_CFG (R327, 10_flyer_loop_engines.md) -/
def Fld.FLYER_CTL_CFG_EN : Field := ⟨448, 31, 1, .rwo, 0, .any⟩
def Fld.FLYER_CTL_CFG_DIV_M1 : Field := ⟨449, 24, 7, .rwo, 0, .any⟩
def Fld.FLYER_CTL_CFG_SP_SEL : Field := ⟨450, 22, 2, .rwo, 0, .range 0 2⟩
def Fld.FLYER_CTL_CFG_FB_MODE : Field := ⟨451, 21, 1, .rwo, 0, .any⟩
def Fld.FLYER_CTL_CFG_FB_SRC : Field := ⟨452, 8, 7, .rwo, 0, .oneOf [(0x00, 0x37), (0x40, 0x57), (0x60, 0x6F)]⟩
def Fld.FLYER_CTL_CFG_FB_SRC2 : Field := ⟨453, 0, 7, .rwo, 0, .oneOf [(0x00, 0x37), (0x40, 0x57), (0x60, 0x6F)]⟩
def Reg.FLYER_CTL_CFG : Reg :=
  ⟨"FLYER_CTL_CFG", 0x408100, [(32, 0x400), (4, 0x80)], false, .loop,
   [Fld.FLYER_CTL_CFG_EN, Fld.FLYER_CTL_CFG_DIV_M1, Fld.FLYER_CTL_CFG_SP_SEL, Fld.FLYER_CTL_CFG_FB_MODE, Fld.FLYER_CTL_CFG_FB_SRC, Fld.FLYER_CTL_CFG_FB_SRC2]⟩

/-! FLYER_CTL_KP (R327, 10_flyer_loop_engines.md) -/
def Fld.FLYER_CTL_KP_GAIN : Field := ⟨454, 0, 32, .rwo, 0, .any⟩
def Reg.FLYER_CTL_KP : Reg :=
  ⟨"FLYER_CTL_KP", 0x408104, [(32, 0x400), (4, 0x80)], false, .loop,
   [Fld.FLYER_CTL_KP_GAIN]⟩

/-! FLYER_CTL_KI (R327, 10_flyer_loop_engines.md) -/
def Fld.FLYER_CTL_KI_GAIN : Field := ⟨455, 0, 32, .rwo, 0, .any⟩
def Reg.FLYER_CTL_KI : Reg :=
  ⟨"FLYER_CTL_KI", 0x408108, [(32, 0x400), (4, 0x80)], false, .loop,
   [Fld.FLYER_CTL_KI_GAIN]⟩

/-! FLYER_CTL_KD (R327, 10_flyer_loop_engines.md) -/
def Fld.FLYER_CTL_KD_GAIN : Field := ⟨456, 0, 32, .rwo, 0, .any⟩
def Reg.FLYER_CTL_KD : Reg :=
  ⟨"FLYER_CTL_KD", 0x40810C, [(32, 0x400), (4, 0x80)], false, .loop,
   [Fld.FLYER_CTL_KD_GAIN]⟩

/-! FLYER_CTL_KV (R327, 10_flyer_loop_engines.md) -/
def Fld.FLYER_CTL_KV_GAIN : Field := ⟨457, 0, 32, .rwo, 0, .any⟩
def Reg.FLYER_CTL_KV : Reg :=
  ⟨"FLYER_CTL_KV", 0x408110, [(32, 0x400), (4, 0x80)], false, .loop,
   [Fld.FLYER_CTL_KV_GAIN]⟩

/-! FLYER_CTL_KA (R327, 10_flyer_loop_engines.md) -/
def Fld.FLYER_CTL_KA_GAIN : Field := ⟨458, 0, 32, .rwo, 0, .any⟩
def Reg.FLYER_CTL_KA : Reg :=
  ⟨"FLYER_CTL_KA", 0x408114, [(32, 0x400), (4, 0x80)], false, .loop,
   [Fld.FLYER_CTL_KA_GAIN]⟩

/-! FLYER_CTL_I_MIN (R327, 10_flyer_loop_engines.md) -/
def Fld.FLYER_CTL_I_MIN_LIMIT : Field := ⟨459, 0, 32, .rwo, 2147483648, .any⟩
def Reg.FLYER_CTL_I_MIN : Reg :=
  ⟨"FLYER_CTL_I_MIN", 0x408118, [(32, 0x400), (4, 0x80)], false, .loop,
   [Fld.FLYER_CTL_I_MIN_LIMIT]⟩

/-! FLYER_CTL_I_MAX (R327, 10_flyer_loop_engines.md) -/
def Fld.FLYER_CTL_I_MAX_LIMIT : Field := ⟨460, 0, 32, .rwo, 2147483647, .any⟩
def Reg.FLYER_CTL_I_MAX : Reg :=
  ⟨"FLYER_CTL_I_MAX", 0x40811C, [(32, 0x400), (4, 0x80)], false, .loop,
   [Fld.FLYER_CTL_I_MAX_LIMIT]⟩

/-! FLYER_CTL_I_INIT (R327, 10_flyer_loop_engines.md) -/
def Fld.FLYER_CTL_I_INIT_VALUE : Field := ⟨461, 0, 32, .rwo, 0, .any⟩
def Reg.FLYER_CTL_I_INIT : Reg :=
  ⟨"FLYER_CTL_I_INIT", 0x408120, [(32, 0x400), (4, 0x80)], false, .loop,
   [Fld.FLYER_CTL_I_INIT_VALUE]⟩

/-! FLYER_CTL_OUT_MIN (R327, 10_flyer_loop_engines.md) -/
def Fld.FLYER_CTL_OUT_MIN_LIMIT : Field := ⟨462, 0, 32, .rwo, 3221225472, .any⟩
def Reg.FLYER_CTL_OUT_MIN : Reg :=
  ⟨"FLYER_CTL_OUT_MIN", 0x408124, [(32, 0x400), (4, 0x80)], false, .loop,
   [Fld.FLYER_CTL_OUT_MIN_LIMIT]⟩

/-! FLYER_CTL_OUT_MAX (R327, 10_flyer_loop_engines.md) -/
def Fld.FLYER_CTL_OUT_MAX_LIMIT : Field := ⟨463, 0, 32, .rwo, 1073741824, .any⟩
def Reg.FLYER_CTL_OUT_MAX : Reg :=
  ⟨"FLYER_CTL_OUT_MAX", 0x408128, [(32, 0x400), (4, 0x80)], false, .loop,
   [Fld.FLYER_CTL_OUT_MAX_LIMIT]⟩

/-! FLYER_CTL_SP_CONST (R327, 10_flyer_loop_engines.md) -/
def Fld.FLYER_CTL_SP_CONST_VALUE : Field := ⟨464, 0, 32, .rwo, 0, .any⟩
def Reg.FLYER_CTL_SP_CONST : Reg :=
  ⟨"FLYER_CTL_SP_CONST", 0x40812C, [(32, 0x400), (4, 0x80)], false, .loop,
   [Fld.FLYER_CTL_SP_CONST_VALUE]⟩

/-! FLYER_CTL_I (R327, 10_flyer_loop_engines.md) -/
def Fld.FLYER_CTL_I_VALUE : Field := ⟨465, 0, 32, .ro, 0, .any⟩
def Reg.FLYER_CTL_I : Reg :=
  ⟨"FLYER_CTL_I", 0x408158, [(32, 0x400), (4, 0x80)], false, .loop,
   [Fld.FLYER_CTL_I_VALUE]⟩

/-! FLYER_CTL_U (R327, 10_flyer_loop_engines.md) -/
def Fld.FLYER_CTL_U_VALUE : Field := ⟨466, 0, 32, .ro, 0, .any⟩
def Reg.FLYER_CTL_U : Reg :=
  ⟨"FLYER_CTL_U", 0x40815C, [(32, 0x400), (4, 0x80)], false, .loop,
   [Fld.FLYER_CTL_U_VALUE]⟩

/-! FLYER_CTL_BQ0 (R327, 10_flyer_loop_engines.md) -/
def Fld.FLYER_CTL_BQ0_COEF : Field := ⟨467, 0, 32, .rwo, 1073741824, .any⟩
def Reg.FLYER_CTL_BQ0 : Reg :=
  ⟨"FLYER_CTL_BQ0", 0x408130, [(32, 0x400), (4, 0x80), (2, 0x14)], false, .loop,
   [Fld.FLYER_CTL_BQ0_COEF]⟩

/-! FLYER_CTL_BQ (R327, 10_flyer_loop_engines.md) -/
def Fld.FLYER_CTL_BQ_COEF : Field := ⟨468, 0, 32, .rwo, 0, .any⟩
def Reg.FLYER_CTL_BQ : Reg :=
  ⟨"FLYER_CTL_BQ", 0x408134, [(32, 0x400), (4, 0x80), (2, 0x14), (4, 0x4)], false, .loop,
   [Fld.FLYER_CTL_BQ_COEF]⟩

/-! FLYER_ENC_CFG (R327, 10_flyer_loop_engines.md) -/
def Fld.FLYER_ENC_CFG_VEL_SHIFT : Field := ⟨469, 10, 5, .rwo, 0, .any⟩
def Fld.FLYER_ENC_CFG_MODE : Field := ⟨470, 8, 2, .rwo, 3, .any⟩
def Fld.FLYER_ENC_CFG_FILTER : Field := ⟨471, 4, 4, .rwo, 1, .any⟩
def Fld.FLYER_ENC_CFG_INDEX_ZERO : Field := ⟨472, 3, 1, .rwo, 0, .any⟩
def Fld.FLYER_ENC_CFG_DIR_INV : Field := ⟨473, 2, 1, .rwo, 0, .any⟩
def Reg.FLYER_ENC_CFG : Reg :=
  ⟨"FLYER_ENC_CFG", 0x410000, [(16, 0x40)], false, .enc,
   [Fld.FLYER_ENC_CFG_VEL_SHIFT, Fld.FLYER_ENC_CFG_MODE, Fld.FLYER_ENC_CFG_FILTER, Fld.FLYER_ENC_CFG_INDEX_ZERO, Fld.FLYER_ENC_CFG_DIR_INV]⟩

/-! FLYER_ENC_COUNT (R327, 10_flyer_loop_engines.md) -/
def Fld.FLYER_ENC_COUNT_COUNT : Field := ⟨474, 0, 32, .ro, 0, .any⟩
def Reg.FLYER_ENC_COUNT : Reg :=
  ⟨"FLYER_ENC_COUNT", 0x410004, [(16, 0x40)], false, .enc,
   [Fld.FLYER_ENC_COUNT_COUNT]⟩

/-! FLYER_ENC_DUTY (R327, 10_flyer_loop_engines.md) -/
def Fld.FLYER_ENC_DUTY_DUTY : Field := ⟨475, 0, 32, .ro, 0, .any⟩
def Reg.FLYER_ENC_DUTY : Reg :=
  ⟨"FLYER_ENC_DUTY", 0x410008, [(16, 0x40)], false, .enc,
   [Fld.FLYER_ENC_DUTY_DUTY]⟩

/-! FLYER_ENC_EVT (R327, 10_flyer_loop_engines.md) -/
def Fld.FLYER_ENC_EVT_INDEX : Field := ⟨476, 1, 1, .rw1c, 0, .any⟩
def Fld.FLYER_ENC_EVT_ILLEGAL : Field := ⟨477, 0, 1, .rw1c, 0, .any⟩
def Reg.FLYER_ENC_EVT : Reg :=
  ⟨"FLYER_ENC_EVT", 0x41000C, [(16, 0x40)], false, .enc,
   [Fld.FLYER_ENC_EVT_INDEX, Fld.FLYER_ENC_EVT_ILLEGAL]⟩

/-! FLYER_ENC_EVT_CNT (R327, 10_flyer_loop_engines.md) -/
def Fld.FLYER_ENC_EVT_CNT_COUNT : Field := ⟨478, 0, 32, .rc, 0, .any⟩
def Reg.FLYER_ENC_EVT_CNT : Reg :=
  ⟨"FLYER_ENC_EVT_CNT", 0x410010, [(16, 0x40), (2, 0x4)], false, .enc,
   [Fld.FLYER_ENC_EVT_CNT_COUNT]⟩

/-! FLYER_SSI_CFG (R327, 10_flyer_loop_engines.md) -/
def Fld.FLYER_SSI_CFG_CLK_DIV : Field := ⟨479, 24, 8, .rwo, 9, .range 9 255⟩
def Fld.FLYER_SSI_CFG_BITS : Field := ⟨480, 16, 6, .rwo, 0, .zeroOr 8 48⟩
def Fld.FLYER_SSI_CFG_GRAY : Field := ⟨481, 15, 1, .rwo, 0, .any⟩
def Fld.FLYER_SSI_CFG_PARITY : Field := ⟨482, 13, 2, .rwo, 0, .range 0 2⟩
def Reg.FLYER_SSI_CFG : Reg :=
  ⟨"FLYER_SSI_CFG", 0x410400, [(8, 0x40)], false, .ssi,
   [Fld.FLYER_SSI_CFG_CLK_DIV, Fld.FLYER_SSI_CFG_BITS, Fld.FLYER_SSI_CFG_GRAY, Fld.FLYER_SSI_CFG_PARITY]⟩

/-! FLYER_SSI_PERIOD (R327, 10_flyer_loop_engines.md) -/
def Fld.FLYER_SSI_PERIOD_TICKS : Field := ⟨483, 0, 32, .rwo, 0, .any⟩
def Reg.FLYER_SSI_PERIOD : Reg :=
  ⟨"FLYER_SSI_PERIOD", 0x410404, [(8, 0x40)], false, .ssi,
   [Fld.FLYER_SSI_PERIOD_TICKS]⟩

/-! FLYER_SSI_PHASE (R327, 10_flyer_loop_engines.md) -/
def Fld.FLYER_SSI_PHASE_TICKS : Field := ⟨484, 0, 32, .rwo, 0, .any⟩
def Reg.FLYER_SSI_PHASE : Reg :=
  ⟨"FLYER_SSI_PHASE", 0x410408, [(8, 0x40)], false, .ssi,
   [Fld.FLYER_SSI_PHASE_TICKS]⟩

/-! FLYER_SSI_VALUE (R327, 10_flyer_loop_engines.md) -/
def Fld.FLYER_SSI_VALUE_VALUE : Field := ⟨485, 0, 32, .ro, 0, .any⟩
def Reg.FLYER_SSI_VALUE : Reg :=
  ⟨"FLYER_SSI_VALUE", 0x41040C, [(8, 0x40)], false, .ssi,
   [Fld.FLYER_SSI_VALUE_VALUE]⟩

/-! FLYER_SSI_STAMP (R327, 10_flyer_loop_engines.md) -/
def Fld.FLYER_SSI_STAMP_TIME : Field := ⟨486, 0, 64, .ro, 0, .any⟩
def Reg.FLYER_SSI_STAMP : Reg :=
  ⟨"FLYER_SSI_STAMP", 0x410410, [(8, 0x40)], true, .ssi,
   [Fld.FLYER_SSI_STAMP_TIME]⟩

/-! FLYER_SSI_EVT (R327, 10_flyer_loop_engines.md) -/
def Fld.FLYER_SSI_EVT_TIMEOUT : Field := ⟨487, 1, 1, .rw1c, 0, .any⟩
def Fld.FLYER_SSI_EVT_PARITY_ERR : Field := ⟨488, 0, 1, .rw1c, 0, .any⟩
def Reg.FLYER_SSI_EVT : Reg :=
  ⟨"FLYER_SSI_EVT", 0x410418, [(8, 0x40)], false, .ssi,
   [Fld.FLYER_SSI_EVT_TIMEOUT, Fld.FLYER_SSI_EVT_PARITY_ERR]⟩

/-! FLYER_SSI_EVT_CNT (R327, 10_flyer_loop_engines.md) -/
def Fld.FLYER_SSI_EVT_CNT_COUNT : Field := ⟨489, 0, 32, .rc, 0, .any⟩
def Reg.FLYER_SSI_EVT_CNT : Reg :=
  ⟨"FLYER_SSI_EVT_CNT", 0x41041C, [(8, 0x40), (2, 0x4)], false, .ssi,
   [Fld.FLYER_SSI_EVT_CNT_COUNT]⟩

/-! FLYER_SD_CFG (R327, 10_flyer_loop_engines.md) -/
def Fld.FLYER_SD_CFG_EN : Field := ⟨490, 8, 1, .rwo, 0, .any⟩
def Fld.FLYER_SD_CFG_CLK_EDGE : Field := ⟨491, 4, 1, .rwo, 0, .any⟩
def Fld.FLYER_SD_CFG_OSR_LOG2 : Field := ⟨492, 0, 4, .rwo, 6, .range 4 8⟩
def Reg.FLYER_SD_CFG : Reg :=
  ⟨"FLYER_SD_CFG", 0x410600, [(24, 0x40)], false, .sd,
   [Fld.FLYER_SD_CFG_EN, Fld.FLYER_SD_CFG_CLK_EDGE, Fld.FLYER_SD_CFG_OSR_LOG2]⟩

/-! FLYER_SD_VALUE (R327, 10_flyer_loop_engines.md) -/
def Fld.FLYER_SD_VALUE_VALUE : Field := ⟨493, 0, 32, .ro, 0, .any⟩
def Reg.FLYER_SD_VALUE : Reg :=
  ⟨"FLYER_SD_VALUE", 0x410604, [(24, 0x40)], false, .sd,
   [Fld.FLYER_SD_VALUE_VALUE]⟩

/-! FLYER_SD_EVT (R327, 10_flyer_loop_engines.md) -/
def Fld.FLYER_SD_EVT_CLK_LOST : Field := ⟨494, 0, 1, .rw1c, 0, .any⟩
def Reg.FLYER_SD_EVT : Reg :=
  ⟨"FLYER_SD_EVT", 0x410608, [(24, 0x40)], false, .sd,
   [Fld.FLYER_SD_EVT_CLK_LOST]⟩

/-! FLYER_SD_EVT_CNT (R327, 10_flyer_loop_engines.md) -/
def Fld.FLYER_SD_EVT_CNT_COUNT : Field := ⟨495, 0, 32, .rc, 0, .any⟩
def Reg.FLYER_SD_EVT_CNT : Reg :=
  ⟨"FLYER_SD_EVT_CNT", 0x41060C, [(24, 0x40)], false, .sd,
   [Fld.FLYER_SD_EVT_CNT_COUNT]⟩

/-! FLYER_ADC_CFG (R327, 10_flyer_loop_engines.md) -/
def Fld.FLYER_ADC_CFG_PWM_GROUP : Field := ⟨496, 4, 3, .rwo, 0, .any⟩
def Fld.FLYER_ADC_CFG_TRIG : Field := ⟨497, 0, 2, .rwo, 0, .any⟩
def Reg.FLYER_ADC_CFG : Reg :=
  ⟨"FLYER_ADC_CFG", 0x410C00, [(16, 0x40)], false, .adc,
   [Fld.FLYER_ADC_CFG_PWM_GROUP, Fld.FLYER_ADC_CFG_TRIG]⟩

/-! FLYER_ADC_PERIOD (R327, 10_flyer_loop_engines.md) -/
def Fld.FLYER_ADC_PERIOD_TICKS : Field := ⟨498, 0, 32, .rwo, 0, .range 800 4294967295⟩
def Reg.FLYER_ADC_PERIOD : Reg :=
  ⟨"FLYER_ADC_PERIOD", 0x410C04, [(16, 0x40)], false, .adc,
   [Fld.FLYER_ADC_PERIOD_TICKS]⟩

/-! FLYER_ADC_PHASE (R327, 10_flyer_loop_engines.md) -/
def Fld.FLYER_ADC_PHASE_TICKS : Field := ⟨499, 0, 32, .rwo, 0, .any⟩
def Reg.FLYER_ADC_PHASE : Reg :=
  ⟨"FLYER_ADC_PHASE", 0x410C08, [(16, 0x40)], false, .adc,
   [Fld.FLYER_ADC_PHASE_TICKS]⟩

/-! FLYER_ADC_VALUE (R327, 10_flyer_loop_engines.md) -/
def Fld.FLYER_ADC_VALUE_CODE : Field := ⟨500, 0, 12, .ro, 0, .any⟩
def Reg.FLYER_ADC_VALUE : Reg :=
  ⟨"FLYER_ADC_VALUE", 0x410C0C, [(16, 0x40)], false, .adc,
   [Fld.FLYER_ADC_VALUE_CODE]⟩

/-! FLYER_ADC_STAMP (R327, 10_flyer_loop_engines.md) -/
def Fld.FLYER_ADC_STAMP_TIME : Field := ⟨501, 0, 64, .ro, 0, .any⟩
def Reg.FLYER_ADC_STAMP : Reg :=
  ⟨"FLYER_ADC_STAMP", 0x410C10, [(16, 0x40)], true, .adc,
   [Fld.FLYER_ADC_STAMP_TIME]⟩

/-! FLYER_ADC_EVT (R327, 10_flyer_loop_engines.md) -/
def Fld.FLYER_ADC_EVT_OVERRANGE : Field := ⟨502, 0, 1, .rw1c, 0, .any⟩
def Reg.FLYER_ADC_EVT : Reg :=
  ⟨"FLYER_ADC_EVT", 0x410C18, [(16, 0x40)], false, .adc,
   [Fld.FLYER_ADC_EVT_OVERRANGE]⟩

/-! FLYER_ADC_EVT_CNT (R327, 10_flyer_loop_engines.md) -/
def Fld.FLYER_ADC_EVT_CNT_COUNT : Field := ⟨503, 0, 32, .rc, 0, .any⟩
def Reg.FLYER_ADC_EVT_CNT : Reg :=
  ⟨"FLYER_ADC_EVT_CNT", 0x410C1C, [(16, 0x40)], false, .adc,
   [Fld.FLYER_ADC_EVT_CNT_COUNT]⟩

/-! FLYER_PWM_CFG (R327, 10_flyer_loop_engines.md) -/
def Fld.FLYER_PWM_CFG_LOAD : Field := ⟨504, 25, 1, .rwo, 0, .any⟩
def Fld.FLYER_PWM_CFG_MODE : Field := ⟨505, 24, 1, .rwo, 0, .any⟩
def Fld.FLYER_PWM_CFG_OWNER_W : Field := ⟨506, 16, 5, .rwo, 0, .any⟩
def Fld.FLYER_PWM_CFG_OWNER_V : Field := ⟨507, 8, 5, .rwo, 0, .any⟩
def Fld.FLYER_PWM_CFG_OWNER_U : Field := ⟨508, 0, 5, .rwo, 0, .any⟩
def Reg.FLYER_PWM_CFG : Reg :=
  ⟨"FLYER_PWM_CFG", 0x411000, [(8, 0x40)], false, .pwm,
   [Fld.FLYER_PWM_CFG_LOAD, Fld.FLYER_PWM_CFG_MODE, Fld.FLYER_PWM_CFG_OWNER_W, Fld.FLYER_PWM_CFG_OWNER_V, Fld.FLYER_PWM_CFG_OWNER_U]⟩

/-! FLYER_PWM_PERIOD (R327, 10_flyer_loop_engines.md) -/
def Fld.FLYER_PWM_PERIOD_TICKS : Field := ⟨509, 0, 20, .rwo, 40000, .step 400 1000000 2⟩
def Reg.FLYER_PWM_PERIOD : Reg :=
  ⟨"FLYER_PWM_PERIOD", 0x411004, [(8, 0x40)], false, .pwm,
   [Fld.FLYER_PWM_PERIOD_TICKS]⟩

/-! FLYER_PWM_PHASE (R327, 10_flyer_loop_engines.md) -/
def Fld.FLYER_PWM_PHASE_TICKS : Field := ⟨510, 0, 32, .rwo, 0, .any⟩
def Reg.FLYER_PWM_PHASE : Reg :=
  ⟨"FLYER_PWM_PHASE", 0x411008, [(8, 0x40)], false, .pwm,
   [Fld.FLYER_PWM_PHASE_TICKS]⟩

/-! FLYER_PWM_DEADTIME (R327, 10_flyer_loop_engines.md) -/
def Fld.FLYER_PWM_DEADTIME_TICKS : Field := ⟨511, 0, 12, .rwo, 400, .any⟩
def Reg.FLYER_PWM_DEADTIME : Reg :=
  ⟨"FLYER_PWM_DEADTIME", 0x41100C, [(8, 0x40)], false, .pwm,
   [Fld.FLYER_PWM_DEADTIME_TICKS]⟩

/-! FLYER_PWM_SAFE (R327, 10_flyer_loop_engines.md) -/
def Fld.FLYER_PWM_SAFE_PATTERN : Field := ⟨512, 0, 12, .rwo, 0, .any⟩
def Reg.FLYER_PWM_SAFE : Reg :=
  ⟨"FLYER_PWM_SAFE", 0x411010, [(8, 0x40)], false, .pwm,
   [Fld.FLYER_PWM_SAFE_PATTERN]⟩

/-! FLYER_PWM_EVT (R327, 10_flyer_loop_engines.md) -/
def Fld.FLYER_PWM_EVT_DUTY_CLAMP : Field := ⟨513, 1, 1, .rw1c, 0, .any⟩
def Fld.FLYER_PWM_EVT_SAFE_APPLIED : Field := ⟨514, 0, 1, .rw1c, 0, .any⟩
def Reg.FLYER_PWM_EVT : Reg :=
  ⟨"FLYER_PWM_EVT", 0x411014, [(8, 0x40)], false, .pwm,
   [Fld.FLYER_PWM_EVT_DUTY_CLAMP, Fld.FLYER_PWM_EVT_SAFE_APPLIED]⟩

/-! FLYER_PWM_EVT_CNT (R327, 10_flyer_loop_engines.md) -/
def Fld.FLYER_PWM_EVT_CNT_COUNT : Field := ⟨515, 0, 32, .rc, 0, .any⟩
def Reg.FLYER_PWM_EVT_CNT : Reg :=
  ⟨"FLYER_PWM_EVT_CNT", 0x411018, [(8, 0x40), (2, 0x4)], false, .pwm,
   [Fld.FLYER_PWM_EVT_CNT_COUNT]⟩

def regsFlyer0 : List Reg :=
  [Reg.FLYER_LOOP_CMD, Reg.FLYER_LOOP_STATE, Reg.FLYER_LOOP_CFG, Reg.FLYER_LOOP_OUT, Reg.FLYER_LOOP_ANGLE_SCALE, Reg.FLYER_LOOP_ANGLE, Reg.FLYER_LOOP_GEAR, Reg.FLYER_LOOP_TRIG_PERIOD, Reg.FLYER_LOOP_TRIG_PHASE, Reg.FLYER_LOOP_CLOSE_AT, Reg.FLYER_LOOP_TX, Reg.FLYER_LOOP_TX_DELAY, Reg.FLYER_LOOP_EVT, Reg.FLYER_LOOP_EVT_CNT, Reg.FLYER_LOOP_MBX_SEQ, Reg.FLYER_LOOP_MBX_STATE, Reg.FLYER_LOOP_SP, Reg.FLYER_LOOP_U, Reg.FLYER_LOOP_VMAX, Reg.FLYER_LOOP_AMAX, Reg.FLYER_LOOP_SAMPLES, Reg.CARD_CAP_CTRL, Reg.CARD_CAP_FMT, Reg.CARD_CAP_TOKENS, Reg.CARD_CAP_NBUF, Reg.CARD_CAP_BUF_BASE, Reg.CARD_CAP_BUF_STRIDE, Reg.CARD_CAP_AGE_MAX, Reg.CARD_CAP_STATUS, Reg.CARD_CAP_SEQ, Reg.CARD_CAP_LAST_START, Reg.CARD_CAP_EVT, Reg.CARD_CAP_EVT_CNT, Reg.CARD_DS_CTRL, Reg.CARD_DS_OUT, Reg.CARD_DS_AUG, Reg.CARD_DS_LIMITS, Reg.CARD_DS_TABLE_BASE, Reg.CARD_DS_N, Reg.CARD_DS_EPOCH]

def regsFlyer1 : List Reg :=
  [Reg.CARD_DS_SEED, Reg.CARD_DS_POS, Reg.CARD_DS_BUDGET, Reg.CARD_DS_BUDGET_MIN, Reg.CARD_DS_MEAN, Reg.CARD_DS_BATCH, Reg.CARD_DS_TOKENS, Reg.CARD_DS_BUF_BASE, Reg.CARD_DS_BUF_STRIDE, Reg.CARD_DS_SLOT_STRIDE, Reg.CARD_DS_LOG_BASE, Reg.CARD_DS_LOG_WR, Reg.CARD_DS_STATUS, Reg.CARD_DS_EVT, Reg.CARD_DS_EVT_CNT, Reg.FLYER_CLOSED, Reg.FLYER_SAFE, Reg.FLYER_OPEN_ALL, Reg.FLYER_CTL_CFG, Reg.FLYER_CTL_KP, Reg.FLYER_CTL_KI, Reg.FLYER_CTL_KD, Reg.FLYER_CTL_KV, Reg.FLYER_CTL_KA, Reg.FLYER_CTL_I_MIN, Reg.FLYER_CTL_I_MAX, Reg.FLYER_CTL_I_INIT, Reg.FLYER_CTL_OUT_MIN, Reg.FLYER_CTL_OUT_MAX, Reg.FLYER_CTL_SP_CONST, Reg.FLYER_CTL_I, Reg.FLYER_CTL_U, Reg.FLYER_CTL_BQ0, Reg.FLYER_CTL_BQ, Reg.FLYER_ENC_CFG, Reg.FLYER_ENC_COUNT, Reg.FLYER_ENC_DUTY, Reg.FLYER_ENC_EVT, Reg.FLYER_ENC_EVT_CNT, Reg.FLYER_SSI_CFG]

def regsFlyer2 : List Reg :=
  [Reg.FLYER_SSI_PERIOD, Reg.FLYER_SSI_PHASE, Reg.FLYER_SSI_VALUE, Reg.FLYER_SSI_STAMP, Reg.FLYER_SSI_EVT, Reg.FLYER_SSI_EVT_CNT, Reg.FLYER_SD_CFG, Reg.FLYER_SD_VALUE, Reg.FLYER_SD_EVT, Reg.FLYER_SD_EVT_CNT, Reg.FLYER_ADC_CFG, Reg.FLYER_ADC_PERIOD, Reg.FLYER_ADC_PHASE, Reg.FLYER_ADC_VALUE, Reg.FLYER_ADC_STAMP, Reg.FLYER_ADC_EVT, Reg.FLYER_ADC_EVT_CNT, Reg.FLYER_PWM_CFG, Reg.FLYER_PWM_PERIOD, Reg.FLYER_PWM_PHASE, Reg.FLYER_PWM_DEADTIME, Reg.FLYER_PWM_SAFE, Reg.FLYER_PWM_EVT, Reg.FLYER_PWM_EVT_CNT]

/-- The registers of this file. -/
def regsFlyer : List Reg := regsFlyer0 ++ regsFlyer1 ++ regsFlyer2

end Sys2Proof.Machine
end

