-- ==== Sys2Proof/Machine/RegsHost.lean ====
section
/-! DEFINITION. The register map of the HUB, RING and HEDDLE blocks (Tables 1.9 to 1.13, 12.9, 12.10, 13.5 to 13.7, and the determinism registers of chapter 17).

A field `Fld.REGISTER_FIELD` is one field row of the spec's register tables: its storage code, its
lowest bit, its width, its access code of Table 0.1, its reset value (0 where the table says `boot`:
BOOT loads it) and the values R600 lets a write give it.  A register `Reg.NAME` is its name, BAR0
address, index strides, whether it is 64 bits wide, the unit whose CONFIG gates its RWO fields, and
its fields. -/

namespace Sys2Proof.Machine

/-! HUB_ID (R34, 01_device_overview.md) -/
def Fld.HUB_ID_PART : Field := ⟨0, 16, 16, .ro, 37888, .any⟩
def Fld.HUB_ID_GRADE : Field := ⟨1, 8, 8, .ro, 0, .any⟩
def Reg.HUB_ID : Reg :=
  ⟨"HUB_ID", 0x0, [], false, .none,
   [Fld.HUB_ID_PART, Fld.HUB_ID_GRADE]⟩

/-! HUB_STEPPING (R34, 01_device_overview.md) -/
def Fld.HUB_STEPPING_MAJOR : Field := ⟨2, 4, 4, .ro, 11, .any⟩
def Fld.HUB_STEPPING_MINOR : Field := ⟨3, 0, 4, .ro, 1, .any⟩
def Reg.HUB_STEPPING : Reg :=
  ⟨"HUB_STEPPING", 0x4, [], false, .none,
   [Fld.HUB_STEPPING_MAJOR, Fld.HUB_STEPPING_MINOR]⟩

/-! HUB_COMPAT_SET (R34, 01_device_overview.md) -/
def Fld.HUB_COMPAT_SET_SET_ID : Field := ⟨4, 0, 32, .ro, 0, .any⟩
def Reg.HUB_COMPAT_SET : Reg :=
  ⟨"HUB_COMPAT_SET", 0x8, [], false, .none,
   [Fld.HUB_COMPAT_SET_SET_ID]⟩

/-! HUB_STATE (R34, 01_device_overview.md) -/
def Fld.HUB_STATE_CAUSE_STATUS : Field := ⟨5, 16, 16, .ro, 0, .any⟩
def Fld.HUB_STATE_CAUSE : Field := ⟨6, 8, 4, .ro, 0, .any⟩
def Fld.HUB_STATE_PREV_STATE : Field := ⟨7, 4, 4, .ro, 0, .any⟩
def Fld.HUB_STATE_STATE : Field := ⟨8, 0, 4, .ro, 0, .any⟩
def Reg.HUB_STATE : Reg :=
  ⟨"HUB_STATE", 0x10, [], false, .none,
   [Fld.HUB_STATE_CAUSE_STATUS, Fld.HUB_STATE_CAUSE, Fld.HUB_STATE_PREV_STATE, Fld.HUB_STATE_STATE]⟩

/-! HUB_STATE_REQ (R34, 01_device_overview.md) -/
def Fld.HUB_STATE_REQ_REQ : Field := ⟨9, 0, 4, .wo, 0, .any⟩
def Reg.HUB_STATE_REQ : Reg :=
  ⟨"HUB_STATE_REQ", 0x14, [], false, .none,
   [Fld.HUB_STATE_REQ_REQ]⟩

/-! HUB_EVT (R34, 01_device_overview.md) -/
def Fld.HUB_EVT_SKEIN_RETIRED : Field := ⟨10, 2, 1, .rw1c, 0, .any⟩
def Fld.HUB_EVT_REQ_REFUSED : Field := ⟨11, 1, 1, .rw1c, 0, .any⟩
def Fld.HUB_EVT_STATE_CHANGED : Field := ⟨12, 0, 1, .rw1c, 0, .any⟩
def Reg.HUB_EVT : Reg :=
  ⟨"HUB_EVT", 0x18, [], false, .none,
   [Fld.HUB_EVT_SKEIN_RETIRED, Fld.HUB_EVT_REQ_REFUSED, Fld.HUB_EVT_STATE_CHANGED]⟩

/-! HUB_EVT_CNT_STATE (R34, 01_device_overview.md) -/
def Fld.HUB_EVT_CNT_STATE_COUNT : Field := ⟨13, 0, 32, .rc, 0, .any⟩
def Reg.HUB_EVT_CNT_STATE : Reg :=
  ⟨"HUB_EVT_CNT_STATE", 0x1C, [], false, .none,
   [Fld.HUB_EVT_CNT_STATE_COUNT]⟩

/-! HUB_EVT_CNT_REQ (R34, 01_device_overview.md) -/
def Fld.HUB_EVT_CNT_REQ_COUNT : Field := ⟨14, 0, 32, .rc, 0, .any⟩
def Reg.HUB_EVT_CNT_REQ : Reg :=
  ⟨"HUB_EVT_CNT_REQ", 0x20, [], false, .none,
   [Fld.HUB_EVT_CNT_REQ_COUNT]⟩

/-! HUB_EVT_CNT_RETIRE (R34, 01_device_overview.md) -/
def Fld.HUB_EVT_CNT_RETIRE_COUNT : Field := ⟨15, 0, 32, .rc, 0, .any⟩
def Reg.HUB_EVT_CNT_RETIRE : Reg :=
  ⟨"HUB_EVT_CNT_RETIRE", 0x24, [], false, .none,
   [Fld.HUB_EVT_CNT_RETIRE_COUNT]⟩

/-! HUB_SKEIN_LIVE (R34, 01_device_overview.md) -/
def Fld.HUB_SKEIN_LIVE_LIVE : Field := ⟨16, 0, 64, .ro, 0, .any⟩
def Reg.HUB_SKEIN_LIVE : Reg :=
  ⟨"HUB_SKEIN_LIVE", 0x28, [], true, .none,
   [Fld.HUB_SKEIN_LIVE_LIVE]⟩

/-! RING_CLIENT_ID (R391, 12_host_rings_and_completions.md) -/
def Fld.RING_CLIENT_ID_CLIENT : Field := ⟨17, 0, 4, .ro, 0, .any⟩
def Reg.RING_CLIENT_ID : Reg :=
  ⟨"RING_CLIENT_ID", 0x100000, [(16, 0x10000)], false, .none,
   [Fld.RING_CLIENT_ID_CLIENT]⟩

/-! RING_PROTO (R391, 12_host_rings_and_completions.md) -/
def Fld.RING_PROTO_MAX : Field := ⟨18, 16, 16, .ro, 0, .any⟩
def Fld.RING_PROTO_MIN : Field := ⟨19, 0, 16, .ro, 0, .any⟩
def Reg.RING_PROTO : Reg :=
  ⟨"RING_PROTO", 0x100004, [(16, 0x10000)], false, .none,
   [Fld.RING_PROTO_MAX, Fld.RING_PROTO_MIN]⟩

/-! RING_PROTO_SEL (R391, 12_host_rings_and_completions.md) -/
def Fld.RING_PROTO_SEL_VERSION : Field := ⟨20, 0, 16, .rwo, 0, .any⟩
def Reg.RING_PROTO_SEL : Reg :=
  ⟨"RING_PROTO_SEL", 0x100008, [(16, 0x10000)], false, .proto,
   [Fld.RING_PROTO_SEL_VERSION]⟩

/-! RING_CLIENT_STATUS (R391, 12_host_rings_and_completions.md) -/
def Fld.RING_CLIENT_STATUS_PLACES_USED : Field := ⟨21, 16, 10, .ro, 0, .any⟩
def Fld.RING_CLIENT_STATUS_FETCH_PAUSED : Field := ⟨22, 0, 1, .ro, 0, .any⟩
def Reg.RING_CLIENT_STATUS : Reg :=
  ⟨"RING_CLIENT_STATUS", 0x10000C, [(16, 0x10000)], false, .none,
   [Fld.RING_CLIENT_STATUS_PLACES_USED, Fld.RING_CLIENT_STATUS_FETCH_PAUSED]⟩

/-! RING_EVT (R391, 12_host_rings_and_completions.md) -/
def Fld.RING_EVT_CQ_FULL : Field := ⟨23, 4, 1, .rw1c, 0, .any⟩
def Fld.RING_EVT_DB_INVALID : Field := ⟨24, 3, 1, .rw1c, 0, .any⟩
def Fld.RING_EVT_ADMIT_REJECT : Field := ⟨25, 2, 1, .rw1c, 0, .any⟩
def Fld.RING_EVT_FETCH_ERR : Field := ⟨26, 1, 1, .rw1c, 0, .any⟩
def Fld.RING_EVT_CFG_REFUSED : Field := ⟨27, 0, 1, .rw1c, 0, .any⟩
def Reg.RING_EVT : Reg :=
  ⟨"RING_EVT", 0x100010, [(16, 0x10000)], false, .none,
   [Fld.RING_EVT_CQ_FULL, Fld.RING_EVT_DB_INVALID, Fld.RING_EVT_ADMIT_REJECT, Fld.RING_EVT_FETCH_ERR, Fld.RING_EVT_CFG_REFUSED]⟩

/-! RING_EVT_CNT (R391, 12_host_rings_and_completions.md) -/
def Fld.RING_EVT_CNT_COUNT : Field := ⟨28, 0, 32, .rc, 0, .any⟩
def Reg.RING_EVT_CNT : Reg :=
  ⟨"RING_EVT_CNT", 0x100014, [(16, 0x10000), (5, 0x4)], false, .none,
   [Fld.RING_EVT_CNT_COUNT]⟩

/-! RING_DB_CAP (R391, 12_host_rings_and_completions.md) -/
def Fld.RING_DB_CAP_RING : Field := ⟨29, 16, 7, .ro, 0, .any⟩
def Fld.RING_DB_CAP_VALUE : Field := ⟨30, 0, 16, .ro, 0, .any⟩
def Reg.RING_DB_CAP : Reg :=
  ⟨"RING_DB_CAP", 0x100028, [(16, 0x10000)], false, .none,
   [Fld.RING_DB_CAP_RING, Fld.RING_DB_CAP_VALUE]⟩

/-! RING_SQ_BASE (R391, 12_host_rings_and_completions.md) -/
def Fld.RING_SQ_BASE_BASE : Field := ⟨31, 6, 58, .rwo, 0, .any⟩
def Reg.RING_SQ_BASE : Reg :=
  ⟨"RING_SQ_BASE", 0x101000, [(16, 0x10000), (64, 0x20)], true, .sq,
   [Fld.RING_SQ_BASE_BASE]⟩

/-! RING_SQ_CFG (R391, 12_host_rings_and_completions.md) -/
def Fld.RING_SQ_CFG_EN : Field := ⟨32, 31, 1, .rw, 0, .any⟩
def Fld.RING_SQ_CFG_LOG2_SIZE : Field := ⟨33, 24, 5, .rwo, 8, .range 8 16⟩
def Fld.RING_SQ_CFG_CQ : Field := ⟨34, 16, 6, .rwo, 0, .any⟩
def Fld.RING_SQ_CFG_DSEL : Field := ⟨35, 15, 1, .rwo, 0, .any⟩
def Fld.RING_SQ_CFG_HOME_SKEIN : Field := ⟨36, 8, 6, .rwo, 0, .any⟩
def Reg.RING_SQ_CFG : Reg :=
  ⟨"RING_SQ_CFG", 0x101008, [(16, 0x10000), (64, 0x20)], false, .sq,
   [Fld.RING_SQ_CFG_EN, Fld.RING_SQ_CFG_LOG2_SIZE, Fld.RING_SQ_CFG_CQ, Fld.RING_SQ_CFG_DSEL, Fld.RING_SQ_CFG_HOME_SKEIN]⟩

/-! RING_SQ_HEAD (R391, 12_host_rings_and_completions.md) -/
def Fld.RING_SQ_HEAD_HEAD : Field := ⟨37, 0, 16, .ro, 0, .any⟩
def Reg.RING_SQ_HEAD : Reg :=
  ⟨"RING_SQ_HEAD", 0x10100C, [(16, 0x10000), (64, 0x20)], false, .sq,
   [Fld.RING_SQ_HEAD_HEAD]⟩

/-! RING_SQ_TAIL (R391, 12_host_rings_and_completions.md) -/
def Fld.RING_SQ_TAIL_TAIL : Field := ⟨38, 0, 16, .ro, 0, .any⟩
def Reg.RING_SQ_TAIL : Reg :=
  ⟨"RING_SQ_TAIL", 0x101010, [(16, 0x10000), (64, 0x20)], false, .sq,
   [Fld.RING_SQ_TAIL_TAIL]⟩

/-! RING_SQ_SEQ (R391, 12_host_rings_and_completions.md) -/
def Fld.RING_SQ_SEQ_SEQ : Field := ⟨39, 0, 32, .ro, 0, .any⟩
def Reg.RING_SQ_SEQ : Reg :=
  ⟨"RING_SQ_SEQ", 0x101014, [(16, 0x10000), (64, 0x20)], false, .sq,
   [Fld.RING_SQ_SEQ_SEQ]⟩

/-! RING_CQ_BASE (R391, 12_host_rings_and_completions.md) -/
def Fld.RING_CQ_BASE_BASE : Field := ⟨40, 5, 59, .rwo, 0, .any⟩
def Reg.RING_CQ_BASE : Reg :=
  ⟨"RING_CQ_BASE", 0x102000, [(16, 0x10000), (64, 0x20)], true, .cq,
   [Fld.RING_CQ_BASE_BASE]⟩

/-! RING_CQ_CFG (R391, 12_host_rings_and_completions.md) -/
def Fld.RING_CQ_CFG_EN : Field := ⟨41, 31, 1, .rw, 0, .any⟩
def Fld.RING_CQ_CFG_LOG2_SIZE : Field := ⟨42, 24, 5, .rwo, 8, .range 8 16⟩
def Fld.RING_CQ_CFG_VECTOR : Field := ⟨43, 16, 6, .rwo, 0, .any⟩
def Fld.RING_CQ_CFG_IEN : Field := ⟨44, 15, 1, .rw, 0, .any⟩
def Fld.RING_CQ_CFG_COAL_COUNT : Field := ⟨45, 8, 7, .rw, 1, .any⟩
def Fld.RING_CQ_CFG_COAL_TIME : Field := ⟨46, 0, 8, .rw, 0, .any⟩
def Reg.RING_CQ_CFG : Reg :=
  ⟨"RING_CQ_CFG", 0x102008, [(16, 0x10000), (64, 0x20)], false, .cq,
   [Fld.RING_CQ_CFG_EN, Fld.RING_CQ_CFG_LOG2_SIZE, Fld.RING_CQ_CFG_VECTOR, Fld.RING_CQ_CFG_IEN, Fld.RING_CQ_CFG_COAL_COUNT, Fld.RING_CQ_CFG_COAL_TIME]⟩

/-! RING_CQ_TAIL (R391, 12_host_rings_and_completions.md) -/
def Fld.RING_CQ_TAIL_PHASE : Field := ⟨47, 16, 1, .ro, 0, .any⟩
def Fld.RING_CQ_TAIL_TAIL : Field := ⟨48, 0, 16, .ro, 0, .any⟩
def Reg.RING_CQ_TAIL : Reg :=
  ⟨"RING_CQ_TAIL", 0x10200C, [(16, 0x10000), (64, 0x20)], false, .cq,
   [Fld.RING_CQ_TAIL_PHASE, Fld.RING_CQ_TAIL_TAIL]⟩

/-! RING_CQ_HEAD (R391, 12_host_rings_and_completions.md) -/
def Fld.RING_CQ_HEAD_HEAD : Field := ⟨49, 0, 16, .ro, 0, .any⟩
def Reg.RING_CQ_HEAD : Reg :=
  ⟨"RING_CQ_HEAD", 0x102010, [(16, 0x10000), (64, 0x20)], false, .cq,
   [Fld.RING_CQ_HEAD_HEAD]⟩

/-! RING_JOB (R391, 12_host_rings_and_completions.md) -/
def Fld.RING_JOB_VALID : Field := ⟨50, 31, 1, .rwo, 0, .any⟩
def Fld.RING_JOB_RELEASE_TOKENS : Field := ⟨51, 30, 1, .wo, 0, .any⟩
def Fld.RING_JOB_CLIENT : Field := ⟨52, 0, 4, .rwo, 0, .any⟩
def Reg.RING_JOB : Reg :=
  ⟨"RING_JOB", 0x104000, [(256, 0x4)], false, .job,
   [Fld.RING_JOB_VALID, Fld.RING_JOB_RELEASE_TOKENS, Fld.RING_JOB_CLIENT]⟩

/-! RING_EVSRC (R391, 12_host_rings_and_completions.md) -/
def Fld.RING_EVSRC_EN : Field := ⟨53, 31, 1, .rw, 0, .any⟩
def Fld.RING_EVSRC_CLIENT : Field := ⟨54, 16, 4, .rw, 0, .any⟩
def Fld.RING_EVSRC_VECTOR : Field := ⟨55, 0, 6, .rw, 0, .any⟩
def Reg.RING_EVSRC : Reg :=
  ⟨"RING_EVSRC", 0x104400, [(64, 0x4)], false, .none,
   [Fld.RING_EVSRC_EN, Fld.RING_EVSRC_CLIENT, Fld.RING_EVSRC_VECTOR]⟩

/-! MSIX_ADDR_LO (R381, 12_host_rings_and_completions.md) -/
def Fld.MSIX_ADDR_LO_ADDR : Field := ⟨56, 0, 32, .rw, 0, .any⟩
def Reg.MSIX_ADDR_LO : Reg :=
  ⟨"MSIX_ADDR_LO", 0x108000, [(16, 0x10000), (64, 0x10)], false, .none,
   [Fld.MSIX_ADDR_LO_ADDR]⟩

/-! MSIX_ADDR_HI (R381, 12_host_rings_and_completions.md) -/
def Fld.MSIX_ADDR_HI_ADDR : Field := ⟨57, 0, 32, .rw, 0, .any⟩
def Reg.MSIX_ADDR_HI : Reg :=
  ⟨"MSIX_ADDR_HI", 0x108004, [(16, 0x10000), (64, 0x10)], false, .none,
   [Fld.MSIX_ADDR_HI_ADDR]⟩

/-! MSIX_DATA (R381, 12_host_rings_and_completions.md) -/
def Fld.MSIX_DATA_DATA : Field := ⟨58, 0, 32, .rw, 0, .any⟩
def Reg.MSIX_DATA : Reg :=
  ⟨"MSIX_DATA", 0x108008, [(16, 0x10000), (64, 0x10)], false, .none,
   [Fld.MSIX_DATA_DATA]⟩

/-! MSIX_CTRL (R381, 12_host_rings_and_completions.md) -/
def Fld.MSIX_CTRL_MASK : Field := ⟨59, 0, 1, .rw, 1, .any⟩
def Reg.MSIX_CTRL : Reg :=
  ⟨"MSIX_CTRL", 0x10800C, [(16, 0x10000), (64, 0x10)], false, .none,
   [Fld.MSIX_CTRL_MASK]⟩

/-! MSIX_PBA (R381, 12_host_rings_and_completions.md) -/
def Fld.MSIX_PBA_PENDING : Field := ⟨60, 0, 64, .ro, 0, .any⟩
def Reg.MSIX_PBA : Reg :=
  ⟨"MSIX_PBA", 0x109000, [(16, 0x10000)], true, .none,
   [Fld.MSIX_PBA_PENDING]⟩

/-! HEDDLE_STATUS (R422, 13_heddle_scheduling.md) -/
def Fld.HEDDLE_STATUS_LOAD_REASON : Field := ⟨61, 8, 4, .ro, 0, .any⟩
def Fld.HEDDLE_STATUS_ABORTING : Field := ⟨62, 2, 1, .ro, 0, .any⟩
def Fld.HEDDLE_STATUS_PENDING_VALID : Field := ⟨63, 1, 1, .ro, 0, .any⟩
def Fld.HEDDLE_STATUS_ACTIVE_VALID : Field := ⟨64, 0, 1, .ro, 0, .any⟩
def Reg.HEDDLE_STATUS : Reg :=
  ⟨"HEDDLE_STATUS", 0x200000, [], false, .none,
   [Fld.HEDDLE_STATUS_LOAD_REASON, Fld.HEDDLE_STATUS_ABORTING, Fld.HEDDLE_STATUS_PENDING_VALID, Fld.HEDDLE_STATUS_ACTIVE_VALID]⟩

/-! HEDDLE_TBL_CMD (R422, 13_heddle_scheduling.md) -/
def Fld.HEDDLE_TBL_CMD_ARM : Field := ⟨65, 1, 1, .rw1s, 0, .any⟩
def Fld.HEDDLE_TBL_CMD_LOAD : Field := ⟨66, 0, 1, .wo, 0, .any⟩
def Reg.HEDDLE_TBL_CMD : Reg :=
  ⟨"HEDDLE_TBL_CMD", 0x200004, [], false, .none,
   [Fld.HEDDLE_TBL_CMD_ARM, Fld.HEDDLE_TBL_CMD_LOAD]⟩

/-! HEDDLE_TBL_ADDR (R422, 13_heddle_scheduling.md) -/
def Fld.HEDDLE_TBL_ADDR_ADDR : Field := ⟨67, 6, 58, .rw, 0, .any⟩
def Reg.HEDDLE_TBL_ADDR : Reg :=
  ⟨"HEDDLE_TBL_ADDR", 0x200008, [], true, .none,
   [Fld.HEDDLE_TBL_ADDR_ADDR]⟩

/-! HEDDLE_CYCLE_EPOCH (R422, 13_heddle_scheduling.md) -/
def Fld.HEDDLE_CYCLE_EPOCH_TIME : Field := ⟨68, 0, 64, .rwo, 0, .any⟩
def Reg.HEDDLE_CYCLE_EPOCH : Reg :=
  ⟨"HEDDLE_CYCLE_EPOCH", 0x200010, [], true, .notRun,
   [Fld.HEDDLE_CYCLE_EPOCH_TIME]⟩

/-! HEDDLE_CYCLE_START (R422, 13_heddle_scheduling.md) -/
def Fld.HEDDLE_CYCLE_START_TIME : Field := ⟨69, 0, 64, .ro, 0, .any⟩
def Reg.HEDDLE_CYCLE_START : Reg :=
  ⟨"HEDDLE_CYCLE_START", 0x200018, [], true, .none,
   [Fld.HEDDLE_CYCLE_START_TIME]⟩

/-! HEDDLE_CYCLE_COUNT (R422, 13_heddle_scheduling.md) -/
def Fld.HEDDLE_CYCLE_COUNT_COUNT : Field := ⟨70, 0, 64, .ro, 0, .any⟩
def Reg.HEDDLE_CYCLE_COUNT : Reg :=
  ⟨"HEDDLE_CYCLE_COUNT", 0x200020, [], true, .none,
   [Fld.HEDDLE_CYCLE_COUNT_COUNT]⟩

/-! HEDDLE_QUIESCE (R422, 13_heddle_scheduling.md) -/
def Fld.HEDDLE_QUIESCE_TICKS : Field := ⟨71, 0, 32, .rw, 8000, .any⟩
def Reg.HEDDLE_QUIESCE : Reg :=
  ⟨"HEDDLE_QUIESCE", 0x200028, [], false, .none,
   [Fld.HEDDLE_QUIESCE_TICKS]⟩

/-! HEDDLE_TEST_BOUND (R422, 13_heddle_scheduling.md) -/
def Fld.HEDDLE_TEST_BOUND_TICKS : Field := ⟨72, 0, 32, .ro, 0, .any⟩
def Reg.HEDDLE_TEST_BOUND : Reg :=
  ⟨"HEDDLE_TEST_BOUND", 0x20002C, [], false, .none,
   [Fld.HEDDLE_TEST_BOUND_TICKS]⟩

/-! HEDDLE_DRAIN_MAX (R422, 13_heddle_scheduling.md) -/
def Fld.HEDDLE_DRAIN_MAX_TICKS : Field := ⟨73, 0, 32, .ro, 40000000, .any⟩
def Reg.HEDDLE_DRAIN_MAX : Reg :=
  ⟨"HEDDLE_DRAIN_MAX", 0x200030, [], false, .none,
   [Fld.HEDDLE_DRAIN_MAX_TICKS]⟩

/-! HEDDLE_TEST_STATE (R422, 13_heddle_scheduling.md) -/
def Fld.HEDDLE_TEST_STATE_SKEIN : Field := ⟨74, 8, 6, .ro, 0, .any⟩
def Fld.HEDDLE_TEST_STATE_PHASE : Field := ⟨75, 0, 2, .ro, 0, .any⟩
def Reg.HEDDLE_TEST_STATE : Reg :=
  ⟨"HEDDLE_TEST_STATE", 0x200034, [], false, .none,
   [Fld.HEDDLE_TEST_STATE_SKEIN, Fld.HEDDLE_TEST_STATE_PHASE]⟩

/-! HEDDLE_EVT (R422, 13_heddle_scheduling.md) -/
def Fld.HEDDLE_EVT_CYCLE_SKIP : Field := ⟨76, 7, 1, .rw1c, 0, .any⟩
def Fld.HEDDLE_EVT_QUIESCE_LATE : Field := ⟨77, 6, 1, .rw1c, 0, .any⟩
def Fld.HEDDLE_EVT_ABORT_ABSORBED : Field := ⟨78, 5, 1, .rw1c, 0, .any⟩
def Fld.HEDDLE_EVT_JOB_ABORT : Field := ⟨79, 4, 1, .rw1c, 0, .any⟩
def Fld.HEDDLE_EVT_TEST_DEFER_DRAIN : Field := ⟨80, 3, 1, .rw1c, 0, .any⟩
def Fld.HEDDLE_EVT_TEST_DEFER_FIT : Field := ⟨81, 2, 1, .rw1c, 0, .any⟩
def Fld.HEDDLE_EVT_SWAPPED : Field := ⟨82, 1, 1, .rw1c, 0, .any⟩
def Fld.HEDDLE_EVT_TBL_REFUSED : Field := ⟨83, 0, 1, .rw1c, 0, .any⟩
def Reg.HEDDLE_EVT : Reg :=
  ⟨"HEDDLE_EVT", 0x200038, [], false, .none,
   [Fld.HEDDLE_EVT_CYCLE_SKIP, Fld.HEDDLE_EVT_QUIESCE_LATE, Fld.HEDDLE_EVT_ABORT_ABSORBED, Fld.HEDDLE_EVT_JOB_ABORT, Fld.HEDDLE_EVT_TEST_DEFER_DRAIN, Fld.HEDDLE_EVT_TEST_DEFER_FIT, Fld.HEDDLE_EVT_SWAPPED, Fld.HEDDLE_EVT_TBL_REFUSED]⟩

/-! HEDDLE_EVT_CNT (R422, 13_heddle_scheduling.md) -/
def Fld.HEDDLE_EVT_CNT_COUNT : Field := ⟨84, 0, 32, .rc, 0, .any⟩
def Reg.HEDDLE_EVT_CNT : Reg :=
  ⟨"HEDDLE_EVT_CNT", 0x20003C, [(7, 0x4)], false, .none,
   [Fld.HEDDLE_EVT_CNT_COUNT]⟩

/-! HEDDLE_CNT_STEAL (R422, 13_heddle_scheduling.md) -/
def Fld.HEDDLE_CNT_STEAL_COUNT : Field := ⟨85, 0, 32, .rc, 0, .any⟩
def Reg.HEDDLE_CNT_STEAL : Reg :=
  ⟨"HEDDLE_CNT_STEAL", 0x200058, [], false, .none,
   [Fld.HEDDLE_CNT_STEAL_COUNT]⟩

/-! HEDDLE_CNT_PREEMPT (R422, 13_heddle_scheduling.md) -/
def Fld.HEDDLE_CNT_PREEMPT_COUNT : Field := ⟨86, 0, 32, .rc, 0, .any⟩
def Reg.HEDDLE_CNT_PREEMPT : Reg :=
  ⟨"HEDDLE_CNT_PREEMPT", 0x20005C, [], false, .none,
   [Fld.HEDDLE_CNT_PREEMPT_COUNT]⟩

/-! HEDDLE_ABORT_CAP (R422, 13_heddle_scheduling.md) -/
def Fld.HEDDLE_ABORT_CAP_STATUS : Field := ⟨87, 16, 16, .ro, 0, .any⟩
def Fld.HEDDLE_ABORT_CAP_JOB : Field := ⟨88, 8, 8, .ro, 0, .any⟩
def Fld.HEDDLE_ABORT_CAP_SOURCE : Field := ⟨89, 0, 8, .ro, 0, .any⟩
def Reg.HEDDLE_ABORT_CAP : Reg :=
  ⟨"HEDDLE_ABORT_CAP", 0x200060, [], false, .none,
   [Fld.HEDDLE_ABORT_CAP_STATUS, Fld.HEDDLE_ABORT_CAP_JOB, Fld.HEDDLE_ABORT_CAP_SOURCE]⟩

/-! HEDDLE_ABORT_TIME (R422, 13_heddle_scheduling.md) -/
def Fld.HEDDLE_ABORT_TIME_TIME : Field := ⟨90, 0, 64, .ro, 0, .any⟩
def Reg.HEDDLE_ABORT_TIME : Reg :=
  ⟨"HEDDLE_ABORT_TIME", 0x200068, [], true, .none,
   [Fld.HEDDLE_ABORT_TIME_TIME]⟩

/-! HEDDLE_SAVE_BASE (R422, 13_heddle_scheduling.md) -/
def Fld.HEDDLE_SAVE_BASE_BASE : Field := ⟨91, 28, 36, .rwo, 0, .any⟩
def Reg.HEDDLE_SAVE_BASE : Reg :=
  ⟨"HEDDLE_SAVE_BASE", 0x200070, [], true, .notRun,
   [Fld.HEDDLE_SAVE_BASE_BASE]⟩

/-! HEDDLE_ACCT_IDLE (R422, 13_heddle_scheduling.md) -/
def Fld.HEDDLE_ACCT_IDLE_MW : Field := ⟨92, 0, 32, .rw, 0, .any⟩
def Reg.HEDDLE_ACCT_IDLE : Reg :=
  ⟨"HEDDLE_ACCT_IDLE", 0x200078, [], false, .none,
   [Fld.HEDDLE_ACCT_IDLE_MW]⟩

/-! HEDDLE_ACCT_W (R422, 13_heddle_scheduling.md) -/
def Fld.HEDDLE_ACCT_W_WEIGHT : Field := ⟨93, 0, 32, .rw, 1, .any⟩
def Reg.HEDDLE_ACCT_W : Reg :=
  ⟨"HEDDLE_ACCT_W", 0x200080, [(6, 0x4)], false, .none,
   [Fld.HEDDLE_ACCT_W_WEIGHT]⟩

/-! HEDDLE_EVT_CNT7 (R422, 13_heddle_scheduling.md) -/
def Fld.HEDDLE_EVT_CNT7_COUNT : Field := ⟨94, 0, 32, .rc, 0, .any⟩
def Reg.HEDDLE_EVT_CNT7 : Reg :=
  ⟨"HEDDLE_EVT_CNT7", 0x2000A0, [], false, .none,
   [Fld.HEDDLE_EVT_CNT7_COUNT]⟩

/-! HEDDLE_JOB_CFG (R422, 13_heddle_scheduling.md) -/
def Fld.HEDDLE_JOB_CFG_STEAL_EN : Field := ⟨95, 2, 1, .rwo, 0, .any⟩
def Fld.HEDDLE_JOB_CFG_CLASS : Field := ⟨96, 0, 2, .rwo, 2, .range 0 2⟩
def Reg.HEDDLE_JOB_CFG : Reg :=
  ⟨"HEDDLE_JOB_CFG", 0x200400, [(256, 0x10)], false, .job,
   [Fld.HEDDLE_JOB_CFG_STEAL_EN, Fld.HEDDLE_JOB_CFG_CLASS]⟩

/-! HEDDLE_JOB_STEAL (R422, 13_heddle_scheduling.md) -/
def Fld.HEDDLE_JOB_STEAL_MASK : Field := ⟨97, 0, 64, .rwo, 0, .any⟩
def Reg.HEDDLE_JOB_STEAL : Reg :=
  ⟨"HEDDLE_JOB_STEAL", 0x200408, [(256, 0x10)], true, .job,
   [Fld.HEDDLE_JOB_STEAL_MASK]⟩

/-! HEDDLE_ACCT_BEATS_LOOM (R422, 13_heddle_scheduling.md) -/
def Fld.HEDDLE_ACCT_BEATS_LOOM_COUNT : Field := ⟨98, 0, 64, .ro, 0, .any⟩
def Reg.HEDDLE_ACCT_BEATS_LOOM : Reg :=
  ⟨"HEDDLE_ACCT_BEATS_LOOM", 0x202000, [(17, 0x80)], true, .none,
   [Fld.HEDDLE_ACCT_BEATS_LOOM_COUNT]⟩

/-! HEDDLE_ACCT_BEATS_VEC (R422, 13_heddle_scheduling.md) -/
def Fld.HEDDLE_ACCT_BEATS_VEC_COUNT : Field := ⟨99, 0, 64, .ro, 0, .any⟩
def Reg.HEDDLE_ACCT_BEATS_VEC : Reg :=
  ⟨"HEDDLE_ACCT_BEATS_VEC", 0x202008, [(17, 0x80)], true, .none,
   [Fld.HEDDLE_ACCT_BEATS_VEC_COUNT]⟩

/-! HEDDLE_ACCT_BEATS_DRAFT (R422, 13_heddle_scheduling.md) -/
def Fld.HEDDLE_ACCT_BEATS_DRAFT_COUNT : Field := ⟨100, 0, 64, .ro, 0, .any⟩
def Reg.HEDDLE_ACCT_BEATS_DRAFT : Reg :=
  ⟨"HEDDLE_ACCT_BEATS_DRAFT", 0x202010, [(17, 0x80)], true, .none,
   [Fld.HEDDLE_ACCT_BEATS_DRAFT_COUNT]⟩

/-! HEDDLE_ACCT_BEATS_SPINDLE (R422, 13_heddle_scheduling.md) -/
def Fld.HEDDLE_ACCT_BEATS_SPINDLE_COUNT : Field := ⟨101, 0, 64, .ro, 0, .any⟩
def Reg.HEDDLE_ACCT_BEATS_SPINDLE : Reg :=
  ⟨"HEDDLE_ACCT_BEATS_SPINDLE", 0x202018, [(17, 0x80)], true, .none,
   [Fld.HEDDLE_ACCT_BEATS_SPINDLE_COUNT]⟩

/-! HEDDLE_ACCT_BEATS_PLY (R422, 13_heddle_scheduling.md) -/
def Fld.HEDDLE_ACCT_BEATS_PLY_COUNT : Field := ⟨102, 0, 64, .ro, 0, .any⟩
def Reg.HEDDLE_ACCT_BEATS_PLY : Reg :=
  ⟨"HEDDLE_ACCT_BEATS_PLY", 0x202020, [(17, 0x80)], true, .none,
   [Fld.HEDDLE_ACCT_BEATS_PLY_COUNT]⟩

/-! HEDDLE_ACCT_BEATS_HUB (R422, 13_heddle_scheduling.md) -/
def Fld.HEDDLE_ACCT_BEATS_HUB_COUNT : Field := ⟨103, 0, 64, .ro, 0, .any⟩
def Reg.HEDDLE_ACCT_BEATS_HUB : Reg :=
  ⟨"HEDDLE_ACCT_BEATS_HUB", 0x202028, [(17, 0x80)], true, .none,
   [Fld.HEDDLE_ACCT_BEATS_HUB_COUNT]⟩

/-! HEDDLE_ACCT_BYTES_LPDDR_RD (R422, 13_heddle_scheduling.md) -/
def Fld.HEDDLE_ACCT_BYTES_LPDDR_RD_COUNT : Field := ⟨104, 0, 64, .ro, 0, .any⟩
def Reg.HEDDLE_ACCT_BYTES_LPDDR_RD : Reg :=
  ⟨"HEDDLE_ACCT_BYTES_LPDDR_RD", 0x202030, [(17, 0x80)], true, .none,
   [Fld.HEDDLE_ACCT_BYTES_LPDDR_RD_COUNT]⟩

/-! HEDDLE_ACCT_BYTES_LPDDR_WR (R422, 13_heddle_scheduling.md) -/
def Fld.HEDDLE_ACCT_BYTES_LPDDR_WR_COUNT : Field := ⟨105, 0, 64, .ro, 0, .any⟩
def Reg.HEDDLE_ACCT_BYTES_LPDDR_WR : Reg :=
  ⟨"HEDDLE_ACCT_BYTES_LPDDR_WR", 0x202038, [(17, 0x80)], true, .none,
   [Fld.HEDDLE_ACCT_BYTES_LPDDR_WR_COUNT]⟩

/-! HEDDLE_ACCT_BYTES_PCIE (R422, 13_heddle_scheduling.md) -/
def Fld.HEDDLE_ACCT_BYTES_PCIE_COUNT : Field := ⟨106, 0, 64, .ro, 0, .any⟩
def Reg.HEDDLE_ACCT_BYTES_PCIE : Reg :=
  ⟨"HEDDLE_ACCT_BYTES_PCIE", 0x202040, [(17, 0x80)], true, .none,
   [Fld.HEDDLE_ACCT_BYTES_PCIE_COUNT]⟩

/-! HEDDLE_ACCT_BYTES_IDWARD (R422, 13_heddle_scheduling.md) -/
def Fld.HEDDLE_ACCT_BYTES_IDWARD_COUNT : Field := ⟨107, 0, 64, .ro, 0, .any⟩
def Reg.HEDDLE_ACCT_BYTES_IDWARD : Reg :=
  ⟨"HEDDLE_ACCT_BYTES_IDWARD", 0x202048, [(17, 0x80)], true, .none,
   [Fld.HEDDLE_ACCT_BYTES_IDWARD_COUNT]⟩

/-! HEDDLE_ACCT_ENERGY (R422, 13_heddle_scheduling.md) -/
def Fld.HEDDLE_ACCT_ENERGY_COUNT : Field := ⟨108, 0, 64, .ro, 0, .any⟩
def Reg.HEDDLE_ACCT_ENERGY : Reg :=
  ⟨"HEDDLE_ACCT_ENERGY", 0x202050, [(17, 0x80)], true, .none,
   [Fld.HEDDLE_ACCT_ENERGY_COUNT]⟩

/-! HEDDLE_DETJ_CFG (R514, 17_determinism_and_audit.md) -/
def Fld.HEDDLE_DETJ_CFG_REC_LOG2 : Field := ⟨109, 4, 4, .rwo, 0, .any⟩
def Fld.HEDDLE_DETJ_CFG_SIGN : Field := ⟨110, 1, 1, .rw, 0, .any⟩
def Fld.HEDDLE_DETJ_CFG_TWIST : Field := ⟨111, 0, 1, .rwo, 0, .any⟩
def Reg.HEDDLE_DETJ_CFG : Reg :=
  ⟨"HEDDLE_DETJ_CFG", 0x203000, [(256, 0x20)], false, .job,
   [Fld.HEDDLE_DETJ_CFG_REC_LOG2, Fld.HEDDLE_DETJ_CFG_SIGN, Fld.HEDDLE_DETJ_CFG_TWIST]⟩

/-! HEDDLE_DETJ_STATUS (R514, 17_determinism_and_audit.md) -/
def Fld.HEDDLE_DETJ_STATUS_TIMING_STATUS : Field := ⟨112, 0, 1, .ro, 0, .any⟩
def Reg.HEDDLE_DETJ_STATUS : Reg :=
  ⟨"HEDDLE_DETJ_STATUS", 0x203004, [(256, 0x20)], false, .none,
   [Fld.HEDDLE_DETJ_STATUS_TIMING_STATUS]⟩

/-! HEDDLE_DETJ_CTRL (R514, 17_determinism_and_audit.md) -/
def Fld.HEDDLE_DETJ_CTRL_CLEAR : Field := ⟨113, 0, 1, .wo, 0, .any⟩
def Reg.HEDDLE_DETJ_CTRL : Reg :=
  ⟨"HEDDLE_DETJ_CTRL", 0x203008, [(256, 0x20)], false, .none,
   [Fld.HEDDLE_DETJ_CTRL_CLEAR]⟩

/-! HEDDLE_DETJ_REC_WR (R514, 17_determinism_and_audit.md) -/
def Fld.HEDDLE_DETJ_REC_WR_COUNT : Field := ⟨114, 0, 32, .ro, 0, .any⟩
def Reg.HEDDLE_DETJ_REC_WR : Reg :=
  ⟨"HEDDLE_DETJ_REC_WR", 0x20300C, [(256, 0x20)], false, .none,
   [Fld.HEDDLE_DETJ_REC_WR_COUNT]⟩

/-! HEDDLE_DETJ_NDC (R514, 17_determinism_and_audit.md) -/
def Fld.HEDDLE_DETJ_NDC_COUNT : Field := ⟨115, 0, 64, .ro, 0, .any⟩
def Reg.HEDDLE_DETJ_NDC : Reg :=
  ⟨"HEDDLE_DETJ_NDC", 0x203010, [(256, 0x20)], true, .none,
   [Fld.HEDDLE_DETJ_NDC_COUNT]⟩

/-! HEDDLE_DETJ_REC_BASE (R514, 17_determinism_and_audit.md) -/
def Fld.HEDDLE_DETJ_REC_BASE_BASE : Field := ⟨116, 8, 56, .rwo, 0, .any⟩
def Reg.HEDDLE_DETJ_REC_BASE : Reg :=
  ⟨"HEDDLE_DETJ_REC_BASE", 0x203018, [(256, 0x20)], true, .job,
   [Fld.HEDDLE_DETJ_REC_BASE_BASE]⟩

/-! HEDDLE_DET_SEL (R514, 17_determinism_and_audit.md) -/
def Fld.HEDDLE_DET_SEL_JOB : Field := ⟨117, 0, 8, .rw, 0, .any⟩
def Reg.HEDDLE_DET_SEL : Reg :=
  ⟨"HEDDLE_DET_SEL", 0x205000, [], false, .none,
   [Fld.HEDDLE_DET_SEL_JOB]⟩

/-! HEDDLE_DET_BASE_REC (R514, 17_determinism_and_audit.md) -/
def Fld.HEDDLE_DET_BASE_REC_ADDR : Field := ⟨118, 0, 64, .ro, 0, .any⟩
def Reg.HEDDLE_DET_BASE_REC : Reg :=
  ⟨"HEDDLE_DET_BASE_REC", 0x205008, [], true, .none,
   [Fld.HEDDLE_DET_BASE_REC_ADDR]⟩

/-! HEDDLE_DET_EVT (R514, 17_determinism_and_audit.md) -/
def Fld.HEDDLE_DET_EVT_NDC_SAT : Field := ⟨119, 1, 1, .rw1c, 0, .any⟩
def Fld.HEDDLE_DET_EVT_SIGN_SKIPPED : Field := ⟨120, 0, 1, .rw1c, 0, .any⟩
def Reg.HEDDLE_DET_EVT : Reg :=
  ⟨"HEDDLE_DET_EVT", 0x205010, [], false, .none,
   [Fld.HEDDLE_DET_EVT_NDC_SAT, Fld.HEDDLE_DET_EVT_SIGN_SKIPPED]⟩

/-! HEDDLE_DET_EVT_CNT (R514, 17_determinism_and_audit.md) -/
def Fld.HEDDLE_DET_EVT_CNT_COUNT : Field := ⟨121, 0, 32, .rc, 0, .any⟩
def Reg.HEDDLE_DET_EVT_CNT : Reg :=
  ⟨"HEDDLE_DET_EVT_CNT", 0x205014, [(2, 0x4)], false, .none,
   [Fld.HEDDLE_DET_EVT_CNT_COUNT]⟩

def regsHost0 : List Reg :=
  [Reg.HUB_ID, Reg.HUB_STEPPING, Reg.HUB_COMPAT_SET, Reg.HUB_STATE, Reg.HUB_STATE_REQ, Reg.HUB_EVT, Reg.HUB_EVT_CNT_STATE, Reg.HUB_EVT_CNT_REQ, Reg.HUB_EVT_CNT_RETIRE, Reg.HUB_SKEIN_LIVE, Reg.RING_CLIENT_ID, Reg.RING_PROTO, Reg.RING_PROTO_SEL, Reg.RING_CLIENT_STATUS, Reg.RING_EVT, Reg.RING_EVT_CNT, Reg.RING_DB_CAP, Reg.RING_SQ_BASE, Reg.RING_SQ_CFG, Reg.RING_SQ_HEAD, Reg.RING_SQ_TAIL, Reg.RING_SQ_SEQ, Reg.RING_CQ_BASE, Reg.RING_CQ_CFG, Reg.RING_CQ_TAIL, Reg.RING_CQ_HEAD, Reg.RING_JOB, Reg.RING_EVSRC, Reg.MSIX_ADDR_LO, Reg.MSIX_ADDR_HI, Reg.MSIX_DATA, Reg.MSIX_CTRL, Reg.MSIX_PBA, Reg.HEDDLE_STATUS, Reg.HEDDLE_TBL_CMD, Reg.HEDDLE_TBL_ADDR, Reg.HEDDLE_CYCLE_EPOCH, Reg.HEDDLE_CYCLE_START, Reg.HEDDLE_CYCLE_COUNT, Reg.HEDDLE_QUIESCE]

def regsHost1 : List Reg :=
  [Reg.HEDDLE_TEST_BOUND, Reg.HEDDLE_DRAIN_MAX, Reg.HEDDLE_TEST_STATE, Reg.HEDDLE_EVT, Reg.HEDDLE_EVT_CNT, Reg.HEDDLE_CNT_STEAL, Reg.HEDDLE_CNT_PREEMPT, Reg.HEDDLE_ABORT_CAP, Reg.HEDDLE_ABORT_TIME, Reg.HEDDLE_SAVE_BASE, Reg.HEDDLE_ACCT_IDLE, Reg.HEDDLE_ACCT_W, Reg.HEDDLE_EVT_CNT7, Reg.HEDDLE_JOB_CFG, Reg.HEDDLE_JOB_STEAL, Reg.HEDDLE_ACCT_BEATS_LOOM, Reg.HEDDLE_ACCT_BEATS_VEC, Reg.HEDDLE_ACCT_BEATS_DRAFT, Reg.HEDDLE_ACCT_BEATS_SPINDLE, Reg.HEDDLE_ACCT_BEATS_PLY, Reg.HEDDLE_ACCT_BEATS_HUB, Reg.HEDDLE_ACCT_BYTES_LPDDR_RD, Reg.HEDDLE_ACCT_BYTES_LPDDR_WR, Reg.HEDDLE_ACCT_BYTES_PCIE, Reg.HEDDLE_ACCT_BYTES_IDWARD, Reg.HEDDLE_ACCT_ENERGY, Reg.HEDDLE_DETJ_CFG, Reg.HEDDLE_DETJ_STATUS, Reg.HEDDLE_DETJ_CTRL, Reg.HEDDLE_DETJ_REC_WR, Reg.HEDDLE_DETJ_NDC, Reg.HEDDLE_DETJ_REC_BASE, Reg.HEDDLE_DET_SEL, Reg.HEDDLE_DET_BASE_REC, Reg.HEDDLE_DET_EVT, Reg.HEDDLE_DET_EVT_CNT]

/-- The registers of this file. -/
def regsHost : List Reg := regsHost0 ++ regsHost1

end Sys2Proof.Machine
end

