-- ==== Sys2Proof/Machine/RegsNet.lean ====
section
/-! DEFINITION. The register map of the IWL, ETH and CAN blocks (Tables 14.8, 14.9, 15.5, 15.6, 16.4, 16.5).

A field `Fld.REGISTER_FIELD` is one field row of the spec's register tables: its storage code, its
lowest bit, its width, its access code of Table 0.1, its reset value (0 where the table says `boot`:
BOOT loads it) and the values R600 lets a write give it.  A register `Reg.NAME` is its name, BAR0
address, index strides, whether it is 64 bits wide, the unit whose CONFIG gates its RWO fields, and
its fields. -/

namespace Sys2Proof.Machine

/-! IWL_CTRL (R453, 14_idward_links_and_experts.md) -/
def Fld.IWL_CTRL_RELAY_EN : Field := ⟨516, 31, 1, .rwo, 0, .any⟩
def Fld.IWL_CTRL_PKG_ID : Field := ⟨517, 24, 7, .rwo, 0, .any⟩
def Fld.IWL_CTRL_MODE : Field := ⟨518, 22, 2, .rwo, 0, .range 0 2⟩
def Fld.IWL_CTRL_DIM_X : Field := ⟨519, 8, 8, .rwo, 2, .any⟩
def Fld.IWL_CTRL_DIM_Y : Field := ⟨520, 0, 8, .rwo, 1, .any⟩
def Reg.IWL_CTRL : Reg :=
  ⟨"IWL_CTRL", 0x800000, [], false, .links,
   [Fld.IWL_CTRL_RELAY_EN, Fld.IWL_CTRL_PKG_ID, Fld.IWL_CTRL_MODE, Fld.IWL_CTRL_DIM_X, Fld.IWL_CTRL_DIM_Y]⟩

/-! IWL_TIMEOUT (R453, 14_idward_links_and_experts.md) -/
def Fld.IWL_TIMEOUT_US : Field := ⟨521, 0, 16, .rw, 100, .range 1 65535⟩
def Reg.IWL_TIMEOUT : Reg :=
  ⟨"IWL_TIMEOUT", 0x800004, [], false, .links,
   [Fld.IWL_TIMEOUT_US]⟩

/-! IWL_RELAY_BASE (R453, 14_idward_links_and_experts.md) -/
def Fld.IWL_RELAY_BASE_BASE : Field := ⟨522, 6, 58, .rwo, 0, .any⟩
def Reg.IWL_RELAY_BASE : Reg :=
  ⟨"IWL_RELAY_BASE", 0x800008, [], true, .links,
   [Fld.IWL_RELAY_BASE_BASE]⟩

/-! IWL_EXPERT_BASE (R453, 14_idward_links_and_experts.md) -/
def Fld.IWL_EXPERT_BASE_BASE : Field := ⟨523, 6, 58, .rwo, 0, .any⟩
def Reg.IWL_EXPERT_BASE : Reg :=
  ⟨"IWL_EXPERT_BASE", 0x800010, [], true, .links,
   [Fld.IWL_EXPERT_BASE_BASE]⟩

/-! IWL_BAR_BASE (R453, 14_idward_links_and_experts.md) -/
def Fld.IWL_BAR_BASE_BASE : Field := ⟨524, 6, 58, .rwo, 0, .any⟩
def Reg.IWL_BAR_BASE : Reg :=
  ⟨"IWL_BAR_BASE", 0x800018, [], true, .links,
   [Fld.IWL_BAR_BASE_BASE]⟩

/-! IWL_TS_CTRL (R453, 14_idward_links_and_experts.md) -/
def Fld.IWL_TS_CTRL_TS_EN : Field := ⟨525, 31, 1, .rwo, 0, .any⟩
def Fld.IWL_TS_CTRL_MASTER_PKG : Field := ⟨526, 24, 7, .rwo, 0, .any⟩
def Fld.IWL_TS_CTRL_PERIOD : Field := ⟨527, 0, 16, .rwo, 125, .range 16 65535⟩
def Reg.IWL_TS_CTRL : Reg :=
  ⟨"IWL_TS_CTRL", 0x800020, [], false, .links,
   [Fld.IWL_TS_CTRL_TS_EN, Fld.IWL_TS_CTRL_MASTER_PKG, Fld.IWL_TS_CTRL_PERIOD]⟩

/-! IWL_TS_STEP (R453, 14_idward_links_and_experts.md) -/
def Fld.IWL_TS_STEP_TICKS : Field := ⟨528, 0, 32, .rw, 400, .any⟩
def Reg.IWL_TS_STEP : Reg :=
  ⟨"IWL_TS_STEP", 0x800024, [], false, .links,
   [Fld.IWL_TS_STEP_TICKS]⟩

/-! IWL_TS_STATUS (R453, 14_idward_links_and_experts.md) -/
def Fld.IWL_TS_STATUS_OFFSET : Field := ⟨529, 16, 16, .ro, 0, .any⟩
def Fld.IWL_TS_STATUS_UPSTREAM : Field := ⟨530, 4, 3, .ro, 7, .any⟩
def Fld.IWL_TS_STATUS_HOLDOVER : Field := ⟨531, 1, 1, .ro, 0, .any⟩
def Fld.IWL_TS_STATUS_LOCKED : Field := ⟨532, 0, 1, .ro, 0, .any⟩
def Reg.IWL_TS_STATUS : Reg :=
  ⟨"IWL_TS_STATUS", 0x800028, [], false, .links,
   [Fld.IWL_TS_STATUS_OFFSET, Fld.IWL_TS_STATUS_UPSTREAM, Fld.IWL_TS_STATUS_HOLDOVER, Fld.IWL_TS_STATUS_LOCKED]⟩

/-! IWL_EVT (R453, 14_idward_links_and_experts.md) -/
def Fld.IWL_EVT_BARRIER_FAIL : Field := ⟨533, 9, 1, .rw1c, 0, .any⟩
def Fld.IWL_EVT_RELAY_BAD : Field := ⟨534, 8, 1, .rw1c, 0, .any⟩
def Fld.IWL_EVT_BACKPRESSURE : Field := ⟨535, 7, 1, .rw1c, 0, .any⟩
def Fld.IWL_EVT_TS_STEP : Field := ⟨536, 6, 1, .rw1c, 0, .any⟩
def Fld.IWL_EVT_TS_LOST : Field := ⟨537, 5, 1, .rw1c, 0, .any⟩
def Fld.IWL_EVT_LATE_REPLY : Field := ⟨538, 4, 1, .rw1c, 0, .any⟩
def Fld.IWL_EVT_REMOTE_TIMEOUT : Field := ⟨539, 3, 1, .rw1c, 0, .any⟩
def Fld.IWL_EVT_REPLAY_LIMIT : Field := ⟨540, 2, 1, .rw1c, 0, .any⟩
def Fld.IWL_EVT_MISWIRED : Field := ⟨541, 1, 1, .rw1c, 0, .any⟩
def Fld.IWL_EVT_LINK_DOWN : Field := ⟨542, 0, 1, .rw1c, 0, .any⟩
def Reg.IWL_EVT : Reg :=
  ⟨"IWL_EVT", 0x80002C, [], false, .links,
   [Fld.IWL_EVT_BARRIER_FAIL, Fld.IWL_EVT_RELAY_BAD, Fld.IWL_EVT_BACKPRESSURE, Fld.IWL_EVT_TS_STEP, Fld.IWL_EVT_TS_LOST, Fld.IWL_EVT_LATE_REPLY, Fld.IWL_EVT_REMOTE_TIMEOUT, Fld.IWL_EVT_REPLAY_LIMIT, Fld.IWL_EVT_MISWIRED, Fld.IWL_EVT_LINK_DOWN]⟩

/-! IWL_CNT_OVF (R453, 14_idward_links_and_experts.md) -/
def Fld.IWL_CNT_OVF_COUNT : Field := ⟨543, 0, 32, .rc, 0, .any⟩
def Reg.IWL_CNT_OVF : Reg :=
  ⟨"IWL_CNT_OVF", 0x800058, [], false, .links,
   [Fld.IWL_CNT_OVF_COUNT]⟩

/-! IWL_EVT_CNT (R453, 14_idward_links_and_experts.md) -/
def Fld.IWL_EVT_CNT_COUNT : Field := ⟨544, 0, 32, .rc, 0, .any⟩
def Reg.IWL_EVT_CNT : Reg :=
  ⟨"IWL_EVT_CNT", 0x800030, [(10, 0x4)], false, .links,
   [Fld.IWL_EVT_CNT_COUNT]⟩

/-! IWL_P_CTRL (R453, 14_idward_links_and_experts.md) -/
def Fld.IWL_P_CTRL_EN : Field := ⟨545, 31, 1, .rw, 0, .any⟩
def Fld.IWL_P_CTRL_AUTO_RETRAIN : Field := ⟨546, 30, 1, .rwo, 1, .any⟩
def Reg.IWL_P_CTRL : Reg :=
  ⟨"IWL_P_CTRL", 0x800100, [(6, 0x40)], false, .port,
   [Fld.IWL_P_CTRL_EN, Fld.IWL_P_CTRL_AUTO_RETRAIN]⟩

/-! IWL_P_STATUS (R453, 14_idward_links_and_experts.md) -/
def Fld.IWL_P_STATUS_NEIGHBOUR : Field := ⟨547, 24, 7, .ro, 0, .any⟩
def Fld.IWL_P_STATUS_LANE_LOCK : Field := ⟨548, 16, 4, .ro, 0, .any⟩
def Fld.IWL_P_STATUS_STATE : Field := ⟨549, 0, 2, .ro, 0, .any⟩
def Reg.IWL_P_STATUS : Reg :=
  ⟨"IWL_P_STATUS", 0x800104, [(6, 0x40)], false, .port,
   [Fld.IWL_P_STATUS_NEIGHBOUR, Fld.IWL_P_STATUS_LANE_LOCK, Fld.IWL_P_STATUS_STATE]⟩

/-! IWL_P_REPLAY_CFG (R453, 14_idward_links_and_experts.md) -/
def Fld.IWL_P_REPLAY_CFG_REPLAY_MAX : Field := ⟨550, 16, 8, .rw, 8, .range 1 255⟩
def Fld.IWL_P_REPLAY_CFG_REPLAY_TIMEOUT : Field := ⟨551, 0, 16, .rw, 2000, .any⟩
def Reg.IWL_P_REPLAY_CFG : Reg :=
  ⟨"IWL_P_REPLAY_CFG", 0x800108, [(6, 0x40)], false, .port,
   [Fld.IWL_P_REPLAY_CFG_REPLAY_MAX, Fld.IWL_P_REPLAY_CFG_REPLAY_TIMEOUT]⟩

/-! IWL_P_LINK_DELAY (R453, 14_idward_links_and_experts.md) -/
def Fld.IWL_P_LINK_DELAY_TICKS : Field := ⟨552, 0, 32, .ro, 0, .any⟩
def Reg.IWL_P_LINK_DELAY : Reg :=
  ⟨"IWL_P_LINK_DELAY", 0x80010C, [(6, 0x40)], false, .port,
   [Fld.IWL_P_LINK_DELAY_TICKS]⟩

/-! IWL_P_FEC_CORR (R453, 14_idward_links_and_experts.md) -/
def Fld.IWL_P_FEC_CORR_COUNT : Field := ⟨553, 0, 32, .rc, 0, .any⟩
def Reg.IWL_P_FEC_CORR : Reg :=
  ⟨"IWL_P_FEC_CORR", 0x800110, [(6, 0x40)], false, .port,
   [Fld.IWL_P_FEC_CORR_COUNT]⟩

/-! IWL_P_FEC_UNCORR (R453, 14_idward_links_and_experts.md) -/
def Fld.IWL_P_FEC_UNCORR_COUNT : Field := ⟨554, 0, 32, .rc, 0, .any⟩
def Reg.IWL_P_FEC_UNCORR : Reg :=
  ⟨"IWL_P_FEC_UNCORR", 0x800114, [(6, 0x40)], false, .port,
   [Fld.IWL_P_FEC_UNCORR_COUNT]⟩

/-! IWL_P_CRC_ERR (R453, 14_idward_links_and_experts.md) -/
def Fld.IWL_P_CRC_ERR_COUNT : Field := ⟨555, 0, 32, .rc, 0, .any⟩
def Reg.IWL_P_CRC_ERR : Reg :=
  ⟨"IWL_P_CRC_ERR", 0x800118, [(6, 0x40)], false, .port,
   [Fld.IWL_P_CRC_ERR_COUNT]⟩

/-! IWL_P_REPLAYS (R453, 14_idward_links_and_experts.md) -/
def Fld.IWL_P_REPLAYS_COUNT : Field := ⟨556, 0, 32, .rc, 0, .any⟩
def Reg.IWL_P_REPLAYS : Reg :=
  ⟨"IWL_P_REPLAYS", 0x80011C, [(6, 0x40)], false, .port,
   [Fld.IWL_P_REPLAYS_COUNT]⟩

/-! IWL_P_TX_BYTES (R453, 14_idward_links_and_experts.md) -/
def Fld.IWL_P_TX_BYTES_BYTES : Field := ⟨557, 0, 64, .ro, 0, .any⟩
def Reg.IWL_P_TX_BYTES : Reg :=
  ⟨"IWL_P_TX_BYTES", 0x800120, [(6, 0x40)], true, .port,
   [Fld.IWL_P_TX_BYTES_BYTES]⟩

/-! IWL_P_RX_BYTES (R453, 14_idward_links_and_experts.md) -/
def Fld.IWL_P_RX_BYTES_BYTES : Field := ⟨558, 0, 64, .ro, 0, .any⟩
def Reg.IWL_P_RX_BYTES : Reg :=
  ⟨"IWL_P_RX_BYTES", 0x800128, [(6, 0x40)], true, .port,
   [Fld.IWL_P_RX_BYTES_BYTES]⟩

/-! IWL_DISP_LIST (R453, 14_idward_links_and_experts.md) -/
def Fld.IWL_DISP_LIST_BASE : Field := ⟨559, 6, 58, .rwo, 0, .any⟩
def Reg.IWL_DISP_LIST : Reg :=
  ⟨"IWL_DISP_LIST", 0x800400, [(8, 0x20)], true, .dispatcher,
   [Fld.IWL_DISP_LIST_BASE]⟩

/-! IWL_DISP_CFG (R453, 14_idward_links_and_experts.md) -/
def Fld.IWL_DISP_CFG_VALID : Field := ⟨560, 31, 1, .rwo, 0, .any⟩
def Fld.IWL_DISP_CFG_LOG2 : Field := ⟨561, 24, 5, .rwo, 8, .range 4 16⟩
def Fld.IWL_DISP_CFG_JOB : Field := ⟨562, 16, 8, .rwo, 0, .any⟩
def Fld.IWL_DISP_CFG_DONE_TOKEN : Field := ⟨563, 0, 16, .rwo, 0, .any⟩
def Reg.IWL_DISP_CFG : Reg :=
  ⟨"IWL_DISP_CFG", 0x800408, [(8, 0x20)], false, .dispatcher,
   [Fld.IWL_DISP_CFG_VALID, Fld.IWL_DISP_CFG_LOG2, Fld.IWL_DISP_CFG_JOB, Fld.IWL_DISP_CFG_DONE_TOKEN]⟩

/-! IWL_DISP_RD (R453, 14_idward_links_and_experts.md) -/
def Fld.IWL_DISP_RD_RD : Field := ⟨564, 0, 32, .ro, 0, .any⟩
def Reg.IWL_DISP_RD : Reg :=
  ⟨"IWL_DISP_RD", 0x80040C, [(8, 0x20)], false, .dispatcher,
   [Fld.IWL_DISP_RD_RD]⟩

/-! IWL_DISP_RET_KEY (R453, 14_idward_links_and_experts.md) -/
def Fld.IWL_DISP_RET_KEY_KEY : Field := ⟨565, 0, 32, .rwo, 0, .any⟩
def Reg.IWL_DISP_RET_KEY : Reg :=
  ⟨"IWL_DISP_RET_KEY", 0x800410, [(8, 0x20)], false, .dispatcher,
   [Fld.IWL_DISP_RET_KEY_KEY]⟩

/-! IWL_INBOX_CFG (R453, 14_idward_links_and_experts.md) -/
def Fld.IWL_INBOX_CFG_VALID : Field := ⟨566, 31, 1, .rwo, 0, .any⟩
def Fld.IWL_INBOX_CFG_SKEIN : Field := ⟨567, 24, 6, .rwo, 0, .any⟩
def Fld.IWL_INBOX_CFG_LOG2_CAP : Field := ⟨568, 20, 4, .rwo, 0, .range 0 12⟩
def Fld.IWL_INBOX_CFG_FIRST_ROW : Field := ⟨569, 0, 14, .rwo, 0, .any⟩
def Reg.IWL_INBOX_CFG : Reg :=
  ⟨"IWL_INBOX_CFG", 0x800800, [(64, 0x20)], false, .inbox,
   [Fld.IWL_INBOX_CFG_VALID, Fld.IWL_INBOX_CFG_SKEIN, Fld.IWL_INBOX_CFG_LOG2_CAP, Fld.IWL_INBOX_CFG_FIRST_ROW]⟩

/-! IWL_INBOX_TOKENS (R453, 14_idward_links_and_experts.md) -/
def Fld.IWL_INBOX_TOKENS_TOKEN : Field := ⟨570, 16, 16, .rwo, 0, .any⟩
def Fld.IWL_INBOX_TOKENS_JOB : Field := ⟨571, 8, 8, .rwo, 0, .any⟩
def Reg.IWL_INBOX_TOKENS : Reg :=
  ⟨"IWL_INBOX_TOKENS", 0x800804, [(64, 0x20)], false, .inbox,
   [Fld.IWL_INBOX_TOKENS_TOKEN, Fld.IWL_INBOX_TOKENS_JOB]⟩

/-! IWL_INBOX_OVF (R453, 14_idward_links_and_experts.md) -/
def Fld.IWL_INBOX_OVF_BASE : Field := ⟨572, 6, 58, .rwo, 0, .any⟩
def Fld.IWL_INBOX_OVF_OVF_LOG2 : Field := ⟨573, 0, 6, .rwo, 0, .range 0 16⟩
def Reg.IWL_INBOX_OVF : Reg :=
  ⟨"IWL_INBOX_OVF", 0x800808, [(64, 0x20)], true, .inbox,
   [Fld.IWL_INBOX_OVF_BASE, Fld.IWL_INBOX_OVF_OVF_LOG2]⟩

/-! IWL_INBOX_LEVEL (R453, 14_idward_links_and_experts.md) -/
def Fld.IWL_INBOX_LEVEL_OVF_USED : Field := ⟨574, 16, 16, .ro, 0, .any⟩
def Fld.IWL_INBOX_LEVEL_HELD : Field := ⟨575, 0, 16, .ro, 0, .any⟩
def Reg.IWL_INBOX_LEVEL : Reg :=
  ⟨"IWL_INBOX_LEVEL", 0x800810, [(64, 0x20)], false, .inbox,
   [Fld.IWL_INBOX_LEVEL_OVF_USED, Fld.IWL_INBOX_LEVEL_HELD]⟩

/-! ETH_CTRL (R478, 15_ethernet_and_network_time.md) -/
def Fld.ETH_CTRL_EN : Field := ⟨576, 31, 1, .rw, 0, .any⟩
def Fld.ETH_CTRL_MODE : Field := ⟨577, 28, 3, .rwo, 0, .any⟩
def Fld.ETH_CTRL_FEC : Field := ⟨578, 26, 2, .rwo, 0, .range 0 2⟩
def Fld.ETH_CTRL_PROMISC : Field := ⟨579, 25, 1, .rwo, 0, .any⟩
def Fld.ETH_CTRL_MCAST_ALL : Field := ⟨580, 24, 1, .rwo, 1, .any⟩
def Fld.ETH_CTRL_PTP_OWNER : Field := ⟨581, 23, 1, .rwo, 0, .any⟩
def Fld.ETH_CTRL_MAX_LEN : Field := ⟨582, 0, 14, .rwo, 1522, .range 64 9216⟩
def Reg.ETH_CTRL : Reg :=
  ⟨"ETH_CTRL", 0x600000, [(4, 0x1000)], false, .eth,
   [Fld.ETH_CTRL_EN, Fld.ETH_CTRL_MODE, Fld.ETH_CTRL_FEC, Fld.ETH_CTRL_PROMISC, Fld.ETH_CTRL_MCAST_ALL, Fld.ETH_CTRL_PTP_OWNER, Fld.ETH_CTRL_MAX_LEN]⟩

/-! ETH_STATUS (R478, 15_ethernet_and_network_time.md) -/
def Fld.ETH_STATUS_USX_RATE : Field := ⟨583, 2, 2, .ro, 0, .any⟩
def Fld.ETH_STATUS_TX_ACTIVE : Field := ⟨584, 1, 1, .ro, 0, .any⟩
def Fld.ETH_STATUS_LINK_UP : Field := ⟨585, 0, 1, .ro, 0, .any⟩
def Reg.ETH_STATUS : Reg :=
  ⟨"ETH_STATUS", 0x600004, [(4, 0x1000)], false, .eth,
   [Fld.ETH_STATUS_USX_RATE, Fld.ETH_STATUS_TX_ACTIVE, Fld.ETH_STATUS_LINK_UP]⟩

/-! ETH_ADDR (R478, 15_ethernet_and_network_time.md) -/
def Fld.ETH_ADDR_ADDR : Field := ⟨586, 0, 48, .rwo, 0, .any⟩
def Reg.ETH_ADDR : Reg :=
  ⟨"ETH_ADDR", 0x600008, [(4, 0x1000)], true, .eth,
   [Fld.ETH_ADDR_ADDR]⟩

/-! ETH_TX_BASE (R478, 15_ethernet_and_network_time.md) -/
def Fld.ETH_TX_BASE_BASE : Field := ⟨587, 5, 59, .rwo, 0, .any⟩
def Reg.ETH_TX_BASE : Reg :=
  ⟨"ETH_TX_BASE", 0x600010, [(4, 0x1000)], true, .eth,
   [Fld.ETH_TX_BASE_BASE]⟩

/-! ETH_TX_CFG (R478, 15_ethernet_and_network_time.md) -/
def Fld.ETH_TX_CFG_LOG2 : Field := ⟨588, 16, 5, .rwo, 8, .range 4 12⟩
def Fld.ETH_TX_CFG_LATE_TOL : Field := ⟨589, 0, 16, .rw, 400, .any⟩
def Reg.ETH_TX_CFG : Reg :=
  ⟨"ETH_TX_CFG", 0x600018, [(4, 0x1000)], false, .eth,
   [Fld.ETH_TX_CFG_LOG2, Fld.ETH_TX_CFG_LATE_TOL]⟩

/-! ETH_TX_HEAD (R478, 15_ethernet_and_network_time.md) -/
def Fld.ETH_TX_HEAD_HEAD : Field := ⟨590, 0, 12, .ro, 0, .any⟩
def Reg.ETH_TX_HEAD : Reg :=
  ⟨"ETH_TX_HEAD", 0x60001C, [(4, 0x1000)], false, .eth,
   [Fld.ETH_TX_HEAD_HEAD]⟩

/-! ETH_TX_KICK (R458, 15_ethernet_and_network_time.md) -/
def Fld.ETH_TX_KICK_KICK : Field := ⟨591, 0, 1, .wo, 0, .any⟩
def Reg.ETH_TX_KICK : Reg :=
  ⟨"ETH_TX_KICK", 0x600020, [(4, 0x1000)], false, .eth,
   [Fld.ETH_TX_KICK_KICK]⟩

/-! ETH_PHY_LAT (R478, 15_ethernet_and_network_time.md) -/
def Fld.ETH_PHY_LAT_TX : Field := ⟨592, 16, 16, .rwo, 0, .any⟩
def Fld.ETH_PHY_LAT_RX : Field := ⟨593, 0, 16, .rwo, 0, .any⟩
def Reg.ETH_PHY_LAT : Reg :=
  ⟨"ETH_PHY_LAT", 0x600024, [(4, 0x1000)], false, .eth,
   [Fld.ETH_PHY_LAT_TX, Fld.ETH_PHY_LAT_RX]⟩

/-! ETH_EVT (R478, 15_ethernet_and_network_time.md) -/
def Fld.ETH_EVT_CFG_REFUSED : Field := ⟨594, 7, 1, .rw1c, 0, .any⟩
def Fld.ETH_EVT_SLOT_REFUSED : Field := ⟨595, 6, 1, .rw1c, 0, .any⟩
def Fld.ETH_EVT_TX_BAD : Field := ⟨596, 5, 1, .rw1c, 0, .any⟩
def Fld.ETH_EVT_TX_LATE : Field := ⟨597, 4, 1, .rw1c, 0, .any⟩
def Fld.ETH_EVT_PAUSE_RX : Field := ⟨598, 3, 1, .rw1c, 0, .any⟩
def Fld.ETH_EVT_RX_ERR : Field := ⟨599, 2, 1, .rw1c, 0, .any⟩
def Fld.ETH_EVT_RX_OVERRUN : Field := ⟨600, 1, 1, .rw1c, 0, .any⟩
def Fld.ETH_EVT_LINK_CHANGE : Field := ⟨601, 0, 1, .rw1c, 0, .any⟩
def Reg.ETH_EVT : Reg :=
  ⟨"ETH_EVT", 0x600060, [(4, 0x1000)], false, .eth,
   [Fld.ETH_EVT_CFG_REFUSED, Fld.ETH_EVT_SLOT_REFUSED, Fld.ETH_EVT_TX_BAD, Fld.ETH_EVT_TX_LATE, Fld.ETH_EVT_PAUSE_RX, Fld.ETH_EVT_RX_ERR, Fld.ETH_EVT_RX_OVERRUN, Fld.ETH_EVT_LINK_CHANGE]⟩

/-! ETH_TX_BYTES (R478, 15_ethernet_and_network_time.md) -/
def Fld.ETH_TX_BYTES_BYTES : Field := ⟨602, 0, 64, .ro, 0, .any⟩
def Reg.ETH_TX_BYTES : Reg :=
  ⟨"ETH_TX_BYTES", 0x600088, [(4, 0x1000)], true, .eth,
   [Fld.ETH_TX_BYTES_BYTES]⟩

/-! ETH_RX_BYTES (R478, 15_ethernet_and_network_time.md) -/
def Fld.ETH_RX_BYTES_BYTES : Field := ⟨603, 0, 64, .ro, 0, .any⟩
def Reg.ETH_RX_BYTES : Reg :=
  ⟨"ETH_RX_BYTES", 0x600090, [(4, 0x1000)], true, .eth,
   [Fld.ETH_RX_BYTES_BYTES]⟩

/-! ETH_EVT_CNT (R478, 15_ethernet_and_network_time.md) -/
def Fld.ETH_EVT_CNT_COUNT : Field := ⟨604, 0, 32, .rc, 0, .any⟩
def Reg.ETH_EVT_CNT : Reg :=
  ⟨"ETH_EVT_CNT", 0x600064, [(4, 0x1000), (8, 0x4)], false, .eth,
   [Fld.ETH_EVT_CNT_COUNT]⟩

/-! ETH_RX_RING_BASE (R478, 15_ethernet_and_network_time.md) -/
def Fld.ETH_RX_RING_BASE_BASE : Field := ⟨605, 5, 59, .rwo, 0, .any⟩
def Reg.ETH_RX_RING_BASE : Reg :=
  ⟨"ETH_RX_RING_BASE", 0x600040, [(4, 0x1000), (2, 0x10)], true, .eth,
   [Fld.ETH_RX_RING_BASE_BASE]⟩

/-! ETH_RX_RING_CFG (R478, 15_ethernet_and_network_time.md) -/
def Fld.ETH_RX_RING_CFG_LOG2 : Field := ⟨606, 16, 5, .rwo, 8, .range 4 12⟩
def Fld.ETH_RX_RING_CFG_BUF_SIZE : Field := ⟨607, 0, 8, .rwo, 32, .range 1 144⟩
def Reg.ETH_RX_RING_CFG : Reg :=
  ⟨"ETH_RX_RING_CFG", 0x600048, [(4, 0x1000), (2, 0x10)], false, .eth,
   [Fld.ETH_RX_RING_CFG_LOG2, Fld.ETH_RX_RING_CFG_BUF_SIZE]⟩

/-! ETH_RX_RING_HEAD (R478, 15_ethernet_and_network_time.md) -/
def Fld.ETH_RX_RING_HEAD_HEAD : Field := ⟨608, 0, 12, .ro, 0, .any⟩
def Reg.ETH_RX_RING_HEAD : Reg :=
  ⟨"ETH_RX_RING_HEAD", 0x60004C, [(4, 0x1000), (2, 0x10)], false, .eth,
   [Fld.ETH_RX_RING_HEAD_HEAD]⟩

/-! ETH_SLOT_CFG (R478, 15_ethernet_and_network_time.md) -/
def Fld.ETH_SLOT_CFG_VALID : Field := ⟨609, 31, 1, .rwo, 0, .any⟩
def Fld.ETH_SLOT_CFG_LATE_SKIP : Field := ⟨610, 30, 1, .rwo, 1, .any⟩
def Fld.ETH_SLOT_CFG_LEN_M1 : Field := ⟨611, 16, 7, .rwo, 59, .range 59 127⟩
def Fld.ETH_SLOT_CFG_PAYLOAD_OFS : Field := ⟨612, 0, 7, .rwo, 14, .range 14 124⟩
def Reg.ETH_SLOT_CFG : Reg :=
  ⟨"ETH_SLOT_CFG", 0x600100, [(4, 0x1000), (4, 0x100)], false, .ethSlot,
   [Fld.ETH_SLOT_CFG_VALID, Fld.ETH_SLOT_CFG_LATE_SKIP, Fld.ETH_SLOT_CFG_LEN_M1, Fld.ETH_SLOT_CFG_PAYLOAD_OFS]⟩

/-! ETH_SLOT_TPL (R478, 15_ethernet_and_network_time.md) -/
def Fld.ETH_SLOT_TPL_DATA : Field := ⟨613, 0, 32, .rwo, 0, .any⟩
def Reg.ETH_SLOT_TPL : Reg :=
  ⟨"ETH_SLOT_TPL", 0x600180, [(4, 0x1000), (4, 0x100), (32, 0x4)], false, .ethSlot,
   [Fld.ETH_SLOT_TPL_DATA]⟩

/-! CAN_CTRL (R496, 16_can_controllers.md) -/
def Fld.CAN_CTRL_EN : Field := ⟨614, 31, 1, .rw, 0, .any⟩
def Fld.CAN_CTRL_FD_EN : Field := ⟨615, 30, 1, .rwo, 0, .any⟩
def Fld.CAN_CTRL_XL_EN : Field := ⟨616, 29, 1, .rwo, 0, .any⟩
def Fld.CAN_CTRL_MON : Field := ⟨617, 28, 1, .rwo, 0, .any⟩
def Fld.CAN_CTRL_AUTO_RECOVER : Field := ⟨618, 27, 1, .rwo, 1, .any⟩
def Fld.CAN_CTRL_ACCEPT_ALL : Field := ⟨619, 26, 1, .rwo, 0, .any⟩
def Reg.CAN_CTRL : Reg :=
  ⟨"CAN_CTRL", 0x700000, [(8, 0x1000)], false, .can,
   [Fld.CAN_CTRL_EN, Fld.CAN_CTRL_FD_EN, Fld.CAN_CTRL_XL_EN, Fld.CAN_CTRL_MON, Fld.CAN_CTRL_AUTO_RECOVER, Fld.CAN_CTRL_ACCEPT_ALL]⟩

/-! CAN_STATUS (R496, 16_can_controllers.md) -/
def Fld.CAN_STATUS_REC : Field := ⟨620, 24, 8, .ro, 0, .any⟩
def Fld.CAN_STATUS_TEC : Field := ⟨621, 16, 8, .ro, 0, .any⟩
def Fld.CAN_STATUS_ERR_STATE : Field := ⟨622, 1, 2, .ro, 0, .any⟩
def Fld.CAN_STATUS_SYNCED : Field := ⟨623, 0, 1, .ro, 0, .any⟩
def Reg.CAN_STATUS : Reg :=
  ⟨"CAN_STATUS", 0x700004, [(8, 0x1000)], false, .can,
   [Fld.CAN_STATUS_REC, Fld.CAN_STATUS_TEC, Fld.CAN_STATUS_ERR_STATE, Fld.CAN_STATUS_SYNCED]⟩

/-! CAN_NBT (R496, 16_can_controllers.md) -/
def Fld.CAN_NBT_BRP_M1 : Field := ⟨624, 24, 8, .rwo, 1, .any⟩
def Fld.CAN_NBT_TSEG1_M1 : Field := ⟨625, 16, 8, .rwo, 126, .any⟩
def Fld.CAN_NBT_TSEG2_M1 : Field := ⟨626, 8, 7, .rwo, 31, .any⟩
def Fld.CAN_NBT_SJW_M1 : Field := ⟨627, 0, 7, .rwo, 31, .any⟩
def Reg.CAN_NBT : Reg :=
  ⟨"CAN_NBT", 0x700008, [(8, 0x1000)], false, .can,
   [Fld.CAN_NBT_BRP_M1, Fld.CAN_NBT_TSEG1_M1, Fld.CAN_NBT_TSEG2_M1, Fld.CAN_NBT_SJW_M1]⟩

/-! CAN_DBT (R496, 16_can_controllers.md) -/
def Fld.CAN_DBT_BRP_M1 : Field := ⟨628, 24, 8, .rwo, 0, .any⟩
def Fld.CAN_DBT_TSEG1_M1 : Field := ⟨629, 16, 8, .rwo, 62, .any⟩
def Fld.CAN_DBT_TSEG2_M1 : Field := ⟨630, 8, 8, .rwo, 15, .any⟩
def Fld.CAN_DBT_TDCO : Field := ⟨631, 0, 8, .rwo, 64, .any⟩
def Reg.CAN_DBT : Reg :=
  ⟨"CAN_DBT", 0x70000C, [(8, 0x1000)], false, .can,
   [Fld.CAN_DBT_BRP_M1, Fld.CAN_DBT_TSEG1_M1, Fld.CAN_DBT_TSEG2_M1, Fld.CAN_DBT_TDCO]⟩

/-! CAN_XBT (R496, 16_can_controllers.md) -/
def Fld.CAN_XBT_BRP_M1 : Field := ⟨632, 24, 8, .rwo, 0, .any⟩
def Fld.CAN_XBT_TSEG1_M1 : Field := ⟨633, 16, 8, .rwo, 10, .any⟩
def Fld.CAN_XBT_TSEG2_M1 : Field := ⟨634, 8, 8, .rwo, 3, .any⟩
def Fld.CAN_XBT_TDCO : Field := ⟨635, 0, 8, .rwo, 12, .any⟩
def Reg.CAN_XBT : Reg :=
  ⟨"CAN_XBT", 0x700010, [(8, 0x1000)], false, .can,
   [Fld.CAN_XBT_BRP_M1, Fld.CAN_XBT_TSEG1_M1, Fld.CAN_XBT_TSEG2_M1, Fld.CAN_XBT_TDCO]⟩

/-! CAN_PHY_LAT (R496, 16_can_controllers.md) -/
def Fld.CAN_PHY_LAT_TX : Field := ⟨636, 16, 16, .rwo, 0, .any⟩
def Fld.CAN_PHY_LAT_RX : Field := ⟨637, 0, 16, .rwo, 0, .any⟩
def Reg.CAN_PHY_LAT : Reg :=
  ⟨"CAN_PHY_LAT", 0x700014, [(8, 0x1000)], false, .can,
   [Fld.CAN_PHY_LAT_TX, Fld.CAN_PHY_LAT_RX]⟩

/-! CAN_TX_CFG (R496, 16_can_controllers.md) -/
def Fld.CAN_TX_CFG_BIG : Field := ⟨638, 29, 1, .rwo, 0, .any⟩
def Fld.CAN_TX_CFG_LOG2 : Field := ⟨639, 24, 5, .rwo, 6, .range 4 12⟩
def Fld.CAN_TX_CFG_LATE_TOL : Field := ⟨640, 0, 24, .rw, 80000, .any⟩
def Reg.CAN_TX_CFG : Reg :=
  ⟨"CAN_TX_CFG", 0x700018, [(8, 0x1000)], false, .can,
   [Fld.CAN_TX_CFG_BIG, Fld.CAN_TX_CFG_LOG2, Fld.CAN_TX_CFG_LATE_TOL]⟩

/-! CAN_TX_BASE (R496, 16_can_controllers.md) -/
def Fld.CAN_TX_BASE_BASE : Field := ⟨641, 6, 58, .rwo, 0, .any⟩
def Reg.CAN_TX_BASE : Reg :=
  ⟨"CAN_TX_BASE", 0x700020, [(8, 0x1000)], true, .can,
   [Fld.CAN_TX_BASE_BASE]⟩

/-! CAN_TX_TAIL (R496, 16_can_controllers.md) -/
def Fld.CAN_TX_TAIL_INDEX : Field := ⟨642, 0, 12, .rw, 0, .any⟩
def Reg.CAN_TX_TAIL : Reg :=
  ⟨"CAN_TX_TAIL", 0x700028, [(8, 0x1000)], false, .can,
   [Fld.CAN_TX_TAIL_INDEX]⟩

/-! CAN_TX_DONE (R496, 16_can_controllers.md) -/
def Fld.CAN_TX_DONE_INDEX : Field := ⟨643, 0, 12, .ro, 0, .any⟩
def Reg.CAN_TX_DONE : Reg :=
  ⟨"CAN_TX_DONE", 0x70002C, [(8, 0x1000)], false, .can,
   [Fld.CAN_TX_DONE_INDEX]⟩

/-! CAN_TX_ACK (R496, 16_can_controllers.md) -/
def Fld.CAN_TX_ACK_INDEX : Field := ⟨644, 0, 12, .rw, 0, .any⟩
def Reg.CAN_TX_ACK : Reg :=
  ⟨"CAN_TX_ACK", 0x700030, [(8, 0x1000)], false, .can,
   [Fld.CAN_TX_ACK_INDEX]⟩

/-! CAN_RX_BASE (R496, 16_can_controllers.md) -/
def Fld.CAN_RX_BASE_BASE : Field := ⟨645, 6, 58, .rwo, 0, .any⟩
def Reg.CAN_RX_BASE : Reg :=
  ⟨"CAN_RX_BASE", 0x700040, [(8, 0x1000)], true, .can,
   [Fld.CAN_RX_BASE_BASE]⟩

/-! CAN_RX_CFG (R496, 16_can_controllers.md) -/
def Fld.CAN_RX_CFG_BIG : Field := ⟨646, 29, 1, .rwo, 0, .any⟩
def Fld.CAN_RX_CFG_LOG2 : Field := ⟨647, 24, 5, .rwo, 6, .range 4 12⟩
def Reg.CAN_RX_CFG : Reg :=
  ⟨"CAN_RX_CFG", 0x700048, [(8, 0x1000)], false, .can,
   [Fld.CAN_RX_CFG_BIG, Fld.CAN_RX_CFG_LOG2]⟩

/-! CAN_RX_TAIL (R496, 16_can_controllers.md) -/
def Fld.CAN_RX_TAIL_INDEX : Field := ⟨648, 0, 12, .ro, 0, .any⟩
def Reg.CAN_RX_TAIL : Reg :=
  ⟨"CAN_RX_TAIL", 0x70004C, [(8, 0x1000)], false, .can,
   [Fld.CAN_RX_TAIL_INDEX]⟩

/-! CAN_RX_ACK (R496, 16_can_controllers.md) -/
def Fld.CAN_RX_ACK_INDEX : Field := ⟨649, 0, 12, .rw, 0, .any⟩
def Reg.CAN_RX_ACK : Reg :=
  ⟨"CAN_RX_ACK", 0x700050, [(8, 0x1000)], false, .can,
   [Fld.CAN_RX_ACK_INDEX]⟩

/-! CAN_EVT (R496, 16_can_controllers.md) -/
def Fld.CAN_EVT_CFG_REFUSED : Field := ⟨650, 9, 1, .rw1c, 0, .any⟩
def Fld.CAN_EVT_IDX_INVALID : Field := ⟨651, 8, 1, .rw1c, 0, .any⟩
def Fld.CAN_EVT_SLOT_REFUSED : Field := ⟨652, 7, 1, .rw1c, 0, .any⟩
def Fld.CAN_EVT_BUS_OFF : Field := ⟨653, 6, 1, .rw1c, 0, .any⟩
def Fld.CAN_EVT_ERR_PASSIVE : Field := ⟨654, 5, 1, .rw1c, 0, .any⟩
def Fld.CAN_EVT_PROTO_ERR : Field := ⟨655, 4, 1, .rw1c, 0, .any⟩
def Fld.CAN_EVT_TX_BAD : Field := ⟨656, 3, 1, .rw1c, 0, .any⟩
def Fld.CAN_EVT_TX_LATE : Field := ⟨657, 2, 1, .rw1c, 0, .any⟩
def Fld.CAN_EVT_RX_TOO_LONG : Field := ⟨658, 1, 1, .rw1c, 0, .any⟩
def Fld.CAN_EVT_RX_OVERRUN : Field := ⟨659, 0, 1, .rw1c, 0, .any⟩
def Reg.CAN_EVT : Reg :=
  ⟨"CAN_EVT", 0x700060, [(8, 0x1000)], false, .can,
   [Fld.CAN_EVT_CFG_REFUSED, Fld.CAN_EVT_IDX_INVALID, Fld.CAN_EVT_SLOT_REFUSED, Fld.CAN_EVT_BUS_OFF, Fld.CAN_EVT_ERR_PASSIVE, Fld.CAN_EVT_PROTO_ERR, Fld.CAN_EVT_TX_BAD, Fld.CAN_EVT_TX_LATE, Fld.CAN_EVT_RX_TOO_LONG, Fld.CAN_EVT_RX_OVERRUN]⟩

/-! CAN_CNT_ARB_LOST (R496, 16_can_controllers.md) -/
def Fld.CAN_CNT_ARB_LOST_COUNT : Field := ⟨660, 0, 32, .rc, 0, .any⟩
def Reg.CAN_CNT_ARB_LOST : Reg :=
  ⟨"CAN_CNT_ARB_LOST", 0x700090, [(8, 0x1000)], false, .can,
   [Fld.CAN_CNT_ARB_LOST_COUNT]⟩

/-! CAN_EVT_CNT (R496, 16_can_controllers.md) -/
def Fld.CAN_EVT_CNT_COUNT : Field := ⟨661, 0, 32, .rc, 0, .any⟩
def Reg.CAN_EVT_CNT : Reg :=
  ⟨"CAN_EVT_CNT", 0x700064, [(8, 0x1000), (10, 0x4)], false, .can,
   [Fld.CAN_EVT_CNT_COUNT]⟩

/-! CAN_FLT_CFG (R496, 16_can_controllers.md) -/
def Fld.CAN_FLT_CFG_EN : Field := ⟨662, 31, 1, .rwo, 0, .any⟩
def Fld.CAN_FLT_CFG_FORMAT : Field := ⟨663, 29, 2, .rwo, 0, .any⟩
def Fld.CAN_FLT_CFG_IDE : Field := ⟨664, 28, 1, .rwo, 0, .any⟩
def Reg.CAN_FLT_CFG : Reg :=
  ⟨"CAN_FLT_CFG", 0x700100, [(8, 0x1000), (16, 0x10)], false, .can,
   [Fld.CAN_FLT_CFG_EN, Fld.CAN_FLT_CFG_FORMAT, Fld.CAN_FLT_CFG_IDE]⟩

/-! CAN_FLT_ID (R496, 16_can_controllers.md) -/
def Fld.CAN_FLT_ID_VALUE : Field := ⟨665, 0, 29, .rwo, 0, .any⟩
def Reg.CAN_FLT_ID : Reg :=
  ⟨"CAN_FLT_ID", 0x700104, [(8, 0x1000), (16, 0x10)], false, .can,
   [Fld.CAN_FLT_ID_VALUE]⟩

/-! CAN_FLT_MASK (R496, 16_can_controllers.md) -/
def Fld.CAN_FLT_MASK_VALUE : Field := ⟨666, 0, 29, .rwo, 0, .any⟩
def Reg.CAN_FLT_MASK : Reg :=
  ⟨"CAN_FLT_MASK", 0x700108, [(8, 0x1000), (16, 0x10)], false, .can,
   [Fld.CAN_FLT_MASK_VALUE]⟩

/-! CAN_SLOT_CFG (R496, 16_can_controllers.md) -/
def Fld.CAN_SLOT_CFG_VALID : Field := ⟨667, 31, 1, .rwo, 0, .any⟩
def Fld.CAN_SLOT_CFG_LATE_SKIP : Field := ⟨668, 30, 1, .rwo, 1, .any⟩
def Fld.CAN_SLOT_CFG_FD : Field := ⟨669, 29, 1, .rwo, 0, .any⟩
def Fld.CAN_SLOT_CFG_BRS : Field := ⟨670, 28, 1, .rwo, 0, .any⟩
def Fld.CAN_SLOT_CFG_IDE : Field := ⟨671, 27, 1, .rwo, 0, .any⟩
def Fld.CAN_SLOT_CFG_LEN : Field := ⟨672, 0, 7, .rwo, 8, .any⟩
def Reg.CAN_SLOT_CFG : Reg :=
  ⟨"CAN_SLOT_CFG", 0x700200, [(8, 0x1000), (4, 0x60)], false, .canSlot,
   [Fld.CAN_SLOT_CFG_VALID, Fld.CAN_SLOT_CFG_LATE_SKIP, Fld.CAN_SLOT_CFG_FD, Fld.CAN_SLOT_CFG_BRS, Fld.CAN_SLOT_CFG_IDE, Fld.CAN_SLOT_CFG_LEN]⟩

/-! CAN_SLOT_ID (R496, 16_can_controllers.md) -/
def Fld.CAN_SLOT_ID_ID : Field := ⟨673, 0, 29, .rwo, 0, .any⟩
def Reg.CAN_SLOT_ID : Reg :=
  ⟨"CAN_SLOT_ID", 0x700204, [(8, 0x1000), (4, 0x60)], false, .canSlot,
   [Fld.CAN_SLOT_ID_ID]⟩

/-! CAN_SLOT_TPL (R496, 16_can_controllers.md) -/
def Fld.CAN_SLOT_TPL_DATA : Field := ⟨674, 0, 32, .rwo, 0, .any⟩
def Reg.CAN_SLOT_TPL : Reg :=
  ⟨"CAN_SLOT_TPL", 0x700220, [(8, 0x1000), (4, 0x60), (16, 0x4)], false, .canSlot,
   [Fld.CAN_SLOT_TPL_DATA]⟩

/-! CAN_WAKE_CFG (R496, 16_can_controllers.md) -/
def Fld.CAN_WAKE_CFG_MODE : Field := ⟨675, 30, 2, .rw, 0, .range 0 2⟩
def Fld.CAN_WAKE_CFG_RATE : Field := ⟨676, 27, 3, .rw, 2, .range 0 3⟩
def Fld.CAN_WAKE_CFG_FILTER : Field := ⟨677, 8, 8, .rw, 5, .range 1 255⟩
def Fld.CAN_WAKE_CFG_FLT_MASK : Field := ⟨678, 0, 8, .rw, 0, .any⟩
def Reg.CAN_WAKE_CFG : Reg :=
  ⟨"CAN_WAKE_CFG", 0x708000, [(4, 0x4)], false, .none,
   [Fld.CAN_WAKE_CFG_MODE, Fld.CAN_WAKE_CFG_RATE, Fld.CAN_WAKE_CFG_FILTER, Fld.CAN_WAKE_CFG_FLT_MASK]⟩

/-! CAN_WAKE_CAP (R496, 16_can_controllers.md) -/
def Fld.CAN_WAKE_CAP_VALID : Field := ⟨679, 31, 1, .rw1c, 0, .any⟩
def Fld.CAN_WAKE_CAP_KIND : Field := ⟨680, 30, 1, .ro, 0, .any⟩
def Fld.CAN_WAKE_CAP_CHANNEL : Field := ⟨681, 28, 2, .ro, 0, .any⟩
def Fld.CAN_WAKE_CAP_FILTER : Field := ⟨682, 25, 3, .ro, 0, .any⟩
def Reg.CAN_WAKE_CAP : Reg :=
  ⟨"CAN_WAKE_CAP", 0x708010, [], false, .none,
   [Fld.CAN_WAKE_CAP_VALID, Fld.CAN_WAKE_CAP_KIND, Fld.CAN_WAKE_CAP_CHANNEL, Fld.CAN_WAKE_CAP_FILTER]⟩

/-! CAN_WAKE_ID (R496, 16_can_controllers.md) -/
def Fld.CAN_WAKE_ID_ID : Field := ⟨683, 0, 29, .ro, 0, .any⟩
def Reg.CAN_WAKE_ID : Reg :=
  ⟨"CAN_WAKE_ID", 0x708014, [], false, .none,
   [Fld.CAN_WAKE_ID_ID]⟩

/-! CAN_WAKE_STAMP (R496, 16_can_controllers.md) -/
def Fld.CAN_WAKE_STAMP_TIME : Field := ⟨684, 0, 64, .ro, 0, .any⟩
def Reg.CAN_WAKE_STAMP : Reg :=
  ⟨"CAN_WAKE_STAMP", 0x708018, [], true, .none,
   [Fld.CAN_WAKE_STAMP_TIME]⟩

/-! CAN_WAKE_CNT (R496, 16_can_controllers.md) -/
def Fld.CAN_WAKE_CNT_COUNT : Field := ⟨685, 0, 32, .rc, 0, .any⟩
def Reg.CAN_WAKE_CNT : Reg :=
  ⟨"CAN_WAKE_CNT", 0x708020, [], false, .none,
   [Fld.CAN_WAKE_CNT_COUNT]⟩

/-! CAN_WAKE_FLT_CFG (R496, 16_can_controllers.md) -/
def Fld.CAN_WAKE_FLT_CFG_EN : Field := ⟨686, 31, 1, .rw, 0, .any⟩
def Fld.CAN_WAKE_FLT_CFG_IDE : Field := ⟨687, 30, 1, .rw, 0, .any⟩
def Fld.CAN_WAKE_FLT_CFG_DLEN : Field := ⟨688, 0, 4, .rw, 0, .range 0 8⟩
def Reg.CAN_WAKE_FLT_CFG : Reg :=
  ⟨"CAN_WAKE_FLT_CFG", 0x708040, [(8, 0x20)], false, .none,
   [Fld.CAN_WAKE_FLT_CFG_EN, Fld.CAN_WAKE_FLT_CFG_IDE, Fld.CAN_WAKE_FLT_CFG_DLEN]⟩

/-! CAN_WAKE_FLT_ID (R496, 16_can_controllers.md) -/
def Fld.CAN_WAKE_FLT_ID_VALUE : Field := ⟨689, 0, 29, .rw, 0, .any⟩
def Reg.CAN_WAKE_FLT_ID : Reg :=
  ⟨"CAN_WAKE_FLT_ID", 0x708044, [(8, 0x20)], false, .none,
   [Fld.CAN_WAKE_FLT_ID_VALUE]⟩

/-! CAN_WAKE_FLT_MASK (R496, 16_can_controllers.md) -/
def Fld.CAN_WAKE_FLT_MASK_VALUE : Field := ⟨690, 0, 29, .rw, 0, .any⟩
def Reg.CAN_WAKE_FLT_MASK : Reg :=
  ⟨"CAN_WAKE_FLT_MASK", 0x708048, [(8, 0x20)], false, .none,
   [Fld.CAN_WAKE_FLT_MASK_VALUE]⟩

/-! CAN_WAKE_FLT_DATA (R496, 16_can_controllers.md) -/
def Fld.CAN_WAKE_FLT_DATA_VALUE : Field := ⟨691, 0, 64, .rw, 0, .any⟩
def Reg.CAN_WAKE_FLT_DATA : Reg :=
  ⟨"CAN_WAKE_FLT_DATA", 0x708050, [(8, 0x20)], true, .none,
   [Fld.CAN_WAKE_FLT_DATA_VALUE]⟩

/-! CAN_WAKE_FLT_DMASK (R496, 16_can_controllers.md) -/
def Fld.CAN_WAKE_FLT_DMASK_VALUE : Field := ⟨692, 0, 64, .rw, 0, .any⟩
def Reg.CAN_WAKE_FLT_DMASK : Reg :=
  ⟨"CAN_WAKE_FLT_DMASK", 0x708058, [(8, 0x20)], true, .none,
   [Fld.CAN_WAKE_FLT_DMASK_VALUE]⟩

def regsNet0 : List Reg :=
  [Reg.IWL_CTRL, Reg.IWL_TIMEOUT, Reg.IWL_RELAY_BASE, Reg.IWL_EXPERT_BASE, Reg.IWL_BAR_BASE, Reg.IWL_TS_CTRL, Reg.IWL_TS_STEP, Reg.IWL_TS_STATUS, Reg.IWL_EVT, Reg.IWL_CNT_OVF, Reg.IWL_EVT_CNT, Reg.IWL_P_CTRL, Reg.IWL_P_STATUS, Reg.IWL_P_REPLAY_CFG, Reg.IWL_P_LINK_DELAY, Reg.IWL_P_FEC_CORR, Reg.IWL_P_FEC_UNCORR, Reg.IWL_P_CRC_ERR, Reg.IWL_P_REPLAYS, Reg.IWL_P_TX_BYTES, Reg.IWL_P_RX_BYTES, Reg.IWL_DISP_LIST, Reg.IWL_DISP_CFG, Reg.IWL_DISP_RD, Reg.IWL_DISP_RET_KEY, Reg.IWL_INBOX_CFG, Reg.IWL_INBOX_TOKENS, Reg.IWL_INBOX_OVF, Reg.IWL_INBOX_LEVEL, Reg.ETH_CTRL, Reg.ETH_STATUS, Reg.ETH_ADDR, Reg.ETH_TX_BASE, Reg.ETH_TX_CFG, Reg.ETH_TX_HEAD, Reg.ETH_TX_KICK, Reg.ETH_PHY_LAT, Reg.ETH_EVT, Reg.ETH_TX_BYTES, Reg.ETH_RX_BYTES]

def regsNet1 : List Reg :=
  [Reg.ETH_EVT_CNT, Reg.ETH_RX_RING_BASE, Reg.ETH_RX_RING_CFG, Reg.ETH_RX_RING_HEAD, Reg.ETH_SLOT_CFG, Reg.ETH_SLOT_TPL, Reg.CAN_CTRL, Reg.CAN_STATUS, Reg.CAN_NBT, Reg.CAN_DBT, Reg.CAN_XBT, Reg.CAN_PHY_LAT, Reg.CAN_TX_CFG, Reg.CAN_TX_BASE, Reg.CAN_TX_TAIL, Reg.CAN_TX_DONE, Reg.CAN_TX_ACK, Reg.CAN_RX_BASE, Reg.CAN_RX_CFG, Reg.CAN_RX_TAIL, Reg.CAN_RX_ACK, Reg.CAN_EVT, Reg.CAN_CNT_ARB_LOST, Reg.CAN_EVT_CNT, Reg.CAN_FLT_CFG, Reg.CAN_FLT_ID, Reg.CAN_FLT_MASK, Reg.CAN_SLOT_CFG, Reg.CAN_SLOT_ID, Reg.CAN_SLOT_TPL, Reg.CAN_WAKE_CFG, Reg.CAN_WAKE_CAP, Reg.CAN_WAKE_ID, Reg.CAN_WAKE_STAMP, Reg.CAN_WAKE_CNT, Reg.CAN_WAKE_FLT_CFG, Reg.CAN_WAKE_FLT_ID, Reg.CAN_WAKE_FLT_MASK, Reg.CAN_WAKE_FLT_DATA, Reg.CAN_WAKE_FLT_DMASK]

/-- The registers of this file. -/
def regsNet : List Reg := regsNet0 ++ regsNet1

end Sys2Proof.Machine
end

