-- ==== Sys2Proof/Machine/RegsSafe.lean ====
section
/-! DEFINITION. The register map of the SELV, SEC and PWR blocks (Tables 18.4, 18.5, 20.11, 20.12, 21.6, 21.7).

A field `Fld.REGISTER_FIELD` is one field row of the spec's register tables: its storage code, its
lowest bit, its width, its access code of Table 0.1, its reset value (0 where the table says `boot`:
BOOT loads it) and the values R600 lets a write give it.  A register `Reg.NAME` is its name, BAR0
address, index strides, whether it is 64 bits wide, the unit whose CONFIG gates its RWO fields, and
its fields. -/

namespace Sys2Proof.Machine

/-! SELV_STATUS (R542, 18_safety_mechanisms.md) -/
def Fld.SELV_STATUS_NEXT_DUE : Field := ⟨693, 8, 6, .ro, 0, .any⟩
def Fld.SELV_STATUS_RELEASE_READY : Field := ⟨694, 3, 1, .ro, 0, .any⟩
def Fld.SELV_STATUS_FAULT_ACTIVE : Field := ⟨695, 2, 1, .ro, 0, .any⟩
def Fld.SELV_STATUS_LOCKSTEP_OK : Field := ⟨696, 1, 1, .ro, 0, .any⟩
def Fld.SELV_STATUS_FAULT_N : Field := ⟨697, 0, 1, .ro, 0, .any⟩
def Reg.SELV_STATUS : Reg :=
  ⟨"SELV_STATUS", 0xA00000, [], false, .none,
   [Fld.SELV_STATUS_NEXT_DUE, Fld.SELV_STATUS_RELEASE_READY, Fld.SELV_STATUS_FAULT_ACTIVE, Fld.SELV_STATUS_LOCKSTEP_OK, Fld.SELV_STATUS_FAULT_N]⟩

/-! SELV_CTRL (R542, 18_safety_mechanisms.md) -/
def Fld.SELV_CTRL_DTI : Field := ⟨698, 16, 16, .rw, 1000, .range 10 65535⟩
def Fld.SELV_CTRL_HANG_US : Field := ⟨699, 0, 16, .rw, 50, .range 10 65535⟩
def Reg.SELV_CTRL : Reg :=
  ⟨"SELV_CTRL", 0xA00004, [], false, .none,
   [Fld.SELV_CTRL_DTI, Fld.SELV_CTRL_HANG_US]⟩

/-! SELV_TIMING (R542, 18_safety_mechanisms.md) -/
def Fld.SELV_TIMING_PAIR_TIMEOUT : Field := ⟨700, 16, 16, .rw, 1000, .range 10 65535⟩
def Fld.SELV_TIMING_REF_HOLD : Field := ⟨701, 0, 16, .rw, 100, .range 1 65535⟩
def Reg.SELV_TIMING : Reg :=
  ⟨"SELV_TIMING", 0xA00008, [], false, .none,
   [Fld.SELV_TIMING_PAIR_TIMEOUT, Fld.SELV_TIMING_REF_HOLD]⟩

/-! SELV_TIME_CFG (R542, 18_safety_mechanisms.md) -/
def Fld.SELV_TIME_CFG_SLIP_MAX : Field := ⟨702, 8, 8, .rw, 4, .any⟩
def Fld.SELV_TIME_CFG_DOM_FAULT : Field := ⟨703, 2, 1, .rw, 0, .any⟩
def Fld.SELV_TIME_CFG_TS_FAULT : Field := ⟨704, 1, 1, .rw, 0, .any⟩
def Fld.SELV_TIME_CFG_REF_FAULT : Field := ⟨705, 0, 1, .rw, 0, .any⟩
def Reg.SELV_TIME_CFG : Reg :=
  ⟨"SELV_TIME_CFG", 0xA0000C, [], false, .none,
   [Fld.SELV_TIME_CFG_SLIP_MAX, Fld.SELV_TIME_CFG_DOM_FAULT, Fld.SELV_TIME_CFG_TS_FAULT, Fld.SELV_TIME_CFG_REF_FAULT]⟩

/-! SELV_EVT (R542, 18_safety_mechanisms.md) -/
def Fld.SELV_EVT_CFG_REFUSED : Field := ⟨706, 9, 1, .rw1c, 0, .any⟩
def Fld.SELV_EVT_LOCKSTEP : Field := ⟨707, 8, 1, .rw1c, 0, .any⟩
def Fld.SELV_EVT_TIME_FAULT : Field := ⟨708, 7, 1, .rw1c, 0, .any⟩
def Fld.SELV_EVT_HANG : Field := ⟨709, 6, 1, .rw1c, 0, .any⟩
def Fld.SELV_EVT_DTI_EXCEEDED : Field := ⟨710, 5, 1, .rw1c, 0, .any⟩
def Fld.SELV_EVT_ESCALATED : Field := ⟨711, 4, 1, .rw1c, 0, .any⟩
def Fld.SELV_EVT_TRANSIENT : Field := ⟨712, 3, 1, .rw1c, 0, .any⟩
def Fld.SELV_EVT_FRAME_MISMATCH : Field := ⟨713, 2, 1, .rw1c, 0, .any⟩
def Fld.SELV_EVT_GOLDEN_FAIL : Field := ⟨714, 1, 1, .rw1c, 0, .any⟩
def Fld.SELV_EVT_PARITY : Field := ⟨715, 0, 1, .rw1c, 0, .any⟩
def Reg.SELV_EVT : Reg :=
  ⟨"SELV_EVT", 0xA00010, [], false, .none,
   [Fld.SELV_EVT_CFG_REFUSED, Fld.SELV_EVT_LOCKSTEP, Fld.SELV_EVT_TIME_FAULT, Fld.SELV_EVT_HANG, Fld.SELV_EVT_DTI_EXCEEDED, Fld.SELV_EVT_ESCALATED, Fld.SELV_EVT_TRANSIENT, Fld.SELV_EVT_FRAME_MISMATCH, Fld.SELV_EVT_GOLDEN_FAIL, Fld.SELV_EVT_PARITY]⟩

/-! SELV_FAULT_CAP (R542, 18_safety_mechanisms.md) -/
def Fld.SELV_FAULT_CAP_STATUS : Field := ⟨716, 16, 16, .ro, 0, .any⟩
def Fld.SELV_FAULT_CAP_KIND : Field := ⟨717, 12, 4, .ro, 0, .any⟩
def Fld.SELV_FAULT_CAP_SOURCE : Field := ⟨718, 0, 8, .ro, 0, .any⟩
def Reg.SELV_FAULT_CAP : Reg :=
  ⟨"SELV_FAULT_CAP", 0xA00040, [], false, .none,
   [Fld.SELV_FAULT_CAP_STATUS, Fld.SELV_FAULT_CAP_KIND, Fld.SELV_FAULT_CAP_SOURCE]⟩

/-! SELV_FAULT_TIME (R542, 18_safety_mechanisms.md) -/
def Fld.SELV_FAULT_TIME_TIME : Field := ⟨719, 0, 64, .ro, 0, .any⟩
def Reg.SELV_FAULT_TIME : Reg :=
  ⟨"SELV_FAULT_TIME", 0xA00048, [], true, .none,
   [Fld.SELV_FAULT_TIME_TIME]⟩

/-! SELV_INJECT_CAP (R542, 18_safety_mechanisms.md) -/
def Fld.SELV_INJECT_CAP_CHECKER : Field := ⟨720, 8, 8, .ro, 0, .any⟩
def Fld.SELV_INJECT_CAP_SOURCE : Field := ⟨721, 0, 8, .ro, 0, .any⟩
def Reg.SELV_INJECT_CAP : Reg :=
  ⟨"SELV_INJECT_CAP", 0xA00050, [], false, .none,
   [Fld.SELV_INJECT_CAP_CHECKER, Fld.SELV_INJECT_CAP_SOURCE]⟩

/-! SELV_TEST_SEL (R542, 18_safety_mechanisms.md) -/
def Fld.SELV_TEST_SEL_SKEIN : Field := ⟨722, 0, 6, .rw, 0, .any⟩
def Reg.SELV_TEST_SEL : Reg :=
  ⟨"SELV_TEST_SEL", 0xA00060, [], false, .none,
   [Fld.SELV_TEST_SEL_SKEIN]⟩

/-! SELV_TEST_INFO (R542, 18_safety_mechanisms.md) -/
def Fld.SELV_TEST_INFO_DEFER_COUNT : Field := ⟨723, 16, 16, .ro, 0, .any⟩
def Fld.SELV_TEST_INFO_NEXT_SLICE : Field := ⟨724, 8, 4, .ro, 0, .any⟩
def Fld.SELV_TEST_INFO_SUSPECT : Field := ⟨725, 1, 1, .ro, 0, .any⟩
def Fld.SELV_TEST_INFO_RETIRED : Field := ⟨726, 0, 1, .ro, 0, .any⟩
def Reg.SELV_TEST_INFO : Reg :=
  ⟨"SELV_TEST_INFO", 0xA00064, [], false, .none,
   [Fld.SELV_TEST_INFO_DEFER_COUNT, Fld.SELV_TEST_INFO_NEXT_SLICE, Fld.SELV_TEST_INFO_SUSPECT, Fld.SELV_TEST_INFO_RETIRED]⟩

/-! SELV_TEST_LAST (R542, 18_safety_mechanisms.md) -/
def Fld.SELV_TEST_LAST_TIME : Field := ⟨727, 0, 64, .ro, 0, .any⟩
def Reg.SELV_TEST_LAST : Reg :=
  ⟨"SELV_TEST_LAST", 0xA00068, [], true, .none,
   [Fld.SELV_TEST_LAST_TIME]⟩

/-! SELV_EVT_CNT (R542, 18_safety_mechanisms.md) -/
def Fld.SELV_EVT_CNT_COUNT : Field := ⟨728, 0, 32, .rc, 0, .any⟩
def Reg.SELV_EVT_CNT : Reg :=
  ⟨"SELV_EVT_CNT", 0xA00014, [(10, 0x4)], false, .none,
   [Fld.SELV_EVT_CNT_COUNT]⟩

/-! SELV_PAIR_CFG (R542, 18_safety_mechanisms.md) -/
def Fld.SELV_PAIR_CFG_VALID : Field := ⟨729, 31, 1, .rwo, 0, .any⟩
def Fld.SELV_PAIR_CFG_DEBUG_TAINT : Field := ⟨730, 30, 1, .ro, 0, .any⟩
def Fld.SELV_PAIR_CFG_MAIN_HANK : Field := ⟨731, 27, 3, .rwo, 0, .any⟩
def Fld.SELV_PAIR_CFG_CHECK_HANK : Field := ⟨732, 24, 3, .rwo, 0, .any⟩
def Fld.SELV_PAIR_CFG_CHECK_JOB : Field := ⟨733, 16, 8, .rwo, 0, .any⟩
def Fld.SELV_PAIR_CFG_MAIN_JOB : Field := ⟨734, 8, 8, .rwo, 0, .any⟩
def Reg.SELV_PAIR_CFG : Reg :=
  ⟨"SELV_PAIR_CFG", 0xA00100, [(4, 0x40)], false, .pair,
   [Fld.SELV_PAIR_CFG_VALID, Fld.SELV_PAIR_CFG_DEBUG_TAINT, Fld.SELV_PAIR_CFG_MAIN_HANK, Fld.SELV_PAIR_CFG_CHECK_HANK, Fld.SELV_PAIR_CFG_CHECK_JOB, Fld.SELV_PAIR_CFG_MAIN_JOB]⟩

/-! SELV_PAIR_FRAME (R542, 18_safety_mechanisms.md) -/
def Fld.SELV_PAIR_FRAME_FRAME : Field := ⟨735, 0, 64, .ro, 0, .any⟩
def Reg.SELV_PAIR_FRAME : Reg :=
  ⟨"SELV_PAIR_FRAME", 0xA00108, [(4, 0x40)], true, .pair,
   [Fld.SELV_PAIR_FRAME_FRAME]⟩

/-! SELV_PAIR_MISMATCH_FRAME (R542, 18_safety_mechanisms.md) -/
def Fld.SELV_PAIR_MISMATCH_FRAME_FRAME : Field := ⟨736, 0, 64, .ro, 0, .any⟩
def Reg.SELV_PAIR_MISMATCH_FRAME : Reg :=
  ⟨"SELV_PAIR_MISMATCH_FRAME", 0xA00110, [(4, 0x40)], true, .pair,
   [Fld.SELV_PAIR_MISMATCH_FRAME_FRAME]⟩

/-! SELV_PAIR_CNT_MISMATCH (R542, 18_safety_mechanisms.md) -/
def Fld.SELV_PAIR_CNT_MISMATCH_COUNT : Field := ⟨737, 0, 32, .rc, 0, .any⟩
def Reg.SELV_PAIR_CNT_MISMATCH : Reg :=
  ⟨"SELV_PAIR_CNT_MISMATCH", 0xA00118, [(4, 0x40)], false, .pair,
   [Fld.SELV_PAIR_CNT_MISMATCH_COUNT]⟩

/-! SELV_PAIR_CNT_TRANSIENT (R542, 18_safety_mechanisms.md) -/
def Fld.SELV_PAIR_CNT_TRANSIENT_COUNT : Field := ⟨738, 0, 32, .rc, 0, .any⟩
def Reg.SELV_PAIR_CNT_TRANSIENT : Reg :=
  ⟨"SELV_PAIR_CNT_TRANSIENT", 0xA0011C, [(4, 0x40)], false, .pair,
   [Fld.SELV_PAIR_CNT_TRANSIENT_COUNT]⟩

/-! SELV_PAIR_CNT_ESCALATE (R542, 18_safety_mechanisms.md) -/
def Fld.SELV_PAIR_CNT_ESCALATE_COUNT : Field := ⟨739, 0, 32, .rc, 0, .any⟩
def Reg.SELV_PAIR_CNT_ESCALATE : Reg :=
  ⟨"SELV_PAIR_CNT_ESCALATE", 0xA00120, [(4, 0x40)], false, .pair,
   [Fld.SELV_PAIR_CNT_ESCALATE_COUNT]⟩

/-! SEC_STATUS (R577, 20_security_boot_and_store.md) -/
def Fld.SEC_STATUS_KEYS_READY : Field := ⟨740, 7, 1, .ro, 0, .any⟩
def Fld.SEC_STATUS_ROM_SERVICE : Field := ⟨741, 6, 1, .ro, 0, .any⟩
def Fld.SEC_STATUS_SELV_SLOT : Field := ⟨742, 5, 1, .ro, 0, .any⟩
def Fld.SEC_STATUS_HUB_SLOT : Field := ⟨743, 4, 1, .ro, 0, .any⟩
def Fld.SEC_STATUS_JNL_AREA : Field := ⟨744, 3, 1, .ro, 0, .any⟩
def Fld.SEC_STATUS_COMPACTING : Field := ⟨745, 2, 1, .ro, 0, .any⟩
def Fld.SEC_STATUS_DEBUG_LOCKED : Field := ⟨746, 1, 1, .ro, 1, .any⟩
def Fld.SEC_STATUS_BUSY : Field := ⟨747, 0, 1, .ro, 0, .any⟩
def Reg.SEC_STATUS : Reg :=
  ⟨"SEC_STATUS", 0xB00000, [], false, .none,
   [Fld.SEC_STATUS_KEYS_READY, Fld.SEC_STATUS_ROM_SERVICE, Fld.SEC_STATUS_SELV_SLOT, Fld.SEC_STATUS_HUB_SLOT, Fld.SEC_STATUS_JNL_AREA, Fld.SEC_STATUS_COMPACTING, Fld.SEC_STATUS_DEBUG_LOCKED, Fld.SEC_STATUS_BUSY]⟩

/-! SEC_KEY_EPOCH (R577, 20_security_boot_and_store.md) -/
def Fld.SEC_KEY_EPOCH_EPOCH : Field := ⟨748, 0, 32, .ro, 0, .any⟩
def Reg.SEC_KEY_EPOCH : Reg :=
  ⟨"SEC_KEY_EPOCH", 0xB00004, [], false, .none,
   [Fld.SEC_KEY_EPOCH_EPOCH]⟩

/-! SEC_CTRL (R577, 20_security_boot_and_store.md) -/
def Fld.SEC_CTRL_ATTEST_EN : Field := ⟨749, 0, 1, .rw, 1, .any⟩
def Reg.SEC_CTRL : Reg :=
  ⟨"SEC_CTRL", 0xB00008, [], false, .none,
   [Fld.SEC_CTRL_ATTEST_EN]⟩

/-! SEC_CMD (R577, 20_security_boot_and_store.md) -/
def Fld.SEC_CMD_ID : Field := ⟨750, 16, 16, .wo, 0, .any⟩
def Fld.SEC_CMD_TYPE : Field := ⟨751, 8, 8, .wo, 0, .any⟩
def Fld.SEC_CMD_OP : Field := ⟨752, 0, 8, .wo, 0, .any⟩
def Reg.SEC_CMD : Reg :=
  ⟨"SEC_CMD", 0xB0000C, [], false, .none,
   [Fld.SEC_CMD_ID, Fld.SEC_CMD_TYPE, Fld.SEC_CMD_OP]⟩

/-! SEC_ARG_ADDR (R577, 20_security_boot_and_store.md) -/
def Fld.SEC_ARG_ADDR_ADDR : Field := ⟨753, 0, 64, .rw, 0, .any⟩
def Reg.SEC_ARG_ADDR : Reg :=
  ⟨"SEC_ARG_ADDR", 0xB00010, [], true, .none,
   [Fld.SEC_ARG_ADDR_ADDR]⟩

/-! SEC_ARG_LEN (R577, 20_security_boot_and_store.md) -/
def Fld.SEC_ARG_LEN_BYTES : Field := ⟨754, 0, 32, .rw, 0, .any⟩
def Reg.SEC_ARG_LEN : Reg :=
  ⟨"SEC_ARG_LEN", 0xB00018, [], false, .none,
   [Fld.SEC_ARG_LEN_BYTES]⟩

/-! SEC_RESULT (R577, 20_security_boot_and_store.md) -/
def Fld.SEC_RESULT_STATUS : Field := ⟨755, 16, 16, .ro, 0, .any⟩
def Fld.SEC_RESULT_OP : Field := ⟨756, 0, 8, .ro, 0, .any⟩
def Reg.SEC_RESULT : Reg :=
  ⟨"SEC_RESULT", 0xB0001C, [], false, .none,
   [Fld.SEC_RESULT_STATUS, Fld.SEC_RESULT_OP]⟩

/-! SEC_RESULT_VALUE (R577, 20_security_boot_and_store.md) -/
def Fld.SEC_RESULT_VALUE_VALUE : Field := ⟨757, 0, 64, .ro, 0, .any⟩
def Reg.SEC_RESULT_VALUE : Reg :=
  ⟨"SEC_RESULT_VALUE", 0xB00020, [], true, .none,
   [Fld.SEC_RESULT_VALUE_VALUE]⟩

/-! SEC_HUB_VERSION (R577, 20_security_boot_and_store.md) -/
def Fld.SEC_HUB_VERSION_VERSION : Field := ⟨758, 0, 32, .ro, 0, .any⟩
def Reg.SEC_HUB_VERSION : Reg :=
  ⟨"SEC_HUB_VERSION", 0xB00028, [], false, .none,
   [Fld.SEC_HUB_VERSION_VERSION]⟩

/-! SEC_SELV_VERSION (R577, 20_security_boot_and_store.md) -/
def Fld.SEC_SELV_VERSION_VERSION : Field := ⟨759, 0, 32, .ro, 0, .any⟩
def Reg.SEC_SELV_VERSION : Reg :=
  ⟨"SEC_SELV_VERSION", 0xB0002C, [], false, .none,
   [Fld.SEC_SELV_VERSION_VERSION]⟩

/-! SEC_HUB_FLOOR (R577, 20_security_boot_and_store.md) -/
def Fld.SEC_HUB_FLOOR_FLOOR : Field := ⟨760, 0, 32, .ro, 0, .any⟩
def Reg.SEC_HUB_FLOOR : Reg :=
  ⟨"SEC_HUB_FLOOR", 0xB00030, [], false, .none,
   [Fld.SEC_HUB_FLOOR_FLOOR]⟩

/-! SEC_SELV_FLOOR (R577, 20_security_boot_and_store.md) -/
def Fld.SEC_SELV_FLOOR_FLOOR : Field := ⟨761, 0, 32, .ro, 0, .any⟩
def Reg.SEC_SELV_FLOOR : Reg :=
  ⟨"SEC_SELV_FLOOR", 0xB00034, [], false, .none,
   [Fld.SEC_SELV_FLOOR_FLOOR]⟩

/-! SEC_JNL_USED (R577, 20_security_boot_and_store.md) -/
def Fld.SEC_JNL_USED_BYTES : Field := ⟨762, 0, 32, .ro, 0, .any⟩
def Reg.SEC_JNL_USED : Reg :=
  ⟨"SEC_JNL_USED", 0xB00038, [], false, .none,
   [Fld.SEC_JNL_USED_BYTES]⟩

/-! SEC_JNL_LIVE (R577, 20_security_boot_and_store.md) -/
def Fld.SEC_JNL_LIVE_BYTES : Field := ⟨763, 0, 32, .ro, 0, .any⟩
def Reg.SEC_JNL_LIVE : Reg :=
  ⟨"SEC_JNL_LIVE", 0xB0003C, [], false, .none,
   [Fld.SEC_JNL_LIVE_BYTES]⟩

/-! SEC_JNL_SEQ (R577, 20_security_boot_and_store.md) -/
def Fld.SEC_JNL_SEQ_SEQ : Field := ⟨764, 0, 64, .ro, 0, .any⟩
def Reg.SEC_JNL_SEQ : Reg :=
  ⟨"SEC_JNL_SEQ", 0xB00040, [], true, .none,
   [Fld.SEC_JNL_SEQ_SEQ]⟩

/-! SEC_ALARM_TIME (R577, 20_security_boot_and_store.md) -/
def Fld.SEC_ALARM_TIME_TIME : Field := ⟨765, 0, 64, .ro, 0, .any⟩
def Reg.SEC_ALARM_TIME : Reg :=
  ⟨"SEC_ALARM_TIME", 0xB00048, [], true, .none,
   [Fld.SEC_ALARM_TIME_TIME]⟩

/-! SEC_ALARM_CAP (R577, 20_security_boot_and_store.md) -/
def Fld.SEC_ALARM_CAP_CLASS : Field := ⟨766, 8, 2, .ro, 0, .any⟩
def Fld.SEC_ALARM_CAP_SENSOR : Field := ⟨767, 0, 3, .ro, 0, .any⟩
def Reg.SEC_ALARM_CAP : Reg :=
  ⟨"SEC_ALARM_CAP", 0xB00050, [], false, .none,
   [Fld.SEC_ALARM_CAP_CLASS, Fld.SEC_ALARM_CAP_SENSOR]⟩

/-! SEC_EVT (R577, 20_security_boot_and_store.md) -/
def Fld.SEC_EVT_KEY_SKIPPED : Field := ⟨768, 6, 1, .rw1c, 0, .any⟩
def Fld.SEC_EVT_DEBUG_FAIL : Field := ⟨769, 5, 1, .rw1c, 0, .any⟩
def Fld.SEC_EVT_JNL_TRUNC : Field := ⟨770, 4, 1, .rw1c, 0, .any⟩
def Fld.SEC_EVT_JNL_COMPACT : Field := ⟨771, 3, 1, .rw1c, 0, .any⟩
def Fld.SEC_EVT_TAMPER : Field := ⟨772, 2, 1, .rw1c, 0, .any⟩
def Fld.SEC_EVT_CMD_REFUSED : Field := ⟨773, 1, 1, .rw1c, 0, .any⟩
def Fld.SEC_EVT_CMD_DONE : Field := ⟨774, 0, 1, .rw1c, 0, .any⟩
def Reg.SEC_EVT : Reg :=
  ⟨"SEC_EVT", 0xB00054, [], false, .none,
   [Fld.SEC_EVT_KEY_SKIPPED, Fld.SEC_EVT_DEBUG_FAIL, Fld.SEC_EVT_JNL_TRUNC, Fld.SEC_EVT_JNL_COMPACT, Fld.SEC_EVT_TAMPER, Fld.SEC_EVT_CMD_REFUSED, Fld.SEC_EVT_CMD_DONE]⟩

/-! SEC_EVT_CNT (R577, 20_security_boot_and_store.md) -/
def Fld.SEC_EVT_CNT_COUNT : Field := ⟨775, 0, 32, .rc, 0, .any⟩
def Reg.SEC_EVT_CNT : Reg :=
  ⟨"SEC_EVT_CNT", 0xB00058, [(7, 0x4)], false, .none,
   [Fld.SEC_EVT_CNT_COUNT]⟩

/-! SEC_IDENT_PUB (R577, 20_security_boot_and_store.md) -/
def Fld.SEC_IDENT_PUB_KEY : Field := ⟨776, 0, 32, .ro, 0, .any⟩
def Reg.SEC_IDENT_PUB : Reg :=
  ⟨"SEC_IDENT_PUB", 0xB00080, [(8, 0x4)], false, .none,
   [Fld.SEC_IDENT_PUB_KEY]⟩

/-! SEC_ATTEST_PUB (R577, 20_security_boot_and_store.md) -/
def Fld.SEC_ATTEST_PUB_KEY : Field := ⟨777, 0, 32, .ro, 0, .any⟩
def Reg.SEC_ATTEST_PUB : Reg :=
  ⟨"SEC_ATTEST_PUB", 0xB000A0, [(8, 0x4)], false, .none,
   [Fld.SEC_ATTEST_PUB_KEY]⟩

/-! PWR_STATUS (R599, 21_power_reset_pins_package.md) -/
def Fld.PWR_STATUS_RAMPING : Field := ⟨778, 3, 1, .ro, 0, .any⟩
def Fld.PWR_STATUS_TJ_LIMIT : Field := ⟨779, 2, 1, .ro, 0, .any⟩
def Fld.PWR_STATUS_CAP_ACTIVE : Field := ⟨780, 1, 1, .ro, 0, .any⟩
def Fld.PWR_STATUS_AVS_OK : Field := ⟨781, 0, 1, .ro, 0, .any⟩
def Reg.PWR_STATUS : Reg :=
  ⟨"PWR_STATUS", 0xC00000, [], false, .none,
   [Fld.PWR_STATUS_RAMPING, Fld.PWR_STATUS_TJ_LIMIT, Fld.PWR_STATUS_CAP_ACTIVE, Fld.PWR_STATUS_AVS_OK]⟩

/-! PWR_VSET (R599, 21_power_reset_pins_package.md) -/
def Fld.PWR_VSET_MV : Field := ⟨782, 0, 16, .rw, 750, .any⟩
def Reg.PWR_VSET : Reg :=
  ⟨"PWR_VSET", 0xC00004, [], false, .none,
   [Fld.PWR_VSET_MV]⟩

/-! PWR_VAPPLIED (R599, 21_power_reset_pins_package.md) -/
def Fld.PWR_VAPPLIED_CEIL_MV : Field := ⟨783, 16, 16, .ro, 850, .any⟩
def Fld.PWR_VAPPLIED_MV : Field := ⟨784, 0, 16, .ro, 0, .any⟩
def Reg.PWR_VAPPLIED : Reg :=
  ⟨"PWR_VAPPLIED", 0xC00008, [], false, .none,
   [Fld.PWR_VAPPLIED_CEIL_MV, Fld.PWR_VAPPLIED_MV]⟩

/-! PWR_SLEW (R599, 21_power_reset_pins_package.md) -/
def Fld.PWR_SLEW_STEP_US : Field := ⟨785, 16, 16, .rw, 10, .range 1 1000⟩
def Fld.PWR_SLEW_STEP_MV : Field := ⟨786, 8, 8, .rw, 10, .step 5 50 5⟩
def Reg.PWR_SLEW : Reg :=
  ⟨"PWR_SLEW", 0xC0000C, [], false, .none,
   [Fld.PWR_SLEW_STEP_US, Fld.PWR_SLEW_STEP_MV]⟩

/-! PWR_CAP (R599, 21_power_reset_pins_package.md) -/
def Fld.PWR_CAP_HYST_W : Field := ⟨787, 16, 16, .rw, 10, .any⟩
def Fld.PWR_CAP_WATTS : Field := ⟨788, 0, 16, .rw, 380, .range 100 380⟩
def Reg.PWR_CAP : Reg :=
  ⟨"PWR_CAP", 0xC00010, [], false, .none,
   [Fld.PWR_CAP_HYST_W, Fld.PWR_CAP_WATTS]⟩

/-! PWR_OTHER (R599, 21_power_reset_pins_package.md) -/
def Fld.PWR_OTHER_MW : Field := ⟨789, 0, 16, .rw, 40000, .any⟩
def Reg.PWR_OTHER : Reg :=
  ⟨"PWR_OTHER", 0xC00014, [], false, .none,
   [Fld.PWR_OTHER_MW]⟩

/-! PWR_POWER (R599, 21_power_reset_pins_package.md) -/
def Fld.PWR_POWER_MW : Field := ⟨790, 0, 32, .ro, 0, .any⟩
def Reg.PWR_POWER : Reg :=
  ⟨"PWR_POWER", 0xC00018, [], false, .none,
   [Fld.PWR_POWER_MW]⟩

/-! PWR_ENERGY (R599, 21_power_reset_pins_package.md) -/
def Fld.PWR_ENERGY_ENERGY : Field := ⟨791, 0, 64, .ro, 0, .any⟩
def Reg.PWR_ENERGY : Reg :=
  ⟨"PWR_ENERGY", 0xC00020, [], true, .none,
   [Fld.PWR_ENERGY_ENERGY]⟩

/-! PWR_RAIL_SEL (R599, 21_power_reset_pins_package.md) -/
def Fld.PWR_RAIL_SEL_RAIL : Field := ⟨792, 0, 1, .rw, 0, .any⟩
def Reg.PWR_RAIL_SEL : Reg :=
  ⟨"PWR_RAIL_SEL", 0xC00028, [], false, .none,
   [Fld.PWR_RAIL_SEL_RAIL]⟩

/-! PWR_RAIL_DATA (R599, 21_power_reset_pins_package.md) -/
def Fld.PWR_RAIL_DATA_MV : Field := ⟨793, 16, 16, .ro, 0, .any⟩
def Fld.PWR_RAIL_DATA_CURRENT : Field := ⟨794, 0, 16, .ro, 0, .any⟩
def Reg.PWR_RAIL_DATA : Reg :=
  ⟨"PWR_RAIL_DATA", 0xC0002C, [], false, .none,
   [Fld.PWR_RAIL_DATA_MV, Fld.PWR_RAIL_DATA_CURRENT]⟩

/-! PWR_TJ (R599, 21_power_reset_pins_package.md) -/
def Fld.PWR_TJ_PEAK : Field := ⟨795, 16, 16, .ro, 0, .any⟩
def Fld.PWR_TJ_MAX : Field := ⟨796, 0, 16, .ro, 0, .any⟩
def Reg.PWR_TJ : Reg :=
  ⟨"PWR_TJ", 0xC00030, [], false, .none,
   [Fld.PWR_TJ_PEAK, Fld.PWR_TJ_MAX]⟩

/-! PWR_EVT (R599, 21_power_reset_pins_package.md) -/
def Fld.PWR_EVT_AVS_ERR : Field := ⟨797, 4, 1, .rw1c, 0, .any⟩
def Fld.PWR_EVT_RAIL_WARN : Field := ⟨798, 3, 1, .rw1c, 0, .any⟩
def Fld.PWR_EVT_TJ_LIMIT : Field := ⟨799, 2, 1, .rw1c, 0, .any⟩
def Fld.PWR_EVT_CAP_ACTIVE : Field := ⟨800, 1, 1, .rw1c, 0, .any⟩
def Fld.PWR_EVT_SET_REFUSED : Field := ⟨801, 0, 1, .rw1c, 0, .any⟩
def Reg.PWR_EVT : Reg :=
  ⟨"PWR_EVT", 0xC00054, [], false, .none,
   [Fld.PWR_EVT_AVS_ERR, Fld.PWR_EVT_RAIL_WARN, Fld.PWR_EVT_TJ_LIMIT, Fld.PWR_EVT_CAP_ACTIVE, Fld.PWR_EVT_SET_REFUSED]⟩

/-! PWR_WAKE (R599, 21_power_reset_pins_package.md) -/
def Fld.PWR_WAKE_WAKE_FAIL_COUNT : Field := ⟨802, 16, 16, .ro, 0, .any⟩
def Fld.PWR_WAKE_TIMEOUT : Field := ⟨803, 8, 8, .rw, 50, .range 1 255⟩
def Fld.PWR_WAKE_LAST_SOURCE : Field := ⟨804, 0, 2, .ro, 0, .any⟩
def Reg.PWR_WAKE : Reg :=
  ⟨"PWR_WAKE", 0xC00070, [], false, .none,
   [Fld.PWR_WAKE_WAKE_FAIL_COUNT, Fld.PWR_WAKE_TIMEOUT, Fld.PWR_WAKE_LAST_SOURCE]⟩

/-! PWR_TJN (R599, 21_power_reset_pins_package.md) -/
def Fld.PWR_TJN_TJ : Field := ⟨805, 0, 16, .ro, 0, .any⟩
def Reg.PWR_TJN : Reg :=
  ⟨"PWR_TJN", 0xC00040, [(5, 0x4)], false, .none,
   [Fld.PWR_TJN_TJ]⟩

/-! PWR_EVT_CNT (R599, 21_power_reset_pins_package.md) -/
def Fld.PWR_EVT_CNT_COUNT : Field := ⟨806, 0, 32, .rc, 0, .any⟩
def Reg.PWR_EVT_CNT : Reg :=
  ⟨"PWR_EVT_CNT", 0xC00058, [(5, 0x4)], false, .none,
   [Fld.PWR_EVT_CNT_COUNT]⟩

def regsSafe0 : List Reg :=
  [Reg.SELV_STATUS, Reg.SELV_CTRL, Reg.SELV_TIMING, Reg.SELV_TIME_CFG, Reg.SELV_EVT, Reg.SELV_FAULT_CAP, Reg.SELV_FAULT_TIME, Reg.SELV_INJECT_CAP, Reg.SELV_TEST_SEL, Reg.SELV_TEST_INFO, Reg.SELV_TEST_LAST, Reg.SELV_EVT_CNT, Reg.SELV_PAIR_CFG, Reg.SELV_PAIR_FRAME, Reg.SELV_PAIR_MISMATCH_FRAME, Reg.SELV_PAIR_CNT_MISMATCH, Reg.SELV_PAIR_CNT_TRANSIENT, Reg.SELV_PAIR_CNT_ESCALATE, Reg.SEC_STATUS, Reg.SEC_KEY_EPOCH, Reg.SEC_CTRL, Reg.SEC_CMD, Reg.SEC_ARG_ADDR, Reg.SEC_ARG_LEN, Reg.SEC_RESULT, Reg.SEC_RESULT_VALUE, Reg.SEC_HUB_VERSION, Reg.SEC_SELV_VERSION, Reg.SEC_HUB_FLOOR, Reg.SEC_SELV_FLOOR, Reg.SEC_JNL_USED, Reg.SEC_JNL_LIVE, Reg.SEC_JNL_SEQ, Reg.SEC_ALARM_TIME, Reg.SEC_ALARM_CAP, Reg.SEC_EVT, Reg.SEC_EVT_CNT, Reg.SEC_IDENT_PUB, Reg.SEC_ATTEST_PUB, Reg.PWR_STATUS]

def regsSafe1 : List Reg :=
  [Reg.PWR_VSET, Reg.PWR_VAPPLIED, Reg.PWR_SLEW, Reg.PWR_CAP, Reg.PWR_OTHER, Reg.PWR_POWER, Reg.PWR_ENERGY, Reg.PWR_RAIL_SEL, Reg.PWR_RAIL_DATA, Reg.PWR_TJ, Reg.PWR_EVT, Reg.PWR_WAKE, Reg.PWR_TJN, Reg.PWR_EVT_CNT]

/-- The registers of this file. -/
def regsSafe : List Reg := regsSafe0 ++ regsSafe1

end Sys2Proof.Machine
end

