-- ==== Sys2Proof/Machine/RegsSkein.lean ====
section
/-! DEFINITION. The register map of the WHORL, SKEIN, MEMC and PLY blocks (chapters 02 to 09, the domain sets and TIME_IN of chapter 15, R454).

A field `Fld.REGISTER_FIELD` is one field row of the spec's register tables: its storage code, its
lowest bit, its width, its access code of Table 0.1, its reset value (0 where the table says `boot`:
BOOT loads it) and the values R600 lets a write give it.  A register `Reg.NAME` is its name, BAR0
address, index strides, whether it is 64 bits wide, the unit whose CONFIG gates its RWO fields, and
its fields. -/

namespace Sys2Proof.Machine

/-! WHORL_TIME (R61, 02_clockless_fabric_and_whorl_time.md) -/
def Fld.WHORL_TIME_TIME : Field := ⟨122, 0, 64, .ro, 0, .any⟩
def Reg.WHORL_TIME : Reg :=
  ⟨"WHORL_TIME", 0x300000, [], true, .none,
   [Fld.WHORL_TIME_TIME]⟩

/-! WHORL_CTRL (R61, 02_clockless_fabric_and_whorl_time.md) -/
def Fld.WHORL_CTRL_DOMAIN : Field := ⟨123, 0, 4, .rw, 0, .range 0 3⟩
def Reg.WHORL_CTRL : Reg :=
  ⟨"WHORL_CTRL", 0x300008, [], false, .none,
   [Fld.WHORL_CTRL_DOMAIN]⟩

/-! WHORL_STATUS (R61, 02_clockless_fabric_and_whorl_time.md) -/
def Fld.WHORL_STATUS_HOLDING : Field := ⟨124, 3, 1, .ro, 0, .any⟩
def Fld.WHORL_STATUS_HOLDOVER : Field := ⟨125, 2, 1, .ro, 0, .any⟩
def Fld.WHORL_STATUS_REF_LOCK : Field := ⟨126, 1, 1, .ro, 0, .any⟩
def Fld.WHORL_STATUS_WAVE_OK : Field := ⟨127, 0, 1, .ro, 0, .any⟩
def Reg.WHORL_STATUS : Reg :=
  ⟨"WHORL_STATUS", 0x30000C, [], false, .none,
   [Fld.WHORL_STATUS_HOLDING, Fld.WHORL_STATUS_HOLDOVER, Fld.WHORL_STATUS_REF_LOCK, Fld.WHORL_STATUS_WAVE_OK]⟩

/-! WHORL_RATE_ADJ (R61, 02_clockless_fabric_and_whorl_time.md) -/
def Fld.WHORL_RATE_ADJ_ADJ : Field := ⟨128, 0, 32, .rw, 0, .any⟩
def Reg.WHORL_RATE_ADJ : Reg :=
  ⟨"WHORL_RATE_ADJ", 0x300010, [], false, .none,
   [Fld.WHORL_RATE_ADJ_ADJ]⟩

/-! WHORL_STEP (R61, 02_clockless_fabric_and_whorl_time.md) -/
def Fld.WHORL_STEP_STEP : Field := ⟨129, 0, 64, .wo, 0, .any⟩
def Reg.WHORL_STEP : Reg :=
  ⟨"WHORL_STEP", 0x300018, [], true, .none,
   [Fld.WHORL_STEP_STEP]⟩

/-! WHORL_HOLD_MAX (R61, 02_clockless_fabric_and_whorl_time.md) -/
def Fld.WHORL_HOLD_MAX_TICKS : Field := ⟨130, 0, 32, .rw, 4000, .any⟩
def Reg.WHORL_HOLD_MAX : Reg :=
  ⟨"WHORL_HOLD_MAX", 0x300020, [], false, .none,
   [Fld.WHORL_HOLD_MAX_TICKS]⟩

/-! WHORL_LATE_TOL (R61, 02_clockless_fabric_and_whorl_time.md) -/
def Fld.WHORL_LATE_TOL_TICKS : Field := ⟨131, 0, 16, .rw, 40, .any⟩
def Reg.WHORL_LATE_TOL : Reg :=
  ⟨"WHORL_LATE_TOL", 0x300024, [], false, .none,
   [Fld.WHORL_LATE_TOL_TICKS]⟩

/-! WHORL_LATE_POLICY (R61, 02_clockless_fabric_and_whorl_time.md) -/
def Fld.WHORL_LATE_POLICY_TEST_IDLE : Field := ⟨132, 3, 1, .rw, 0, .any⟩
def Fld.WHORL_LATE_POLICY_BEST_EFFORT : Field := ⟨133, 2, 1, .rw, 0, .any⟩
def Fld.WHORL_LATE_POLICY_PERCEPTION : Field := ⟨134, 1, 1, .rw, 0, .any⟩
def Fld.WHORL_LATE_POLICY_SAFETY : Field := ⟨135, 0, 1, .rw, 1, .any⟩
def Reg.WHORL_LATE_POLICY : Reg :=
  ⟨"WHORL_LATE_POLICY", 0x300028, [], false, .none,
   [Fld.WHORL_LATE_POLICY_TEST_IDLE, Fld.WHORL_LATE_POLICY_BEST_EFFORT, Fld.WHORL_LATE_POLICY_PERCEPTION, Fld.WHORL_LATE_POLICY_SAFETY]⟩

/-! WHORL_GUARD (R61, 02_clockless_fabric_and_whorl_time.md) -/
def Fld.WHORL_GUARD_TICKS : Field := ⟨136, 0, 32, .rw, 2000, .any⟩
def Reg.WHORL_GUARD : Reg :=
  ⟨"WHORL_GUARD", 0x30002C, [], false, .none,
   [Fld.WHORL_GUARD_TICKS]⟩

/-! WHORL_HORIZON (R61, 02_clockless_fabric_and_whorl_time.md) -/
def Fld.WHORL_HORIZON_TICKS : Field := ⟨137, 0, 64, .rw, 4294967296, .any⟩
def Reg.WHORL_HORIZON : Reg :=
  ⟨"WHORL_HORIZON", 0x300030, [], true, .none,
   [Fld.WHORL_HORIZON_TICKS]⟩

/-! WHORL_EVT (R61, 02_clockless_fabric_and_whorl_time.md) -/
def Fld.WHORL_EVT_STEP_REFUSED : Field := ⟨138, 4, 1, .rw1c, 0, .any⟩
def Fld.WHORL_EVT_REF_LOST : Field := ⟨139, 3, 1, .rw1c, 0, .any⟩
def Fld.WHORL_EVT_WAVE_SLIP : Field := ⟨140, 2, 1, .rw1c, 0, .any⟩
def Fld.WHORL_EVT_STEPPED : Field := ⟨141, 1, 1, .rw1c, 0, .any⟩
def Fld.WHORL_EVT_LAUNCH_LATE : Field := ⟨142, 0, 1, .rw1c, 0, .any⟩
def Reg.WHORL_EVT : Reg :=
  ⟨"WHORL_EVT", 0x300038, [], false, .none,
   [Fld.WHORL_EVT_STEP_REFUSED, Fld.WHORL_EVT_REF_LOST, Fld.WHORL_EVT_WAVE_SLIP, Fld.WHORL_EVT_STEPPED, Fld.WHORL_EVT_LAUNCH_LATE]⟩

/-! WHORL_EVT_CNT_LATE (R61, 02_clockless_fabric_and_whorl_time.md) -/
def Fld.WHORL_EVT_CNT_LATE_COUNT : Field := ⟨143, 0, 32, .rc, 0, .any⟩
def Reg.WHORL_EVT_CNT_LATE : Reg :=
  ⟨"WHORL_EVT_CNT_LATE", 0x30003C, [], false, .none,
   [Fld.WHORL_EVT_CNT_LATE_COUNT]⟩

/-! WHORL_EVT_CNT_STEP (R61, 02_clockless_fabric_and_whorl_time.md) -/
def Fld.WHORL_EVT_CNT_STEP_COUNT : Field := ⟨144, 0, 32, .rc, 0, .any⟩
def Reg.WHORL_EVT_CNT_STEP : Reg :=
  ⟨"WHORL_EVT_CNT_STEP", 0x300040, [], false, .none,
   [Fld.WHORL_EVT_CNT_STEP_COUNT]⟩

/-! WHORL_EVT_CNT_SLIP (R61, 02_clockless_fabric_and_whorl_time.md) -/
def Fld.WHORL_EVT_CNT_SLIP_COUNT : Field := ⟨145, 0, 32, .rc, 0, .any⟩
def Reg.WHORL_EVT_CNT_SLIP : Reg :=
  ⟨"WHORL_EVT_CNT_SLIP", 0x300044, [], false, .none,
   [Fld.WHORL_EVT_CNT_SLIP_COUNT]⟩

/-! WHORL_EVT_CNT_REFLOST (R61, 02_clockless_fabric_and_whorl_time.md) -/
def Fld.WHORL_EVT_CNT_REFLOST_COUNT : Field := ⟨146, 0, 32, .rc, 0, .any⟩
def Reg.WHORL_EVT_CNT_REFLOST : Reg :=
  ⟨"WHORL_EVT_CNT_REFLOST", 0x300048, [], false, .none,
   [Fld.WHORL_EVT_CNT_REFLOST_COUNT]⟩

/-! WHORL_EVT_CNT_REFUSED (R61, 02_clockless_fabric_and_whorl_time.md) -/
def Fld.WHORL_EVT_CNT_REFUSED_COUNT : Field := ⟨147, 0, 32, .rc, 0, .any⟩
def Reg.WHORL_EVT_CNT_REFUSED : Reg :=
  ⟨"WHORL_EVT_CNT_REFUSED", 0x30004C, [], false, .none,
   [Fld.WHORL_EVT_CNT_REFUSED_COUNT]⟩

/-! WHORL_BEATMON_SEL (R61, 02_clockless_fabric_and_whorl_time.md) -/
def Fld.WHORL_BEATMON_SEL_SKEIN : Field := ⟨148, 0, 6, .rw, 0, .any⟩
def Reg.WHORL_BEATMON_SEL : Reg :=
  ⟨"WHORL_BEATMON_SEL", 0x300050, [], false, .none,
   [Fld.WHORL_BEATMON_SEL_SKEIN]⟩

/-! WHORL_BEATMON (R61, 02_clockless_fabric_and_whorl_time.md) -/
def Fld.WHORL_BEATMON_BEATS : Field := ⟨149, 0, 32, .ro, 0, .any⟩
def Reg.WHORL_BEATMON : Reg :=
  ⟨"WHORL_BEATMON", 0x300054, [], false, .none,
   [Fld.WHORL_BEATMON_BEATS]⟩

/-! WHORL_SLIP_SRC (R61, 02_clockless_fabric_and_whorl_time.md) -/
def Fld.WHORL_SLIP_SRC_SOURCE : Field := ⟨150, 0, 8, .ro, 0, .any⟩
def Reg.WHORL_SLIP_SRC : Reg :=
  ⟨"WHORL_SLIP_SRC", 0x300058, [], false, .none,
   [Fld.WHORL_SLIP_SRC_SOURCE]⟩

/-! SKEIN_SP_STATE (R104, 03_wide_instruction_programming.md) -/
def Fld.SKEIN_SP_STATE_SP1_JOB : Field := ⟨151, 24, 8, .ro, 0, .any⟩
def Fld.SKEIN_SP_STATE_SP0_JOB : Field := ⟨152, 16, 8, .ro, 0, .any⟩
def Fld.SKEIN_SP_STATE_SP1_STATE : Field := ⟨153, 8, 3, .ro, 0, .any⟩
def Fld.SKEIN_SP_STATE_SP0_STATE : Field := ⟨154, 0, 3, .ro, 0, .any⟩
def Reg.SKEIN_SP_STATE : Reg :=
  ⟨"SKEIN_SP_STATE", 0x1000000, [(64, 0x10000)], false, .none,
   [Fld.SKEIN_SP_STATE_SP1_JOB, Fld.SKEIN_SP_STATE_SP0_JOB, Fld.SKEIN_SP_STATE_SP1_STATE, Fld.SKEIN_SP_STATE_SP0_STATE]⟩

/-! SKEIN_SP0_PC (R104, 03_wide_instruction_programming.md) -/
def Fld.SKEIN_SP0_PC_PC : Field := ⟨155, 0, 10, .ro, 0, .any⟩
def Reg.SKEIN_SP0_PC : Reg :=
  ⟨"SKEIN_SP0_PC", 0x1000004, [(64, 0x10000)], false, .none,
   [Fld.SKEIN_SP0_PC_PC]⟩

/-! SKEIN_SP1_PC (R104, 03_wide_instruction_programming.md) -/
def Fld.SKEIN_SP1_PC_PC : Field := ⟨156, 0, 10, .ro, 0, .any⟩
def Reg.SKEIN_SP1_PC : Reg :=
  ⟨"SKEIN_SP1_PC", 0x1000008, [(64, 0x10000)], false, .none,
   [Fld.SKEIN_SP1_PC_PC]⟩

/-! SKEIN_QUEUE_LEVEL (R104, 03_wide_instruction_programming.md) -/
def Fld.SKEIN_QUEUE_LEVEL_D1 : Field := ⟨157, 24, 7, .ro, 0, .any⟩
def Fld.SKEIN_QUEUE_LEVEL_D0 : Field := ⟨158, 16, 7, .ro, 0, .any⟩
def Fld.SKEIN_QUEUE_LEVEL_VQ : Field := ⟨159, 8, 6, .ro, 0, .any⟩
def Fld.SKEIN_QUEUE_LEVEL_LQ : Field := ⟨160, 0, 6, .ro, 0, .any⟩
def Reg.SKEIN_QUEUE_LEVEL : Reg :=
  ⟨"SKEIN_QUEUE_LEVEL", 0x100000C, [(64, 0x10000)], false, .none,
   [Fld.SKEIN_QUEUE_LEVEL_D1, Fld.SKEIN_QUEUE_LEVEL_D0, Fld.SKEIN_QUEUE_LEVEL_VQ, Fld.SKEIN_QUEUE_LEVEL_LQ]⟩

/-! SKEIN_TRAP (R104, 03_wide_instruction_programming.md) -/
def Fld.SKEIN_TRAP_CORE : Field := ⟨161, 24, 1, .ro, 0, .any⟩
def Fld.SKEIN_TRAP_CAUSE : Field := ⟨162, 16, 8, .ro, 0, .any⟩
def Fld.SKEIN_TRAP_CODE : Field := ⟨163, 8, 8, .ro, 0, .any⟩
def Reg.SKEIN_TRAP : Reg :=
  ⟨"SKEIN_TRAP", 0x1000010, [(64, 0x10000)], false, .none,
   [Fld.SKEIN_TRAP_CORE, Fld.SKEIN_TRAP_CAUSE, Fld.SKEIN_TRAP_CODE]⟩

/-! SKEIN_EVT (R104, 03_wide_instruction_programming.md) -/
def Fld.SKEIN_EVT_TOKEN_REFUSED : Field := ⟨164, 2, 1, .rw1c, 0, .any⟩
def Fld.SKEIN_EVT_TOKEN_SAT : Field := ⟨165, 1, 1, .rw1c, 0, .any⟩
def Fld.SKEIN_EVT_TRAP : Field := ⟨166, 0, 1, .rw1c, 0, .any⟩
def Reg.SKEIN_EVT : Reg :=
  ⟨"SKEIN_EVT", 0x1000014, [(64, 0x10000)], false, .none,
   [Fld.SKEIN_EVT_TOKEN_REFUSED, Fld.SKEIN_EVT_TOKEN_SAT, Fld.SKEIN_EVT_TRAP]⟩

/-! SKEIN_EVT_CNT_TRAP (R104, 03_wide_instruction_programming.md) -/
def Fld.SKEIN_EVT_CNT_TRAP_COUNT : Field := ⟨167, 0, 32, .rc, 0, .any⟩
def Reg.SKEIN_EVT_CNT_TRAP : Reg :=
  ⟨"SKEIN_EVT_CNT_TRAP", 0x1000018, [(64, 0x10000)], false, .none,
   [Fld.SKEIN_EVT_CNT_TRAP_COUNT]⟩

/-! SKEIN_EVT_CNT_TKSAT (R104, 03_wide_instruction_programming.md) -/
def Fld.SKEIN_EVT_CNT_TKSAT_COUNT : Field := ⟨168, 0, 32, .rc, 0, .any⟩
def Reg.SKEIN_EVT_CNT_TKSAT : Reg :=
  ⟨"SKEIN_EVT_CNT_TKSAT", 0x100001C, [(64, 0x10000)], false, .none,
   [Fld.SKEIN_EVT_CNT_TKSAT_COUNT]⟩

/-! SKEIN_HOST_RESERVE (R104, 03_wide_instruction_programming.md) -/
def Fld.SKEIN_HOST_RESERVE_DQ : Field := ⟨169, 16, 7, .rwo, 48, .range 0 64⟩
def Fld.SKEIN_HOST_RESERVE_VQ : Field := ⟨170, 8, 6, .rwo, 24, .range 0 32⟩
def Fld.SKEIN_HOST_RESERVE_LQ : Field := ⟨171, 0, 6, .rwo, 24, .range 0 32⟩
def Reg.SKEIN_HOST_RESERVE : Reg :=
  ⟨"SKEIN_HOST_RESERVE", 0x1000020, [(64, 0x10000)], false, .skeinShare,
   [Fld.SKEIN_HOST_RESERVE_DQ, Fld.SKEIN_HOST_RESERVE_VQ, Fld.SKEIN_HOST_RESERVE_LQ]⟩

/-! SKEIN_TOKEN_SEL (R104, 03_wide_instruction_programming.md) -/
def Fld.SKEIN_TOKEN_SEL_INDEX : Field := ⟨172, 0, 10, .rw, 0, .any⟩
def Reg.SKEIN_TOKEN_SEL : Reg :=
  ⟨"SKEIN_TOKEN_SEL", 0x1000024, [(64, 0x10000)], false, .none,
   [Fld.SKEIN_TOKEN_SEL_INDEX]⟩

/-! SKEIN_TOKEN_DATA (R104, 03_wide_instruction_programming.md) -/
def Fld.SKEIN_TOKEN_DATA_MODE : Field := ⟨173, 48, 1, .ro, 0, .any⟩
def Fld.SKEIN_TOKEN_DATA_OWNER_JOB : Field := ⟨174, 40, 8, .ro, 0, .any⟩
def Fld.SKEIN_TOKEN_DATA_ASSIGNED : Field := ⟨175, 32, 1, .ro, 0, .any⟩
def Fld.SKEIN_TOKEN_DATA_TARGET : Field := ⟨176, 16, 16, .ro, 1, .any⟩
def Fld.SKEIN_TOKEN_DATA_COUNT : Field := ⟨177, 0, 16, .ro, 0, .any⟩
def Reg.SKEIN_TOKEN_DATA : Reg :=
  ⟨"SKEIN_TOKEN_DATA", 0x1000028, [(64, 0x10000)], true, .none,
   [Fld.SKEIN_TOKEN_DATA_MODE, Fld.SKEIN_TOKEN_DATA_OWNER_JOB, Fld.SKEIN_TOKEN_DATA_ASSIGNED, Fld.SKEIN_TOKEN_DATA_TARGET, Fld.SKEIN_TOKEN_DATA_COUNT]⟩

/-! SKEIN_TOKEN_CMD (R104, 03_wide_instruction_programming.md) -/
def Fld.SKEIN_TOKEN_CMD_COUNT : Field := ⟨178, 48, 16, .wo, 0, .any⟩
def Fld.SKEIN_TOKEN_CMD_TARGET : Field := ⟨179, 32, 16, .wo, 0, .any⟩
def Fld.SKEIN_TOKEN_CMD_OP : Field := ⟨180, 30, 2, .wo, 0, .any⟩
def Fld.SKEIN_TOKEN_CMD_MODE : Field := ⟨181, 29, 1, .wo, 0, .any⟩
def Fld.SKEIN_TOKEN_CMD_JOB : Field := ⟨182, 16, 8, .wo, 0, .any⟩
def Fld.SKEIN_TOKEN_CMD_INDEX : Field := ⟨183, 0, 10, .wo, 0, .any⟩
def Reg.SKEIN_TOKEN_CMD : Reg :=
  ⟨"SKEIN_TOKEN_CMD", 0x1000030, [(64, 0x10000)], true, .none,
   [Fld.SKEIN_TOKEN_CMD_COUNT, Fld.SKEIN_TOKEN_CMD_TARGET, Fld.SKEIN_TOKEN_CMD_OP, Fld.SKEIN_TOKEN_CMD_MODE, Fld.SKEIN_TOKEN_CMD_JOB, Fld.SKEIN_TOKEN_CMD_INDEX]⟩

/-! SKEIN_EVT_CNT_TKREF (R104, 03_wide_instruction_programming.md) -/
def Fld.SKEIN_EVT_CNT_TKREF_COUNT : Field := ⟨184, 0, 32, .rc, 0, .any⟩
def Reg.SKEIN_EVT_CNT_TKREF : Reg :=
  ⟨"SKEIN_EVT_CNT_TKREF", 0x1000038, [(64, 0x10000)], false, .none,
   [Fld.SKEIN_EVT_CNT_TKREF_COUNT]⟩

/-! SKEIN_BOB_EVT (R135, 04_bobbin_scratchpads.md) -/
def Fld.SKEIN_BOB_EVT_CONFIG_REFUSED : Field := ⟨185, 3, 1, .rw1c, 0, .any⟩
def Fld.SKEIN_BOB_EVT_UNALIGNED : Field := ⟨186, 2, 1, .rw1c, 0, .any⟩
def Fld.SKEIN_BOB_EVT_WIN_VIOL : Field := ⟨187, 1, 1, .rw1c, 0, .any⟩
def Fld.SKEIN_BOB_EVT_ROW_RACE : Field := ⟨188, 0, 1, .rw1c, 0, .any⟩
def Reg.SKEIN_BOB_EVT : Reg :=
  ⟨"SKEIN_BOB_EVT", 0x1000100, [(64, 0x10000)], false, .none,
   [Fld.SKEIN_BOB_EVT_CONFIG_REFUSED, Fld.SKEIN_BOB_EVT_UNALIGNED, Fld.SKEIN_BOB_EVT_WIN_VIOL, Fld.SKEIN_BOB_EVT_ROW_RACE]⟩

/-! SKEIN_BOB_EVT_CNT_RACE (R135, 04_bobbin_scratchpads.md) -/
def Fld.SKEIN_BOB_EVT_CNT_RACE_COUNT : Field := ⟨189, 0, 32, .rc, 0, .any⟩
def Reg.SKEIN_BOB_EVT_CNT_RACE : Reg :=
  ⟨"SKEIN_BOB_EVT_CNT_RACE", 0x1000104, [(64, 0x10000)], false, .none,
   [Fld.SKEIN_BOB_EVT_CNT_RACE_COUNT]⟩

/-! SKEIN_BOB_EVT_CNT_WIN (R135, 04_bobbin_scratchpads.md) -/
def Fld.SKEIN_BOB_EVT_CNT_WIN_COUNT : Field := ⟨190, 0, 32, .rc, 0, .any⟩
def Reg.SKEIN_BOB_EVT_CNT_WIN : Reg :=
  ⟨"SKEIN_BOB_EVT_CNT_WIN", 0x1000108, [(64, 0x10000)], false, .none,
   [Fld.SKEIN_BOB_EVT_CNT_WIN_COUNT]⟩

/-! SKEIN_BOB_EVT_CNT_UNALIGNED (R135, 04_bobbin_scratchpads.md) -/
def Fld.SKEIN_BOB_EVT_CNT_UNALIGNED_COUNT : Field := ⟨191, 0, 32, .rc, 0, .any⟩
def Reg.SKEIN_BOB_EVT_CNT_UNALIGNED : Reg :=
  ⟨"SKEIN_BOB_EVT_CNT_UNALIGNED", 0x100010C, [(64, 0x10000)], false, .none,
   [Fld.SKEIN_BOB_EVT_CNT_UNALIGNED_COUNT]⟩

/-! SKEIN_BOB_EVT_CNT_CFGREF (R135, 04_bobbin_scratchpads.md) -/
def Fld.SKEIN_BOB_EVT_CNT_CFGREF_COUNT : Field := ⟨192, 0, 32, .rc, 0, .any⟩
def Reg.SKEIN_BOB_EVT_CNT_CFGREF : Reg :=
  ⟨"SKEIN_BOB_EVT_CNT_CFGREF", 0x1000110, [(64, 0x10000)], false, .none,
   [Fld.SKEIN_BOB_EVT_CNT_CFGREF_COUNT]⟩

/-! SKEIN_BOB_RACE_CAP (R135, 04_bobbin_scratchpads.md) -/
def Fld.SKEIN_BOB_RACE_CAP_JOB : Field := ⟨193, 24, 8, .ro, 0, .any⟩
def Fld.SKEIN_BOB_RACE_CAP_SECOND_SRC : Field := ⟨194, 20, 3, .ro, 0, .any⟩
def Fld.SKEIN_BOB_RACE_CAP_FIRST_SRC : Field := ⟨195, 16, 3, .ro, 0, .any⟩
def Fld.SKEIN_BOB_RACE_CAP_ROW : Field := ⟨196, 0, 14, .ro, 0, .any⟩
def Reg.SKEIN_BOB_RACE_CAP : Reg :=
  ⟨"SKEIN_BOB_RACE_CAP", 0x1000114, [(64, 0x10000)], false, .none,
   [Fld.SKEIN_BOB_RACE_CAP_JOB, Fld.SKEIN_BOB_RACE_CAP_SECOND_SRC, Fld.SKEIN_BOB_RACE_CAP_FIRST_SRC, Fld.SKEIN_BOB_RACE_CAP_ROW]⟩

/-! SKEIN_WIN_VIOL_CAP (R135, 04_bobbin_scratchpads.md) -/
def Fld.SKEIN_WIN_VIOL_CAP_KEY : Field := ⟨197, 32, 32, .ro, 0, .any⟩
def Fld.SKEIN_WIN_VIOL_CAP_SRC_PKG : Field := ⟨198, 24, 7, .ro, 0, .any⟩
def Fld.SKEIN_WIN_VIOL_CAP_REASON : Field := ⟨199, 16, 3, .ro, 0, .any⟩
def Fld.SKEIN_WIN_VIOL_CAP_ROW : Field := ⟨200, 0, 14, .ro, 0, .any⟩
def Reg.SKEIN_WIN_VIOL_CAP : Reg :=
  ⟨"SKEIN_WIN_VIOL_CAP", 0x1000118, [(64, 0x10000)], true, .window,
   [Fld.SKEIN_WIN_VIOL_CAP_KEY, Fld.SKEIN_WIN_VIOL_CAP_SRC_PKG, Fld.SKEIN_WIN_VIOL_CAP_REASON, Fld.SKEIN_WIN_VIOL_CAP_ROW]⟩

/-! SKEIN_WIN_ALARM (R135, 04_bobbin_scratchpads.md) -/
def Fld.SKEIN_WIN_ALARM_THRESH : Field := ⟨201, 16, 16, .rw, 16, .any⟩
def Fld.SKEIN_WIN_ALARM_PERIOD : Field := ⟨202, 0, 16, .rw, 1000, .range 1 65535⟩
def Reg.SKEIN_WIN_ALARM : Reg :=
  ⟨"SKEIN_WIN_ALARM", 0x1000120, [(64, 0x10000)], false, .window,
   [Fld.SKEIN_WIN_ALARM_THRESH, Fld.SKEIN_WIN_ALARM_PERIOD]⟩

/-! SKEIN_BOB_REGION (R135, 04_bobbin_scratchpads.md) -/
def Fld.SKEIN_BOB_REGION_VALID : Field := ⟨203, 63, 1, .rwo, 0, .any⟩
def Fld.SKEIN_BOB_REGION_JOB : Field := ⟨204, 48, 8, .rwo, 0, .any⟩
def Fld.SKEIN_BOB_REGION_LAST : Field := ⟨205, 16, 14, .rwo, 0, .any⟩
def Fld.SKEIN_BOB_REGION_FIRST : Field := ⟨206, 0, 14, .rwo, 0, .any⟩
def Reg.SKEIN_BOB_REGION : Reg :=
  ⟨"SKEIN_BOB_REGION", 0x1000140, [(64, 0x10000), (8, 0x8)], true, .region,
   [Fld.SKEIN_BOB_REGION_VALID, Fld.SKEIN_BOB_REGION_JOB, Fld.SKEIN_BOB_REGION_LAST, Fld.SKEIN_BOB_REGION_FIRST]⟩

/-! SKEIN_WIN_SEL (R135, 04_bobbin_scratchpads.md) -/
def Fld.SKEIN_WIN_SEL_INDEX : Field := ⟨207, 0, 4, .rw, 0, .any⟩
def Reg.SKEIN_WIN_SEL : Reg :=
  ⟨"SKEIN_WIN_SEL", 0x1000180, [(64, 0x10000)], false, .window,
   [Fld.SKEIN_WIN_SEL_INDEX]⟩

/-! SKEIN_WIN_CTRL (R135, 04_bobbin_scratchpads.md) -/
def Fld.SKEIN_WIN_CTRL_JOB : Field := ⟨208, 24, 8, .rwo, 0, .any⟩
def Fld.SKEIN_WIN_CTRL_STATE : Field := ⟨209, 8, 2, .ro, 0, .any⟩
def Fld.SKEIN_WIN_CTRL_PERMIT_READ : Field := ⟨210, 5, 1, .rwo, 0, .any⟩
def Fld.SKEIN_WIN_CTRL_PERMIT_WRITE : Field := ⟨211, 4, 1, .rwo, 0, .any⟩
def Fld.SKEIN_WIN_CTRL_CLOSE : Field := ⟨212, 1, 1, .wo, 0, .any⟩
def Fld.SKEIN_WIN_CTRL_OPEN : Field := ⟨213, 0, 1, .wo, 0, .any⟩
def Reg.SKEIN_WIN_CTRL : Reg :=
  ⟨"SKEIN_WIN_CTRL", 0x1000184, [(64, 0x10000)], false, .window,
   [Fld.SKEIN_WIN_CTRL_JOB, Fld.SKEIN_WIN_CTRL_STATE, Fld.SKEIN_WIN_CTRL_PERMIT_READ, Fld.SKEIN_WIN_CTRL_PERMIT_WRITE, Fld.SKEIN_WIN_CTRL_CLOSE, Fld.SKEIN_WIN_CTRL_OPEN]⟩

/-! SKEIN_WIN_KEY (R135, 04_bobbin_scratchpads.md) -/
def Fld.SKEIN_WIN_KEY_KEY : Field := ⟨214, 0, 32, .rwo, 0, .any⟩
def Reg.SKEIN_WIN_KEY : Reg :=
  ⟨"SKEIN_WIN_KEY", 0x1000188, [(64, 0x10000)], false, .window,
   [Fld.SKEIN_WIN_KEY_KEY]⟩

/-! SKEIN_WIN_ROWS (R135, 04_bobbin_scratchpads.md) -/
def Fld.SKEIN_WIN_ROWS_COUNT : Field := ⟨215, 16, 14, .rwo, 0, .any⟩
def Fld.SKEIN_WIN_ROWS_FIRST : Field := ⟨216, 0, 14, .rwo, 0, .any⟩
def Reg.SKEIN_WIN_ROWS : Reg :=
  ⟨"SKEIN_WIN_ROWS", 0x100018C, [(64, 0x10000)], false, .window,
   [Fld.SKEIN_WIN_ROWS_COUNT, Fld.SKEIN_WIN_ROWS_FIRST]⟩

/-! SKEIN_WIN_SRC (R135, 04_bobbin_scratchpads.md) -/
def Fld.SKEIN_WIN_SRC_MASK : Field := ⟨217, 0, 32, .rwo, 0, .any⟩
def Reg.SKEIN_WIN_SRC : Reg :=
  ⟨"SKEIN_WIN_SRC", 0x1000190, [(64, 0x10000), (4, 0x4)], false, .window,
   [Fld.SKEIN_WIN_SRC_MASK]⟩

/-! SKEIN_LOOM_STATUS (R179, 05_loom_matrix_engine.md) -/
def Fld.SKEIN_LOOM_STATUS_STORE1_JOB : Field := ⟨218, 24, 8, .ro, 0, .any⟩
def Fld.SKEIN_LOOM_STATUS_STORE0_JOB : Field := ⟨219, 16, 8, .ro, 0, .any⟩
def Fld.SKEIN_LOOM_STATUS_STORE1 : Field := ⟨220, 4, 2, .ro, 0, .any⟩
def Fld.SKEIN_LOOM_STATUS_STORE0 : Field := ⟨221, 2, 2, .ro, 0, .any⟩
def Fld.SKEIN_LOOM_STATUS_ROUTED : Field := ⟨222, 1, 1, .ro, 0, .any⟩
def Fld.SKEIN_LOOM_STATUS_BUSY : Field := ⟨223, 0, 1, .ro, 0, .any⟩
def Reg.SKEIN_LOOM_STATUS : Reg :=
  ⟨"SKEIN_LOOM_STATUS", 0x1000200, [(64, 0x10000)], false, .none,
   [Fld.SKEIN_LOOM_STATUS_STORE1_JOB, Fld.SKEIN_LOOM_STATUS_STORE0_JOB, Fld.SKEIN_LOOM_STATUS_STORE1, Fld.SKEIN_LOOM_STATUS_STORE0, Fld.SKEIN_LOOM_STATUS_ROUTED, Fld.SKEIN_LOOM_STATUS_BUSY]⟩

/-! SKEIN_LOOM_CTRL (R179, 05_loom_matrix_engine.md) -/
def Fld.SKEIN_LOOM_CTRL_GEMV_MAX : Field := ⟨224, 0, 4, .rw, 7, .any⟩
def Reg.SKEIN_LOOM_CTRL : Reg :=
  ⟨"SKEIN_LOOM_CTRL", 0x1000204, [(64, 0x10000)], false, .none,
   [Fld.SKEIN_LOOM_CTRL_GEMV_MAX]⟩

/-! SKEIN_LOOM_EVT (R179, 05_loom_matrix_engine.md) -/
def Fld.SKEIN_LOOM_EVT_NAN_OUT : Field := ⟨225, 2, 1, .rw1c, 0, .any⟩
def Fld.SKEIN_LOOM_EVT_FT_INEXACT : Field := ⟨226, 1, 1, .rw1c, 0, .any⟩
def Fld.SKEIN_LOOM_EVT_SATURATED : Field := ⟨227, 0, 1, .rw1c, 0, .any⟩
def Reg.SKEIN_LOOM_EVT : Reg :=
  ⟨"SKEIN_LOOM_EVT", 0x1000208, [(64, 0x10000)], false, .none,
   [Fld.SKEIN_LOOM_EVT_NAN_OUT, Fld.SKEIN_LOOM_EVT_FT_INEXACT, Fld.SKEIN_LOOM_EVT_SATURATED]⟩

/-! SKEIN_LOOM_EVT_CNT_SAT (R179, 05_loom_matrix_engine.md) -/
def Fld.SKEIN_LOOM_EVT_CNT_SAT_COUNT : Field := ⟨228, 0, 32, .rc, 0, .any⟩
def Reg.SKEIN_LOOM_EVT_CNT_SAT : Reg :=
  ⟨"SKEIN_LOOM_EVT_CNT_SAT", 0x100020C, [(64, 0x10000)], false, .none,
   [Fld.SKEIN_LOOM_EVT_CNT_SAT_COUNT]⟩

/-! SKEIN_LOOM_EVT_CNT_INEXACT (R179, 05_loom_matrix_engine.md) -/
def Fld.SKEIN_LOOM_EVT_CNT_INEXACT_COUNT : Field := ⟨229, 0, 32, .rc, 0, .any⟩
def Reg.SKEIN_LOOM_EVT_CNT_INEXACT : Reg :=
  ⟨"SKEIN_LOOM_EVT_CNT_INEXACT", 0x1000210, [(64, 0x10000)], false, .none,
   [Fld.SKEIN_LOOM_EVT_CNT_INEXACT_COUNT]⟩

/-! SKEIN_LOOM_EVT_CNT_NAN (R179, 05_loom_matrix_engine.md) -/
def Fld.SKEIN_LOOM_EVT_CNT_NAN_COUNT : Field := ⟨230, 0, 32, .rc, 0, .any⟩
def Reg.SKEIN_LOOM_EVT_CNT_NAN : Reg :=
  ⟨"SKEIN_LOOM_EVT_CNT_NAN", 0x1000214, [(64, 0x10000)], false, .none,
   [Fld.SKEIN_LOOM_EVT_CNT_NAN_COUNT]⟩

/-! SKEIN_LOOM_CNT_ROUTED (R179, 05_loom_matrix_engine.md) -/
def Fld.SKEIN_LOOM_CNT_ROUTED_COUNT : Field := ⟨231, 0, 32, .rc, 0, .any⟩
def Reg.SKEIN_LOOM_CNT_ROUTED : Reg :=
  ⟨"SKEIN_LOOM_CNT_ROUTED", 0x1000218, [(64, 0x10000)], false, .none,
   [Fld.SKEIN_LOOM_CNT_ROUTED_COUNT]⟩

/-! SKEIN_LOOM_CNT_YIELD (R179, 05_loom_matrix_engine.md) -/
def Fld.SKEIN_LOOM_CNT_YIELD_COUNT : Field := ⟨232, 0, 32, .rc, 0, .any⟩
def Reg.SKEIN_LOOM_CNT_YIELD : Reg :=
  ⟨"SKEIN_LOOM_CNT_YIELD", 0x100021C, [(64, 0x10000)], false, .none,
   [Fld.SKEIN_LOOM_CNT_YIELD_COUNT]⟩

/-! SKEIN_LOOM_BUSY_BEATS (R179, 05_loom_matrix_engine.md) -/
def Fld.SKEIN_LOOM_BUSY_BEATS_BEATS : Field := ⟨233, 0, 64, .ro, 0, .any⟩
def Reg.SKEIN_LOOM_BUSY_BEATS : Reg :=
  ⟨"SKEIN_LOOM_BUSY_BEATS", 0x1000220, [(64, 0x10000)], true, .none,
   [Fld.SKEIN_LOOM_BUSY_BEATS_BEATS]⟩

/-! SKEIN_RQ_STATUS (R197, 06_quantisation_and_rescaling.md) -/
def Fld.SKEIN_RQ_STATUS_TIE_EVEN : Field := ⟨234, 0, 1, .ro, 1, .any⟩
def Reg.SKEIN_RQ_STATUS : Reg :=
  ⟨"SKEIN_RQ_STATUS", 0x1000300, [(64, 0x10000)], false, .none,
   [Fld.SKEIN_RQ_STATUS_TIE_EVEN]⟩

/-! SKEIN_RQ_CNT_TIE (R197, 06_quantisation_and_rescaling.md) -/
def Fld.SKEIN_RQ_CNT_TIE_COUNT : Field := ⟨235, 0, 32, .rc, 0, .any⟩
def Reg.SKEIN_RQ_CNT_TIE : Reg :=
  ⟨"SKEIN_RQ_CNT_TIE", 0x1000304, [(64, 0x10000)], false, .none,
   [Fld.SKEIN_RQ_CNT_TIE_COUNT]⟩

/-! SKEIN_RQ_CNT_EVEN (R197, 06_quantisation_and_rescaling.md) -/
def Fld.SKEIN_RQ_CNT_EVEN_COUNT : Field := ⟨236, 0, 32, .rc, 0, .any⟩
def Reg.SKEIN_RQ_CNT_EVEN : Reg :=
  ⟨"SKEIN_RQ_CNT_EVEN", 0x1000308, [(64, 0x10000)], false, .none,
   [Fld.SKEIN_RQ_CNT_EVEN_COUNT]⟩

/-! SKEIN_CONV_STATUS (R220, 07_convolution_and_pooling.md) -/
def Fld.SKEIN_CONV_STATUS_GROUP : Field := ⟨237, 16, 16, .ro, 0, .any⟩
def Fld.SKEIN_CONV_STATUS_POOL_BUSY : Field := ⟨238, 1, 1, .ro, 0, .any⟩
def Fld.SKEIN_CONV_STATUS_CONV_BUSY : Field := ⟨239, 0, 1, .ro, 0, .any⟩
def Reg.SKEIN_CONV_STATUS : Reg :=
  ⟨"SKEIN_CONV_STATUS", 0x1000340, [(64, 0x10000)], false, .none,
   [Fld.SKEIN_CONV_STATUS_GROUP, Fld.SKEIN_CONV_STATUS_POOL_BUSY, Fld.SKEIN_CONV_STATUS_CONV_BUSY]⟩

/-! SKEIN_CONV_CNT_CONV (R220, 07_convolution_and_pooling.md) -/
def Fld.SKEIN_CONV_CNT_CONV_COUNT : Field := ⟨240, 0, 32, .rc, 0, .any⟩
def Reg.SKEIN_CONV_CNT_CONV : Reg :=
  ⟨"SKEIN_CONV_CNT_CONV", 0x1000344, [(64, 0x10000)], false, .none,
   [Fld.SKEIN_CONV_CNT_CONV_COUNT]⟩

/-! SKEIN_CONV_CNT_POOL (R220, 07_convolution_and_pooling.md) -/
def Fld.SKEIN_CONV_CNT_POOL_COUNT : Field := ⟨241, 0, 32, .rc, 0, .any⟩
def Reg.SKEIN_CONV_CNT_POOL : Reg :=
  ⟨"SKEIN_CONV_CNT_POOL", 0x1000348, [(64, 0x10000)], false, .none,
   [Fld.SKEIN_CONV_CNT_POOL_COUNT]⟩

/-! MEMC_KV_POOL_BASE (R258, 08_attention_and_kv_cache.md) -/
def Fld.MEMC_KV_POOL_BASE_BASE : Field := ⟨242, 16, 48, .rwo, 0, .any⟩
def Reg.MEMC_KV_POOL_BASE : Reg :=
  ⟨"MEMC_KV_POOL_BASE", 0x900400, [], true, .kvPool,
   [Fld.MEMC_KV_POOL_BASE_BASE]⟩

/-! MEMC_KV_POOL_PAGES (R258, 08_attention_and_kv_cache.md) -/
def Fld.MEMC_KV_POOL_PAGES_PAGES : Field := ⟨243, 0, 32, .rwo, 0, .any⟩
def Reg.MEMC_KV_POOL_PAGES : Reg :=
  ⟨"MEMC_KV_POOL_PAGES", 0x900408, [], false, .kvPool,
   [Fld.MEMC_KV_POOL_PAGES_PAGES]⟩

/-! MEMC_KV_CTRL (R258, 08_attention_and_kv_cache.md) -/
def Fld.MEMC_KV_CTRL_ENABLE : Field := ⟨244, 31, 1, .rw, 0, .any⟩
def Fld.MEMC_KV_CTRL_FREE_LOG2 : Field := ⟨245, 16, 5, .rwo, 10, .range 4 20⟩
def Fld.MEMC_KV_CTRL_WAIT_MAX : Field := ⟨246, 0, 16, .rw, 1000, .range 1 65535⟩
def Reg.MEMC_KV_CTRL : Reg :=
  ⟨"MEMC_KV_CTRL", 0x90040C, [], false, .kvPool,
   [Fld.MEMC_KV_CTRL_ENABLE, Fld.MEMC_KV_CTRL_FREE_LOG2, Fld.MEMC_KV_CTRL_WAIT_MAX]⟩

/-! MEMC_KV_FREE_BASE (R258, 08_attention_and_kv_cache.md) -/
def Fld.MEMC_KV_FREE_BASE_BASE : Field := ⟨247, 6, 58, .rwo, 0, .any⟩
def Reg.MEMC_KV_FREE_BASE : Reg :=
  ⟨"MEMC_KV_FREE_BASE", 0x900410, [], true, .kvPool,
   [Fld.MEMC_KV_FREE_BASE_BASE]⟩

/-! MEMC_KV_FREE_HEAD (R258, 08_attention_and_kv_cache.md) -/
def Fld.MEMC_KV_FREE_HEAD_HEAD : Field := ⟨248, 0, 32, .ro, 0, .any⟩
def Reg.MEMC_KV_FREE_HEAD : Reg :=
  ⟨"MEMC_KV_FREE_HEAD", 0x900418, [], false, .kvPool,
   [Fld.MEMC_KV_FREE_HEAD_HEAD]⟩

/-! MEMC_KV_FREE_TAIL (R258, 08_attention_and_kv_cache.md) -/
def Fld.MEMC_KV_FREE_TAIL_TAIL : Field := ⟨249, 0, 32, .rw, 0, .any⟩
def Reg.MEMC_KV_FREE_TAIL : Reg :=
  ⟨"MEMC_KV_FREE_TAIL", 0x90041C, [], false, .kvPool,
   [Fld.MEMC_KV_FREE_TAIL_TAIL]⟩

/-! MEMC_KV_FREE_LOW (R258, 08_attention_and_kv_cache.md) -/
def Fld.MEMC_KV_FREE_LOW_LOW : Field := ⟨250, 0, 32, .rw, 16, .any⟩
def Reg.MEMC_KV_FREE_LOW : Reg :=
  ⟨"MEMC_KV_FREE_LOW", 0x900420, [], false, .kvPool,
   [Fld.MEMC_KV_FREE_LOW_LOW]⟩

/-! MEMC_KV_STATUS (R258, 08_attention_and_kv_cache.md) -/
def Fld.MEMC_KV_STATUS_PEND_FLUSH : Field := ⟨251, 16, 8, .ro, 0, .any⟩
def Fld.MEMC_KV_STATUS_SLOTS_USED : Field := ⟨252, 0, 8, .ro, 0, .any⟩
def Reg.MEMC_KV_STATUS : Reg :=
  ⟨"MEMC_KV_STATUS", 0x900424, [], false, .kvPool,
   [Fld.MEMC_KV_STATUS_PEND_FLUSH, Fld.MEMC_KV_STATUS_SLOTS_USED]⟩

/-! MEMC_KV_EVT (R258, 08_attention_and_kv_cache.md) -/
def Fld.MEMC_KV_EVT_CFG_REFUSED : Field := ⟨253, 6, 1, .rw1c, 0, .any⟩
def Fld.MEMC_KV_EVT_APPEND_TIMEOUT : Field := ⟨254, 5, 1, .rw1c, 0, .any⟩
def Fld.MEMC_KV_EVT_FREE_BAD : Field := ⟨255, 4, 1, .rw1c, 0, .any⟩
def Fld.MEMC_KV_EVT_FREE_LOW : Field := ⟨256, 3, 1, .rw1c, 0, .any⟩
def Fld.MEMC_KV_EVT_POOL_EMPTY : Field := ⟨257, 2, 1, .rw1c, 0, .any⟩
def Fld.MEMC_KV_EVT_FORMAT : Field := ⟨258, 1, 1, .rw1c, 0, .any⟩
def Fld.MEMC_KV_EVT_STREAM_RACE : Field := ⟨259, 0, 1, .rw1c, 0, .any⟩
def Reg.MEMC_KV_EVT : Reg :=
  ⟨"MEMC_KV_EVT", 0x900428, [], false, .kvPool,
   [Fld.MEMC_KV_EVT_CFG_REFUSED, Fld.MEMC_KV_EVT_APPEND_TIMEOUT, Fld.MEMC_KV_EVT_FREE_BAD, Fld.MEMC_KV_EVT_FREE_LOW, Fld.MEMC_KV_EVT_POOL_EMPTY, Fld.MEMC_KV_EVT_FORMAT, Fld.MEMC_KV_EVT_STREAM_RACE]⟩

/-! MEMC_KV_EVT_CNT_RACE (R258, 08_attention_and_kv_cache.md) -/
def Fld.MEMC_KV_EVT_CNT_RACE_COUNT : Field := ⟨260, 0, 32, .rc, 0, .any⟩
def Reg.MEMC_KV_EVT_CNT_RACE : Reg :=
  ⟨"MEMC_KV_EVT_CNT_RACE", 0x90042C, [], false, .kvPool,
   [Fld.MEMC_KV_EVT_CNT_RACE_COUNT]⟩

/-! MEMC_KV_EVT_CNT_FMT (R258, 08_attention_and_kv_cache.md) -/
def Fld.MEMC_KV_EVT_CNT_FMT_COUNT : Field := ⟨261, 0, 32, .rc, 0, .any⟩
def Reg.MEMC_KV_EVT_CNT_FMT : Reg :=
  ⟨"MEMC_KV_EVT_CNT_FMT", 0x900430, [], false, .kvPool,
   [Fld.MEMC_KV_EVT_CNT_FMT_COUNT]⟩

/-! MEMC_KV_EVT_CNT_EMPTY (R258, 08_attention_and_kv_cache.md) -/
def Fld.MEMC_KV_EVT_CNT_EMPTY_COUNT : Field := ⟨262, 0, 32, .rc, 0, .any⟩
def Reg.MEMC_KV_EVT_CNT_EMPTY : Reg :=
  ⟨"MEMC_KV_EVT_CNT_EMPTY", 0x900434, [], false, .kvPool,
   [Fld.MEMC_KV_EVT_CNT_EMPTY_COUNT]⟩

/-! MEMC_KV_EVT_CNT_LOW (R258, 08_attention_and_kv_cache.md) -/
def Fld.MEMC_KV_EVT_CNT_LOW_COUNT : Field := ⟨263, 0, 32, .rc, 0, .any⟩
def Reg.MEMC_KV_EVT_CNT_LOW : Reg :=
  ⟨"MEMC_KV_EVT_CNT_LOW", 0x900438, [], false, .kvPool,
   [Fld.MEMC_KV_EVT_CNT_LOW_COUNT]⟩

/-! MEMC_KV_EVT_CNT_FREEBAD (R258, 08_attention_and_kv_cache.md) -/
def Fld.MEMC_KV_EVT_CNT_FREEBAD_COUNT : Field := ⟨264, 0, 32, .rc, 0, .any⟩
def Reg.MEMC_KV_EVT_CNT_FREEBAD : Reg :=
  ⟨"MEMC_KV_EVT_CNT_FREEBAD", 0x90043C, [], false, .kvPool,
   [Fld.MEMC_KV_EVT_CNT_FREEBAD_COUNT]⟩

/-! MEMC_KV_EVT_CNT_TIMEOUT (R258, 08_attention_and_kv_cache.md) -/
def Fld.MEMC_KV_EVT_CNT_TIMEOUT_COUNT : Field := ⟨265, 0, 32, .rc, 0, .any⟩
def Reg.MEMC_KV_EVT_CNT_TIMEOUT : Reg :=
  ⟨"MEMC_KV_EVT_CNT_TIMEOUT", 0x900440, [], false, .kvPool,
   [Fld.MEMC_KV_EVT_CNT_TIMEOUT_COUNT]⟩

/-! MEMC_KV_EVT_CNT_CFGREF (R258, 08_attention_and_kv_cache.md) -/
def Fld.MEMC_KV_EVT_CNT_CFGREF_COUNT : Field := ⟨266, 0, 32, .rc, 0, .any⟩
def Reg.MEMC_KV_EVT_CNT_CFGREF : Reg :=
  ⟨"MEMC_KV_EVT_CNT_CFGREF", 0x900444, [], false, .kvPool,
   [Fld.MEMC_KV_EVT_CNT_CFGREF_COUNT]⟩

/-! MEMC_KV_CNT_FLUSH (R258, 08_attention_and_kv_cache.md) -/
def Fld.MEMC_KV_CNT_FLUSH_COUNT : Field := ⟨267, 0, 32, .rc, 0, .any⟩
def Reg.MEMC_KV_CNT_FLUSH : Reg :=
  ⟨"MEMC_KV_CNT_FLUSH", 0x900448, [], false, .kvPool,
   [Fld.MEMC_KV_CNT_FLUSH_COUNT]⟩

/-! MEMC_CTX_SEL (R258, 08_attention_and_kv_cache.md) -/
def Fld.MEMC_CTX_SEL_CONFIG : Field := ⟨268, 31, 1, .ro, 1, .any⟩
def Fld.MEMC_CTX_SEL_PAGE : Field := ⟨269, 16, 2, .rw, 0, .any⟩
def Fld.MEMC_CTX_SEL_STREAM : Field := ⟨270, 0, 16, .rw, 0, .any⟩
def Reg.MEMC_CTX_SEL : Reg :=
  ⟨"MEMC_CTX_SEL", 0x900480, [], false, .none,
   [Fld.MEMC_CTX_SEL_CONFIG, Fld.MEMC_CTX_SEL_PAGE, Fld.MEMC_CTX_SEL_STREAM]⟩

/-! MEMC_CTX_CMD (R258, 08_attention_and_kv_cache.md) -/
def Fld.MEMC_CTX_CMD_CMD : Field := ⟨271, 0, 2, .wo, 0, .any⟩
def Reg.MEMC_CTX_CMD : Reg :=
  ⟨"MEMC_CTX_CMD", 0x900484, [], false, .none,
   [Fld.MEMC_CTX_CMD_CMD]⟩

/-! MEMC_CTX_DATA (R258, 08_attention_and_kv_cache.md) -/
def Fld.MEMC_CTX_DATA_DATA : Field := ⟨272, 0, 32, .rwo, 0, .any⟩
def Reg.MEMC_CTX_DATA : Reg :=
  ⟨"MEMC_CTX_DATA", 0x9004C0, [(16, 0x4)], false, .context,
   [Fld.MEMC_CTX_DATA_DATA]⟩

/-! PLY_STATUS (R292, 09_ply_solver_engine.md) -/
def Fld.PLY_STATUS_BANK1_JOB : Field := ⟨273, 24, 8, .ro, 0, .any⟩
def Fld.PLY_STATUS_BANK0_JOB : Field := ⟨274, 16, 8, .ro, 0, .any⟩
def Fld.PLY_STATUS_BANK1 : Field := ⟨275, 4, 2, .ro, 0, .any⟩
def Fld.PLY_STATUS_BANK0 : Field := ⟨276, 2, 2, .ro, 0, .any⟩
def Fld.PLY_STATUS_BUSY : Field := ⟨277, 0, 1, .ro, 0, .any⟩
def Reg.PLY_STATUS : Reg :=
  ⟨"PLY_STATUS", 0x2000000, [(8, 0x10000)], false, .none,
   [Fld.PLY_STATUS_BANK1_JOB, Fld.PLY_STATUS_BANK0_JOB, Fld.PLY_STATUS_BANK1, Fld.PLY_STATUS_BANK0, Fld.PLY_STATUS_BUSY]⟩

/-! PLY_HOST_RESERVE (R292, 09_ply_solver_engine.md) -/
def Fld.PLY_HOST_RESERVE_SHARE : Field := ⟨278, 0, 6, .rwo, 24, .range 0 32⟩
def Reg.PLY_HOST_RESERVE : Reg :=
  ⟨"PLY_HOST_RESERVE", 0x2000004, [(8, 0x10000)], false, .plyShare,
   [Fld.PLY_HOST_RESERVE_SHARE]⟩

/-! PLY_QUEUE_LEVEL (R292, 09_ply_solver_engine.md) -/
def Fld.PLY_QUEUE_LEVEL_LEVEL : Field := ⟨279, 0, 6, .ro, 0, .any⟩
def Reg.PLY_QUEUE_LEVEL : Reg :=
  ⟨"PLY_QUEUE_LEVEL", 0x2000008, [(8, 0x10000)], false, .none,
   [Fld.PLY_QUEUE_LEVEL_LEVEL]⟩

/-! PLY_EVT (R292, 09_ply_solver_engine.md) -/
def Fld.PLY_EVT_CFG_REFUSED : Field := ⟨280, 5, 1, .rw1c, 0, .any⟩
def Fld.PLY_EVT_NOT_CONVERGED : Field := ⟨281, 4, 1, .rw1c, 0, .any⟩
def Fld.PLY_EVT_WARM_MISMATCH : Field := ⟨282, 3, 1, .rw1c, 0, .any⟩
def Fld.PLY_EVT_FIXED_OVERFLOW : Field := ⟨283, 2, 1, .rw1c, 0, .any⟩
def Fld.PLY_EVT_PIVOT_ZERO : Field := ⟨284, 1, 1, .rw1c, 0, .any⟩
def Fld.PLY_EVT_PIVOT_REG : Field := ⟨285, 0, 1, .rw1c, 0, .any⟩
def Reg.PLY_EVT : Reg :=
  ⟨"PLY_EVT", 0x200000C, [(8, 0x10000)], false, .none,
   [Fld.PLY_EVT_CFG_REFUSED, Fld.PLY_EVT_NOT_CONVERGED, Fld.PLY_EVT_WARM_MISMATCH, Fld.PLY_EVT_FIXED_OVERFLOW, Fld.PLY_EVT_PIVOT_ZERO, Fld.PLY_EVT_PIVOT_REG]⟩

/-! PLY_EVT_CNT_REG (R292, 09_ply_solver_engine.md) -/
def Fld.PLY_EVT_CNT_REG_COUNT : Field := ⟨286, 0, 32, .rc, 0, .any⟩
def Reg.PLY_EVT_CNT_REG : Reg :=
  ⟨"PLY_EVT_CNT_REG", 0x2000010, [(8, 0x10000)], false, .none,
   [Fld.PLY_EVT_CNT_REG_COUNT]⟩

/-! PLY_EVT_CNT_ZERO (R292, 09_ply_solver_engine.md) -/
def Fld.PLY_EVT_CNT_ZERO_COUNT : Field := ⟨287, 0, 32, .rc, 0, .any⟩
def Reg.PLY_EVT_CNT_ZERO : Reg :=
  ⟨"PLY_EVT_CNT_ZERO", 0x2000014, [(8, 0x10000)], false, .none,
   [Fld.PLY_EVT_CNT_ZERO_COUNT]⟩

/-! PLY_EVT_CNT_OVF (R292, 09_ply_solver_engine.md) -/
def Fld.PLY_EVT_CNT_OVF_COUNT : Field := ⟨288, 0, 32, .rc, 0, .any⟩
def Reg.PLY_EVT_CNT_OVF : Reg :=
  ⟨"PLY_EVT_CNT_OVF", 0x2000018, [(8, 0x10000)], false, .none,
   [Fld.PLY_EVT_CNT_OVF_COUNT]⟩

/-! PLY_EVT_CNT_COLD (R292, 09_ply_solver_engine.md) -/
def Fld.PLY_EVT_CNT_COLD_COUNT : Field := ⟨289, 0, 32, .rc, 0, .any⟩
def Reg.PLY_EVT_CNT_COLD : Reg :=
  ⟨"PLY_EVT_CNT_COLD", 0x200001C, [(8, 0x10000)], false, .none,
   [Fld.PLY_EVT_CNT_COLD_COUNT]⟩

/-! PLY_EVT_CNT_NOCONV (R292, 09_ply_solver_engine.md) -/
def Fld.PLY_EVT_CNT_NOCONV_COUNT : Field := ⟨290, 0, 32, .rc, 0, .any⟩
def Reg.PLY_EVT_CNT_NOCONV : Reg :=
  ⟨"PLY_EVT_CNT_NOCONV", 0x2000020, [(8, 0x10000)], false, .none,
   [Fld.PLY_EVT_CNT_NOCONV_COUNT]⟩

/-! PLY_EVT_CNT_CFGREF (R292, 09_ply_solver_engine.md) -/
def Fld.PLY_EVT_CNT_CFGREF_COUNT : Field := ⟨291, 0, 32, .rc, 0, .any⟩
def Reg.PLY_EVT_CNT_CFGREF : Reg :=
  ⟨"PLY_EVT_CNT_CFGREF", 0x2000024, [(8, 0x10000)], false, .none,
   [Fld.PLY_EVT_CNT_CFGREF_COUNT]⟩

/-! PLY_CNT_YIELD (R292, 09_ply_solver_engine.md) -/
def Fld.PLY_CNT_YIELD_COUNT : Field := ⟨292, 0, 32, .rc, 0, .any⟩
def Reg.PLY_CNT_YIELD : Reg :=
  ⟨"PLY_CNT_YIELD", 0x2000028, [(8, 0x10000)], false, .none,
   [Fld.PLY_CNT_YIELD_COUNT]⟩

/-! PLY_BUSY_BEATS (R292, 09_ply_solver_engine.md) -/
def Fld.PLY_BUSY_BEATS_BEATS : Field := ⟨293, 0, 64, .ro, 0, .any⟩
def Reg.PLY_BUSY_BEATS : Reg :=
  ⟨"PLY_BUSY_BEATS", 0x2000030, [(8, 0x10000)], true, .none,
   [Fld.PLY_BUSY_BEATS_BEATS]⟩

/-! PLY_RANGE_SEL (R292, 09_ply_solver_engine.md) -/
def Fld.PLY_RANGE_SEL_CONFIG : Field := ⟨294, 31, 1, .ro, 1, .any⟩
def Fld.PLY_RANGE_SEL_ENTRY : Field := ⟨295, 0, 6, .rw, 0, .any⟩
def Reg.PLY_RANGE_SEL : Reg :=
  ⟨"PLY_RANGE_SEL", 0x2000040, [(8, 0x10000)], false, .plyRange,
   [Fld.PLY_RANGE_SEL_CONFIG, Fld.PLY_RANGE_SEL_ENTRY]⟩

/-! PLY_RANGE_DATA (R292, 09_ply_solver_engine.md) -/
def Fld.PLY_RANGE_DATA_DATA : Field := ⟨296, 0, 32, .rwo, 0, .any⟩
def Reg.PLY_RANGE_DATA : Reg :=
  ⟨"PLY_RANGE_DATA", 0x2000044, [(8, 0x10000), (4, 0x4)], false, .plyRange,
   [Fld.PLY_RANGE_DATA_DATA]⟩

/-! MEMC_CAPACITY (R454, 14_idward_links_and_experts.md) -/
def Fld.MEMC_CAPACITY_GIB : Field := ⟨297, 0, 16, .ro, 0, .any⟩
def Reg.MEMC_CAPACITY : Reg :=
  ⟨"MEMC_CAPACITY", 0x900000, [], false, .none,
   [Fld.MEMC_CAPACITY_GIB]⟩

/-! MEMC_CHAN_LIVE (R454, 14_idward_links_and_experts.md) -/
def Fld.MEMC_CHAN_LIVE_LIVE : Field := ⟨298, 0, 16, .ro, 0, .any⟩
def Reg.MEMC_CHAN_LIVE : Reg :=
  ⟨"MEMC_CHAN_LIVE", 0x900004, [], false, .none,
   [Fld.MEMC_CHAN_LIVE_LIVE]⟩

/-! WHORL_DOMSET_CFG (R479, 15_ethernet_and_network_time.md) -/
def Fld.WHORL_DOMSET_CFG_VALID : Field := ⟨299, 31, 1, .rw, 0, .any⟩
def Fld.WHORL_DOMSET_CFG_AUTO_SWITCH : Field := ⟨300, 30, 1, .rw, 1, .any⟩
def Fld.WHORL_DOMSET_CFG_DOMAIN_NUMBER : Field := ⟨301, 16, 8, .rw, 0, .any⟩
def Fld.WHORL_DOMSET_CFG_PORTS : Field := ⟨302, 8, 4, .rw, 0, .any⟩
/-- Set 0, which alone has AUTO_SWITCH (Table 15.8). -/
def Reg.WHORL_DOM0_CFG : Reg :=
  ⟨"WHORL_DOM0_CFG", 0x300100, [(1, 0x40)], false, .none,
   [Fld.WHORL_DOMSET_CFG_VALID, Fld.WHORL_DOMSET_CFG_AUTO_SWITCH, Fld.WHORL_DOMSET_CFG_DOMAIN_NUMBER, Fld.WHORL_DOMSET_CFG_PORTS]⟩
def Reg.WHORL_DOMSET_CFG : Reg :=
  ⟨"WHORL_DOMSET_CFG", 0x300100, [(2, 0x40)], false, .none,
   [Fld.WHORL_DOMSET_CFG_VALID, Fld.WHORL_DOMSET_CFG_DOMAIN_NUMBER, Fld.WHORL_DOMSET_CFG_PORTS]⟩

/-! WHORL_DOMSET_STATUS (R479, 15_ethernet_and_network_time.md) -/
def Fld.WHORL_DOMSET_STATUS_LOST : Field := ⟨303, 1, 1, .ro, 0, .any⟩
def Fld.WHORL_DOMSET_STATUS_ACTIVE : Field := ⟨304, 0, 1, .ro, 0, .any⟩
def Reg.WHORL_DOMSET_STATUS : Reg :=
  ⟨"WHORL_DOMSET_STATUS", 0x300104, [(2, 0x40)], false, .none,
   [Fld.WHORL_DOMSET_STATUS_LOST, Fld.WHORL_DOMSET_STATUS_ACTIVE]⟩

/-! WHORL_DOMSET_OFS (R479, 15_ethernet_and_network_time.md) -/
def Fld.WHORL_DOMSET_OFS_OFS : Field := ⟨305, 0, 64, .rw, 0, .any⟩
def Reg.WHORL_DOMSET_OFS : Reg :=
  ⟨"WHORL_DOMSET_OFS", 0x300108, [(2, 0x40)], true, .none,
   [Fld.WHORL_DOMSET_OFS_OFS]⟩

/-! WHORL_DOMSET_RATE (R479, 15_ethernet_and_network_time.md) -/
def Fld.WHORL_DOMSET_RATE_RATE : Field := ⟨306, 0, 32, .rw, 0, .any⟩
def Reg.WHORL_DOMSET_RATE : Reg :=
  ⟨"WHORL_DOMSET_RATE", 0x300110, [(2, 0x40)], false, .none,
   [Fld.WHORL_DOMSET_RATE_RATE]⟩

/-! WHORL_DOMSET_LOSS (R479, 15_ethernet_and_network_time.md) -/
def Fld.WHORL_DOMSET_LOSS_US : Field := ⟨307, 0, 32, .rw, 375000, .range 1 4294967295⟩
def Reg.WHORL_DOMSET_LOSS : Reg :=
  ⟨"WHORL_DOMSET_LOSS", 0x300114, [(2, 0x40)], false, .none,
   [Fld.WHORL_DOMSET_LOSS_US]⟩

/-! WHORL_DOMSET_STEP (R479, 15_ethernet_and_network_time.md) -/
def Fld.WHORL_DOMSET_STEP_TICKS : Field := ⟨308, 0, 32, .rw, 4000, .any⟩
def Reg.WHORL_DOMSET_STEP : Reg :=
  ⟨"WHORL_DOMSET_STEP", 0x300118, [(2, 0x40)], false, .none,
   [Fld.WHORL_DOMSET_STEP_TICKS]⟩

/-! WHORL_DOM_EVT (R479, 15_ethernet_and_network_time.md) -/
def Fld.WHORL_DOM_EVT_AUTO_SWITCHED : Field := ⟨309, 2, 1, .rw1c, 0, .any⟩
def Fld.WHORL_DOM_EVT_DOM_LOST : Field := ⟨310, 1, 1, .rw1c, 0, .any⟩
def Fld.WHORL_DOM_EVT_DOM_STEP : Field := ⟨311, 0, 1, .rw1c, 0, .any⟩
def Reg.WHORL_DOM_EVT : Reg :=
  ⟨"WHORL_DOM_EVT", 0x300180, [], false, .none,
   [Fld.WHORL_DOM_EVT_AUTO_SWITCHED, Fld.WHORL_DOM_EVT_DOM_LOST, Fld.WHORL_DOM_EVT_DOM_STEP]⟩

/-! WHORL_DOM_EVT_CNT (R479, 15_ethernet_and_network_time.md) -/
def Fld.WHORL_DOM_EVT_CNT_COUNT : Field := ⟨312, 0, 32, .rc, 0, .any⟩
def Reg.WHORL_DOM_EVT_CNT : Reg :=
  ⟨"WHORL_DOM_EVT_CNT", 0x300184, [(3, 0x4)], false, .none,
   [Fld.WHORL_DOM_EVT_CNT_COUNT]⟩

/-! WHORL_TIN_EVT (R479, 15_ethernet_and_network_time.md) -/
def Fld.WHORL_TIN_EVT_OVERRUN : Field := ⟨313, 0, 16, .rw1c, 0, .any⟩
def Reg.WHORL_TIN_EVT : Reg :=
  ⟨"WHORL_TIN_EVT", 0x300190, [], false, .none,
   [Fld.WHORL_TIN_EVT_OVERRUN]⟩

/-! WHORL_TIN_EVT_CNT (R479, 15_ethernet_and_network_time.md) -/
def Fld.WHORL_TIN_EVT_CNT_COUNT : Field := ⟨314, 0, 32, .rc, 0, .any⟩
def Reg.WHORL_TIN_EVT_CNT : Reg :=
  ⟨"WHORL_TIN_EVT_CNT", 0x3001A0, [(16, 0x4)], false, .none,
   [Fld.WHORL_TIN_EVT_CNT_COUNT]⟩

/-! WHORL_TINPIN_CFG (R479, 15_ethernet_and_network_time.md) -/
def Fld.WHORL_TINPIN_CFG_EN : Field := ⟨315, 31, 1, .rw, 0, .any⟩
def Fld.WHORL_TINPIN_CFG_FILTER : Field := ⟨316, 4, 4, .rw, 1, .any⟩
def Fld.WHORL_TINPIN_CFG_EDGE : Field := ⟨317, 0, 2, .rw, 0, .range 0 2⟩
def Reg.WHORL_TINPIN_CFG : Reg :=
  ⟨"WHORL_TINPIN_CFG", 0x300200, [(16, 0x10)], false, .none,
   [Fld.WHORL_TINPIN_CFG_EN, Fld.WHORL_TINPIN_CFG_FILTER, Fld.WHORL_TINPIN_CFG_EDGE]⟩

/-! WHORL_TINPIN_STATUS (R479, 15_ethernet_and_network_time.md) -/
def Fld.WHORL_TINPIN_STATUS_HEAD_EDGE : Field := ⟨318, 8, 1, .ro, 0, .any⟩
def Fld.WHORL_TINPIN_STATUS_LEVEL : Field := ⟨319, 0, 5, .ro, 0, .any⟩
def Reg.WHORL_TINPIN_STATUS : Reg :=
  ⟨"WHORL_TINPIN_STATUS", 0x300204, [(16, 0x10)], false, .none,
   [Fld.WHORL_TINPIN_STATUS_HEAD_EDGE, Fld.WHORL_TINPIN_STATUS_LEVEL]⟩

/-! WHORL_TINPIN_STAMP (R479, 15_ethernet_and_network_time.md) -/
def Fld.WHORL_TINPIN_STAMP_TIME : Field := ⟨320, 0, 64, .ro, 0, .any⟩
def Reg.WHORL_TINPIN_STAMP : Reg :=
  ⟨"WHORL_TINPIN_STAMP", 0x300208, [(16, 0x10)], true, .none,
   [Fld.WHORL_TINPIN_STAMP_TIME]⟩

def regsSkein0 : List Reg :=
  [Reg.WHORL_TIME, Reg.WHORL_CTRL, Reg.WHORL_STATUS, Reg.WHORL_RATE_ADJ, Reg.WHORL_STEP, Reg.WHORL_HOLD_MAX, Reg.WHORL_LATE_TOL, Reg.WHORL_LATE_POLICY, Reg.WHORL_GUARD, Reg.WHORL_HORIZON, Reg.WHORL_EVT, Reg.WHORL_EVT_CNT_LATE, Reg.WHORL_EVT_CNT_STEP, Reg.WHORL_EVT_CNT_SLIP, Reg.WHORL_EVT_CNT_REFLOST, Reg.WHORL_EVT_CNT_REFUSED, Reg.WHORL_BEATMON_SEL, Reg.WHORL_BEATMON, Reg.WHORL_SLIP_SRC, Reg.SKEIN_SP_STATE, Reg.SKEIN_SP0_PC, Reg.SKEIN_SP1_PC, Reg.SKEIN_QUEUE_LEVEL, Reg.SKEIN_TRAP, Reg.SKEIN_EVT, Reg.SKEIN_EVT_CNT_TRAP, Reg.SKEIN_EVT_CNT_TKSAT, Reg.SKEIN_HOST_RESERVE, Reg.SKEIN_TOKEN_SEL, Reg.SKEIN_TOKEN_DATA, Reg.SKEIN_TOKEN_CMD, Reg.SKEIN_EVT_CNT_TKREF, Reg.SKEIN_BOB_EVT, Reg.SKEIN_BOB_EVT_CNT_RACE, Reg.SKEIN_BOB_EVT_CNT_WIN, Reg.SKEIN_BOB_EVT_CNT_UNALIGNED, Reg.SKEIN_BOB_EVT_CNT_CFGREF, Reg.SKEIN_BOB_RACE_CAP, Reg.SKEIN_WIN_VIOL_CAP, Reg.SKEIN_WIN_ALARM]

def regsSkein1 : List Reg :=
  [Reg.SKEIN_BOB_REGION, Reg.SKEIN_WIN_SEL, Reg.SKEIN_WIN_CTRL, Reg.SKEIN_WIN_KEY, Reg.SKEIN_WIN_ROWS, Reg.SKEIN_WIN_SRC, Reg.SKEIN_LOOM_STATUS, Reg.SKEIN_LOOM_CTRL, Reg.SKEIN_LOOM_EVT, Reg.SKEIN_LOOM_EVT_CNT_SAT, Reg.SKEIN_LOOM_EVT_CNT_INEXACT, Reg.SKEIN_LOOM_EVT_CNT_NAN, Reg.SKEIN_LOOM_CNT_ROUTED, Reg.SKEIN_LOOM_CNT_YIELD, Reg.SKEIN_LOOM_BUSY_BEATS, Reg.SKEIN_RQ_STATUS, Reg.SKEIN_RQ_CNT_TIE, Reg.SKEIN_RQ_CNT_EVEN, Reg.SKEIN_CONV_STATUS, Reg.SKEIN_CONV_CNT_CONV, Reg.SKEIN_CONV_CNT_POOL, Reg.MEMC_KV_POOL_BASE, Reg.MEMC_KV_POOL_PAGES, Reg.MEMC_KV_CTRL, Reg.MEMC_KV_FREE_BASE, Reg.MEMC_KV_FREE_HEAD, Reg.MEMC_KV_FREE_TAIL, Reg.MEMC_KV_FREE_LOW, Reg.MEMC_KV_STATUS, Reg.MEMC_KV_EVT, Reg.MEMC_KV_EVT_CNT_RACE, Reg.MEMC_KV_EVT_CNT_FMT, Reg.MEMC_KV_EVT_CNT_EMPTY, Reg.MEMC_KV_EVT_CNT_LOW, Reg.MEMC_KV_EVT_CNT_FREEBAD, Reg.MEMC_KV_EVT_CNT_TIMEOUT, Reg.MEMC_KV_EVT_CNT_CFGREF, Reg.MEMC_KV_CNT_FLUSH, Reg.MEMC_CTX_SEL, Reg.MEMC_CTX_CMD]

def regsSkein2 : List Reg :=
  [Reg.MEMC_CTX_DATA, Reg.PLY_STATUS, Reg.PLY_HOST_RESERVE, Reg.PLY_QUEUE_LEVEL, Reg.PLY_EVT, Reg.PLY_EVT_CNT_REG, Reg.PLY_EVT_CNT_ZERO, Reg.PLY_EVT_CNT_OVF, Reg.PLY_EVT_CNT_COLD, Reg.PLY_EVT_CNT_NOCONV, Reg.PLY_EVT_CNT_CFGREF, Reg.PLY_CNT_YIELD, Reg.PLY_BUSY_BEATS, Reg.PLY_RANGE_SEL, Reg.PLY_RANGE_DATA, Reg.MEMC_CAPACITY, Reg.MEMC_CHAN_LIVE, Reg.WHORL_DOM0_CFG, Reg.WHORL_DOMSET_CFG, Reg.WHORL_DOMSET_STATUS, Reg.WHORL_DOMSET_OFS, Reg.WHORL_DOMSET_RATE, Reg.WHORL_DOMSET_LOSS, Reg.WHORL_DOMSET_STEP, Reg.WHORL_DOM_EVT, Reg.WHORL_DOM_EVT_CNT, Reg.WHORL_TIN_EVT, Reg.WHORL_TIN_EVT_CNT, Reg.WHORL_TINPIN_CFG, Reg.WHORL_TINPIN_STATUS, Reg.WHORL_TINPIN_STAMP]

/-- The registers of this file. -/
def regsSkein : List Reg := regsSkein0 ++ regsSkein1 ++ regsSkein2

end Sys2Proof.Machine
end

