-- ==== Sys2Proof/Machine/Flags.lean ====
section
/-! DEFINITION. Every event flag with its companion counter (R11) and its event source (Table 12.6).
`Flg.REGISTER_FLAG` joins an RW1C flag with the RC counter of its sets; where the counters form an
array, `bit` is the flag's place in it; `source` is the first event source of its block. -/

namespace Sys2Proof.Machine

/-- An event flag, its counter, and the source that its sets raise (R11, R382). -/
structure Flag where
  fld : Field
  cnt : Field
  bit : Option Nat
  source : Option Nat
  deriving DecidableEq, Repr

/-- The index of the counter of the i-th flag of this kind. -/
def Flag.cntIx (f : Flag) (i : Nat) : Nat :=
  match f.bit with
  | some b => ix i b
  | none => i

def Flg.HUB_EVT_SKEIN_RETIRED : Flag := ⟨Fld.HUB_EVT_SKEIN_RETIRED, Fld.HUB_EVT_CNT_RETIRE_COUNT, none, (some 20)⟩
def Flg.HUB_EVT_REQ_REFUSED : Flag := ⟨Fld.HUB_EVT_REQ_REFUSED, Fld.HUB_EVT_CNT_REQ_COUNT, none, (some 20)⟩
def Flg.HUB_EVT_STATE_CHANGED : Flag := ⟨Fld.HUB_EVT_STATE_CHANGED, Fld.HUB_EVT_CNT_STATE_COUNT, none, (some 20)⟩
def Flg.WHORL_EVT_STEP_REFUSED : Flag := ⟨Fld.WHORL_EVT_STEP_REFUSED, Fld.WHORL_EVT_CNT_REFUSED_COUNT, none, (some 21)⟩
def Flg.WHORL_EVT_REF_LOST : Flag := ⟨Fld.WHORL_EVT_REF_LOST, Fld.WHORL_EVT_CNT_REFLOST_COUNT, none, (some 21)⟩
def Flg.WHORL_EVT_WAVE_SLIP : Flag := ⟨Fld.WHORL_EVT_WAVE_SLIP, Fld.WHORL_EVT_CNT_SLIP_COUNT, none, (some 21)⟩
def Flg.WHORL_EVT_STEPPED : Flag := ⟨Fld.WHORL_EVT_STEPPED, Fld.WHORL_EVT_CNT_STEP_COUNT, none, (some 21)⟩
def Flg.WHORL_EVT_LAUNCH_LATE : Flag := ⟨Fld.WHORL_EVT_LAUNCH_LATE, Fld.WHORL_EVT_CNT_LATE_COUNT, none, (some 21)⟩
def Flg.SKEIN_EVT_TOKEN_REFUSED : Flag := ⟨Fld.SKEIN_EVT_TOKEN_REFUSED, Fld.SKEIN_EVT_CNT_TKREF_COUNT, none, none⟩
def Flg.SKEIN_EVT_TOKEN_SAT : Flag := ⟨Fld.SKEIN_EVT_TOKEN_SAT, Fld.SKEIN_EVT_CNT_TKSAT_COUNT, none, none⟩
def Flg.SKEIN_EVT_TRAP : Flag := ⟨Fld.SKEIN_EVT_TRAP, Fld.SKEIN_EVT_CNT_TRAP_COUNT, none, none⟩
def Flg.SKEIN_BOB_EVT_CONFIG_REFUSED : Flag := ⟨Fld.SKEIN_BOB_EVT_CONFIG_REFUSED, Fld.SKEIN_BOB_EVT_CNT_CFGREF_COUNT, none, none⟩
def Flg.SKEIN_BOB_EVT_UNALIGNED : Flag := ⟨Fld.SKEIN_BOB_EVT_UNALIGNED, Fld.SKEIN_BOB_EVT_CNT_UNALIGNED_COUNT, none, none⟩
def Flg.SKEIN_BOB_EVT_WIN_VIOL : Flag := ⟨Fld.SKEIN_BOB_EVT_WIN_VIOL, Fld.SKEIN_BOB_EVT_CNT_WIN_COUNT, none, none⟩
def Flg.SKEIN_BOB_EVT_ROW_RACE : Flag := ⟨Fld.SKEIN_BOB_EVT_ROW_RACE, Fld.SKEIN_BOB_EVT_CNT_RACE_COUNT, none, none⟩
def Flg.SKEIN_LOOM_EVT_NAN_OUT : Flag := ⟨Fld.SKEIN_LOOM_EVT_NAN_OUT, Fld.SKEIN_LOOM_EVT_CNT_NAN_COUNT, none, none⟩
def Flg.SKEIN_LOOM_EVT_FT_INEXACT : Flag := ⟨Fld.SKEIN_LOOM_EVT_FT_INEXACT, Fld.SKEIN_LOOM_EVT_CNT_INEXACT_COUNT, none, none⟩
def Flg.SKEIN_LOOM_EVT_SATURATED : Flag := ⟨Fld.SKEIN_LOOM_EVT_SATURATED, Fld.SKEIN_LOOM_EVT_CNT_SAT_COUNT, none, none⟩
def Flg.MEMC_KV_EVT_CFG_REFUSED : Flag := ⟨Fld.MEMC_KV_EVT_CFG_REFUSED, Fld.MEMC_KV_EVT_CNT_CFGREF_COUNT, none, (some 42)⟩
def Flg.MEMC_KV_EVT_APPEND_TIMEOUT : Flag := ⟨Fld.MEMC_KV_EVT_APPEND_TIMEOUT, Fld.MEMC_KV_EVT_CNT_TIMEOUT_COUNT, none, (some 42)⟩
def Flg.MEMC_KV_EVT_FREE_BAD : Flag := ⟨Fld.MEMC_KV_EVT_FREE_BAD, Fld.MEMC_KV_EVT_CNT_FREEBAD_COUNT, none, (some 42)⟩
def Flg.MEMC_KV_EVT_FREE_LOW : Flag := ⟨Fld.MEMC_KV_EVT_FREE_LOW, Fld.MEMC_KV_EVT_CNT_LOW_COUNT, none, (some 42)⟩
def Flg.MEMC_KV_EVT_POOL_EMPTY : Flag := ⟨Fld.MEMC_KV_EVT_POOL_EMPTY, Fld.MEMC_KV_EVT_CNT_EMPTY_COUNT, none, (some 42)⟩
def Flg.MEMC_KV_EVT_FORMAT : Flag := ⟨Fld.MEMC_KV_EVT_FORMAT, Fld.MEMC_KV_EVT_CNT_FMT_COUNT, none, (some 42)⟩
def Flg.MEMC_KV_EVT_STREAM_RACE : Flag := ⟨Fld.MEMC_KV_EVT_STREAM_RACE, Fld.MEMC_KV_EVT_CNT_RACE_COUNT, none, (some 42)⟩
def Flg.PLY_EVT_CFG_REFUSED : Flag := ⟨Fld.PLY_EVT_CFG_REFUSED, Fld.PLY_EVT_CNT_CFGREF_COUNT, none, none⟩
def Flg.PLY_EVT_NOT_CONVERGED : Flag := ⟨Fld.PLY_EVT_NOT_CONVERGED, Fld.PLY_EVT_CNT_NOCONV_COUNT, none, none⟩
def Flg.PLY_EVT_WARM_MISMATCH : Flag := ⟨Fld.PLY_EVT_WARM_MISMATCH, Fld.PLY_EVT_CNT_COLD_COUNT, none, none⟩
def Flg.PLY_EVT_FIXED_OVERFLOW : Flag := ⟨Fld.PLY_EVT_FIXED_OVERFLOW, Fld.PLY_EVT_CNT_OVF_COUNT, none, none⟩
def Flg.PLY_EVT_PIVOT_ZERO : Flag := ⟨Fld.PLY_EVT_PIVOT_ZERO, Fld.PLY_EVT_CNT_ZERO_COUNT, none, none⟩
def Flg.PLY_EVT_PIVOT_REG : Flag := ⟨Fld.PLY_EVT_PIVOT_REG, Fld.PLY_EVT_CNT_REG_COUNT, none, none⟩
def Flg.FLYER_LOOP_EVT_SAFE_ENTRY : Flag := ⟨Fld.FLYER_LOOP_EVT_SAFE_ENTRY, Fld.FLYER_LOOP_EVT_CNT_COUNT, (some 11), none⟩
def Flg.FLYER_LOOP_EVT_TX_BUSY : Flag := ⟨Fld.FLYER_LOOP_EVT_TX_BUSY, Fld.FLYER_LOOP_EVT_CNT_COUNT, (some 10), none⟩
def Flg.FLYER_LOOP_EVT_PROFILE_CLAMP : Flag := ⟨Fld.FLYER_LOOP_EVT_PROFILE_CLAMP, Fld.FLYER_LOOP_EVT_CNT_COUNT, (some 9), none⟩
def Flg.FLYER_LOOP_EVT_ARITH_SAT : Flag := ⟨Fld.FLYER_LOOP_EVT_ARITH_SAT, Fld.FLYER_LOOP_EVT_CNT_COUNT, (some 8), none⟩
def Flg.FLYER_LOOP_EVT_INPUT_FAULT : Flag := ⟨Fld.FLYER_LOOP_EVT_INPUT_FAULT, Fld.FLYER_LOOP_EVT_CNT_COUNT, (some 7), none⟩
def Flg.FLYER_LOOP_EVT_TRIG_DROP : Flag := ⟨Fld.FLYER_LOOP_EVT_TRIG_DROP, Fld.FLYER_LOOP_EVT_CNT_COUNT, (some 6), none⟩
def Flg.FLYER_LOOP_EVT_MBX_WITHHELD : Flag := ⟨Fld.FLYER_LOOP_EVT_MBX_WITHHELD, Fld.FLYER_LOOP_EVT_CNT_COUNT, (some 5), none⟩
def Flg.FLYER_LOOP_EVT_MBX_REPLACED : Flag := ⟨Fld.FLYER_LOOP_EVT_MBX_REPLACED, Fld.FLYER_LOOP_EVT_CNT_COUNT, (some 4), none⟩
def Flg.FLYER_LOOP_EVT_MBX_BAD : Flag := ⟨Fld.FLYER_LOOP_EVT_MBX_BAD, Fld.FLYER_LOOP_EVT_CNT_COUNT, (some 3), none⟩
def Flg.FLYER_LOOP_EVT_COEF_LOCKED : Flag := ⟨Fld.FLYER_LOOP_EVT_COEF_LOCKED, Fld.FLYER_LOOP_EVT_CNT_COUNT, (some 2), none⟩
def Flg.FLYER_LOOP_EVT_REQ_REFUSED : Flag := ⟨Fld.FLYER_LOOP_EVT_REQ_REFUSED, Fld.FLYER_LOOP_EVT_CNT_COUNT, (some 1), none⟩
def Flg.FLYER_LOOP_EVT_CLOSE_FAIL : Flag := ⟨Fld.FLYER_LOOP_EVT_CLOSE_FAIL, Fld.FLYER_LOOP_EVT_CNT_COUNT, (some 0), none⟩
def Flg.CARD_CAP_EVT_PKT_DISCARDED : Flag := ⟨Fld.CARD_CAP_EVT_PKT_DISCARDED, Fld.CARD_CAP_EVT_CNT_COUNT, (some 5), (some 4)⟩
def Flg.CARD_CAP_EVT_HDR_CORRECTED : Flag := ⟨Fld.CARD_CAP_EVT_HDR_CORRECTED, Fld.CARD_CAP_EVT_CNT_COUNT, (some 4), (some 4)⟩
def Flg.CARD_CAP_EVT_CFG_REFUSED : Flag := ⟨Fld.CARD_CAP_EVT_CFG_REFUSED, Fld.CARD_CAP_EVT_CNT_COUNT, (some 3), (some 4)⟩
def Flg.CARD_CAP_EVT_CORRUPT : Flag := ⟨Fld.CARD_CAP_EVT_CORRUPT, Fld.CARD_CAP_EVT_CNT_COUNT, (some 2), (some 4)⟩
def Flg.CARD_CAP_EVT_NO_BUFFER : Flag := ⟨Fld.CARD_CAP_EVT_NO_BUFFER, Fld.CARD_CAP_EVT_CNT_COUNT, (some 1), (some 4)⟩
def Flg.CARD_CAP_EVT_STALE : Flag := ⟨Fld.CARD_CAP_EVT_STALE, Fld.CARD_CAP_EVT_CNT_COUNT, (some 0), (some 4)⟩
def Flg.CARD_DS_EVT_CFG_REFUSED : Flag := ⟨Fld.CARD_DS_EVT_CFG_REFUSED, Fld.CARD_DS_EVT_CNT_COUNT, (some 5), (some 0)⟩
def Flg.CARD_DS_EVT_CORRUPT : Flag := ⟨Fld.CARD_DS_EVT_CORRUPT, Fld.CARD_DS_EVT_CNT_COUNT, (some 4), (some 0)⟩
def Flg.CARD_DS_EVT_BUDGET : Flag := ⟨Fld.CARD_DS_EVT_BUDGET, Fld.CARD_DS_EVT_CNT_COUNT, (some 3), (some 0)⟩
def Flg.CARD_DS_EVT_DIM : Flag := ⟨Fld.CARD_DS_EVT_DIM, Fld.CARD_DS_EVT_CNT_COUNT, (some 2), (some 0)⟩
def Flg.CARD_DS_EVT_LOW_WATER : Flag := ⟨Fld.CARD_DS_EVT_LOW_WATER, Fld.CARD_DS_EVT_CNT_COUNT, (some 1), (some 0)⟩
def Flg.CARD_DS_EVT_EPOCH_END : Flag := ⟨Fld.CARD_DS_EVT_EPOCH_END, Fld.CARD_DS_EVT_CNT_COUNT, (some 0), (some 0)⟩
def Flg.FLYER_ENC_EVT_INDEX : Flag := ⟨Fld.FLYER_ENC_EVT_INDEX, Fld.FLYER_ENC_EVT_CNT_COUNT, (some 1), none⟩
def Flg.FLYER_ENC_EVT_ILLEGAL : Flag := ⟨Fld.FLYER_ENC_EVT_ILLEGAL, Fld.FLYER_ENC_EVT_CNT_COUNT, (some 0), none⟩
def Flg.FLYER_SSI_EVT_TIMEOUT : Flag := ⟨Fld.FLYER_SSI_EVT_TIMEOUT, Fld.FLYER_SSI_EVT_CNT_COUNT, (some 1), none⟩
def Flg.FLYER_SSI_EVT_PARITY_ERR : Flag := ⟨Fld.FLYER_SSI_EVT_PARITY_ERR, Fld.FLYER_SSI_EVT_CNT_COUNT, (some 0), none⟩
def Flg.FLYER_SD_EVT_CLK_LOST : Flag := ⟨Fld.FLYER_SD_EVT_CLK_LOST, Fld.FLYER_SD_EVT_CNT_COUNT, none, none⟩
def Flg.FLYER_ADC_EVT_OVERRANGE : Flag := ⟨Fld.FLYER_ADC_EVT_OVERRANGE, Fld.FLYER_ADC_EVT_CNT_COUNT, none, none⟩
def Flg.FLYER_PWM_EVT_DUTY_CLAMP : Flag := ⟨Fld.FLYER_PWM_EVT_DUTY_CLAMP, Fld.FLYER_PWM_EVT_CNT_COUNT, (some 1), none⟩
def Flg.FLYER_PWM_EVT_SAFE_APPLIED : Flag := ⟨Fld.FLYER_PWM_EVT_SAFE_APPLIED, Fld.FLYER_PWM_EVT_CNT_COUNT, (some 0), none⟩
def Flg.RING_EVT_CQ_FULL : Flag := ⟨Fld.RING_EVT_CQ_FULL, Fld.RING_EVT_CNT_COUNT, (some 4), none⟩
def Flg.RING_EVT_DB_INVALID : Flag := ⟨Fld.RING_EVT_DB_INVALID, Fld.RING_EVT_CNT_COUNT, (some 3), none⟩
def Flg.RING_EVT_ADMIT_REJECT : Flag := ⟨Fld.RING_EVT_ADMIT_REJECT, Fld.RING_EVT_CNT_COUNT, (some 2), none⟩
def Flg.RING_EVT_FETCH_ERR : Flag := ⟨Fld.RING_EVT_FETCH_ERR, Fld.RING_EVT_CNT_COUNT, (some 1), none⟩
def Flg.RING_EVT_CFG_REFUSED : Flag := ⟨Fld.RING_EVT_CFG_REFUSED, Fld.RING_EVT_CNT_COUNT, (some 0), none⟩
def Flg.HEDDLE_EVT_CYCLE_SKIP : Flag := ⟨Fld.HEDDLE_EVT_CYCLE_SKIP, Fld.HEDDLE_EVT_CNT7_COUNT, none, none⟩
def Flg.HEDDLE_EVT_QUIESCE_LATE : Flag := ⟨Fld.HEDDLE_EVT_QUIESCE_LATE, Fld.HEDDLE_EVT_CNT_COUNT, (some 6), none⟩
def Flg.HEDDLE_EVT_ABORT_ABSORBED : Flag := ⟨Fld.HEDDLE_EVT_ABORT_ABSORBED, Fld.HEDDLE_EVT_CNT_COUNT, (some 5), none⟩
def Flg.HEDDLE_EVT_JOB_ABORT : Flag := ⟨Fld.HEDDLE_EVT_JOB_ABORT, Fld.HEDDLE_EVT_CNT_COUNT, (some 4), none⟩
def Flg.HEDDLE_EVT_TEST_DEFER_DRAIN : Flag := ⟨Fld.HEDDLE_EVT_TEST_DEFER_DRAIN, Fld.HEDDLE_EVT_CNT_COUNT, (some 3), none⟩
def Flg.HEDDLE_EVT_TEST_DEFER_FIT : Flag := ⟨Fld.HEDDLE_EVT_TEST_DEFER_FIT, Fld.HEDDLE_EVT_CNT_COUNT, (some 2), none⟩
def Flg.HEDDLE_EVT_SWAPPED : Flag := ⟨Fld.HEDDLE_EVT_SWAPPED, Fld.HEDDLE_EVT_CNT_COUNT, (some 1), none⟩
def Flg.HEDDLE_EVT_TBL_REFUSED : Flag := ⟨Fld.HEDDLE_EVT_TBL_REFUSED, Fld.HEDDLE_EVT_CNT_COUNT, (some 0), none⟩
def Flg.HEDDLE_DET_EVT_NDC_SAT : Flag := ⟨Fld.HEDDLE_DET_EVT_NDC_SAT, Fld.HEDDLE_DET_EVT_CNT_COUNT, (some 1), none⟩
def Flg.HEDDLE_DET_EVT_SIGN_SKIPPED : Flag := ⟨Fld.HEDDLE_DET_EVT_SIGN_SKIPPED, Fld.HEDDLE_DET_EVT_CNT_COUNT, (some 0), none⟩
def Flg.IWL_EVT_BARRIER_FAIL : Flag := ⟨Fld.IWL_EVT_BARRIER_FAIL, Fld.IWL_EVT_CNT_COUNT, (some 9), (some 36)⟩
def Flg.IWL_EVT_RELAY_BAD : Flag := ⟨Fld.IWL_EVT_RELAY_BAD, Fld.IWL_EVT_CNT_COUNT, (some 8), (some 36)⟩
def Flg.IWL_EVT_BACKPRESSURE : Flag := ⟨Fld.IWL_EVT_BACKPRESSURE, Fld.IWL_EVT_CNT_COUNT, (some 7), (some 36)⟩
def Flg.IWL_EVT_TS_STEP : Flag := ⟨Fld.IWL_EVT_TS_STEP, Fld.IWL_EVT_CNT_COUNT, (some 6), (some 36)⟩
def Flg.IWL_EVT_TS_LOST : Flag := ⟨Fld.IWL_EVT_TS_LOST, Fld.IWL_EVT_CNT_COUNT, (some 5), (some 36)⟩
def Flg.IWL_EVT_LATE_REPLY : Flag := ⟨Fld.IWL_EVT_LATE_REPLY, Fld.IWL_EVT_CNT_COUNT, (some 4), (some 36)⟩
def Flg.IWL_EVT_REMOTE_TIMEOUT : Flag := ⟨Fld.IWL_EVT_REMOTE_TIMEOUT, Fld.IWL_EVT_CNT_COUNT, (some 3), (some 36)⟩
def Flg.IWL_EVT_REPLAY_LIMIT : Flag := ⟨Fld.IWL_EVT_REPLAY_LIMIT, Fld.IWL_EVT_CNT_COUNT, (some 2), (some 36)⟩
def Flg.IWL_EVT_MISWIRED : Flag := ⟨Fld.IWL_EVT_MISWIRED, Fld.IWL_EVT_CNT_COUNT, (some 1), (some 36)⟩
def Flg.IWL_EVT_LINK_DOWN : Flag := ⟨Fld.IWL_EVT_LINK_DOWN, Fld.IWL_EVT_CNT_COUNT, (some 0), (some 36)⟩
def Flg.ETH_EVT_CFG_REFUSED : Flag := ⟨Fld.ETH_EVT_CFG_REFUSED, Fld.ETH_EVT_CNT_COUNT, (some 7), (some 32)⟩
def Flg.ETH_EVT_SLOT_REFUSED : Flag := ⟨Fld.ETH_EVT_SLOT_REFUSED, Fld.ETH_EVT_CNT_COUNT, (some 6), (some 32)⟩
def Flg.ETH_EVT_TX_BAD : Flag := ⟨Fld.ETH_EVT_TX_BAD, Fld.ETH_EVT_CNT_COUNT, (some 5), (some 32)⟩
def Flg.ETH_EVT_TX_LATE : Flag := ⟨Fld.ETH_EVT_TX_LATE, Fld.ETH_EVT_CNT_COUNT, (some 4), (some 32)⟩
def Flg.ETH_EVT_PAUSE_RX : Flag := ⟨Fld.ETH_EVT_PAUSE_RX, Fld.ETH_EVT_CNT_COUNT, (some 3), (some 32)⟩
def Flg.ETH_EVT_RX_ERR : Flag := ⟨Fld.ETH_EVT_RX_ERR, Fld.ETH_EVT_CNT_COUNT, (some 2), (some 32)⟩
def Flg.ETH_EVT_RX_OVERRUN : Flag := ⟨Fld.ETH_EVT_RX_OVERRUN, Fld.ETH_EVT_CNT_COUNT, (some 1), (some 32)⟩
def Flg.ETH_EVT_LINK_CHANGE : Flag := ⟨Fld.ETH_EVT_LINK_CHANGE, Fld.ETH_EVT_CNT_COUNT, (some 0), (some 32)⟩
def Flg.WHORL_DOM_EVT_AUTO_SWITCHED : Flag := ⟨Fld.WHORL_DOM_EVT_AUTO_SWITCHED, Fld.WHORL_DOM_EVT_CNT_COUNT, (some 2), (some 21)⟩
def Flg.WHORL_DOM_EVT_DOM_LOST : Flag := ⟨Fld.WHORL_DOM_EVT_DOM_LOST, Fld.WHORL_DOM_EVT_CNT_COUNT, (some 1), (some 21)⟩
def Flg.WHORL_DOM_EVT_DOM_STEP : Flag := ⟨Fld.WHORL_DOM_EVT_DOM_STEP, Fld.WHORL_DOM_EVT_CNT_COUNT, (some 0), (some 21)⟩
def Flg.CAN_EVT_CFG_REFUSED : Flag := ⟨Fld.CAN_EVT_CFG_REFUSED, Fld.CAN_EVT_CNT_COUNT, (some 9), (some 24)⟩
def Flg.CAN_EVT_IDX_INVALID : Flag := ⟨Fld.CAN_EVT_IDX_INVALID, Fld.CAN_EVT_CNT_COUNT, (some 8), (some 24)⟩
def Flg.CAN_EVT_SLOT_REFUSED : Flag := ⟨Fld.CAN_EVT_SLOT_REFUSED, Fld.CAN_EVT_CNT_COUNT, (some 7), (some 24)⟩
def Flg.CAN_EVT_BUS_OFF : Flag := ⟨Fld.CAN_EVT_BUS_OFF, Fld.CAN_EVT_CNT_COUNT, (some 6), (some 24)⟩
def Flg.CAN_EVT_ERR_PASSIVE : Flag := ⟨Fld.CAN_EVT_ERR_PASSIVE, Fld.CAN_EVT_CNT_COUNT, (some 5), (some 24)⟩
def Flg.CAN_EVT_PROTO_ERR : Flag := ⟨Fld.CAN_EVT_PROTO_ERR, Fld.CAN_EVT_CNT_COUNT, (some 4), (some 24)⟩
def Flg.CAN_EVT_TX_BAD : Flag := ⟨Fld.CAN_EVT_TX_BAD, Fld.CAN_EVT_CNT_COUNT, (some 3), (some 24)⟩
def Flg.CAN_EVT_TX_LATE : Flag := ⟨Fld.CAN_EVT_TX_LATE, Fld.CAN_EVT_CNT_COUNT, (some 2), (some 24)⟩
def Flg.CAN_EVT_RX_TOO_LONG : Flag := ⟨Fld.CAN_EVT_RX_TOO_LONG, Fld.CAN_EVT_CNT_COUNT, (some 1), (some 24)⟩
def Flg.CAN_EVT_RX_OVERRUN : Flag := ⟨Fld.CAN_EVT_RX_OVERRUN, Fld.CAN_EVT_CNT_COUNT, (some 0), (some 24)⟩
def Flg.SELV_EVT_CFG_REFUSED : Flag := ⟨Fld.SELV_EVT_CFG_REFUSED, Fld.SELV_EVT_CNT_COUNT, (some 9), (some 22)⟩
def Flg.SELV_EVT_LOCKSTEP : Flag := ⟨Fld.SELV_EVT_LOCKSTEP, Fld.SELV_EVT_CNT_COUNT, (some 8), (some 22)⟩
def Flg.SELV_EVT_TIME_FAULT : Flag := ⟨Fld.SELV_EVT_TIME_FAULT, Fld.SELV_EVT_CNT_COUNT, (some 7), (some 22)⟩
def Flg.SELV_EVT_HANG : Flag := ⟨Fld.SELV_EVT_HANG, Fld.SELV_EVT_CNT_COUNT, (some 6), (some 22)⟩
def Flg.SELV_EVT_DTI_EXCEEDED : Flag := ⟨Fld.SELV_EVT_DTI_EXCEEDED, Fld.SELV_EVT_CNT_COUNT, (some 5), (some 22)⟩
def Flg.SELV_EVT_ESCALATED : Flag := ⟨Fld.SELV_EVT_ESCALATED, Fld.SELV_EVT_CNT_COUNT, (some 4), (some 22)⟩
def Flg.SELV_EVT_TRANSIENT : Flag := ⟨Fld.SELV_EVT_TRANSIENT, Fld.SELV_EVT_CNT_COUNT, (some 3), (some 22)⟩
def Flg.SELV_EVT_FRAME_MISMATCH : Flag := ⟨Fld.SELV_EVT_FRAME_MISMATCH, Fld.SELV_EVT_CNT_COUNT, (some 2), (some 22)⟩
def Flg.SELV_EVT_GOLDEN_FAIL : Flag := ⟨Fld.SELV_EVT_GOLDEN_FAIL, Fld.SELV_EVT_CNT_COUNT, (some 1), (some 22)⟩
def Flg.SELV_EVT_PARITY : Flag := ⟨Fld.SELV_EVT_PARITY, Fld.SELV_EVT_CNT_COUNT, (some 0), (some 22)⟩
def Flg.SEC_EVT_KEY_SKIPPED : Flag := ⟨Fld.SEC_EVT_KEY_SKIPPED, Fld.SEC_EVT_CNT_COUNT, (some 6), (some 23)⟩
def Flg.SEC_EVT_DEBUG_FAIL : Flag := ⟨Fld.SEC_EVT_DEBUG_FAIL, Fld.SEC_EVT_CNT_COUNT, (some 5), (some 23)⟩
def Flg.SEC_EVT_JNL_TRUNC : Flag := ⟨Fld.SEC_EVT_JNL_TRUNC, Fld.SEC_EVT_CNT_COUNT, (some 4), (some 23)⟩
def Flg.SEC_EVT_JNL_COMPACT : Flag := ⟨Fld.SEC_EVT_JNL_COMPACT, Fld.SEC_EVT_CNT_COUNT, (some 3), (some 23)⟩
def Flg.SEC_EVT_TAMPER : Flag := ⟨Fld.SEC_EVT_TAMPER, Fld.SEC_EVT_CNT_COUNT, (some 2), (some 23)⟩
def Flg.SEC_EVT_CMD_REFUSED : Flag := ⟨Fld.SEC_EVT_CMD_REFUSED, Fld.SEC_EVT_CNT_COUNT, (some 1), (some 23)⟩
def Flg.SEC_EVT_CMD_DONE : Flag := ⟨Fld.SEC_EVT_CMD_DONE, Fld.SEC_EVT_CNT_COUNT, (some 0), (some 23)⟩
def Flg.PWR_EVT_AVS_ERR : Flag := ⟨Fld.PWR_EVT_AVS_ERR, Fld.PWR_EVT_CNT_COUNT, (some 4), none⟩
def Flg.PWR_EVT_RAIL_WARN : Flag := ⟨Fld.PWR_EVT_RAIL_WARN, Fld.PWR_EVT_CNT_COUNT, (some 3), none⟩
def Flg.PWR_EVT_TJ_LIMIT : Flag := ⟨Fld.PWR_EVT_TJ_LIMIT, Fld.PWR_EVT_CNT_COUNT, (some 2), none⟩
def Flg.PWR_EVT_CAP_ACTIVE : Flag := ⟨Fld.PWR_EVT_CAP_ACTIVE, Fld.PWR_EVT_CNT_COUNT, (some 1), none⟩
def Flg.PWR_EVT_SET_REFUSED : Flag := ⟨Fld.PWR_EVT_SET_REFUSED, Fld.PWR_EVT_CNT_COUNT, (some 0), none⟩

/-- The register map of BAR0 (Table 0.4). -/
def bar0Map : List Reg := regsHost ++ regsSkein ++ regsFlyer ++ regsNet ++ regsSafe

end Sys2Proof.Machine
end

