-- ==== Sys2Proof/Machine/State.lean ====
section
/-! DEFINITION. The state of the package, as plain data: the registers of BAR0, every queue, buffer,
counter, mode and pin that the spec gives the part, its memories, and the queue of the commands that
wait.  State.reset is the package in device state RESET. -/

namespace Sys2Proof.Machine

/-! ## The device -/

/-- The device states of Table 1.7 (R27). -/
inductive DevState where
  | off | reset | boot | standby | run | sleep | safe | recovery | alarm
  deriving DecidableEq, Repr

/-- The code of a state in HUB_STATE (Table 1.11). -/
def DevState.code : DevState → Nat
  | .off => 0 | .reset => 1 | .boot => 2 | .standby => 3 | .run => 4
  | .sleep => 5 | .safe => 6 | .recovery => 7 | .alarm => 8

/-! ## Commands -/

/-- Where a command queues and runs (Tables 3.5 and 12.2). -/
inductive Engine where
  | loom (k : Nat) | vec (k : Nat) | drafter (k d : Nat) | prog (k c : Nat) | ply (h : Nat)
  | kv | ring | digest
  deriving DecidableEq, Repr

/-- Who issued a command: a ring of a client, a spindle core, or firmware. -/
inductive Origin where
  | host (client sq seq : Nat) | core (k c : Nat) | firmware
  deriving DecidableEq, Repr

/-- How far a command has come. -/
inductive Phase where
  /-- admitted, waiting for an entry of its queue (R77) -/
  | admitted
  /-- in its queue, not started -/
  | queued
  /-- started -/
  | running
  /-- yielded (R175, R288) -/
  | yielded
  /-- a mailbox MOVE that the Selvedge holds (R532) -/
  | held
  /-- its work is over; it has not completed yet -/
  | ended
  deriving DecidableEq, Repr

/-- A range of rows of one skein, both ends included. -/
structure RowRange where
  skein : Nat
  first : Nat
  last : Nat
  deriving DecidableEq, Repr

/-- The snapshot of a stream that an ATTN takes at its start (R241). -/
structure Snap where
  pages : Nat
  pendSlot : Nat
  pendCount : Nat
  slot : Nat
  staged : Nat
  deriving DecidableEq, Repr

/-- What a running command holds beyond its descriptor. -/
inductive Work where
  | plain
  /-- an ATTN's snapshot -/
  | snap (v : Snap)
  /-- an ATTN whose work is over: its snapshot, and the output rows that its completion writes (R247) -/
  | attnDone (v : Snap) (rows : List (Nat × List Byte))
  /-- a DIGEST whose work is over: when it started, and the digests of its record, which its completion writes (R511) -/
  | digested (due : Nat) (digests : List Byte)
  /-- a SOLVE or DYN and its tile bank (R288) -/
  | bank (b : Nat)
  /-- a KVAPPEND that waits under R231 -/
  | appendWait
  /-- a KVAPPEND that writes, with the slot it took -/
  | appendWrite (slot : Option Nat)
  /-- a KVAPPEND that has committed and waits for its flush (R234) -/
  | appendFlush (len : Nat)
  /-- a CONV that has yielded, with the group that it has reached (R220) -/
  | conv (g : Nat)
  /-- a MOVE of remote rows: the source rows asked for so far, the compressed stream so far and its unwritten tail (R123,
  R409) -/
  | remote (asked len : Nat) (tail : List Byte)
  deriving DecidableEq, Repr

/-- A command between its admission or issue and its completion. -/
structure Cmd where
  uid : Nat
  origin : Origin
  job : Nat
  /-- the 64 bytes of its descriptor (Table 12.3) -/
  desc : List Byte
  launch : Nat
  /-- the queue it entered -/
  home : Engine
  /-- the engine it runs on -/
  engine : Engine
  phase : Phase
  /-- the drafter-queue entry that a forwarded command still holds (R78) -/
  via : Option (Nat × Nat)
  registered : Bool
  granted : Bool
  /-- judged late and allowed to run late (R55) -/
  late : Bool
  /-- WHORL_LATE_TOL, WHORL_LATE_POLICY and WHORL_GUARD at admission (Table 2.5) -/
  tol : Nat
  policy : Nat
  guard : Nat
  /-- Whorl time has reached its guard (R56) -/
  guarded : Bool
  /-- Whorl time at which it started -/
  started : Nat
  status : Nat
  result : Nat
  /-- latched rounding mode: true for ties to even (R192) -/
  even : Bool
  /-- a MATMUL that runs on the vector engine (R162) -/
  routed : Bool
  /-- the accumulator store that it holds while it runs on a loom or has yielded (R137, R175) -/
  store : Nat
  /-- footprints (R114) -/
  reads : List RowRange
  writes : List RowRange
  /-- remote requests not yet answered -/
  outstanding : Nat
  /-- the Heddle has asked it to yield (R175, R288) -/
  yieldReq : Bool
  /-- its function was reset while it ran: host writes and records are discarded (R388) -/
  orphan : Bool
  /-- reference time of its admission or of its last wait -/
  since : Nat
  /-- a FENCE issued before these uids ended waits for them (R98) -/
  awaits : List Nat
  /-- what it holds while it runs -/
  work : Work
  /-- SKEIN_LOOM_CTRL.GEMV_MAX when it reached the head of its job's order in a loom queue (R162) -/
  gemv : Option Nat
  /-- PAGES of its stream at its start (R257) -/
  pages : Nat
  /-- the loop and the row of a mailbox that a tile of a pair has written (R532) -/
  mail : Option (Nat × List Byte)
  /-- its write extent has been copied back to its own skein (R406) -/
  copied : Bool
  /-- a fault has stopped it before its end, and what it leaves has not been settled yet (R159, R178) -/
  cut : Bool
  /-- Whorl time, the job's nondeterminism counter and TIMING_STATUS when its work ended (R507) -/
  capture : Nat × Nat × Nat
  /-- the digest of the rows that it wrote, taken as they were written (R523) -/
  digest : Nat
  /-- what a MOVE has written, by the place of the row among its rows (R510) -/
  moved : List (Nat × List Byte)
  deriving DecidableEq, Repr

/-- A completion record waiting to be written (Table 12.5). -/
structure Record where
  client : Nat
  sq : Nat
  cq : Nat
  irq : Bool
  status : Nat
  job : Nat
  opcode : Nat
  stream : Nat
  seq : Nat
  time : Nat
  result : Nat
  /-- it has found its ring full and been counted (R377) -/
  waited : Bool
  deriving DecidableEq, Repr

/-! ## Tokens -/

/-- A registered waiter of a token (R91). -/
inductive Waiter where
  | cmd (uid : Nat) | core (k c : Nat) | cap (n : Nat) | ds (d : Nat)
  deriving DecidableEq, Repr

/-- A token (R85). -/
structure Token where
  count : Nat
  target : Nat
  /-- MODE: true LEVEL, false CONSUME -/
  level : Bool
  owner : Option Nat
  waiters : List Waiter
  /-- the grants in CONSUME mode of the last beat that has had one: its reference time, the source of each waiter, and
  whether the grant was contested (R91) -/
  grants : List (Nat × (Nat × Nat) × Bool)
  /-- its waiters when the last abort withdrew them (R417) -/
  cut : List Waiter
  deriving DecidableEq, Repr

/-- The state of a token after RESET (R85). -/
def Token.reset : Token := ⟨0, 1, false, none, [], [], []⟩

/-! ## Spindle cores -/

/-- SPn_STATE of SKEIN_SP_STATE (Table 3.13). -/
inductive CoreState where
  | idle | run | stalled | preempted | halted | trapped
  deriving DecidableEq, Repr

/-- The code of a core state in SKEIN_SP_STATE. -/
def CoreState.code : CoreState → Nat
  | .idle => 0 | .run => 1 | .stalled => 2 | .preempted => 3 | .halted => 4 | .trapped => 5

/-- The registers of a spindle core (Table 3.1). -/
structure CoreRegs where
  /-- g1 to g31 that are not 0 -/
  g : List (Nat × Dword)
  pr : BitVec 8
  /-- v0 to v31 that are not 0 -/
  v : List (Nat × BitVec 1024)
  firstStatus : Nat
  cmdErr : Bool
  divz : Bool
  deriving DecidableEq, Repr

/-- Registers all 0, pr0 reading 1. -/
def CoreRegs.zero : CoreRegs := ⟨[], 0, [], 0, false, false⟩

/-- A spindle core. -/
structure Core where
  state : CoreState
  pc : Nat
  job : Nat
  regs : CoreRegs
  /-- the PROG whose program runs -/
  prog : Option Nat
  /-- IMEM extent of the running image -/
  imemBase : Nat
  imemLen : Nat
  /-- registered at the token that its WAITTK names (R90, R93) -/
  waitReg : Bool
  /-- that wait has been granted -/
  waitGranted : Bool
  /-- reference time at which an abort cut its running program off (R104, R417) -/
  cut : Option Nat
  /-- that abort found it stalled with a wait that had not registered yet (R418) -/
  cutWait : Bool
  deriving DecidableEq, Repr

/-- A core after RESET. -/
def Core.reset : Core := ⟨.idle, 0, 0, CoreRegs.zero, none, 0, 0, false, false, none, false⟩


/-! ## Windows -/

/-- A window's state (R124). -/
inductive WinState where
  | idle | active | draining
  deriving DecidableEq, Repr

/-- A window of a skein (R124). -/
structure Window where
  state : WinState
  job : Nat
  permitRead : Bool
  permitWrite : Bool
  key : Nat
  first : Nat
  count : Nat
  /-- bit p permits package p -/
  mask : Nat
  deriving DecidableEq, Repr

/-- A window after RESET. -/
def Window.reset : Window := ⟨.idle, 0, false, false, 0, 0, 0, 0⟩

/-- The counting period of dropped accesses of a skein (R129): accesses dropped in it, whether it has raised its tamper
event, and the reference time of its start. -/
structure WinAlarm where
  count : Nat
  raised : Bool
  began : Nat
  deriving DecidableEq, Repr

/-- The first period begins at the model's start. -/
def WinAlarm.reset : WinAlarm := ⟨0, false, 0⟩

/-- An image resident on a core (R101). -/
structure Resident where
  job : Nat
  imemBase : Nat
  imemLen : Nat
  dmemBase : Nat
  dmemLen : Nat
  /-- JIBEX_VERSION of the image (R506) -/
  jibex : Nat
  /-- FIXED_TWIST_ONLY (R102) -/
  fixedOnly : Bool
  /-- the windows of its section, by index (R126) -/
  windows : List (Nat × Window)
  deriving DecidableEq, Repr

/-- The debug aperture's staging copy of a skein (R134). -/
structure Aperture where
  row : Nat
  data : List Byte
  dirty : Bool
  deriving DecidableEq, Repr

/-! ## The KV engine -/

/-- The hub's KV engine beyond contexts and registers (chapter 08). -/
structure Kv where
  /-- staging slots in use, each with its stream -/
  used : List (Nat × Nat)
  /-- streams whose flush has found the free ring empty and waits (R233) -/
  starved : List Nat
  /-- streams whose filling slot becomes a partial page once PEND_SLOT is free (R234) -/
  want : List Nat
  /-- the KVAPPENDs in the order in which they have become ready, by uid (R231) -/
  line : List Nat
  deriving DecidableEq, Repr

/-! ## Carding -/

/-- A frame that a capture stream is in (R334 to R336). -/
structure Frame where
  start : Nat
  vc : Nat
  csiFrame : Nat
  seq : Nat
  corrected : Bool
  corrupt : Bool
  lines : Nat
  lineBytes : Nat
  /-- time of the Frame End packet -/
  ended : Option Nat
  deriving DecidableEq, Repr

/-- A capture stream beyond its registers. -/
structure CapStream where
  /-- enabled, or ending its last frame -/
  live : Bool
  /-- buffer that the next grant's use takes, in ring order -/
  next : Nat
  /-- the buffer that it holds for the frame it writes or for the next one (R335) -/
  held : Option Nat
  frame : Option Frame
  deriving DecidableEq, Repr

/-- A capture stream after RESET. -/
def CapStream.reset : CapStream := ⟨false, 0, none, none⟩

/-- A sample in a decode pipeline (R341 to R344). -/
structure Sample where
  /-- its number since enable, and its position in its epoch -/
  serial : Nat
  pos : Nat
  epoch : Nat
  index : Nat
  /-- its budget in beats, none where MULT disables it (R343) -/
  budget : Option Nat
  /-- beats spent and status, once it has ended -/
  ended : Option (Nat × Nat)
  deriving DecidableEq, Repr

/-- The batch that a dataset stream fills (R351, R352). -/
structure Batch where
  buffer : Nat
  firstPos : Nat
  epoch : Nat
  /-- index and status of each slot filled -/
  slots : List (Nat × Nat)
  /-- all its slots are filled -/
  full : Bool
  deriving DecidableEq, Repr

/-- A dataset stream beyond its registers. -/
structure DsStream where
  live : Bool
  /-- EN has been written 0 and the current batch ends the stream (R356) -/
  stopping : Bool
  next : Nat
  batch : Option Batch
  published : Nat
  /-- samples started and not yet taken in position order -/
  samples : List Sample
  /-- positions started and positions taken since enable -/
  started : Nat
  taken : Nat
  /-- m after each of the last positions taken, newest first (R343) -/
  means : List Nat
  /-- the epoch that it is in, from the EPOCH at enable on (R346, R355) -/
  epoch : Nat
  /-- grants of FREE since enable -/
  granted : Nat
  /-- the stream registers in force at enable, by field code (R355) -/
  regs : List (Nat × Nat)
  deriving DecidableEq, Repr

/-- A dataset stream after RESET. -/
def DsStream.reset : DsStream := ⟨false, false, 0, none, 0, [], 0, 0, [], 0, 0, []⟩

/-! ## The Flyer -/

/-- The histories of a controller (R298). -/
structure Hist where
  e1 : Int
  e2 : Int
  ef1 : Int
  ef2 : Int
  u1 : Int
  u2 : Int
  uf1 : Int
  uf2 : Int
  deriving DecidableEq, Repr

/-- Histories on closing (R312). -/
def Hist.zero : Hist := ⟨0, 0, 0, 0, 0, 0, 0, 0⟩

/-- A staged mailbox entry (R306, R308). -/
structure Entry where
  bytes : List Byte
  /-- the command whose release by the Selvedge it awaits -/
  await : Option Nat
  /-- once released: the pair, the frame of the tile and the reference time of the release (R532) -/
  freed : Option (Nat × Nat × Nat)
  deriving DecidableEq, Repr

/-- A profile move record (Table 10.5), or the one that runs. -/
structure Move where
  target : Nat
  jerk : Int
  /-- lengths of segments 1 to 7 -/
  lens : List Nat
  deriving DecidableEq, Repr

/-- The profile generator of a loop (R309, R310). -/
structure Profile where
  p : Nat
  v : Int
  a : Int
  seg : Nat
  n : Nat
  move : Move
  queue : List Move
  deriving DecidableEq, Repr

/-- A generator after RESET. -/
def Profile.reset : Profile := ⟨0, 0, 0, 0, 0, ⟨0, 0, []⟩, []⟩

/-- A Flyer loop beyond its registers. -/
structure Loop where
  /-- stamp of the previous sample -/
  last : Option Nat
  /-- the last trigger of ADC mode: the tick of its end of conversion -/
  due : Option Nat
  /-- the last trigger taken, sampled or dropped -/
  seen : Option Nat
  /-- encoder counts at the previous sample -/
  counts : List (Nat × Nat)
  hists : List (Nat × Hist)
  /-- the controller selected at the previous sample -/
  selected : Option Nat
  /-- samples since closing -/
  run : Nat
  /-- mailbox set-point and feed-forward in effect -/
  sp : Nat
  ffv : Int
  ffa : Int
  profile : Profile
  staged : Option Entry
  /-- inputs that have reported a fault since the previous sample -/
  faults : List Nat
  /-- the last cause of R317's list that decided its state: its reference time, its rank and the state before that beat -/
  decided : Option (Nat × Nat × Nat)
  /-- reference time at which it last entered OPEN (R313) -/
  opened : Option Nat
  deriving DecidableEq, Repr

/-- A loop after RESET. -/
def Loop.reset : Loop := 
  ⟨none, none, none, [], [], none, 0, 0, 0, 0, Profile.reset, none, [], none, none⟩

/-- An encoder's filtered pins and its duty measure (R319). -/
structure Enc where
  a : Bool
  b : Bool
  i : Bool
  /-- stamp of the last rising edge of A -/
  rise : Option Nat
  /-- high time since then -/
  high : Nat
  deriving DecidableEq, Repr

/-- An encoder after RESET. -/
def Enc.reset : Enc := ⟨false, false, false, none, 0⟩

/-- A request in a Flyer transmit slot that has not started (R326). -/
structure SlotReq where
  loop : Nat
  launch : Nat
  frame : List Byte
  /-- the frame of a CAN slot: the template's identifier and flags with these bytes (R491) -/
  can : Option CanFrame
  deriving DecidableEq, Repr

/-- What a phase's command did before its compare value came into force (R323). -/
structure CmdEdge where
  /-- Whorl time of the load -/
  load : Nat
  /-- the command's level just before, and the time of its last edge -/
  was : Bool
  edge : Option Nat
  deriving DecidableEq, Repr

/-- A command that has been low since RESET. -/
def CmdEdge.reset : CmdEdge := ⟨0, false, none⟩

/-- The Flyer beyond its registers (chapter 10). -/
structure Flyer where
  loops : List (Nat × Loop)
  encs : List (Nat × Enc)
  /-- SSI frames in progress: Whorl time and reference time of their start -/
  ssi : List (Nat × (Nat × Nat))
  /-- conversions in progress: Whorl time and reference time of their sampling -/
  adc : List (Nat × (Nat × Nat))
  /-- last code of an ADC channel that was no fault -/
  good : List (Nat × Nat)
  /-- compare shadows, half-widths H by group and phase (R323) -/
  shadow : List (Nat × Nat)
  /-- compare values in force, likewise, and what stood before them -/
  compare : List (Nat × Nat)
  edges : List (Nat × CmdEdge)
  /-- reference time of the last clock edges that each sigma-delta input is known to have had -/
  sdAt : List (Nat × Nat)
  /-- the bits that each sigma-delta input took in the decimation period before the last and in the last, each bit at its
  place in time (R321) -/
  sdBits : List (Nat × (Nat × Nat))
  /-- requests by 4 × target + slot -/
  slots : List (Nat × SlotReq)
  deriving DecidableEq, Repr

/-- The Flyer after RESET. -/
def Flyer.reset : Flyer := ⟨[], [], [], [], [], [], [], [], [], [], []⟩

/-! ## Idward -/

/-- A transaction that a port has taken and the neighbour has not yet acknowledged whole (R430). -/
structure Held where
  vc : Nat
  /-- bytes of its VC up to its end -/
  upto : Nat
  tx : List Byte
  /-- the job that issued it, where it is a barrier message of this package's own -/
  job : Option Nat
  deriving DecidableEq, Repr

/-- A DATA flit that awaits its acknowledgement: SEQ, VC, and its body by the accounting row of each part (R428, R452). -/
structure Sent where
  seq : Nat
  vc : Nat
  parts : List (Nat × List Byte)
  deriving DecidableEq, Repr

/-- A port beyond its registers (R424 to R430, R444). -/
structure Port where
  /-- SEQ of the next DATA flit to send, and the one expected -/
  txSeq : Nat
  rxSeq : Nat
  /-- whether any DATA flit has been accepted, and whether one awaits its acknowledgement -/
  got : Bool
  ackDue : Bool
  /-- DATA flits not yet acknowledged, oldest first -/
  replay : List Sent
  /-- transaction bytes that wait for a flit: VC, accounting row and the bytes left -/
  out : List (Nat × (Nat × List Byte))
  /-- transactions not yet acknowledged whole, oldest first -/
  held : List Held
  /-- bytes of each VC that the neighbour has acknowledged -/
  done : List (Nat × Nat)
  /-- flits sent on each VC and not credited -/
  spent : List (Nat × Nat)
  /-- flits of each VC freed here whose credit has not been returned (R427) -/
  owed : List (Nat × Nat)
  /-- received flit bodies of each VC not yet consumed, oldest first -/
  rx : List (Nat × List Byte)
  /-- flits that have arrived since the port came UP, and codewords judged for FEC_UNCORR (R424) -/
  flits : Nat
  judged : Nat
  /-- a NAK has been sent for the flit now expected -/
  naked : Bool
  /-- replays in a row without progress -/
  fruitless : Nat
  /-- reference time of the last progress of ACK -/
  ackAt : Nat
  /-- parcel VCs whose front parcel waits for room (R449) -/
  blocked : List Nat
  /-- the flits sent since the port came UP, oldest first (R425) -/
  line : List (List Byte)
  /-- T_TX of the last SYNC received here and its arrival stamp -/
  peerTx : Nat
  peerRx : Nat
  /-- reference time of the last SYNC sent and of the last one received -/
  sentAt : Nat
  heardAt : Nat
  deriving DecidableEq, Repr

/-- A port that has just left DOWN. -/
def Port.reset : Port := ⟨0, 0, false, false, [], [], [], [], [], [], [], 0, 0, false, 0, 0, [], [], 0, 0, 0, 0⟩

/-- What a request to a window expects its reply for. -/
inductive Expect where
  /-- a row write of a MOVE -/
  | write (uid : Nat)
  /-- row `i` of a MOVE that reads -/
  | read (uid i : Nat)
  /-- a token signal of a relay entry of a job -/
  | relay (job : Nat)
  /-- a parcel or a return write of a dispatcher's batch -/
  | batch (id : Nat) (parcel : Bool)
  deriving DecidableEq, Repr

/-- A request in flight (R431). -/
structure Req where
  xid : Nat
  /-- the port it leaves by and the one by which its reply comes back; 6 for this package itself -/
  port : Nat
  back : Nat
  /-- its VC on the port it leaves by, and the bytes of that VC up to its last one -/
  vc : Nat
  upto : Nat
  issued : Nat
  expect : Expect
  deriving DecidableEq, Repr

/-- A batch of a dispatcher with requests in flight (R447). -/
structure DispBatch where
  id : Nat
  disp : Nat
  left : Nat
  deriving DecidableEq, Repr

/-- An inbox beyond its registers (R448, R449). -/
structure Inbox where
  tail : Nat
  /-- the next overflow entry to drain and the next one to fill -/
  ovfHead : Nat
  ovfTail : Nat
  /-- the tag row that the hub keeps; none kept before the first row lands (R448) -/
  tags : List Byte
  deriving DecidableEq, Repr

/-- An inbox after RESET. -/
def Inbox.reset : Inbox := ⟨0, 0, 0, []⟩

/-- The Idward block beyond its registers (chapter 14). -/
structure Iwl where
  ports : List (Nat × Port)
  /-- transactions of this package to itself -/
  loop : List (List Byte)
  reqs : List Req
  nextXid : Nat
  batches : List DispBatch
  nextBatch : Nat
  inboxes : List (Nat × Inbox)
  /-- this package's generation of each barrier -/
  gens : List (Nat × Nat)
  /-- as master: generation to be released next, and arrivals: barrier, generation, member -/
  due : List (Nat × Nat)
  arrivals : List (Nat × (Nat × Nat))
  /-- signals that relay tokens have passed to the hub: token and amount -/
  relays : List (Nat × Nat)
  /-- consecutive offsets within ±8 ticks -/
  steady : Nat
  /-- the headers of requests and parcels of other packages that have passed through and whose replies have not (R430) -/
  transit : List (List Byte)
  /-- the parcels for this package in the order in which they arrived whole, by source package and XID (R450) -/
  parcels : List (Nat × Nat)
  deriving DecidableEq, Repr

/-- The Idward block after RESET. -/
def Iwl.reset : Iwl := ⟨[], [], [], 0, [], 0, [], [], [], [], [], 0, [], []⟩

/-! ## Ethernet and network time -/

/-- A frame on a MAC's line. -/
structure EthSend where
  /-- the Flyer slot it came from; none for the ring -/
  slot : Option Nat
  /-- where its descriptor lies (R457) -/
  entry : Nat
  late : Bool
  stamp : Nat
  /-- reference time of its start, and the ticks it takes -/
  began : Nat
  ticks : Nat
  frame : List Byte
  deriving DecidableEq, Repr

/-- A MAC beyond its registers. -/
structure Mac where
  /-- the head descriptor, once read with OWN 1 -/
  head : Option (List Byte)
  sending : Option EthSend
  /-- requests already judged late that are sent all the same: slots 0 to 3, ring 4 -/
  late : List Nat
  deriving DecidableEq, Repr

/-- A MAC after RESET. -/
def Mac.reset : Mac := ⟨none, none, []⟩

/-- Network time beyond its registers (R470 to R476). -/
structure NetTime where
  /-- reference time at which each set's OFS was last written -/
  written : List (Nat × Nat)
  /-- stamps held by each TIME_IN pin, oldest first, with the edge (true falling) -/
  fifos : List (Nat × List (Nat × Bool))
  /-- pins whose head has been captured and not removed -/
  captured : List Nat
  /-- the filtered level of a pin, once an edge has shown it (R475) -/
  levels : List (Nat × Bool)
  deriving DecidableEq, Repr

/-! ## CAN -/

/-- An attempt on a CAN bus. -/
structure Attempt where
  /-- slot 0 to 3, 4 for the ring, or 5 for a frame whose request an enable has taken away -/
  src : Nat
  stamp : Nat
  /-- where its ring entry lies (R484) -/
  entry : Nat
  deriving DecidableEq, Repr

/-- A CAN controller beyond its registers. -/
structure CanCtl where
  attempt : Option Attempt
  /-- slot requests whose first attempt has begun -/
  held : List (Nat × SlotReq)
  /-- the last frame sent (R480) -/
  sent : Option CanFrame
  /-- Whorl time at which EN was written 0: a frame that was on the bus then still ends (R487) -/
  ending : Option Nat
  deriving DecidableEq, Repr

/-- A CAN controller after RESET. -/
def CanCtl.reset : CanCtl := ⟨none, [], none, none⟩

/-! ## The Selvedge -/

/-- A tile of a pair whose command has started and not completed (R529, R530). -/
structure Tile where
  uid : Nat
  /-- its identity: engine and ordinal -/
  engine : Nat
  ordinal : Nat
  /-- true for the main copy -/
  main : Bool
  /-- HEDDLE_CYCLE_COUNT at its start -/
  frame : Nat
  deriving DecidableEq, Repr

/-- A tile identity that the comparator has decided: engine, ordinal, frame, and whether equal. -/
structure Verdict where
  engine : Nat
  ordinal : Nat
  frame : Nat
  equal : Bool
  deriving DecidableEq, Repr

/-- A safety pair beyond its registers. -/
structure Pair where
  /-- tiles started so far on each engine of the main copy and of the checker -/
  mainCount : List (Nat × Nat)
  checkCount : List (Nat × Nat)
  /-- in the order in which they started -/
  tiles : List Tile
  decided : List Verdict
  /-- frames that hold tiles and have not ended -/
  frames : List Nat
  /-- mismatched frames whose tiles have not all completed -/
  bad : List Nat
  /-- the last mismatched frame and the agreeing frames since, at most 3 (R533) -/
  watch : Option (Nat × Nat)
  /-- reference time since which the debugger has had a core of either copy halted (R541) -/
  stopped : Option Nat
  deriving DecidableEq, Repr

/-- A pair after RESET. -/
def Pair.reset : Pair := ⟨[], [], [], [], [], [], none, none⟩

/-- A field-test slice that runs. -/
structure Slice where
  skein : Nat
  slice : Nat
  suspect : Bool
  began : Nat
  deriving DecidableEq, Repr

/-- The Selvedge beyond its registers (chapter 18). -/
structure Selv where
  suspects : List Nat
  /-- next slice of a skein's rotation, and of its suspect run -/
  next : List (Nat × Nat)
  suspectNext : List (Nat × Nat)
  running : Option Slice
  /-- Whorl time and reference time of the last complete coverage -/
  covered : List (Nat × Nat)
  coveredRef : List (Nat × Nat)
  /-- skeins warned in this interval (R540), and those faulted -/
  warned : List Nat
  faulted : List Nat
  defers : List (Nat × Nat)
  /-- reference times of parity failures by skein (R522) -/
  parity : List (Nat × List Nat)
  /-- reference times of replica slips -/
  slips : List Nat
  pairs : List (Nat × Pair)
  /-- the Selvedge runs (R515) -/
  on : Bool
  /-- SAFE was entered from BOOT (R519) -/
  fromBoot : Bool
  /-- what the debugger has halted: cores 2k + c, and 128 for the main Selvedge core (R541) -/
  halted : List Nat
  /-- instructions that the debugger has stepped, of the main Selvedge core and of the checker core -/
  stepped : Nat × Nat
  /-- what the debugger has last read of the main Selvedge core -/
  debugRead : Nat
  deriving DecidableEq, Repr

/-- The Selvedge after RESET. -/
def Selv.reset : Selv := ⟨[], [], [], none, [], [], [], [], [], [], [], [], false, false, [], (0, 0), 0⟩

/-! ## Security -/

/-- An alarm log entry: sensor, class and Whorl time (R571). -/
structure AlarmLog where
  sensor : Nat
  cls : Nat
  time : Nat
  /-- it was logged in SLEEP and has not taken effect yet (R572) -/
  asleep : Bool
  deriving DecidableEq, Repr

/-- A SEC command that runs: OP, and its status and value once its work is over. -/
structure SecCmd where
  op : Nat
  result : Option (Nat × Nat)
  deriving DecidableEq, Repr

/-- A journal append that waits (R566, R571): TYPE, OBJ_ID, payload, and whether the running command waits for it. -/
structure JnlAppend where
  type : Nat
  id : Nat
  payload : List Byte
  command : Bool
  deriving DecidableEq, Repr

/-- The last record that the flash was given to program: its address, its bytes and when that began (R565). -/
structure Programming where
  addr : Nat
  size : Nat
  since : Nat
  deriving DecidableEq, Repr

/-- The security enclave beyond its registers (chapter 20). -/
structure Sec where
  /-- the PUF region, the first 8 KiB of the ring buffer SRAM, as the enclave has read it at power-on (R549) -/
  puf : List Byte
  /-- key SRAM: journal key, identity seed, attestation seed, wrapping key and unwrapped keys -/
  journalKey : List Byte
  identity : List Byte
  attest : List Byte
  wrap : List Byte
  keys : List (Nat × List Byte)
  running : Option SecCmd
  /-- the journal has been replayed and its tail is known (step 4 of Table 20.4) -/
  replayed : Bool
  /-- the journal's tail in its area is torn -/
  torn : Bool
  /-- the last record given to the flash, until its command is done -/
  programming : Option Programming
  /-- appends that wait for a compaction -/
  waiting : List JnlAppend
  /-- the debug nonce not yet used -/
  nonce : Option Nat
  /-- failed unlocks since RESET -/
  failures : Nat
  /-- the running manifests, hub and Selvedge (R555) -/
  hubManifest : List Byte
  selvManifest : List Byte
  deriving DecidableEq, Repr

/-- The enclave after RESET. -/
def Sec.reset : Sec := ⟨[], [], [], [], [], [], none, false, false, none, [], none, 0, [], []⟩

/-- The always-on domain (R571, R590, R591): what survives RESET and SLEEP. -/
structure Aon where
  prev : DevState
  cause : Nat
  causeStatus : Nat
  fromAlarm : Bool
  pendingB : Bool
  pendingEpoch : Bool
  held : List AlarmLog
  /-- RESET_N is low -/
  resetLow : Bool
  /-- reference time at which the present RESET began, and whether it is internal -/
  resetAt : Nat
  internal : Bool
  /-- a SLEEP request has been accepted -/
  sleepReq : Bool
  /-- a wake under way: its source and the reference time of MAIN_EN high -/
  wake : Option (Nat × Nat)
  /-- POLICY of the last hub manifest that verified (R570) -/
  policy : List Nat
  /-- VDD_AON and VDDIO_AON are within their limits -/
  up : Bool
  /-- the last transition by a cause of R30's list: its reference time, its rank and the state before it -/
  decided : Option (Nat × Nat × DevState)
  deriving DecidableEq, Repr

/-- The always-on domain when VDD_AON has come up; the board holds RESET_N low (R589). -/
def Aon.reset : Aon := ⟨.off, 0, 0, false, false, false, [], true, 0, false, false, none, [], true, none⟩

/-! ## Power -/

/-- The PWR block beyond its registers (R581 to R587). -/
structure Pwr where
  /-- commanded VDD_CORE in mV and reference time of the last step -/
  commanded : Nat
  stepAt : Nat
  /-- setpoint changes wait for a Status read (R583) -/
  waiting : Bool
  /-- measured voltage and current of rails 0 and 1 -/
  rails : List (Nat × (Nat × Nat))
  /-- energy of rails 0 and 1 in this window, in nJ -/
  core : Nat
  sram : Nat
  /-- core energy in 2⁻¹⁶ mJ not yet in PWR_ENERGY, in nJ -/
  carry : Nat
  /-- the temperature that lowered the ceiling, and whether at the grade maximum -/
  hot : Option (Int × Bool)
  /-- samples in a row in which a rail was off by more than 20 mV -/
  off : List (Nat × Nat)
  /-- the count at the last window's end, and reference time of the last sample -/
  windowAt : Nat
  sampleAt : Nat
  /-- BOOT has read the voltage, and AVSBus traffic goes on (R580) -/
  ready : Bool
  deriving DecidableEq, Repr

/-- The PWR block after RESET: the regulator comes up at 750 mV (R580). -/
def Pwr.reset : Pwr := ⟨750, 0, false, [], 0, 0, 0, none, [], 0, 0, false⟩

/-! ## The Heddle -/

/-- A slot of a Heddle table (Table 13.1). -/
structure Slot where
  start : Nat
  duration : Nat
  cls : Nat
  golden : Bool
  ply : Nat
  skeins : Nat
  deriving DecidableEq, Repr

/-- A Heddle table. -/
structure Table where
  cycle : Nat
  slots : List Slot
  deriving DecidableEq, Repr

/-- The Heddle's own state beyond its registers. -/
structure Heddle where
  active : Option Table
  pending : Option Table
  /-- slots of the active table that are open -/
  openSlots : List Nat
  /-- a host request RUN waits for its boundary, and the count at the request (R395) -/
  runReq : Bool
  runAt : Nat
  /-- the count at which ARM was written (R394) -/
  armAt : Nat
  /-- a host request STANDBY waits for the queues to empty (R29) -/
  standbyReq : Bool
  /-- job whose command last started on an engine (R401) -/
  lastJob : List (Nat × Nat)
  /-- slots that have begun their quiesce window (R402) -/
  quiesced : List Nat
  /-- skeins whose golden run is in progress, with the reference time of its start -/
  golden : List (Nat × Nat)
  /-- golden runs missed in a row (R397) -/
  missed : List (Nat × Nat)
  /-- Whorl time at which the drain began -/
  drainStart : Nat
  /-- tokens wait for their in-flight signals (R417) -/
  tokenReset : Bool
  /-- a job fault of this step that the abort has not acted on yet: status, job, source (R417, R418) -/
  fault : Option (Nat × Nat × Nat)
  /-- reference time at which the abort began -/
  abortAt : Nat
  /-- the commands whose waits could have registered in the beat in which the last abort began (R418) -/
  cutWaits : List Nat
  /-- saved cores, by save record (R411) -/
  saved : List (Nat × Core)
  /-- beats that each engine has completed, by its number: the count that it exports (R35) -/
  beats : List (Nat × Nat)
  /-- beats of work in progress that the count of its loom holds already, by work (R35) -/
  sampled : List (Nat × Nat)
  /-- the counts at the start of this interval of the beat monitor, the looms whose work in progress then had beats that their
  count does not hold, and the number of the interval (R61) -/
  beatBase : List (Nat × Nat)
  unsampled : List Nat
  beatAt : Nat
  /-- beats charged in the accounting interval, by client row and kind (R421) -/
  interval : List (Nat × Nat)
  /-- the count at the last accounting interval's end, and PWR_ENERGY then (R421) -/
  intervalAt : Nat
  energyAt : Nat
  deriving DecidableEq, Repr

/-! ## The time base -/

/-- The Whorl block beyond its registers (R39 to R49). -/
structure Whorl where
  /-- the count, in ticks of 250 ps -/
  count : Dword
  /-- ticks of the hold in progress (R45) -/
  hold : Nat
  /-- fraction of a tick carried by WHORL_RATE_ADJ, in 2⁻¹⁶ ppb of a tick (R41) -/
  fraction : Nat
  /-- the WHORL_RATE_ADJ in force in this reference period -/
  rate : Word
  /-- REFCLK_WH is valid -/
  refValid : Bool
  /-- replicas that wait for a good frame (R49) -/
  unsynced : List Nat
  /-- reference time at which holdover began, and whether REF_HOLD has been reported since (R536) -/
  lostAt : Nat
  expired : Bool
  deriving DecidableEq, Repr

/-! ## Rings -/

/-- The ring engine beyond its registers (chapter 12). -/
structure Rings where
  /-- records waiting to be written, oldest first -/
  records : List Record
  /-- per completion ring: records since the last message and the first one's reference time -/
  coal : List (Nat × (Nat × Nat))
  /-- the client whose turn it is and the descriptors of this turn (R371) -/
  turnClient : Nat
  turnCount : Nat
  /-- per client, the ring that it last fetched from -/
  turnRing : List (Nat × Nat)
  /-- functions enabled through SR-IOV (R360), bit c for client c; after reset the physical function alone -/
  functions : Nat
  /-- MSI-X messages sent: client and vector, oldest first -/
  messages : List (Nat × Nat)
  /-- functions in reset, with the reference time of their reset (R388) -/
  resets : List (Nat × Nat)
  deriving DecidableEq, Repr

/-! ## The whole state -/

/-- Why a command could not be carried out at all.  No command of this part stops: every row of the
table has an effect the spec gives, so no meaning raises a fault. -/
inductive Fault where
  /-- Raised by no meaning: the spec gives no operation that stops the part. -/
  | none
  deriving DecidableEq, Repr

/-- Why the model refuses a command. -/
inductive Refusal where
  /-- The command has no meaning in the model yet (safe: the model stops where the part goes on). -/
  | notModelled (mnemonic : String)
  deriving DecidableEq, Repr

/-- The state of the package. -/
structure State where
  /-- commands that wait, first in first out -/
  pending : List Instr
  /-- reference time: ticks of 250 ps since the model began -/
  refTime : Nat
  dev : DevState
  /-- the time base -/
  whorl : Whorl
  /-- register fields that do not hold their reset value -/
  regs : List (Nat × Nat)
  /-- read shadows of 64-bit registers (R7), by address -/
  shadows : List (Nat × Nat)
  /-- write staging of 64-bit registers (R7), by address -/
  staging : List (Nat × Nat)
  /-- the value the host's last read returned -/
  hostRead : Nat
  /-- every byte store of the package and of the host -/
  mem : List Host.Cell
  /-- commands between admission and completion, in admission order -/
  cmds : List Cmd
  nextUid : Nat
  /-- uses of free values so far -/
  freeCount : Nat
  tokens : List (Nat × Token)
  /-- token signals in flight: token and amount, oldest first -/
  signals : List (Nat × Nat)
  cores : List (Nat × Core)
  residents : List (Nat × List Resident)
  windows : List (Nat × Window)
  apertures : List (Nat × Aperture)
  /-- the counting period of dropped accesses, by skein (R129) -/
  winAlarm : List (Nat × WinAlarm)
  /-- bobbin bytes whose stored parity bit is wrong, by `(k * 12288 + r) * 512 + byte` of the physical row (R106) -/
  badParity : List Nat
  /-- rows whose next read meets a fault on the read path, by `k * 12288 + r` of the physical row (R106) -/
  pathFaults : List Nat
  /-- the accumulators of the stores of looms, by `16384 * (2 * k + store) + 128 * row + column` (R137); an unlisted one
  is 0 -/
  stores : List (Nat × BitVec 80)
  /-- the words that the tile banks of ply engines hold, by `2 * h + bank`, by place (R259) -/
  tiles : List (Nat × List (Nat × BitVec 32))
  kv : Kv
  caps : List (Nat × CapStream)
  datasets : List (Nat × DsStream)
  flyer : Flyer
  iwl : Iwl
  macs : List (Nat × Mac)
  net : NetTime
  cans : List (Nat × CanCtl)
  selv : Selv
  sec : Sec
  aon : Aon
  pwr : Pwr
  heddle : Heddle
  rings : Rings
  deriving DecidableEq, Repr

/-- The time base on leaving RESET. -/
def Whorl.reset : Whorl := ⟨0, 0, 0, 0, true, [], 0, false⟩

/-- The ring engine on leaving RESET: every function is enabled, which the host does through the configuration space
that the commands of the model do not reach (R360). -/
def Rings.reset : Rings := ⟨[], [], 0, 0, [], 1, [], []⟩

/-- The Heddle on leaving RESET. -/
def Heddle.reset : Heddle :=
  ⟨none, none, [], false, 0, 0, false, [], [], [], [], 0, false, none, 0, [], [], [], [], [], [], 0, [], 0, 0⟩

/-- The package in device state RESET: every register at its reset value, nothing in any queue, memory as
`Mem.default` gives it. -/
def State.reset : State where
  pending := []
  refTime := 0
  dev := .reset
  whorl := Whorl.reset
  regs := []
  shadows := []
  staging := []
  hostRead := 0
  mem := []
  cmds := []
  nextUid := 0
  freeCount := 0
  tokens := []
  signals := []
  cores := []
  residents := []
  windows := []
  apertures := []
  winAlarm := []
  badParity := []
  pathFaults := []
  stores := []
  tiles := []
  kv := ⟨[], [], [], []⟩
  caps := []
  datasets := []
  flyer := Flyer.reset
  iwl := Iwl.reset
  macs := []
  net := ⟨[], [], [], []⟩
  cans := []
  selv := Selv.reset
  sec := Sec.reset
  aon := Aon.reset
  pwr := Pwr.reset
  heddle := Heddle.reset
  rings := Rings.reset

end Sys2Proof.Machine
end

