-- ==== Sys2Proof/Machine/Ops.lean ====
section
/-! DEFINITION. The named operations over registers, flags, memory and interrupts that every meaning
uses. -/

namespace Sys2Proof.Machine

/-! ## Register fields -/

/-- The value of a field of the i-th register of its group, of the field's width whatever is stored. -/
def State.get (s : State) (f : Field) (i : Nat) : Nat := Sparse.get f.reset s.regs (f.key i) % 2 ^ f.width

/-- Gives a field a value, whatever its access code: what the hardware does. -/
def State.set (s : State) (f : Field) (i v : Nat) : State :=
  { s with regs := Sparse.put f.reset s.regs (f.key i) (v % 2 ^ f.width) }

/-- Whether a one-bit field is 1. -/
def State.isSet (s : State) (f : Field) (i : Nat) : Bool := s.get f i != 0

/-- Gives a one-bit field a truth value. -/
def State.setBit (s : State) (f : Field) (i : Nat) (b : Bool) : State := s.set f i (if b then 1 else 0)

/-- Adds to a counter, which saturates at all ones (R13). -/
def State.count (s : State) (f : Field) (i n : Nat) : State :=
  s.set f i (min (s.get f i + n) (2 ^ f.width - 1))

/-- Adds to a counter that wraps (Table 13.7). -/
def State.accum (s : State) (f : Field) (i n : Nat) : State := s.set f i (s.get f i + n)

/-- A signed reading of a field. -/
def State.getInt (s : State) (f : Field) (i : Nat) : Int :=
  if s.get f i < 2 ^ (f.width - 1) then (s.get f i : Int) else (s.get f i : Int) - 2 ^ f.width

/-! ## Time -/

/-- The Whorl count. -/
def State.now (s : State) : Nat := s.whorl.count.toNat

/-- Whether the replica of the hub's blocks is synchronised: their launch decisions wait otherwise (R49). -/
def State.hubSynced (s : State) : Bool := !s.whorl.unsynced.contains 72

/-! ## Memory -/

/-- Where an LPDDR byte lies in the model's one memory. -/
def Mem.lpddr (a : Nat) : Nat := a
/-- Where a byte of host memory lies. -/
def Mem.host (a : Nat) : Nat := 2 ^ 64 + a
/-- Where a bobbin row of a skein begins. -/
def Mem.row (k r : Nat) : Nat := 2 ^ 65 + k * 2 ^ 23 + r * 512
/-- Where the data memory of a core begins. -/
def Mem.dmem (k c : Nat) : Nat := 2 ^ 66 + (2 * k + c) * 65536
/-- Where the instruction memory of a core begins. -/
def Mem.imem (k c : Nat) : Nat := 2 ^ 67 + (2 * k + c) * 65536
/-- Where a stream context begins (R221). -/
def Mem.context (stream : Nat) : Nat := 2 ^ 68 + stream * 256
/-- Where a KV staging slot begins. -/
def Mem.staging (slot : Nat) : Nat := 2 ^ 69 + slot * 65536
/-- Where entry e of the range table of ply engine h begins (R267). -/
def Mem.range (h e : Nat) : Nat := 2 ^ 71 + h * 1024 + e * 16
/-- Where a byte of the memory of a Selvedge core lies: core 0 is the main one, core 1 the checker (R515). -/
def Mem.selvedge (core a : Nat) : Nat := 2 ^ 72 + core * 2 ^ 19 + a
/-- Where a byte of the xSPI flash lies. -/
def Mem.flash (a : Nat) : Nat := 2 ^ 70 + a

/-- What a byte reads that nothing has written.  Bobbin rows read 0 after BOOT (R105), contexts as R223 says, and
flash as blank (R564); for every other memory the spec gives no value and the model takes 0. -/
def Mem.default (a : Nat) : Byte :=
  if (2 ^ 68 ≤ a ∧ a < 2 ^ 68 + 65536 * 256 ∧ (a % 256 = 22 ∨ a % 256 = 23)) ∨ (2 ^ 70 ≤ a ∧ a < 2 ^ 71) then 0xFF
  else 0

/-- One byte. -/
def Mem.read (m : List Host.Cell) (a : Nat) : Byte := Sparse.get (Mem.default a) m a

/-- The pairs of a run of bytes from an address, those that read as their default left out. -/
def Mem.cells : Nat → List Byte → List Host.Cell
  | _, [] => []
  | a, b :: rest => if b = Mem.default a then Mem.cells (a + 1) rest else (a, b) :: Mem.cells (a + 1) rest

/-- Replaces a run of bytes. -/
def Mem.write (m : List Host.Cell) (a : Nat) (bs : List Byte) : List Host.Cell :=
  Sparse.below m a ++ (Mem.cells a bs ++ Sparse.above m (a + bs.length))

/-- Gives a run of bytes back what unwritten bytes read as. -/
def Mem.clear (m : List Host.Cell) (a n : Nat) : List Host.Cell := Sparse.below m a ++ Sparse.above m (a + n)

/-- No listed byte reads as its default. -/
def Mem.noDefault (m : List Host.Cell) : Bool := m.all (fun p => decide (p.2 ≠ Mem.default p.1))

/-- The canonical form of memory: addresses rise strictly and no entry equals its default. -/
def Memory.wf (m : List Host.Cell) : Bool := Sparse.sorted m && Mem.noDefault m

/-- A run of bytes. -/
def Mem.bytes (m : List Host.Cell) (a : Nat) : Nat → List Byte
  | 0 => []
  | n + 1 => Mem.read m a :: Mem.bytes m (a + 1) n

/-- The number that little-endian bytes spell (R2). -/
def leNat : List Byte → Nat
  | [] => 0
  | b :: rest => b.toNat + 256 * leNat rest

/-- The n little-endian bytes of a number (R2). -/
def leBytes : Nat → Nat → List Byte
  | 0, _ => []
  | n + 1, v => BitVec.ofNat 8 v :: leBytes n (v / 256)

/-- Reads `n` bytes. -/
def State.load (s : State) (a n : Nat) : List Byte := Mem.bytes s.mem a n

/-- Reads a little-endian number of `n` bytes. -/
def State.loadNat (s : State) (a n : Nat) : Nat := leNat (s.load a n)

/-- Writes bytes. -/
def State.store (s : State) (a : Nat) (bs : List Byte) : State := { s with mem := Mem.write s.mem a bs }

/-- Writes a little-endian number of `n` bytes. -/
def State.storeNat (s : State) (a n v : Nat) : State := s.store a (leBytes n v)

/-- The little-endian number in bytes `a` to `a + n - 1` of a byte list. -/
def fieldOf (bs : List Byte) (a n : Nat) : Nat := leNat ((bs.drop a).take n)

/-- `n` bytes of a list from place `a`, missing ones 0. -/
def sliceOf (bs : List Byte) (a n : Nat) : List Byte :=
  let t := (bs.drop a).take n
  t ++ List.replicate (n - t.length) 0

/-- A two's-complement reading of `w` bits. -/
def signed (w v : Nat) : Int := if v % 2 ^ w < 2 ^ (w - 1) then (v % 2 ^ w : Nat) else ((v % 2 ^ w : Nat) : Int) - 2 ^ w

/-- The `w` bits of a number in two's complement. -/
def unsigned (w : Nat) (v : Int) : Nat := (v % (2 ^ w : Int)).toNat

/-- `x / y` rounded up. -/
def ceilDiv (x y : Nat) : Nat := (x + y - 1) / y

/-- n / d rounded to nearest even. -/
def divEven (n d : Nat) : Nat :=
  let q := n / d
  let r := n % d
  if 2 * r > d then q + 1 else if 2 * r = d then (if q % 2 = 1 then q + 1 else q) else q

/-- Applies a step for each element of a list. -/
def State.forEach {α : Type} (s : State) : List α → (State → α → State) → State
  | [], _ => s
  | a :: rest, f => (f s a).forEach rest f

/-! ## Interrupts and events -/

/-- Whether the host link can be up (Table 1.7). -/
def State.linked (s : State) : Bool :=
  match s.dev with
  | .off | .reset | .sleep | .alarm => false
  | _ => true

/-- Sends a client's MSI-X vector: the message is a write of its data to its address in host memory;
a masked vector sets its pending bit instead (R381).  Without a link there is no message. -/
def State.sendVector (s : State) (client vector : Nat) : State :=
  if !s.linked then s
  else if s.isSet Fld.MSIX_CTRL_MASK (ix client vector) then
    s.set Fld.MSIX_PBA_PENDING client (s.get Fld.MSIX_PBA_PENDING client ||| 2 ^ vector)
  else
    let a := s.get Fld.MSIX_ADDR_LO_ADDR (ix client vector) +
      2 ^ 32 * s.get Fld.MSIX_ADDR_HI_ADDR (ix client vector)
    let t := s.storeNat (Mem.host (a / 4 * 4)) 4 (s.get Fld.MSIX_DATA_DATA (ix client vector))
    { t with rings := { t.rings with messages := t.rings.messages ++ [(client, vector)] } }

/-- Raises an event source: its entry of RING_EVSRC names the vector (R382). -/
def State.raiseSource (s : State) (source : Nat) : State :=
  if s.isSet Fld.RING_EVSRC_EN source then
    s.sendVector (s.get Fld.RING_EVSRC_CLIENT source) (s.get Fld.RING_EVSRC_VECTOR source)
  else s

/-- Raises an event source once for each of `n` sets of its flag (R382). -/
def State.raiseSources (s : State) (source : Nat) : Nat → State
  | 0 => s
  | n + 1 => (s.raiseSource source).raiseSources source n

/-- `n` hardware sets of a flag: the flag reads 1, its counter counts each set (R11, R13) and each raises its event
source (R382). -/
def State.raiseN (s : State) (f : Flag) (i n : Nat) : State :=
  if n = 0 then s else
  let t := (s.set f.fld i 1).count f.cnt (f.cntIx i) n
  match f.source with
  | some b => t.raiseSources (b + i) n
  | none => t

/-- One hardware set of a flag. -/
def State.raise (s : State) (f : Flag) (i : Nat) : State := s.raiseN f i 1

/-- Does a step only when a condition holds. -/
def State.doIf (s : State) (c : Bool) (f : State → State) : State := if c then f s else s

/-! ## Who answers the host -/

/-- Whether the boot ROM serves a RECOVERY (R559). -/
def State.romService (s : State) : Bool := s.isSet Fld.SEC_STATUS_ROM_SERVICE 0

/-- Whether every block answers the host (Table 1.7): STANDBY, RUN, SAFE, and a RECOVERY served by hub firmware. -/
def State.setUp (s : State) : Bool :=
  match s.dev with
  | .standby | .run | .safe => true
  | .recovery => !s.romService
  | _ => false

/-- What a host access does: nothing while the block does not answer. -/
def State.host (s : State) (f : State → State) : State := if s.setUp then f s else s

/-! ## Commands -/

/-- The command of a number. -/
def State.cmd? (s : State) (uid : Nat) : Option Cmd := s.cmds.find? (fun c => c.uid == uid)

/-- Changes the command of a number. -/
def State.modCmd (s : State) (uid : Nat) (f : Cmd → Cmd) : State :=
  { s with cmds := s.cmds.map (fun c => if c.uid = uid then f c else c) }

/-- Takes the command of a number out. -/
def State.dropCmd (s : State) (uid : Nat) : State :=
  { s with cmds := s.cmds.filter (fun c => c.uid != uid) }

/-- A number from bytes `a` to `a + n - 1` of a command's descriptor. -/
def Cmd.field (c : Cmd) (a n : Nat) : Nat := fieldOf c.desc a n

/-- OPCODE of a command (Table 12.3). -/
def Cmd.opcode (c : Cmd) : Nat := c.field 0 1
/-- FLAGS of a command. -/
def Cmd.flags (c : Cmd) : Nat := c.field 1 1
/-- STREAM of a command. -/
def Cmd.stream (c : Cmd) : Nat := c.field 4 2
/-- WAIT_TOKEN of a command. -/
def Cmd.waitToken (c : Cmd) : Nat := c.field 6 2
/-- SIGNAL_TOKEN of a command. -/
def Cmd.signalToken (c : Cmd) : Nat := c.field 8 2

/-- Whether a status is a job fault (Table 12.7, R543). -/
def faultStatus (v : Nat) : Bool :=
  [0x0201, 0x0203, 0x0204, 0x0501, 0x0502, 0x0604, 0x0605].contains v

/-- Statuses after which a command does not signal its token: job faults and JOB_ABORTED_PACKAGE (R89). -/
def mutedStatus (v : Nat) : Bool := faultStatus v || v == 0x0901

/-- A command whose work ends now, with what R507 captures. -/
def State.ending (s : State) (c : Cmd) (status result : Nat) : Cmd :=
  { c with
    phase := .ended, status := status, result := result, since := s.refTime
    capture := (s.now, s.get Fld.HEDDLE_DETJ_NDC_COUNT c.job, s.get Fld.HEDDLE_DETJ_STATUS_TIMING_STATUS c.job) }

/-- Ends a command's work with a status and a short result; COMMAND_COMPLETE reports it. -/
def State.finish (s : State) (uid status result : Nat) : State := s.modCmd uid (fun c => s.ending c status result)

/-! ## Determinism -/

/-- Whether a job runs in fixed-twist mode (R497). -/
def State.fixedTwist (s : State) (job : Nat) : Bool := s.isSet Fld.HEDDLE_DETJ_CFG_TWIST job

/-- Adds 1 to a job's nondeterminism counter (R499). -/
def State.ndc (s : State) (job : Nat) : State :=
  if s.get Fld.HEDDLE_DETJ_NDC_COUNT job = 2 ^ 64 - 1 then s
  else
    let t := s.count Fld.HEDDLE_DETJ_NDC_COUNT job 1
    if t.get Fld.HEDDLE_DETJ_NDC_COUNT job = 2 ^ 64 - 1 then t.raise Flg.HEDDLE_DET_EVT_NDC_SAT 0 else t

end Sys2Proof.Machine
end

