-- ==== Sys2Proof/Machine/Bobbin.lean ====
section
/-! DEFINITION. Bobbin rows (chapter 04): the physical place of a row (R528), job regions (R110, R111),
whole-row accesses with parity (R106, R113), footprints and row races (R114 to R118). -/

namespace Sys2Proof.Machine

/-! ## Regions -/

/-- Whether region n of skein k is valid and covers a row (R110). -/
def State.regionHas (s : State) (k row n : Nat) : Bool :=
  s.isSet Fld.SKEIN_BOB_REGION_VALID (ix k n) &&
    decide (s.get Fld.SKEIN_BOB_REGION_FIRST (ix k n) ≤ row) &&
    decide (row ≤ s.get Fld.SKEIN_BOB_REGION_LAST (ix k n))

/-- The job that owns a row under R110. -/
def State.rowOwner (s : State) (k row : Nat) : Option Nat :=
  match (List.range 8).find? (s.regionHas k row) with
  | some n => some (s.get Fld.SKEIN_BOB_REGION_JOB (ix k n))
  | none => none

/-- Whether the job's regions cover rows `row` to `last`, looking at most `fuel` regions ahead. -/
def State.coversFrom (s : State) (k job last : Nat) : Nat → Nat → Bool
  | 0, _ => false
  | fuel + 1, row =>
    if last < row then true else
    match (List.range 8).find?
        (fun n => s.regionHas k row n && s.get Fld.SKEIN_BOB_REGION_JOB (ix k n) == job) with
    | some n => s.coversFrom k job last fuel (s.get Fld.SKEIN_BOB_REGION_LAST (ix k n) + 1)
    | none => false

/-- Whether every row of a range lies in the job's regions (R111). -/
def State.covers (s : State) (job : Nat) (r : RowRange) : Bool :=
  decide (r.last < Config.rows) && s.coversFrom r.skein job r.last 9 r.first

/-- Whether every row of a command's footprints lies in its job's regions (R111). -/
def State.inRegions (s : State) (job : Nat) (rs : List RowRange) : Bool := rs.all (s.covers job)

/-- The pair whose CHECK_JOB is the job (R527). -/
def State.checkPair (s : State) (job : Nat) : Option Nat :=
  (List.range 4).find? (fun p => s.isSet Fld.SELV_PAIR_CFG_VALID p &&
    s.get Fld.SELV_PAIR_CFG_CHECK_JOB p == job)

/-- The physical row of a logical row: a row that CHECK_JOB of a pair owns is mirrored (R528). -/
def State.physRow (s : State) (k row : Nat) : Nat :=
  match s.rowOwner k row with
  | some j => match s.checkPair j with
    | some _ => Config.rows - 1 - row
    | none => row
  | none => row

/-- Where a logical row of a skein lies in memory. -/
def State.rowAddr (s : State) (k row : Nat) : Nat := Mem.row k (s.physRow k row)

/-- The 512 bytes of a row. -/
def State.readRow (s : State) (k row : Nat) : List Byte := s.load (s.rowAddr k row) Config.rowBytes

/-- The byte at a byte offset of a skein's bobbin, in logical rows. -/
def State.bobByte (s : State) (k off : Nat) : Byte :=
  Mem.read s.mem (s.rowAddr k (off / Config.rowBytes) + off % Config.rowBytes)

/-- A little-endian number of `n` bytes at a byte offset of a skein's bobbin. -/
def State.bobNat (s : State) (k : Nat) : Nat → Nat → Nat
  | _, 0 => 0
  | off, n + 1 => (s.bobByte k off).toNat + 256 * s.bobNat k (off + 1) n

/-- Writes one byte at a byte offset of a skein's bobbin: a step of forming a row, never an access. -/
def State.bobPut (s : State) (k off : Nat) (b : Byte) : State :=
  s.store (s.rowAddr k (off / Config.rowBytes) + off % Config.rowBytes) [b]

/-- The number of a logical row's physical row among the rows of all bobbins. -/
def State.rowPlace (s : State) (k row : Nat) : Nat := k * Config.rows + s.physRow k row

/-- Whether a read of a row fails its parity check now: a stored bit is wrong, or the read meets a fault on the read
path (R106). -/
def State.parityBad (s : State) (k row : Nat) : Bool :=
  s.badParity.any (fun x => x / Config.rowBytes == s.rowPlace k row) || s.pathFaults.contains (s.rowPlace k row)

/-- A read of a row has met the fault on its read path, if there was one: only that read fails (R106). -/
def State.pathMet (s : State) (k row : Nat) : State :=
  { s with pathFaults := s.pathFaults.filter (fun x => x != s.rowPlace k row) }

/-- The parity bits of a physical row are written (R106). -/
def State.parityWritten (s : State) (place : Nat) : State :=
  { s with badParity := s.badParity.filter (fun x => x / Config.rowBytes != place) }

/-- Writes a whole row with its parity (R106, R113). -/
def State.writeRow (s : State) (k row : Nat) (bs : List Byte) : State :=
  (s.store (s.rowAddr k row) (sliceOf bs 0 Config.rowBytes)).parityWritten (s.rowPlace k row)

/-! ## Beats (R35, R420) -/

/-- The job ID that an engine's beats are charged to, by accounting row: the client that owns the job, or
the package row (R420). -/
def State.accountRow (s : State) (c : Cmd) : Nat :=
  match c.origin with
  | .firmware => 16
  | _ => s.get Fld.RING_JOB_CLIENT c.job

/-- Charges beats of an engine kind (R420): 0 loom, 1 vector, 2 drafter, 3 spindle, 4 ply, 5 hub. -/
def State.chargeBeats (s : State) (row kind beats : Nat) : State :=
  let f := match kind with
    | 0 => Fld.HEDDLE_ACCT_BEATS_LOOM_COUNT
    | 1 => Fld.HEDDLE_ACCT_BEATS_VEC_COUNT
    | 2 => Fld.HEDDLE_ACCT_BEATS_DRAFT_COUNT
    | 3 => Fld.HEDDLE_ACCT_BEATS_SPINDLE_COUNT
    | 4 => Fld.HEDDLE_ACCT_BEATS_PLY_COUNT
    | _ => Fld.HEDDLE_ACCT_BEATS_HUB_COUNT
  let t := s.accum f row beats
  { t with heddle := { t.heddle with
      interval := Sparse.put 0 t.heddle.interval (ix row kind)
        (Sparse.get 0 t.heddle.interval (ix row kind) + beats) } }

/-- The kind of beats that an engine spends. -/
def Engine.kind : Engine → Nat
  | .loom _ => 0 | .vec _ => 1 | .drafter _ _ => 2 | .prog _ _ => 3 | .ply _ => 4 | _ => 5

/-- The number of an engine. -/
def Engine.number : Engine → Nat
  | .loom k => k
  | .vec k => 64 + k
  | .drafter k d => 128 + 2 * k + d
  | .prog k c => 256 + 2 * k + c
  | .ply h => 384 + h
  | .kv => 392
  | .ring => 393
  | .digest => 394

/-- A unit, by its number, completes beats and counts them (R35). -/
def State.countBeats (s : State) (unit beats : Nat) : State :=
  { s with heddle := { s.heddle with beats := Sparse.put 0 s.heddle.beats unit (Sparse.get 0 s.heddle.beats unit + beats) } }

/-- The work of a loom that a sample of its count names (R35): a command, or the golden run or the slice on a skein. -/
def workOf (e : Engine) : Option Cmd → Nat
  | some c => 2 * c.uid
  | none => 2 * e.number + 1

/-- Work of an engine is over: the beats of it that the engine's count does not hold yet join the count (R35), and all of them
are charged to an accounting row (R420). -/
def State.spend (s : State) (e : Engine) (work : Option Cmd) (row beats : Nat) : State :=
  let had := Sparse.get 0 s.heddle.sampled (workOf e work)
  let t := (s.chargeBeats row e.kind beats).countBeats e.number (beats - had)
  { t with heddle := { t.heddle with sampled := Sparse.put 0 t.heddle.sampled (workOf e work) 0 } }

/-- Charges the beats of a command to the engine it ran on; those of a loom or ply engine also go to its BUSY_BEATS
(Tables 5.10 and 9.12). -/
def State.chargeCmd (s : State) (c : Cmd) (beats : Nat) : State :=
  let t := s.spend c.engine (some c) (s.accountRow c) beats
  match c.engine with
  | .loom k => t.accum Fld.SKEIN_LOOM_BUSY_BEATS_BEATS k beats
  | .ply h => t.accum Fld.PLY_BUSY_BEATS_BEATS h beats
  | _ => t

/-- A command that is stopped before its end has spent beats, no more than the ticks since its start: how many is free.
Those of a program and of the ring engine are charged as they are spent. -/
def State.chargeCut (s : State) (c : Cmd) : State :=
  match c.engine with
  | .prog _ _ | .ring => s
  | _ => ({ s with freeCount := s.freeCount + 1 }).chargeCmd c
      ((Config.freeWord s.freeCount).toNat % (s.refTime - c.since + 1))

/-- A fault stops a running or yielded command before its end: it completes with the status, and what it leaves is settled
when it completes (R159, R178).  A command whose work is over only takes the status. -/
def State.cutShort (s : State) (c : Cmd) (status : Nat) : State :=
  if c.phase = .ended then s.finish c.uid status 0
  else ((s.chargeCut c).finish c.uid status 0).modCmd c.uid (fun d => { d with cut := true })

/-! ## Row races -/

/-- The skein whose bobbin an engine works on. -/
def Engine.skein : Engine → Nat
  | .loom k | .vec k | .drafter k _ | .prog k _ => k
  | .ply h => 8 * h
  | _ => 0

/-- The source codes of R114. -/
def Engine.source : Engine → Nat
  | .loom _ => 0
  | .vec _ => 1
  | .drafter _ d => 2 + d
  | .prog _ c => 4 + c
  | _ => 6

/-- Whether a thief runs the command (R406). -/
def Cmd.stolen (c : Cmd) : Bool := !c.routed && decide (c.engine ≠ c.home)

/-- Whether a row lies in one of the ranges. -/
def rowIn (rs : List RowRange) (k row : Nat) : Bool :=
  rs.any (fun r => r.skein == k && decide (r.first ≤ row) && decide (row ≤ r.last))

/-- Whether a command is in progress: from its start until it signals or completes (R114, R176). -/
def Cmd.inProgress (c : Cmd) : Bool :=
  match c.phase with
  | .admitted | .queued => false
  | _ => true

/-- A footprint of a command in progress: the source of its accesses, its rows read and its rows written (R114). -/
structure Print where
  src : Nat
  reads : List RowRange
  writes : List RowRange
  deriving DecidableEq, Repr

/-- Whether a command that a thief has run has ended without a fault: its write extent is copied back (R406). -/
def Cmd.copies (c : Cmd) : Bool :=
  c.stolen && decide (c.phase = .ended) && !mutedStatus c.status

/-- Ranges with the same rows on another skein. -/
def onSkein (k : Nat) (rs : List RowRange) : List RowRange := rs.map (fun r => { r with skein := k })

/-- The footprints of a command: its own, and those of the hub row write sequence that copies its write extent back
(R114, R406). -/
def Cmd.prints (c : Cmd) : List Print :=
  ⟨c.engine.source, c.reads, c.writes⟩ ::
    (if c.copies then
      match c.home with
      | .loom v | .vec v | .drafter v _ => [⟨6, c.writes, onSkein v c.writes⟩]
      | _ => []
    else [])

/-- Whether an access of a source meets a footprint that conflicts with it (R115).  What reaches a bobbin through port X
comes from units of its own, so that two commands of code 6 are two sources (R260, R289). -/
def Print.meets (p : Print) (k row : Nat) (write : Bool) (src : Nat) : Bool :=
  (p.src != src || src == 6) && (rowIn p.writes k row || (write && rowIn p.reads k row))

/-- The command in progress that an access of another source meets, if any, and the source of its footprint (R115). -/
def State.raceWith (s : State) (k row : Nat) (write : Bool) (src : Nat) (uid : Option Nat) : Option (Cmd × Nat) :=
  (s.cmds.filter (fun c => c.inProgress && decide (some c.uid ≠ uid))).findSome? (fun c =>
    (c.prints.find? (fun p => p.meets k row write src)).map (fun p => (c, p.src)))

/-- The job that a race is charged to (R115). -/
def State.raceJob (s : State) (k row : Nat) (met : Cmd) : Nat := (s.rowOwner k row).getD met.job

/-- Fills SKEIN_BOB_RACE_CAP with the first race since ROW_RACE was last 0 (R118), then counts the race
(R116). -/
def State.noteRace (s : State) (k row src : Nat) (met : Cmd) (first : Nat) : State :=
  let job := s.raceJob k row met
  let cap (t : State) : State :=
    ((((t.set Fld.SKEIN_BOB_RACE_CAP_JOB k job).set Fld.SKEIN_BOB_RACE_CAP_SECOND_SRC k src).set
      Fld.SKEIN_BOB_RACE_CAP_FIRST_SRC k first).set Fld.SKEIN_BOB_RACE_CAP_ROW k row)
  ((s.doIf (!s.isSet Fld.SKEIN_BOB_EVT_ROW_RACE k) cap).raise Flg.SKEIN_BOB_EVT_ROW_RACE k).ndc job

/-- One row access: detects a race (R115), counts it (R116), and says whether the detecting command must
stop (R117).  An access through port X stops the local command whose footprint it met instead. -/
def State.accessRow (s : State) (k row : Nat) (write : Bool) (src : Nat) (uid : Option Nat) :
    State × Bool :=
  match s.raceWith k row write src uid with
  | none => (s, false)
  | some (met, first) =>
    let t := s.noteRace k row src met first
    if s.fixedTwist (s.raceJob k row met) then
      if src = 6 then (t.cutShort met 0x0203, false) else (t, true)
    else (t, false)

/-! ## Suspect skeins and parity (R522, R526) -/

/-- A skein becomes suspect: its suspect run starts again from slice 0 (R526). -/
def State.makeSuspect (s : State) (k : Nat) : State :=
  { s with selv := { s.selv with
      suspects := if s.selv.suspects.contains k then s.selv.suspects else s.selv.suspects ++ [k]
      suspectNext := Sparse.put 0 s.selv.suspectNext k 0 } }

/-- A parity failure of a skein is reported; a third one within 1 s of the first makes the skein suspect
(R522). -/
def State.parityReport (s : State) (k : Nat) : State :=
  let old := Sparse.get [] s.selv.parity k
  let times := old.filter (fun t => decide (s.refTime ≤ t + 1000000 * Config.us)) ++ [s.refTime]
  let t := { s with selv := { s.selv with parity := Sparse.put [] s.selv.parity k times } }.raise Flg.SELV_EVT_PARITY 0
  if 3 ≤ times.length then t.makeSuspect k else t

/-! ## Accesses -/

/-- Reads rows for a command in the order given; stops at the first race in fixed-twist mode or at a
parity failure, which is reported (R106, R522).  The answer beside the state is the status that ends the command, 0 for none. -/
def State.readRows (s : State) (k src uid : Nat) : List Nat → State × Nat
  | [] => (s, 0)
  | row :: rest =>
    if s.parityBad k row then ((s.pathMet k row).parityReport k, 0x0604) else
    let a := s.accessRow k row false src (some uid)
    if a.2 then (a.1, 0x0203) else a.1.readRows k src uid rest

/-- Writes rows for a command, each whole, in the order given; a race in fixed-twist mode lets the
detecting write land and then stops (R117). -/
def State.writeRows (s : State) (k src uid : Nat) : List (Nat × List Byte) → State × Nat
  | [] => (s, 0)
  | (row, bs) :: rest =>
    let a := s.accessRow k row true src (some uid)
    let t := a.1.writeRow k row bs
    if a.2 then (t, 0x0203) else t.writeRows k src uid rest

/-- The write accesses of a command to rows in the order given, as far as races go: a race in fixed-twist mode stops it. -/
def State.meetRows (s : State) (k src uid : Nat) : List Nat → State × Nat
  | [] => (s, 0)
  | row :: rest =>
    let a := s.accessRow k row true src (some uid)
    if a.2 then (a.1, 0x0203) else a.1.meetRows k src uid rest

/-- The rows that hold the bytes `off` to `off + len - 1` of a skein's bobbin. -/
def rangeOf (k off len : Nat) : RowRange :=
  ⟨k, off / Config.rowBytes, (off + len - 1) / Config.rowBytes⟩

/-- The rows of a range, in ascending order. -/
def RowRange.rows (r : RowRange) : List Nat := (List.range (r.last + 1 - r.first)).map (fun i => r.first + i)

/-- The rows of ranges on one skein, each range in order. -/
def rowsOf (rs : List RowRange) : List Nat := (rs.map RowRange.rows).flatten

/-- XOR of the CRC-64 of numbered rows (R523). -/
def rowsDigest (rows : List (Nat × List Byte)) : Nat :=
  rows.foldl (fun v r => v ^^^ crc64 (leBytes 2 r.1 ++ r.2)) 0

/-- The rows of a list of ranges, each once. -/
def distinctRows (rs : List RowRange) : List (Nat × Nat) :=
  ((rs.map (fun r => r.rows.map (fun row => (r.skein, row)))).flatten).eraseDups

/-- A command has written the rows of its write extent: their digest is taken (R523, R529). -/
def State.noteWritten (s : State) (c : Cmd) : State :=
  let d := rowsDigest ((distinctRows c.writes).map (fun r => (r.2, s.readRow r.1 r.2)))
  s.modCmd c.uid (fun c => { c with digest := d })

/-- Whether two ranges share a row. -/
def RowRange.meets (a b : RowRange) : Bool :=
  a.skein == b.skein && decide (a.first ≤ b.last) && decide (b.first ≤ a.last)

/-- Whether two lists of ranges share a row. -/
def rangesMeet (a b : List RowRange) : Bool := a.any (fun x => b.any (fun y => x.meets y))

/-- Whether every range ends by row 12,287. -/
def rangesFit (rs : List RowRange) : Bool := rs.all (fun r => decide (r.last < Config.rows))

/-- How a command reads the rows of its read footprint and commits the rows it has formed.  `formed` is
the memory in which the whole result has been formed; its rows go into the bobbin one by one.  When a
read fails, the rows of the write footprint hold any mix of old rows and whole new rows (R159): the mix
is a free choice. -/
def State.commitRows (s : State) (c : Cmd) (k : Nat) (formed : State) : State × Nat :=
  let src := c.engine.source
  let rows := rowsOf c.writes
  let data := rows.map (fun r => (r, formed.readRow k r))
  let a := s.readRows k src c.uid (rowsOf c.reads)
  if a.2 = 0 then a.1.writeRows k src c.uid data
  else
    let mix := data.filter (fun p => Config.freeBit s.freeCount p.1)
    let t := a.1.forEach mix (fun t p => t.writeRow k p.1 p.2)
    ({ t with freeCount := t.freeCount + 1 }, a.2)

end Sys2Proof.Machine
end

