-- ==== Sys2Proof/Machine/Float.lean ====
section
/-! DEFINITION. Exact binary values, the element formats of Tables 5.1 and 5.12, and rounding to nearest
even with the saturation of R153 and the special values of Table 5.4. -/

namespace Sys2Proof.Machine

/-- A value of a floating format or an exact sum of such values: not-a-number, an infinity, or
± m · 2^e with a signed zero. -/
inductive Fl where
  | nan
  | inf (neg : Bool)
  | fin (neg : Bool) (m : Nat) (e : Int)
  deriving DecidableEq, Repr

/-- A floating format: p bits of precision, 2^qmin its smallest magnitude, maxM · 2^maxE its largest
finite one, the width of its exponent field, whether it has infinities, its not-a-number code and
whether it has not-a-numbers at all. -/
structure Fmt where
  p : Nat
  qmin : Int
  maxM : Nat
  maxE : Int
  ebits : Nat
  infs : Bool
  nans : Bool
  nanCode : Nat
  deriving DecidableEq, Repr

/-- FP32, IEEE 754 binary32. -/
def Fmt.fp32 : Fmt := ⟨24, -149, 16777215, 104, 8, true, true, 0x7FC00000⟩
/-- BF16. -/
def Fmt.bf16 : Fmt := ⟨8, -133, 255, 120, 8, true, true, 0x7FC0⟩
/-- FP16, IEEE 754 binary16. -/
def Fmt.fp16 : Fmt := ⟨11, -24, 2047, 5, 5, true, true, 0x7E00⟩
/-- FP8 E4M3 (OCP): no infinity, not-a-number at 0x7F and 0xFF. -/
def Fmt.e4m3 : Fmt := ⟨4, -9, 14, 5, 4, false, true, 0x7F⟩
/-- FP8 E5M2. -/
def Fmt.e5m2 : Fmt := ⟨3, -16, 7, 13, 5, true, true, 0x7E⟩
/-- E3M2 elements of MXFP6. -/
def Fmt.e3m2 : Fmt := ⟨3, -4, 7, 2, 3, false, false, 0⟩
/-- E2M3 elements of MXFP6. -/
def Fmt.e2m3 : Fmt := ⟨4, -3, 15, -1, 2, false, false, 0⟩
/-- E2M1 elements of MXFP4. -/
def Fmt.e2m1 : Fmt := ⟨2, -1, 3, 1, 2, false, false, 0⟩

/-- Bits of an element of the format. -/
def Fmt.width (f : Fmt) : Nat := f.ebits + f.p

/-- The value of an element's bits (R138, Table 5.1). -/
def Fmt.decode (f : Fmt) (bits : Nat) : Fl :=
  let mant := bits % 2 ^ (f.p - 1)
  let ex := bits / 2 ^ (f.p - 1) % 2 ^ f.ebits
  let neg := decide (bits / 2 ^ (f.p - 1 + f.ebits) % 2 = 1)
  if ex = 0 then .fin neg mant f.qmin
  else if ex = 2 ^ f.ebits - 1 ∧ f.infs = true then (if mant = 0 then .inf neg else .nan)
  else if ex = 2 ^ f.ebits - 1 ∧ f.nans = true ∧ mant = 2 ^ (f.p - 1) - 1 then .nan
  else .fin neg (2 ^ (f.p - 1) + mant) (f.qmin + (ex : Int) - 1)

/-- a / b rounded up. -/
def ceilDivide (a b : Nat) : Nat := (a + b - 1) / b

/-- The number of bits of a number. -/
def bitLen (n : Nat) : Nat := if n = 0 then 0 else Nat.log2 n + 1

/-- m / 2^n rounded to nearest even. -/
def shiftEven (m n : Nat) : Nat :=
  let q := m / 2 ^ n
  let r := m % 2 ^ n
  if 2 * r > 2 ^ n ∨ (2 * r = 2 ^ n ∧ q % 2 = 1) then q + 1 else q

/-- The exponent of the last place that m · 2^e takes in the format. -/
def Fmt.place (f : Fmt) (m : Nat) (e : Int) : Int := max f.qmin (e + bitLen m - f.p)

/-- m · 2^e rounded to nearest even onto the format's grid with no upper bound on the exponent. -/
def Fmt.grid (f : Fmt) (m : Nat) (e : Int) : Nat × Int :=
  let q := f.place m e
  if q ≤ e then (m * 2 ^ (e - q).toNat, q) else (shiftEven m (q - e).toNat, q)

/-- a · 2^d > b · 2^e. -/
def dyGt (a : Nat) (d : Int) (b : Nat) (e : Int) : Bool :=
  let lo := min d e
  decide (a * 2 ^ (d - lo).toNat > b * 2 ^ (e - lo).toNat)

/-- Rounds a value to the format; true beside it when it saturated (R153). -/
def Fmt.round (f : Fmt) (x : Fl) : Fl × Bool :=
  match x with
  | .nan => (.nan, false)
  | .inf neg => if f.infs then (.inf neg, false) else (.fin neg f.maxM f.maxE, true)
  | .fin neg m e =>
    let g := f.grid m e
    if dyGt g.1 g.2 f.maxM f.maxE then (.fin neg f.maxM f.maxE, true) else (.fin neg g.1 g.2, false)

/-- The bits of a value that lies on the format's grid. -/
def Fmt.encode (f : Fmt) (x : Fl) : Nat :=
  let sign (neg : Bool) : Nat := if neg then 2 ^ (f.p - 1 + f.ebits) else 0
  match x with
  | .nan => f.nanCode
  | .inf neg => sign neg + (2 ^ f.ebits - 1) * 2 ^ (f.p - 1)
  | .fin neg m e =>
    let g := f.grid m e
    let m' := g.1
    let q := g.2
    -- a carry out of the rounding moves the value up one exponent
    if m' = 2 ^ f.p then sign neg + (q - f.qmin + 2).toNat * 2 ^ (f.p - 1)
    else if m' < 2 ^ (f.p - 1) then sign neg + m'
    else sign neg + (q - f.qmin + 1).toNat * 2 ^ (f.p - 1) + (m' - 2 ^ (f.p - 1))

/-- Signed reading of a finite value's mantissa. -/
def Fl.sm (neg : Bool) (m : Nat) : Int := if neg then -(m : Int) else m

/-- Exact sum.  Infinities of both signs give not-a-number; a zero sum is +0 unless both terms are −0
(Table 5.4). -/
def Fl.add (x y : Fl) : Fl :=
  match x, y with
  | .nan, _ => .nan
  | _, .nan => .nan
  | .inf a, .inf b => if a = b then .inf a else .nan
  | .inf a, .fin _ _ _ => .inf a
  | .fin _ _ _, .inf b => .inf b
  | .fin a m d, .fin b n e =>
    let lo := min d e
    let v := Fl.sm a (m * 2 ^ (d - lo).toNat) + Fl.sm b (n * 2 ^ (e - lo).toNat)
    if v = 0 then .fin (a && b && decide (m = 0) && decide (n = 0)) 0 lo
    else .fin (decide (v < 0)) v.natAbs lo

/-- Exact product.  Infinity × 0 is not-a-number (Table 5.4). -/
def Fl.mul (x y : Fl) : Fl :=
  match x, y with
  | .nan, _ => .nan
  | _, .nan => .nan
  | .inf a, .inf b => .inf (a != b)
  | .inf a, .fin b n _ => if n = 0 then .nan else .inf (a != b)
  | .fin a m _, .inf b => if m = 0 then .nan else .inf (a != b)
  | .fin a m d, .fin b n e => .fin (a != b) (m * n) (d + e)

/-- The negated value. -/
def Fl.neg : Fl → Fl
  | .nan => .nan
  | .inf a => .inf (!a)
  | .fin a m e => .fin (!a) m e

/-- A value times 2^k. -/
def Fl.scale (x : Fl) (k : Int) : Fl :=
  match x with
  | .fin a m e => .fin a m (e + k)
  | y => y

/-- +0. -/
def Fl.zero : Fl := .fin false 0 0

/-- An integer as a value. -/
def Fl.ofInt (v : Int) : Fl := .fin (decide (v < 0)) v.natAbs 0

/-- Is it a finite zero. -/
def Fl.isZero : Fl → Bool
  | .fin _ m _ => m == 0
  | _ => false

/-- Is it not-a-number. -/
def Fl.isNan : Fl → Bool
  | .nan => true
  | _ => false

/-- x < y for two values that are not not-a-numbers; −0 lies below +0 when `zeros` ranks them. -/
def Fl.lt (zeros : Bool) (x y : Fl) : Bool :=
  match x, y with
  | .nan, _ => false
  | _, .nan => false
  | .inf a, .inf b => a && !b
  | .inf a, .fin _ _ _ => a
  | .fin _ _ _, .inf b => !b
  | .fin a m d, .fin b n e =>
    let lo := min d e
    let v := Fl.sm a (m * 2 ^ (d - lo).toNat)
    let w := Fl.sm b (n * 2 ^ (e - lo).toNat)
    decide (v < w) || (zeros && decide (v = w) && decide (v = 0) && a && !b)

/-- An FP32 step: the exact result rounded once; its saturation is added to `sat`. -/
def fp32Step (sat : Bool) (x : Fl) : Fl × Bool :=
  let r := Fmt.fp32.round x
  (r.1, sat || r.2)

/-- FP32 sum. -/
def fadd (x y : Fl) : Fl × Bool := Fmt.fp32.round (x.add y)
/-- FP32 difference. -/
def fsub (x y : Fl) : Fl × Bool := Fmt.fp32.round (x.add y.neg)
/-- FP32 product. -/
def fmul (x y : Fl) : Fl × Bool := Fmt.fp32.round (x.mul y)
/-- FP32 fused multiply–add, one rounding. -/
def ffma (x y z : Fl) : Fl × Bool := Fmt.fp32.round ((x.mul y).add z)

/-- FP32 quotient, rounded once to nearest even.  The quotient is formed to more bits than any rounding
looks at, with a last bit that is 1 when a remainder is left. -/
def fdiv (x y : Fl) : Fl × Bool :=
  match x, y with
  | .nan, _ => (.nan, false)
  | _, .nan => (.nan, false)
  | .inf _, .inf _ => (.nan, false)
  | .inf a, .fin b _ _ => (.inf (a != b), false)
  | .fin a _ _, .inf b => (.fin (a != b) 0 0, false)
  | .fin a m d, .fin b n e =>
    if n = 0 then (if m = 0 then (.nan, false) else (.inf (a != b), false))
    else
      let k := 64 + bitLen n
      let q := m * 2 ^ k / n
      let r := m * 2 ^ k % n
      Fmt.fp32.round (.fin (a != b) (2 * q + (if r = 0 then 0 else 1)) (d - e - k - 1))

/-- MAX: not-a-number when either input is one; +0 ranks above −0 (R169). -/
def fmax (x y : Fl) : Fl := if x.isNan || y.isNan then .nan else if x.lt true y then y else x
/-- MIN (R169). -/
def fmin (x y : Fl) : Fl := if x.isNan || y.isNan then .nan else if y.lt true x then y else x

/-- Integer square root by bisection on the bits below `bit`. -/
def isqrtFrom (n : Nat) : Nat → Nat → Nat
  | 0, r => r
  | b + 1, r => if (r + 2 ^ b) * (r + 2 ^ b) ≤ n then isqrtFrom n b (r + 2 ^ b) else isqrtFrom n b r

/-- The magnitude of a value. -/
def Fl.abs : Fl → Fl
  | .nan => .nan
  | .inf _ => .inf false
  | .fin _ m e => .fin false m e

/-- One FP32 result of a function whose exact positive value lies from lo · 2^e to hi · 2^e: the free bits where they are
within one unit in the last place of it (R169, R245), and the nearest value where they are not, so that every result is
within that bound.  A value beyond the range saturates (R153). -/
def near32 (bits : BitVec 32) (lo hi : Nat) (e : Int) : Fl × Bool :=
  let c := Fmt.fp32.round (.fin false (2 * lo + 1) (e - 1))
  if c.2 then c else
  let unit : Fl := .fin false 1 (Fmt.fp32.place lo e)
  match (Fmt.fp32.decode bits.toNat).abs with
  | .fin _ m d =>
    let y : Fl := .fin false m d
    if (y.add unit).lt false (.fin false lo e) || ((Fl.fin false hi e).add unit).lt false y then c else (y, false)
  | _ => c

/-- The FP32 bits of a value. -/
def Fl.bits32 (x : Fl) : BitVec 32 := BitVec.ofNat 32 (Fmt.fp32.encode x)

/-- vrecip (R169): ±0 gives the infinity of its sign; an infinity gives the zero of its sign. -/
def vrecip (x : Fl) : Fl × Bool :=
  match x with
  | .nan => (.nan, false)
  | .inf n => (.fin n 0 0, false)
  | .fin n m e =>
    if m = 0 then (.inf n, false) else
    let k := 96 + bitLen m
    let r := near32 (Config.vrecip x.bits32) (2 ^ k / m) (ceilDivide (2 ^ k) m) (-(k : Int) - e)
    (if n then r.1.neg else r.1, r.2)

/-- vrsqrt (R169): +0 gives +infinity, a negative non-zero value not-a-number. The spec states nothing
for −0: its result is the free value. -/
def vrsqrt (x : Fl) : Fl × Bool :=
  match x with
  | .nan => (.nan, false)
  | .inf n => (if n then .nan else .fin false 0 0, false)
  | .fin n m e =>
    if m = 0 then (if n then Fmt.fp32.decode (Config.vrsqrt x.bits32).toNat else .inf false, false)
    else if n then (.nan, false)
    else
      let odd := e % 2 = 1
      let m2 := if odd then 2 * m else m
      let h : Int := (if odd then e - 1 else e) / 2
      let q := isqrtFrom (2 ^ 256 / m2) 129 0
      near32 (Config.vrsqrt x.bits32) q (q + 1) (-128 - h)

/-- The series of the exponential of r · 2⁻¹²⁸, from term `i` on: `t` is that term, in units of 2⁻¹²⁸. -/
def expSeries (r : Nat) : Nat → Nat → Nat → Nat
  | 0, _, t => t
  | fuel + 1, i, t => t + expSeries r fuel (i + 1) (t * r / 2 ^ 128 / (i + 1))

/-- ⌊ln 2 · 2¹²⁸⌋. -/
def ln2Bits : Nat := 0xB17217F7D1CF79ABC9E3B39803F2F6AF

/-- vexp (R245): −infinity gives +0; an infinite exact value is the infinity.  Of a finite x, 2ⁿ times the exponential of
what is left between 0 and ln 2 is formed to 120 bits. -/
def vexp (x : Fl) : Fl × Bool :=
  match x with
  | .nan => (.nan, false)
  | .inf n => (if n then Fl.zero else .inf false, false)
  | .fin n m e =>
    if dyGt m e 256 0 then
      if n then near32 (Config.vexp x.bits32) 0 1 (-300) else Fmt.fp32.round (.fin false 1 300)
    else
      let v : Int := Fl.sm n (if 0 ≤ e + 128 then m * 2 ^ (e + 128).toNat else m / 2 ^ (-(e + 128)).toNat)
      let q := v / (ln2Bits : Int)
      let s := expSeries (v - q * ln2Bits).toNat 40 0 (2 ^ 128)
      near32 (Config.vexp x.bits32) (s - 2 ^ 16) (s + 2 ^ 16) (q - 128)

/-- A floating value to an integer: nearest, ties by the latched mode, saturated to lo … hi;
not-a-number gives 0 and counts as saturation (R196). -/
def Fl.toInt (x : Fl) (even : Bool) (lo hi : Int) : Int × Bool :=
  match x with
  | .nan => (0, true)
  | .inf n => (if n then lo else hi, true)
  | .fin n m e =>
    let mag : Nat :=
      if 0 ≤ e then m * 2 ^ e.toNat
      else
        let k := (-e).toNat
        let q := m / 2 ^ k
        let r := m % 2 ^ k
        if 2 * r > 2 ^ k then q + 1
        else if 2 * r = 2 ^ k then (if even then (if q % 2 = 1 then q + 1 else q) else q + 1)
        else q
    let v := Fl.sm n mag
    if v < lo then (lo, true) else if v > hi then (hi, true) else (v, false)

end Sys2Proof.Machine
end

