-- ==== Sys2Proof/Machine/Quant.lean ====
section
/-! DEFINITION. Zero points, the rescale table and the requantisation arithmetic of chapter 06. -/

namespace Sys2Proof.Machine

/-- An integer element format: its width and whether it is signed. -/
structure IntFmt where
  bits : Nat
  sgn : Bool
  deriving DecidableEq, Repr

/-- The value of an integer element. -/
def IntFmt.decode (f : IntFmt) (v : Nat) : Int := if f.sgn then signed f.bits v else (v % 2 ^ f.bits : Nat)

/-- The least value of an integer format (R189). -/
def IntFmt.lo (f : IntFmt) : Int := if f.sgn then -(2 ^ (f.bits - 1) : Nat) else 0
/-- The greatest value of an integer format (R189). -/
def IntFmt.hi (f : IntFmt) : Int := if f.sgn then ((2 ^ (f.bits - 1) : Nat) : Int) - 1 else ((2 ^ f.bits : Nat) : Int) - 1

/-- A zero-point byte read for an operand format (Table 6.1). -/
def IntFmt.zeroPoint (f : IntFmt) (byte : Nat) : Int := f.decode byte

/-- Whether the zero-point byte is legal for the format (R182). -/
def IntFmt.zpOk (f : IntFmt) (byte : Nat) : Bool := f.bits == 8 || decide (byte < 16)

/-- A rescale table entry (Table 6.3). -/
structure Rescale where
  mult : Int
  bias : Int
  shift : Nat
  outZp : Int
  clampLo : Int
  clampHi : Int
  deriving DecidableEq, Repr

/-- Reads an entry from its 16 bytes; the reserved bits are ignored (R186). -/
def Rescale.ofBytes (bs : List Byte) : Rescale :=
  ⟨signed 32 (fieldOf bs 0 4), signed 32 (fieldOf bs 4 4), fieldOf bs 8 1 % 64,
   signed 16 (fieldOf bs 10 2), signed 16 (fieldOf bs 12 2), signed 16 (fieldOf bs 14 2)⟩

/-- The rounding shift of R191; true beside the result when it met an exact tie. -/
def rshiftRound (p : Int) (n : Nat) (even : Bool) : Int × Bool :=
  if n = 0 then (p, false) else
  let d : Int := (2 ^ n : Nat)
  let q := p / d
  let r := p - q * d
  let half : Int := (2 ^ (n - 1) : Nat)
  if r > half then (q + 1, false)
  else if r = half then
    (if even then (if q % 2 = 1 then q + 1 else q) else (if p > 0 then q + 1 else q), true)
  else (q, false)

/-- What requantisation gives for one output: the value, whether it saturated, whether it met a tie. -/
structure Requant where
  out : Int
  sat : Bool
  tie : Bool
  deriving DecidableEq, Repr

/-- R189: bias, multiply, rounding shift, output zero point, clamp, final saturation. -/
def requantise (acc : Int) (e : Rescale) (f : IntFmt) (even : Bool) : Requant :=
  let s := acc + e.bias
  let p := s * e.mult
  let q := rshiftRound p e.shift even
  let v := q.1 + e.outZp
  let c := if v < e.clampLo then e.clampLo else v
  let c := if c > e.clampHi then e.clampHi else c
  let sat := decide (v < f.lo) || decide (v > f.hi)
  let c := if c < f.lo then f.lo else c
  let c := if c > f.hi then f.hi else c
  ⟨c, sat, q.2⟩

/-- Int32 addition that saturates; true beside it when it did (R146). -/
def addSat32 (a b : Int) : Int × Bool :=
  let v := a + b
  if v < -2147483648 then (-2147483648, true) else if v > 2147483647 then (2147483647, true) else (v, false)

/-- What a golden run of a skein adds to its counters (R193, Table 6.6): it runs in away mode, and how many ties it meets is
free. -/
def State.goldenTies (s : State) (k : Nat) : State :=
  ({ s with freeCount := s.freeCount + 1 }).count Fld.SKEIN_RQ_CNT_TIE_COUNT k (Config.freeWord s.freeCount).toNat

/-- What a self-test or a field-test slice of a skein adds to its counters (R193, Table 6.6): it runs in even mode, and how
many commands it holds and how many ties they meet is free. -/
def State.testRun (s : State) (k : Nat) : State :=
  ({ s with freeCount := s.freeCount + 2 }.count Fld.SKEIN_RQ_CNT_EVEN_COUNT k (Config.freeWord s.freeCount).toNat).count
    Fld.SKEIN_RQ_CNT_TIE_COUNT k (Config.freeWord (s.freeCount + 1)).toNat

end Sys2Proof.Machine
end

