-- ==== Sys2Proof/Machine/Loom.lean ====
section
/-! DEFINITION. The loom's MATMUL (chapter 05): formats, operand layout, accumulation in both twist
modes, output formats, the refusals of R158, extents, and the command's effect. -/

namespace Sys2Proof.Machine

/-! ## Formats -/

/-- A loom operand format (Table 5.1): integer, or floating with or without block scales. -/
inductive OpFmt where
  | int (f : IntFmt)
  | flt (f : Fmt) (mx : Bool)
  deriving DecidableEq, Repr

/-- Table 5.1. -/
def loomFmt : Nat → Option OpFmt
  | 0x0 => some (.int ⟨8, true⟩)
  | 0x1 => some (.int ⟨8, false⟩)
  | 0x2 => some (.int ⟨4, true⟩)
  | 0x3 => some (.int ⟨4, false⟩)
  | 0x4 => some (.flt .e4m3 false)
  | 0x5 => some (.flt .e5m2 false)
  | 0x6 => some (.flt .e4m3 true)
  | 0x7 => some (.flt .e5m2 true)
  | 0x8 => some (.flt .e3m2 true)
  | 0x9 => some (.flt .e2m3 true)
  | 0xA => some (.flt .e2m1 true)
  | 0xB => some (.flt .bf16 false)
  | 0xC => some (.flt .fp16 false)
  | _ => none

/-- Bits of an element. -/
def OpFmt.bits : OpFmt → Nat
  | .int f => f.bits
  | .flt f _ => f.width

/-- Whether the format carries block scales. -/
def OpFmt.mx : OpFmt → Bool
  | .int _ => false
  | .flt _ mx => mx

/-- The classes of Table 5.2. -/
inductive PairClass where
  | int8 | int4 | float8 | float4 | float16
  deriving DecidableEq, Repr

/-- Table 5.2; none for a refused pairing (R140). -/
def pairClass : OpFmt → OpFmt → Option PairClass
  | .int a, .int b => if a.bits = 4 ∧ b.bits = 4 then some .int4 else some .int8
  | .flt a _, .flt b _ =>
    if a.width = 16 ∨ b.width = 16 then (if a = b then some .float16 else none)
    else if a = .e2m1 ∧ b = .e2m1 then some .float4 else some .float8
  | _, _ => none

/-- The K-step of a class (Table 5.2). -/
def PairClass.kstep : PairClass → Nat
  | .int8 => 128 | .int4 => 256 | .float8 => 128 | .float4 => 256 | .float16 => 32

/-- MACs per beat of the vector route (R601). -/
def PairClass.vecRate : PairClass → Nat
  | .int8 | .float8 => 1024 | .int4 | .float4 => 2048 | .float16 => 256

/-- An output format (Table 5.5). -/
inductive OutFmt where
  | int32 | intq (f : IntFmt) | flt (f : Fmt)
  deriving DecidableEq, Repr

/-- Table 5.5. -/
def outFmt : Nat → Option OutFmt
  | 0x0 => some .int32
  | 0x1 => some (.intq ⟨16, true⟩)
  | 0x2 => some (.intq ⟨8, true⟩)
  | 0x3 => some (.intq ⟨8, false⟩)
  | 0x4 => some (.intq ⟨4, true⟩)
  | 0x5 => some (.intq ⟨4, false⟩)
  | 0x8 => some (.flt .fp32)
  | 0x9 => some (.flt .bf16)
  | 0xA => some (.flt .fp16)
  | 0xB => some (.flt .e4m3)
  | 0xC => some (.flt .e5m2)
  | _ => none

/-- Bits of an output element. -/
def OutFmt.bits : OutFmt → Nat
  | .int32 => 32
  | .intq f => f.bits
  | .flt f => f.width

/-- Whether an output format belongs to a class (R156). -/
def OutFmt.fits : OutFmt → PairClass → Bool
  | .flt _, .float8 | .flt _, .float4 | .flt _, .float16 => true
  | .flt _, _ => false
  | _, .int8 | _, .int4 => true
  | _, _ => false

/-! ## The descriptor -/

/-- The fields of a MATMUL payload (Table 5.6), its formats decoded. -/
structure Matmul where
  a : OpFmt
  b : OpFmt
  cls : PairClass
  out : OutFmt
  force : Bool
  satReport : Bool
  accum : Bool
  m : Nat
  n : Nat
  k : Nat
  aRow : Nat
  bRow : Nat
  cRow : Nat
  aLd : Nat
  cLd : Nat
  saRow : Nat
  sbRow : Nat
  rescaleRow : Nat
  aZp : Nat
  bZp : Nat
  accLsb : Int
  deriving DecidableEq, Repr

/-- Reads a MATMUL payload; none when a format code is reserved or the pair or the output format is not
allowed (R158 check 1). -/
def Matmul.ofBytes (d : List Byte) : Option Matmul :=
  match loomFmt (fieldOf d 24 1 % 16), loomFmt (fieldOf d 24 1 / 16), outFmt (fieldOf d 25 1 % 16) with
  | some a, some b, some o =>
    match pairClass a b with
    | some cls =>
      if o.fits cls then
        some ⟨a, b, cls, o, decide (fieldOf d 26 1 / 4 % 2 = 1), decide (fieldOf d 26 1 / 2 % 2 = 1),
          decide (fieldOf d 26 1 % 2 = 1), fieldOf d 28 2, fieldOf d 30 2, fieldOf d 32 2, fieldOf d 34 2,
          fieldOf d 36 2, fieldOf d 38 2, fieldOf d 40 2, fieldOf d 42 2, fieldOf d 44 2, fieldOf d 46 2,
          fieldOf d 48 2, fieldOf d 50 1, fieldOf d 51 1, signed 16 (fieldOf d 52 2)⟩
      else none
    | none => none
  | _, _, _ => none

/-- Bytes of a row of A (R141). -/
def Matmul.aBytes (x : Matmul) : Nat := ceilDiv (x.k * x.a.bits) 8
/-- Bytes of a weight vector (R142). -/
def Matmul.vb (x : Matmul) : Nat := x.cls.kstep * x.b.bits / 8
/-- Chunks along K. -/
def Matmul.chunks (x : Matmul) : Nat := ceilDiv x.k x.cls.kstep
/-- Bytes of a row of C (R144). -/
def Matmul.cBytes (x : Matmul) : Nat := ceilDiv (x.n * x.out.bits) 8
/-- SA_STRIDE (R143). -/
def Matmul.saStride (x : Matmul) : Nat := ceilDiv (ceilDiv x.k 32) 64 * 64
/-- Whether the output passes through the rescale table (Table 5.5). -/
def Matmul.rescaled (x : Matmul) : Bool :=
  match x.out with
  | .intq _ => true
  | _ => false

/-- Adds a range to ranges, the last one first: one that touches the last extends it. -/
def addRange (rs : List RowRange) (r : RowRange) : List RowRange :=
  match rs with
  | [] => [r]
  | q :: rest => if r.first ≤ q.last + 1 then { q with last := max q.last r.last } :: rest else r :: rs

/-- The rows that hold `count` lines of `len` bytes, `ld` 64-byte units apart, from a row (R145). -/
def linesExtent (k row count ld len : Nat) : List RowRange :=
  (((List.range count).map (fun i => rangeOf k (row * 512 + i * ld * 64) len)).foldl addRange []).reverse

/-- The write extent: the rows that hold C (R145). -/
def Matmul.writes (x : Matmul) (k : Nat) : List RowRange := linesExtent k x.cRow x.m x.cLd x.cBytes

/-- The read extents apart from C (R145). -/
def Matmul.readsPlain (x : Matmul) (k : Nat) : List RowRange :=
  linesExtent k x.aRow x.m x.aLd x.aBytes ++ [rangeOf k (x.bRow * 512) (x.chunks * x.n * x.vb)] ++
  (if x.a.mx then [rangeOf k (x.saRow * 512) ((x.m - 1) * x.saStride + ceilDiv x.k 32)] else []) ++
  (if x.b.mx then [rangeOf k (x.sbRow * 512) (x.chunks * x.n * (x.cls.kstep / 32))] else []) ++
  (if x.rescaled then [⟨k, x.rescaleRow, x.rescaleRow + ceilDiv x.n 32 - 1⟩] else [])

/-- The read extents (R145): C too when ACCUM is 1. -/
def Matmul.reads (x : Matmul) (k : Nat) : List RowRange :=
  x.readsPlain k ++ (if x.accum then x.writes k else [])

/-- The zero-point byte is legal: 0 for a floating format, R182 for an integer one. -/
def OpFmt.zpOk : OpFmt → Nat → Bool
  | .int f, z => f.zpOk z
  | .flt _ _, z => z == 0

/-- The reserved bytes and bits of a MATMUL payload are 0 (R157, R8). -/
def matmulReserved (d : List Byte) : Bool :=
  fieldOf d 25 1 / 16 == 0 && fieldOf d 26 1 / 8 == 0 && fieldOf d 27 1 == 0 && fieldOf d 54 10 == 0

/-- R158: none when the payload is accepted, the status otherwise. -/
def matmulCheck (d : List Byte) : Option Nat :=
  match Matmul.ofBytes d with
  | none => some 0x0102
  | some x =>
    let mxAny := x.a.mx || x.b.mx
    let accOk := match x.out with
      | .int32 => true
      | .flt f => decide (f = Fmt.fp32)
      | _ => false
    let ok := matmulReserved d &&
      decide (1 ≤ x.m) && decide (x.m ≤ 4096) && decide (1 ≤ x.n) && decide (x.n ≤ 16384) &&
      decide (1 ≤ x.k) && (!mxAny || decide (x.k % 32 = 0)) &&
      (!x.accum || accOk) &&
      decide (x.aRow < Config.rows) && decide (x.bRow < Config.rows) && decide (x.cRow < Config.rows) &&
      decide (x.saRow < Config.rows) && decide (x.sbRow < Config.rows) && decide (x.rescaleRow < Config.rows) &&
      rangesFit (x.reads 0) && rangesFit (x.writes 0) &&
      (decide (x.m = 1) || (decide (x.aBytes ≤ x.aLd * 64) && decide (x.cBytes ≤ x.cLd * 64))) &&
      !rangesMeet (x.writes 0) (x.readsPlain 0) &&
      x.a.zpOk x.aZp && x.b.zpOk x.bZp &&
      (x.a.mx || x.saRow == 0) && (x.b.mx || x.sbRow == 0) &&
      (if mxAny then decide (-300 ≤ x.accLsb) && decide (x.accLsb ≤ 260) else decide (x.accLsb = 0)) &&
      (!x.rescaled || x.rescaleRow != 0)
    if ok then none else some 0x0102

/-! ## The arithmetic

MATMUL and CONV share it (R199): a product is a `Gemm`, which says where its elements come from. -/

/-- `w` bits from a bit offset after a byte offset of the bobbin. -/
def bobBits (s : State) (k byte bit w : Nat) : Nat :=
  s.bobNat k (byte + bit / 8) (ceilDiv (bit % 8 + w) 8) / 2 ^ (bit % 8) % 2 ^ w

/-- A matrix product of the loom: formats, lengths, zero points, and its elements by (row, k), (column, k),
block scales by (row, block) and (column, block), the old C by (row, column) and the rescale entry by
column.  An element of A is none where it is padding (R200). -/
structure Gemm where
  a : OpFmt
  b : OpFmt
  cls : PairClass
  out : OutFmt
  accum : Bool
  k : Nat
  aZp : Nat
  bZp : Nat
  accLsb : Int
  aEl : Nat → Nat → Option Nat
  bEl : Nat → Nat → Nat
  aScale : Nat → Nat → Nat
  bScale : Nat → Nat → Nat
  old : Nat → Nat → Nat
  rescale : Nat → Rescale

/-- Chunks along K. -/
def Gemm.chunks (x : Gemm) : Nat := ceilDiv x.k x.cls.kstep

/-- The product of the first `j` chunks alone. -/
def Gemm.upTo (x : Gemm) (j : Nat) : Gemm := { x with k := min x.k (j * x.cls.kstep) }

/-- Whether element kk of row m of A lies beyond K or in the padding: its term is +0 (R142, R200). -/
def Gemm.padded (x : Gemm) (m kk : Nat) : Bool := decide (x.k ≤ kk) || (x.aEl m kk).isNone

/-- One product of a floating pair, +0 beyond K and in padding (R142, R200). -/
def Gemm.product (x : Gemm) (m n kk : Nat) : Fl :=
  match x.a, x.b with
  | .flt fa _, .flt fb _ =>
    if kk < x.k then
      match x.aEl m kk with
      | some v => (fa.decode v).mul (fb.decode (x.bEl n kk))
      | none => Fl.zero
    else Fl.zero
  | _, _ => Fl.zero

/-- The combined scale exponent of a group, none when a scale byte is 0xFF (R139, R147). -/
def Gemm.groupScale (x : Gemm) (m n g : Nat) : Option Int :=
  if x.k ≤ g * 32 then some 0 else
  let sa := x.aScale m g
  let sb := x.bScale n g
  if sa = 255 ∨ sb = 255 then none else some ((sa : Int) + sb - 254)

/-- What forming one output gives: its bits, which conditions arose, and the first chunk in which its accumulator
saturated and in which a term lost bits below the frame (R178). -/
structure OutElem where
  bits : Nat
  sat : Bool
  nan : Bool
  inexact : Bool
  tie : Bool
  satAt : Option Nat
  dropAt : Option Nat
  deriving DecidableEq, Repr

/-- The exact sum of a group's products (R147). -/
def Gemm.groupSum (x : Gemm) (m n g : Nat) : Fl :=
  let ps := (List.range 32).map (fun i => x.product m n (g * 32 + i))
  match ps with
  | [] => Fl.zero
  | p :: rest => rest.foldl Fl.add p

/-- One level of a pairing tree of FP32 additions (R148, R170). -/
def pairUp (op : Fl → Fl → Fl × Bool) : List (Fl × Bool) → List (Fl × Bool)
  | a :: b :: rest =>
    let r := op a.1 b.1
    (r.1, a.2 || b.2 || r.2) :: pairUp op rest
  | l => l

/-- A tree of `levels` levels. -/
def treeOf (op : Fl → Fl → Fl × Bool) : Nat → List (Fl × Bool) → List (Fl × Bool)
  | 0, l => l
  | n + 1, l => treeOf op n (pairUp op l)

/-- The sum of one group for the float accumulators: R147 for Float 8 and Float 4, R148 for Float 16.  A group whose scale
is not-a-number is one; a group that is padding throughout is +0 whatever its scale (R200). -/
def Gemm.groupTerm (x : Gemm) (m n g : Nat) : Fl × Bool :=
  if x.cls = .float16 then
    let ps := (List.range 32).map (fun i => Fmt.fp32.round (x.product m n (g * 32 + i)))
    match treeOf fadd 5 ps with
    | r :: _ => r
    | [] => (Fl.zero, false)
  else
    match x.groupScale m n g with
    | none => (if (List.range 32).all (fun i => x.padded m (g * 32 + i)) then Fl.zero else .nan, false)
    | some e => Fmt.fp32.round ((x.groupSum m n g).scale e)

/-- Adds the groups in ascending k to the FP32 accumulator (R147); the first term of a command without
ACCUM is its first group. -/
def fp32Accumulate : Option (Fl × Bool) → List (Fl × Bool) → Fl × Bool
  | none, [] => (Fl.zero, false)
  | some a, [] => a
  | none, t :: rest => fp32Accumulate (some t) rest
  | some a, t :: rest =>
    let r := fadd a.1 t.1
    fp32Accumulate (some (r.1, a.2 || t.2 || r.2)) rest

/-- The bits of a value in a floating output format, with its saturation (R153, R156). -/
def outFloat (f : Fmt) (x : Fl) (sat inexact : Bool) : OutElem :=
  let r := f.round x
  ⟨f.encode r.1, sat || r.2, r.1.isNan, inexact, false, none, none⟩

/-- The exact accumulator of fixed-twist mode (R149): its sum in units of 2^LSB, the special flags, and
whether every term so far was −0. -/
structure Exact where
  sum : Int
  nan : Bool
  pinf : Bool
  ninf : Bool
  sat : Bool
  inexact : Bool
  negZero : Bool
  deriving DecidableEq, Repr

/-- The empty frame. -/
def Exact.empty : Exact := ⟨0, false, false, false, false, false, true⟩

/-- Adds one term to the 80-bit frame: bits below the frame are dropped toward minus infinity, and the
sum saturates at the frame's bounds (R149).  A term that 80 bits do not hold is added at its own value and only the partial
sum is bounded: DESIGN CHOICE, for the spec does not say what becomes of such a term. -/
def Exact.add (lsb : Int) (a : Exact) (t : Fl) : Exact :=
  match t with
  | .nan => { a with nan := true, negZero := false }
  | .inf false => { a with pinf := true, negZero := false }
  | .inf true => { a with ninf := true, negZero := false }
  | .fin neg m e =>
    let v := Fl.sm neg m
    let sh := e - lsb
    let u : Int := if 0 ≤ sh then v * (2 ^ sh.toNat : Nat) else v / (2 ^ (-sh).toNat : Nat)
    let drop := decide (sh < 0) && decide (v % (2 ^ (-sh).toNat : Nat) ≠ 0)
    let w := a.sum + u
    let lo : Int := -(2 ^ 79 : Nat)
    let hi : Int := ((2 ^ 79 : Nat) : Int) - 1
    let c := if w < lo then lo else if w > hi then hi else w
    { a with sum := c, sat := a.sat || decide (c ≠ w), inexact := a.inexact || drop,
             negZero := a.negZero && neg && decide (m = 0) }

/-- The value that the frame holds. -/
def Exact.value (lsb : Int) (a : Exact) : Fl :=
  if a.nan || (a.pinf && a.ninf) then .nan
  else if a.pinf then .inf false
  else if a.ninf then .inf true
  else if a.sum = 0 then .fin a.negZero 0 lsb
  else .fin (decide (a.sum < 0)) a.sum.natAbs lsb

/-- LSB of the exact frame: Table 5.3 for plain FP8 pairs, ACC_LSB otherwise (R150, R151). -/
def Gemm.lsb (x : Gemm) : Int :=
  if x.a.mx || x.b.mx then x.accLsb else
  match x.a, x.b with
  | .flt fa _, .flt fb _ => fa.qmin + fb.qmin
  | _, _ => 0

/-- The terms of the exact frame in ascending k (R149). -/
def Gemm.exactTerms (x : Gemm) (m n : Nat) : List Fl :=
  ((List.range (x.chunks * (x.cls.kstep / 32))).map (fun g =>
    (List.range 32).map (fun i =>
      match x.groupScale m n g with
      | none => if x.padded m (g * 32 + i) then Fl.zero else Fl.nan
      | some e => (x.product m n (g * 32 + i)).scale e))).flatten

/-- The exact accumulator of output (m, n) after its last chunk (R149). -/
def Gemm.exactAcc (x : Gemm) (m n : Nat) : Exact :=
  (x.exactTerms m n).foldl (Exact.add x.lsb)
    (if x.accum then Exact.empty.add x.lsb (Fmt.fp32.decode (x.old m n)) else Exact.empty)

/-- The FP32 accumulator of output (m, n) after its last chunk, and whether it saturated (R147, R148). -/
def Gemm.fp32Acc (x : Gemm) (m n : Nat) : Fl × Bool :=
  fp32Accumulate (if x.accum then some (Fmt.fp32.decode (x.old m n), false) else none)
    ((List.range (x.chunks * (x.cls.kstep / 32))).map (x.groupTerm m n))

/-- Whether the products of a command are summed in the exact frame (R149). -/
def Gemm.isExact (x : Gemm) (fixed : Bool) : Bool := fixed && x.cls != .float16

/-- One output of a float class. -/
def Gemm.floatOut (x : Gemm) (fixed : Bool) (f : Fmt) (m n : Nat) : OutElem :=
  if x.isExact fixed then
    let r := x.exactAcc m n
    outFloat f (r.value x.lsb) r.sat r.inexact
  else
    let r := x.fp32Acc m n
    outFloat f r.1 r.2 false

/-- One product of an integer pair after zero-point subtraction, 0 beyond K and in padding (R146, R183). -/
def Gemm.intProduct (x : Gemm) (m n kk : Nat) : Int :=
  match x.a, x.b with
  | .int fa, .int fb =>
    if kk < x.k then
      match x.aEl m kk with
      | some v => (fa.decode v - fa.zeroPoint x.aZp) * (fb.decode (x.bEl n kk) - fb.zeroPoint x.bZp)
      | none => 0
    else 0
  | _, _ => 0

/-- The exact sum of the products of a chunk (R146). -/
def Gemm.chunkSum (x : Gemm) (m n c : Nat) : Int :=
  ((List.range x.cls.kstep).map (fun i => x.intProduct m n (c * x.cls.kstep + i))).foldl (· + ·) 0

/-- Adds chunk sums in ascending order to the saturating int32 accumulator (R146). -/
def intAccumulate : Int × Bool → List Int → Int × Bool
  | a, [] => a
  | a, t :: rest =>
    let r := addSat32 a.1 t
    intAccumulate (r.1, a.2 || r.2) rest

/-- The int32 accumulator of output (m, n) after its last chunk, and whether it saturated (R146). -/
def Gemm.intAcc (x : Gemm) (m n : Nat) : Int × Bool :=
  intAccumulate (if x.accum then signed 32 (x.old m n) else 0, false) ((List.range x.chunks).map (x.chunkSum m n))

/-- One output of an integer class (R146, R189). -/
def Gemm.intOut (x : Gemm) (even : Bool) (m n : Nat) : OutElem :=
  let acc := x.intAcc m n
  match x.out with
  | .intq f =>
    let r := requantise acc.1 (x.rescale n) f even
    ⟨unsigned f.bits r.out, acc.2 || r.sat, false, false, r.tie, none, none⟩
  | _ => ⟨unsigned 32 acc.1, acc.2, false, false, false, none, none⟩

/-- Whether the accumulator of output (m, n) has saturated, and whether a term of it has lost bits (R178). -/
def Gemm.accFlags (x : Gemm) (fixed : Bool) (m n : Nat) : Bool × Bool :=
  match x.out with
  | .flt _ => if x.isExact fixed then ((x.exactAcc m n).sat, (x.exactAcc m n).inexact) else ((x.fp32Acc m n).2, false)
  | _ => ((x.intAcc m n).2, false)

/-- The first chunk after which a condition of the accumulator holds. -/
def Gemm.firstChunk (x : Gemm) (p : Gemm → Bool) : Option Nat := (List.range x.chunks).find? (fun j => p (x.upTo (j + 1)))

/-- Output (m, n). -/
def Gemm.elem (x : Gemm) (fixed even : Bool) (m n : Nat) : OutElem :=
  let e := match x.out with
    | .flt f => x.floatOut fixed f m n
    | _ => x.intOut even m n
  { e with
    satAt := x.firstChunk (fun y => (y.accFlags fixed m n).1)
    dropAt := x.firstChunk (fun y => (y.accFlags fixed m n).2) }

/-- The 80 bits of the accumulator of output (m, n) after its last chunk: the exact frame, an FP32 value or an int32
value (R137). -/
def Gemm.acc (x : Gemm) (fixed : Bool) (m n : Nat) : BitVec 80 :=
  match x.out with
  | .flt _ =>
    if x.isExact fixed then BitVec.ofInt 80 (x.exactAcc m n).sum
    else BitVec.ofNat 80 (Fmt.fp32.encode (x.fp32Acc m n).1)
  | _ => BitVec.ofInt 80 (x.intAcc m n).1

/-- The rescale entry of a column (R185). -/
def rescaleAt (s : State) (k row n : Nat) : Rescale :=
  Rescale.ofBytes ((List.range 16).map (fun i => s.bobByte k (row * 512 + n * 16 + i)))

/-- Element kk of column n of B, under the layout of R142 with `cols` columns. -/
def weightAt (s : State) (k row cols kstep bits n kk : Nat) : Nat :=
  bobBits s k (row * 512 + (kk / kstep * cols + n) * (kstep * bits / 8)) (kk % kstep * bits) bits

/-- The scale of block b of column n of B (R143). -/
def weightScaleAt (s : State) (k row cols kstep n b : Nat) : Nat :=
  let per := kstep / 32
  (s.bobByte k (row * 512 + (b / per * cols + n) * per + b % per)).toNat

/-- The product of a MATMUL on skein k (R141 to R144). -/
def Matmul.gemm (x : Matmul) (s : State) (k : Nat) : Gemm where
  a := x.a
  b := x.b
  cls := x.cls
  out := x.out
  accum := x.accum
  k := x.k
  aZp := x.aZp
  bZp := x.bZp
  accLsb := x.accLsb
  aEl := fun m kk => some (bobBits s k (x.aRow * 512 + m * x.aLd * 64) (kk * x.a.bits) x.a.bits)
  bEl := fun n kk => weightAt s k x.bRow x.n x.cls.kstep x.b.bits n kk
  aScale := fun m b => if x.a.mx then (s.bobByte k (x.saRow * 512 + m * x.saStride + b)).toNat else 127
  bScale := fun n b => if x.b.mx then weightScaleAt s k x.sbRow x.n x.cls.kstep n b else 127
  old := fun m n => bobBits s k (x.cRow * 512 + m * x.cLd * 64) (n * x.out.bits) x.out.bits
  rescale := rescaleAt s k x.rescaleRow

/-- An output: its base byte in the bobbin, its bit offset from there, its width, and what it is. -/
abbrev Output := Nat × Nat × Nat × OutElem

/-- Puts `w` bits at a bit offset after a byte offset of a bobbin, keeping the other bits of the bytes
(R144). -/
def bobSetBits (s : State) (k byte bit w v : Nat) : State :=
  if w % 8 = 0 then
    (s.forEach (List.range (w / 8)) (fun t i => t.bobPut k (byte + bit / 8 + i) (BitVec.ofNat 8 (v / 256 ^ i))))
  else
    let off := byte + bit / 8
    let old := (s.bobByte k off).toNat
    let sh := bit % 8
    s.bobPut k off (BitVec.ofNat 8 (old - old / 2 ^ sh % 2 ^ w * 2 ^ sh + v % 2 ^ w * 2 ^ sh))

/-- Forms outputs one by one into the rows of C. -/
def formOutputs (s : State) (k : Nat) : List Output → State
  | [] => s
  | (byte, bit, w, e) :: rest => formOutputs (bobSetBits s k byte bit w e.bits) k rest

/-- Where the tiles of a length begin (R137). -/
def tileStarts (n : Nat) : List Nat := (List.range (ceilDiv n 128)).map (fun i => 128 * i)

/-- The members of the tile that begins at `i`. -/
def tileSpan (n i : Nat) : List Nat := (List.range (min 128 (n - i))).map (fun a => i + a)

/-- The n-tiles of the m-tile that begins at `i` (R137). -/
def tileRow {α : Type} (m n : Nat) (f : Nat → Nat → α) (i : Nat) : List (List α) :=
  (tileStarts n).map (fun j => ((tileSpan m i).map (fun a => (tileSpan n j).map (f a))).flatten)

/-- The outputs of an m × n product by tile: m-tiles outermost, n-tiles within each (R137). -/
def tilesOf {α : Type} (m n : Nat) (f : Nat → Nat → α) : List (List α) :=
  ((tileStarts m).map (tileRow m n f)).flatten

/-- Output (m, n) of a MATMUL with its place (R144). -/
def Matmul.output (x : Matmul) (s : State) (k : Nat) (fixed even : Bool) (m n : Nat) : Output :=
  (x.cRow * 512 + m * x.cLd * 64, n * x.out.bits, x.out.bits, (x.gemm s k).elem fixed even m n)

/-- All outputs by tile.  The vector engine, which has no array, forms those of a routed MATMUL together (R163). -/
def Matmul.tiles (x : Matmul) (s : State) (k : Nat) (fixed even routed : Bool) : List (List Output) :=
  let ts := tilesOf x.m x.n (x.output s k fixed even)
  if routed then [ts.flatten] else ts

/-- The accumulator that output (m, n) uses in a store, `128 * row + column` of its tile, and its value (R137). -/
def placed (f : Nat → Nat → BitVec 80) (m n : Nat) : Nat × BitVec 80 := (m % 128 * 128 + n % 128, f m n)

/-- How many outputs meet a condition, saturating at 32 bits (R159). -/
def countOut (p : OutElem → Bool) (os : List Output) : Nat :=
  min ((os.filter (fun o => p o.2.2.2)).length) (2 ^ 32 - 1)

/-- The short result of R159. -/
def satResult (os : List Output) : Nat :=
  countOut OutElem.sat os + 2 ^ 32 * countOut OutElem.nan os

/-- Sets the loom's flags, each at most once per command (R178), and counts ties (Table 6.6). -/
def State.loomFlags (s : State) (k : Nat) (os : List Output) : State :=
  (((s.doIf (os.any (fun o => o.2.2.2.sat)) (fun t => t.raise Flg.SKEIN_LOOM_EVT_SATURATED k)).doIf
    (os.any (fun o => o.2.2.2.inexact)) (fun t => t.raise Flg.SKEIN_LOOM_EVT_FT_INEXACT k)).doIf
    (os.any (fun o => o.2.2.2.nan)) (fun t => t.raise Flg.SKEIN_LOOM_EVT_NAN_OUT k)).count
      Fld.SKEIN_RQ_CNT_TIE_COUNT k (os.filter (fun o => o.2.2.2.tie)).length

/-- The bobbin row of an output. -/
def outRow (o : Output) : Nat := (o.1 * 8 + o.2.1) / (8 * Config.rowBytes)

/-- The rows that outputs reach, each once, in the order of the outputs. -/
def outRows (os : List Output) : List Nat := (os.map outRow).eraseDups

/-- Whether outputs cover a row only in part. -/
def partlyCovered (os : List Output) (row : Nat) : Bool :=
  decide (((os.filter (fun o => outRow o == row)).map (fun o => o.2.2.1)).sum < 8 * Config.rowBytes)

/-- The outputs of one row are written into it: a row that they cover only in part is read first and merged (R144). -/
def State.mergeRow (s : State) (c : Cmd) (k : Nat) (os : List Output) (row : Nat) : State × Nat :=
  let r := if partlyCovered os row then s.readRows k c.engine.source c.uid [row] else (s, 0)
  if r.2 ≠ 0 then r
  else r.1.writeRows k c.engine.source c.uid [(row, (formOutputs r.1 k (os.filter (fun o => outRow o == row))).readRow k row)]

/-- Writes the rows of one tile in order, and stops at the first that fails. -/
def State.mergeRows (s : State) (c : Cmd) (k : Nat) (os : List Output) : List Nat → State × Nat
  | [] => (s, 0)
  | row :: rest =>
    let r := s.mergeRow c k os row
    if r.2 ≠ 0 then r else r.1.mergeRows c k os rest

/-- What of an output's conditions had arisen when the command stopped before it was formed: those of the chunks named. -/
def OutElem.partly (e : OutElem) (done : Nat → Bool) : OutElem :=
  { e with sat := e.satAt.any done, nan := false, inexact := e.dropAt.any done, tie := false }

/-- The outputs of the tile in which a command stops, with the conditions that had arisen (R178).  Where it stops is free.
On the loom they are all formed, or its accumulators have taken some chunks, the last of them for some outputs; a routed
product forms them one by one in an order of its own, and other commands have no chunks. -/
def State.maybe (s : State) (c : Cmd) (os : List Output) : List Output :=
  let f := Config.freeBit s.freeCount
  let place (o : Output) : Nat := o.1 * 8 + o.2.1
  if c.opcode ≠ 0x01 ∧ c.opcode ≠ 0x02 then os.filter (fun o => f (place o)) else
  let j := (Config.freeWord s.freeCount).toNat % (2 ^ 16)
  os.map (fun o =>
    if f (if c.routed then place o else 2 ^ 32) then o
    else (o.1, o.2.1, o.2.2.1, o.2.2.2.partly (fun i =>
      (!c.routed && decide (i < j)) || ((c.routed || i == j) && f (2 ^ 33 + place o)))))

/-- Writes tile after tile; the answer holds the status, 0 for none, and the outputs formed by then.  The writes of a tile
overlap the next one (R161). -/
def State.commitTiles (s : State) (c : Cmd) (k : Nat) : List (List Output) → State × Nat × List Output
  | [] => (s, 0, [])
  | os :: rest =>
    let r := s.mergeRows c k os (outRows os)
    if r.2 ≠ 0 then (r.1, r.2, os ++ s.maybe c (rest.headD [])) else
    let q := r.1.commitTiles c k rest
    (q.1, q.2.1, os ++ q.2.2)

/-- What a command that a fault stops at a point the spec does not fix leaves: the tiles before that point, the last of
them in part, are written, and the answer holds the outputs formed by then (R159, R178).  A row of them that cannot be
written stops it there. -/
def State.cutTiles (s : State) (c : Cmd) (k : Nat) (tiles : List (List Output)) : State × List Output :=
  let j := (Config.freeWord s.freeCount).toNat % (tiles.length + 1)
  let t := { s with freeCount := s.freeCount + 1 }
  let last := (tiles.take j).getLast?.getD []
  let u := t.commitTiles c k (tiles.take (j - 1))
  if u.2.1 ≠ 0 then (u.1, u.2.2) else
  ((u.1.mergeRows c k last ((outRows last).filter (fun row => Config.freeBit s.freeCount row))).1,
    (tiles.take j).flatten ++ t.maybe c ((tiles.drop j).headD []))

/-- A command reads its operands' rows and writes its outputs tile by tile. -/
def State.commitOutputs (s : State) (c : Cmd) (k : Nat) (reads : List RowRange) (tiles : List (List Output)) :
    State × Nat × List Output :=
  let a := s.readRows k c.engine.source c.uid (rowsOf reads)
  if a.2 = 0 then a.1.commitTiles c k tiles
  else
    let r := a.1.cutTiles c k tiles
    (r.1, a.2, r.2)

/-- The accumulators that a command leaves in its store, each with its place in it, in the order of its tiles (R137). -/
def State.leaveAccs (s : State) (c : Cmd) (accs : List (Nat × BitVec 80)) : State :=
  match c.engine with
  | .loom k => { s with
    stores := accs.foldl (fun m a => Sparse.put 0 m ((2 * k + c.store) * 16384 + a.1) a.2) s.stores }
  | _ => s

/-- Ends a command whose outputs have been computed, by tile: row accesses, flags, status and short result (R159, R173).
A command that a fault stops sets each flag whose condition had arisen (R178). -/
def State.endFormed (s : State) (c : Cmd) (satReport : Bool) (reads : List RowRange) (tiles : List (List Output)) : State :=
  let k := c.engine.skein
  let r := s.commitOutputs c k reads tiles
  let t := (r.1.loomFlags k r.2.2).noteWritten c
  let os := tiles.flatten
  if r.2.1 = 0 then
    t.finish c.uid (if satReport && os.any (fun o => o.2.2.2.sat) then 0x0305 else 0) (satResult os)
  else ({ t with freeCount := t.freeCount + 1 }).finish c.uid r.2.1 0

/-- A running command with the opcode. -/
def State.runningCmd (s : State) (uid opcode : Nat) : Option Cmd :=
  match s.cmd? uid with
  | some c => if c.phase = .running ∧ c.opcode = opcode then some c else none
  | none => none

/-- A MATMUL runs (R136): region check, operands read, C formed and written, flags and result. -/
def State.runMatmul (s : State) (c : Cmd) (x : Matmul) : State :=
  let k := c.engine.skein
  if s.inRegions c.job (c.reads ++ c.writes) then
    let fixed := s.fixedTwist c.job
    (s.endFormed c x.satReport c.reads (x.tiles s k fixed c.even c.routed)).leaveAccs c
      (tilesOf x.m x.n (placed ((x.gemm s k).acc fixed))).flatten
  else s.finish c.uid 0x0204 0

/-- MATMUL (R136 to R163): the running command computes C = A · B and ends. -/
def execMatmul (uid beats : Nat) (s : State) : Host.Outcome State Fault Refusal :=
  .next (match s.runningCmd uid 0x01 with
    | none => s
    | some c =>
      let t := s.chargeCmd c beats
      match matmulCheck c.desc, Matmul.ofBytes c.desc with
      | none, some x => t.runMatmul c x
      | _, _ => t.finish uid 0x0102 0)

end Sys2Proof.Machine
end

