-- ==== Sys2Proof/Machine/Kv.lean ====
section
/-! DEFINITION. The KV cache (R221 to R237, R251, R252, R258): stream contexts, staging slots, KVAPPEND,
flushes into pages, the free ring and the set-up commands of the pool. -/

namespace Sys2Proof.Machine

/-! ## Stream contexts -/

/-- The number in bytes `off` to `off + n - 1` of a stream's context (Table 8.1). -/
def State.ctx (s : State) (stream off n : Nat) : Nat := s.loadNat (Mem.context stream + off) n
/-- Gives bytes of a stream's context a value. -/
def State.ctxPut (s : State) (stream off n v : Nat) : State := s.storeNat (Mem.context stream + off) n v

/-- LIST_ADDR. -/
def State.ctxListAddr (s : State) (t : Nat) : Nat := s.ctx t 0 8
/-- LIST_CAP. -/
def State.ctxListCap (s : State) (t : Nat) : Nat := s.ctx t 8 4
/-- PAGES. -/
def State.ctxPages (s : State) (t : Nat) : Nat := s.ctx t 12 4
/-- LEN. -/
def State.ctxLen (s : State) (t : Nat) : Nat := s.ctx t 16 4
/-- APPEND_TAG. -/
def State.ctxTag (s : State) (t : Nat) : Nat := s.ctx t 20 1
/-- The head dimension D. -/
def State.ctxD (s : State) (t : Nat) : Nat := 2 ^ (s.ctx t 21 1 % 16)
/-- SLOT, 0xFF none. -/
def State.ctxSlot (s : State) (t : Nat) : Nat := s.ctx t 22 1
/-- PEND_SLOT, 0xFF none. -/
def State.ctxPendSlot (s : State) (t : Nat) : Nat := s.ctx t 23 1
/-- STAGED. -/
def State.ctxStaged (s : State) (t : Nat) : Nat := s.ctx t 24 2
/-- PEND_COUNT. -/
def State.ctxPendCount (s : State) (t : Nat) : Nat := s.ctx t 36 2
/-- APPEND_K_SCALE. -/
def State.ctxKScale (s : State) (t : Nat) : Nat := s.ctx t 28 4
/-- APPEND_V_SCALE. -/
def State.ctxVScale (s : State) (t : Nat) : Nat := s.ctx t 32 4

/-- Whether a command is an ATTN, a KVAPPEND or a MOVE of source kind 0x3: it names its stream (R222). -/
def Cmd.namesStream (c : Cmd) : Bool :=
  c.opcode == 0x05 || c.opcode == 0x06 || (c.opcode == 0x09 && c.field 40 1 % 16 == 3)

/-- Whether an admitted command names the stream. -/
def State.streamNamed (s : State) (t : Nat) : Bool := s.cmds.any (fun c => c.namesStream && c.stream == t)

/-- A context is in CONFIG (R222). -/
def State.ctxConfig (s : State) (t : Nat) : Bool :=
  s.ctxSlot t == 0xFF && s.ctxPendSlot t == 0xFF && !s.streamNamed t

/-- Whether a job may name the stream (R224). -/
def State.streamOk (s : State) (job t : Nat) : Bool :=
  s.ctx t 27 1 % 2 == 1 && s.ctx t 26 1 == job && s.isSet Fld.MEMC_KV_CTRL_ENABLE 0

/-- Bytes of an element by tag (Table 8.3); none for an unsupported tag (R228). -/
def tagBytes : Nat → Option Nat
  | 1 => some 1
  | 2 => some 1
  | 3 => some 2
  | _ => none

/-- PPP: the positions that a page holds (R226). -/
def ppp (d b : Nat) : Nat := 32768 / (d * b)

/-! ## Staging slots -/

/-- Whether slot p of a stream is still needed: filling, pending, taken by a KVAPPEND, or in a snapshot of
an ATTN that has not completed (R252). -/
def State.slotLive (s : State) (p t : Nat) : Bool :=
  s.ctxSlot t == p || s.ctxPendSlot t == p ||
  s.cmds.any (fun c => match c.work with
    | .appendWrite (some q) => q == p
    | .snap v | .attnDone v _ => v.slot == p || v.pendSlot == p
    | _ => false)


/-- The free staging slots in ascending order. -/
def State.freeSlots (s : State) : List Nat :=
  (List.range 128).filter (fun p => !s.kv.used.any (fun u => u.1 == p))

/-- Takes a free slot for a stream: which one, the spec leaves open. -/
def State.takeSlot (s : State) (t : Nat) : State × Option Nat :=
  let free := s.freeSlots
  match free[(Config.freeWord s.freeCount).toNat % free.length]? with
  | none => (s, none)
  | some p =>
    let u := { s with freeCount := s.freeCount + 1, kv := { s.kv with used := s.kv.used ++ [(p, t)] } }
    (u.set Fld.MEMC_KV_STATUS_SLOTS_USED 0 u.kv.used.length, some p)

/-- Makes the filling slot of a stream its pending slot with `count` positions (R232, R234). -/
def State.pendStream (s : State) (t count : Nat) : State :=
  ((((s.ctxPut t 23 1 (s.ctxSlot t)).ctxPut t 36 2 count).ctxPut t 22 1 0xFF).ctxPut t 24 2 0).set
    Fld.MEMC_KV_STATUS_PEND_FLUSH 0 (s.get Fld.MEMC_KV_STATUS_PEND_FLUSH 0 + 1)

/-- Whether a KVAPPEND is writing positions of a stream. -/
def State.streamWritten (s : State) (t : Nat) : Bool :=
  s.cmds.any (fun c => c.stream == t && (match c.work with
    | .appendWrite _ => true
    | _ => false))

/-- The filling slot of a stream becomes the partial page that waited for PEND_SLOT, once no KVAPPEND writes into it
(R234). -/
def State.pendWanted (s : State) (t : Nat) : State :=
  if s.ctxPendSlot t ≠ 0xFF ∨ s.streamWritten t = true then s else
  let u := { s with kv := { s.kv with want := s.kv.want.filter (fun x => x != t) } }
  if u.ctxSlot t = 0xFF then u else u.pendStream t (u.ctxStaged t)

/-- What waits in the KV engine goes on where it can: partial pages become pending, the slots that nothing needs return to
the free set (R252), and the KVAPPENDs that are over leave the line. -/
def State.kvSweep (s : State) : State :=
  let t := s.forEach s.kv.want State.pendWanted
  let left := t.kv.used.filter (fun p => t.slotLive p.1 p.2)
  { t with kv := { t.kv with used := left, line := t.kv.line.filter (fun u => (t.cmd? u).isSome) } }.set
    Fld.MEMC_KV_STATUS_SLOTS_USED 0 left.length

/-! ## KVAPPEND -/

/-- The fields of a KVAPPEND payload (Table 8.4). -/
structure Append where
  flush : Bool
  bobbin : Bool
  skein : Nat
  count : Nat
  kSrc : Nat
  vSrc : Nat
  deriving DecidableEq, Repr

/-- Reads a KVAPPEND payload. -/
def Append.ofBytes (d : List Byte) : Append :=
  ⟨fieldOf d 24 1 / 16 % 2 == 1, fieldOf d 24 1 % 16 == 1, fieldOf d 25 1 % 64, fieldOf d 26 2,
   fieldOf d 32 8, fieldOf d 40 8⟩

/-- Rows of one source extent. -/
def Append.rows (x : Append) (d b : Nat) : Nat := ceilDiv (x.count * d * b) 512

/-- The read footprint: the bobbin rows of both sources. -/
def Append.reads (x : Append) (d b : Nat) : List RowRange :=
  if x.bobbin then
    [⟨x.skein, x.kSrc, x.kSrc + x.rows d b - 1⟩, ⟨x.skein, x.vSrc, x.vSrc + x.rows d b - 1⟩]
  else []

/-- R224 and R230: none when the command is accepted, the status otherwise. -/
def appendCheck (s : State) (job stream : Nat) (d : List Byte) : Option Nat :=
  let x := Append.ofBytes d
  if !s.streamOk job stream then some 0x0102 else
  if fieldOf d 24 1 / 32 != 0 || decide (1 < fieldOf d 24 1 % 16) || decide (64 ≤ fieldOf d 25 1) ||
    fieldOf d 28 4 != 0 || fieldOf d 48 16 != 0 || (!x.bobbin && fieldOf d 25 1 != 0) then some 0x0102 else
  match tagBytes (s.ctxTag stream) with
  | none => some 0x0103
  | some b =>
    let dd := s.ctxD stream
    if decide (x.count < 1) || decide (ppp dd b < x.count) then some 0x0102 else
    if x.bobbin then
      if decide (16384 ≤ x.kSrc) || decide (16384 ≤ x.vSrc) || !rangesFit (x.reads dd b) then some 0x0102
      else none
    else if x.kSrc % 64 != 0 || x.vSrc % 64 != 0 then some 0x0202 else none

/-- Positions that the list check of R231 needs. -/
def State.appendFits (s : State) (t b : Nat) (x : Append) : Bool :=
  let full := if ppp (s.ctxD t) b ≤ s.ctxStaged t + x.count then 1 else 0
  let pend := if s.ctxPendSlot t = 0xFF then 0 else 1
  decide (s.ctxPages t + pend + full + (if x.flush then 1 else 0) ≤ s.ctxListCap t)

/-- Whether a KVAPPEND needs a new slot (R231). -/
def State.appendNeedsSlot (s : State) (t b : Nat) (x : Append) : Bool :=
  decide (ppp (s.ctxD t) b < s.ctxStaged t + x.count) || s.ctxSlot t == 0xFF

/-- Whether both conditions of R231 hold. -/
def State.appendReady (s : State) (t b : Nat) (x : Append) : Bool :=
  (!s.appendNeedsSlot t b x || !s.freeSlots.isEmpty) &&
  (decide (s.ctxStaged t + x.count < ppp (s.ctxD t) b) || s.ctxPendSlot t == 0xFF)

/-- Whether a running KVAPPEND could write now: it has not been checked yet, or what it waits for holds (R231). -/
def State.appendDue (s : State) (c : Cmd) : Bool :=
  decide (c.phase = .running) && (match c.work, tagBytes (s.ctxTag c.stream) with
    | .plain, _ => true
    | .appendWait, some b => s.appendReady c.stream b (Append.ofBytes c.desc)
    | _, _ => false)

/-- Whether it is a KVAPPEND's turn: no other writes, and none that became ready before it could (R231). -/
def State.kvTurn (s : State) (c : Cmd) : Bool :=
  !s.cmds.any (fun c => match c.work with
    | .appendWrite _ => true
    | _ => false) &&
  (s.kv.line.takeWhile (fun u => u != c.uid)).all (fun u => match s.cmd? u with
    | some d => !s.appendDue d
    | none => true)

/-- A KVAPPEND that has started joins the line (R231). -/
def State.kvJoin (s : State) (uid : Nat) : State := { s with kv := { s.kv with line := s.kv.line ++ [uid] } }

/-- The command proceeds: it takes the slot it needs and writes. -/
def State.appendProceed (s : State) (c : Cmd) (b : Nat) (x : Append) : State :=
  if s.appendNeedsSlot c.stream b x then
    let r := s.takeSlot c.stream
    r.1.modCmd c.uid (fun c => { c with work := .appendWrite r.2 })
  else s.modCmd c.uid (fun c => { c with work := .appendWrite none })

/-- A KVAPPEND starts: its checks, then it proceeds or waits (R230, R231). -/
def State.appendStart (s : State) (c : Cmd) : State :=
  let x := Append.ofBytes c.desc
  match appendCheck s c.job c.stream c.desc, tagBytes (s.ctxTag c.stream) with
  | none, some b =>
    if !s.inRegions c.job (x.reads (s.ctxD c.stream) b) then s.finish c.uid 0x0204 0
    else if !s.appendFits c.stream b x then s.finish c.uid 0x0204 0
    else if s.appendReady c.stream b x then s.appendProceed c b x
    else s.modCmd c.uid (fun c => { c with work := .appendWait, since := s.refTime })
  | some st, _ => s.finish c.uid st 0
  | none, none => s.finish c.uid 0x0103 0

/-- KVAPPEND (R231): at its turn the running command checks the list's capacity, then proceeds or waits. -/
def execKvappend (uid beats : Nat) (s : State) : Host.Outcome State Fault Refusal :=
  .next (match s.runningCmd uid 0x06 with
    | none => s
    | some c => if c.work = .plain ∧ s.kvTurn c = true then (s.chargeCmd c beats).appendStart c else s)

/-- KVAPPEND_WAIT_END (R231): both conditions hold for a waiting command, and it is its turn. -/
def execKvappendWaitEnd (uid : Nat) (s : State) : Host.Outcome State Fault Refusal :=
  .next (match s.runningCmd uid 0x06 with
    | none => s
    | some c =>
      match c.work, tagBytes (s.ctxTag c.stream) with
      | .appendWait, some b =>
        if s.appendDue c && s.kvTurn c then s.appendProceed c b (Append.ofBytes c.desc) else s
      | _, _ => s)

/-- WAIT_MAX in ticks. -/
def State.kvWaitMax (s : State) : Nat := s.get Fld.MEMC_KV_CTRL_WAIT_MAX 0 * Config.us

/-- KVAPPEND_TIMEOUT (R231): a command that has waited WAIT_MAX µs appends nothing. -/
def execKvappendTimeout (uid : Nat) (s : State) : Host.Outcome State Fault Refusal :=
  .next (match s.runningCmd uid 0x06 with
    | none => s
    | some c =>
      if c.work = .appendWait ∧ s.appendDue c = false ∧ c.since + s.kvWaitMax ≤ s.refTime then
        (s.finish uid 0x0402 0).raise Flg.MEMC_KV_EVT_APPEND_TIMEOUT 0
      else s)

/-- The bytes of appended position i of one half (R229). -/
def Append.bytes (x : Append) (s : State) (src len i : Nat) : List Byte :=
  if x.bobbin then (List.range len).map (fun j => s.bobByte x.skein (src * 512 + i * len + j))
  else s.load (Mem.lpddr (src + i * len)) len

/-- Writes appended position i at index `at` of a slot, its key and its value (R226, R232). -/
def Append.put (x : Append) (src : State) (len slot place i : Nat) (s : State) : State :=
  let base := Mem.staging slot + place * len
  (s.store base (x.bytes src x.kSrc len i)).store (base + 32768) (x.bytes src x.vSrc len i)

/-- The positions land: those that fit in the filling slot from STAGED on, the rest in the new slot; the
context changes in the same step (R232). -/
def State.appendLand (s : State) (c : Cmd) (b : Nat) (new : Option Nat) : State :=
  let t := c.stream
  let x := Append.ofBytes c.desc
  let d := s.ctxD t
  let len := d * b
  let cap := ppp d b
  let old := s.ctxSlot t
  let staged := s.ctxStaged t
  let first := if old = 0xFF then new.getD 0 else old
  let room := cap - staged
  let n0 := min x.count room
  let u := s.forEach (List.range n0) (fun u i => x.put s len first (staged + i) i u)
  let v := u.forEach (List.range (x.count - n0)) (fun u i => x.put s len (new.getD 0) i (n0 + i) u)
  let w := (v.ctxPut t 16 4 (s.ctxLen t + x.count)).ctxPut t 22 1 first
  if staged + x.count < cap then w.ctxPut t 24 2 (staged + x.count)
  else
    let p := w.pendStream t cap
    if x.count = n0 then p
    else (p.ctxPut t 22 1 (new.getD 0)).ctxPut t 24 2 (x.count - n0)

/-- The digest of the positions that a KVAPPEND writes (R523): which row numbers they take, the spec leaves open. -/
def Append.digest (x : Append) (s : State) (stream : Nat) : Nat :=
  let n := x.count * s.ctxD stream * (tagBytes (s.ctxTag stream)).getD 1
  (Config.appendDigest (x.bytes s x.kSrc n 0 ++ x.bytes s x.vSrc n 0)).toNat

/-- With FLUSH, the filling slot becomes a partial page, at once or once PEND_SLOT is free (R234). -/
def State.appendFlush (s : State) (t : Nat) : State :=
  if s.ctxPendSlot t = 0xFF then s.pendStream t (s.ctxStaged t)
  else { s with kv := { s.kv with want := s.kv.want ++ [t] } }

/-- The bytes that a KVAPPEND reads from LPDDR are charged to its job's client (R420). -/
def State.chargeAppend (s : State) (c : Cmd) (x : Append) (b : Nat) : State :=
  if x.bobbin then s
  else s.accum Fld.HEDDLE_ACCT_BYTES_LPDDR_RD_COUNT (s.accountRow c) (2 * x.count * s.ctxD c.stream * b)

/-- KVAPPEND_COMMIT (R232, R234): the last byte is written. -/
def execKvappendCommit (uid : Nat) (s : State) : Host.Outcome State Fault Refusal :=
  .next (match s.runningCmd uid 0x06 with
    | none => s
    | some c =>
      match c.work, tagBytes (s.ctxTag c.stream) with
      | .appendWrite new, some b =>
        let x := Append.ofBytes c.desc
        let rows := x.reads (s.ctxD c.stream) b
        let r := s.readRows x.skein c.engine.source uid (rowsOf rows)
        if r.2 = 0 then
          let d := x.digest s c.stream
          let t := ((r.1.chargeAppend c x b).appendLand c b new).modCmd uid (fun c => { c with digest := d })
          let len := t.ctxLen c.stream
          if x.flush && t.ctxSlot c.stream != 0xFF && decide (0 < t.ctxStaged c.stream) then
            ((t.modCmd uid (fun c => { c with work := .appendFlush len, since := s.refTime })).appendFlush c.stream).kvSweep
          else ((t.modCmd uid (fun c => { c with work := .plain })).finish uid 0 len).kvSweep
        else ((r.1.modCmd uid (fun c => { c with work := .plain })).finish uid r.2 0).kvSweep
      | _, _ => s)

/-! ## Flushes -/

/-- Entries in the free ring (R235). -/
def State.freeRing (s : State) : Nat :=
  (s.get Fld.MEMC_KV_FREE_TAIL_TAIL 0 + 2 ^ 32 - s.get Fld.MEMC_KV_FREE_HEAD_HEAD 0) % 2 ^ 32

/-- Free-ring entry j (R235). -/
def State.freeEntry (s : State) (j : Nat) : Nat :=
  s.loadNat (Mem.lpddr (64 * s.get Fld.MEMC_KV_FREE_BASE_BASE 0 +
    4 * (j % 2 ^ s.get Fld.MEMC_KV_CTRL_FREE_LOG2 0))) 4

/-- Takes one number from the ring; a take that leaves fewer than LOW entries sets FREE_LOW (R235). -/
def State.takeEntry (s : State) : State × Nat :=
  let j := s.get Fld.MEMC_KV_FREE_HEAD_HEAD 0
  let t := s.set Fld.MEMC_KV_FREE_HEAD_HEAD 0 (j + 1)
  (t.doIf (decide (t.freeRing < t.get Fld.MEMC_KV_FREE_LOW_LOW 0)) (fun u => u.raise Flg.MEMC_KV_EVT_FREE_LOW 0),
   s.freeEntry j)

/-- Takes numbers until one is valid; each invalid one sets FREE_BAD (R233). -/
def State.takePage (s : State) : Nat → State × Option Nat
  | 0 => (s, none)
  | n + 1 =>
    if s.freeRing = 0 then (s, none) else
    let r := s.takeEntry
    if r.2 < s.get Fld.MEMC_KV_POOL_PAGES_PAGES 0 then (r.1, some r.2)
    else (r.1.raise Flg.MEMC_KV_EVT_FREE_BAD 0).takePage n

/-- Where page p lies (R225). -/
def State.pageAddr (s : State) (p : Nat) : Nat :=
  65536 * s.get Fld.MEMC_KV_POOL_BASE_BASE 0 + p * 65536

/-- Copies a slot into a page and writes its list entry; then PAGES counts it and PEND_SLOT is free (R233).  The bytes are
charged to the client of the stream's job (R420). -/
def State.flushInto (s : State) (t page : Nat) : State :=
  let n := s.ctxPendCount t * s.ctxD t * (tagBytes (s.ctxTag t)).getD 1
  let slot := Mem.staging (s.ctxPendSlot t)
  let a := s.pageAddr page
  let tag := s.ctxTag t
  let e := s.ctxListAddr t + 16 * s.ctxPages t
  let paid := s.accum Fld.HEDDLE_ACCT_BYTES_LPDDR_WR_COUNT (s.get Fld.RING_JOB_CLIENT (s.ctx t 26 1)) (2 * n + 16)
  let u := (paid.store (Mem.lpddr a) (s.load slot n)).store (Mem.lpddr (a + 32768)) (s.load (slot + 32768) n)
  let v := (((((u.storeNat (Mem.lpddr e) 4 page).storeNat (Mem.lpddr (e + 4)) 1 tag).storeNat
    (Mem.lpddr (e + 5)) 1 0).storeNat (Mem.lpddr (e + 6)) 2 (s.ctxPendCount t)).storeNat
    (Mem.lpddr (e + 8)) 4 (if tag = 2 then s.ctxKScale t else 0)).storeNat
    (Mem.lpddr (e + 12)) 4 (if tag = 2 then s.ctxVScale t else 0)
  ((v.ctxPut t 12 4 (s.ctxPages t + 1)).ctxPut t 23 1 0xFF).set Fld.MEMC_KV_STATUS_PEND_FLUSH 0
    (s.get Fld.MEMC_KV_STATUS_PEND_FLUSH 0 - 1)

/-- After a flush the KVAPPEND that waited for it ends, unless its partial page has still to become pending (R234). -/
def State.flushDone (s : State) (t : Nat) : State :=
  if t ∈ s.kv.want then s
  else
    { s with cmds := s.cmds.map (fun c => match c.work with
      | .appendFlush len =>
        if c.stream = t then s.ending { c with work := .plain } 0 len else c
      | _ => c) }

/-- SLOT_FLUSH (R233): the hub flushes the stream's pending slot, or finds the free ring empty. -/
def execSlotFlush (stream : Nat) (s : State) : Host.Outcome State Fault Refusal :=
  .next (if s.ctxPendSlot stream = 0xFF ∨ stream ∈ s.kv.starved then s else
    match s.takePage (s.freeRing + 1) with
    | (t, none) =>
      { t with kv := { t.kv with starved := t.kv.starved ++ [stream] } }.raise Flg.MEMC_KV_EVT_POOL_EMPTY 0
    | (t, some p) =>
      (((t.flushInto stream p).count Fld.MEMC_KV_CNT_FLUSH_COUNT 0 1).flushDone stream).kvSweep)

/-- FLUSH_DEADLINE (R234): the flush has not completed within WAIT_MAX µs of the commit. -/
def execFlushDeadline (uid : Nat) (s : State) : Host.Outcome State Fault Refusal :=
  .next (match s.runningCmd uid 0x06 with
    | none => s
    | some c =>
      match c.work with
      | .appendFlush len =>
        if c.since + s.kvWaitMax ≤ s.refTime then
          ((s.modCmd uid (fun c => { c with work := .plain })).finish uid 0x0402 len).raise
            Flg.MEMC_KV_EVT_APPEND_TIMEOUT 0
        else s
      | _ => s)

/-! ## Set-up -/

/-- DROP_STAGE (R236), on the stream that MEMC_CTX_SEL shows. -/
def execDropStage (stream : Nat) (s : State) : Host.Outcome State Fault Refusal :=
  .next (s.host fun s => if s.streamNamed stream || s.ctxPendSlot stream != 0xFF then
    s.raise Flg.MEMC_KV_EVT_CFG_REFUSED 0
  else
    (((s.ctxPut stream 16 4 (s.ctxLen stream + 2 ^ 32 - s.ctxStaged stream)).ctxPut stream 24 2 0).ctxPut
      stream 22 1 0xFF).kvSweep)

/-- KV_ENABLE_WRITE (R258). -/
def execKvEnableWrite (enable : Bool) (s : State) : Host.Outcome State Fault Refusal :=
  .next (s.host fun s => if enable then s.set Fld.MEMC_KV_CTRL_ENABLE 0 1
  else if s.get Fld.MEMC_KV_STATUS_SLOTS_USED 0 != 0 || s.cmds.any Cmd.namesStream then
    s.raise Flg.MEMC_KV_EVT_CFG_REFUSED 0
  else s.set Fld.MEMC_KV_CTRL_ENABLE 0 0)

/-- FREE_TAIL_WRITE (R235): the host supplies entries; flushes that wait for one go on. -/
def execFreeTailWrite (tail : Nat) (s : State) : Host.Outcome State Fault Refusal :=
  .next (s.host fun s => let t := s.set Fld.MEMC_KV_FREE_TAIL_TAIL 0 tail
    if s.get Fld.MEMC_KV_FREE_TAIL_TAIL 0 = t.get Fld.MEMC_KV_FREE_TAIL_TAIL 0 then t
    else { t with kv := { t.kv with starved := [] } })

end Sys2Proof.Machine
end

