-- ==== Sys2Proof/Machine/Vector.lean ====
section
/-! DEFINITION. The vector engine's VEC (R164 to R174) and POOL (R212 to R216). -/

namespace Sys2Proof.Machine

/-! ## Element types -/

/-- A VEC element type (Table 5.12). -/
inductive VType where
  | int (f : IntFmt) | flt (f : Fmt)
  deriving DecidableEq, Repr

/-- Table 5.12. -/
def vType : Nat → Option VType
  | 0x0 => some (.int ⟨8, true⟩)
  | 0x1 => some (.int ⟨8, false⟩)
  | 0x2 => some (.int ⟨16, true⟩)
  | 0x3 => some (.int ⟨32, true⟩)
  | 0x4 => some (.flt .e4m3)
  | 0x5 => some (.flt .e5m2)
  | 0x6 => some (.flt .bf16)
  | 0x7 => some (.flt .fp16)
  | 0x8 => some (.flt .fp32)
  | _ => none

/-- Bits of an element. -/
def VType.bits : VType → Nat
  | .int f => f.bits
  | .flt f => f.width

/-- Widening to FP32: integers beyond 2²⁴ round to nearest even (Table 5.12). -/
def VType.widen (t : VType) (v : Nat) : Fl × Bool :=
  match t with
  | .int f => ((Fmt.fp32.round (Fl.ofInt (f.decode v))).1, false)
  | .flt f => (f.decode v, false)

/-- The one conversion to OUT_TYPE (R169, R196). -/
def VType.narrow (t : VType) (even : Bool) (x : Fl × Bool) : OutElem :=
  match t with
  | .flt f => outFloat f x.1 x.2 false
  | .int f =>
    let r := x.1.toInt even f.lo f.hi
    ⟨unsigned f.bits r.1, x.2 || r.2, false, false, false, none, none⟩

/-! ## Operations -/

/-- The operations of Table 5.13. -/
inductive VOp where
  | add | sub | mul | max | min | muladd | affine | convert | exp | recip | rsqrt | relu
  | rsum | rmax | softmax | rmsnorm | layernorm
  deriving DecidableEq, Repr

/-- Table 5.13. -/
def vOp : Nat → Option VOp
  | 0x01 => some .add | 0x02 => some .sub | 0x03 => some .mul | 0x04 => some .max | 0x05 => some .min
  | 0x06 => some .muladd | 0x07 => some .affine | 0x10 => some .convert | 0x11 => some .exp
  | 0x12 => some .recip | 0x13 => some .rsqrt | 0x14 => some .relu | 0x20 => some .rsum
  | 0x21 => some .rmax | 0x22 => some .softmax | 0x23 => some .rmsnorm | 0x24 => some .layernorm
  | _ => none

/-- Whether the operation reads B. -/
def VOp.usesB : VOp → Bool
  | .add | .sub | .mul | .max | .min | .muladd | .rmsnorm | .layernorm => true
  | _ => false

/-- Whether the operation reads C. -/
def VOp.usesC : VOp → Bool
  | .layernorm => true
  | _ => false

/-- Whether the operation is a row reduction. -/
def VOp.reduces : VOp → Bool
  | .rsum | .rmax => true
  | _ => false

/-- An FP32 value with whether forming it saturated anything. -/
abbrev Fs := Fl × Bool

/-- A two-operand FP32 step over values that carry their saturation. -/
def Fs.op2 (op : Fl → Fl → Fl × Bool) (a b : Fs) : Fs :=
  let r := op a.1 b.1
  (r.1, a.2 || b.2 || r.2)

/-- A one-operand step over a value that carries its saturation. -/
def Fs.op1 (op : Fl → Fl × Bool) (a : Fs) : Fs :=
  let r := op a.1
  (r.1, a.2 || r.2)

/-- Fused multiply–add over values that carry their saturation. -/
def Fs.fma (a b c : Fs) : Fs :=
  let r := ffma a.1 b.1 c.1
  (r.1, a.2 || b.2 || c.2 || r.2)

/-- fmax as a step. -/
def maxStep (x y : Fl) : Fl × Bool := (fmax x y, false)
/-- fmin as a step. -/
def minStep (x y : Fl) : Fl × Bool := (fmin x y, false)

/-- Cuts a list into chunks of 256, the last one padded (R170); `fuel` bounds the chunks. -/
def chunks256 (pad : Fs) : Nat → List Fs → List (List Fs)
  | 0, _ => []
  | fuel + 1, l =>
    if l.isEmpty then [] else
    let h := l.take 256
    (h ++ List.replicate (256 - h.length) pad) :: chunks256 pad fuel (l.drop 256)

/-- A row reduction (R170): each chunk by a tree of 8 levels, the chunks in ascending order. -/
def rowReduce (op : Fl → Fl → Fl × Bool) (pad : Fl) (l : List Fs) : Fs :=
  let rs := (chunks256 (pad, false) l.length l).map (fun c => (treeOf op 8 c).headD (pad, false))
  match rs with
  | [] => (pad, false)
  | r :: rest => rest.foldl (Fs.op2 op) r

/-- rsum of R170. -/
def rowSum (l : List Fs) : Fs := rowReduce fadd Fl.zero l
/-- rmax of R170. -/
def rowMax (l : List Fs) : Fs := rowReduce maxStep (.inf true) l

/-- SOFTMAX of one vector (R171). -/
def softmaxOf (a : List Fs) : List Fs :=
  let m := rowMax a
  if m.1 = .inf true then a.map (fun _ => (Fl.zero, false)) else
  let es := a.map (fun x => Fs.op1 vexp (Fs.op2 fsub x m))
  let r := Fs.op1 vrecip (rowSum es)
  es.map (fun e => Fs.op2 fmul e r)

/-- RMSNORM of one vector with gamma `b` (R171). -/
def rmsnormOf (n : Fs) (offset : Fs) (a b : List Fs) : List Fs :=
  let q := rowSum (a.map (fun x => Fs.op2 fmul x x))
  let w := Fs.op1 vrsqrt (Fs.op2 fadd (Fs.op2 fmul q (Fs.op1 vrecip n)) offset)
  List.zipWith (fun x y => Fs.op2 fmul (Fs.op2 fmul x w) y) a b

/-- LAYERNORM of one vector with gamma `b` and beta `c` (R171). -/
def layernormOf (n : Fs) (offset : Fs) (a b c : List Fs) : List Fs :=
  let rn := Fs.op1 vrecip n
  let mu := Fs.op2 fmul (rowSum a) rn
  let ds := a.map (fun x => Fs.op2 fsub x mu)
  let v := Fs.op2 fmul (rowSum (ds.map (fun d => Fs.op2 fmul d d))) rn
  let w := Fs.op1 vrsqrt (Fs.op2 fadd v offset)
  List.zipWith (fun d (yz : Fs × Fs) => Fs.fma (Fs.op2 fmul d w) yz.1 yz.2) ds (List.zip b c)

/-- RELU: a when a > 0, otherwise +0; not-a-number passes. -/
def reluOf (x : Fl) : Fl := if x.isNan then .nan else if Fl.zero.lt false x then x else Fl.zero

/-- The results of one vector: E elements, or one for a row reduction (Table 5.13). -/
def VOp.apply (op : VOp) (scalar offset n : Fs) (a b c d : List Fs) : List Fs :=
  match op with
  | .add => List.zipWith (Fs.op2 fadd) a b
  | .sub => List.zipWith (Fs.op2 fsub) a b
  | .mul => List.zipWith (Fs.op2 fmul) a b
  | .max => List.zipWith (Fs.op2 maxStep) a b
  | .min => List.zipWith (Fs.op2 minStep) a b
  | .muladd => List.zipWith (fun x (yz : Fs × Fs) => Fs.fma x yz.1 yz.2) a (List.zip b d)
  | .affine => a.map (fun x => Fs.fma x scalar offset)
  | .convert => a
  | .exp => a.map (Fs.op1 vexp)
  | .recip => a.map (Fs.op1 vrecip)
  | .rsqrt => a.map (Fs.op1 vrsqrt)
  | .relu => a.map (fun x => (reluOf x.1, x.2))
  | .rsum => [rowSum a]
  | .rmax => [rowMax a]
  | .softmax => softmaxOf a
  | .rmsnorm => rmsnormOf n offset a b
  | .layernorm => layernormOf n offset a b c

/-! ## The VEC descriptor -/

/-- The fields of a VEC payload (Table 5.11). -/
structure Vec where
  op : VOp
  inT : VType
  outT : VType
  bcast : Bool
  satReport : Bool
  r : Nat
  e : Nat
  aRow : Nat
  bRow : Nat
  cRow : Nat
  dRow : Nat
  aLd : Nat
  bLd : Nat
  dLd : Nat
  scalar : Nat
  offset : Nat
  deriving DecidableEq, Repr

/-- Reads a VEC payload; none for a reserved OP or type. -/
def Vec.ofBytes (d : List Byte) : Option Vec :=
  match vOp (fieldOf d 24 1), vType (fieldOf d 25 1 % 16), vType (fieldOf d 25 1 / 16) with
  | some op, some i, some o =>
    some ⟨op, i, o, decide (fieldOf d 26 1 / 2 % 2 = 1), decide (fieldOf d 26 1 % 2 = 1), fieldOf d 28 2,
      fieldOf d 30 2, fieldOf d 32 2, fieldOf d 34 2, fieldOf d 36 2, fieldOf d 38 2, fieldOf d 40 2,
      fieldOf d 42 2, fieldOf d 44 2, fieldOf d 48 4, fieldOf d 52 4⟩
  | _, _, _ => none

/-- Bytes of an input vector. -/
def Vec.inBytes (x : Vec) : Nat := ceilDiv (x.e * x.inT.bits) 8
/-- Bytes of an output vector. -/
def Vec.outBytes (x : Vec) : Nat := ceilDiv (x.e * x.outT.bits) 8

/-- The write extent (R166). -/
def Vec.writes (x : Vec) (k : Nat) : List RowRange :=
  if x.op.reduces then [rangeOf k (x.dRow * 512) (ceilDiv (x.r * x.outT.bits) 8)]
  else linesExtent k x.dRow x.r x.dLd x.outBytes

/-- The read extents apart from D under MULADD. -/
def Vec.readsPlain (x : Vec) (k : Nat) : List RowRange :=
  let many := if x.bcast then 1 else x.r
  linesExtent k x.aRow x.r x.aLd x.inBytes ++
  (if x.op.usesB then linesExtent k x.bRow many x.bLd x.inBytes else []) ++
  (if x.op.usesC then linesExtent k x.cRow many x.bLd x.inBytes else [])

/-- The read extents. -/
def Vec.reads (x : Vec) (k : Nat) : List RowRange :=
  x.readsPlain k ++ (if x.op = .muladd then x.writes k else [])

/-- R172: none when the payload is accepted, the status otherwise. -/
def vecCheck (d : List Byte) : Option Nat :=
  match Vec.ofBytes d with
  | none => some 0x0102
  | some x =>
    let ok := fieldOf d 26 1 / 4 == 0 && fieldOf d 27 1 == 0 && fieldOf d 46 2 == 0 && fieldOf d 56 8 == 0 &&
      decide (1 ≤ x.r) && decide (x.r ≤ 4096) && decide (1 ≤ x.e) && decide (x.e ≤ 16384) &&
      (x.op.usesB || (x.bRow == 0 && x.bLd == 0)) && (x.op.usesC || x.cRow == 0) &&
      (!x.bcast || x.bLd == 0) &&
      (x.bcast || (decide (x.op ≠ .rmsnorm) && decide (x.op ≠ .layernorm))) &&
      (decide (x.op ≠ .muladd) || decide (x.outT = .flt Fmt.fp32)) &&
      (decide (x.r = 1) || (decide (x.inBytes ≤ x.aLd * 64) &&
        (!x.op.usesB || x.bcast || decide (x.inBytes ≤ x.bLd * 64)) &&
        (x.op.reduces || decide (x.outBytes ≤ x.dLd * 64)))) &&
      (!x.op.reduces || x.dLd == 0) &&
      rangesFit (x.reads 0) && rangesFit (x.writes 0) &&
      !rangesMeet (x.writes 0) (x.readsPlain 0)
    if ok then none else some 0x0102

/-- E elements of a type from a byte offset, widened. -/
def vecElems (s : State) (k : Nat) (t : VType) (byte e : Nat) : List Fs :=
  (List.range e).map (fun i => t.widen (bobBits s k byte (i * t.bits) t.bits))

/-- The outputs of vector v with their places (R166). -/
def Vec.outputs (x : Vec) (s : State) (k : Nat) (even : Bool) (v : Nat) : List Output :=
  let w := if x.bcast then 0 else v
  let a := vecElems s k x.inT (x.aRow * 512 + v * x.aLd * 64) x.e
  let b := if x.op.usesB then vecElems s k x.inT (x.bRow * 512 + w * x.bLd * 64) x.e else []
  let c := if x.op.usesC then vecElems s k x.inT (x.cRow * 512 + w * x.bLd * 64) x.e else []
  let d := if x.op = .muladd then vecElems s k x.outT (x.dRow * 512 + v * x.dLd * 64) x.e else []
  let rs := x.op.apply (Fmt.fp32.decode x.scalar, false) (Fmt.fp32.decode x.offset, false)
    (Fl.ofInt x.e, false) a b c d
  let w := x.outT.bits
  if x.op.reduces then rs.map (fun r => (x.dRow * 512, v * w, w, x.outT.narrow even r))
  else (List.zip (List.range rs.length) rs).map
    (fun p => (x.dRow * 512 + v * x.dLd * 64, p.1 * w, w, x.outT.narrow even p.2))

/-- Ends a vector command whose outputs have been computed: one tile.  It saturates under R153 and sets the flags of R178 as
a loom command does (DEDUCED from R153, R169 and R196). -/
def State.endVector (s : State) (c : Cmd) (satReport : Bool) (reads : List RowRange) (os : List Output) : State :=
  s.endFormed c satReport reads [os]

/-- All outputs of a VEC with their places. -/
def Vec.allOutputs (x : Vec) (s : State) (k : Nat) (even : Bool) : List Output :=
  ((List.range x.r).map (x.outputs s k even)).flatten

/-- A VEC runs (R168 to R173). -/
def State.runVec (s : State) (c : Cmd) (x : Vec) : State :=
  if s.inRegions c.job (c.reads ++ c.writes) then
    s.endVector c x.satReport c.reads (x.allOutputs s c.engine.skein c.even)
  else s.finish c.uid 0x0204 0

/-- VEC (R164 to R174): the running command forms its vectors and ends. -/
def execVec (uid beats : Nat) (s : State) : Host.Outcome State Fault Refusal :=
  .next (match s.runningCmd uid 0x04 with
    | none => s
    | some c =>
      let t := s.chargeCmd c beats
      match vecCheck c.desc, Vec.ofBytes c.desc with
      | none, some x => t.runVec c x
      | _, _ => t.finish uid 0x0102 0)

/-! ## POOL -/

/-- Where windows of a sliding operation lie over a map (R200, R206). -/
structure Windows where
  h : Nat
  w : Nat
  kh : Nat
  kw : Nat
  sy : Nat
  sx : Nat
  dy : Nat
  dx : Nat
  padT : Nat
  padB : Nat
  padL : Nat
  padR : Nat
  deriving DecidableEq, Repr

/-- The numerator of OH in R206. -/
def Windows.numH (g : Windows) : Int := (g.h : Int) + g.padT + g.padB - g.dy * ((g.kh : Int) - 1) - 1
/-- The numerator of OW in R206. -/
def Windows.numW (g : Windows) : Int := (g.w : Int) + g.padL + g.padR - g.dx * ((g.kw : Int) - 1) - 1
/-- OH of R206. -/
def Windows.oh (g : Windows) : Nat := if g.numH < 0 then 0 else g.numH.toNat / g.sy + 1
/-- OW of R206. -/
def Windows.ow (g : Windows) : Nat := if g.numW < 0 then 0 else g.numW.toNat / g.sx + 1

/-- The input pixel that a tap of an output position reads, as its index in raster order; none in the
padding (R200). -/
def Windows.pixel (g : Windows) (oy ox ky kx : Nat) : Option Nat :=
  let y : Int := (oy * g.sy : Nat) - (g.padT : Int) + (ky * g.dy : Nat)
  let x : Int := (ox * g.sx : Nat) - (g.padL : Int) + (kx * g.dx : Nat)
  if 0 ≤ y ∧ y < g.h ∧ 0 ≤ x ∧ x < g.w then some (y.toNat * g.w + x.toNat) else none

/-- The extent of a feature map (R198, R206). -/
def mapExtent (k row pixels ps : Nat) : RowRange := ⟨k, row, row + ceilDiv (pixels * ps) 8 - 1⟩

/-- The fields of a POOL payload (Table 7.3). -/
structure Pool where
  t : VType
  countAll : Bool
  avg : Bool
  global : Bool
  g : Windows
  c : Nat
  inPs : Nat
  outPs : Nat
  inRow : Nat
  outRow : Nat
  zp : Nat
  deriving DecidableEq, Repr

/-- FMT of a POOL: codes 0, 1, 4, 5, 0xB and 0xC of Table 5.1. -/
def poolType : Nat → Option VType
  | 0x0 => some (.int ⟨8, true⟩)
  | 0x1 => some (.int ⟨8, false⟩)
  | 0x4 => some (.flt .e4m3)
  | 0x5 => some (.flt .e5m2)
  | 0xB => some (.flt .bf16)
  | 0xC => some (.flt .fp16)
  | _ => none

/-- Reads a POOL payload; none for a FMT that Table 7.3 does not list. -/
def Pool.ofBytes (d : List Byte) : Option Pool :=
  match poolType (fieldOf d 24 1) with
  | none => none
  | some t =>
    let h := fieldOf d 28 2
    let w := fieldOf d 30 2
    let glob := decide (fieldOf d 26 1 % 2 = 1)
    let g : Windows :=
      if glob then ⟨h, w, h, w, 1, 1, 1, 1, 0, 0, 0, 0⟩
      else ⟨h, w, fieldOf d 34 1 / 16 + 1, fieldOf d 34 1 % 16 + 1, fieldOf d 35 1 / 16 % 8 + 1,
        fieldOf d 35 1 % 8 + 1, 1, 1, fieldOf d 36 1 % 16, fieldOf d 36 1 / 16, fieldOf d 37 1 % 16,
        fieldOf d 37 1 / 16⟩
    some ⟨t, decide (fieldOf d 25 1 / 2 % 2 = 1), decide (fieldOf d 25 1 % 2 = 1), glob, g, fieldOf d 32 2,
      fieldOf d 38 1, fieldOf d 39 1, fieldOf d 40 2, fieldOf d 42 2, fieldOf d 44 1⟩

/-- The read extent of a POOL. -/
def Pool.reads (x : Pool) (k : Nat) : List RowRange := [mapExtent k x.inRow (x.g.h * x.g.w) x.inPs]
/-- The write extent of a POOL. -/
def Pool.writes (x : Pool) (k : Nat) : List RowRange := [mapExtent k x.outRow (x.g.oh * x.g.ow) x.outPs]

/-- The rows that a POOL reads: those that hold a channel of a pixel (R198). -/
def Pool.touched (x : Pool) (k : Nat) : List RowRange :=
  linesExtent k x.inRow (x.g.h * x.g.w) x.inPs (ceilDiv (x.c * x.t.bits) 8)

/-- R213: none when the payload is accepted, the status otherwise. -/
def poolCheck (d : List Byte) : Option Nat :=
  match Pool.ofBytes d with
  | none => some 0x0102
  | some x =>
    let isFlt := match x.t with
      | .flt _ => true
      | _ => false
    let ok := fieldOf d 25 1 / 4 == 0 && fieldOf d 26 1 / 2 == 0 && fieldOf d 27 1 == 0 &&
      fieldOf d 35 1 / 8 % 2 == 0 && fieldOf d 35 1 / 128 == 0 && fieldOf d 45 1 == 0 && fieldOf d 46 18 == 0 &&
      (!x.global || (fieldOf d 34 4 == 0)) && (!isFlt || x.zp == 0) &&
      decide (1 ≤ x.g.h) && decide (x.g.h ≤ 4096) && decide (1 ≤ x.g.w) && decide (x.g.w ≤ 4096) &&
      decide (1 ≤ x.c) && decide (x.c ≤ 16384) && decide (1 ≤ x.inPs) && decide (1 ≤ x.outPs) &&
      (x.global || (decide (x.g.padT < x.g.kh) && decide (x.g.padB < x.g.kh) && decide (x.g.padL < x.g.kw) &&
        decide (x.g.padR < x.g.kw))) &&
      decide (1 ≤ x.g.oh) && decide (1 ≤ x.g.ow) &&
      decide (ceilDiv (x.c * x.t.bits) 512 ≤ x.inPs) && decide (ceilDiv (x.c * x.t.bits) 512 ≤ x.outPs) &&
      rangesFit (x.reads 0) && rangesFit (x.writes 0) && !rangesMeet (x.reads 0) (x.writes 0)
    if ok then none else some 0x0102

/-- The taps of a window in ascending (ky, kx): an element's bits, or none in the padding. -/
def Pool.taps (x : Pool) (s : State) (k oy ox ch : Nat) : List (Option Nat) :=
  ((List.range x.g.kh).map (fun ky => (List.range x.g.kw).map (fun kx =>
    match x.g.pixel oy ox ky kx with
    | some p => some (bobBits s k (x.inRow * 512 + p * x.inPs * 64) (ch * x.t.bits) x.t.bits)
    | none => none))).flatten

/-- The greatest of a list of integers. -/
def maxInt : List Int → Int
  | [] => 0
  | [a] => a
  | a :: rest => max a (maxInt rest)

/-- n / d rounded to nearest, ties by the mode (R215). -/
def divRound (n : Int) (d : Nat) (even : Bool) : Int :=
  let q := n / (d : Int)
  let r := n - q * d
  if 2 * r > d then q + 1
  else if 2 * r = d then
    (if even then (if q % 2 = 1 then q + 1 else q) else if n > 0 then q + 1 else q)
  else q

/-- One output of a POOL (R214, R215). -/
def Pool.elem (x : Pool) (taps : List (Option Nat)) (even : Bool) : OutElem :=
  let real := taps.filterMap id
  let div := if x.countAll then taps.length else real.length
  match x.t with
  | .int f =>
    let vs := real.map f.decode
    let v :=
      if x.avg then
        let pad := if x.countAll then ((taps.length - real.length : Nat) : Int) * f.decode x.zp else 0
        divRound (vs.foldl (· + ·) 0 + pad) div even
      else maxInt vs
    ⟨unsigned f.bits v, false, false, false, false, none, none⟩
  | .flt f =>
    if x.avg then
      let vs := taps.filterMap (fun t => match t with
        | some b => some (f.decode b)
        | none => if x.countAll then some Fl.zero else none)
      let sum := match vs with
        | [] => Fl.zero
        | a :: rest => rest.foldl (fun acc v => (fadd acc v).1) a
      let r := f.round (fdiv sum (Fl.ofInt div)).1
      ⟨f.encode r.1, false, r.1.isNan, false, false, none, none⟩
    else
      match real.map f.decode with
      | [] => ⟨0, false, false, false, false, none, none⟩
      | a :: rest =>
        let v := rest.foldl fmax a
        ⟨f.encode v, false, v.isNan, false, false, none, none⟩

/-- All outputs of a POOL with their places. -/
def Pool.outputs (x : Pool) (s : State) (k : Nat) (even : Bool) : List Output :=
  ((List.range x.g.oh).map (fun oy => ((List.range x.g.ow).map (fun ox => (List.range x.c).map (fun ch =>
    (x.outRow * 512 + (oy * x.g.ow + ox) * x.outPs * 64, ch * x.t.bits, x.t.bits,
      x.elem (x.taps s k oy ox ch) even)))).flatten)).flatten

/-- A POOL runs (R212 to R216). -/
def State.runPool (s : State) (c : Cmd) (x : Pool) : State :=
  let k := c.engine.skein
  if s.inRegions c.job (c.reads ++ c.writes) then
    (s.endVector c false (x.touched k) (x.outputs s k c.even)).count Fld.SKEIN_CONV_CNT_POOL_COUNT k 1
  else s.finish c.uid 0x0204 0

/-- POOL (R212 to R216): the running command pools its map and ends. -/
def execPool (uid beats : Nat) (s : State) : Host.Outcome State Fault Refusal :=
  .next (match s.runningCmd uid 0x03 with
    | none => s
    | some c =>
      let t := s.chargeCmd c beats
      match poolCheck c.desc, Pool.ofBytes c.desc with
      | none, some x => t.runPool c x
      | _, _ => t.finish uid 0x0102 0)

end Sys2Proof.Machine
end

