-- ==== Sys2Proof/Machine/Attn.lean ====
section
/-! DEFINITION. Fused attention (R238 to R253): the payload, the snapshot, the walk of the page list, the
block updates, and the three phases FULL, PARTIAL and MERGE. -/

namespace Sys2Proof.Machine

/-! ## The payload -/

/-- The phases of an ATTN. -/
inductive AttnPhase where
  | full | partialRec | merge
  deriving DecidableEq, Repr

/-- The fields of an ATTN payload (Table 8.5). -/
structure Attn where
  phase : AttnPhase
  q : Option Fmt
  out : Fmt
  dsel : Nat
  satReport : Bool
  causal : Bool
  nq : Nat
  hpk : Nat
  qLd : Nat
  outLd : Nat
  nsplit : Nat
  qPos0 : Nat
  keyLo : Nat
  keyHi : Nat
  window : Nat
  scale : Nat
  qRow : Nat
  outRow : Nat
  scratchRow : Nat
  deriving DecidableEq, Repr

/-- Q_FMT of Table 8.5. -/
def attnQ : Nat → Option Fmt
  | 0x4 => some .e4m3
  | 0xB => some .bf16
  | 0xC => some .fp16
  | _ => none

/-- OUT_FMT of Table 8.5. -/
def attnOut : Nat → Option Fmt
  | 0x8 => some .fp32
  | 0x9 => some .bf16
  | 0xA => some .fp16
  | 0xB => some .e4m3
  | _ => none

/-- PHASE of Table 8.5; 3 is reserved. -/
def attnPhase : Nat → Option AttnPhase
  | 0 => some .full
  | 1 => some .partialRec
  | 2 => some .merge
  | _ => none

/-- Reads an ATTN payload; none when a format code or the phase lies outside Table 8.5. -/
def Attn.ofBytes (d : List Byte) : Option Attn :=
  match attnPhase (fieldOf d 25 1 % 4), attnOut (fieldOf d 24 1 / 16) with
  | some ph, some o =>
    let q := attnQ (fieldOf d 24 1 % 16)
    if (ph = .merge ∧ fieldOf d 24 1 % 16 = 0) ∨ (ph ≠ .merge ∧ q.isSome) then
      some ⟨ph, q, o, fieldOf d 25 1 / 16 % 2, decide (fieldOf d 25 1 / 8 % 2 = 1),
        decide (fieldOf d 25 1 / 4 % 2 = 1), fieldOf d 26 1 % 128 + 1, fieldOf d 27 1 % 128 + 1,
        fieldOf d 28 1, fieldOf d 29 1, fieldOf d 30 1, fieldOf d 32 4, fieldOf d 36 4, fieldOf d 40 4,
        fieldOf d 44 4, fieldOf d 48 4, fieldOf d 52 2, fieldOf d 54 2, fieldOf d 56 2⟩
    else none
  | _, _ => none

/-- REC_ROWS of R239. -/
def Attn.recRows (x : Attn) (d : Nat) : Nat := ceilDiv (x.nq * d * 4) 512 + 2

/-- Bytes of a query row. -/
def Attn.qBytes (x : Attn) (d : Nat) : Nat :=
  match x.q with
  | some f => d * f.width / 8
  | none => 0

/-- Bytes of an output row. -/
def Attn.outBytes (x : Attn) (d : Nat) : Nat := d * x.out.width / 8

/-- The read footprint: Q, or the records (R239). -/
def Attn.reads (x : Attn) (k d : Nat) : List RowRange :=
  if x.phase = .merge then [⟨k, x.qRow, x.qRow + x.nsplit * x.recRows d - 1⟩]
  else linesExtent k x.qRow x.nq x.qLd (x.qBytes d)

/-- The rows of the output or the record. -/
def Attn.outRange (x : Attn) (k d : Nat) : List RowRange :=
  if x.phase = .partialRec then [⟨k, x.outRow, x.outRow + x.recRows d - 1⟩]
  else linesExtent k x.outRow x.nq x.outLd (x.outBytes d)

/-- The scratch rows; a MERGE has none. -/
def Attn.scratch (x : Attn) (k : Nat) : List RowRange :=
  if x.phase = .merge then [] else [⟨k, x.scratchRow, x.scratchRow + 1023⟩]

/-- The write footprint: the scratch, and the output or record (R239). -/
def Attn.writes (x : Attn) (k d : Nat) : List RowRange := x.scratch k ++ x.outRange k d

/-- R224 and R240: none when the command is accepted, the status otherwise. -/
def attnCheck (s : State) (job stream : Nat) (b : List Byte) : Option Nat :=
  if !s.streamOk job stream then some 0x0102 else
  match Attn.ofBytes b with
  | none => some 0x0102
  | some x =>
    let d := s.ctxD stream
    let merge := decide (x.phase = .merge)
    let ok := fieldOf b 25 1 / 32 == 0 && fieldOf b 26 1 / 128 == 0 && fieldOf b 27 1 / 128 == 0 &&
      fieldOf b 31 1 == 0 && fieldOf b 58 6 == 0 &&
      (decide (x.phase ≠ .partialRec) || decide (x.out = Fmt.fp32)) && decide (x.nq % x.hpk = 0) &&
      (if merge then decide (2 ≤ x.nsplit) && decide (x.nsplit ≤ 64) && x.qLd == 0 && x.scratchRow == 0
        else x.nsplit == 0 && decide (x.qBytes d ≤ x.qLd * 64)) &&
      (if x.phase = .partialRec then x.outLd == 0 else decide (x.outBytes d ≤ x.outLd * 64)) &&
      decide (x.keyLo ≤ x.keyHi) && decide (x.scale / 2 ^ 23 % 256 ≠ 255) &&
      rangesFit (x.reads 0 d) && rangesFit (x.writes 0 d) && !rangesMeet (x.writes 0 d) (x.reads 0 d)
    if ok then none else some 0x0102

/-! ## The snapshot -/

/-- A KVAPPEND of the stream is between its start, which is its turn (R231), and its commit (R253). -/
def State.appending (s : State) (stream : Nat) : Bool :=
  s.cmds.any (fun c => c.opcode == 0x06 && c.stream == stream && decide (c.phase = .running) &&
    (match c.work with
     | .appendWait | .appendWrite _ => true
     | _ => false))

/-- An ATTN takes its snapshot at its start (R241), and a stream race is counted, and in fixed-twist mode
ends it (R253, R499). -/
def State.takeSnapshot (s : State) (c : Cmd) : State :=
  let t := c.stream
  let snap : Snap := ⟨s.ctxPages t, s.ctxPendSlot t, s.ctxPendCount t, s.ctxSlot t, s.ctxStaged t⟩
  let u := s.modCmd c.uid (fun c => { c with work := .snap snap })
  if s.appending t then
    let v := (u.raise Flg.MEMC_KV_EVT_STREAM_RACE 0).ndc c.job
    if s.fixedTwist c.job then v.finish c.uid 0x0203 0 else v
  else u

/-! ## The walk -/

/-- A run of positions that the walk reads: an entry or a slot. -/
structure KvRun where
  /-- position of its first key -/
  first : Nat
  count : Nat
  tag : Nat
  /-- address of its keys in the model's memory; values lie 32,768 bytes on -/
  addr : Nat
  kScale : Nat
  vScale : Nat
  deriving DecidableEq, Repr

/-- Operand pair of a block and whether it is refused (Table 8.6). -/
def attnPair (q : Fmt) (tag : Nat) : Option Fmt :=
  if q = .e4m3 then (if tag = 1 then some .e4m3 else some .bf16)
  else if q = .bf16 then some .bf16
  else if tag = 3 then none else some .fp16

/-- The walk of list entries `e` onward from position `pos`, up to `hi`: the runs read, or the status of the
first failing entry (R247, R250). -/
def State.walk (s : State) (x : Attn) (t : Nat) : Nat → Nat → Nat → List KvRun × Nat × Nat
  | 0, _, pos => ([], pos, 0)
  | n + 1, e, pos =>
    if x.keyHi ≤ pos then ([], pos, 0) else
    let a := Mem.lpddr (s.ctxListAddr t + 16 * e)
    let page := s.loadNat a 4
    let tag := s.loadNat (a + 4) 1
    let count := s.loadNat (a + 6) 2
    let used := decide (x.keyLo < pos + count) && decide (x.keyLo < x.keyHi)
    let badPage := decide (s.get Fld.MEMC_KV_POOL_PAGES_PAGES 0 ≤ page)
    match tagBytes tag, x.q with
    | none, _ =>
      if used then ([], pos, 0x0103) else if badPage ∨ count = 0 then ([], pos, 0x0204)
      else s.walk x t n (e + 1) (pos + count)
    | some b, some q =>
      if used && (attnPair q tag).isNone then ([], pos, 0x0103)
      else if badPage ∨ count < 1 ∨ ppp (s.ctxD t) b < count then
        ([], pos, 0x0204)
      else
        let r := s.walk x t n (e + 1) (pos + count)
        (⟨pos, count, tag, Mem.lpddr (s.pageAddr page), if tag = 2 then s.loadNat (a + 8) 4 else 0x3F800000,
          if tag = 2 then s.loadNat (a + 12) 4 else 0x3F800000⟩ :: r.1, r.2)
    | some _, none => ([], pos, 0)

/-- The runs of the slots of a snapshot, from position `pos`. -/
def State.slotRuns (s : State) (t : Nat) (v : Snap) (pos : Nat) : List KvRun :=
  let tag := s.ctxTag t
  let ks := if tag = 2 then s.ctxKScale t else 0x3F800000
  let vs := if tag = 2 then s.ctxVScale t else 0x3F800000
  let n := if v.pendSlot = 0xFF then 0 else v.pendCount
  (if v.pendSlot = 0xFF then [] else [⟨pos, n, tag, Mem.staging v.pendSlot, ks, vs⟩]) ++
  (if v.slot = 0xFF then [] else [⟨pos + n, v.staged, tag, Mem.staging v.slot, ks, vs⟩])

/-- All runs of the command, or the status that ends it. -/
def State.runsOf (s : State) (x : Attn) (t : Nat) (v : Snap) : List KvRun × Nat :=
  let r := s.walk x t v.pages 0 0
  if r.2.2 ≠ 0 then ([], r.2.2) else
  let more := s.slotRuns t v r.2.1
  let bad := more.any (fun u => decide (x.keyLo < u.first + u.count) && decide (u.first < x.keyHi) &&
    decide (x.keyLo < x.keyHi) && decide (0 < u.count) &&
    ((tagBytes u.tag).isNone || (match x.q with
      | some q => (attnPair q u.tag).isNone
      | none => false)))
  if bad then ([], 0x0103) else (r.1 ++ more, 0)

/-- The blocks of a run: first key and count, at most 128 keys each, within KEY_LO and KEY_HI (R242). -/
def KvRun.blocks (r : KvRun) (x : Attn) : List (KvRun × Nat × Nat) :=
  let lo := max r.first x.keyLo
  let hi := min (r.first + r.count) x.keyHi
  (List.range (ceilDiv (hi - lo) 128)).map (fun i => (r, lo + i * 128, min 128 (hi - (lo + i * 128))))

/-- The bytes of keys and values that the blocks of a run take from it. -/
def KvRun.bytesRead (r : KvRun) (x : Attn) (dim : Nat) : Nat :=
  ((r.blocks x).map (fun b => 2 * b.2.2 * dim * (tagBytes r.tag).getD 1)).sum

/-- What an ATTN reads from LPDDR pages is charged to its job's client (R420). -/
def State.chargePages (s : State) (c : Cmd) (x : Attn) (v : Snap) : State :=
  if x.phase = .merge then s
  else s.accum Fld.HEDDLE_ACCT_BYTES_LPDDR_RD_COUNT (s.accountRow c)
    ((s.walk x c.stream v.pages 0 0).1.map (fun r => r.bytesRead x (s.ctxD c.stream))).sum

/-! ## The arithmetic -/

/-- Element d of the key (half 0) or value (half 1) of position j, as a value (Table 8.3). -/
def KvRun.elem (r : KvRun) (s : State) (dim half j d : Nat) : Fl :=
  let b := (tagBytes r.tag).getD 1
  let bits := s.loadNat (r.addr + half * 32768 + ((j - r.first) * dim + d) * b) b
  if r.tag = 1 then Fmt.e4m3.decode bits
  else if r.tag = 2 then Fl.ofInt (signed 8 bits)
  else Fmt.bf16.decode bits

/-- A score or P·V product in an operand pair: elements of A by (row, k) and of B by (column, k). -/
def attnGemm (f : Fmt) (k : Nat) (a b : Nat → Nat → Fl) : Gemm where
  a := .flt f false
  b := .flt f false
  cls := if f.width = 16 then .float16 else .float8
  out := .flt Fmt.fp32
  accum := false
  k := k
  aZp := 0
  bZp := 0
  accLsb := 0
  aEl := fun m kk => some (f.encode (a m kk))
  bEl := fun n kk => f.encode (b n kk)
  aScale := fun _ _ => 127
  bScale := fun _ _ => 127
  old := fun _ _ => 0
  rescale := fun _ => Rescale.ofBytes []

/-- An element of a product as an FP32 value with its saturation. -/
def Gemm.value (g : Gemm) (fixed : Bool) (m n : Nat) : Fs :=
  let e := g.elem fixed false m n
  (Fmt.fp32.decode e.bits, e.sat)

/-- The running state of one query row (R244). -/
structure RowAcc where
  m : Fs
  l : Fs
  o : List Fs
  deriving DecidableEq, Repr

/-- Before the first block. -/
def RowAcc.start (d : Nat) : RowAcc := ⟨(.inf true, false), (Fl.zero, false), List.replicate d (Fl.zero, false)⟩

/-- Element d of query row i. -/
def Attn.qElem (x : Attn) (s : State) (k i d : Nat) : Fl :=
  match x.q with
  | some f => f.decode (bobBits s k (x.qRow * 512 + i * x.qLd * 64) (d * f.width) f.width)
  | none => Fl.zero

/-- Key j is visible to row i (R242). -/
def Attn.visible (x : Attn) (i j : Nat) : Bool :=
  let p := x.qPos0 + i / x.hpk
  (!x.causal || decide (j ≤ p)) && (x.window == 0 || decide ((p : Int) - j < x.window))

/-- One block's update of query row i (R244). -/
def Attn.blockStep (x : Attn) (s : State) (k dim : Nat) (fixed : Bool) (i : Nat) (blk : KvRun × Nat × Nat)
    (acc : RowAcc) : RowAcc :=
  let (r, lo, n) := blk
  let f := (attnPair (x.q.getD .e4m3) r.tag).getD .bf16
  let ksc := Fmt.fp32.decode r.kScale
  let vsc := Fmt.fp32.decode r.vScale
  let score := attnGemm f dim (fun _ d => x.qElem s k i d) (fun j d => r.elem s dim 0 (lo + j) d)
  let ss : List Fs := (List.range n).map (fun j =>
    if x.visible i (lo + j) then
      Fs.op2 fmul (Fs.op2 fmul (score.value fixed 0 j) (ksc, false)) (Fmt.fp32.decode x.scale, false)
    else (.inf true, false))
  let mb := ss.foldl (Fs.op2 maxStep) acc.m
  if mb.1 = .inf true then acc
  else
    let a := Fs.op1 vexp (Fs.op2 fsub acc.m mb)
    let ps : List Fs := ss.map (fun v =>
      let e := Fs.op1 vexp (Fs.op2 fsub v mb)
      let p := f.round e.1
      (p.1, e.2 || p.2))
    let psum := (treeOf fadd 7 (ps ++ List.replicate (128 - n) (Fl.zero, false))).headD (Fl.zero, false)
    let pv := attnGemm f n (fun _ j => (ps.getD j (Fl.zero, false)).1) (fun d j => r.elem s dim 1 (lo + j) d)
    ⟨mb, Fs.op2 fadd (Fs.op2 fmul acc.l a) psum,
      (List.zip (List.range dim) acc.o).map (fun od =>
        Fs.op2 fadd (Fs.op2 fmul od.2 a) (Fs.op2 fmul (pv.value fixed 0 od.1) (vsc, false)))⟩

/-- Query row i after every block. -/
def Attn.rowAcc (x : Attn) (s : State) (k dim : Nat) (fixed : Bool) (blks : List (KvRun × Nat × Nat))
    (i : Nat) : RowAcc :=
  blks.foldl (fun acc b => x.blockStep s k dim fixed i b acc) (RowAcc.start dim)

/-- o ÷ l, +0 when l is +0 (R246). -/
def quotient (o l : Fs) : Fs := if l.1.isZero then (Fl.zero, false) else Fs.op2 fdiv o l

/-- A finished element in the output format. -/
def attnElem (f : Fmt) (v : Fs) : OutElem := outFloat f v.1 v.2 false

/-- The output rows of a FULL or MERGE, from the elements of each row. -/
def Attn.rowsOut (x : Attn) (rows : List (List Fs)) : List Output :=
  ((List.zip (List.range rows.length) rows).map (fun ir =>
    (List.zip (List.range ir.2.length) ir.2).map (fun dv =>
      (x.outRow * 512 + ir.1 * x.outLd * 64, dv.1 * x.out.width, x.out.width, attnElem x.out dv.2)))).flatten

/-- The record of a PARTIAL (R239). -/
def Attn.recordOut (x : Attn) (dim : Nat) (accs : List RowAcc) : List Output :=
  let tail := (x.outRow + x.recRows dim - 2) * 512
  ((List.zip (List.range accs.length) accs).map (fun ia =>
    (List.zip (List.range dim) ia.2.o).map (fun dv =>
      (x.outRow * 512, (ia.1 * dim + dv.1) * 32, 32, attnElem Fmt.fp32 dv.2)) ++
    [(tail + 8 * ia.1, 0, 32, attnElem Fmt.fp32 ia.2.m), (tail + 8 * ia.1 + 4, 0, 32, attnElem Fmt.fp32 ia.2.l)])).flatten

/-- An FP32 value at a byte of the bobbin. -/
def bobFp32 (s : State) (k off : Nat) : Fs := (Fmt.fp32.decode (s.bobNat k off 4), false)

/-- One output row of a MERGE (R248). -/
def Attn.mergeRow (x : Attn) (s : State) (k dim i : Nat) : List Fs :=
  let base (n : Nat) := (x.qRow + n * x.recRows dim) * 512
  let tail (n : Nat) := base n + (x.recRows dim - 2) * 512
  let ms := (List.range x.nsplit).map (fun n => bobFp32 s k (tail n + 8 * i))
  let mm := ms.foldl (Fs.op2 maxStep) (.inf true, false)
  if mm.1 = .inf true then List.replicate dim (Fl.zero, false) else
  let ws := ms.map (fun m => Fs.op1 vexp (Fs.op2 fsub m mm))
  let nws := List.zip (List.range x.nsplit) ws
  let lt := nws.foldl (fun acc nw =>
    Fs.op2 fadd acc (Fs.op2 fmul nw.2 (bobFp32 s k (tail nw.1 + 8 * i + 4)))) (Fl.zero, false)
  (List.range dim).map (fun d =>
    Fs.op2 fdiv (nws.foldl (fun acc nw =>
      Fs.op2 fadd acc (Fs.op2 fmul nw.2 (bobFp32 s k (base nw.1 + (i * dim + d) * 4)))) (Fl.zero, false)) lt)

/-- The outputs of a command over its blocks. -/
def Attn.outputs (x : Attn) (s : State) (k dim : Nat) (fixed : Bool) (blks : List (KvRun × Nat × Nat)) :
    List Output :=
  match x.phase with
  | .merge => x.rowsOut ((List.range x.nq).map (x.mergeRow s k dim))
  | .full => x.rowsOut ((List.range x.nq).map (fun i =>
      let a := x.rowAcc s k dim fixed blks i
      a.o.map (fun o => quotient o a.l)))
  | .partialRec => x.recordOut dim ((List.range x.nq).map (x.rowAcc s k dim fixed blks))

/-! ## The command -/

/-- Gives the scratch rows undefined contents (R239), written as rows are (R106). -/
def State.scribble (s : State) (rs : List RowRange) : State :=
  let t := s.forEach (rowsOf rs) (fun t row =>
    t.writeRow (match rs with
      | r :: _ => r.skein
      | [] => 0) row ((List.range 512).map (fun i => Config.freeByte s.freeCount (row * 512 + i))))
  { t with freeCount := t.freeCount + 1 }

/-- What an ATTN leaves that stops before its end (R247): its scratch is undefined, and it sets the flags of conditions that
had arisen (R178).  `os` are the outputs that it would have formed, none where its walk fails.  How far it had come is free:
a saturation may have arisen in its sums, and a not-a-number only once the outputs were formed; no term of it is inexact
(R150). -/
def State.attnCut (s : State) (c : Cmd) (x : Attn) (os : Option (List Output)) : State :=
  let k := c.engine.skein
  let sat : Bool := match os with
    | some l => l.any (fun o => o.2.2.2.sat)
    | none => true
  let nan : Bool := match os with
    | some l => l.any (fun o => o.2.2.2.nan)
    | none => false
  ((s.scribble (x.scratch k)).doIf (sat && Config.freeBit s.freeCount 0) (fun t => t.raise Flg.SKEIN_LOOM_EVT_SATURATED k)).doIf
    (nan && Config.freeBit s.freeCount 1) (fun t => t.raise Flg.SKEIN_LOOM_EVT_NAN_OUT k)

/-- Ends an ATTN that writes no output row (R247). -/
def State.attnStop (s : State) (c : Cmd) (x : Attn) (os : Option (List Output)) (status : Nat) : State :=
  (s.attnCut c x os).finish c.uid status 0

/-- The outputs that an ATTN forms over its snapshot; none where its walk fails. -/
def State.attnOutputs (s : State) (c : Cmd) (x : Attn) (v : Snap) : Option (List Output) :=
  let runs := if x.phase = .merge then ([], 0) else s.runsOf x c.stream v
  if runs.2 = 0 then
    some (x.outputs s c.engine.skein (s.ctxD c.stream) (s.fixedTwist c.job) (runs.1.map (fun r => r.blocks x)).flatten)
  else none

/-- What an ATTN leaves that an abort or a fault stops before its work is over. -/
def State.cutAttn (s : State) (c : Cmd) (x : Attn) : State :=
  if !s.inRegions c.job (c.reads ++ c.writes) then s else
  match c.work with
  | .snap v => s.attnCut c x (s.attnOutputs c x v)
  | _ => s

/-- The work of an ATTN is over: the output rows that its completion is to write, with their digest (R247, R523; the
scratch, whose contents are undefined, stays out of the digest). -/
def State.attnHold (s : State) (c : Cmd) (v : Snap) (rows : List (Nat × List Byte)) : State :=
  s.modCmd c.uid (fun c => { c with work := .attnDone v rows, digest := rowsDigest rows })

/-- An ATTN that has passed its checks runs over its snapshot; its output rows are written when it completes (R247). -/
def State.runAttn (s : State) (c : Cmd) (x : Attn) (v : Snap) : State :=
  let k := c.engine.skein
  if !s.inRegions c.job (c.reads ++ c.writes) then s.finish c.uid 0x0204 0 else
  match s.attnOutputs c x v with
  | none =>
    let st := (s.runsOf x c.stream v).2
    (s.attnStop c x none st).doIf (decide (st = 0x0103)) (fun t => t.raise Flg.MEMC_KV_EVT_FORMAT 0)
  | some os =>
    let a := (s.chargePages c x v).readRows k c.engine.source c.uid (rowsOf c.reads)
    if a.2 ≠ 0 then a.1.attnStop c x (some os) a.2 else
    let formed := formOutputs s k os
    let b := a.1.readRows k c.engine.source c.uid ((outRows os).filter (partlyCovered os))
    let w := if b.2 = 0 then b.1.meetRows k c.engine.source c.uid (rowsOf c.writes) else b
    let t := (w.1.scribble (x.scratch k)).loomFlags k os
    if w.2 = 0 then
      (t.attnHold c v ((outRows os).map (fun r => (r, formed.readRow k r)))).finish c.uid
        (if x.satReport && os.any (fun o => o.2.2.2.sat) then 0x0305 else 0) (satResult os)
    else t.finish c.uid w.2 0

/-- A completing ATTN writes the output rows that it has formed where it ends OK, with SATURATED or with FRAME_MISMATCH
(R247), also on its own skein where a thief ran it (R406). -/
def State.attnWrite (s : State) (c : Cmd) (status : Nat) : State :=
  match c.work with
  | .attnDone _ rows =>
    if status = 0 ∨ status = 0x0305 ∨ status = 0x0601 then
      let put (k : Nat) (t : State) : State := t.forEach rows (fun t r => t.writeRow k r.1 r.2)
      let t := put c.engine.skein s
      t.doIf c.stolen (put c.home.skein)
    else s
  | _ => s

/-- The rows whose writing waits for the completion of their command (R247). -/
def Cmd.heldRows (c : Cmd) : List Nat :=
  match c.work with
  | .attnDone _ rows => rows.map Prod.fst
  | _ => []

/-- ATTN (R238 to R253): the running command reads its snapshot and ends.  `vecBeats` are the beats of its
vector steps, charged to the vector engine (R254). -/
def execAttn (uid beats vecBeats : Nat) (s : State) : Host.Outcome State Fault Refusal :=
  .next (match s.runningCmd uid 0x05 with
    | none => s
    | some c =>
      let t := (s.chargeCmd c beats).spend (.vec c.engine.skein) (some c) (s.accountRow c) vecBeats
      match Attn.ofBytes c.desc, c.work with
      | some x, .snap v => t.runAttn c x v
      | _, _ => t.finish uid 0x0102 0)

end Sys2Proof.Machine
end

