-- ==== Sys2Proof/Machine/Conv.lean ====
section
/-! DEFINITION. CONV on the loom (R198 to R209). -/

namespace Sys2Proof.Machine

/-- The fields of a CONV payload (Table 7.1). -/
structure Conv where
  a : OpFmt
  b : OpFmt
  cls : PairClass
  out : OutFmt
  relu : Bool
  satReport : Bool
  accum : Bool
  g : Windows
  cin : Nat
  cout : Nat
  groups : Nat
  inRow : Nat
  bRow : Nat
  outRow : Nat
  inPs : Nat
  outPs : Nat
  sbRow : Nat
  rescaleRow : Nat
  aZp : Nat
  bZp : Nat
  accLsb : Int
  deriving DecidableEq, Repr

/-- Reads a CONV payload; none when a format, the pair or the output format is not allowed. -/
def Conv.ofBytes (d : List Byte) : Option Conv :=
  match loomFmt (fieldOf d 24 1 % 16), loomFmt (fieldOf d 24 1 / 16), outFmt (fieldOf d 25 1 % 16) with
  | some a, some b, some o =>
    match pairClass a b with
    | some cls =>
      if o.fits cls && !a.mx then
        some ⟨a, b, cls, o, decide (fieldOf d 26 1 / 8 % 2 = 1), decide (fieldOf d 26 1 / 2 % 2 = 1),
          decide (fieldOf d 26 1 % 2 = 1),
          ⟨fieldOf d 28 2, fieldOf d 30 2, fieldOf d 36 1 / 16 + 1, fieldOf d 36 1 % 16 + 1,
           fieldOf d 37 1 / 16 % 8 + 1, fieldOf d 37 1 % 8 + 1, fieldOf d 38 1 / 16 % 8 + 1,
           fieldOf d 38 1 % 8 + 1, fieldOf d 40 1 % 16, fieldOf d 40 1 / 16, fieldOf d 41 1 % 16,
           fieldOf d 41 1 / 16⟩,
          fieldOf d 32 2, fieldOf d 34 2, fieldOf d 42 2, fieldOf d 44 2, fieldOf d 46 2, fieldOf d 48 2,
          fieldOf d 50 1, fieldOf d 51 1, fieldOf d 52 2, fieldOf d 54 2, fieldOf d 56 1, fieldOf d 57 1,
          signed 16 (fieldOf d 58 2)⟩
      else none
    | none => none
  | _, _, _ => none

/-- Input channels of a group (R199). -/
def Conv.cg (x : Conv) : Nat := x.cin / x.groups
/-- Output channels of a group (R199). -/
def Conv.ng (x : Conv) : Nat := x.cout / x.groups
/-- K of a group's product (R199). -/
def Conv.k (x : Conv) : Nat := x.g.kh * x.g.kw * x.cg
/-- Whether the output passes through the rescale table. -/
def Conv.rescaled (x : Conv) : Bool :=
  match x.out with
  | .intq _ => true
  | _ => false

/-- The write extent (R206). -/
def Conv.writes (x : Conv) (k : Nat) : List RowRange := [mapExtent k x.outRow (x.g.oh * x.g.ow) x.outPs]

/-- The read extents apart from the output under ACCUM (R206). -/
def Conv.readsPlain (x : Conv) (k : Nat) : List RowRange :=
  let chunks := ceilDiv x.k x.cls.kstep
  [mapExtent k x.inRow (x.g.h * x.g.w) x.inPs,
   rangeOf k (x.bRow * 512) (chunks * x.cout * (x.cls.kstep * x.b.bits / 8))] ++
  (if x.b.mx then [rangeOf k (x.sbRow * 512) (chunks * x.cout * (x.cls.kstep / 32))] else []) ++
  (if x.rescaled then [⟨k, x.rescaleRow, x.rescaleRow + ceilDiv x.cout 32 - 1⟩] else [])

/-- The read extents (R206, R145). -/
def Conv.reads (x : Conv) (k : Nat) : List RowRange := x.readsPlain k ++ (if x.accum then x.writes k else [])

/-- R207: none when the payload is accepted, the status otherwise. -/
def convCheck (d : List Byte) : Option Nat :=
  match Conv.ofBytes d with
  | none => some 0x0102
  | some x =>
    let accOk := match x.out with
      | .int32 => true
      | .flt f => decide (f = Fmt.fp32)
      | _ => false
    let fltOut := match x.out with
      | .flt _ => true
      | _ => false
    let ok := fieldOf d 25 1 / 16 == 0 && fieldOf d 26 1 / 16 == 0 && fieldOf d 26 1 / 4 % 2 == 0 &&
      fieldOf d 27 1 == 0 && fieldOf d 37 1 / 8 % 2 == 0 && fieldOf d 37 1 / 128 == 0 &&
      fieldOf d 38 1 / 8 % 2 == 0 && fieldOf d 38 1 / 128 == 0 && fieldOf d 39 1 == 0 && fieldOf d 60 4 == 0 &&
      decide (1 ≤ x.g.h) && decide (x.g.h ≤ 4096) && decide (1 ≤ x.g.w) && decide (x.g.w ≤ 4096) &&
      decide (1 ≤ x.cin) && decide (x.cin ≤ 16384) && decide (1 ≤ x.cout) && decide (x.cout ≤ 16384) &&
      decide (1 ≤ x.groups) && decide (x.groups ≤ 16384) && decide (1 ≤ x.inPs) && decide (1 ≤ x.outPs) &&
      decide (0 ≤ x.g.numH) && decide (0 ≤ x.g.numW) &&
      decide (x.cin % x.groups = 0) && decide (x.cout % x.groups = 0) &&
      decide (x.k ≤ 65535) && (!x.b.mx || decide (x.k % 32 = 0)) &&
      decide (ceilDiv (x.cin * x.a.bits) 512 ≤ x.inPs) && decide (ceilDiv (x.cout * x.out.bits) 512 ≤ x.outPs) &&
      (!x.relu || fltOut) && (!x.accum || accOk) &&
      decide (x.inRow < Config.rows) && decide (x.bRow < Config.rows) && decide (x.outRow < Config.rows) &&
      decide (x.sbRow < Config.rows) && decide (x.rescaleRow < Config.rows) &&
      rangesFit (x.reads 0) && rangesFit (x.writes 0) && !rangesMeet (x.writes 0) (x.readsPlain 0) &&
      x.a.zpOk x.aZp && x.b.zpOk x.bZp && (x.b.mx || x.sbRow == 0) &&
      (if x.b.mx then decide (-300 ≤ x.accLsb) && decide (x.accLsb ≤ 260) else decide (x.accLsb = 0)) &&
      (!x.rescaled || x.rescaleRow != 0)
    if ok then none else some 0x0102

/-- The product of group g (R199, R200, R203). -/
def Conv.gemm (x : Conv) (s : State) (k g : Nat) : Gemm where
  a := x.a
  b := x.b
  cls := x.cls
  out := x.out
  accum := x.accum
  k := x.k
  aZp := x.aZp
  bZp := x.bZp
  accLsb := x.accLsb
  aEl := fun m kk =>
    let t := kk / x.cg
    match x.g.pixel (m / x.g.ow) (m % x.g.ow) (t / x.g.kw) (t % x.g.kw) with
    | some p => some (bobBits s k (x.inRow * 512 + p * x.inPs * 64) ((g * x.cg + kk % x.cg) * x.a.bits) x.a.bits)
    | none => none
  bEl := fun n kk => weightAt s k x.bRow x.cout x.cls.kstep x.b.bits (g * x.ng + n) kk
  aScale := fun _ _ => 127
  bScale := fun n b => if x.b.mx then weightScaleAt s k x.sbRow x.cout x.cls.kstep (g * x.ng + n) b else 127
  old := fun m n => bobBits s k (x.outRow * 512 + m * x.outPs * 64) ((g * x.ng + n) * x.out.bits) x.out.bits
  rescale := fun n => rescaleAt s k x.rescaleRow (g * x.ng + n)

/-- RELU on a floating output: a negative value, −0 included, becomes +0; not-a-number passes (R208). -/
def Conv.reluElem (x : Conv) (e : OutElem) : OutElem :=
  if x.relu && !e.nan && decide (2 ^ (x.out.bits - 1) ≤ e.bits) then { e with bits := 0 } else e

/-- Output (m, n) of group g with its place. -/
def Conv.output (x : Conv) (s : State) (k g : Nat) (fixed even : Bool) (m n : Nat) : Output :=
  (x.outRow * 512 + m * x.outPs * 64, (g * x.ng + n) * x.out.bits, x.out.bits,
    x.reluElem ((x.gemm s k g).elem fixed even m n))

/-- What a CONV forms by tile, from what output (m, n) of a group is: m-tiles outermost, then groups, then n-tiles
(R204). -/
def Conv.tilesOf {α : Type} (x : Conv) (f : Nat → Nat → Nat → α) : List (List α) :=
  let m := x.g.oh * x.g.ow
  ((tileStarts m).map (fun i => ((List.range x.groups).map (fun g => tileRow m x.ng (f g) i)).flatten)).flatten

/-- All outputs of a CONV by tile. -/
def Conv.tiles (x : Conv) (s : State) (k : Nat) (fixed even : Bool) : List (List Output) :=
  x.tilesOf (fun g => x.output s k g fixed even)

/-- The rows that a CONV reads: those that hold a channel of a pixel of the map, its weights and tables, and under ACCUM
the channels of its output (R198, R206). -/
def Conv.touched (x : Conv) (k : Nat) : List RowRange :=
  linesExtent k x.inRow (x.g.h * x.g.w) x.inPs (ceilDiv (x.cin * x.a.bits) 8) ++ (x.readsPlain k).drop 1 ++
  (if x.accum then linesExtent k x.outRow (x.g.oh * x.g.ow) x.outPs (ceilDiv (x.cout * x.out.bits) 8) else [])

/-- A CONV runs (R199 to R208). -/
def State.runConv (s : State) (c : Cmd) (x : Conv) : State :=
  let k := c.engine.skein
  if s.inRegions c.job (c.reads ++ c.writes) then
    let fixed := s.fixedTwist c.job
    (((s.set Fld.SKEIN_CONV_STATUS_GROUP k (x.groups - 1)).endFormed c x.satReport (x.touched k)
      (x.tiles s k fixed c.even)).leaveAccs c
      (x.tilesOf (fun g => placed ((x.gemm s k g).acc fixed))).flatten).count Fld.SKEIN_CONV_CNT_CONV_COUNT k 1
  else s.finish c.uid 0x0204 0

/-- CONV (R199 to R209): the running command convolves its map and ends. -/
def execConv (uid beats : Nat) (s : State) : Host.Outcome State Fault Refusal :=
  .next (match s.runningCmd uid 0x02 with
    | none => s
    | some c =>
      let t := s.chargeCmd c beats
      match convCheck c.desc, Conv.ofBytes c.desc with
      | none, some x => t.runConv c x
      | _, _ => t.finish uid 0x0102 0)

/-- The group that a CONV has reached, which is free: one of its groups, and none before the one that GROUP shows where all
its output lies in one m-tile (R204, R220). -/
def State.convGroup (s : State) (c : Cmd) : Nat :=
  let g := s.get Fld.SKEIN_CONV_STATUS_GROUP c.engine.skein
  match Conv.ofBytes c.desc with
  | some x =>
    let lo := if x.g.oh * x.g.ow ≤ 128 then g else 0
    lo + (Config.freeWord s.freeCount).toNat % (max 1 (x.groups - lo))
  | none => g

/-- A CONV that stops running leaves GROUP at the group that it has reached, and keeps it for its resumption (R220). -/
def State.noteGroup (s : State) (c : Cmd) : State :=
  if c.opcode = 0x02 then
    (({ s with freeCount := s.freeCount + 1 }).set Fld.SKEIN_CONV_STATUS_GROUP c.engine.skein (s.convGroup c)).modCmd c.uid
      (fun d => { d with work := .conv (s.convGroup c) })
  else s

end Sys2Proof.Machine
end

