-- ==== Sys2Proof/Machine/Flyer.lean ====
section
/-! DEFINITION. The Flyer loop engines and motion I/O (R293 to R327): samples, loop arithmetic, set-points,
the mailbox, the profile generator, loop states, inputs, PWM outputs and transmit-at-time. -/

namespace Sys2Proof.Machine

/-! ## Arithmetic (R297) -/

/-- v × 2⁻ⁿ rounded to nearest, ties to even. -/
def roundEven (v : Int) (n : Nat) : Int :=
  let q := v / (2 ^ n : Int)
  let r := v % (2 ^ n : Int)
  if 2 * r > 2 ^ n then q + 1 else if 2 * r = 2 ^ n ∧ n ≠ 0 then q + q % 2 else q

/-- Saturation to the Q2.30 range, and whether it saturated. -/
def satQ (v : Int) : Int × Bool :=
  if v < -(2 ^ 31) then (-(2 ^ 31), true) else if 2 ^ 31 ≤ v then (2 ^ 31 - 1, true) else (v, false)

/-- rnd(): one accumulator of 60 fraction bits to Q2.30. -/
def rnd (acc : Int) : Int × Bool := satQ (roundEven acc 30)

/-- Saturation of a 64-bit value (R309). -/
def sat64 (v : Int) : Int := max (-(2 ^ 63)) (min v (2 ^ 63 - 1))

/-- The Taylor sum of a sine from a term of degree k on, in units of 2⁻¹⁰⁰. -/
def sinSum : Nat → Nat → Int → Int → Int
  | 0, _, _, _ => 0
  | fuel + 1, k, term, x2 => term + sinSum fuel (k + 2) (-(term * x2) / (2 ^ 100 * ((k + 1) * (k + 2) : Nat))) x2

/-- The Q2.30 value nearest to sin(2π r ÷ 65,536), r from 0 to 16,384. -/
def sinFirst (r : Nat) : Int :=
  let x : Int := 3982441812995697363688351113952 * r / 32768
  (sinSum 24 1 x (x * x / 2 ^ 100) + 2 ^ 69) / 2 ^ 70

/-- The Q2.30 value nearest to the sine of 2π θ ÷ 65,536 (R303). -/
def sinQ (theta : Nat) : Int :=
  let t := theta % 65536
  let r := t % 16384
  match t / 16384 with
  | 0 => sinFirst r
  | 1 => sinFirst (16384 - r)
  | 2 => -sinFirst r
  | _ => -sinFirst (16384 - r)

/-- The Q2.30 value nearest to the cosine of 2π θ ÷ 65,536 (R303). -/
def cosQ (theta : Nat) : Int := sinQ (theta + 16384)

/-- The Q2.30 value nearest to 1/√3 (R303). -/
def K3 : Int := 619925131
/-- The Q2.30 value nearest to √3 ÷ 2 (R324). -/
def S3 : Int := 929887697

/-! ## Loops -/

/-- A loop beyond its registers. -/
def State.loop (s : State) (n : Nat) : Loop := Sparse.get Loop.reset s.flyer.loops n
/-- Replaces it. -/
def State.putLoop (s : State) (n : Nat) (x : Loop) : State :=
  { s with flyer := { s.flyer with loops := Sparse.put Loop.reset s.flyer.loops n x } }
/-- Changes it. -/
def State.modLoop (s : State) (n : Nat) (f : Loop → Loop) : State := s.putLoop n (f (s.loop n))

/-- STATE of a loop: 0 OPEN, 1 CLOSING, 2 CLOSED, 3 SAFE (Table 10.6). -/
def State.loopState (s : State) (n : Nat) : Nat := s.get Fld.FLYER_LOOP_STATE_STATE n

/-- A field of controller k of loop n. -/
def State.ctl (s : State) (f : Field) (n k : Nat) : Int := s.getInt f (ix n k)

/-- Whether controller k of loop n is enabled. -/
def State.ctlOn (s : State) (n k : Nat) : Bool := s.isSet Fld.FLYER_CTL_CFG_EN (ix n k)

/-- The enabled controllers of a loop. -/
def State.ctls (s : State) (n : Nat) : List Nat := (List.range 4).filter (s.ctlOn n)

/-- The competing controllers (R301). -/
def State.competing (s : State) (n : Nat) : List Nat :=
  (s.ctls n).filter (fun k => !(s.isSet Fld.FLYER_LOOP_CFG_CASCADE n && k == 0))

/-- Coefficient j of biquad m of a controller; b0 resets to 1.0. -/
def State.bq (s : State) (n k m j : Nat) : Int :=
  if j = 0 then s.getInt Fld.FLYER_CTL_BQ0_COEF (ix3 n k m) else s.getInt Fld.FLYER_CTL_BQ_COEF (ix (ix3 n k m) (j - 1))

/-! ## Inputs -/

/-- Kind of an input code (Table 10.2): true position, false value; none reserved. -/
def inputKind (code : Nat) : Option Bool :=
  if code < 0x10 then some true else if code < 0x30 then some false else if code < 0x38 then some true
  else if 0x40 ≤ code ∧ code < 0x58 then some false else if 0x60 ≤ code ∧ code < 0x70 then some false else none

/-- The channel that an input code reads: velocity and duty read their encoder. -/
def inputBase (code : Nat) : Nat := if code < 0x30 then code % 16 else code

/-- The input is enabled in a compatible mode (R312). -/
def State.inputReady (s : State) (code : Nat) : Bool :=
  if code < 0x20 then decide (s.get Fld.FLYER_ENC_CFG_MODE (code % 16) ≤ 1)
  else if code < 0x30 then s.get Fld.FLYER_ENC_CFG_MODE (code % 16) == 2
  else if code < 0x38 then decide (8 ≤ s.get Fld.FLYER_SSI_CFG_BITS (code - 0x30))
  else if 0x40 ≤ code ∧ code < 0x58 then s.isSet Fld.FLYER_SD_CFG_EN (code - 0x40)
  else if 0x60 ≤ code ∧ code < 0x70 then s.get Fld.FLYER_ADC_CFG_TRIG (code - 0x60) != 0
  else false

/-- The input reports a fault: a fault flag of its channel is 1. -/
def State.inputFaulty (s : State) (code : Nat) : Bool :=
  let c := inputBase code
  if c < 0x10 then s.isSet Fld.FLYER_ENC_EVT_ILLEGAL c
  else if c < 0x38 then s.isSet Fld.FLYER_SSI_EVT_TIMEOUT (c - 0x30) || s.isSet Fld.FLYER_SSI_EVT_PARITY_ERR (c - 0x30)
  else if c < 0x58 then s.isSet Fld.FLYER_SD_EVT_CLK_LOST (c - 0x40)
  else s.isSet Fld.FLYER_ADC_EVT_OVERRANGE (c - 0x60)

/-- Whether the loop uses its angle: a Q-axis feedback or sinusoidal commutation. -/
def State.usesAngle (s : State) (n : Nat) : Bool :=
  s.get Fld.FLYER_LOOP_OUT_OUT_KIND n == 1 || (s.ctls n).any (fun k => s.isSet Fld.FLYER_CTL_CFG_FB_MODE (ix n k))

/-- The code of the set-point's input; a channel that does not exist reads as a reserved code. -/
def State.spInput (s : State) (n : Nat) : Option Nat :=
  let ch := s.get Fld.FLYER_LOOP_CFG_SP_CH n
  let code (base : Nat) := some (if ch < 16 then base + ch else 0x7F)
  match s.get Fld.FLYER_LOOP_CFG_SP_SRC n with
  | 2 => code 0x60
  | 3 => code 0x00
  | 4 => code 0x20
  | _ => none

/-- The codes of every input that a loop names. -/
def State.loopInputs (s : State) (n : Nat) : List Nat :=
  ((s.ctls n).map (fun k => s.get Fld.FLYER_CTL_CFG_FB_SRC (ix n k))) ++
  (((s.ctls n).filter (fun k => s.isSet Fld.FLYER_CTL_CFG_FB_MODE (ix n k))).map
    (fun k => s.get Fld.FLYER_CTL_CFG_FB_SRC2 (ix n k))) ++
  (s.spInput n).toList ++
  (if s.usesAngle n then [s.get Fld.FLYER_LOOP_ANGLE_ANGLE_SRC n] else []) ++
  (if s.isSet Fld.FLYER_LOOP_CFG_TRIG_MODE n then [0x60 + s.get Fld.FLYER_LOOP_CFG_TRIG_ADC n] else [])

/-- An input reports a fault: every loop that names it notes it (R318). -/
def State.inputFault (s : State) (base : Nat) : State :=
  s.forEach (List.range 32) (fun t n =>
    if ((t.loopInputs n).map inputBase).contains base && !((t.loop n).faults.contains base) then
      t.modLoop n (fun x => { x with faults := x.faults ++ [base] })
    else t)

/-- The count or position behind a position code. -/
def State.position (s : State) (code : Nat) : Nat :=
  if code < 0x10 then s.get Fld.FLYER_ENC_COUNT_COUNT code else s.get Fld.FLYER_SSI_VALUE_VALUE (code - 0x30)

/-- The latched value of a value code (Table 10.2); with `good`, an ADC's last good one (R318). -/
def State.value (s : State) (n code : Nat) (good : Bool) : Int × Bool :=
  if code < 0x20 then
    let e := code % 16
    let d := signed 32 (s.get Fld.FLYER_ENC_COUNT_COUNT e + 2 ^ 32 - Sparse.get 0 (s.loop n).counts e)
    satQ (roundEven (d * 2 ^ 31) (s.get Fld.FLYER_ENC_CFG_VEL_SHIFT e + 1))
  else if code < 0x30 then (signed 32 (s.get Fld.FLYER_ENC_DUTY_DUTY (code % 16)), false)
  else if code < 0x58 then (s.getInt Fld.FLYER_SD_VALUE_VALUE (code - 0x40), false)
  else
    let c := code - 0x60
    let v := if good && (s.loop n).faults.contains code then Sparse.get 0 s.flyer.good c else s.get Fld.FLYER_ADC_VALUE_CODE c
    (((v : Int) - 2048) * 2 ^ 19, false)

/-- The loop angle θ (R305). -/
def State.angle (s : State) (n : Nat) : Nat :=
  (s.position (s.get Fld.FLYER_LOOP_ANGLE_ANGLE_SRC n) * s.get Fld.FLYER_LOOP_ANGLE_SCALE_SCALE n +
    s.get Fld.FLYER_LOOP_ANGLE_ANGLE_OFS n * 65536) % 2 ^ 32 / 65536

/-! ## Set-points -/

/-- Kind of the feedback of a controller: true position; none reserved (R299, R303). -/
def State.fbKind (s : State) (n k : Nat) : Option Bool :=
  let a := inputKind (s.get Fld.FLYER_CTL_CFG_FB_SRC (ix n k))
  if s.isSet Fld.FLYER_CTL_CFG_FB_MODE (ix n k) then
    if a = some false ∧ inputKind (s.get Fld.FLYER_CTL_CFG_FB_SRC2 (ix n k)) = some false then some false else none
  else a

/-- The set-point and feedback kinds match (R304). -/
def State.kindsMatch (s : State) (n : Nat) : Bool :=
  let shared := (s.ctls n).filter (fun k => s.get Fld.FLYER_CTL_CFG_SP_SEL (ix n k) == 0)
  let all (b : Bool) := shared.all (fun k => decide (s.fbKind n k = some b))
  (s.ctls n).all (fun k => match s.get Fld.FLYER_CTL_CFG_SP_SEL (ix n k) with
    | 0 => (s.fbKind n k).isSome
    | 3 => false
    | _ => decide (s.fbKind n k = some false)) &&
  (match s.get Fld.FLYER_LOOP_CFG_SP_SRC n with
    | 0 => all true || all false
    | 1 => all true
    | 2 => all false
    | 3 => all true
    | 4 => all false
    | _ => shared.isEmpty)

/-- The loop's set-point, and its feed-forward values with whether one saturated (Table 10.3). -/
def State.setPoint (s : State) (n : Nat) (good : Bool) : Nat × Int × Int × Bool :=
  let x := s.loop n
  let ch := s.get Fld.FLYER_LOOP_CFG_SP_CH n
  let val (code : Nat) := let v := s.value n code good; (unsigned 64 v.1, 0, 0, v.2)
  match s.get Fld.FLYER_LOOP_CFG_SP_SRC n with
  | 0 => (x.sp, x.ffv, x.ffa, false)
  | 1 =>
    let v := satQ (roundEven x.profile.v (2 + s.get Fld.FLYER_LOOP_CFG_FF_SHIFT n))
    let a := satQ (roundEven x.profile.a (2 + s.get Fld.FLYER_LOOP_CFG_FF_SHIFT n))
    (x.profile.p, v.1, a.1, v.2 || a.2)
  | 2 => val (0x60 + ch % 16)
  | 3 => (unsigned 64 (signed 32 (s.position (ch % 16)) * s.getInt Fld.FLYER_LOOP_GEAR_GEAR n * 65536), 0, 0, false)
  | 4 => val (0x20 + ch % 16)
  | _ => (0, 0, 0, false)

/-! ## The profile generator (R309, R310) -/

/-- Reads a move record (Table 10.5). -/
def Move.ofBytes (bs : List Byte) : Move :=
  let h (a : Nat) := fieldOf bs a 2
  ⟨fieldOf bs 0 8, signed 64 (fieldOf bs 8 8), [h 20, h 22, h 24, fieldOf bs 16 4, h 26, h 28, h 30]⟩

/-- Length of segment 1 to 7. -/
def Move.len (m : Move) (seg : Nat) : Nat := m.lens.getD (seg - 1) 0

/-- Passes over segments that have no samples left; a move that ends stands at its target. -/
def Profile.advance (x : Profile) : Nat → Profile
  | 0 => x
  | fuel + 1 =>
    if x.seg = 0 ∨ x.n ≠ 0 then x
    else if x.seg = 7 then { x with p := x.move.target, v := 0, a := 0, seg := 0 }
    else Profile.advance { x with seg := x.seg + 1, n := x.move.len (x.seg + 1) } fuel

/-- Clamps a magnitude to a limit, and says whether it did. -/
def limitTo (v : Int) (m : Nat) : Int × Bool :=
  if (m : Int) < v then (m, true) else if v < -(m : Int) then (-(m : Int), true) else (v, false)

/-- One sample of the generator, whether a limit clamped it, and whether v or a saturated (R297, R309). -/
def Profile.step (x : Profile) (amax vmax : Nat) : Profile × Bool × Bool :=
  let y := match x.seg, x.queue with
    | 0, m :: rest => { x with move := m, queue := rest, seg := 1, n := m.len 1 }
    | _, _ => x
  let y := y.advance 8
  if y.seg = 0 then (y, false, false) else
  let j := if y.seg = 1 ∨ y.seg = 7 then y.move.jerk else if y.seg = 3 ∨ y.seg = 5 then -y.move.jerk else 0
  let a := limitTo (sat64 (y.a + j)) amax
  let v := limitTo (sat64 (y.v + a.1)) vmax
  ({ y with p := unsigned 64 ((y.p : Int) + v.1), v := v.1, a := a.1, n := y.n - 1 }.advance 8, a.2 || v.2,
    sat64 (y.a + j) != y.a + j || sat64 (y.v + a.1) != y.v + a.1)

/-- The generator of a loop advances by one sample. -/
def State.profileStep (s : State) (n : Nat) : State :=
  let r := (s.loop n).profile.step (s.get Fld.FLYER_LOOP_AMAX_AMAX n) (s.get Fld.FLYER_LOOP_VMAX_VMAX n)
  (s.modLoop n (fun x => { x with profile := r.1 })).doIf r.2.1 (fun t => t.raise Flg.FLYER_LOOP_EVT_PROFILE_CLAMP n)

/-- Whether the generator's next sample saturates v or a. -/
def State.profileSat (s : State) (n : Nat) : Bool :=
  ((s.loop n).profile.step (s.get Fld.FLYER_LOOP_AMAX_AMAX n) (s.get Fld.FLYER_LOOP_VMAX_VMAX n)).2.2

/-! ## The mailbox (R306 to R308) -/

/-- FLAGS bits of a mailbox entry. -/
def Entry.flag (e : Entry) (b : Nat) : Bool := fieldOf e.bytes 24 1 / 2 ^ b % 2 == 1

/-- R307: the entry is refused. -/
def State.mailboxBad (s : State) (n : Nat) (e : Entry) : Bool :=
  decide (8 ≤ fieldOf e.bytes 24 1) || fieldOf e.bytes 25 3 != 0 || (e.bytes.drop 64).any (fun b => b != 0) ||
  (e.flag 0 && s.get Fld.FLYER_LOOP_CFG_SP_SRC n != 0) || (e.flag 1 && decide (8 ≤ (s.loop n).profile.queue.length))

/-- MAILBOX_STAGE: a row of 512 bytes is staged whole, or refused (R306 to R308). -/
def State.mailboxStage (s : State) (n : Nat) (row : List Byte) (await : Option Nat) : State :=
  let e : Entry := ⟨row, await, none⟩
  if s.mailboxBad n e then s.raise Flg.FLYER_LOOP_EVT_MBX_BAD n
  else
    let t := s.doIf (s.loop n).staged.isSome (fun t => t.raise Flg.FLYER_LOOP_EVT_MBX_REPLACED n)
    t.modLoop n (fun x => { x with staged := some e })

/-- A staged entry is discarded because no release was given (R308); the MOVE that waited for it ends (R532). -/
def State.mailboxWithhold (s : State) (n : Nat) : State :=
  let t := (s.modLoop n (fun x => { x with staged := none })).raise Flg.FLYER_LOOP_EVT_MBX_WITHHELD n
  match (s.loop n).staged with
  | some e => match e.await with
    | some uid => t.modCmd uid (fun c => if c.phase = .held then { c with phase := .ended } else c)
    | none => t
  | none => t

/-- What an entry does when it takes effect (R307).  Whether PROFILE_STOP also drops the entry's own MOVE, the
rule leaves open. -/
def Entry.apply (e : Entry) (x : Loop) (dropOwn : Bool) : Loop :=
  let m := Move.ofBytes ((e.bytes.drop 32).take 32)
  let x := if e.flag 0 then
      { x with sp := fieldOf e.bytes 8 8, ffv := signed 32 (fieldOf e.bytes 16 4), ffa := signed 32 (fieldOf e.bytes 20 4) }
    else x
  let own := if e.flag 1 then [m] else []
  let pr := x.profile
  let stopped := { pr with queue := if dropOwn then [] else own, v := 0, a := 0, seg := 0, n := 0 }
  { x with
    staged := none
    profile := if e.flag 2 then stopped else { pr with queue := pr.queue ++ own } }

/-- MAILBOX_TAKE_EFFECT: at the first sample at or after EFFECTIVE (R306, R308). -/
def State.mailboxTake (s : State) (n stamp : Nat) : State :=
  match (s.loop n).staged with
  | none => s
  | some e =>
    if stamp < fieldOf e.bytes 0 8 then s
    else if e.await.isSome then s.mailboxWithhold n
    else
      let t := s.modLoop n (fun x => e.apply x (Config.freeBit s.freeCount 0))
      { t with freeCount := t.freeCount + 1 }.set Fld.FLYER_LOOP_MBX_SEQ_SEQ n (fieldOf e.bytes 28 4)

/-! ## PWM outputs (R323 to R325) -/

/-- The loop that owns a phase of a group. -/
def State.phaseOwner (s : State) (g ph : Nat) : Nat :=
  if !s.isSet Fld.FLYER_PWM_CFG_MODE g || ph == 0 then s.get Fld.FLYER_PWM_CFG_OWNER_U g
  else if ph = 1 then s.get Fld.FLYER_PWM_CFG_OWNER_V g else s.get Fld.FLYER_PWM_CFG_OWNER_W g

/-- The groups of which a loop owns a phase. -/
def State.ownedGroups (s : State) (n : Nat) : List Nat :=
  (List.range 8).filter (fun g => (List.range 3).any (fun ph => s.phaseOwner g ph == n))

/-- What a PWM pin drives. -/
inductive PinDrive where
  | low | high | highZ
  /-- the carrier, with half-width H -/
  | carrier (h : Nat)
  deriving DecidableEq, Repr

/-- What pin `pin` (UH, UL, VH, VL, WH, WL) of a group drives (R316, R325, Table 21.3). -/
def State.pwmPin (s : State) (g pin : Nat) : PinDrive :=
  if s.dev = .off ∨ s.dev = .sleep then .highZ else if s.dev = .reset then .low
  else if s.loopState (s.phaseOwner g (pin / 2)) = 2 then .carrier (Sparse.get 0 s.flyer.compare (4 * g + pin / 2))
  else match bitsOf (s.get Fld.FLYER_PWM_SAFE_PATTERN g) (2 * pin) 2 with
    | 1 => .high
    | 2 => .highZ
    | _ => .low

/-- The place of a count in the carrier period of a group: ticks since counter zero (R323). -/
def State.carrierPlace (s : State) (g t : Nat) : Nat :=
  let period := s.get Fld.FLYER_PWM_PERIOD_TICKS g
  (t + period - s.get Fld.FLYER_PWM_PHASE_TICKS g % period) % period

/-- The command of a phase of a group at a count, with half-width H (R323). -/
def State.cmdHigh (s : State) (g h t : Nat) : Bool :=
  let mid := s.get Fld.FLYER_PWM_PERIOD_TICKS g / 2
  decide (mid - h ≤ s.carrierPlace g t) && decide (s.carrierPlace g t < mid + h)

/-- The command edge that made the command's level at a count `t`, its half-width H in force since the load that `x`
tells of: the edge of the carrier if it came after the load, else the change at the load, else the last one before it;
none where the command has had no edge. -/
def State.cmdEdge (s : State) (g h t : Nat) (x : CmdEdge) : Option Nat :=
  let period := s.get Fld.FLYER_PWM_PERIOD_TICKS g
  let high := s.cmdHigh g h t
  let place := if high then period / 2 - h else period / 2 + h
  let ago := (s.carrierPlace g t + period - place) % period
  if h ≠ 0 ∧ 2 * h < period ∧ x.load + ago ≤ t then some (t - ago)
  else if x.was = high then x.edge else some x.load

/-- Whether a pin that the carrier drives is on now (R323): a high-side pin from DEADTIME ticks after the rising command
edge until the falling one, a low-side pin from DEADTIME ticks after the falling edge until the rising one.  An edge
counts as it was made, with the compare value then in force. -/
def State.carrierOn (s : State) (g pin : Nat) : Bool :=
  let h := Sparse.get 0 s.flyer.compare (4 * g + pin / 2)
  (s.cmdHigh g h s.now == decide (pin % 2 = 0)) &&
  (match s.cmdEdge g h s.now (Sparse.get CmdEdge.reset s.flyer.edges (4 * g + pin / 2)) with
    | some e => decide (e + s.get Fld.FLYER_PWM_DEADTIME_TICKS g ≤ s.now) || decide (s.now < e)
    | none => true)

/-- The level of a PWM pin now. -/
def State.pwmLevel (s : State) (g pin : Nat) : PinDrive :=
  match s.pwmPin g pin with
  | .carrier _ => if s.carrierOn g pin then .high else .low
  | d => d

/-- Writes a phase's half-width H from a phase value v into its compare shadow (R323, R324). -/
def State.drivePhase (s : State) (g ph : Nat) (v : Int) : State :=
  let d := roundEven (v + 2 ^ 30) 1
  let c := max 0 (min d (2 ^ 30))
  let h := roundEven (c * s.get Fld.FLYER_PWM_PERIOD_TICKS g) 31
  let t := { s with flyer := { s.flyer with shadow := Sparse.put 0 s.flyer.shadow (4 * g + ph) h.toNat } }
  t.doIf (decide (c ≠ d)) (fun t => t.raise Flg.FLYER_PWM_EVT_DUTY_CLAMP g)

/-- U drives its pins by OUT_KIND; also whether a phase voltage saturated (R324). -/
def State.drive (s : State) (n : Nat) (u : Int) : State × Bool :=
  let g := s.get Fld.FLYER_LOOP_OUT_GROUP n
  match s.get Fld.FLYER_LOOP_OUT_OUT_KIND n with
  | 2 => (s.drivePhase g (s.get Fld.FLYER_LOOP_OUT_PHASE n) u, false)
  | 1 =>
    let th := s.angle n
    let va := rnd (-u * sinQ th)
    let vb := rnd (u * cosQ th)
    let vv := rnd (-va.1 * 2 ^ 29 + vb.1 * S3)
    let vw := rnd (-va.1 * 2 ^ 29 - vb.1 * S3)
    (((s.drivePhase g 0 va.1).drivePhase g 1 vv.1).drivePhase g 2 vw.1, va.2 || vb.2 || vv.2 || vw.2)
  | _ => (s, false)

/-! ## Transmit-at-time (R326, R466, R491) -/

/-- The frame that CAN slot `slot` of controller `n` sends with its data: the template's identifier and flags (R491). -/
def State.canSlotFrame (s : State) (n slot : Nat) (bs : List Byte) : CanFrame :=
  let i := ix n slot
  let fd := s.get Fld.CAN_SLOT_CFG_FD i
  ⟨s.get Fld.CAN_SLOT_ID_ID i, fd, s.isSet Fld.CAN_SLOT_CFG_IDE i, false, s.isSet Fld.CAN_SLOT_CFG_BRS i && fd == 1, false,
   bs.length, 0, 0, 0, bs⟩

/-- A MAC beyond its registers. -/
def State.mac (s : State) (m : Nat) : Mac := Sparse.get Mac.reset s.macs m
/-- Replaces it. -/
def State.putMac (s : State) (m : Nat) (x : Mac) : State := { s with macs := Sparse.put Mac.reset s.macs m x }

/-- The bytes of a transmit slot's template, its length, where its payload starts and whether it is valid. -/
def State.slotTemplate (s : State) (target slot : Nat) : List Byte × Nat × Nat × Bool :=
  if target < 8 then
    let len := s.get Fld.CAN_SLOT_CFG_LEN (ix target slot)
    (((List.range 16).map (fun w => leBytes 4 (s.get Fld.CAN_SLOT_TPL_DATA (ix3 target slot w)))).flatten.take len, len, 0,
     s.isSet Fld.CAN_SLOT_CFG_VALID (ix target slot))
  else
    let m := target - 8
    let len := s.get Fld.ETH_SLOT_CFG_LEN_M1 (ix m slot) + 1
    (((List.range 32).map (fun w => leBytes 4 (s.get Fld.ETH_SLOT_TPL_DATA (ix3 m slot w)))).flatten.take len, len,
     s.get Fld.ETH_SLOT_CFG_PAYLOAD_OFS (ix m slot), s.isSet Fld.ETH_SLOT_CFG_VALID (ix m slot))

/-- SLOT_REFUSED of the slot's controller. -/
def State.slotRefuse (s : State) (target : Nat) : State :=
  if target < 8 then s.raise Flg.CAN_EVT_SLOT_REFUSED target else s.raise Flg.ETH_EVT_SLOT_REFUSED (target - 8)

/-- Replaces a run of bytes of a list. -/
def patch (bs : List Byte) (a : Nat) (v : List Byte) : List Byte := bs.take a ++ v ++ bs.drop (a + v.length)

/-- U shifted right 16, rounded to nearest even and saturated to 16 bits (R326). -/
def sat16 (u : Int) : Int := max (-32768) (min (roundEven u 16) 32767)

/-- A new request of a MAC's slot has not been judged late. -/
def State.freshReq (s : State) (m slot : Nat) : State :=
  s.putMac m { s.mac m with late := (s.mac m).late.filter (fun i => i != slot) }

/-- FLYER_TRANSMIT_REQUEST: U into a slot, to be sent at the stamp plus TX_DELAY (R326). -/
def State.transmit (s : State) (n stamp : Nat) (u : Int) : State :=
  let target := s.get Fld.FLYER_LOOP_TX_TARGET n
  let slot := s.get Fld.FLYER_LOOP_TX_SLOT n
  if (Sparse.find s.flyer.slots (4 * target + slot)).isSome then s.raise Flg.FLYER_LOOP_EVT_TX_BUSY n
  else
    let (bs, len, ofs, valid) := s.slotTemplate target slot
    let v := if s.isSet Fld.FLYER_LOOP_TX_WIDTH n then leBytes 4 (unsigned 32 u)
      else leBytes 2 (unsigned 16 (sat16 u))
    let a := ofs + s.get Fld.FLYER_LOOP_TX_BYTE n
    if !valid || decide (len < a + v.length) then s.slotRefuse target
    else
      let frame := patch bs a v
      let q : SlotReq := ⟨n, stamp + s.get Fld.FLYER_LOOP_TX_DELAY_TICKS n, frame,
        if target < 8 then some (s.canSlotFrame target slot frame) else none⟩
      let t := s.doIf (decide (8 ≤ target)) fun s => s.freshReq (target - 8) slot
      { t with flyer := { t.flyer with slots := Sparse.insert t.flyer.slots (4 * target + slot) q } }

/-- Whether a CLOSED loop transmits at this sample (R326). -/
def State.transmits (s : State) (n : Nat) : Bool :=
  s.isSet Fld.FLYER_LOOP_TX_EN n && (s.loop n).run % (s.get Fld.FLYER_LOOP_TX_DIV_M1 n + 1) == 0

/-- Whether the 16-bit value that a loop writes into its slot saturates (R297, R326). -/
def State.transmitSat (s : State) (n : Nat) (u : Int) : Bool :=
  s.transmits n && !s.isSet Fld.FLYER_LOOP_TX_WIDTH n && sat16 u != roundEven u 16 &&
  (Sparse.find s.flyer.slots (4 * s.get Fld.FLYER_LOOP_TX_TARGET n + s.get Fld.FLYER_LOOP_TX_SLOT n)).isNone

/-! ## Loop states (R311 to R318) -/

/-- A request that the rules do not allow, or that a higher cause drops (R314, R317). -/
def State.loopRefuse (s : State) (n : Nat) : State := s.raise Flg.FLYER_LOOP_EVT_REQ_REFUSED n

/-- The rank in R317's list of the cause that has decided the loop in this beat; 6 for none. -/
def State.loopRank (s : State) (n : Nat) : Nat :=
  match (s.loop n).decided with
  | some (instant, rank, _) => if instant = s.refTime then rank else 6
  | none => 6

/-- The state of the loop before any cause of this beat. -/
def State.loopBefore (s : State) (n : Nat) : Nat :=
  match (s.loop n).decided with
  | some (instant, _, before) => if instant = s.refTime then before else s.loopState n
  | none => s.loopState n

/-- A cause decides the loop: where it ranks above the one that has decided the loop in this beat, what that one did is
undone, and a request so dropped is refused (R317). -/
def State.loopTake (s : State) (n rank : Nat) : State :=
  if s.loopRank n ≤ rank then s
  else
    let before := s.loopBefore n
    let t := s.doIf (decide (s.loopState n ≠ before)) fun t => (t.set Fld.FLYER_LOOP_STATE_STATE n before).loopRefuse n
    t.modLoop n (fun x => { x with decided := some (s.refTime, rank, before) })

/-- Leaving CLOSED cancels the loop's unstarted transmit requests, and the override path applies the safe pattern to
the groups it owns (R314, R325); a loop that an overtaken OPEN has taken out in this beat has done so. -/
def State.loopLeave (s : State) (n : Nat) : State :=
  if s.loopState n = 2 ∧ (s.loop n).opened ≠ some s.refTime then
    let t := { s with flyer := { s.flyer with slots := s.flyer.slots.filter (fun q => q.2.loop != n) } }
    t.forEach (s.ownedGroups n) (fun t g => t.raise Flg.FLYER_PWM_EVT_SAFE_APPLIED g)
  else s

/-- A loop enters OPEN. -/
def State.loopToOpen (s : State) (n : Nat) : State :=
  (((s.loopLeave n).set Fld.FLYER_LOOP_STATE_STATE n 0).set Fld.FLYER_LOOP_STATE_LAST_STATUS n 0).modLoop n
    (fun x => { x with opened := some s.refTime })

/-- Whether the RWO fields of a loop take a write: the loop is OPEN and has not entered OPEN in this beat, or is CLOSING
by a CLOSE request of this beat, which the write precedes (R313). -/
def State.loopConfig (s : State) (n : Nat) : Bool :=
  (s.loopState n == 0 && decide ((s.loop n).opened ≠ some s.refTime)) || (s.loopState n == 1 && s.loopBefore n == 0)

/-- A loop that is not OPEN enters SAFE: cause 1 the Selvedge or the device state, 2 an input fault (R314); they rank
above every request (R317). -/
def State.loopToSafe (s : State) (n cause : Nat) : State :=
  if s.loopState n = 3 then s.doIf (s.loopRank n == 3 && cause == 1) fun s => s.set Fld.FLYER_LOOP_STATE_SAFE_CAUSE n 1
  else if s.loopState n = 0 ∧ s.loopBefore n = 0 then s
  else
    let t := s.loopTake n (cause + 1)
    if t.loopState n = 0 ∨ t.loopState n = 3 then t
    else (((t.loopLeave n).set Fld.FLYER_LOOP_STATE_STATE n 3).set Fld.FLYER_LOOP_STATE_SAFE_CAUSE n cause).raise
      Flg.FLYER_LOOP_EVT_SAFE_ENTRY n

/-- A Selvedge fault, or entry to device state SAFE or ALARM (Table 10.7). -/
def State.loopsSafe (s : State) : State := s.forEach (List.range 32) (fun t n => t.loopToSafe n 1)

/-- Entry to device state STANDBY (Table 10.7). -/
def State.loopsOpen (s : State) : State :=
  s.forEach (List.range 32) (fun t n => if t.loopState n = 1 ∨ t.loopState n = 2 then t.loopToOpen n else t)

/-- The output group or phase names this loop as its owner. -/
def State.ownsOutput (s : State) (n : Nat) : Bool :=
  let g := s.get Fld.FLYER_LOOP_OUT_GROUP n
  let ph := s.get Fld.FLYER_LOOP_OUT_PHASE n
  match s.get Fld.FLYER_LOOP_OUT_OUT_KIND n with
  | 0 => true
  | 1 => (List.range 3).all (fun p => s.phaseOwner g p == n)
  | 2 => decide (ph < 3) && s.phaseOwner g ph == n
  | _ => false

/-- The first close condition that fails, 0 for none (R312). -/
def State.closeReason (s : State) (n : Nat) : Nat :=
  if s.dev ≠ .run then 1
  else if !s.ownsOutput n then 2
  else if !s.kindsMatch n then 3
  else if !(s.loopInputs n).all (fun c => s.inputReady c && !s.inputFaulty c) ||
    (s.usesAngle n && decide (inputKind (s.get Fld.FLYER_LOOP_ANGLE_ANGLE_SRC n) ≠ some true)) then 4
  else if (s.competing n).isEmpty || !(s.ctls n).all (fun k =>
      decide (s.ctl Fld.FLYER_CTL_OUT_MIN_LIMIT n k ≤ s.ctl Fld.FLYER_CTL_OUT_MAX_LIMIT n k) &&
      decide (s.ctl Fld.FLYER_CTL_I_MIN_LIMIT n k ≤ s.ctl Fld.FLYER_CTL_I_MAX_LIMIT n k)) then 5
  else if !s.isSet Fld.FLYER_LOOP_CFG_TRIG_MODE n &&
      (decide (s.get Fld.FLYER_LOOP_TRIG_PERIOD_TICKS n < 4000) ||
       decide (s.get Fld.FLYER_LOOP_TRIG_PERIOD_TICKS n ≤ s.get Fld.FLYER_LOOP_TRIG_PHASE_TICKS n)) then 6
  else 0

/-- What closing initialises (R310, R312). -/
def State.closeInit (s : State) (n : Nat) : State :=
  let fb := s.get Fld.FLYER_CTL_CFG_FB_SRC (ix n 0)
  let p := if s.fbKind n 0 = some true then s.position fb * 2 ^ 32 else (s.loop n).profile.p
  let t := s.modLoop n (fun x => { x with
    hists := [], selected := none, run := 0, profile := { x.profile with p := p, v := 0, a := 0 } })
  (t.forEach (List.range 4) (fun t k =>
    (t.set Fld.FLYER_CTL_I_VALUE (ix n k) (t.get Fld.FLYER_CTL_I_INIT_VALUE (ix n k))).set Fld.FLYER_CTL_U_VALUE (ix n k) 0)).set
    Fld.FLYER_LOOP_STATE_CLOSE_REASON n 0

/-! ## The controllers (R298 to R303) -/

/-- Feedback of a value-kind controller (R303). -/
def State.feedback (s : State) (n k : Nat) : Int × Bool :=
  let a := s.value n (s.get Fld.FLYER_CTL_CFG_FB_SRC (ix n k)) true
  if s.isSet Fld.FLYER_CTL_CFG_FB_MODE (ix n k) then
    let b := s.value n (s.get Fld.FLYER_CTL_CFG_FB_SRC2 (ix n k)) true
    let be := rnd ((a.1 + 2 * b.1) * K3)
    let y := rnd (be.1 * cosQ (s.angle n) - a.1 * sinQ (s.angle n))
    (y.1, a.2 || b.2 || be.2 || y.2)
  else a

/-- error(k) (R299): `sp` is the loop's set-point, `outer` the outer uc before this sample. -/
def State.ctlError (s : State) (n k sp : Nat) (outer : Int) : Int × Bool :=
  if s.fbKind n k = some true then
    let y := s.position (s.get Fld.FLYER_CTL_CFG_FB_SRC (ix n k))
    satQ (roundEven (signed 64 (unsigned 64 ((sp : Int) - y * 2 ^ 32))) (2 + s.get Fld.FLYER_LOOP_CFG_POS_SHIFT n))
  else
    let y := s.feedback n k
    let v := match s.get Fld.FLYER_CTL_CFG_SP_SEL (ix n k) with
      | 1 => s.ctl Fld.FLYER_CTL_SP_CONST_VALUE n k
      | 2 => outer
      | _ => signed 32 sp
    let e := rnd ((v - y.1) * 2 ^ 30)
    (e.1, y.2 || e.2)

/-- The integrator of controller k updates at this sample (R300). -/
def State.integrates (s : State) (n k : Nat) : Bool :=
  decide ((s.loop n).selected = some k) || (s.isSet Fld.FLYER_LOOP_CFG_CASCADE n && k == 0) || s.competing n == [k]

/-- One sample of controller k (R298). -/
def State.ctlStep (s : State) (n k sp : Nat) (ffv ffa outer : Int) : State × Bool :=
  let h := Sparse.get Hist.zero (s.loop n).hists k
  let c (f : Field) := s.ctl f n k
  let e := s.ctlError n k sp outer
  let ef := rnd (s.bq n k 0 0 * e.1 + s.bq n k 0 1 * h.e1 + s.bq n k 0 2 * h.e2 - s.bq n k 0 3 * h.ef1 - s.bq n k 0 4 * h.ef2)
  let i0 := c Fld.FLYER_CTL_I_VALUE
  let ir := if s.integrates n k then rnd (i0 * 2 ^ 30 + c Fld.FLYER_CTL_KI_GAIN * ef.1) else (i0, false)
  let i := if s.integrates n k then min (max ir.1 (c Fld.FLYER_CTL_I_MIN_LIMIT)) (c Fld.FLYER_CTL_I_MAX_LIMIT) else i0
  let u := rnd (c Fld.FLYER_CTL_KP_GAIN * ef.1 + c Fld.FLYER_CTL_KD_GAIN * (ef.1 - h.ef1) + i * 2 ^ 30 +
    c Fld.FLYER_CTL_KV_GAIN * ffv + c Fld.FLYER_CTL_KA_GAIN * ffa)
  let uf := rnd (s.bq n k 1 0 * u.1 + s.bq n k 1 1 * h.u1 + s.bq n k 1 2 * h.u2 - s.bq n k 1 3 * h.uf1 - s.bq n k 1 4 * h.uf2)
  let uc := min (max uf.1 (c Fld.FLYER_CTL_OUT_MIN_LIMIT)) (c Fld.FLYER_CTL_OUT_MAX_LIMIT)
  let t := s.modLoop n (fun x => { x with
    hists := Sparse.put Hist.zero x.hists k ⟨e.1, h.e1, ef.1, h.ef1, u.1, h.u1, uf.1, h.uf1⟩ })
  ((t.set Fld.FLYER_CTL_I_VALUE (ix n k) (unsigned 32 i)).set Fld.FLYER_CTL_U_VALUE (ix n k) (unsigned 32 uc),
   e.2 || ef.2 || ir.2 || u.2 || uf.2)

/-- Whether controller k runs at this sample: the outer one of a cascade at every (DIV_M1 + 1)-th (R302). -/
def State.ctlRuns (s : State) (n k : Nat) : Bool :=
  !(s.isSet Fld.FLYER_LOOP_CFG_CASCADE n && k == 0) || (s.loop n).run % (s.get Fld.FLYER_CTL_CFG_DIV_M1 (ix n k) + 1) == 0

/-- Runs the controllers of a list in turn. -/
def State.runCtls (s : State) (n sp : Nat) (ffv ffa outer : Int) : List Nat → State × Bool
  | [] => (s, false)
  | k :: rest =>
    let r := if s.ctlRuns n k then s.ctlStep n k sp ffv ffa outer else (s, false)
    let q := r.1.runCtls n sp ffv ffa outer rest
    (q.1, r.2 || q.2)

/-- The selected controller: lowest uc, or smallest magnitude with SELECT 1; the lowest index wins a tie (R301). -/
def State.select (s : State) (n : Nat) : List Nat → Option Nat
  | [] => none
  | k :: rest =>
    let m (j : Nat) : Int := let u := s.ctl Fld.FLYER_CTL_U_VALUE n j; if s.isSet Fld.FLYER_LOOP_CFG_SELECT n then u.natAbs else u
    match s.select n rest with
    | none => some k
    | some j => if m j < m k then some j else some k

/-- The sample of a CLOSED loop: controllers, selection, output and transmit request; `moved` says that the generator
saturated at this sample. -/
def State.closedSample (s : State) (n stamp : Nat) (good moved : Bool) : State :=
  let (sp, ffv, ffa, sat) := s.setPoint n good
  let r := s.runCtls n sp ffv ffa (s.ctl Fld.FLYER_CTL_U_VALUE n 0) (s.ctls n)
  let k := (r.1.select n (r.1.competing n)).getD 0
  let u := r.1.ctl Fld.FLYER_CTL_U_VALUE n k
  let t := (r.1.set Fld.FLYER_LOOP_U_U n (unsigned 32 u)).set Fld.FLYER_LOOP_STATE_SELECTED n k
  let d := t.drive n u
  let v := d.1.doIf (moved || sat || r.2 || d.2 || s.transmitSat n u) (fun v => v.raise Flg.FLYER_LOOP_EVT_ARITH_SAT n)
  let w := v.doIf (s.transmits n) (fun w => w.transmit n stamp u)
  w.modLoop n (fun x => { x with selected := some k, run := x.run + 1 })

/-- The set-points and the generator advance without controllers; in SAFE the generator stands. -/
def State.openSample (s : State) (n : Nat) : State :=
  let moves := s.loopState n != 3
  let t := (s.doIf moves (fun t => t.profileStep n)).modLoop n (fun x => { x with selected := none })
  t.doIf (moves && (s.profileSat n || (t.setPoint n false).2.2.2)) (fun t => t.raise Flg.FLYER_LOOP_EVT_ARITH_SAT n)

/-- Whether a sample uses last good values: faults since the previous sample with FAULT_ACTION 0 (R318). -/
def State.usesGood (s : State) (n : Nat) : Bool :=
  s.loopState n == 2 && !(s.loop n).faults.isEmpty && !s.isSet Fld.FLYER_LOOP_CFG_FAULT_ACTION n

/-- The generator advances and the controllers run. -/
def State.runSample (s : State) (n stamp : Nat) (good : Bool) : State :=
  (s.profileStep n).closedSample n stamp good (s.profileSat n)

/-- The sample of a loop by its state (Table 10.6, R312, R314, R318).  With FAULT_ACTION 1 a fault reported since the
previous sample moves a CLOSING loop to SAFE before its checks (R317). -/
def State.sampleBody (s : State) (n stamp : Nat) : State :=
  let faulty := !(s.loop n).faults.isEmpty
  let stops := faulty && s.isSet Fld.FLYER_LOOP_CFG_FAULT_ACTION n
  match s.loopState n with
  | 1 =>
    if stops then (s.loopToSafe n 2).openSample n
    else if stamp < s.get Fld.FLYER_LOOP_CLOSE_AT_TIME n then s.openSample n
    else if s.closeReason n = 0 then ((s.closeInit n).set Fld.FLYER_LOOP_STATE_STATE n 2).runSample n stamp false
    else (((s.loopToOpen n).set Fld.FLYER_LOOP_STATE_CLOSE_REASON n (s.closeReason n)).raise
      Flg.FLYER_LOOP_EVT_CLOSE_FAIL n).openSample n
  | 2 =>
    let t := s.doIf faulty (fun t => t.raise Flg.FLYER_LOOP_EVT_INPUT_FAULT n)
    if stops then (t.loopToSafe n 2).openSample n else t.runSample n stamp faulty
  | _ => s.openSample n

/-- One sample: the mailbox, the body, and what the next sample compares with.  FLYER_LOOP_SP shows the set-point that
the sample used. -/
def State.loopSample (s : State) (n stamp : Nat) : State :=
  let t := (s.mailboxTake n stamp).sampleBody n stamp
  let counts := (List.range 16).foldl (fun m e => Sparse.put 0 m e (s.get Fld.FLYER_ENC_COUNT_COUNT e)) []
  let u := t.modLoop n (fun x => { x with last := some stamp, counts := counts, faults := [] })
  (u.set Fld.FLYER_LOOP_SP_SP n (t.setPoint n (s.usesGood n)).1).accum Fld.FLYER_LOOP_SAMPLES_COUNT n 1

/-- Device states in which the Flyer runs. -/
def State.flyerOn (s : State) : Bool := decide (s.dev ≠ .off ∧ s.dev ≠ .reset ∧ s.dev ≠ .sleep)

/-- Whether a trigger of a loop stands at this tick and has not been taken yet (R294). -/
def State.loopTrigger (s : State) (n : Nat) : Bool :=
  (if s.isSet Fld.FLYER_LOOP_CFG_TRIG_MODE n then decide ((s.loop n).due = some s.now)
  else s.now % s.get Fld.FLYER_LOOP_TRIG_PERIOD_TICKS n == s.get Fld.FLYER_LOOP_TRIG_PHASE_TICKS n) &&
  decide ((s.loop n).seen ≠ some s.now)

/-- A sample that coincides with a higher cause makes no update (R317).  Where that cause is a host OPEN, an input fault
with FAULT_ACTION 1 that the sample finds outranks it and takes the loop to SAFE. -/
def State.sampleDropped (s : State) (n : Nat) : State :=
  let was := s.loopBefore n
  if s.loopRank n = 4 ∧ (was = 1 ∨ was = 2) ∧ !(s.loop n).faults.isEmpty ∧ s.isSet Fld.FLYER_LOOP_CFG_FAULT_ACTION n then
    (s.doIf (was == 2) (fun t => t.raise Flg.FLYER_LOOP_EVT_INPUT_FAULT n)).loopToSafe n 2
  else s

/-- LOOP_SAMPLE (R294): a trigger within 4,000 ticks of the previous sample is dropped. -/
def execLoopSample (loop : Nat) (s : State) : Host.Outcome State Fault Refusal :=
  .next (if !s.flyerOn || !s.loopTrigger loop then s else
    let t := s.modLoop loop (fun x => { x with seen := some s.now })
    if t.loopRank loop < 5 then t.sampleDropped loop else
    let early := match (t.loop loop).last with
      | some l => decide (l ≤ s.now) && decide (s.now < l + 4000)
      | none => false
    if early then t.raise Flg.FLYER_LOOP_EVT_TRIG_DROP loop else t.loopSample loop s.now)

/-- LOOP_CLOSE (R312); only a fault reported from here on moves the CLOSING loop to SAFE (R314). -/
def execLoopClose (loop : Nat) (s : State) : Host.Outcome State Fault Refusal :=
  .next (s.host fun s => if 5 ≤ s.loopRank loop ∧ s.loopState loop = 0 ∧ s.dev = .run then
    ((s.loopTake loop 5).modLoop loop (fun x => { x with faults := [] })).set Fld.FLYER_LOOP_STATE_STATE loop 1
  else s.loopRefuse loop)

/-- An OPEN request (R314): it ranks above the other requests of its beat (R317). -/
def State.loopOpenReq (s : State) (n : Nat) : State :=
  if s.loopRank n < 4 then s.loopRefuse n
  else
    let t := s.loopTake n 4
    if t.loopState n = 1 ∨ t.loopState n = 2 then t.loopToOpen n else t.loopRefuse n

/-- LOOP_OPEN (R314). -/
def execLoopOpen (loop : Nat) (s : State) : Host.Outcome State Fault Refusal := .next (s.host fun s => s.loopOpenReq loop)

/-- LOOP_RELEASE (R314). -/
def execLoopRelease (loop : Nat) (s : State) : Host.Outcome State Fault Refusal :=
  .next (s.host fun s => if 5 ≤ s.loopRank loop ∧ s.loopState loop = 3 ∧ (s.dev = .standby ∨ s.dev = .run) ∧
      !(s.loopInputs loop).any s.inputFaulty then
    (s.loopTake loop 5).loopToOpen loop
  else s.loopRefuse loop)

/-- OPEN_ALL (R327): OPEN requested in every loop. -/
def execOpenAll (s : State) : Host.Outcome State Fault Refusal :=
  .next (s.host fun s => s.forEach (List.range 32) (fun t n => t.loopOpenReq n))

/-! ## Input channels (R319 to R322) -/

/-- An encoder beyond its registers. -/
def State.enc (s : State) (e : Nat) : Enc := Sparse.get Enc.reset s.flyer.encs e
/-- Replaces it. -/
def State.putEnc (s : State) (e : Nat) (x : Enc) : State :=
  { s with flyer := { s.flyer with encs := Sparse.put Enc.reset s.flyer.encs e x } }

/-- Moves an encoder's count up or down. -/
def State.encCount (s : State) (e : Nat) (up : Bool) : State :=
  let c := s.get Fld.FLYER_ENC_COUNT_COUNT e
  s.set Fld.FLYER_ENC_COUNT_COUNT e (if up != s.isSet Fld.FLYER_ENC_CFG_DIR_INV e then c + 1 else c + 2 ^ 32 - 1)

/-- Whether a change of one of A and B goes the way in which A leads B. -/
def Enc.aLeads (x y : Enc) : Bool := if x.a != y.a then y.a != y.b else y.a == y.b

/-- What a filtered change of A and B does in the encoder's mode (R319). -/
def State.encMode (s : State) (e : Nat) (x y : Enc) : State :=
  match s.get Fld.FLYER_ENC_CFG_MODE e with
  | 0 =>
    if x.a != y.a && x.b != y.b then (s.raise Flg.FLYER_ENC_EVT_ILLEGAL e).inputFault e
    else if x.a != y.a || x.b != y.b then s.encCount e (x.aLeads y == Config.quadUp) else s
  | 1 => if !x.a && y.a then s.encCount e (!y.b) else s
  | 2 =>
    if !x.a && y.a then
      let t := s.putEnc e { y with rise := some s.now, high := 0 }
      match x.rise with
      | some r => if r < s.now then t.set Fld.FLYER_ENC_DUTY_DUTY e (divEven (x.high * 2 ^ 30) (s.now - r)) else t
      | none => t
    else if x.a && !y.a then s.putEnc e { y with high := s.now - x.rise.getD s.now }
    else s
  | _ => s

/-- ENC_EDGE (R319): levels held for less than FILTER × 4 ticks are ignored. -/
def execEncEdge (channel : Nat) (edge : EncEdge) (s : State) : Host.Outcome State Fault Refusal :=
  .next (if !s.flyerOn || decide (edge.ticks < s.get Fld.FLYER_ENC_CFG_FILTER channel * 4) then s
  else
    let x := s.enc channel
    let y := { x with a := edge.a, b := edge.b, i := edge.i }
    let t := (s.putEnc channel y).encMode channel x y
    if s.isSet Fld.FLYER_ENC_CFG_INDEX_ZERO channel && s.get Fld.FLYER_ENC_CFG_MODE channel != 3 && !x.i && y.i then
      (t.set Fld.FLYER_ENC_COUNT_COUNT channel 0).raise Flg.FLYER_ENC_EVT_INDEX channel
    else t)

/-- Changes the SSI frame in progress. -/
def State.putSsi (s : State) (n : Nat) (v : Option (Nat × Nat)) : State :=
  { s with flyer := { s.flyer with ssi := match v with
    | some x => Sparse.insert s.flyer.ssi n x
    | none => Sparse.erase s.flyer.ssi n } }

/-- SSI_FRAME_START (R320): at a schedule time the interface clocks a frame. -/
def execSsiFrameStart (channel : Nat) (s : State) : Host.Outcome State Fault Refusal :=
  .next (if s.flyerOn && decide (8 ≤ s.get Fld.FLYER_SSI_CFG_BITS channel) && (Sparse.find s.flyer.ssi channel).isNone &&
      s.now % s.get Fld.FLYER_SSI_PERIOD_TICKS channel == s.get Fld.FLYER_SSI_PHASE_TICKS channel then
    s.putSsi channel (some (s.now, s.refTime))
  else s)

/-- Ticks that the frame's bits take (R320). -/
def State.ssiTicks (s : State) (n : Nat) : Nat :=
  s.get Fld.FLYER_SSI_CFG_BITS n * 40 * (s.get Fld.FLYER_SSI_CFG_CLK_DIV n + 1)

/-- Number of 1 bits among the low n. -/
def bitSum (v : Nat) : Nat → Nat
  | 0 => 0
  | n + 1 => v / 2 ^ n % 2 + bitSum v n

/-- The binary number of an n-bit Gray code: each bit is the parity of the code's bits from it up. -/
def grayValue (v n : Nat) : Nat :=
  (List.range n).foldl (fun acc j => acc + 2 ^ j * (bitSum (v % 2 ^ n / 2 ^ j) n % 2)) 0

/-- A frame whose line has not returned high in time is not used (R320). -/
def State.ssiLost (s : State) (n : Nat) : State :=
  ((s.putSsi n none).raise Flg.FLYER_SSI_EVT_TIMEOUT n).inputFault (0x30 + n)

/-- SSI_FRAME_END (R320): the frame's bits and its parity bit have arrived and the line is high again, more than 20 µs
after the frame too late. -/
def execSsiFrameEnd (channel value : Nat) (parity : Bool) (s : State) : Host.Outcome State Fault Refusal :=
  .next (match Sparse.find s.flyer.ssi channel with
    | none => s
    | some (start, ref) =>
      if s.refTime < ref + s.ssiTicks channel then s
      else if ref + s.ssiTicks channel + 20 * Config.us < s.refTime then s.ssiLost channel else
      let n := s.get Fld.FLYER_SSI_CFG_BITS channel
      let ones := bitSum value n + (if parity then 1 else 0)
      let t := s.putSsi channel none
      let mode := s.get Fld.FLYER_SSI_CFG_PARITY channel
      if (mode = 1 ∧ ones % 2 = 1) ∨ (mode = 2 ∧ ones % 2 = 0) then
        (t.raise Flg.FLYER_SSI_EVT_PARITY_ERR channel).inputFault (0x30 + channel)
      else
        let v := if s.isSet Fld.FLYER_SSI_CFG_GRAY channel then grayValue value n else value % 2 ^ n
        (t.set Fld.FLYER_SSI_VALUE_VALUE channel v).set Fld.FLYER_SSI_STAMP_TIME channel start)

/-- SSI_TIMEOUT (R320): 20 µs after the frame the line is not high. -/
def execSsiTimeout (channel : Nat) (s : State) : Host.Outcome State Fault Refusal :=
  .next (match Sparse.find s.flyer.ssi channel with
    | none => s
    | some (_, ref) =>
      if s.refTime < ref + s.ssiTicks channel + 20 * Config.us then s
      else s.ssiLost channel)

/-- The weight that a sinc3 filter of decimation n gives the bit of age j: in how many ways j is a sum of three numbers
below n. -/
def sincWeight (n j : Nat) : Nat :=
  let t (k : Nat) := (k + 1) * (k + 2) / 2
  if j < n then t j else if j < 2 * n then t j - 3 * t (j - n) else if j + 3 ≤ 3 * n then t (3 * n - 3 - j) else 0

/-- The sum S of a sinc3 filter of decimation n (R321) over three periods of bits, oldest first. -/
def sincSum (n first second third : Nat) : Nat :=
  let w := first % 2 ^ n + second % 2 ^ n * 2 ^ n + third % 2 ^ n * 2 ^ (2 * n)
  ((List.range (3 * n)).map (fun j => bitsOf w (3 * n - 1 - j) 1 * sincWeight n j)).sum

/-- The output of a sigma-delta input for the filter sum S (R321). -/
def sdValue (l sum : Nat) : Nat := unsigned 32 ((2 * (sum : Int) - 2 ^ (3 * l)) * 2 ^ (30 - 3 * l))

/-- SD_OUTPUT (R321): a decimation period ends, in which the input has taken the given bits, the first one lowest. -/
def execSdOutput (channel bits : Nat) (s : State) : Host.Outcome State Fault Refusal :=
  .next (let l := s.get Fld.FLYER_SD_CFG_OSR_LOG2 channel
    let old := Sparse.get (0, 0) s.flyer.sdBits channel
    if s.flyerOn && s.isSet Fld.FLYER_SD_CFG_EN channel then
      ({ s with flyer := { s.flyer with
        sdAt := Sparse.put 0 s.flyer.sdAt channel s.refTime
        sdBits := Sparse.put (0, 0) s.flyer.sdBits channel (old.2, bits) } }).set Fld.FLYER_SD_VALUE_VALUE channel
        (sdValue l (sincSum (2 ^ l) old.1 old.2 bits))
    else s)

/-- SD_CLK_LOST (R321): no clock edge for 1 µs, and so none of a decimation period's end either. -/
def execSdClkLost (channel : Nat) (s : State) : Host.Outcome State Fault Refusal :=
  .next (if s.flyerOn && s.isSet Fld.FLYER_SD_CFG_EN channel &&
      decide (Sparse.get 0 s.flyer.sdAt channel + Config.us ≤ s.refTime) then
    (s.raise Flg.FLYER_SD_EVT_CLK_LOST channel).inputFault (0x40 + channel)
  else s)

/-- Counter zero of a PWM group falls at this Whorl time (R323). -/
def State.pwmZero (s : State) (g : Nat) : Bool :=
  s.now % s.get Fld.FLYER_PWM_PERIOD_TICKS g == s.get Fld.FLYER_PWM_PHASE_TICKS g

/-- The channel's trigger stands at this Whorl time (R322). -/
def State.adcTriggered (s : State) (c : Nat) : Bool :=
  match s.get Fld.FLYER_ADC_CFG_TRIG c with
  | 0 => false
  | 1 => true
  | 2 => decide (800 ≤ s.get Fld.FLYER_ADC_PERIOD_TICKS c) &&
      s.now % s.get Fld.FLYER_ADC_PERIOD_TICKS c == s.get Fld.FLYER_ADC_PHASE_TICKS c
  | _ => s.pwmZero (s.get Fld.FLYER_ADC_CFG_PWM_GROUP c)

/-- ADC_TRIGGER (R322): the channel samples, unless its converter is busy. -/
def execAdcTrigger (channel : Nat) (s : State) : Host.Outcome State Fault Refusal :=
  .next (if s.flyerOn && s.adcTriggered channel && (Sparse.find s.flyer.adc channel).isNone then
    { s with flyer := { s.flyer with adc := Sparse.insert s.flyer.adc channel (s.now, s.refTime) } }
  else s)

/-- ADC_END_OF_CONVERSION (R322): 200 ns after sampling; loops in ADC mode are triggered (R294). -/
def execAdcEndOfConversion (channel code : Nat) (s : State) : Host.Outcome State Fault Refusal :=
  .next (match Sparse.find s.flyer.adc channel with
    | none => s
    | some (stamp, ref) =>
      if s.refTime < ref + 800 then s else
      let bad := code == 0 || decide (4095 ≤ code)
      let f := { s.flyer with
        adc := Sparse.erase s.flyer.adc channel
        good := if bad then s.flyer.good else Sparse.put 0 s.flyer.good channel code }
      let t := ({ s with flyer := f }.set Fld.FLYER_ADC_VALUE_CODE channel (min code 4095)).set
        Fld.FLYER_ADC_STAMP_TIME channel stamp
      let u := t.doIf bad (fun u => (u.raise Flg.FLYER_ADC_EVT_OVERRANGE channel).inputFault (0x60 + channel))
      u.forEach (List.range 32) (fun u n =>
        if u.isSet Fld.FLYER_LOOP_CFG_TRIG_MODE n && u.get Fld.FLYER_LOOP_CFG_TRIG_ADC n == channel then
          u.modLoop n (fun x => { x with due := some s.now })
        else u))

/-- What a phase's command has done up to a load now. -/
def State.edgeBefore (s : State) (g ph : Nat) : CmdEdge :=
  let x := Sparse.get CmdEdge.reset s.flyer.edges (4 * g + ph)
  let h := Sparse.get 0 s.flyer.compare (4 * g + ph)
  if x.load = s.now then x else ⟨s.now, s.cmdHigh g h (s.now - 1), s.cmdEdge g h (s.now - 1) x⟩

/-- Loads the compare shadows of a group. -/
def State.pwmLoad (s : State) (g : Nat) : State :=
  let load (m : List (Nat × Nat)) (ph : Nat) := Sparse.put 0 m (4 * g + ph) (Sparse.get 0 s.flyer.shadow (4 * g + ph))
  let edge (m : List (Nat × CmdEdge)) (ph : Nat) := Sparse.put CmdEdge.reset m (4 * g + ph) (s.edgeBefore g ph)
  { s with flyer := { s.flyer with
    compare := (List.range 3).foldl load s.flyer.compare
    edges := (List.range 3).foldl edge s.flyer.edges } }

/-- PWM_COUNTER_ZERO (R323). -/
def execPwmCounterZero (group : Nat) (s : State) : Host.Outcome State Fault Refusal :=
  .next (if s.flyerOn && s.pwmZero group then s.pwmLoad group else s)

/-- PWM_CENTRE_LOAD (R323): with LOAD 1 the shadow also loads at the centre. -/
def execPwmCentreLoad (group : Nat) (s : State) : Host.Outcome State Fault Refusal :=
  .next (let p := s.get Fld.FLYER_PWM_PERIOD_TICKS group
    let z := s.get Fld.FLYER_PWM_PHASE_TICKS group
    if s.flyerOn && s.isSet Fld.FLYER_PWM_CFG_LOAD group && decide (z < p) && s.now % p == (z + p / 2) % p then
      s.pwmLoad group
    else s)

end Sys2Proof.Machine
end

