-- ==== Sys2Proof/Machine/Tokens.lean ====
section
/-! DEFINITION. Job faults as they arise (R417, R418), spindle traps (R73), and tokens (R84 to R93): signals,
waits, grants, and the streams that a grant serves (R333, R353). -/

namespace Sys2Proof.Machine

/-! ## Job faults -/

/-- A job fault arises: the first one starts an abort and is recorded; one that arises while an abort is under
way or in recovery is absorbed (R418).  `State.settle` carries the abort out. -/
def State.jobFault (s : State) (status job source : Nat) : State :=
  if s.isSet Fld.HEDDLE_STATUS_ABORTING 0 then s.raise Flg.HEDDLE_EVT_ABORT_ABSORBED 0
  else
    let t := ((((s.set Fld.HEDDLE_STATUS_ABORTING 0 1).set Fld.HEDDLE_ABORT_CAP_STATUS 0 status).set
      Fld.HEDDLE_ABORT_CAP_JOB 0 job).set Fld.HEDDLE_ABORT_CAP_SOURCE 0 source).set
      Fld.HEDDLE_ABORT_TIME_TIME 0 s.now
    let u := t.raise Flg.HEDDLE_EVT_JOB_ABORT 0
    { u with heddle := { u.heddle with fault := some (status, job, source), abortAt := s.refTime } }

/-- A trap of skein k: the first since TRAP was last 0 is latched, TRAP is set, and it is a job fault (R73). -/
def State.trap (s : State) (k core cause code job : Nat) : State :=
  let latch (t : State) : State :=
    ((t.set Fld.SKEIN_TRAP_CORE k core).set Fld.SKEIN_TRAP_CAUSE k cause).set Fld.SKEIN_TRAP_CODE k code
  ((s.doIf (!s.isSet Fld.SKEIN_EVT_TRAP k) latch).raise Flg.SKEIN_EVT_TRAP k).jobFault 0 job k

/-! ## Tokens -/

/-- The token of an ID. -/
def State.token (s : State) (id : Nat) : Token := Sparse.get Token.reset s.tokens id

/-- Replaces a token. -/
def State.putToken (s : State) (id : Nat) (t : Token) : State :=
  { s with tokens := Sparse.put Token.reset s.tokens id t }

/-- Index 0 of every skein is the null token (R84). -/
def tokenNull (id : Nat) : Bool := id % 1024 == 0

/-- The home skein of a token (R84). -/
def tokenHome (id : Nat) : Nat := id / 1024

/-- Whether a token is a relay token, whose signals pass to the hub (R440). -/
def State.relays (s : State) (id : Nat) : Bool := s.isSet Fld.IWL_CTRL_RELAY_EN 0 && decide (1008 ≤ id % 1024)

/-- Whether a job may signal the token: it owns it, or the token is the null token, which serves every job (R84, R92). -/
def State.ownsToken (s : State) (job id : Nat) : Bool := tokenNull id || (s.token id).owner == some job

/-- Whether a job may wait on the token: no wait names a relay token (R92, R440). -/
def State.mayWait (s : State) (job id : Nat) : Bool := s.ownsToken job id && !s.relays id

/-- A signal sets out for its token; one to a null token is discarded (R84, R89). -/
def State.signal (s : State) (id amount : Nat) : State :=
  if tokenNull id then s else { s with signals := s.signals ++ [(id, amount)] }

/-- A capture stream. -/
def State.cap (s : State) (n : Nat) : CapStream := Sparse.get CapStream.reset s.caps n
/-- Replaces a capture stream. -/
def State.putCap (s : State) (n : Nat) (c : CapStream) : State := { s with caps := Sparse.put CapStream.reset s.caps n c }
/-- A dataset stream. -/
def State.ds (s : State) (d : Nat) : DsStream := Sparse.get DsStream.reset s.datasets d
/-- Replaces a dataset stream. -/
def State.putDs (s : State) (d : Nat) (x : DsStream) : State :=
  { s with datasets := Sparse.put DsStream.reset s.datasets d x }

/-- LEVEL of a capture stream: published buffers not yet returned. -/
def State.capLevel (s : State) (n : Nat) : Nat :=
  s.get Fld.CARD_CAP_NBUF_NBUF n - s.get Fld.CARD_CAP_STATUS_POOL n - (if (s.cap n).held.isSome then 1 else 0)

/-- Brings LEVEL of a capture stream up to date. -/
def State.capSync (s : State) (n : Nat) : State := s.set Fld.CARD_CAP_STATUS_LEVEL n (s.capLevel n)

/-- A field of a dataset stream's registers as it was at enable (R355). -/
def State.dsGet (s : State) (f : Field) (d : Nat) : Nat :=
  match (s.ds d).regs.find? (fun p => p.1 == f.code) with
  | some p => p.2
  | none => s.get f d

/-- The queue level of a dataset stream (R353): batches published since enable, less the grants of FREE beyond the NBUF with
which it starts, each of which is a return. -/
def State.dsLevel (s : State) (d : Nat) : Nat :=
  (s.ds d).published - ((s.ds d).granted - s.dsGet Fld.CARD_DS_BATCH_NBUF d)

/-- Brings LEVEL of a dataset stream up to date. -/
def State.dsSync (s : State) (d : Nat) : State := s.set Fld.CARD_DS_STATUS_LEVEL d (s.dsLevel d)

/-- A grant of FREE adds a buffer to a capture stream's pool (R333). -/
def State.capGrant (s : State) (n : Nat) : State :=
  (s.set Fld.CARD_CAP_STATUS_POOL n (s.get Fld.CARD_CAP_STATUS_POOL n + 1)).capSync n

/-- A grant of FREE adds a buffer to a dataset stream's pool, and may take its level below LOW_WATER (R353). -/
def State.dsGrant (s : State) (d : Nat) : State :=
  let was := s.dsLevel d
  let low := s.get Fld.CARD_DS_BATCH_LOW_WATER d
  let t := ((s.putDs d { s.ds d with granted := (s.ds d).granted + 1 }).set Fld.CARD_DS_STATUS_POOL d
    (s.get Fld.CARD_DS_STATUS_POOL d + 1)).dsSync d
  if low ≠ 0 ∧ was = low ∧ t.dsLevel d < low then
    (t.set Fld.CARD_DS_STATUS_LAST_STATUS d 0x0804).raise Flg.CARD_DS_EVT_LOW_WATER d
  else t

/-- The source that a waiter belongs to (R91): engine queues, cores, the ring engine, hub streams. -/
def Waiter.source (s : State) : Waiter → Nat × Nat
  | .core k c => (1, 2 * k + c)
  | .cap n => (2, n)
  | .ds d => (3, d)
  | .cmd uid => match s.cmd? uid with
    | none => (4, uid)
    | some c => match c.home with
      | .loom k => (5, k)
      | .vec k => (6, k)
      | .drafter k d => (7, 2 * k + d)
      | .prog k q => (8, 2 * k + q)
      | .ply h => (9, h)
      | .kv => (10, 0)
      | .ring => (11, 0)
      | .digest => (12, 0)

/-- Whether waiters of more than one source are among these (R91). -/
def State.contested (s : State) (ws : List Waiter) : Bool :=
  match ws with
  | [] => false
  | w :: rest => rest.any (fun v => decide (v.source s ≠ w.source s))

/-- Whether the waiter stays registered after a grant: a stream keeps one wait registered (R333). -/
def Waiter.stays : Waiter → Bool
  | .cap _ => true
  | .ds _ => true
  | _ => false

/-- What a grant gives its waiter (R88). -/
def State.grantTo (s : State) (w : Waiter) : State :=
  match w with
  | .cmd uid => s.modCmd uid (fun c =>
      if c.opcode = 0x0B ∧ c.phase = .running then s.ending { c with granted := true } 0 0
      else { c with granted := true })
  | .core k c =>
    let x := Sparse.get Core.reset s.cores (2 * k + c)
    { s with cores := Sparse.put Core.reset s.cores (2 * k + c) { x with waitGranted := true } }
  | .cap n => s.capGrant n
  | .ds d => s.dsGrant d

/-- The grants of a token in this beat. -/
def State.beatGrants (s : State) (t : Token) : List (Nat × (Nat × Nat) × Bool) := t.grants.filter (fun g => g.1 == s.refTime)

/-- Tests the registered waiters of a token in order (R88, R90); `fuel` bounds the grants.  Each contested grant counts
(R91). -/
def State.testWaiters (s : State) (id : Nat) : Nat → State
  | 0 => s
  | fuel + 1 =>
    let t := s.token id
    match t.waiters with
    | [] => s
    | w :: rest =>
      if t.count < t.target then s
      else if t.level then (s.putToken id { t with waiters := rest }).grantTo w |>.testWaiters id fuel
      else
        let among := s.contested t.waiters
        let u := s.doIf among (fun u => u.ndc (t.owner.getD 0))
        ((u.putToken id { t with
            count := t.count - t.target, waiters := if w.stays then rest ++ [w] else rest
            grants := s.beatGrants t ++ [(s.refTime, w.source s, among)] }).grantTo w).testWaiters id fuel

/-- Grants that a token can make at once. -/
def Token.fuel (t : Token) : Nat := t.count + t.waiters.length

/-- The home skein serves a token: in fixed-twist mode waiters of two sources at a CONSUME token are a trap of its
owner, and otherwise the waiters are tested (R88 to R91). -/
def State.serve (s : State) (id : Nat) : State :=
  let t := s.token id
  let job := t.owner.getD 0
  if !t.level && s.contested t.waiters && s.fixedTwist job then s.trap (tokenHome id) 0 0x08 0 job
  else s.testWaiters id t.fuel

/-- Whether a waiter makes a grant of this beat contested that was not so yet: it comes from another source (R91). -/
def Waiter.meets (s : State) (w : Waiter) (g : Nat × (Nat × Nat) × Bool) : Bool :=
  g.1 == s.refTime && decide (g.2.1 ≠ w.source s) && !g.2.2

/-- The grants of this beat that a waiter makes contested. -/
def State.metGrants (s : State) (t : Token) (w : Waiter) : Nat := if t.level then 0 else (t.grants.filter (w.meets s)).length

/-- Whether a waiter makes a grant of this beat contested. -/
def State.meetsGrant (s : State) (t : Token) (w : Waiter) : Bool := s.metGrants t w != 0

/-- A token with a waiter more, and with the grants that this waiter contests. -/
def State.joined (s : State) (t : Token) (w : Waiter) : Token :=
  { t with waiters := t.waiters ++ [w], grants := t.grants.map (fun g => if w.meets s g then (g.1, g.2.1, true) else g) }

/-- Adds a number to a job's nondeterminism counter. -/
def State.ndcs (s : State) (job : Nat) : Nat → State
  | 0 => s
  | n + 1 => (s.ndc job).ndcs job n

/-- A wait reaches its token's home: it is satisfied or registered, and a grant of the same beat may prove contested
(R88 to R91). -/
def State.register (s : State) (id : Nat) (w : Waiter) : State :=
  if tokenNull id then s.grantTo w else
  let t := s.token id
  if w ∈ t.waiters then s else
  let job := t.owner.getD 0
  if s.meetsGrant t w then
    let u := s.putToken id (s.joined t w)
    if s.fixedTwist job then u.trap (tokenHome id) 0 0x08 0 job else (u.ndcs job (s.metGrants t w)).serve id
  else (s.putToken id { t with waiters := t.waiters ++ [w] }).serve id

/-- A wait of the beat in which an abort began reaches its token's home after it: in fixed-twist mode it can still prove
that waiters of two sources met there (R91, R418). -/
def State.lateWait (s : State) (id : Nat) (w : Waiter) : State :=
  let t := s.token id
  let job := t.owner.getD 0
  let u := s.putToken id { t with cut := t.cut ++ [w] }
  if !t.level && s.fixedTwist job && (s.contested (t.cut ++ [w]) || s.meetsGrant t w) then
    u.trap (tokenHome id) 0 0x08 0 job
  else u

/-- A signal reaches its token's home: COUNT rises and saturates, and waiters are tested (R89, R90); at a relay token
it passes to the hub instead (R440).  While an abort waits for its signals they are discarded (R417). -/
def State.arrive (s : State) (id amount : Nat) : State :=
  if tokenNull id || s.heddle.tokenReset then s else
  if s.relays id then { s with iwl := { s.iwl with relays := s.iwl.relays ++ [(id, amount)] } } else
  let t := s.token id
  let v := t.count + amount
  let u := (s.putToken id { t with count := min v 0xFFFF }).doIf (decide (0xFFFF < v))
    (fun u => u.raise Flg.SKEIN_EVT_TOKEN_SAT (tokenHome id))
  u.serve id

/-- Withdraws a waiter from every token. -/
def State.withdraw (s : State) (w : Waiter) : State :=
  { s with tokens := s.tokens.map (fun p => (p.1, { p.2 with waiters := p.2.waiters.filter (fun x => decide (x ≠ w)) })) }

/-- The IDs of the tokens that a job owns. -/
def State.ownedTokens (s : State) (job : Nat) : List Nat :=
  (s.tokens.filter (fun p => p.2.owner == some job)).map Prod.fst

end Sys2Proof.Machine
end

