-- ==== Sys2Proof/Machine/Window.lean ====
section
/-! DEFINITION. Writes of job row regions (R110 to R112), and windows (R124 to R132): opening, closing, draining,
and the checks that an arriving remote access passes. -/

namespace Sys2Proof.Machine

/-! ## Regions -/

/-- Whether a job has an admitted command; a program that runs is a PROG that has not completed (R112). -/
def State.jobBusy (s : State) (job : Nat) : Bool := s.cmds.any (fun c => c.job == job)

/-- A window of a skein. -/
def State.window (s : State) (k n : Nat) : Window := Sparse.get Window.reset s.windows (ix k n)

/-- Replaces a window. -/
def State.putWindow (s : State) (k n : Nat) (w : Window) : State :=
  { s with windows := Sparse.put Window.reset s.windows (ix k n) w }

/-- Whether a window is ACTIVE or DRAINING. -/
def Window.open_ (w : Window) : Bool := decide (w.state ≠ .idle)

/-- A region is in CONFIG (R112). -/
def State.regionConfig (s : State) (k n : Nat) : Bool :=
  !s.isSet Fld.SKEIN_BOB_REGION_VALID (ix k n) ||
  (!s.jobBusy (s.get Fld.SKEIN_BOB_REGION_JOB (ix k n)) &&
    !(List.range 16).any (fun w => (s.window k w).open_ &&
      decide ((s.window k w).first ≤ s.get Fld.SKEIN_BOB_REGION_LAST (ix k n)) &&
      decide (s.get Fld.SKEIN_BOB_REGION_FIRST (ix k n) < (s.window k w).first + (s.window k w).count)))

/-- The pair whose checker's hank holds the skein. -/
def State.checkHankPair (s : State) (k : Nat) : Option Nat :=
  (List.range 4).find? (fun p => s.isSet Fld.SELV_PAIR_CFG_VALID p && s.get Fld.SELV_PAIR_CFG_CHECK_HANK p == k / 8)

/-- Whether a pair keeps the job out of the skein (R527). -/
def State.pairKeepsOut (s : State) (k job : Nat) : Bool :=
  match s.checkHankPair k with
  | some p => s.get Fld.SELV_PAIR_CFG_CHECK_JOB p != job
  | none => false

/-- The write would make a valid region overlap another job's, break the row limits (R110), or break a pair
(R527). -/
def State.regionBad (s : State) (k n job first last : Nat) : Bool :=
  decide (last < first) || decide (Config.rows ≤ last) || decide (Config.rows ≤ first) || s.pairKeepsOut k job ||
  (List.range 8).any (fun m => m != n && s.isSet Fld.SKEIN_BOB_REGION_VALID (ix k m) &&
    s.get Fld.SKEIN_BOB_REGION_JOB (ix k m) != job &&
    decide (s.get Fld.SKEIN_BOB_REGION_FIRST (ix k m) ≤ last) &&
    decide (first ≤ s.get Fld.SKEIN_BOB_REGION_LAST (ix k m)))

/-- The fields of a SKEIN_BOB_REGIONn value. -/
def regionFields (n k value : Nat) : List (Field × Nat × Nat) :=
  [(Fld.SKEIN_BOB_REGION_VALID, ix k n, bitsOf value 63 1), (Fld.SKEIN_BOB_REGION_JOB, ix k n, bitsOf value 48 8),
   (Fld.SKEIN_BOB_REGION_LAST, ix k n, bitsOf value 16 14), (Fld.SKEIN_BOB_REGION_FIRST, ix k n, bitsOf value 0 14)]

/-- Gives fields values. -/
def State.setAll (s : State) : List (Field × Nat × Nat) → State
  | [] => s
  | (f, i, v) :: rest => (s.set f i v).setAll rest

/-- A whole write of a region (R112). -/
def State.regionWrite (s : State) (k n value : Nat) : State :=
  let fs := regionFields n k value
  if fs.all (fun f => s.get f.1 f.2.1 == f.2.2) then s
  else if !s.regionConfig k n ||
    (bitsOf value 63 1 == 1 && s.regionBad k n (bitsOf value 48 8) (bitsOf value 0 14) (bitsOf value 16 14)) then
    s.raise Flg.SKEIN_BOB_EVT_CONFIG_REFUSED k
  else s.setAll fs

/-- REGION_WRITE (R112). -/
def execRegionWrite (skein region : Nat) (value : BitVec 64) (s : State) : Host.Outcome State Fault Refusal :=
  .next (s.host fun s => s.regionWrite skein region value.toNat)

/-! ## Windows -/

/-- Whether one region of the job holds rows `first` to `last` of a skein. -/
def State.regionHolds (s : State) (k job first last : Nat) : Bool :=
  (List.range 8).any (fun n => s.isSet Fld.SKEIN_BOB_REGION_VALID (ix k n) &&
    s.get Fld.SKEIN_BOB_REGION_JOB (ix k n) == job && decide (s.get Fld.SKEIN_BOB_REGION_FIRST (ix k n) ≤ first) &&
    decide (last ≤ s.get Fld.SKEIN_BOB_REGION_LAST (ix k n)))

/-- The conditions of R125 for window n of skein k to open with this content. -/
def State.windowOk (s : State) (k n : Nat) (w : Window) : Bool :=
  w.key != 0 && decide (1 ≤ w.count) && w.mask != 0 && (w.permitRead || w.permitWrite) &&
  s.regionHolds k w.job w.first (w.first + w.count - 1) &&
  !(List.range 16).any (fun m => m != n && (s.window k m).open_ && (s.window k m).key == w.key)

/-- WIN_OPEN (R125): an IDLE window opens, or the request is refused. -/
def execWinOpen (skein window : Nat) (s : State) : Host.Outcome State Fault Refusal :=
  .next (s.host fun s =>
    let w := s.window skein window
    if w.state = .idle ∧ s.windowOk skein window w then s.putWindow skein window { w with state := .active }
    else s.raise Flg.SKEIN_BOB_EVT_CONFIG_REFUSED skein)

/-- An ACTIVE window begins to drain. -/
def State.windowDrain (s : State) (k n : Nat) : State :=
  let w := s.window k n
  if w.state = .active then s.putWindow k n { w with state := .draining } else s

/-- WIN_CLOSE (R131). -/
def execWinClose (skein window : Nat) (s : State) : Host.Outcome State Fault Refusal :=
  .next (s.host fun s => s.windowDrain skein window)

/-- WIN_DRAINED (R131): a DRAINING window becomes IDLE. -/
def execWinDrained (skein window : Nat) (s : State) : Host.Outcome State Fault Refusal :=
  .next (let w := s.window skein window
    if w.state = .draining then s.putWindow skein window { w with state := .idle } else s)

/-- The windows of a job, or of every job, drain (R132). -/
def State.drainWindows (s : State) (job : Option Nat) : State :=
  { s with windows := s.windows.map (fun p =>
      if p.2.state = .active ∧ (job = none ∨ job = some p.2.job) then (p.1, { p.2 with state := .draining }) else p) }

/-! ## Arriving accesses (R127 to R129) -/

/-- The window of a skein that a key names in a state. -/
def State.windowBy (s : State) (k key : Nat) (st : WinState) : Option Window :=
  match (List.range 16).find? (fun n => (s.window k n).key == key && decide ((s.window k n).state = st)) with
  | some n => some (s.window k n)
  | none => none

/-- What a window's checks say of an access: the window, or the REASON of Table 4.3.  `row` none stands for a
token signal, which passes checks 1, 2 and 4 and whose token the window's job must own (R434). -/
def State.windowCheck (s : State) (k key src : Nat) (row : Option Nat) (token : Nat) (write : Bool) : Window ⊕ Nat :=
  match s.windowBy k key .active with
  | none => .inr (if (s.windowBy k key .draining).isSome then 4 else 1)
  | some w =>
    if w.mask / 2 ^ src % 2 = 0 then .inr 2 else
    let placed := match row with
      | some r => decide (w.first ≤ r) && decide (r < w.first + w.count)
      | none => s.ownsToken w.job token
    if !placed then .inr 3
    else if (if write then !w.permitWrite else !w.permitRead) then .inr 5
    else .inl w

/-- The counting period of a skein at this instant: periods of PERIOD microseconds follow one another (R129). -/
def State.alarmPeriod (s : State) (k : Nat) : WinAlarm :=
  let x := Sparse.get WinAlarm.reset s.winAlarm k
  let ticks := Config.us * s.get Fld.SKEIN_WIN_ALARM_PERIOD k
  if s.refTime < x.began + ticks then x else ⟨0, false, x.began + (s.refTime - x.began) / ticks * ticks⟩

/-- A dropped access (R128, R129); the answer beside the state says whether the count of the period reaches THRESH, which
it does once in a period. -/
def State.dropAccess (s : State) (k key src reason row : Nat) : State × Bool :=
  let cap (t : State) : State :=
    (((t.set Fld.SKEIN_WIN_VIOL_CAP_KEY k key).set Fld.SKEIN_WIN_VIOL_CAP_SRC_PKG k src).set
      Fld.SKEIN_WIN_VIOL_CAP_REASON k reason).set Fld.SKEIN_WIN_VIOL_CAP_ROW k row
  let t := (s.doIf (!s.isSet Fld.SKEIN_BOB_EVT_WIN_VIOL k) cap).raise Flg.SKEIN_BOB_EVT_WIN_VIOL k
  let x := t.alarmPeriod k
  let thresh := t.get Fld.SKEIN_WIN_ALARM_THRESH k
  let hit := thresh != 0 && decide (thresh ≤ x.count + 1) && !x.raised
  ({ t with winAlarm := Sparse.put WinAlarm.reset t.winAlarm k ⟨x.count + 1, x.raised || hit, x.began⟩ }, hit)

/-- WIN_ALARM_PERIOD (R129): where PERIOD has passed, a new counting period has begun. -/
def execWinAlarmPeriod (skein : Nat) (s : State) : Host.Outcome State Fault Refusal :=
  .next { s with winAlarm := Sparse.put WinAlarm.reset s.winAlarm skein (s.alarmPeriod skein) }

end Sys2Proof.Machine
end

