-- ==== Sys2Proof/Machine/Link.lean ====
section
/-! DEFINITION. Idward transactions on their way out (chapter 14): headers (R432), topologies and routing (R437,
R438), the flits that a port sends (R425 to R428), and requests that await a reply (R431). -/

namespace Sys2Proof.Machine

/-! ## Transactions (R432) -/

/-- The 16-byte header of Table 14.2. -/
def txHeader (tt src dst arg key xid target : Nat) : List Byte :=
  leBytes 1 tt ++ leBytes 1 src ++ leBytes 1 dst ++ leBytes 1 arg ++ leBytes 4 key ++ leBytes 4 xid ++ leBytes 4 target

/-- TT of a transaction. -/
def txType (b : List Byte) : Nat := fieldOf b 0 1
/-- SRC_PKG of a transaction. -/
def txSrc (b : List Byte) : Nat := fieldOf b 1 1
/-- DST_PKG of a transaction. -/
def txDst (b : List Byte) : Nat := fieldOf b 2 1
/-- ARG of a transaction. -/
def txArg (b : List Byte) : Nat := fieldOf b 3 1
/-- KEY of a transaction. -/
def txKey (b : List Byte) : Nat := fieldOf b 4 4
/-- XID of a transaction. -/
def txXid (b : List Byte) : Nat := fieldOf b 8 4
/-- TARGET of a transaction. -/
def txTarget (b : List Byte) : Nat := fieldOf b 12 4
/-- Skein and row of a row transaction's TARGET. -/
def txRow (b : List Byte) : Nat × Nat := (bitsOf (txTarget b) 16 6, bitsOf (txTarget b) 0 14)

/-- Bytes of the transaction that begins a byte stream (Table 14.3). -/
def txLength (b : List Byte) : Nat :=
  match txType b with
  | 0x01 | 0x82 => 528
  | 0x05 => 64 + 512 * txArg b
  | _ => 16

/-- VC class of a transaction type: 0 REQ, 1 RSP, 2 PARCEL. -/
def txClass (tt : Nat) : Nat := if 0x80 ≤ tt then 1 else if tt = 0x05 then 2 else 0

/-! ## Topologies and routing (R437, R438) -/

/-- This package's ID. -/
def State.pkg (s : State) : Nat := s.get Fld.IWL_CTRL_PKG_ID 0

/-- Packages in the system. -/
def State.systemSize (s : State) : Nat :=
  if s.get Fld.IWL_CTRL_MODE 0 = 2 then s.get Fld.IWL_CTRL_DIM_X 0
  else s.get Fld.IWL_CTRL_DIM_X 0 * s.get Fld.IWL_CTRL_DIM_Y 0

/-- A hop in one dimension of a given size: whether it goes in the + direction, and whether it crosses the wrap
link. -/
def dimHop (size cur dst : Nat) : Option (Bool × Bool) :=
  let d := (dst + size - cur) % size
  if d = 0 then none
  else if d ≤ size - d then some (true, cur == size - 1)
  else some (false, cur == 0)

/-- The next hop from this package: port, dimension, and whether it crosses the wrap link. -/
def State.nextHop (s : State) (dst : Nat) : Option (Nat × Nat × Bool) :=
  let x := s.get Fld.IWL_CTRL_DIM_X 0
  let y := s.get Fld.IWL_CTRL_DIM_Y 0
  if s.get Fld.IWL_CTRL_MODE 0 = 2 then
    if dst = s.pkg then none else some ((dst + x - s.pkg - 1) % x, 0, false)
  else match dimHop x (s.pkg % x) (dst % x) with
    | some (plus, wrap) => some (if plus then 0 else 1, 0, wrap)
    | none => match dimHop y (s.pkg / x) (dst / x) with
      | some (plus, wrap) => some (if plus then 2 else 3, 1, wrap)
      | none => none

/-- The port by which a transaction of another package reaches this one: the far end of the last hop of its route. -/
def State.arrivalPort (s : State) (src : Nat) : Nat :=
  let x := s.get Fld.IWL_CTRL_DIM_X 0
  let y := s.get Fld.IWL_CTRL_DIM_Y 0
  if s.get Fld.IWL_CTRL_MODE 0 = 2 then (src + x - s.pkg - 1) % x
  else match dimHop y (src / x) (s.pkg / x) with
    | some (plus, _) => if plus then 3 else 2
    | none => match dimHop x (src % x) (s.pkg % x) with
      | some (plus, _) => if plus then 1 else 0
      | none => 6

/-- Whether a reply between two packages takes the way of its request back: it does where they differ in one dimension and the
two directions of it are each other's reverse (R438). -/
def State.retraces (s : State) (src dst : Nat) : Bool :=
  let x := s.get Fld.IWL_CTRL_DIM_X 0
  let y := s.get Fld.IWL_CTRL_DIM_Y 0
  let back (n a b : Nat) : Bool := match dimHop n a b, dimHop n b a with
    | some (p, _), some (q, _) => p != q
    | _, _ => false
  s.get Fld.IWL_CTRL_MODE 0 != 2 &&
    (if src / x = dst / x then back x (src % x) (dst % x) else decide (src % x = dst % x) && back y (src / x) (dst / x))

/-- The package that Table 14.4 expects on a port; none for an unused port. -/
def State.neighbour (s : State) (p : Nat) : Option Nat :=
  let x := s.get Fld.IWL_CTRL_DIM_X 0
  let y := s.get Fld.IWL_CTRL_DIM_Y 0
  let cx := s.pkg % x
  let cy := s.pkg / x
  match s.get Fld.IWL_CTRL_MODE 0, p with
  | 2, k => if k + 2 ≤ x then some ((s.pkg + k + 1) % x) else none
  | m, 0 => if m ≤ 1 then some (cy * x + (cx + 1) % x) else none
  | m, 1 => if m ≤ 1 then some (cy * x + (cx + x - 1) % x) else none
  | 1, 2 => some ((cy + 1) % y * x + cx)
  | 1, 3 => some ((cy + y - 1) % y * x + cx)
  | _, _ => none

/-- The dimension of a port of a ring or a torus. -/
def portDim (p : Nat) : Nat := p / 2

/-! ## Ports -/

/-- A port beyond its registers. -/
def State.port (s : State) (p : Nat) : Port := Sparse.get Port.reset s.iwl.ports p
/-- Replaces a port. -/
def State.putPort (s : State) (p : Nat) (x : Port) : State :=
  { s with iwl := { s.iwl with ports := Sparse.put Port.reset s.iwl.ports p x } }
/-- Changes a port. -/
def State.modPort (s : State) (p : Nat) (f : Port → Port) : State := s.putPort p (f (s.port p))
/-- Whether a port is UP. -/
def State.portUp (s : State) (p : Nat) : Bool := decide (p < 6) && s.get Fld.IWL_P_STATUS_STATE p == 2

/-- A set of an IWL_EVT flag: it raises the event source of the port it concerns, or of all six where it concerns
none (R382). -/
def State.raiseIwl (s : State) (f : Flag) (p : Nat) : State :=
  let t := (s.set f.fld 0 1).count f.cnt (f.cntIx 0) 1
  if p < 6 then t.raiseSource (36 + p) else t.forEach (List.range 6) (fun t q => t.raiseSource (36 + q))

/-! ### Flits on their way out (R425 to R428) -/

/-- The bytes of a flit (Table 14.1). -/
def flitBytes (type vc seq : Nat) (ack : Option Nat) (credits : List (Nat × Nat)) (body : List Byte) : List Byte :=
  let credit (i : Nat) : List Byte := match credits[i]? with
    | some (v, n) => leBytes 1 v ++ leBytes 1 n
    | none => leBytes 2 0
  let b := sliceOf (leBytes 1 (16 * vc + type) ++ leBytes 1 body.length ++ leBytes 2 seq ++
    leBytes 2 (match ack with
      | some n => 0x8000 + n
      | none => 0) ++ credit 0 ++ credit 1 ++ body) 0 252
  b ++ leBytes 4 (crc32 b)

/-- SEQ of the last good flit of a port. -/
def Port.lastGood (x : Port) : Nat := (x.rxSeq + 4095) % 4096

/-- A port sends a flit: it carries the acknowledgement and up to two of the credit returns that are due. -/
def Port.send (x : Port) (type vc seq : Nat) (body : List Byte) : Port :=
  { x with
    ackDue := false
    owed := x.owed.drop 2
    line := x.line ++ [flitBytes type vc seq (if x.got then some x.lastGood else none) (x.owed.take 2) body] }

/-- A port with no DATA flit ready sends IDLE flits (R426): one, and further ones while an acknowledgement or a credit is due.
Those that follow until its next DATA flit carry nothing new, and how many there are is a matter of time. -/
def Port.idle (x : Port) : Nat → Port
  | 0 => x
  | fuel + 1 =>
    let y := x.send 0 0 0 []
    if y.ackDue || !y.owed.isEmpty then y.idle fuel else y

/-- Body bytes that a port sends are counted, and charged to an accounting row (R452). -/
def State.chargeBody (s : State) (p row n : Nat) : State :=
  (s.accum Fld.IWL_P_TX_BYTES_BYTES p n).accum Fld.HEDDLE_ACCT_BYTES_IDWARD_COUNT row n

/-- A port sends a DATA flit, or sends it again. -/
def State.sendData (s : State) (p : Nat) (f : Sent) : State :=
  (s.modPort p (fun x => x.send 1 f.vc f.seq (f.parts.map Prod.snd).flatten)).forEach f.parts
    (fun t q => t.chargeBody p q.1 q.2.length)

/-- Takes up to `n` bytes of a VC from the front of a port's transmit queue, in parts by accounting row. -/
def takeOut (vc : Nat) : Nat → List (Nat × (Nat × List Byte)) → List (Nat × List Byte) × List (Nat × (Nat × List Byte))
  | _, [] => ([], [])
  | n, (v, (row, bs)) :: rest =>
    if v ≠ vc ∨ n = 0 then
      let r := takeOut vc n rest
      (r.1, (v, (row, bs)) :: r.2)
    else if bs.length ≤ n then
      let r := takeOut vc (n - bs.length) rest
      ((row, bs) :: r.1, r.2)
    else ([(row, bs.take n)], (v, (row, bs.drop n)) :: rest)

/-- The VCs on which a port may send a flit now: bytes wait and a credit is held (R427). -/
def Port.ready (x : Port) : List Nat :=
  (List.range 6).filter (fun v => x.out.any (fun o => o.1 == v) && decide (Sparse.get 0 x.spent v < 32))

/-- A port sends DATA flits while a VC is ready and the replay buffer has room (R427, R428); which ready VC goes
next is left open. -/
def State.pumpData (s : State) (p : Nat) : Nat → State
  | 0 => s
  | fuel + 1 =>
    let x := s.port p
    let vcs := x.ready
    if vcs.isEmpty || decide (256 ≤ x.replay.length) then s else
    let v := vcs.getD ((Config.freeWord s.freeCount).toNat % vcs.length) 0
    let r := takeOut v 242 x.out
    let f : Sent := ⟨x.txSeq, v, r.1⟩
    (({ s with freeCount := s.freeCount + 1 }.putPort p { x with
      txSeq := (x.txSeq + 1) % 4096, replay := x.replay ++ [f], out := r.2,
      spent := Sparse.put 0 x.spent v (Sparse.get 0 x.spent v + 1),
      ackAt := if x.replay.isEmpty then s.refTime else x.ackAt }).sendData p f).pumpData p fuel

/-- Flits that a port's transmit queue can fill at most. -/
def Port.fuel (x : Port) : Nat := x.out.length + (x.out.map (fun o => o.2.2.length)).sum

/-- A port that is UP sends what it can: DATA flits, then IDLE flits. -/
def State.pump (s : State) (p : Nat) : State :=
  if s.portUp p then (s.pumpData p (s.port p).fuel).modPort p (fun x => x.idle 4) else s

/-! ### The code of the transmit stream (R424) -/

/-- A product in the field of the RS(544,514) code, whose polynomial is x¹⁰ + x³ + 1 (IEEE 802.3 Clause 91). -/
def gfMul (a b : Nat) : Nat :=
  (List.range 10).reverse.foldl (fun acc i =>
    let d := if 512 ≤ acc then (2 * acc) ^^^ 0x409 else 2 * acc
    if b / 2 ^ i % 2 = 1 then d ^^^ a else d) 0

/-- The generator polynomial, the product of x − αⁱ for i = 0 to 29: its coefficients from x³⁰ down. -/
def rsGenerator : List Nat :=
  ((List.range 30).foldl (fun (g : List Nat × Nat) _ =>
    (List.zipWith (· ^^^ ·) (g.1 ++ [0]) (0 :: g.1.map (gfMul g.2)), gfMul g.2 2)) ([1], 1)).1

/-- The 30 parity symbols of a message: its remainder by the generator. -/
def rsParity (msg : List Nat) : List Nat :=
  msg.foldl (fun rem m =>
    let f := m ^^^ rem.headD 0
    List.zipWith (· ^^^ ·) (rem.tail ++ [0]) (rsGenerator.tail.map (gfMul f))) (List.replicate 30 0)

/-- Symbol i of the stream of flits that a port has sent, each byte least significant bit first. -/
def Port.symbol (x : Port) (i : Nat) : Nat :=
  let bs := x.line.flatten
  (List.range 10).foldl (fun v b =>
    v + 2 ^ b * ((bs.getD ((10 * i + b) / 8) 0).toNat / 2 ^ ((10 * i + b) % 8) % 2)) 0

/-- Codeword n of a port: the first of every 4,096 carries the lane alignment markers, whose bits the spec leaves to IEEE 802.3,
the others 514 symbols of the stream each. -/
def Port.codeword (x : Port) (n : Nat) : List Nat :=
  let msg := (List.range 514).map (fun i =>
    if n % 4096 = 0 then (Config.alignMarker i).toNat else x.symbol (514 * (n - n / 4096 - 1) + i))
  msg ++ rsParity msg

/-- What codeword n puts on a lane: its symbols are striped one by one across the four lanes. -/
def Port.laneSymbols (x : Port) (n lane : Nat) : List Nat :=
  (List.range 136).map (fun i => (x.codeword n).getD (4 * i + lane) 0)

/-- Bytes of a VC that have joined a port's queue since it came UP. -/
def Port.queued (x : Port) (vc : Nat) : Nat :=
  Sparse.get 0 x.done vc +
    ((x.replay.filter (fun r => r.vc == vc)).map (fun r => (r.parts.map (fun q => q.2.length)).sum)).sum +
    ((x.out.filter (fun o => o.1 == vc)).map (fun o => o.2.2.length)).sum

/-- A transaction joins a port's queue on a VC, for an accounting row. -/
def State.enqueue (s : State) (p vc row : Nat) (job : Option Nat) (tx : List Byte) : State :=
  (s.modPort p (fun x => { x with
    out := x.out ++ [(vc, (row, tx))]
    held := x.held ++ [⟨vc, x.queued vc + tx.length, tx, job⟩] })).pump p

/-- A transaction of this package to itself (R435). -/
def State.loopBack (s : State) (tx : List Byte) : State :=
  { s with iwl := { s.iwl with
    loop := s.iwl.loop ++ [tx]
    parcels := if txType tx = 0x05 then s.iwl.parcels ++ [(txSrc tx, txXid tx)] else s.iwl.parcels } }

/-- The channel of a hop: B across the wrap link, and from then on in its dimension (R438). -/
def hopVc (cls dim : Nat) (wrap : Bool) (from_ : Option (Nat × Bool)) : Nat :=
  let b := wrap || (match from_ with
    | some (d, b) => d == dim && b
    | none => false)
  2 * cls + (if b then 1 else 0)

/-- A REFUSE with a reason, from this package to the origin of a request. -/
def State.refusal (s : State) (tx : List Byte) (reason : Nat) : List Byte :=
  txHeader 0x83 s.pkg (txSrc tx) reason 0 (txXid tx) 0

/-- Routes a transaction from this package onward (R438), for an accounting row and the job that has issued it.  `from_`
gives the dimension and channel it arrived on.  Where the next port is not UP, a request or a parcel is answered with REFUSE
reason 6 and any other transaction is dropped. -/
def State.route (s : State) (row : Nat) (job : Option Nat) (tx : List Byte) (from_ : Option (Nat × Bool)) : Nat → State
  | 0 => s
  | fuel + 1 =>
    if txDst tx = s.pkg then s.loopBack tx else
    match s.nextHop (txDst tx) with
    | none => s
    | some (p, dim, wrap) =>
      if s.portUp p then s.enqueue p (hopVc (txClass (txType tx)) dim wrap from_) row job tx
      else if txType tx = 0x04 then s.raiseIwl Flg.IWL_EVT_BARRIER_FAIL p
      else if 0x80 ≤ txType tx then s.raiseIwl Flg.IWL_EVT_LINK_DOWN p
      else s.route 16 none (s.refusal tx 6) none fuel

/-- Sends a transaction of this package. -/
def State.sendTx (s : State) (row : Nat) (tx : List Byte) : State := s.route row none tx none 2

/-! ## Requests -/

/-- Sends a request that expects a reply (R431).  `body` follows the header. -/
def State.request (s : State) (row tt dst arg key target : Nat) (body : List Byte) (e : Expect) : State :=
  let xid := s.iwl.nextXid
  let hop := if dst = s.pkg then none else s.nextHop dst
  let q : Req := match hop with
    | some (p, dim, wrap) =>
      let vc := hopVc (txClass tt) dim wrap none
      ⟨xid, p, s.arrivalPort dst, vc, (s.port p).queued vc + 16 + body.length, s.refTime, e⟩
    | none => ⟨xid, 6, 6, 0, 0, s.refTime, e⟩
  let t := { s with iwl := { s.iwl with nextXid := (xid + 1) % 2 ^ 32, reqs := s.iwl.reqs ++ [q] } }
  t.sendTx row (txHeader tt s.pkg dst arg key xid target ++ body)

/-- The request that a reply answers. -/
def State.req? (s : State) (xid : Nat) : Option Req := s.iwl.reqs.find? (fun r => r.xid == xid)

/-- Takes a request out. -/
def State.dropReq (s : State) (xid : Nat) : State :=
  { s with iwl := { s.iwl with reqs := s.iwl.reqs.filter (fun r => r.xid != xid) } }

end Sys2Proof.Machine
end

