-- ==== Sys2Proof/Machine/Move.lean ====
section
/-! DEFINITION. MOVE (R81, R82, R107, R120 to R123, R257, R362): its payload, the checks of its fields and of its
spaces, the rows it moves, and zero-compressed streams. -/

namespace Sys2Proof.Machine

/-! ## The payload -/

/-- The fields of a MOVE payload (Table 3.6). -/
structure RowMove where
  sk : Nat
  dk : Nat
  compress : Bool
  expand : Bool
  src : Nat
  dst : Nat
  n0 : Nat
  n1 : Nat
  n2 : Nat
  ss1 : Int
  ds1 : Int
  ss2 : Int
  ds2 : Int
  deriving DecidableEq, Repr

/-- Reads a MOVE payload. -/
def RowMove.ofBytes (d : List Byte) : RowMove :=
  let i (a : Nat) : Int := signed 32 (fieldOf d a 4)
  ⟨fieldOf d 40 1 % 16, fieldOf d 40 1 / 16, fieldOf d 41 1 / 2 % 2 == 1, fieldOf d 41 1 % 2 == 1,
   fieldOf d 24 8, fieldOf d 32 8, fieldOf d 42 2, fieldOf d 44 2, fieldOf d 46 2, i 48, i 52, i 56, i 60⟩

/-- Rows moved. -/
def RowMove.count (x : RowMove) : Nat := x.n0 * x.n1 * x.n2

/-- Whether a spindle core traps on the image with cause 0x01, and a host descriptor is BAD_FIELD: a reserved kind
or byte, or the rules of R122 and R257. -/
def moveReserved (d : List Byte) : Bool :=
  let x := RowMove.ofBytes d
  !([0, 1, 2, 3, 5].contains x.sk && [0, 1, 2, 4, 5].contains x.dk) || fieldOf d 41 1 / 4 != 0 ||
  (x.compress && x.expand) || (x.compress && decide (1 < x.dk)) || (x.expand && decide (1 < x.sk)) ||
  (x.compress && (x.ds1 != 0 || x.ds2 != 0)) || (x.expand && (x.ss1 != 0 || x.ss2 != 0))

/-- Whether the bits of an address outside its form are 0 (Table 3.7, R257). -/
def addressForm (kind a : Nat) : Bool :=
  match kind with
  | 1 => decide (a < 2 ^ 14)
  | 2 => bitsOf a 31 1 == 0 && bitsOf a 22 2 == 0 && bitsOf a 14 2 == 0
  | 3 => bitsOf a 56 8 == 0 && bitsOf a 17 15 == 0 && bitsOf a 6 10 == 0
  | 4 => decide (a < 32)
  | 5 => decide (a < 2 ^ 17)
  | _ => true

/-- Whether an access could not be whole rows (R107). -/
def RowMove.unaligned (x : RowMove) : Bool :=
  (x.sk == 0 && (x.src % 64 != 0 || x.ss1 % 64 != 0 || x.ss2 % 64 != 0)) ||
  (x.dk == 0 && (x.dst % 64 != 0 || x.ds1 % 64 != 0 || x.ds2 % 64 != 0)) ||
  (x.sk == 5 && x.src % 512 != 0) || (x.dk == 5 && x.dst % 512 != 0)

/-- The status that the fields of a MOVE give it before it may start, none where they are good. -/
def moveCheck (s : State) (job stream : Nat) (d : List Byte) : Option Nat :=
  let x := RowMove.ofBytes d
  if moveReserved d || !addressForm x.sk x.src || !addressForm x.dk x.dst ||
    decide (x.n0 < 1) || decide (12288 < x.n0) || decide (x.n1 < 1) || decide (x.n2 < 1) ||
    (x.sk == 3 && !s.streamOk job stream) then some 0x0102
  else if x.unaligned then some 0x0202 else none

/-! ## The rows -/

/-- Step of one row of dimension 0 in the unit of a kind. -/
def rowStep (kind : Nat) : Int := if kind = 0 then 512 else 1

/-- Where a side starts, in the unit of its kind: bytes for kind 0, else rows. -/
def sideBase (kind a : Nat) : Int :=
  match kind with
  | 0 => a
  | 1 => a
  | 2 => bitsOf a 0 14
  | 3 => bitsOf a 32 24 * 64 + bitsOf a 0 6
  | 5 => bitsOf a 0 16 / 512
  | _ => 0

/-- The places of a side's rows, in the order of the loop nest. -/
def sidePlaces (kind a n0 n1 n2 : Nat) (s1 s2 : Int) : List Int :=
  ((List.range n2).map (fun (i2 : Nat) => ((List.range n1).map (fun (i1 : Nat) =>
    (List.range n0).map (fun (i0 : Nat) =>
      sideBase kind a + i0 * rowStep kind + i1 * s1 + i2 * s2))).flatten)).flatten

/-- Source and destination of each row. -/
def RowMove.places (x : RowMove) : List (Int × Int) :=
  (sidePlaces x.sk x.src x.n0 x.n1 x.n2 x.ss1 x.ss2).zip (sidePlaces x.dk x.dst x.n0 x.n1 x.n2 x.ds1 x.ds2)

/-- Lowest and highest place that a side reaches (R82). -/
def sideSpan (kind a n0 n1 n2 : Nat) (s1 s2 : Int) : Int × Int :=
  let b := sideBase kind a
  let e1 := ((n1 : Int) - 1) * s1
  let e2 := ((n2 : Int) - 1) * s2
  (b + min 0 e1 + min 0 e2, b + max 0 e1 + max 0 e2 + ((n0 : Int) - 1) * rowStep kind)

/-- Bytes of LPDDR installed (R454). -/
def State.lpddrBytes (s : State) : Nat := 2 ^ 30 * s.get Fld.MEMC_CAPACITY_GIB 0

/-- Whether a command came through a ring. -/
def Cmd.fromHost (c : Cmd) : Bool :=
  match c.origin with
  | .host _ _ _ => true
  | _ => false

/-- Whether an address of kind 0 is a host address (R362). -/
def Cmd.hostAddr (c : Cmd) (a : Nat) : Bool := c.fromHost && a / 2 ^ 63 % 2 == 1

/-- Whether bytes `lo` to `hi - 1` lie in the space of an address of kind 0. -/
def State.bytesFit (s : State) (host : Bool) (lo hi : Int) : Bool :=
  if host then decide ((2 ^ 63 : Int) ≤ lo) && decide (hi ≤ (2 ^ 64 : Int))
  else decide (0 ≤ lo) && decide (hi ≤ (s.lpddrBytes : Int))

/-- Whether a side lies in its space (R82, R257, R362, R435). -/
def State.sideFits (s : State) (c : Cmd) (kind a : Nat) (span : Int × Int) : Bool :=
  match kind with
  | 0 => s.bytesFit (c.hostAddr a) span.1 (span.2 + 512)
  | 1 => decide (0 ≤ span.1) && decide (span.2 < Config.rows)
  | 2 => decide (0 ≤ span.1) && decide (span.2 < Config.rows) && decide (bitsOf a 24 7 < s.systemSize)
  | 3 => decide (0 ≤ span.1) && decide (span.2 < (c.pages * 64 : Nat))
  | 5 => decide (0 ≤ span.1) && decide (span.2 < 128)
  | _ => true

/-- The extent of a compressed side: 576 bytes for each uncompressed row (R123). -/
def State.streamFits (s : State) (c : Cmd) (kind a rows : Nat) : Bool :=
  if kind = 0 then s.bytesFit (c.hostAddr a) a (a + 576 * rows : Nat)
  else decide (a + ceilDiv (576 * rows) 512 ≤ Config.rows)

/-- Whether both sides of a MOVE lie in their spaces. -/
def State.moveFits (s : State) (c : Cmd) (x : RowMove) : Bool :=
  (if x.expand then s.streamFits c x.sk x.src x.count
   else s.sideFits c x.sk x.src (sideSpan x.sk x.src x.n0 x.n1 x.n2 x.ss1 x.ss2)) &&
  (if x.compress then s.streamFits c x.dk x.dst x.count
   else s.sideFits c x.dk x.dst (sideSpan x.dk x.dst x.n0 x.n1 x.n2 x.ds1 x.ds2))

/-- The bobbin rows of a side of kind 1. -/
def sideRows (k kind a n0 n1 n2 : Nat) (s1 s2 : Int) (stream : Bool) : List RowRange :=
  if kind ≠ 1 then []
  else if stream then [⟨k, a, a + ceilDiv (576 * (n0 * n1 * n2)) 512 - 1⟩]
  else ((List.range n2).map (fun (i2 : Nat) => (List.range n1).map (fun (i1 : Nat) =>
    let b := ((a : Int) + i1 * s1 + i2 * s2).toNat
    (⟨k, b, b + n0 - 1⟩ : RowRange)))).flatten

/-- The read footprint on skein k. -/
def RowMove.reads (x : RowMove) (k : Nat) : List RowRange :=
  sideRows k x.sk x.src x.n0 x.n1 x.n2 x.ss1 x.ss2 x.expand

/-- The write footprint on skein k. -/
def RowMove.writes (x : RowMove) (k : Nat) : List RowRange :=
  sideRows k x.dk x.dst x.n0 x.n1 x.n2 x.ds1 x.ds2 x.compress

/-! ## Zero-compressed rows (R120, R121) -/

/-- The segment of a row: masks, bytes that are not 0, padding to 64 bytes. -/
def compressRow (row : List Byte) : List Byte :=
  let masks := (List.range 64).map (fun i => BitVec.ofNat 8
    (((List.range 8).map (fun j => if row.getD (8 * i + j) 0 != 0 then 2 ^ j else 0)).sum))
  let vals := row.filter (fun b => b != 0)
  masks ++ vals ++ List.replicate ((64 - vals.length % 64) % 64) 0

/-- Spreads values over the bytes whose mask bit is 1. -/
def spread (mask : Nat → Bool) : Nat → Nat → List Byte → List Byte
  | 0, _, _ => []
  | n + 1, i, vs =>
    if mask i then (vs.headD 0) :: spread mask n (i + 1) vs.tail else 0 :: spread mask n (i + 1) vs

/-- The row whose segment stands at a place of a byte stream, and the segment's length. -/
def expandAt (get : Nat → Byte) (off : Nat) : List Byte × Nat :=
  let mask (i : Nat) : Bool := (get (off + i / 8)).getLsbD (i % 8)
  let n := ((List.range 512).filter mask).length
  (spread mask 512 0 ((List.range n).map (fun i => get (off + 64 + i))), 64 + ceilDiv n 64 * 64)

/-! ## Moving -/

/-- How far the streams of a MOVE have come: bytes of the compressed source read and rows of it accessed, bytes of
the compressed destination and its unwritten tail. -/
structure Progress where
  read : Nat
  rows : Nat
  len : Nat
  tail : List Byte
  deriving DecidableEq, Repr

/-- Where a byte of kind 0 lies. -/
def byteAddr (host : Bool) (a : Nat) : Nat := if host then Mem.host (a % 2 ^ 63) else Mem.lpddr a

/-- Stores bytes at an address of kind 0 and charges them (R420); host writes of a reset function are discarded
(R388). -/
def State.storeKind0 (s : State) (c : Cmd) (host : Bool) (a : Nat) (bs : List Byte) : State :=
  let t := s.accum (if host then Fld.HEDDLE_ACCT_BYTES_PCIE_COUNT else Fld.HEDDLE_ACCT_BYTES_LPDDR_WR_COUNT)
    (s.accountRow c) bs.length
  if host && c.orphan then t else t.store (byteAddr host a) bs

/-- Charges bytes read at an address of kind 0. -/
def State.chargeRead (s : State) (c : Cmd) (host : Bool) (n : Nat) : State :=
  s.accum (if host then Fld.HEDDLE_ACCT_BYTES_PCIE_COUNT else Fld.HEDDLE_ACCT_BYTES_LPDDR_RD_COUNT) (s.accountRow c) n

/-- Where row p of a list entry's half lies (R225, R257). -/
def State.kvRowAddr (s : State) (c : Cmd) (a : Nat) (p : Nat) : Nat :=
  let page := s.loadNat (Mem.lpddr (s.ctxListAddr c.stream + 16 * (p / 64))) 4
  s.pageAddr page + bitsOf a 16 1 * 32768 + p % 64 * 512

/-- The place of the exit path of an engine among the read paths: beyond those of the rows of all bobbins. -/
def exitPlace (e : Engine) : Nat := 64 * Config.rows + e.number

/-- Data that an engine sends to LPDDR, PCIe or Idward is checked as it leaves (R520): the state, and the status where a fault
on the way is met. -/
def State.exitCheck (s : State) (e : Engine) : State × Nat :=
  if s.pathFaults.contains (exitPlace e) then
    ({ s with pathFaults := s.pathFaults.filter (fun x => x != exitPlace e) }.parityReport e.skein, 0x0604)
  else (s, 0)

/-- Reads a plain source row: the state, the bytes, and a status. -/
def State.srcRow (s : State) (c : Cmd) (x : RowMove) (p : Nat) : State × List Byte × Nat :=
  let k := c.engine.skein
  match x.sk with
  | 0 => let host := c.hostAddr x.src
         (s.chargeRead c host 512, s.load (byteAddr host p) 512, 0)
  | 1 =>
    let r := s.readRows k c.engine.source c.uid [p]
    (r.1, s.readRow k p, r.2)
  | 3 => (s.chargeRead c false 512, s.load (Mem.lpddr (s.kvRowAddr c x.src p)) 512, 0)
  | _ => (s, s.load (Mem.dmem k (bitsOf x.src 16 1) + 512 * p) 512, 0)

/-- Reads the next row of a compressed source. -/
def State.srcStream (s : State) (c : Cmd) (x : RowMove) (g : Progress) : State × Progress × List Byte × Nat :=
  let k := c.engine.skein
  let host := c.hostAddr x.src
  let get (i : Nat) : Byte := if x.sk = 0 then Mem.read s.mem (byteAddr host (x.src + i)) else s.bobByte k (512 * x.src + i)
  let e := expandAt get g.read
  let next := { g with read := g.read + e.2, rows := ceilDiv (g.read + e.2) 512 }
  if x.sk = 0 then (s.chargeRead c host e.2, next, e.1, 0)
  else
    let r := s.readRows k c.engine.source c.uid ((List.range (next.rows - g.rows)).map (fun i => x.src + g.rows + i))
    (r.1, next, e.1, r.2)

/-- Writes whole rows to the bobbin of the MOVE's skein. -/
def State.dstRows (s : State) (c : Cmd) (row : Nat) (bs : List Byte) : State × Nat :=
  s.writeRows c.engine.skein c.engine.source c.uid
    ((List.range (bs.length / 512)).map (fun i => (row + i, sliceOf bs (512 * i) 512)))

/-- The pair of which a job is a copy, and whether it is the main copy (R527). -/
def State.pairOf (s : State) (job : Nat) : Option (Nat × Bool) :=
  match (List.range 4).find? (fun p => s.isSet Fld.SELV_PAIR_CFG_VALID p &&
      (s.get Fld.SELV_PAIR_CFG_MAIN_JOB p == job || s.get Fld.SELV_PAIR_CFG_CHECK_JOB p == job)) with
  | some p => some (p, s.get Fld.SELV_PAIR_CFG_MAIN_JOB p == job)
  | none => none

/-- Writes a row to a mailbox (R306): the main copy's entry awaits its release, the checker writes none (R308,
R532). -/
def State.mailboxRow (s : State) (c : Cmd) (loop : Nat) (bs : List Byte) : State :=
  match s.pairOf c.job with
  | none => s.mailboxStage loop bs none
  | some (_, main) =>
    let t := if main then s.mailboxStage loop bs (some c.uid) else s
    t.modCmd c.uid (fun c => { c with mail := some (loop, bs) })

/-- A row of a MOVE lands at its destination: the state, the progress and a status. -/
def State.landRow (s : State) (c : Cmd) (x : RowMove) (g : Progress) (p : Nat) (bs : List Byte) : State × Progress × Nat :=
  let host := c.hostAddr x.dst
  if x.compress then
    let seg := compressRow bs
    if x.dk = 0 then (s.storeKind0 c host (x.dst + g.len) seg, { g with len := g.len + seg.length }, 0)
    else
      let buf := g.tail ++ seg
      let whole := buf.length / 512 * 512
      let r := s.dstRows c (x.dst + g.len / 512) (buf.take whole)
      (r.1, { g with len := g.len + seg.length, tail := buf.drop whole }, r.2)
  else match x.dk with
    | 0 => (s.storeKind0 c host p bs, g, 0)
    | 1 => let r := s.dstRows c p bs
           (r.1, g, r.2)
    | 2 =>
      let t := s.request (s.accountRow c) 0x01 (bitsOf x.dst 24 7) 0 (bitsOf x.dst 32 32)
        (bitsOf x.dst 16 6 * 65536 + p) bs (.write c.uid)
      (t.modCmd c.uid (fun c => { c with outstanding := c.outstanding + 1 }), g, 0)
    | 4 => (s.mailboxRow c (bitsOf x.dst 0 5) bs, g, 0)
    | _ => (s.store (Mem.dmem c.engine.skein (bitsOf x.dst 16 1) + 512 * p) bs, g, 0)

/-- A row that a MOVE writes is kept with its command, by the place of the row among its rows, as it is written: bytes, or the
segment of a compressed stream (R510, R523). -/
def State.noteMoved (s : State) (uid : Nat) (i : Option Nat) (compress : Bool) (bs : List Byte) : State :=
  s.modCmd uid (fun c => { c with
    moved := Sparse.insert c.moved (i.getD c.moved.length) (if compress then compressRow bs else bs) })

/-- Moves rows whose source is not remote, one by one, until one fails. -/
def State.moveRows (s : State) (c : Cmd) (x : RowMove) (g : Progress) : List (Int × Int) → State × Progress × Nat
  | [] => (s, g, 0)
  | (a, b) :: rest =>
    let r := if x.expand then s.srcStream c x g else
      let q := s.srcRow c x a.toNat
      (q.1, g, q.2.1, q.2.2)
    if r.2.2.2 ≠ 0 then (r.1, g, r.2.2.2) else
    let q := if x.dk = 0 ∨ x.dk = 2 then r.1.exitCheck c.engine else (r.1, 0)
    if q.2 ≠ 0 then (q.1, g, q.2) else
    let w := (q.1.noteMoved c.uid none x.compress r.2.2.1).landRow c x r.2.1 b.toNat r.2.2.1
    if w.2.2 ≠ 0 then w else w.1.moveRows c x w.2.1 rest

/-! ## Held MOVEs of a pair (R532) -/

/-- A pair beyond its registers. -/
def State.pair (s : State) (p : Nat) : Pair := Sparse.get Pair.reset s.selv.pairs p
/-- Replaces a pair. -/
def State.putPair (s : State) (p : Nat) (x : Pair) : State :=
  { s with selv := { s.selv with pairs := Sparse.put Pair.reset s.selv.pairs p x } }
/-- Changes a pair. -/
def State.modPair (s : State) (p : Nat) (f : Pair → Pair) : State := s.putPair p (f (s.pair p))

/-- Whether an identity has been decided. -/
def Pair.verdict (x : Pair) (engine ordinal : Nat) : Option Verdict :=
  x.decided.find? (fun v => v.engine == engine && v.ordinal == ordinal)

/-- The tile of an identity in one copy. -/
def Pair.tile (x : Pair) (engine ordinal : Nat) (main : Bool) : Option Tile :=
  x.tiles.find? (fun t => t.engine == engine && t.ordinal == ordinal && t.main == main)

/-- A held MOVE is released: its entry may take effect, and it ends (R532). -/
def State.mailboxRelease (s : State) (p frame : Nat) (c : Cmd) : State :=
  let t := s.modCmd c.uid (fun c => { c with phase := .ended, since := s.refTime })
  match c.mail with
  | some (loop, _) => t.modLoop loop (fun l => { l with staged := match l.staged with
      | some e => if e.await = some c.uid then some { e with await := none, freed := some (p, frame, s.refTime) } else some e
      | none => none })
  | none => t

/-- A held MOVE is withheld: its entry is discarded, and it ends (R308, R532). -/
def State.mailboxDeny (s : State) (c : Cmd) : State :=
  let t := s.modCmd c.uid (fun c => { c with phase := .ended, since := s.refTime })
  match c.mail with
  | some (loop, _) =>
    match (s.loop loop).staged with
    | some e => if e.await = some c.uid then t.mailboxWithhold loop else t
    | none => t
  | none => t

/-- Whether every main tile that started before a command's tile has been decided. -/
def Pair.earlierDecided (x : Pair) (uid : Nat) : Bool :=
  (x.tiles.takeWhile (fun t => t.uid != uid)).all (fun t => !t.main || (x.verdict t.engine t.ordinal).isSome)

/-- The Selvedge judges a held MOVE (R532, R541). -/
def State.judgeHeld (s : State) (p : Nat) (t : Tile) : State :=
  let x := s.pair p
  match s.cmd? t.uid with
  | none => s
  | some c =>
    if c.phase ≠ .held then s else
    match x.verdict t.engine t.ordinal with
    | none => s
    | some v =>
      if !v.equal || x.bad.contains t.frame then s.mailboxDeny c
      else if s.isSet Fld.SELV_PAIR_CFG_DEBUG_TAINT p || !x.earlierDecided t.uid then s
      else s.mailboxRelease p t.frame c

/-- The Selvedge judges every held MOVE of a pair. -/
def State.judgePair (s : State) (p : Nat) : State :=
  s.forEach ((s.pair p).tiles.filter (fun t => t.main)) (fun t x => t.judgeHeld p x)

/-! ## Moving rows -/

/-- The unwritten tail of a compressed stream in a bobbin is filled with zeros and written whole (R123). -/
def State.moveTail (s : State) (c : Cmd) (x : RowMove) (g : Progress) : State × Nat :=
  if x.compress && x.dk == 1 && !g.tail.isEmpty then
    s.dstRows c (x.dst + g.len / 512) (sliceOf g.tail 0 512)
  else (s, 0)

/-- A MOVE's last row has landed: it ends, or the Selvedge holds it, and judges it at once (R532). -/
def State.moveEnd (s : State) (c : Cmd) (x : RowMove) (g : Progress) : State :=
  let w := s.moveTail c x g
  let t := w.1.finish c.uid w.2 (if x.compress && w.2 == 0 then g.len else 0)
  match s.pairOf c.job with
  | some (p, true) => if x.dk = 4 ∧ w.2 = 0 then (t.modCmd c.uid (fun c => { c with phase := .held })).judgePair p else t
  | _ => t

/-- A MOVE asks for some of its remote source rows (R409, R436). -/
def State.askRows (s : State) (c : Cmd) (x : RowMove) : List (Nat × Int) → State
  | [] => s
  | (i, a) :: rest =>
    ((s.request (s.accountRow c) 0x02 (bitsOf x.src 24 7) 0 (bitsOf x.src 32 32) (bitsOf x.src 16 6 * 65536 + a.toNat)
      [] (.read c.uid i)).modCmd c.uid (fun c => { c with outstanding := c.outstanding + 1 })).askRows c x rest

/-- Numbers the elements of a list. -/
def numbered {α : Type} (l : List α) : List (Nat × α) := (List.range l.length).zip l

/-- A MOVE of remote rows issues further reads while it runs (R409).  How many is free, and at least one while none is
outstanding. -/
def State.askMore (s : State) (c : Cmd) : State :=
  match c.phase, c.work with
  | .running, .remote asked len tail =>
    let x := RowMove.ofBytes c.desc
    let left := (numbered (x.places.map Prod.fst)).drop asked
    if x.sk ≠ 2 ∨ left.isEmpty = true then s else
    let least := if c.outstanding = 0 then 1 else 0
    let n := least + (Config.freeWord s.freeCount).toNat % (left.length + 1 - least)
    (({ s with freeCount := s.freeCount + 1 }).modCmd c.uid
      (fun c => { c with work := .remote (asked + n) len tail })).askRows c x (left.take n)
  | _, _ => s

/-- What a command does after a change of itself: it asks for further rows. -/
def State.askOn (s : State) (uid : Nat) : State :=
  match s.cmd? uid with
  | some c => s.askMore c
  | none => s

/-- A MOVE that has passed its checks moves its rows, or issues its remote requests. -/
def State.runMove (s : State) (c : Cmd) (x : RowMove) : State :=
  let k := c.engine.skein
  if !s.moveFits c x || !s.inRegions c.job (x.reads k ++ x.writes k) then s.finish c.uid 0x0204 0 else
  if x.sk = 2 then
    (s.modCmd c.uid (fun c => { c with work := .remote 0 0 [] })).askOn c.uid
  else
    let s0 := if x.dk = 2 then s.modCmd c.uid (fun c => { c with work := .remote 0 0 [] }) else s
    let r := s0.moveRows c x ⟨0, 0, 0, []⟩ x.places
    if r.2.2 ≠ 0 then r.1.finish c.uid r.2.2 0
    else if x.dk = 2 then r.1
    else r.1.moveEnd c x r.2.1

/-- MOVE (R81): the running command moves its rows in `beats`. -/
def execMove (uid beats : Nat) (s : State) : Host.Outcome State Fault Refusal :=
  .next (match s.runningCmd uid 0x09 with
    | none => s
    | some c =>
      if c.work ≠ .plain then s else
      let t := s.chargeCmd c beats
      match moveCheck s c.job c.stream c.desc with
      | some st => t.finish uid st 0
      | none => t.runMove c (RowMove.ofBytes c.desc))

/-! ## Replies (R128, R409, R436) -/

/-- A remote request of a MOVE has been answered: it asks for further rows, and the last answer ends it. -/
def State.moveAnswered (s : State) (uid : Nat) : State :=
  match s.cmd? uid with
  | none => s
  | some c =>
    if c.phase = .ended then s else
    let x := RowMove.ofBytes c.desc
    let t := s.modCmd uid (fun c => { c with outstanding := c.outstanding - 1 })
    match c.work with
    | .remote asked len tail =>
      if 1 < c.outstanding ∨ (x.sk = 2 ∧ asked < x.count) then t.askOn uid
      else if c.status ≠ 0 then t.finish uid c.status 0
      else t.moveEnd c x ⟨0, 0, len, tail⟩
    | _ => t

/-- Row i of a MOVE's remote source has arrived and lands whole, also while its job is pre-empted (R409). -/
def State.moveArrived (s : State) (uid i : Nat) (bs : List Byte) : State :=
  match s.cmd? uid with
  | none => s
  | some c =>
    let x := RowMove.ofBytes c.desc
    if c.phase = .ended then s else
    match c.work with
    | .remote _ len tail =>
      let w := (s.noteMoved uid (some i) x.compress bs).landRow c x ⟨0, 0, len, tail⟩ (x.places.getD i (0, 0)).2.toNat bs
      let t := w.1.modCmd uid (fun c => match c.work with
        | .remote asked _ _ => { c with work := .remote asked w.2.1.len w.2.1.tail }
        | _ => c)
      if w.2.2 ≠ 0 then (t.finish uid w.2.2 0) else t.moveAnswered uid
    | _ => s

/-- A remote request of a MOVE was refused: after a window violation the MOVE goes on with its other rows and ends with the
status (R128); a timeout or the loss of a link ends it (R410, R430). -/
def State.moveRefused (s : State) (uid status : Nat) : State :=
  match s.cmd? uid with
  | none => s
  | some c =>
    if c.phase = .ended then s
    else if status = 0x0201 then (s.modCmd uid (fun c => { c with status := status })).moveAnswered uid
    else s.finish uid status 0

/-- Whether a MOVE is parked: it has issued remote reads, some of which have neither been answered nor timed out (R409). -/
def State.parked (s : State) (c : Cmd) : Bool :=
  s.iwl.reqs.any (fun r => match r.expect with
    | .read uid _ => uid == c.uid
    | _ => false)

end Sys2Proof.Machine
end

