-- ==== Sys2Proof/Machine/Pairs.lean ====
section
/-! DEFINITION. The Selvedge's share in running commands (chapter 18): suspect skeins (R522, R526), tile digests
(R523), and paired execution (R527 to R533). -/

namespace Sys2Proof.Machine

/-! ## The order of a queue (R53, R162) -/

/-- Whether a command occupies its queue: from its entry until its work ends or a thief takes it (R406); a routed MATMUL and
an ATTN until they complete (R162, R254). -/
def Cmd.waits (c : Cmd) : Bool :=
  match c.phase with
  | .queued | .running | .yielded => !c.stolen
  | .ended => c.routed || c.opcode == 0x05
  | _ => false

/-- Whether a command that comes first in its job's order keeps the later ones of its queue from the head: on the hub's
engines, which hold several commands in progress, only until it has started. -/
def Cmd.leads (c : Cmd) : Bool :=
  match c.home with
  | .ring | .kv | .digest => decide (c.phase = .queued)
  | _ => c.waits

/-- Whether a command is at the head of its job's order in its queue (R53). -/
def State.isHead (s : State) (c : Cmd) : Bool :=
  !(s.cmds.takeWhile (fun d => d.uid != c.uid)).any (fun d =>
    decide (d.home = c.home) && d.job == c.job && d.leads)

/-- Whether a command's wait token is satisfied (R53, R84). -/
def Cmd.tokenOk (c : Cmd) : Bool := c.granted || tokenNull c.waitToken

/-! ## Tiles and decisions -/

/-- The engine of a tile's identity (R529). -/
def Engine.tileCode : Engine → Nat
  | .loom k => k % 8
  | .vec k => 8 + k % 8
  | .drafter k d => 16 + 8 * d + k % 8
  | .ply _ => 32
  | .kv => 33
  | .prog k q => 48 + 8 * q + k % 8
  | _ => 34

/-- The address of the record that a DIGEST writes (R508, R511). -/
def State.recordAddr (s : State) (c : Cmd) : Nat :=
  if c.field 40 8 = 0 then 256 * s.get Fld.HEDDLE_DETJ_REC_BASE_BASE c.job else c.field 40 8

/-- Whether a command writes bobbin rows, LPDDR, stream pages or a mailbox as it starts (R529); a PROG does so when its image
holds rows to load, which its load finds. -/
def State.isTile (s : State) (c : Cmd) : Bool :=
  let x := RowMove.ofBytes c.desc
  (decide (1 ≤ c.opcode) && decide (c.opcode ≤ 8)) ||
  (c.opcode == 0x09 && ((x.dk == 0 && !c.hostAddr x.dst) || x.dk == 1 || x.dk == 2 || x.dk == 4)) ||
  (c.opcode == 0x0E && s.recordAddr c / 2 ^ 63 % 2 == 0)

/-- A tile of a pair starts: it takes its ordinal and, in the main copy, its frame (R529). -/
def State.enrol (s : State) (c : Cmd) : State :=
  match s.pairOf c.job with
  | none => s
  | some (p, main) =>
    let e := c.engine.tileCode
    let frame := s.get Fld.HEDDLE_CYCLE_COUNT_COUNT 0
    s.modPair p (fun x =>
      let n := Sparse.get 0 (if main then x.mainCount else x.checkCount) e
      let t : Tile := ⟨c.uid, e, n, main, frame⟩
      { x with
        mainCount := if main then Sparse.put 0 x.mainCount e (n + 1) else x.mainCount
        checkCount := if main then x.checkCount else Sparse.put 0 x.checkCount e (n + 1)
        tiles := x.tiles ++ [t]
        frames := if main ∧ ¬ frame ∈ x.frames then x.frames ++ [frame] else x.frames })

/-- A command of a pair starts (R529). -/
def State.tileStart (s : State) (c : Cmd) : State := if s.isTile c then s.enrol c else s

/-- The frame of a tile: the cycle in which the main copy's command of its identity started (R529); none while that command
has not started. -/
def Pair.frameOf (x : Pair) (t : Tile) : Option Nat :=
  if t.main then some t.frame else
  match x.verdict t.engine t.ordinal with
  | some v => some v.frame
  | none => (x.tile t.engine t.ordinal true).map Tile.frame

/-- The rows that a MOVE has written, with their logical row numbers (R523, R529). -/
def RowMove.written (x : RowMove) (moved : List (Nat × List Byte)) : List (Nat × List Byte) :=
  if x.compress then
    let bs := (moved.map Prod.snd).flatten
    (List.range (ceilDiv bs.length 512)).map (fun i =>
      (if x.dk = 0 then (Config.tileRow i).toNat else x.dst + i, sliceOf bs (512 * i) 512))
  else moved.map (fun p =>
    (if x.dk = 0 then (Config.tileRow p.1).toNat else (x.places.getD p.1 (0, 0)).2.toNat, p.2))

/-- The digest of a tile whose work is over (R523, R529), taken of what it wrote as it wrote it.  What a fault has stopped
had written rows that are not settled yet: their digest is free. -/
def State.tileDigest (_ : State) (c : Cmd) : Nat :=
  if c.cut then (Config.freeWord (c.uid * 2 + 1)).toNat else
  match c.mail with
  | some (_, row) => rowsDigest [(0, row)]
  | none => if c.opcode = 0x09 then rowsDigest ((RowMove.ofBytes c.desc).written c.moved) else c.digest

/-- The command of a tile whose digest has arrived. -/
def State.tileOver (s : State) (t : Tile) : Option Cmd :=
  match s.cmd? t.uid with
  | some c => if c.phase = .ended ∨ c.phase = .held then some c else none
  | none => none

/-- Entries of a frame that were released in this beat are withheld after all (R532). -/
def State.withholdFreed (s : State) (p frame : Nat) : State :=
  s.forEach (List.range 32) (fun t n => match (t.loop n).staged with
    | some e => if e.freed = some (p, frame, s.refTime) then t.mailboxWithhold n else t
    | none => t)

/-- A frame of a pair is mismatched (R531, R533).  `main` and `check` are the skeins of the unequal tile. -/
def State.mismatch (s : State) (p frame main check : Nat) : State :=
  let x := s.pair p
  if frame ∈ x.bad then s else
  let t := ((((s.withholdFreed p frame).modPair p (fun x => { x with bad := x.bad ++ [frame], watch := some (frame, 0) })).set
    Fld.SELV_PAIR_MISMATCH_FRAME_FRAME p frame).count Fld.SELV_PAIR_CNT_MISMATCH_COUNT p 1).raise
    Flg.SELV_EVT_FRAME_MISMATCH 0
  match x.watch with
  | some (f1, _) =>
    if frame ≤ f1 + 100 then
      (((t.raise Flg.SELV_EVT_ESCALATED 0).count Fld.SELV_PAIR_CNT_ESCALATE_COUNT p 1).makeSuspect main).makeSuspect check
    else t
  | none => t

/-- The records of the commands of a decided identity become due now (R513). -/
def State.recordsDue (s : State) (x : Pair) (t : Tile) : State :=
  { s with cmds := s.cmds.map (fun c =>
      if x.tiles.any (fun u => u.uid == c.uid && u.engine == t.engine && u.ordinal == t.ordinal) && decide (c.phase = .ended) then
        { c with since := s.refTime } else c) }

/-- The comparator decides an identity (R530, R531); `t` is a tile of it. -/
def State.verdictOn (s : State) (p : Nat) (t : Tile) (equal : Bool) : State :=
  let x := s.pair p
  let frame := match x.tile t.engine t.ordinal true with
    | some m => m.frame
    | none => t.frame
  let v : Verdict := ⟨t.engine, t.ordinal, frame, equal⟩
  let hank (f : Field) : Nat := 8 * s.get f p + (if t.engine < 32 ∨ 48 ≤ t.engine then t.engine % 8 else 0)
  let u := (s.modPair p (fun x => { x with decided := x.decided ++ [v] })).recordsDue x t
  (if equal then u else u.mismatch p frame (hank Fld.SELV_PAIR_CFG_MAIN_HANK) (hank Fld.SELV_PAIR_CFG_CHECK_HANK)).judgePair p

/-- Whether a tile of the main copy awaits its decision with both digests arrived. -/
def State.tileBoth (s : State) (x : Pair) (t : Tile) : Bool :=
  t.main && (s.tileOver t).isSome && (x.verdict t.engine t.ordinal).isNone &&
  (match x.tile t.engine t.ordinal false with
    | some u => (s.tileOver u).isSome
    | none => false)

/-- PAIR_DECISION (R530): the oldest identity whose digests have both arrived is decided. -/
def execPairDecision (pair : Nat) (s : State) : Host.Outcome State Fault Refusal :=
  .next (
    let x := s.pair pair
    match x.tiles.find? (s.tileBoth x) with
    | none => s
    | some t =>
      match s.tileOver t, x.tile t.engine t.ordinal false with
      | some a, some u => match s.tileOver u with
        | some b => s.verdictOn pair t (s.tileDigest a == s.tileDigest b)
        | none => s
      | _, _ => s)

/-- Whether the debugger halts a core of either copy of a pair (R541). -/
def State.pairHalted (s : State) (p : Nat) : Bool :=
  s.selv.halted.any (fun c => c / 16 == s.get Fld.SELV_PAIR_CFG_MAIN_HANK p || c / 16 == s.get Fld.SELV_PAIR_CFG_CHECK_HANK p)

/-- Whether a tile's digest has waited PAIR_TIMEOUT µs for its counterpart. -/
def State.tileLone (s : State) (x : Pair) (t : Tile) : Bool :=
  (x.verdict t.engine t.ordinal).isNone &&
  (match s.tileOver t with
    | some c => decide (c.since + s.get Fld.SELV_TIMING_PAIR_TIMEOUT 0 * Config.us ≤ s.refTime)
    | none => false) &&
  (match x.tile t.engine t.ordinal (!t.main) with
    | some u => (s.tileOver u).isNone
    | none => true)

/-- PAIR_TIMEOUT (R530): a digest has waited PAIR_TIMEOUT µs for its counterpart. -/
def execPairTimeout (pair : Nat) (s : State) : Host.Outcome State Fault Refusal :=
  .next (if s.pairHalted pair then s else
    match (s.pair pair).tiles.find? (s.tileLone (s.pair pair)) with
    | none => s
    | some t => s.verdictOn pair t false)

/-- Whether the next cycle of a frame has begun and every tile of the frame is decided. -/
def State.frameOver (s : State) (x : Pair) (f : Nat) : Bool :=
  decide (f < s.get Fld.HEDDLE_CYCLE_COUNT_COUNT 0) &&
  x.tiles.all (fun t => x.frameOf t != some f || (x.verdict t.engine t.ordinal).isSome)

/-- PAIR_FRAME_END (R533): the oldest frame whose next cycle has begun and whose tiles are all decided ends. -/
def execPairFrameEnd (pair : Nat) (s : State) : Host.Outcome State Fault Refusal :=
  .next (
    let x := s.pair pair
    match x.frames.find? (s.frameOver x) with
    | none => s
    | some f =>
      let t := (s.modPair pair (fun x => { x with frames := x.frames.filter (fun g => g != f) })).set
        Fld.SELV_PAIR_FRAME_FRAME pair f
      if f ∈ x.bad then t else
      match x.watch with
      | some (f1, n) =>
        if n < 3 ∧ f1 < f then
          let u := t.modPair pair (fun x => { x with watch := some (f1, n + 1) })
          if n = 2 then (u.raise Flg.SELV_EVT_TRANSIENT 0).count Fld.SELV_PAIR_CNT_TRANSIENT_COUNT pair 1 else u
        else t
      | none => t)

/-- How many undecided tiles of its own copy, started before it, are ahead of the other copy: those whose counterpart's
digest has not arrived (R530). -/
def State.tilesAhead (s : State) (x : Pair) (t : Tile) : Nat :=
  ((x.tiles.takeWhile (fun u => u.uid != t.uid)).filter (fun u => u.main == t.main &&
    (x.verdict u.engine u.ordinal).isNone && (match x.tile u.engine u.ordinal (!u.main) with
      | some v => (s.tileOver v).isNone
      | none => true))).length

/-- Whether a command's tile, if it has one, has been decided and lies within 64 undecided tiles (R530). -/
def State.tileReady (s : State) (c : Cmd) : Bool :=
  match s.pairOf c.job with
  | none => true
  | some (p, _) => match (s.pair p).tiles.find? (fun t => t.uid == c.uid) with
    | none => true
    | some t => ((s.pair p).verdict t.engine t.ordinal).isSome && decide (s.tilesAhead (s.pair p) t < 64)

/-- The status a command completes with: FRAME_MISMATCH replaces OK and SATURATED in a mismatched frame (R531). -/
def State.tileStatus (s : State) (c : Cmd) : Nat :=
  match s.pairOf c.job with
  | none => c.status
  | some (p, _) => match (s.pair p).tiles.find? (fun t => t.uid == c.uid) with
    | none => c.status
    | some t =>
      if (match (s.pair p).frameOf t with
          | some f => (s.pair p).bad.contains f
          | none => false) && (c.status == 0 || c.status == 0x0305) then 0x0601 else c.status

/-- A tile completes: it leaves its pair, and what no tile needs any more is dropped. -/
def State.tileDone (s : State) (c : Cmd) : State :=
  match s.pairOf c.job with
  | none => s
  | some (p, _) => s.modPair p (fun x =>
      let tiles := x.tiles.filter (fun t => t.uid != c.uid)
      let decided := x.decided.filter (fun v => tiles.any (fun t => t.engine == v.engine && t.ordinal == v.ordinal) ||
        decide (Sparse.get 0 x.mainCount v.engine ≤ v.ordinal) || decide (Sparse.get 0 x.checkCount v.engine ≤ v.ordinal))
      { x with
        tiles := tiles, decided := decided
        bad := x.bad.filter (fun f => x.frames.contains f || tiles.any (fun t => x.frameOf t == some f) ||
          decided.any (fun v => v.frame == f)) })

end Sys2Proof.Machine
end

