-- ==== Sys2Proof/Machine/Ply.lean ====
section
/-! DEFINITION. The ply engine (chapter 09): fixed-point arithmetic, range entries, SOLVE, DYN and yields. -/

namespace Sys2Proof.Machine

/-! ## Fixed-point arithmetic (Table 9.1) -/

/-- A value with whether anything saturated on the way to it (R265). -/
abbrev Sx := Int × Bool

/-- Saturates to w bits. -/
def satBits (w : Nat) (v : Int) (o : Bool) : Sx :=
  let hi : Int := (2 ^ (w - 1) : Nat)
  if v < -hi then (-hi, true) else if v ≥ hi then (hi - 1, true) else (v, o)

/-- Moves a value from `f` to `g` fraction bits, rounding to nearest even (R263). -/
def reframe (v : Int) (f g : Int) : Int :=
  if g ≤ f then (rshiftRound v (f - g).toNat true).1 else v * (2 ^ (g - f).toNat : Nat)

/-- acc + sign · p · q in an accumulator of frame `f` (Table 9.1). -/
def macStep (acc : Sx) (sign p q : Int) (fp fq f : Nat) : Sx :=
  let t := satBits 48 (reframe (p * q) (fp + fq : Nat) f) acc.2
  satBits 48 (acc.1 + sign * t.1) t.2

/-- Writes an accumulator of frame `f` to a value of format `g` (Table 9.1). -/
def plainWrite (acc : Sx) (f g : Nat) : Sx := satBits 32 (reframe acc.1 f g) acc.2

/-- The exact square root of `n / 2^k` rounded to nearest even. -/
def sqrtRound (n k : Nat) : Nat :=
  let r := isqrtFrom (n / 2 ^ k) 64 0
  let a := 4 * n
  let b := (4 * r * r + 4 * r + 1) * 2 ^ k
  if a > b then r + 1 else if a = b then (if r % 2 = 1 then r + 1 else r) else r

/-- SQRT of an accumulator of frame `f`, rounded once to format `g` (Table 9.1). -/
def sqrtWrite (acc : Sx) (f g : Nat) : Sx :=
  let n := acc.1.toNat
  satBits 32 (if f ≤ 2 * g then (sqrtRound (n * 2 ^ (2 * g - f)) 0 : Int) else (sqrtRound n (f - 2 * g) : Int)) acc.2

/-- A normalised reciprocal: sign, m from 2³¹ to 2³² − 1, and e (Table 9.1). -/
structure Recip where
  neg : Bool
  m : Nat
  e : Int
  deriving DecidableEq, Repr

/-- RECIP of a value of format `f`. -/
def recipOf (v : Int) (f : Nat) : Recip :=
  let u := v.natAbs
  if u = 0 then ⟨false, 2 ^ 31 + Config.plyRecipZero.toNat, 31⟩ else
  let len := bitLen u
  let t := if u = 2 ^ (len - 1) then 30 + len else 31 + len
  ⟨decide (v < 0), divEven (2 ^ t) u, (t : Int) - f⟩

/-- Accumulator × reciprocal into format `g` (Table 9.1). -/
def recipWrite (acc : Sx) (r : Recip) (f g : Nat) : Sx :=
  let p := acc.1 * (if r.neg then -(r.m : Int) else r.m)
  satBits 32 (reframe p (f + r.e) g) acc.2

/-! ## Range entries -/

/-- A range entry (Table 9.2). -/
structure RangeEntry where
  fa : Nat
  fb : Nat
  fc : Nat
  fx : Nat
  owner : Nat
  valid : Bool
  tol : Nat
  deriving DecidableEq, Repr

/-- Entry e of ply engine h. -/
def State.rangeEntry (s : State) (h e : Nat) : RangeEntry :=
  let b := s.load (Mem.range h e) 16
  ⟨fieldOf b 0 1 % 32, fieldOf b 1 1 % 32, fieldOf b 2 1 % 32, fieldOf b 3 1 % 32, fieldOf b 4 1,
   decide (fieldOf b 5 1 % 2 = 1), fieldOf b 6 2⟩

/-- Whether a command names entry e of engine h. -/
def Cmd.namesRange (c : Cmd) (h e : Nat) : Bool :=
  (c.opcode == 0x07 || c.opcode == 0x08) && c.field 26 1 % 64 / 8 == h && c.field 27 1 % 64 == e

/-- A range entry is in CONFIG while no admitted command names it (R269). -/
def State.rangeConfig (s : State) (h e : Nat) : Bool := !s.cmds.any (fun c => c.namesRange h e)

/-- A job's entries return to VALID 0 when it ends or is aborted (R267). -/
def State.dropRanges (s : State) (job : Nat) : State :=
  s.forEach (List.range 512) (fun t i =>
    let e := t.rangeEntry (i / 64) (i % 64)
    if e.valid && e.owner == job then t.storeNat (Mem.range (i / 64) (i % 64) + 5) 1 0 else t)

/-! ## SOLVE -/

/-- SOLVE operations (Table 9.4). -/
inductive PlyOp where
  | chol | ldlt | qr | trsmL | trsmU | trsmLt | iter
  deriving DecidableEq, Repr

/-- Table 9.4. -/
def plyOp : Nat → Option PlyOp
  | 0 => some .chol | 1 => some .ldlt | 2 => some .qr | 3 => some .trsmL | 4 => some .trsmU
  | 5 => some .trsmLt | 6 => some .iter
  | _ => none

/-- Whether the operation is a TRSM. -/
def PlyOp.trsm : PlyOp → Bool
  | .trsmL | .trsmU | .trsmLt => true
  | _ => false

/-- Whether the operation reads B. -/
def PlyOp.usesB (o : PlyOp) : Bool := o.trsm || decide (o = .iter)

/-- The fields of a SOLVE payload (Table 9.3). -/
structure Solve where
  op : PlyOp
  diag : Nat
  regEn : Bool
  cold : Bool
  skein : Nat
  rangeId : Nat
  n : Nat
  m : Nat
  r : Nat
  iters : Nat
  batch : Nat
  aRow : Nat
  bRow : Nat
  cRow : Nat
  xRow : Nat
  statusRow : Nat
  warmRow : Nat
  aStride : Nat
  bStride : Nat
  xStride : Nat
  topology : Nat
  thresh : Int
  shift : Int
  pattern : Nat
  deriving DecidableEq, Repr

/-- Reads a SOLVE payload; none for a reserved OP. -/
def Solve.ofBytes (d : List Byte) : Option Solve :=
  match plyOp (fieldOf d 24 1 % 16) with
  | none => none
  | some o =>
    some ⟨o, fieldOf d 25 1 / 64, decide (fieldOf d 25 1 / 32 % 2 = 1), decide (fieldOf d 25 1 / 16 % 2 = 1),
      fieldOf d 26 1 % 64, fieldOf d 27 1 % 64, fieldOf d 28 1 % 32 + 1, fieldOf d 29 1 % 32 + 1,
      fieldOf d 30 1 % 32 + 1, fieldOf d 31 1, fieldOf d 32 2, fieldOf d 34 2, fieldOf d 36 2, fieldOf d 38 2,
      fieldOf d 40 2, fieldOf d 42 2, fieldOf d 44 2, fieldOf d 46 1, fieldOf d 47 1, fieldOf d 48 1,
      fieldOf d 50 2, signed 32 (fieldOf d 52 4), signed 32 (fieldOf d 56 4), fieldOf d 60 4⟩

/-- Rows that `n` words occupy. -/
def wordRows (n : Nat) : Nat := ceilDiv (n * 4) 512

/-- Words of an item of the output (Table 9.4): for QR, the τ of each column follow the matrix. -/
def Solve.xWords (x : Solve) : Nat :=
  match x.op with
  | .chol | .ldlt => x.n * x.n
  | .qr => x.n * x.n + x.n
  | _ => x.n * x.r

/-- Rows of a warm record (R279). -/
def Solve.warmRows (x : Solve) : Nat := ceilDiv (16 + 4 * x.n * x.r) 512

/-- The rows of each item of an operand. -/
def itemRanges (k row stride words batch : Nat) : List RowRange :=
  (List.range batch).map (fun b => ⟨k, row + b * stride, row + b * stride + wordRows words - 1⟩)

/-- The rows of the warm records. -/
def Solve.warm (x : Solve) : List RowRange :=
  if x.op = .iter then [⟨x.skein, x.warmRow, x.warmRow + x.batch * x.warmRows - 1⟩] else []

/-- The read extents apart from the warm records. -/
def Solve.readsPlain (x : Solve) : List RowRange :=
  itemRanges x.skein x.aRow x.aStride (x.m * x.n) x.batch ++
  (if x.op.usesB then itemRanges x.skein x.bRow x.bStride (x.n * x.r) x.batch else []) ++
  (if x.op = .iter then itemRanges x.skein x.cRow x.aStride (x.n * x.n) x.batch else [])

/-- The read footprint, the warm records included (R289). -/
def Solve.reads (x : Solve) : List RowRange := x.readsPlain ++ x.warm

/-- The status rows. -/
def statusRange (k row batch : Nat) : RowRange := ⟨k, row, row + (batch - 1) / 512⟩

/-- The write extents: output, status, warm records (R289). -/
def Solve.writes (x : Solve) : List RowRange :=
  itemRanges x.skein x.xRow x.xStride x.xWords x.batch ++ [statusRange x.skein x.statusRow x.batch] ++ x.warm

/-- No two of the groups of ranges share a row. -/
def groupsApart : List (List RowRange) → Bool
  | [] => true
  | g :: rest => rest.all (fun h => !rangesMeet g h) && groupsApart rest

/-- Items of one operand do not overlap and its stride covers an item. -/
def strideOk (stride words : Nat) : Bool := decide (wordRows words ≤ stride)

/-- R273: none when the payload is accepted, the status otherwise.  `issuer` is the skein that forwarded it. -/
def solveCheck (s : State) (job : Nat) (issuer : Option Nat) (d : List Byte) : Option Nat :=
  match Solve.ofBytes d with
  | none => some 0x0102
  | some x =>
    let e := s.rangeEntry (x.skein / 8) x.rangeId
    let it := decide (x.op = .iter)
    let ok := fieldOf d 24 1 / 16 == 0 && fieldOf d 25 1 % 16 == 0 && fieldOf d 26 1 / 64 == 0 &&
      fieldOf d 27 1 / 64 == 0 && fieldOf d 28 1 / 32 == 0 && fieldOf d 29 1 / 32 == 0 &&
      fieldOf d 30 1 / 32 == 0 && fieldOf d 49 1 == 0 && decide (x.diag ≤ 2) &&
      (x.op.trsm || x.diag == 0) && (it || !x.cold) &&
      (if x.op = .qr then decide (x.n ≤ x.m) else x.m == x.n) && (x.op.usesB || x.r == 1) &&
      (if it then decide (1 ≤ x.iters) else x.iters == 0) && decide (1 ≤ x.batch) && decide (x.batch ≤ 256) &&
      (x.op.usesB || x.bRow == 0) && (it || (x.cRow == 0 && x.warmRow == 0)) &&
      e.valid && e.owner == job &&
      (match issuer with
        | some k => k / 8 == x.skein / 8
        | none => true) &&
      strideOk x.aStride (x.m * x.n) && (!x.op.usesB || strideOk x.bStride (x.n * x.r)) &&
      strideOk x.xStride x.xWords && rangesFit x.reads && rangesFit x.writes &&
      !rangesMeet x.writes x.readsPlain &&
      groupsApart [itemRanges x.skein x.xRow x.xStride x.xWords x.batch,
        [statusRange x.skein x.statusRow x.batch], x.warm] &&
      decide (1 ≤ x.thresh) && decide (0 ≤ x.shift)
    if ok then none else some 0x0102

/-! ### Pivots (Table 9.5) -/

/-- A pivot's value, whether it was regularised, and whether it stops the item (R274, R275). -/
structure Pivot where
  value : Sx
  reg : Bool
  stop : Bool
  deriving DecidableEq, Repr

/-- CHOL and ABA: flagged below THRESH. -/
def pivotPos (regEn : Bool) (thresh shift : Int) (w : Nat) (d : Sx) : Pivot :=
  if thresh ≤ d.1 then ⟨d, false, false⟩
  else if regEn then
    let v := satBits w (d.1 + shift) d.2
    ⟨if v.1 < thresh then (thresh, v.2) else v, true, false⟩
  else ⟨d, false, true⟩

/-- The other operations: flagged when its magnitude lies below THRESH. -/
def pivotAbs (regEn : Bool) (thresh shift : Int) (w : Nat) (d : Sx) : Pivot :=
  if thresh ≤ d.1.natAbs then ⟨d, false, false⟩
  else if regEn then
    let v := satBits w (if d.1 < 0 then d.1 - shift else d.1 + shift) d.2
    ⟨if thresh ≤ (v.1.natAbs : Int) then v else (if v.1 < 0 then -thresh else thresh, v.2), true, false⟩
  else ⟨d, false, true⟩

/-! ### Items -/

/-- What an item has produced so far: its words by place, and its conditions (R276). -/
structure Item where
  words : List (Nat × Int)
  reg : Bool
  zero : Bool
  ovf : Bool
  cold : Bool
  noConv : Bool
  /-- the x values of ITER, which its warm record keeps -/
  warm : Bool
  deriving DecidableEq, Repr

/-- A new item. -/
def Item.empty : Item := ⟨[], false, false, false, false, false, false⟩
/-- Word at place p. -/
def Item.at (t : Item) (p : Nat) : Int := Sparse.get 0 t.words p
/-- Gives place p a value, and keeps its overflow. -/
def Item.put (t : Item) (p : Nat) (v : Sx) : Item :=
  { t with words := Sparse.put 0 t.words p v.1, ovf := t.ovf || v.2 }
/-- Notes a pivot. -/
def Item.note (t : Item) (p : Pivot) : Item :=
  { t with reg := t.reg || p.reg, zero := t.zero || p.stop, ovf := t.ovf || p.value.2 }

/-- Subtracts the products of a row and another over k in 0 … j − 1 (R272). -/
def dotDown (acc : Sx) (ks : List Nat) (p q : Nat → Int) (fp fq f : Nat) : Sx :=
  ks.foldl (fun a k => macStep a (-1) (p k) (q k) fp fq f) acc

/-- One column of CHOL (R272). -/
def cholCol (x : Solve) (e : RangeEntry) (a : Nat → Nat → Int) (t : Item) (j : Nat) : Item :=
  if t.zero then t else
  let n := x.n
  let l (u : Item) (i k : Nat) := u.at (i * n + k)
  let p := pivotPos x.regEn x.thresh x.shift 48
    (dotDown (a j j, false) (List.range j) (l t j) (l t j) e.fx e.fx e.fa)
  if p.stop then t.note p else
  let d := sqrtWrite p.value e.fa e.fx
  let r := recipOf d.1 e.fx
  ((List.range n).filter (fun i => decide (j < i))).foldl (fun u i =>
    u.put (i * n + j) (recipWrite (dotDown (a i j, false) (List.range j) (l u i) (l u j) e.fx e.fx e.fa) r e.fa e.fx))
    ((t.note p).put (j * n + j) d)

/-- One column of LDLT (R272). -/
def ldltCol (x : Solve) (e : RangeEntry) (a : Nat → Nat → Int) (t : Item) (j : Nat) : Item :=
  if t.zero then t else
  let n := x.n
  let l (u : Item) (i k : Nat) := u.at (i * n + k)
  let w : List Sx := (List.range j).map (fun k =>
    plainWrite (macStep (0, false) 1 (l t j k) (l t k k) e.fx e.fx e.fx) e.fx e.fx)
  let wk (k : Nat) : Int := (w.getD k (0, false)).1
  let p := pivotAbs x.regEn x.thresh x.shift 48
    (dotDown (a j j, w.any (fun v => v.2)) (List.range j) (l t j) wk e.fx e.fx e.fa)
  if p.stop then t.note p else
  let d := plainWrite p.value e.fa e.fx
  let r := recipOf d.1 e.fx
  ((List.range n).filter (fun i => decide (j < i))).foldl (fun u i =>
    u.put (i * n + j) (recipWrite (dotDown (a i j, false) (List.range j) (l u i) wk e.fx e.fx e.fa) r e.fa e.fx))
    ((t.note p).put (j * n + j) d)

/-- The diagonal's reciprocals, with the pivots that they come from (R274). -/
def diagRecips (x : Solve) (f : Nat) (diag : Nat → Int) (t : Item) : List Recip × Item :=
  (List.range x.n).foldl (fun a i =>
    if a.2.zero then a else
    let p := pivotAbs x.regEn x.thresh x.shift 32 (diag i, false)
    (a.1 ++ [recipOf p.value.1 f], a.2.note p)) ([], t)

/-- Substitution along `order`: word i of the solution from b and the words already solved, which are those
before i in the order.  `rs` are the reciprocals of the diagonal, none for a unit diagonal. -/
def substitute (order : List Nat) (t : Nat → Nat → Int) (b : Nat → Int) (rs : Option (List Recip))
    (ft fb fx : Nat) (before : Nat → List Nat) : List (Nat × Int) × Bool :=
  order.foldl (fun acc i =>
    let s := dotDown (b i, false) (before i) (t i) (fun k => Sparse.get 0 acc.1 k) ft fx fb
    let v := match rs with
      | some l => recipWrite s (l.getD i ⟨false, 2 ^ 31, 31⟩) fb fx
      | none => plainWrite s fb fx
    (Sparse.put 0 acc.1 i v.1, acc.2 || v.2)) ([], false)

/-- Places below i. -/
def below (i : Nat) : List Nat := List.range i
/-- Places above i, up to n − 1. -/
def beyond (n i : Nat) : List Nat := (List.range n).filter (fun k => decide (i < k))

/-- TRSM with a stored or a unit diagonal (R272). -/
def trsmItem (x : Solve) (e : RangeEntry) (a b : Nat → Nat → Int) : Item :=
  let n := x.n
  let d := if x.diag = 0 then diagRecips x e.fa (fun i => a i i) Item.empty else ([], Item.empty)
  if d.2.zero then d.2 else
  let rs := if x.diag = 0 then some d.1 else none
  (List.range x.r).foldl (fun t c =>
    let v := match x.op with
      | .trsmL => substitute (List.range n) a (fun i => b i c) rs e.fa e.fb e.fx below
      | .trsmU => substitute (List.range n).reverse a (fun i => b i c) rs e.fa e.fb e.fx (beyond n)
      | _ => substitute (List.range n).reverse (fun i k => a k i) (fun i => b i c) rs e.fa e.fb e.fx (beyond n)
    (List.range n).foldl (fun u i => u.put (i * x.r + c) (Sparse.get 0 v.1 i, v.2)) t) d.2

/-- One refinement of one column of ITER (R278): the new column of x, whether it saturated, and the largest
step. -/
def iterCol (x : Solve) (e : RangeEntry) (a c : Nat → Nat → Int) (b xs : Nat → Int) (rs : List Recip) :
    List (Nat × Int) × Bool × Nat :=
  let n := x.n
  let rv : List Sx := (List.range n).map (fun i =>
    plainWrite (dotDown (b i, false) (List.range n) (a i) xs e.fa e.fx e.fb) e.fb e.fb)
  let y := substitute (List.range n) c (fun i => (rv.getD i (0, false)).1) (some rs) e.fc e.fb e.fx below
  let d := substitute (List.range n).reverse (fun i k => c k i) (fun i => Sparse.get 0 y.1 i) (some rs)
    e.fc e.fx e.fx (beyond n)
  (List.range n).foldl (fun acc i =>
    let di := Sparse.get 0 d.1 i
    let v := satBits 32 (xs i + di) acc.2.1
    (Sparse.put 0 acc.1 i v.1, v.2, max acc.2.2 di.natAbs))
    ([], rv.any (fun v => v.2) || y.2 || d.2, 0)

/-- The refinements of ITER, at most `fuel` of them. -/
def iterLoop (x : Solve) (e : RangeEntry) (a b c : Nat → Nat → Int) (rs : List Recip) : Nat → Item → Item
  | 0, t => t
  | fuel + 1, t =>
    let cols := (List.range x.r).map (fun j =>
      iterCol x e a c (fun i => b i j) (fun i => t.at (i * x.r + j)) rs)
    let u := (List.zip (List.range x.r) cols).foldl (fun u jc =>
      (List.range x.n).foldl (fun u i => u.put (i * x.r + jc.1) (Sparse.get 0 jc.2.1 i, jc.2.2.1)) u) t
    if cols.all (fun v => decide (v.2.2 ≤ e.tol)) then u
    else if fuel = 0 then { u with noConv := true }
    else iterLoop x e a b c rs fuel u

/-- ITER of one item from its starting x (R278). -/
def iterItem (x : Solve) (e : RangeEntry) (a b c : Nat → Nat → Int) (start : Item) : Item :=
  let d := diagRecips x e.fc (fun i => c i i) start
  if d.2.zero then d.2 else { iterLoop x e a b c d.1 x.iters d.2 with warm := true }

/-- A TRSM whose T has a unit diagonal and the D of an LDLT factor on it (R272): TRSM_L solves (L D) X = B, so that D
divides what the substitution gives; TRSM_U and TRSM_LT have D first, which divides B before the substitution. -/
def trsmDiag2 (x : Solve) (e : RangeEntry) (a b : Nat → Nat → Int) : Item :=
  let n := x.n
  let d := diagRecips x e.fa (fun i => a i i) Item.empty
  if d.2.zero then d.2 else
  let scaled (v : Int) (f i : Nat) : Sx := recipWrite (v, false) (d.1.getD i ⟨false, 2 ^ 31, 31⟩) f e.fx
  (List.range x.r).foldl (fun t c =>
    if x.op = .trsmL then
      let y := substitute (List.range n) a (fun i => b i c) none e.fa e.fb e.fx below
      (List.range n).foldl (fun u i =>
        let v := scaled (Sparse.get 0 y.1 i) e.fx i
        u.put (i * x.r + c) (v.1, v.2 || y.2)) t
    else
      let z : List Sx := (List.range n).map (fun i => scaled (b i c) e.fb i)
      let m : Nat → Nat → Int := if x.op = .trsmU then a else fun i k => a k i
      let y := substitute (List.range n).reverse m (fun i => (z.getD i (0, false)).1) none e.fa e.fx e.fx (beyond n)
      (List.range n).foldl (fun u i =>
        u.put (i * x.r + c) (Sparse.get 0 y.1 i, y.2 || z.any (fun v => v.2))) t) d.2

/-- QR in progress: the item, and the matrix that is left, by row and column, in FRAC_A. -/
structure QrState where
  item : Item
  left : List (Nat × Int)
  deriving DecidableEq, Repr

/-- The sum of products p · q over rows in an accumulator of frame `f`. -/
def dotUp (acc : Sx) (ks : List Nat) (p q : Nat → Int) (fp fq f : Nat) : Sx :=
  ks.foldl (fun a k => macStep a 1 (p k) (q k) fp fq f) acc

/-- One column of QR (R272, R274).  With x the column from its diagonal down, s its length and σ the sign of x₀, the
diagonal of R is −σ s, u = x₀ + σ s, the reflector is v = x ÷ u with leading 1, and τ = σ u ÷ s; both quotients come from
the one reciprocal of σ u s. -/
def qrCol (x : Solve) (e : RangeEntry) (w : QrState) (j : Nat) : QrState :=
  if w.item.zero then w else
  let n := x.n
  let a (i k : Nat) : Int := Sparse.get 0 w.left (i * n + k)
  let rows := (List.range x.m).filter (fun i => decide (j ≤ i))
  let under := rows.filter (fun i => decide (j < i))
  let cols := (List.range n).filter (fun k => decide (j < k))
  let s := sqrtWrite (dotUp (0, false) rows (fun i => a i j) (fun i => a i j) e.fa e.fa e.fa) e.fa e.fx
  let neg := decide (a j j < 0)
  let p := pivotAbs x.regEn x.thresh x.shift 32 (if neg then s.1 else -s.1, s.2)
  if p.stop then { w with item := w.item.note p } else
  let t := (w.item.note p).put (j * n + j) p.value
  if p.reg then
    let u := cols.foldl (fun t k => t.put (j * n + k) (plainWrite (a j k, false) e.fa e.fx)) t
    let z := under.foldl (fun (t : Item) i => if i < n then t.put (i * n + j) (0, false) else t) u
    ⟨z.put (n * n + j) (0, false), w.left⟩
  else
    let u := plainWrite (macStep (a j j, s.2) (if neg then -1 else 1) s.1 1 e.fx 0 e.fa) e.fa e.fa
    let d := plainWrite (macStep (0, u.2) (if neg then -1 else 1) u.1 s.1 e.fa e.fx e.fa) e.fa e.fa
    let r := recipOf d.1 e.fa
    let v (i : Nat) : Sx :=
      if i = j then (2 ^ e.fx, false)
      else recipWrite (macStep (0, d.2) (if neg then -1 else 1) (a i j) s.1 e.fa e.fx e.fa) r e.fa e.fx
    let tau := recipWrite (macStep (0, d.2) 1 u.1 u.1 e.fa e.fa e.fa) r e.fa e.fx
    let t1 := under.foldl (fun (t : Item) i =>
      if i < n then t.put (i * n + j) (v i) else { t with ovf := t.ovf || (v i).2 }) t
    cols.foldl (fun w k =>
      let g := plainWrite (dotUp (a j k, false) under (fun i => (v i).1) (fun i => a i k) e.fx e.fa e.fa) e.fa e.fa
      let h := plainWrite (macStep (0, g.2) 1 tau.1 g.1 e.fx e.fa e.fa) e.fa e.fa
      let top := plainWrite (satBits 48 (a j k - h.1) h.2) e.fa e.fx
      under.foldl (fun (w : QrState) i =>
        let y := plainWrite (macStep (a i k, false) (-1) (v i).1 h.1 e.fx e.fa e.fa) e.fa e.fa
        ⟨{ w.item with ovf := w.item.ovf || y.2 }, Sparse.put 0 w.left (i * n + k) y.1⟩)
        { w with item := w.item.put (j * n + k) top }) ⟨t1.put (n * n + j) tau, w.left⟩

/-- QR of one item (R271, R272). -/
def qrItem (x : Solve) (e : RangeEntry) (a : Nat → Nat → Int) : Item :=
  let start := (List.range (x.m * x.n)).foldl (fun l p => Sparse.put 0 l p (a (p / x.n) (p % x.n))) []
  ((List.range x.n).foldl (qrCol x e) ⟨Item.empty, start⟩).item

/-- Word (i, j) of an item of an operand with `cols` columns. -/
def plyWordAt (s : State) (k row cols i j : Nat) : Int := signed 32 (s.bobNat k (row * 512 + (i * cols + j) * 4) 4)

/-- A warm record is complete and its signature equals the command's (R279, R280). -/
def Solve.warmOk (x : Solve) (s : State) (e : RangeEntry) (row : Nat) : Bool :=
  let b (i n : Nat) := s.bobNat x.skein (row * 512 + i) n
  b 0 1 == 1 && b 1 1 == x.n - 1 && b 2 1 == x.r - 1 && b 3 1 == 0 && b 4 4 == x.pattern && b 8 2 == x.topology &&
    b 10 1 == e.fx

/-- Item b of a SOLVE. -/
def Solve.item (x : Solve) (s : State) (e : RangeEntry) (b : Nat) : Item :=
  let k := x.skein
  let arow := x.aRow + b * x.aStride
  let brow := x.bRow + b * x.bStride
  let a := plyWordAt s k arow x.n
  let bm := plyWordAt s k brow x.r
  match x.op with
  | .chol => (List.range x.n).foldl (cholCol x e a) Item.empty
  | .ldlt => (List.range x.n).foldl (ldltCol x e a) Item.empty
  | .qr => qrItem x e a
  | .iter =>
    let wrow := x.warmRow + b * x.warmRows
    let ok := x.warmOk s e wrow
    let start : Item :=
      if ok && !x.cold then
        (List.range (x.n * x.r)).foldl (fun t i =>
          t.put i (signed 32 (s.bobNat k (wrow * 512 + 16 + 4 * i) 4), false)) Item.empty
      else { Item.empty with cold := !x.cold }
    iterItem x e a bm (plyWordAt s k (x.cRow + b * x.aStride) x.n) start
  | _ => if x.diag = 2 then trsmDiag2 x e a bm else trsmItem x e a bm

/-- Status byte of an item (R276). -/
def Item.status (t : Item) : Nat :=
  (if t.reg then 1 else 0) + (if t.zero then 2 else 0) + (if t.ovf then 4 else 0) + (if t.cold then 8 else 0) +
    (if t.noConv then 16 else 0)

/-- An output of the ply engine: `n` bytes at a byte offset. -/
def plyOut (off n v : Nat) : Output := (off, 0, 8 * n, ⟨v, false, false, false, false, none, none⟩)

/-- The output rows of an item: its words, or zeros in every row when it stopped (R271, R275). -/
def itemOut (row words : Nat) (t : Item) : List Output :=
  if t.zero then (List.range (wordRows words * 128)).map (fun p => plyOut (row * 512 + 4 * p) 4 0)
  else (List.range words).map (fun p => plyOut (row * 512 + 4 * p) 4 (unsigned 32 (t.at p)))

/-- The three writes of an item's warm record: VALID 0, the value rows, and the header row (R279, R281). -/
def Solve.warmOut (x : Solve) (e : RangeEntry) (b : Nat) (t : Item) : List (List Output) :=
  if t.warm then
    let off := (x.warmRow + b * x.warmRows) * 512
    let head : List Output := [plyOut off 1 1, plyOut (off + 1) 1 (x.n - 1), plyOut (off + 2) 1 (x.r - 1),
      plyOut (off + 3) 1 0, plyOut (off + 4) 4 x.pattern, plyOut (off + 8) 2 x.topology, plyOut (off + 10) 1 e.fx,
      plyOut (off + 11) 1 0, plyOut (off + 12) 4 0]
    let values := (List.range (x.n * x.r)).map (fun i => plyOut (off + 16 + 4 * i) 4 (unsigned 32 (t.at i)))
    [[plyOut off 1 0], values.filter (fun o => decide (outRow o ≠ off / 512)),
     head ++ values.filter (fun o => decide (outRow o = off / 512))]
  else []

/-- The status rows (R276). -/
def statusOut (row : Nat) (items : List Item) : List Output :=
  (List.zip (List.range items.length) items).map (fun bt => plyOut (row * 512 + bt.1) 1 bt.2.status)

/-- What a SOLVE writes, in order: each item's output and warm record as the item ends, then the status rows. -/
def Solve.outputs (x : Solve) (e : RangeEntry) (items : List Item) : List (List Output) :=
  ((List.zip (List.range items.length) items).map (fun bt =>
    itemOut (x.xRow + bt.1 * x.xStride) x.xWords bt.2 :: x.warmOut e bt.1 bt.2)).flatten ++ [statusOut x.statusRow items]

/-- How many items meet a condition. -/
def countItems (p : Item → Bool) (ts : List Item) : Nat := (ts.filter p).length

/-- The PLY flags of a batch, once for each item (R276). -/
def State.plyFlags (s : State) (h : Nat) (ts : List Item) : State :=
  ((((s.raiseN Flg.PLY_EVT_PIVOT_REG h (countItems Item.reg ts)).raiseN Flg.PLY_EVT_PIVOT_ZERO h
    (countItems Item.zero ts)).raiseN Flg.PLY_EVT_FIXED_OVERFLOW h (countItems Item.ovf ts)).raiseN
    Flg.PLY_EVT_WARM_MISMATCH h (countItems Item.cold ts)).raiseN Flg.PLY_EVT_NOT_CONVERGED h
    (countItems Item.noConv ts)

/-- The completion status of a batch (R277). -/
def plyStatus (ts : List Item) : Nat :=
  if ts.any Item.zero then 0x0302 else if ts.any Item.ovf then 0x0303 else if ts.any Item.cold then 0x0304
  else if ts.any Item.reg then 0x0301 else 0

/-- The short result of a batch (R277). -/
def plyResult (ts : List Item) : Nat :=
  countItems Item.reg ts + 2 ^ 16 * countItems Item.zero ts + 2 ^ 32 * countItems Item.ovf ts +
    2 ^ 48 * countItems Item.cold ts

/-- The words that a command leaves in the tiles of its bank (R259): those of its last item. -/
def State.leaveTiles (s : State) (c : Cmd) (ts : List Item) : State :=
  match c.engine, c.work, ts.getLast? with
  | .ply h, .bank b, some t =>
    { s with tiles := Sparse.insert s.tiles (2 * h + b) (t.words.map (fun p => (p.1, BitVec.ofInt 32 p.2))) }
  | _, _, _ => s

/-- The items whose status byte is among the outputs formed; the last tile of a command holds those of its items in order. -/
def statusFormed (outs : List (List Output)) (ts : List Item) (formed : List Output) : List Item :=
  ((List.zip (outs.getLast?.getD []) ts).filter (fun p => formed.any (fun o => o.1 == p.1.1))).map Prod.snd

/-- Ends a ply command whose outputs have been computed; each status byte formed sets its flags (R276). -/
def State.endPly (s : State) (c : Cmd) (k : Nat) (outs : List (List Output)) (ts : List Item) : State :=
  let r := (s.leaveTiles c ts).commitOutputs c k c.reads outs
  let t := (r.1.plyFlags (k / 8) (statusFormed outs ts r.2.2)).noteWritten c
  if r.2.1 = 0 then t.finish c.uid (plyStatus ts) (plyResult ts)
  else ({ t with freeCount := t.freeCount + 1 }).finish c.uid r.2.1 0

/-- A ply command that is stopped before its end leaves the tiles that it had written, and the flags of the status bytes that
it had formed (R276, R290). -/
def State.stopPly (s : State) (c : Cmd) (k : Nat) (outs : List (List Output)) (ts : List Item) : State :=
  let r := s.cutTiles c k outs
  r.1.plyFlags (k / 8) (statusFormed outs ts r.2)

/-- The skein that forwarded a command; none for the host's. -/
def Cmd.issuer (c : Cmd) : Option Nat :=
  match c.origin with
  | .core k _ => some k
  | _ => none

/-- The items of a SOLVE. -/
def Solve.items (x : Solve) (s : State) (e : RangeEntry) : List Item := (List.range x.batch).map (x.item s e)

/-- SOLVE (R270 to R281): the running command works its batch and ends. -/
def execSolve (uid beats : Nat) (s : State) : Host.Outcome State Fault Refusal :=
  .next (match s.runningCmd uid 0x07 with
    | none => s
    | some c =>
      let t := s.chargeCmd c beats
      match solveCheck t c.job c.issuer c.desc, Solve.ofBytes c.desc with
      | none, some x =>
        if t.inRegions c.job (c.reads ++ c.writes) then
          let e := t.rangeEntry (x.skein / 8) x.rangeId
          t.endPly c x.skein (x.outputs e (x.items t e)) (x.items t e)
        else t.finish uid 0x0204 0
      | _, _ => t.finish uid 0x0102 0)

/-! ## DYN -/

/-- The algorithms of DYN. -/
inductive DynAlg where
  | rnea | crba | aba
  deriving DecidableEq, Repr

/-- The fields of a DYN payload (Table 9.7). -/
structure Dyn where
  alg : DynAlg
  regEn : Bool
  skein : Nat
  rangeId : Nat
  j : Nat
  batch : Nat
  modelRow : Nat
  stateRow : Nat
  outRow : Nat
  statusRow : Nat
  stateStride : Nat
  outStride : Nat
  topology : Nat
  thresh : Int
  shift : Int
  deriving DecidableEq, Repr

/-- ALG of Table 9.7. -/
def dynAlg : Nat → Option DynAlg
  | 0 => some .rnea | 1 => some .crba | 2 => some .aba
  | _ => none

/-- Reads a DYN payload; none for the reserved ALG. -/
def Dyn.ofBytes (d : List Byte) : Option Dyn :=
  match dynAlg (fieldOf d 24 1 % 4) with
  | none => none
  | some a =>
    some ⟨a, decide (fieldOf d 25 1 / 32 % 2 = 1), fieldOf d 26 1 % 64, fieldOf d 27 1 % 64, fieldOf d 28 1 % 64 + 1,
      fieldOf d 32 2, fieldOf d 34 2, fieldOf d 36 2, fieldOf d 38 2, fieldOf d 40 2, fieldOf d 42 1, fieldOf d 43 1,
      fieldOf d 44 2, signed 32 (fieldOf d 48 4), signed 32 (fieldOf d 52 4)⟩

/-- Words of a state (Table 9.7). -/
def Dyn.stateWords (x : Dyn) : Nat := if x.alg = .crba then x.j else 3 * x.j
/-- Words of an output. -/
def Dyn.outWords (x : Dyn) : Nat := if x.alg = .crba then x.j * x.j else x.j
/-- The rows of the model (R283). -/
def Dyn.model (x : Dyn) : RowRange := ⟨x.skein, x.modelRow, x.modelRow + ceilDiv (64 + 128 * x.j) 512 - 1⟩
/-- The read footprint. -/
def Dyn.reads (x : Dyn) : List RowRange :=
  x.model :: itemRanges x.skein x.stateRow x.stateStride x.stateWords x.batch
/-- The write footprint. -/
def Dyn.writes (x : Dyn) : List RowRange :=
  itemRanges x.skein x.outRow x.outStride x.outWords x.batch ++ [statusRange x.skein x.statusRow x.batch]

/-- The refusal rules of R273 for a DYN payload (R285). -/
def dynCheck (s : State) (job : Nat) (issuer : Option Nat) (d : List Byte) : Option Nat :=
  match Dyn.ofBytes d with
  | none => some 0x0102
  | some x =>
    let e := s.rangeEntry (x.skein / 8) x.rangeId
    let ok := fieldOf d 24 1 / 4 == 0 && fieldOf d 25 1 % 32 == 0 && fieldOf d 25 1 / 64 == 0 &&
      fieldOf d 26 1 / 64 == 0 && fieldOf d 27 1 / 64 == 0 && fieldOf d 28 1 / 64 == 0 && fieldOf d 29 3 == 0 &&
      fieldOf d 46 2 == 0 && fieldOf d 56 8 == 0 && decide (1 ≤ x.batch) && decide (x.batch ≤ 256) &&
      e.valid && e.owner == job &&
      (match issuer with
        | some k => k / 8 == x.skein / 8
        | none => true) &&
      strideOk x.stateStride x.stateWords && strideOk x.outStride x.outWords && rangesFit x.reads && rangesFit x.writes &&
      !rangesMeet x.writes x.reads &&
      groupsApart [itemRanges x.skein x.outRow x.outStride x.outWords x.batch,
        [statusRange x.skein x.statusRow x.batch]] &&
      decide (1 ≤ x.thresh) && decide (0 ≤ x.shift)
    if ok then none else some 0x0102

/-- The model header and its joints pass (R285). -/
def Dyn.modelOk (x : Dyn) (s : State) : Bool :=
  let b (i n : Nat) := s.bobNat x.skein (x.modelRow * 512 + i) n
  b 0 2 == 0x4A59 && b 2 1 == x.j && b 4 2 == x.topology &&
  (List.range x.j).all (fun i =>
    (b (64 + 128 * i) 1 == 0xFF || decide (b (64 + 128 * i) 1 < i)) && decide (b (65 + 128 * i) 1 ≤ 1))

/-! ### The arithmetic of DYN

The values of a pass, each with its format.  The products and writes are those of Table 9.1; an element of a vector or
matrix is formed in one accumulator and written once (R272, R284). -/

/-- A value with its fraction count, and whether anything saturated on the way to it. -/
structure Fx where
  v : Int
  f : Nat
  o : Bool
  deriving DecidableEq, Repr

/-- Zero. -/
def Fx.zero : Fx := ⟨0, 0, false⟩
/-- The negative of a value. -/
def Fx.neg (a : Fx) : Fx := { a with v := -a.v }

/-- acc + p · q in an accumulator of frame `f`. -/
def Fx.mac (f : Nat) (acc : Sx) (t : Fx × Fx) : Sx :=
  macStep (acc.1, acc.2 || t.1.o || t.2.o) 1 t.1.v t.2.v t.1.f t.2.f f

/-- A sum of products in an accumulator of frame `f`, written in format `g`. -/
def Fx.dot (f g : Nat) (ts : List (Fx × Fx)) : Fx :=
  let r := plainWrite (ts.foldl (Fx.mac f) (0, false)) f g
  ⟨r.1, g, r.2⟩

/-- One, as a factor that adds a value to a sum. -/
def Fx.one : Fx := ⟨1, 0, false⟩

/-- A vector of the passes, and a matrix by rows. -/
abbrev FxVec := List Fx
abbrev FxMat := List (List Fx)

/-- Element i of a vector. -/
def FxVec.get (a : FxVec) (i : Nat) : Fx := a.getD i Fx.zero
/-- Element (i, j) of a matrix. -/
def FxMat.get (m : FxMat) (i j : Nat) : Fx := (m.getD i []).getD j Fx.zero
/-- The transpose of a matrix of six columns. -/
def FxMat.tr (m : FxMat) : FxMat := (List.range 6).map (fun j => m.map (fun r => r.getD j Fx.zero))
/-- The products whose sum is row i of m · a. -/
def FxMat.row (m : FxMat) (a : FxVec) (i : Nat) : List (Fx × Fx) := List.zip (m.getD i []) a
/-- m · a plus further terms, in frame and format `g`. -/
def FxMat.mul (g : Nat) (m : FxMat) (a : FxVec) (more : Nat → List (Fx × Fx)) : FxVec :=
  (List.range 6).map (fun i => Fx.dot g g (m.row a i ++ more i))
/-- m · n plus a matrix, in frame and format `g`. -/
def FxMat.mulMat (g : Nat) (m n plus : FxMat) : FxMat :=
  (List.range 6).map (fun i => (List.range 6).map (fun j =>
    Fx.dot g g (m.row (n.tr.getD j []) i ++ [(plus.get i j, Fx.one)])))

/-- The terms of component i of the cross product a × b. -/
def crossAt (a b : FxVec) (i : Nat) : List (Fx × Fx) :=
  let p := (i + 1) % 3
  let q := (i + 2) % 3
  [(a.get p, b.get q), ((a.get q).neg, b.get p)]

/-- The terms of component i of v × m for motion vectors: ω × angular, and ω × linear + v × angular. -/
def motionCross (v m : FxVec) (i : Nat) : List (Fx × Fx) :=
  if i < 3 then crossAt (v.take 3) (m.take 3) i
  else crossAt (v.take 3) (m.drop 3) (i - 3) ++ crossAt (v.drop 3) (m.take 3) (i - 3)

/-- The terms of component i of v ×* f for force vectors: ω × couple + v × force, and ω × force. -/
def forceCross (v f : FxVec) (i : Nat) : List (Fx × Fx) :=
  if i < 3 then crossAt (v.take 3) (f.take 3) i ++ crossAt (v.drop 3) (f.drop 3) i
  else crossAt (v.take 3) (f.drop 3) (i - 3)

/-- A joint of a model (Table 9.8), its fields in their formats. -/
structure Joint where
  parent : Nat
  prismatic : Bool
  axis : FxVec
  trans : FxVec
  rot : FxMat
  mass : Fx
  com : FxVec
  inertia : FxVec
  deriving DecidableEq, Repr

/-- `n` signed words of a bobbin from a byte offset, in a format. -/
def plyVec (s : State) (k off n f : Nat) : FxVec :=
  (List.range n).map (fun i => ⟨signed 32 (s.bobNat k (off + 4 * i) 4), f, false⟩)

/-- Joint i of the model (R283). -/
def Dyn.joint (x : Dyn) (s : State) (e : RangeEntry) (i : Nat) : Joint :=
  let off := x.modelRow * 512 + 64 + 128 * i
  let rot := plyVec s x.skein (off + 28) 9 30
  ⟨s.bobNat x.skein off 1, s.bobNat x.skein (off + 1) 1 == 1, plyVec s x.skein (off + 4) 3 30,
   plyVec s x.skein (off + 16) 3 e.fb, [rot.take 3, (rot.drop 3).take 3, rot.drop 6],
   (plyVec s x.skein (off + 64) 1 e.fc).get 0, plyVec s x.skein (off + 68) 3 e.fb, plyVec s x.skein (off + 80) 6 e.fc⟩

/-- GRAVITY of the model header (R283). -/
def Dyn.gravity (x : Dyn) (s : State) (e : RangeEntry) : FxVec := plyVec s x.skein (x.modelRow * 512 + 8) 3 e.fb

/-- The motion subspace of a joint: its axis, turning or sliding. -/
def Joint.subspace (j : Joint) : FxVec :=
  if j.prismatic then List.replicate 3 Fx.zero ++ j.axis else j.axis ++ List.replicate 3 Fx.zero

/-- The rotation matrix that a revolute joint at angle q adds, in Q2.30: c 1 + (1 − c) a aᵀ − s [a]×. -/
def Joint.turn (j : Joint) (q : Fx) : FxMat :=
  let c : Fx := ⟨(Config.plyCos q.f q.v).toInt, 30, false⟩
  let sn : Fx := ⟨(Config.plySin q.f q.v).toInt, 30, false⟩
  let vers : Fx := ⟨2 ^ 30 - c.v, 30, false⟩
  (List.range 3).map (fun i => (List.range 3).map (fun k =>
    let aa := Fx.dot 30 30 [(j.axis.get i, j.axis.get k)]
    let third := j.axis.get (3 - i - k)
    let skew := if i = k then [] else [(if k = (i + 1) % 3 then third else third.neg, sn)]
    Fx.dot 30 30 ((if i = k then [(c, Fx.one)] else []) ++ [(vers, aa)] ++ skew)))

/-- The transform of motion vectors from the parent's frame to the joint's: rotation E, and −E [r]× below it, with r the
translation, which a prismatic joint at q lengthens along its axis. -/
def Joint.transform (j : Joint) (fb : Nat) (q : Fx) : FxMat :=
  let rows := List.range 3
  let rot := if j.prismatic then j.rot else
    rows.map (fun i => rows.map (fun k =>
      Fx.dot 30 30 (rows.map (fun n => ((j.turn q).get i n, j.rot.get n k)))))
  let slide : FxVec := rows.map (fun i => Fx.dot 30 30 (rows.map (fun n => (j.rot.get n i, j.axis.get n))))
  let r : FxVec := if j.prismatic then rows.map (fun i => Fx.dot fb fb [(j.trans.get i, Fx.one), (slide.get i, q)]) else j.trans
  let low (i k : Nat) : Fx :=
    let p := (k + 1) % 3
    let n := (k + 2) % 3
    Fx.dot fb fb [((rot.get i p).neg, r.get n), (rot.get i n, r.get p)]
  rows.map (fun i => rows.map (rot.get i) ++ List.replicate 3 Fx.zero) ++
    rows.map (fun i => rows.map (low i) ++ rows.map (rot.get i))

/-- Element (i, k) of the skew matrix of a vector. -/
def skewAt (a : FxVec) (i k : Nat) : Fx :=
  if i = k then Fx.zero else if k = (i + 1) % 3 then (a.get (3 - i - k)).neg else a.get (3 - i - k)

/-- The spatial inertia of a joint's body at the joint, in FRAC_C: I + m c ×ᵀ × c, m c ×, and m. -/
def Joint.spatial (j : Joint) (fc : Nat) : FxMat :=
  let rows := List.range 3
  let h := rows.map (fun i => Fx.dot fc fc [(j.mass, j.com.get i)])
  let ic (i k : Nat) : Fx := j.inertia.get (if i = k then i else i + k + 2)
  let top (i k : Nat) : Fx :=
    Fx.dot fc fc ([(ic i k, Fx.one)] ++ rows.map (fun n => ((skewAt h i n).neg, skewAt j.com n k)))
  rows.map (fun i => rows.map (top i) ++ rows.map (skewAt h i)) ++
    rows.map (fun i => rows.map (fun k => (skewAt h i k).neg) ++
      rows.map (fun k => if i = k then j.mass else Fx.zero))

/-- What a pass holds for a joint, by what it is. -/
structure Link where
  x : FxMat
  s : FxVec
  v : FxVec
  c : FxVec
  a : FxVec
  inert : FxMat
  f : FxVec
  u : FxVec
  d : Sx
  r : Recip
  up : Fx
  deriving DecidableEq, Repr

/-- A joint at rest. -/
def Link.empty : Link := ⟨[], [], [], [], [], [], [], [], (0, false), ⟨false, 0, 0⟩, Fx.zero⟩

/-- The links of a model, by joint. -/
abbrev Links := List (Nat × Link)

/-- The link of a joint. -/
def Links.at (l : Links) (i : Nat) : Link := Sparse.get Link.empty l i
/-- Changes the link of a joint. -/
def Links.mod (l : Links) (i : Nat) (f : Link → Link) : Links := Sparse.insert l i (f (l.at i))

/-- What a DYN works on for one item: the joints, the entry, and the state by joint. -/
structure DynCase where
  e : RangeEntry
  n : Nat
  joints : List Joint
  gravity : FxVec
  q : Nat → Fx
  qd : Nat → Fx
  third : Nat → Fx

/-- Joint i. -/
def DynCase.joint (w : DynCase) (i : Nat) : Joint := w.joints.getD i ⟨255, false, [], [], [], Fx.zero, [], []⟩
/-- Whether a joint hangs on the base. -/
def DynCase.base (w : DynCase) (i : Nat) : Bool := (w.joint i).parent == 0xFF

/-- The acceleration of the base, against gravity. -/
def DynCase.baseAcc (w : DynCase) : FxVec := List.replicate 3 Fx.zero ++ w.gravity.map Fx.neg
/-- A vector of the parent, or the base's. -/
def DynCase.parentVec (w : DynCase) (l : Links) (i : Nat) (p : Link → FxVec) (b : FxVec) : FxVec :=
  if w.base i then b else p (l.at (w.joint i).parent)

/-- The forward pass over positions and velocities: transforms, velocities and velocity products (R284). -/
def DynCase.kinematics (w : DynCase) (l : Links) (i : Nat) : Links :=
  let j := w.joint i
  let x := j.transform w.e.fb (w.q i)
  let sub := j.subspace
  let v := x.mul w.e.fa (w.parentVec l i Link.v (List.replicate 6 Fx.zero)) (fun n => [(sub.get n, w.qd i)])
  let vj := sub.map (fun t => Fx.dot w.e.fa w.e.fa [(t, w.qd i)])
  let c := (List.range 6).map (fun n => Fx.dot w.e.fa w.e.fa (motionCross v vj n))
  l.mod i (fun k => { k with x := x, s := sub, v := v, c := c, inert := j.spatial w.e.fc })

/-- The accelerations of RNEA's forward pass and the force on each body. -/
def DynCase.forces (w : DynCase) (l : Links) (i : Nat) : Links :=
  let k := l.at i
  let a := k.x.mul w.e.fa (w.parentVec l i Link.a w.baseAcc) (fun n => [(k.s.get n, w.third i), (k.c.get n, Fx.one)])
  let h := k.inert.mul w.e.fx k.v (fun _ => [])
  let f := k.inert.mul w.e.fx a (forceCross k.v h)
  l.mod i (fun k => { k with a := a, f := f })

/-- The scalar sᵀ f of a joint in FRAC_X. -/
def Link.along (k : Link) (fx : Nat) (f : FxVec) : Fx := Fx.dot fx fx (List.zip k.s f)

/-- A force is carried to the parent: f_p + Xᵀ f. -/
def DynCase.carry (w : DynCase) (l : Links) (i : Nat) (f : FxVec) : Links :=
  if w.base i then l else
  let x := (l.at i).x
  l.mod (w.joint i).parent (fun p => { p with f := x.tr.mul w.e.fx f (fun n => [(p.f.get n, Fx.one)]) })

/-- An inertia is carried to the parent: I_p + Xᵀ I X. -/
def DynCase.carryInertia (w : DynCase) (l : Links) (i : Nat) (m : FxMat) : Links :=
  if w.base i then l else
  let x := (l.at i).x
  l.mod (w.joint i).parent (fun p => { p with inert := x.tr.mulMat w.e.fc (m.mulMat w.e.fc x []) p.inert })

/-- Whether any number of a link has saturated. -/
def Link.ovf (k : Link) : Bool :=
  [k.v, k.c, k.a, k.f, k.u, [k.up]].any (fun a => a.any Fx.o) || (k.x ++ k.inert).any (fun a => a.any Fx.o) || k.d.2

/-- RNEA: torques (R284). -/
def DynCase.rnea (w : DynCase) : Item :=
  let l := (List.range w.n).foldl w.forces ((List.range w.n).foldl w.kinematics [])
  let r := (List.range w.n).reverse.foldl (fun (a : Links × Item) i =>
    let k := a.1.at i
    let t := k.along w.e.fx k.f
    (w.carry a.1 i k.f, a.2.put i (t.v, t.o))) (l, Item.empty)
  { r.2 with ovf := r.2.ovf || r.1.any (fun p => p.2.ovf) }

/-- The column of H below joint j: the force F carried from ancestor to ancestor. -/
def DynCase.hColumn (w : DynCase) (l : Links) (i : Nat) : Nat → Nat → FxVec → Item → Item
  | 0, _, _, t => t
  | fuel + 1, j, f, t =>
    let h := (l.at j).along w.e.fx f
    let u := (t.put (i * w.n + j) (h.v, h.o)).put (j * w.n + i) (h.v, h.o)
    if w.base j then u
    else w.hColumn l i fuel (w.joint j).parent ((l.at j).x.tr.mul w.e.fx f (fun _ => [])) u

/-- CRBA: the joint-space inertia matrix, both triangles (R284). -/
def DynCase.crba (w : DynCase) : Item :=
  let l := (List.range w.n).foldl w.kinematics []
  let r := (List.range w.n).reverse.foldl (fun (a : Links × Item) i =>
    let k := a.1.at i
    (w.carryInertia a.1 i k.inert, w.hColumn a.1 i w.n i (k.inert.mul w.e.fx k.s (fun _ => [])) a.2)) (l, Item.empty)
  { r.2 with ovf := r.2.ovf || r.1.any (fun p => p.2.ovf) }

/-- The backward pass of ABA at joint i: U, D with its pivot rule, u, and what goes to the parent (R274, R284). -/
def DynCase.abaUp (w : DynCase) (y : Dyn) (a : Links × Item) (i : Nat) : Links × Item :=
  if a.2.zero then a else
  let k := a.1.at i
  let u := k.inert.mul w.e.fc k.s (fun _ => [])
  let p := pivotPos y.regEn y.thresh y.shift 48 ((List.zip k.s u).foldl (Fx.mac w.e.fc) (0, false))
  if p.stop then (a.1, a.2.note p) else
  let d := plainWrite p.value w.e.fc w.e.fc
  let r := recipOf d.1 w.e.fc
  let up := Fx.dot w.e.fx w.e.fx ((w.third i, Fx.one) :: (List.zip k.s k.f).map (fun t => (t.1.neg, t.2)))
  let scaled (t : Fx) : Fx :=
    let q := recipWrite (t.v, t.o) r t.f w.e.fc
    ⟨q.1, w.e.fc, q.2⟩
  let wu : FxVec := u.map scaled
  let ia : FxMat := (List.range 6).map (fun m => (List.range 6).map (fun n =>
    Fx.dot w.e.fc w.e.fc [(k.inert.get m n, Fx.one), ((wu.get m).neg, u.get n)]))
  let pa := ia.mul w.e.fx k.c (fun n => [(k.f.get n, Fx.one), (wu.get n, up)])
  let l := a.1.mod i (fun k => { k with u := u, d := d, r := r, up := up })
  (w.carry (w.carryInertia l i ia) i pa, a.2.note p)

/-- The last forward pass of ABA at joint i: its acceleration. -/
def DynCase.abaDown (w : DynCase) (a : Links × Item) (i : Nat) : Links × Item :=
  let k := a.1.at i
  let a1 := k.x.mul w.e.fa (w.parentVec a.1 i Link.a w.baseAcc) (fun n => [(k.c.get n, Fx.one)])
  let acc := (List.zip k.u a1).foldl (fun s t => Fx.mac w.e.fx s (t.1.neg, t.2)) (Fx.mac w.e.fx (0, false) (k.up, Fx.one))
  let q := recipWrite acc k.r w.e.fx w.e.fx
  let qdd : Fx := ⟨q.1, w.e.fx, q.2⟩
  let a2 := (List.range 6).map (fun n => Fx.dot w.e.fa w.e.fa [(a1.get n, Fx.one), (k.s.get n, qdd)])
  (a.1.mod i (fun k => { k with a := a2 }), a.2.put i q)

/-- ABA: accelerations (R284); a flagged D without REG_EN stops the item. -/
def DynCase.aba (w : DynCase) (y : Dyn) : Item :=
  let l := (List.range w.n).foldl w.kinematics []
  let m := (List.range w.n).foldl (fun (l : Links) i =>
    let k := l.at i
    let h := k.inert.mul w.e.fx k.v (fun _ => [])
    l.mod i (fun k => { k with f := (List.range 6).map (fun n => Fx.dot w.e.fx w.e.fx (forceCross k.v h n)) })) l
  let b := (List.range w.n).reverse.foldl (w.abaUp y) (m, Item.empty)
  if b.2.zero then { b.2 with ovf := b.2.ovf || b.1.any (fun p => p.2.ovf) } else
  let r := (List.range w.n).foldl w.abaDown b
  { r.2 with ovf := r.2.ovf || r.1.any (fun p => p.2.ovf) }

/-- Item b of a DYN. -/
def Dyn.item (x : Dyn) (s : State) (e : RangeEntry) (b : Nat) : Item :=
  let row := x.stateRow + b * x.stateStride
  let words (first f i : Nat) : Fx := (plyVec s x.skein (row * 512 + 4 * (first + i)) 1 f).get 0
  let w : DynCase := ⟨e, x.j, (List.range x.j).map (x.joint s e), x.gravity s e, words 0 e.fa, words x.j e.fa,
    words (2 * x.j) (if x.alg = .aba then e.fx else e.fa)⟩
  match x.alg with
  | .rnea => w.rnea
  | .crba => { w with qd := fun _ => ⟨0, e.fa, false⟩ }.crba
  | .aba => w.aba x

/-- The items of a DYN. -/
def Dyn.items (x : Dyn) (s : State) (e : RangeEntry) : List Item := (List.range x.batch).map (x.item s e)

/-- What a DYN writes, in order: each item's output as the item ends, then the status rows. -/
def Dyn.outputs (x : Dyn) (items : List Item) : List (List Output) :=
  (List.zip (List.range items.length) items).map (fun bt => itemOut (x.outRow + bt.1 * x.outStride) x.outWords bt.2) ++
    [statusOut x.statusRow items]

/-- DYN (R282 to R285): the running command works its batch and ends. -/
def execDyn (uid beats : Nat) (s : State) : Host.Outcome State Fault Refusal :=
  .next (match s.runningCmd uid 0x08 with
    | none => s
    | some c =>
      let t := s.chargeCmd c beats
      match dynCheck t c.job c.issuer c.desc, Dyn.ofBytes c.desc with
      | none, some x =>
        if t.inRegions c.job (c.reads ++ c.writes) then
          if x.modelOk t then
            let e := t.rangeEntry (x.skein / 8) x.rangeId
            t.endPly c x.skein (x.outputs (x.items t e)) (x.items t e)
          else t.finish uid 0x0102 0
        else t.finish uid 0x0204 0
      | _, _ => t.finish uid 0x0102 0)

/-- What a DYN leaves that is stopped before its end. -/
def State.cutDyn (s : State) (c : Cmd) (d : Option Dyn) : State :=
  match d with
  | some x =>
    let e := s.rangeEntry (x.skein / 8) x.rangeId
    if (dynCheck s c.job c.issuer c.desc).isSome || !x.modelOk s then s
    else s.stopPly c x.skein (x.outputs (x.items s e)) (x.items s e)
  | none => s

/-! ## Tile banks and yields -/

/-- State of a tile bank: 0 free, 1 running, 2 yielded. -/
def State.bankState (s : State) (h b : Nat) : Nat :=
  if b = 0 then s.get Fld.PLY_STATUS_BANK0 h else s.get Fld.PLY_STATUS_BANK1 h

/-- Gives a bank a state and a job, and BUSY its value. -/
def State.setBank (s : State) (h b st job : Nat) : State :=
  let t := if b = 0 then (s.set Fld.PLY_STATUS_BANK0 h st).set Fld.PLY_STATUS_BANK0_JOB h job
    else (s.set Fld.PLY_STATUS_BANK1 h st).set Fld.PLY_STATUS_BANK1_JOB h job
  t.setBit Fld.PLY_STATUS_BUSY h (t.bankState h 0 == 1 || t.bankState h 1 == 1)

/-- The free bank that a starting command takes. -/
def State.freeBank (s : State) (h : Nat) : Option Nat := (List.range 2).find? (fun b => s.bankState h b == 0)

/-- Frees the bank of a command that has ended or been aborted (R290). -/
def State.freeBankOf (s : State) (c : Cmd) : State :=
  match c.engine, c.work with
  | .ply h, .bank b => s.setBank h b 0 0
  | _, _ => s

/-- What a SOLVE or DYN leaves that is stopped before its end: whole rows of the items that it has ended (R290), and a
warm record that reads invalid where it was being written (R281). -/
def State.cutPly (s : State) (c : Cmd) : State :=
  if !s.inRegions c.job (c.reads ++ c.writes) then s else
  match Solve.ofBytes c.desc, Dyn.ofBytes c.desc with
  | some x, d =>
    let e := s.rangeEntry (x.skein / 8) x.rangeId
    if c.opcode = 0x07 then
      if (solveCheck s c.job c.issuer c.desc).isSome then s
      else s.stopPly c x.skein (x.outputs e (x.items s e)) (x.items s e)
    else s.cutDyn c d
  | none, d => if c.opcode = 0x07 then s else s.cutDyn c d

/-- PLY_YIELD (R288): the running command that was asked to yield yields, keeping its bank. -/
def execPlyYield (hank : Nat) (s : State) : Host.Outcome State Fault Refusal :=
  .next (match s.cmds.find? (fun c => decide (c.engine = .ply hank) && decide (c.phase = .running) && c.yieldReq) with
    | none => s
    | some c =>
      match c.work with
      | .bank b =>
        ((s.modCmd c.uid (fun c => { c with phase := .yielded, yieldReq := false })).setBank hank b 2 c.job).count
          Fld.PLY_CNT_YIELD_COUNT hank 1
      | _ => s)

end Sys2Proof.Machine
end

