-- ==== Sys2Proof/Machine/Abort.lean ====
section
/-! DEFINITION. The package abort (R417, R451): what becomes of every command, core, window, stream and token when
a job fault has arisen. -/

namespace Sys2Proof.Machine

/-- A running local MOVE has moved some of its rows when it stops: how many is free. -/
def State.movePrefix (s : State) (c : Cmd) : State :=
  let x := RowMove.ofBytes c.desc
  let k := c.engine.skein
  let n := (Config.freeWord s.freeCount).toNat % (x.count + 1)
  let t := { s with freeCount := s.freeCount + 1 }
  if c.work ≠ .plain ∨ (moveCheck s c.job c.stream c.desc).isSome ∨ x.sk = 2 ∨ x.dk = 2 ∨ x.dk = 4 ∨
    !s.moveFits c x || !s.inRegions c.job (x.reads k ++ x.writes k) then t
  else (t.moveRows c x ⟨0, 0, 0, []⟩ (x.places.take n)).1

/-- The outputs of a MATMUL, CONV, POOL or VEC, by tile; none where its checks refuse it. -/
def State.tilesOf? (s : State) (c : Cmd) : Option (List (List Output)) :=
  let k := c.engine.skein
  let fixed := s.fixedTwist c.job
  match c.opcode with
  | 0x01 => if (matmulCheck c.desc).isSome then none else
      (Matmul.ofBytes c.desc).map (fun x => x.tiles s k fixed c.even c.routed)
  | 0x02 => if (convCheck c.desc).isSome then none else (Conv.ofBytes c.desc).map (fun x => x.tiles s k fixed c.even)
  | 0x03 => if (poolCheck c.desc).isSome then none else (Pool.ofBytes c.desc).map (fun x => [x.outputs s k c.even])
  | 0x04 => if (vecCheck c.desc).isSome then none else (Vec.ofBytes c.desc).map (fun x => [x.allOutputs s k c.even])
  | _ => none

/-- What a command of the loom or the vector engine leaves that is stopped before its end (R159, R178). -/
def State.cutFormed (s : State) (c : Cmd) : State :=
  match s.tilesOf? c with
  | some tiles =>
    if s.inRegions c.job (c.reads ++ c.writes) then
      let k := c.engine.skein
      let r := s.cutTiles c k tiles
      (r.1.loomFlags k r.2).noteGroup c
    else s
  | none => s

/-- What a command leaves that is stopped before its end, by its opcode. -/
def State.cutWork (s : State) (c : Cmd) : State :=
  match c.opcode with
  | 0x05 => match Attn.ofBytes c.desc with
    | some x => s.cutAttn c x
    | none => s
  | 0x07 | 0x08 => s.cutPly c
  | 0x09 => s.movePrefix c
  | _ => s.cutFormed c

/-- A copy-back that is cut off has copied some of its rows: which is free (R406, R417); one that fails its parity is not
copied (R106). -/
def State.cutCopy (s : State) (c : Cmd) : State :=
  (({ s with freeCount := s.freeCount + 1 }).forEach
    ((rowsOf c.writes).filter (fun row => Config.freeBit s.freeCount row && !c.heldRows.contains row))
    (fun t row => if t.parityBad c.engine.skein row then (t.pathMet c.engine.skein row).parityReport c.engine.skein
      else t.writeRow c.home.skein row (s.readRow c.engine.skein row)))

/-- What a command that an abort stops leaves in memory, and the beats that it has spent (R420). -/
def State.stopCmd (s : State) (c : Cmd) : State :=
  match c.phase with
  | .running | .yielded => (s.chargeCut c).cutWork c
  | .ended => if c.cut then s.cutWork c else if c.copies && !c.copied then s.cutCopy c else s
  | _ => s

/-- Whether a command keeps its own status through an abort: it is over and its status is a job fault (R418). -/
def Cmd.keepsStatus (c : Cmd) : Bool := decide (c.phase = .ended) && faultStatus c.status

/-- A command after an abort. -/
def State.aborted (s : State) (c : Cmd) : Cmd :=
  if c.keepsStatus then { c with cut := false }
  else s.ending { c with work := .plain, outstanding := 0, via := none, cut := false } 0x0901 0

/-- Every command that has not completed is stopped (R417, items 1 and 2). -/
def State.stopAll (s : State) : State :=
  let t := s.forEach s.cmds (fun t c => (t.stopCmd c).freeBankOf c)
  { t with cmds := t.cmds.map t.aborted }

/-- Every carding stream stops at once: what it was filling is discarded and its pool is emptied (R337, R356). -/
def State.stopStreams (s : State) : State :=
  let caps := s.forEach ((List.range 16).filter (fun n => s.isSet Fld.CARD_CAP_CTRL_EN n || (s.cap n).live)) (fun t n =>
    (((t.set Fld.CARD_CAP_CTRL_EN n 0).putCap n CapStream.reset).set Fld.CARD_CAP_STATUS_IN_FRAME n 0).set
      Fld.CARD_CAP_STATUS_POOL n 0)
  caps.forEach ((List.range 4).filter (fun d => s.isSet Fld.CARD_DS_CTRL_EN d || (s.ds d).live)) (fun t d =>
    ((t.set Fld.CARD_DS_CTRL_EN d 0).putDs d { t.ds d with
      live := false, stopping := false, batch := none, samples := [], regs := [] }).set Fld.CARD_DS_STATUS_POOL d 0)

/-- Range entries of every job are released (R267, R417). -/
def State.dropAllRanges (s : State) : State :=
  s.forEach (List.range 512) (fun t i =>
    if (t.rangeEntry (i / 64) (i % 64)).valid then t.storeNat (Mem.range (i / 64) (i % 64) + 5) 1 0 else t)

/-- A core stops (R417): it is IDLE, but one that has trapped shows TRAPPED until the tokens return to their RESET
state. -/
def Core.stopped (time : Nat) (c : Core) : Core :=
  { c with
    state := if c.state = .trapped then .trapped else .idle
    prog := none, waitReg := false, waitGranted := false
    cut := if c.state = .run ∧ c.prog.isSome then some time else none
    cutWait := decide (c.state = .stalled) && !c.waitReg && !c.waitGranted }

/-- A core that has trapped is IDLE at last (R417, item 3). -/
def Core.untrapped (c : Core) : Core := if c.state = .trapped then { c with state := .idle } else c

/-- Overflow rings and inbox levels are emptied, and no request awaits a reply (R409, R451). -/
def State.stopLinks (s : State) : State :=
  let t := s.forEach (List.range 64) (fun t n =>
    (t.set Fld.IWL_INBOX_LEVEL_OVF_USED n 0).set Fld.IWL_INBOX_LEVEL_HELD n 0)
  { t with iwl := { t.iwl with
    reqs := [], batches := [], relays := []
    inboxes := t.iwl.inboxes.map (fun p => (p.1, { p.2 with ovfHead := p.2.ovfTail })) } }

/-- The commands whose waits could register now: those at the head of their jobs' orders. -/
def State.waitsDue (s : State) : List Nat :=
  (s.cmds.filter (fun c => decide (c.phase = .queued) && s.isHead c && !c.registered && !c.tokenOk)).map Cmd.uid

/-- The whole package abort (R417). -/
def State.abortAll (s : State) : State :=
  let t := (((s.stopAll.drainWindows none).dropAllRanges.stopStreams).stopLinks).kvSweep
  { t with
    tokens := t.tokens.map (fun p => (p.1, { p.2 with waiters := [], cut := p.2.waiters }))
    cores := t.cores.map (fun p => (p.1, p.2.stopped s.refTime))
    residents := []
    selv := { t.selv with pairs := t.selv.pairs.map (fun p => (p.1, { p.2 with tiles := [], decided := [], bad := [] })) }
    heddle := { t.heddle with saved := [], tokenReset := true, cutWaits := s.waitsDue } }

/-- Carries out the abort that a job fault of this step has started. -/
def State.settle (s : State) : State :=
  match s.heddle.fault with
  | none => s
  | some _ => { s.abortAll with heddle := { s.abortAll.heddle with fault := none } }

/-- ABORT_TOKEN_RESET (R417): once no signal is in flight, every token returns to its RESET state, and every core is
IDLE. -/
def execAbortTokenReset (s : State) : Host.Outcome State Fault Refusal :=
  .next (if s.heddle.tokenReset && s.signals.isEmpty then
    { s with
      tokens := [], cores := s.cores.map (fun p => (p.1, p.2.untrapped))
      heddle := { s.heddle with tokenReset := false } }
  else s)

/-- ABORT_RECOVERY_END (R417): fetching resumes once the tokens are reset and every aborted command has completed. -/
def execAbortRecoveryEnd (s : State) : Host.Outcome State Fault Refusal :=
  .next (if s.isSet Fld.HEDDLE_STATUS_ABORTING 0 && !s.heddle.tokenReset && s.cmds.isEmpty then
    s.set Fld.HEDDLE_STATUS_ABORTING 0 0
  else s)

end Sys2Proof.Machine
end

