-- ==== Sys2Proof/Machine/Power.lean ====
section
/-! DEFINITION. The PWR block: the core voltage and its ramp (R580 to R583), telemetry, capping and temperature (R585 to
R588). -/

namespace Sys2Proof.Machine

/-- Whether the main domain runs. -/
def State.powered (s : State) : Bool := decide (s.dev ≠ .off ∧ s.dev ≠ .reset ∧ s.dev ≠ .sleep)

/-- Whether links and I/O run: the main domain does, and the device is not in ALARM (Table 1.7). -/
def State.ioOn (s : State) : Bool := s.powered && decide (s.dev ≠ .alarm)

/-- Whether AVSBus traffic runs: only once BOOT has read the voltage (R580). -/
def State.avsOn (s : State) : Bool := s.powered && s.pwr.ready

/-- The voltage that the ramp moves toward: the lower of PWR_VSET and the ceiling (R581). -/
def State.vTarget (s : State) : Nat := min (s.get Fld.PWR_VSET_MV 0) (s.get Fld.PWR_VAPPLIED_CEIL_MV 0)

/-- Brings RAMPING and CAP_ACTIVE of PWR_STATUS up to date. -/
def State.pwrSync (s : State) : State :=
  (s.setBit Fld.PWR_STATUS_RAMPING 0 (s.pwr.commanded != s.vTarget)).setBit Fld.PWR_STATUS_CAP_ACTIVE 0
    (decide (s.get Fld.PWR_VAPPLIED_CEIL_MV 0 < s.get Fld.PWR_VSET_MV 0))

/-- VSET_WRITE (R25, R581). -/
def execVsetWrite (mv : Nat) (s : State) : Host.Outcome State Fault Refusal :=
  .next (s.host fun s =>
    if mv < 600 ∨ 850 < mv ∨ mv % 5 ≠ 0 then s.raise Flg.PWR_EVT_SET_REFUSED 0
    else (s.set Fld.PWR_VSET_MV 0 mv).pwrSync)

/-- One step from a voltage toward a target. -/
def rampTo (v target step : Nat) : Nat := if v < target then min (v + step) target else max (v - step) target

/-- RAMP_STEP (R581): at most one step per STEP_US, none while a Status read is awaited (R583). -/
def execRampStep (s : State) : Host.Outcome State Fault Refusal :=
  .next (if !s.avsOn || s.pwr.waiting || s.pwr.commanded == s.vTarget ||
      decide (s.refTime < s.pwr.stepAt + s.get Fld.PWR_SLEW_STEP_US 0 * Config.us) then s
    else
      let v := rampTo s.pwr.commanded s.vTarget (s.get Fld.PWR_SLEW_STEP_MV 0)
      let t := { s with pwr := { s.pwr with commanded := v, stepAt := s.refTime } }
      ((t.set Fld.PWR_VAPPLIED_MV 0 v).set Fld.PWR_STATUS_AVS_OK 0 1).pwrSync)

/-- AVS_TRANSACTION_FAIL (R583): the retries have failed too. -/
def execAvsTransactionFail (s : State) : Host.Outcome State Fault Refusal :=
  .next (if s.avsOn then
    (({ s with pwr := { s.pwr with waiting := true } }).set Fld.PWR_STATUS_AVS_OK 0 0).raise Flg.PWR_EVT_AVS_ERR 0
  else s)

/-- The grade maximum in 1/16 °C: 125 °C for the AQ, 105 °C for the IX. -/
def State.gradeMax (s : State) : Int := if s.get Fld.HUB_ID_GRADE 0 = 2 then 105 * 16 else 125 * 16

/-- A rail's sample: RAIL_WARN is set when it has been more than 20 mV off for 100 µs, two samples in a row. -/
def State.railSample (s : State) (rail mv want : Nat) : State :=
  let n := if want + 20 < mv ∨ mv + 20 < want then Sparse.get 0 s.pwr.off rail + 1 else 0
  let t := { s with pwr := { s.pwr with off := Sparse.put 0 s.pwr.off rail n } }
  if n = 2 then t.raise Flg.PWR_EVT_RAIL_WARN 0 else t

/-- TELEMETRY_SAMPLE (R585); a Tj at the grade maximum takes the ceiling to 600 mV at once (R587). -/
def execTelemetrySample (coreMv coreCurrent sramMv sramCurrent : Nat) (tj : List Int) (status : Bool) (s : State) :
    Host.Outcome State Fault Refusal :=
  .next (if !s.avsOn || decide (s.refTime < s.pwr.sampleAt + 100 * Config.us) then s else
    let top := tj.foldl max (tj.headD 0)
    let peak := if s.getInt Fld.PWR_TJ_PEAK 0 < top then top else s.getInt Fld.PWR_TJ_PEAK 0
    let t := { s with pwr := { s.pwr with
      rails := [(0, (coreMv, coreCurrent)), (1, (sramMv, sramCurrent))]
      core := s.pwr.core + coreMv * coreCurrent
      sram := s.pwr.sram + sramMv * sramCurrent
      waiting := s.pwr.waiting && !status
      sampleAt := s.refTime } }
    let u := ((t.forEach ((List.range 5).zip tj) (fun t p => t.set Fld.PWR_TJN_TJ p.1 (unsigned 16 p.2))).set
      Fld.PWR_TJ_MAX 0 (unsigned 16 top)).set Fld.PWR_TJ_PEAK 0 (unsigned 16 peak)
    let v := ((u.set Fld.PWR_STATUS_AVS_OK 0 1).railSample 0 coreMv s.pwr.commanded).railSample 1 sramMv 800
    if v.gradeMax ≤ top then
      let w := (v.set Fld.PWR_VAPPLIED_CEIL_MV 0 600).doIf (!v.isSet Fld.PWR_STATUS_TJ_LIMIT 0)
        (fun w => (w.set Fld.PWR_STATUS_TJ_LIMIT 0 1).raise Flg.PWR_EVT_TJ_LIMIT 0)
      ({ w with pwr := { w.pwr with hot := some (w.gradeMax, true) } }).pwrSync
    else v)

/-- Gives the ceiling a value. -/
def State.setCeiling (s : State) (mv : Nat) : State := s.set Fld.PWR_VAPPLIED_CEIL_MV 0 mv

/-- The capping controller at the end of a window whose power is `mw` (R586, R587). -/
def State.capWindow (s : State) (mw : Nat) : State :=
  let step := s.get Fld.PWR_SLEW_STEP_MV 0
  let ceil := s.get Fld.PWR_VAPPLIED_CEIL_MV 0
  let top := s.getInt Fld.PWR_TJ_MAX 0
  let above := decide (s.get Fld.PWR_CAP_WATTS 0 * 1000 < mw)
  let under := decide (mw + s.get Fld.PWR_CAP_HYST_W 0 * 1000 < s.get Fld.PWR_CAP_WATTS 0 * 1000)
  let t := s.doIf above (fun s => s.raise Flg.PWR_EVT_CAP_ACTIVE 0)
  if s.gradeMax - 80 ≤ top then
    let u := t.setCeiling (max 600 (ceil - step))
    if u.pwr.hot.isNone then { u with pwr := { u.pwr with hot := some (u.gradeMax - 80, false) } } else u
  else
    let cool := match s.pwr.hot with
      | some (level, _) => decide (top ≤ level - 80)
      | none => true
    let u := if cool then { t with pwr := { t.pwr with hot := none } }.set Fld.PWR_STATUS_TJ_LIMIT 0 0 else t
    if above then u.setCeiling (max 600 (ceil - step))
    else if under && cool then u.setCeiling (min 850 (ceil + step))
    else u

/-- POWER_WINDOW (R585): power and core energy of the window, and the capping controller. -/
def execPowerWindow (s : State) : Host.Outcome State Fault Refusal :=
  .next (if !s.avsOn || (decide (s.pwr.windowAt ≤ s.now) && decide (s.now < s.pwr.windowAt + 4000000)) then s else
    let mw := (s.pwr.core + s.pwr.sram) / 1000 + s.get Fld.PWR_OTHER_MW 0
    let units := s.pwr.core * 65536 + s.pwr.carry
    let t := ((s.set Fld.PWR_POWER_MW 0 (min mw (2 ^ 32 - 1))).accum Fld.PWR_ENERGY_ENERGY 0 (units / 1000000)).capWindow mw
    ({ t with pwr := { t.pwr with
      core := 0, sram := 0, carry := units % 1000000, windowAt := s.now } }).pwrSync)

end Sys2Proof.Machine
end

