-- ==== Sys2Proof/Machine/Cipher.lean ====
section
/-! DEFINITION. The signatures of Ed25519 (RFC 8032, named by Tables 20.1 and 20.3) and the key unwrap of NIST SP 800-38F
over AES-256 (FIPS 197, Table 20.1). -/

namespace Sys2Proof.Machine

/-- The little-endian number of bytes. -/
def Ed.number (bs : List Byte) : Nat := beNat bs.reverse

/-- The little-endian bytes of a number. -/
def Ed.bytes (n v : Nat) : List Byte := (beBytes n v).reverse

/-! ## Arithmetic modulo 2²⁵⁵ − 19 -/

/-- The prime of the field. -/
def Ed.p : Nat := 2 ^ 255 - 19
/-- The order of the base point. -/
def Ed.order : Nat := 2 ^ 252 + 27742317777372353535851937790883648493

/-- A difference in the field. -/
def Ed.sub (a b : Nat) : Nat := (a + (Ed.p - b % Ed.p)) % Ed.p

/-- A power in the field, of an exponent of at most `n` bits. -/
def Ed.pow : Nat → Nat → Nat → Nat
  | 0, _, _ => 1
  | n + 1, x, e => Ed.pow n (x * x % Ed.p) (e / 2) * (if e % 2 = 1 then x else 1) % Ed.p

/-- The inverse in the field. -/
def Ed.inv (x : Nat) : Nat := Ed.pow 255 x (Ed.p - 2)

/-- The curve's constant d, −121665/121666. -/
def Ed.d : Nat := Ed.sub 0 (121665 * Ed.inv 121666)

/-! ## Points of edwards25519 -/

/-- A point in extended homogeneous coordinates: x = X/Z, y = Y/Z and x·y = T/Z. -/
structure Ed where
  x : Nat
  y : Nat
  z : Nat
  t : Nat
  deriving DecidableEq, Repr

/-- The point of affine coordinates. -/
def Ed.affine (x y : Nat) : Ed := ⟨x, y, 1, x * y % Ed.p⟩

/-- The neutral point. -/
def Ed.zero : Ed := Ed.affine 0 1

/-- The sum of two points. -/
def Ed.add (u v : Ed) : Ed :=
  let a := Ed.sub u.y u.x * Ed.sub v.y v.x % Ed.p
  let b := (u.y + u.x) * (v.y + v.x) % Ed.p
  let c := u.t * 2 * Ed.d * v.t % Ed.p
  let d := u.z * 2 * v.z % Ed.p
  let e := Ed.sub b a
  let f := Ed.sub d c
  let g := (d + c) % Ed.p
  let h := (b + a) % Ed.p
  ⟨e * f % Ed.p, g * h % Ed.p, f * g % Ed.p, e * h % Ed.p⟩

/-- A multiple of a point, of a scalar of at most `n` bits. -/
def Ed.mul : Nat → Nat → Ed → Ed
  | 0, _, _ => Ed.zero
  | n + 1, k, u =>
    let rest := Ed.mul n (k / 2) (u.add u)
    if k % 2 = 1 then rest.add u else rest

/-- Whether two points are equal. -/
def Ed.same (u v : Ed) : Bool := u.x * v.z % Ed.p == v.x * u.z % Ed.p && u.y * v.z % Ed.p == v.y * u.z % Ed.p

/-- The x coordinate of a point with a given y and a given lowest bit of x; none where there is no such point. -/
def Ed.root (y sign : Nat) : Option Nat :=
  let n := Ed.sub (y * y) 1
  let m := (Ed.d * (y * y) + 1) % Ed.p
  let c := n * Ed.pow 2 m 3 % Ed.p * Ed.pow 255 (n * Ed.pow 3 m 7 % Ed.p) ((Ed.p - 5) / 8) % Ed.p
  let square := m * (c * c) % Ed.p
  let x? := if square = n then some c
    else if square = Ed.sub 0 n then some (c * Ed.pow 255 2 ((Ed.p - 1) / 4) % Ed.p) else none
  match x? with
  | none => none
  | some x => if x = 0 ∧ sign = 1 then none else some (if x % 2 = sign then x else Ed.sub 0 x)

/-- The point that 32 bytes encode. -/
def Ed.decode (bs : List Byte) : Option Ed :=
  let v := Ed.number bs
  let y := v % 2 ^ 255
  if bs.length ≠ 32 ∨ Ed.p ≤ y then none else (Ed.root y (v / 2 ^ 255)).map fun x => Ed.affine x y

/-- The 32 bytes of a point. -/
def Ed.encode (u : Ed) : List Byte :=
  let i := Ed.inv u.z
  Ed.bytes 32 (u.y * i % Ed.p + 2 ^ 255 * (u.x * i % Ed.p % 2))

/-- The base point, whose y is 4/5. -/
def Ed.base : Ed :=
  let y := 4 * Ed.inv 5 % Ed.p
  Ed.affine ((Ed.root y 0).getD 0) y

/-! ## Keys and signatures -/

/-- The secret scalar of a seed. -/
def Ed.scalar (seed : List Byte) : Nat := 2 ^ 254 + Ed.number ((sha512 seed).take 32) % 2 ^ 254 / 8 * 8

/-- The public key of a seed, 32 bytes. -/
def edPublic (seed : List Byte) : List Byte := ((Ed.mul 255 (Ed.scalar seed) Ed.base)).encode

/-- The scalar of a hash, modulo the order of the base point. -/
def Ed.hashed (bs : List Byte) : Nat := Ed.number (sha512 bs) % Ed.order

/-- The signature of a message by a seed, 64 bytes. -/
def edSign (seed m : List Byte) : List Byte :=
  let r := Ed.hashed ((sha512 seed).drop 32 ++ m)
  let point := (Ed.mul 253 r Ed.base).encode
  point ++ Ed.bytes 32 ((r + Ed.hashed (point ++ edPublic seed ++ m) * Ed.scalar seed) % Ed.order)

/-- Whether a signature of a message verifies under a public key: the group equation with the cofactor 8. -/
def edVerify (key m sig : List Byte) : Bool :=
  let s := Ed.number (sig.drop 32)
  match Ed.decode key, Ed.decode (sig.take 32) with
  | some a, some r =>
    let k := Ed.hashed (sig.take 32 ++ key ++ m)
    sig.length == 64 && decide (s < Ed.order) &&
      (Ed.mul 4 8 (Ed.mul 253 s Ed.base)).same (Ed.mul 4 8 (r.add (Ed.mul 253 k a)))
  | _, _ => false

/-! ## AES-256, deciphering -/

/-- A product in the field of AES, of a second factor of at most `n` bits. -/
def Aes.mul : Nat → Byte → Byte → Byte
  | 0, _, _ => 0#8
  | n + 1, a, b =>
    (if b.getLsbD 0 then a else 0#8) ^^^ Aes.mul n (a <<< 1 ^^^ (if a.msb then 0x1B#8 else 0#8)) (b >>> 1)

/-- The inverse in the field of AES, of 0 itself: the power 254. -/
def Aes.inv (a : Byte) : Byte :=
  (List.range 6).foldl (fun v _ => Aes.mul 8 (Aes.mul 8 v v) a) a |> fun v => Aes.mul 8 v v

/-- The S-box. -/
def Aes.sbox (a : Byte) : Byte :=
  let b := Aes.inv a
  b ^^^ b.rotateLeft 1 ^^^ b.rotateLeft 2 ^^^ b.rotateLeft 3 ^^^ b.rotateLeft 4 ^^^ 0x63#8

/-- The inverse S-box. -/
def Aes.unsbox (a : Byte) : Byte := Aes.inv (a.rotateLeft 1 ^^^ a.rotateLeft 3 ^^^ a.rotateLeft 6 ^^^ 0x05#8)

/-- The exclusive or of two byte strings. -/
def Aes.xor (a b : List Byte) : List Byte := List.zipWith (· ^^^ ·) a b

/-- The word of the key schedule of AES-256 that follows those before it. -/
def Aes.nextWord (ws : List (List Byte)) : List (List Byte) :=
  let i := ws.length
  let last := ws.getD (i - 1) []
  let f := if i % 8 = 0 then Aes.xor ((last.drop 1 ++ last.take 1).map Aes.sbox) [BitVec.ofNat 8 (2 ^ (i / 8 - 1)), 0#8, 0#8, 0#8]
    else if i % 8 = 4 then last.map Aes.sbox else last
  ws ++ [Aes.xor (ws.getD (i - 8) []) f]

/-- The key schedule: 15 round keys of 16 bytes. -/
def Aes.roundKeys (key : List Byte) : List (List Byte) :=
  let words := (List.range 52).foldl (fun ws _ => Aes.nextWord ws) ((List.range 8).map fun i => (key.drop (4 * i)).take 4)
  (List.range 15).map fun i => ((words.drop (4 * i)).take 4).flatten

/-- The rows of a block are shifted back and its bytes substituted back. -/
def Aes.back (b : List Byte) : List Byte :=
  (List.range 16).map fun i => Aes.unsbox (b.getD (i % 4 + 4 * ((i / 4 + 4 - i % 4) % 4)) 0#8)

/-- The columns of a block are mixed back. -/
def Aes.unmix (b : List Byte) : List Byte :=
  (List.range 16).map fun i =>
    let part (j : Nat) (f : Byte) : Byte := Aes.mul 8 (b.getD (i / 4 * 4 + (i % 4 + j) % 4) 0#8) f
    part 0 0x0E#8 ^^^ part 1 0x0B#8 ^^^ part 2 0x0D#8 ^^^ part 3 0x09#8

/-- The block that a key enciphers to a given one. -/
def Aes.decipher (key block : List Byte) : List Byte :=
  let keys := Aes.roundKeys key
  let k (i : Nat) : List Byte := keys.getD i []
  let inner := (List.range 13).foldl (fun b i => Aes.unmix (Aes.xor (Aes.back b) (k (13 - i)))) (Aes.xor block (k 14))
  Aes.xor (Aes.back inner) (k 0)

/-! ## Key unwrap -/

/-- One step of the unwrapping of `n` semiblocks: the register and the semiblocks after it. -/
def unwrapStep (key : List Byte) (n : Nat) (x : List Byte × List (List Byte)) (t : Nat) : List Byte × List (List Byte) :=
  let i := (t - 1) % n
  let b := Aes.decipher key (Aes.xor x.1 (beBytes 8 t) ++ x.2.getD i [])
  (b.take 8, x.2.set i (b.drop 8))

/-- The key that a wrapping key unwraps from a record, without padding; none where unwrapping fails (R550). -/
def keyUnwrap (key c : List Byte) : Option (List Byte) :=
  let n := c.length / 8 - 1
  if c.length % 8 ≠ 0 ∨ n < 2 then none else
  let x := (List.range (6 * n)).foldl (fun x j => unwrapStep key n x (6 * n - j))
    (c.take 8, (List.range n).map fun i => (c.drop (8 * i + 8)).take 8)
  if x.1 = List.replicate 8 0xA6#8 then some x.2.flatten else none

end Sys2Proof.Machine
end

