-- ==== Sys2Proof/Machine/Journal.lean ====
section
/-! DEFINITION. The persistent journal in xSPI flash (R553, R562 to R567): records and their tags, replay, appends and
compaction. -/

namespace Sys2Proof.Machine

/-- A journal record (Table 20.5). -/
structure JRecord where
  type : Nat
  seq : Nat
  epoch : Nat
  id : Nat
  payload : List Byte
  deriving DecidableEq, Repr

/-- Bytes of a record with a payload of `n` bytes (R562). -/
def jnlSize (n : Nat) : Nat := 96 + 32 * ceilDiv n 32

/-- Bytes of a record. -/
def JRecord.size (r : JRecord) : Nat := jnlSize r.payload.length

/-- A record's bytes before its tag. -/
def JRecord.body (r : JRecord) : List Byte :=
  leBytes 2 0x4A52 ++ leBytes 1 r.type ++ leBytes 1 0 ++ leBytes 4 r.payload.length ++ leBytes 8 r.seq ++
  leBytes 4 r.epoch ++ leBytes 4 r.id ++ leBytes 8 0 ++ sliceOf r.payload 0 (32 * ceilDiv r.payload.length 32)

/-- A record's bytes. -/
def JRecord.bytes (r : JRecord) (key : List Byte) : List Byte := r.body ++ hmac512 key r.body

/-- Bytes of a journal area (R553). -/
def jnlAreaBytes : Nat := 0x400000

/-- Where a journal area lies. -/
def jnlArea (a : Nat) : Nat := Mem.flash (0x1500000 + a * jnlAreaBytes)

/-- The record at an offset of an area, none where its MAGIC is absent or its TAG fails. -/
def State.jnlAt (s : State) (key : List Byte) (area off : Nat) : Option JRecord :=
  let a := jnlArea area + off
  let len := s.loadNat (a + 4) 4
  if jnlAreaBytes < off + 96 ∨ s.loadNat a 2 ≠ 0x4A52 ∨ 65536 < len ∨ jnlAreaBytes < off + jnlSize len then none else
  let body := s.load a (jnlSize len - 64)
  if hmac512 key body = s.load (a + jnlSize len - 64) 64 then
    some ⟨fieldOf body 2 1, fieldOf body 8 8, fieldOf body 16 4, fieldOf body 20 4, (body.drop 32).take len⟩
  else none

/-- Replays an area from an offset: the records in order up to the tail, and the tail (R564). -/
def State.jnlReplay (s : State) (key : List Byte) (area : Nat) : Nat → Nat → Option Nat → List JRecord × Nat
  | 0, off, _ => ([], off)
  | fuel + 1, off, next =>
    match s.jnlAt key area off with
    | none => ([], off)
    | some r =>
      if next = none ∨ next = some r.seq then
        let t := s.jnlReplay key area fuel (off + r.size) (some (r.seq + 1))
        (r :: t.1, t.2)
      else ([], off)

/-- Every record of an area, and its tail. -/
def State.jnlRecords (s : State) (key : List Byte) (area : Nat) : List JRecord × Nat :=
  s.jnlReplay key area 43691 0 none

/-- Whether an area is valid (R564). -/
def jnlValid (rs : List JRecord) : Bool :=
  match rs with
  | [] => false
  | r :: rest => r.type == 0x01 && rest.any (fun x => x.type == 0x02)

/-- GENERATION of a valid area. -/
def jnlGeneration (rs : List JRecord) : Nat :=
  match rs with
  | [] => 0
  | r :: _ => fieldOf r.payload 0 8

/-- Whether two records are of one object; every alarm log entry is an object of its own. -/
def JRecord.same (a b : JRecord) : Bool := a.type == b.type && a.type != 0x30 && a.id == b.id

/-- One record's effect on the live set (R563). -/
def jnlApply (live : List JRecord) (r : JRecord) : List JRecord :=
  if r.type = 0x01 ∨ r.type = 0x02 then live
  else if r.type = 0x3F then
    live.filter (fun x => !(x.type == fieldOf r.payload 0 1 && x.id == fieldOf r.payload 4 4))
  else live.filter (fun x => !x.same r) ++ [r]

/-- The latest record of every live object. -/
def jnlLive (rs : List JRecord) : List JRecord := rs.foldl jnlApply []

/-- Bytes of a list of records. -/
def jnlBytes (rs : List JRecord) : Nat := (rs.map JRecord.size).sum

/-- The area that a replay uses, its records and its tail: the valid one with the higher GENERATION (R564).  Without the
journal key no tag can be checked, and no area is valid. -/
def State.jnlChoose (s : State) (key : List Byte) : Option (Nat × List JRecord × Nat) :=
  let a := s.jnlRecords key 0
  let b := s.jnlRecords key 1
  if key = [] then none else
  match jnlValid a.1, jnlValid b.1 with
  | true, true => if jnlGeneration a.1 < jnlGeneration b.1 then some (1, b) else some (0, a)
  | true, false => some (0, a)
  | false, true => some (1, b)
  | false, false => none

/-- The records of the area in force; with no valid area the journal is taken as empty (R564). -/
def State.jnlInForce (s : State) : List JRecord :=
  match s.jnlChoose s.sec.journalKey with
  | some (_, rs, _) => rs
  | none => []

/-- The journal's live set. -/
def State.jnlNow (s : State) : List JRecord := jnlLive s.jnlInForce

/-- The latest record of an object. -/
def jnlFind (live : List JRecord) (type id : Nat) : Option JRecord := live.find? (fun r => r.type == type && r.id == id)

/-- A floor or epoch takes effect with its record (R561, R571). -/
def State.jnlEffect (s : State) (r : JRecord) : State :=
  if r.type = 0x23 ∧ r.id = 1 then s.set Fld.SEC_HUB_FLOOR_FLOOR 0 (fieldOf r.payload 0 4)
  else if r.type = 0x23 ∧ r.id = 2 then s.set Fld.SEC_SELV_FLOOR_FLOOR 0 (fieldOf r.payload 0 4)
  else s

/-- Writes one record at the tail of the active area (R565). -/
def State.jnlWrite (s : State) (type id : Nat) (payload : List Byte) : State :=
  let area := s.get Fld.SEC_STATUS_JNL_AREA 0
  let used := s.get Fld.SEC_JNL_USED_BYTES 0
  let seq := s.get Fld.SEC_JNL_SEQ_SEQ 0 + 1
  let r : JRecord := ⟨type, seq, s.get Fld.SEC_KEY_EPOCH_EPOCH 0, id, payload⟩
  let x := { s with sec := { s.sec with programming := some ⟨jnlArea area + used, r.size, s.refTime⟩ } }
  let t := (((x.store (jnlArea area + used) (r.bytes s.sec.journalKey)).set Fld.SEC_JNL_USED_BYTES 0 (used + r.size)).set
    Fld.SEC_JNL_SEQ_SEQ 0 seq).jnlEffect r
  t.set Fld.SEC_JNL_LIVE_BYTES 0 (jnlBytes t.jnlNow)

/-- OBJ_ID of the records for which R563 names none. -/
def State.jnlId (s : State) (type : Nat) : Nat :=
  (Config.objId type (if type = 0x30 ∨ type = 0x3F then s.get Fld.SEC_JNL_SEQ_SEQ 0 + 1 else 0)).toNat

/-- What a command that waited for its record returns: a counter's new value, nothing, or the SEQ (Table 20.9). -/
def State.jnlResult (s : State) (a : JnlAppend) : State :=
  if !a.command then s else
  { s with sec := { s.sec with running := match s.sec.running with
    | some c => some { c with result := some (0,
        if c.op = 0x04 then fieldOf a.payload 0 8 else if c.op = 0x07 then 0 else s.get Fld.SEC_JNL_SEQ_SEQ 0) }
    | none => none } }

/-- A compaction begins (R564, R566). -/
def State.compact (s : State) : State := s.set Fld.SEC_STATUS_COMPACTING 0 1

/-- An append that leaves more than 75 % of the area in use starts a compaction (R566). -/
def State.jnlFill (s : State) : State := if 3145728 < s.get Fld.SEC_JNL_USED_BYTES 0 then s.compact else s

/-- The append in progress when the supply is lost leaves a torn record: from a byte of it on the flash stays erased (R565).
The time of an append is bounded by Table 20.10 and R552; which byte is open. -/
def State.tearAppend (s : State) : State :=
  match s.sec.programming with
  | none => s
  | some p =>
    if p.since + 20 * Config.us + ceilDiv p.size 256 * 1000 * Config.us ≤ s.refTime then s else
    let n := (Config.freeWord s.freeCount).toNat % (p.size + 1)
    { s with freeCount := s.freeCount + 1, mem := Mem.clear s.mem (p.addr + n) (p.size - n) }

/-- An append: written at once, or after the compaction that runs or must run first (R564 to R566). -/
def State.jnlAppend (s : State) (a : JnlAppend) : State :=
  if s.isSet Fld.SEC_STATUS_COMPACTING 0 || s.aon.sleepReq then { s with sec := { s.sec with waiting := s.sec.waiting ++ [a] } }
  else if s.sec.torn then { s with sec := { s.sec with waiting := s.sec.waiting ++ [a] } }.compact
  else
    ((s.jnlWrite a.type a.id a.payload).jnlResult a).jnlFill

/-- Whether a compaction keeps a record (R566). -/
def jnlKept (epoch : Nat) (live : List JRecord) : List JRecord :=
  let logs := live.filter (fun r => r.type == 0x30)
  let old := (logs.take (logs.length - 256)).map JRecord.seq
  live.filter (fun r => !(r.type == 0x20 && decide (r.epoch < epoch)) && !(r.type == 0x30 && old.contains r.seq))

/-- The records of a compacted area: the checkpoints and the live records with new SEQ values (R566). -/
def jnlCompacted (generation seq epoch : Nat) (live : List JRecord) : List JRecord :=
  let kept := jnlKept epoch live
  [⟨0x01, seq + 1, epoch, (Config.objId 0x01 0).toNat, leBytes 8 generation ++ leBytes 8 seq⟩] ++
  ((List.range kept.length).zip kept).map (fun p => { p.2 with seq := seq + 2 + p.1 }) ++
  [⟨0x02, seq + 2 + kept.length, epoch, (Config.objId 0x02 0).toNat, []⟩]

/-- The new area is written, becomes active, and the old one is erased (R566). -/
def State.compactEnd (s : State) : State :=
  let area := s.get Fld.SEC_STATUS_JNL_AREA 0
  let rs := s.jnlInForce
  let seq := s.get Fld.SEC_JNL_SEQ_SEQ 0
  let new := jnlCompacted (jnlGeneration rs + 1) seq (s.get Fld.SEC_KEY_EPOCH_EPOCH 0) (jnlLive rs)
  let bytes := (new.map (fun r => r.bytes s.sec.journalKey)).flatten
  let t := { s with
    mem := Mem.clear (Mem.write (Mem.clear s.mem (jnlArea (1 - area)) jnlAreaBytes) (jnlArea (1 - area)) bytes)
      (jnlArea area) jnlAreaBytes
    sec := { s.sec with torn := false } }
  let u := (((t.set Fld.SEC_STATUS_JNL_AREA 0 (1 - area)).set Fld.SEC_JNL_USED_BYTES 0 (jnlBytes new)).set
    Fld.SEC_JNL_SEQ_SEQ 0 (seq + new.length)).set Fld.SEC_STATUS_COMPACTING 0 0
  (u.set Fld.SEC_JNL_LIVE_BYTES 0 (jnlBytes (jnlLive new))).raise Flg.SEC_EVT_JNL_COMPACT 0

/-- COMPACTION_END (R566): the new area becomes active, and the appends that waited follow its CHECKPOINT_END.  Once key SRAM
is zeroised no record of a new area can be tagged: the compaction does not end, and the old area stays in force. -/
def execCompactionEnd (s : State) : Host.Outcome State Fault Refusal :=
  .next (if s.isSet Fld.SEC_STATUS_COMPACTING 0 ∧ s.sec.journalKey ≠ [] then
    let t := s.compactEnd
    ({ t with sec := { t.sec with waiting := [] } }).forEach s.sec.waiting (fun t a => t.jnlAppend a)
  else s)

end Sys2Proof.Machine
end

