-- ==== Sys2Proof/Machine/Device.lean ====
section
/-! DEFINITION. Device states and their transitions (R27 to R33), the entry to each state, Selvedge faults (R517,
R518, R602), tamper reactions (R570 to R572), and the reset, sleep and wake events (R578, R589 to R593). -/

namespace Sys2Proof.Machine

/-! ## Transitions -/

/-- The state changes: the always-on domain records the state left, the cause and what has decided the beat, and
STATE_CHANGED is set (R29, Table 1.11). -/
def State.turn (s : State) (d left : DevState) (cause : Nat) (decided : Option (Nat × Nat × DevState)) : State :=
  ({ s with dev := d, aon := { s.aon with prev := left, cause := cause, decided := decided } }).raise
    Flg.HUB_EVT_STATE_CHANGED 0

/-- The state changes by a cause that R30's list does not name. -/
def State.go (s : State) (d : DevState) (cause : Nat) : State := s.turn d s.dev cause none

/-- The state before the causes of this beat: what a cause of lower rank has done in the same beat is dropped (R30). -/
def State.before (s : State) : DevState :=
  match s.aon.decided with
  | some (time, _, d) => if time = s.refTime then d else s.dev
  | none => s.dev

/-- Whether a cause of a higher place in R30's list has decided the state in this beat: 1 rail loss, 2 alarm class C,
3 RESET, 4 Selvedge fault, 5 a host request. -/
def State.outranked (s : State) (rank : Nat) : Bool :=
  match s.aon.decided with
  | some (time, r, _) => decide (time = s.refTime) && decide (r < rank)
  | none => false

/-- The state changes by a cause of R30's list. -/
def State.goBy (s : State) (d : DevState) (cause rank : Nat) : State :=
  s.turn d s.before cause (some (s.refTime, rank, s.before))

/-- Fields of the always-on domain that RESET keeps (Table 20.12, R599). -/
def aonFields : List Field :=
  [Fld.PWR_WAKE_WAKE_FAIL_COUNT, Fld.PWR_WAKE_TIMEOUT, Fld.PWR_WAKE_LAST_SOURCE, Fld.SEC_ALARM_TIME_TIME,
   Fld.SEC_ALARM_CAP_CLASS, Fld.SEC_ALARM_CAP_SENSOR]

/-- Fields of the wake listener, which SLEEP keeps and RESET does not (R494). -/
def listenerFields : List Field :=
  [Fld.CAN_WAKE_CFG_MODE, Fld.CAN_WAKE_CFG_RATE, Fld.CAN_WAKE_CFG_FILTER, Fld.CAN_WAKE_CFG_FLT_MASK,
   Fld.CAN_WAKE_CAP_VALID, Fld.CAN_WAKE_CAP_KIND, Fld.CAN_WAKE_CAP_CHANNEL, Fld.CAN_WAKE_CAP_FILTER,
   Fld.CAN_WAKE_ID_ID, Fld.CAN_WAKE_STAMP_TIME, Fld.CAN_WAKE_CNT_COUNT] ++
  [Fld.CAN_WAKE_FLT_CFG_EN, Fld.CAN_WAKE_FLT_CFG_IDE, Fld.CAN_WAKE_FLT_CFG_DLEN, Fld.CAN_WAKE_FLT_ID_VALUE,
   Fld.CAN_WAKE_FLT_MASK_VALUE, Fld.CAN_WAKE_FLT_DATA_VALUE, Fld.CAN_WAKE_FLT_DMASK_VALUE]

/-- The stored values of some fields. -/
def State.keepFields (s : State) (fs : List Field) : List (Nat × Nat) :=
  s.regs.filter (fun p => fs.any (fun f => f.code == p.1 / 0x100000000))

/-- The memories that a loss of the main domain leaves: host memory and the flash, and LPDDR where it stays
refreshed. -/
def Mem.kept (m : List Host.Cell) (lpddr : Bool) : List Host.Cell :=
  (if lpddr then Sparse.within m 0 (2 ^ 64) else []) ++
    (Sparse.within m (2 ^ 64) (2 ^ 65) ++ Sparse.within m (2 ^ 70) (2 ^ 71))

/-- Alarm log entries that still wait for their journal record are held by the always-on domain, up to 16 (R571,
R572). -/
def State.heldLogs (s : State) : List AlarmLog :=
  let queued := (s.sec.waiting.filter (fun a => a.type == 0x30)).map (fun a =>
    (⟨fieldOf a.payload 0 1, fieldOf a.payload 1 1, fieldOf a.payload 8 8, false⟩ : AlarmLog))
  (s.aon.held ++ queued).take 16

/-- The main domain loses its state: every register, queue and memory of it stands as after RESET.  Key SRAM and the
always-on domain stay. -/
def State.mainLost (s : State) (keep : List Field) (lpddr : Bool) : State :=
  { State.reset with
    pending := s.pending
    refTime := s.refTime
    freeCount := s.freeCount
    nextUid := s.nextUid
    dev := s.dev
    regs := s.keepFields keep
    mem := Mem.kept s.mem lpddr
    whorl := { Whorl.reset with refValid := s.whorl.refValid }
    sec := { Sec.reset with
      journalKey := s.sec.journalKey, identity := s.sec.identity, attest := s.sec.attest, wrap := s.sec.wrap
      keys := s.sec.keys }
    aon := { s.aon with held := s.heldLogs, sleepReq := false, wake := none } }

/-- Entry to RESET (R589), with its place in R30's list where the cause has one.  CAUSE_STATUS lasts until here, and
the always-on domain records whether the RESET came from ALARM (R29, Table 1.11). -/
def State.enterReset (s : State) (cause rank : Nat) (internal : Bool) : State :=
  let left := if rank = 0 then s.dev else s.before
  let t := s.mainLost aonFields true
  { t with
    dev := .reset
    aon := { t.aon with
      prev := left, cause := cause, causeStatus := 0, resetAt := s.refTime, internal := internal
      decided := if rank = 0 then none else some (s.refTime, rank, left)
      fromAlarm := if left = .reset then s.aon.fromAlarm else decide (left = .alarm) } }

/-- RESET by RESET_N, the host or alarm class B: dropped where rail loss or alarm class C has decided this beat (R30). -/
def State.resetBy (s : State) (cause : Nat) (internal : Bool) : State :=
  if s.outranked 3 then s else s.enterReset cause 3 internal

/-- RESET ends and BOOT begins: the count starts at 0, and CAUSE stays (Table 1.8, Table 2.1). -/
def State.beginBoot (s : State) : State := s.go .boot s.aon.cause

/-- Entry to SLEEP (R590): a host request has decided the beat, and the main domain loses its state with its end. -/
def State.enterSleep (s : State) : State := s.goBy .sleep 2 5

/-- Whether SLEEP has been entered in this beat: a cause higher in R30's list still decides the next state. -/
def State.sleeping (s : State) : Bool := decide (s.dev = .sleep) && s.aon.sleepReq

/-- The beat in which SLEEP has been entered ends: the count, key SRAM, the listener and the always-on record are kept
(R590). -/
def State.settleSleep (s : State) : State :=
  if !s.sleeping then s else
  let t := s.mainLost (aonFields ++ listenerFields) false
  { t with
    whorl := { t.whorl with count := s.whorl.count, fraction := 0 }
    aon := { t.aon with wake := s.aon.wake } }

/-- No cycle runs: slots, golden runs and a drain end; a field-test slice that runs goes on (R395, R419, R540). -/
def State.stopCycle (s : State) : State :=
  let t := if s.selv.running.isSome then s else s.set Fld.HEDDLE_TEST_STATE_PHASE 0 0
  { t with heddle := { t.heddle with
    active := none, openSlots := [], golden := [], quiesced := [], runReq := false, standbyReq := false } }

/-- Whether a host request waits for its transition, which refuses every other one (R30). -/
def State.inTransition (s : State) : Bool := s.heddle.runReq || s.heddle.standbyReq || s.aon.sleepReq

/-! ## Field tests in SAFE (R519) -/

/-- Whether a skein is in service. -/
def State.live (s : State) (k : Nat) : Bool := s.get Fld.HUB_SKEIN_LIVE_LIVE 0 / 2 ^ k % 2 == 1

/-- Skeins in service. -/
def State.liveSkeins (s : State) : List Nat := (List.range 64).filter s.live

/-- Reference time since a skein's last complete coverage. -/
def State.uncovered (s : State) (k : Nat) : Nat := s.refTime - Sparse.get 0 s.selv.coveredRef k

/-- DTI in ticks of reference time. -/
def State.dti (s : State) : Nat := s.get Fld.SELV_CTRL_DTI 0 * 1000 * Config.us

/-- Whether a skein has gone longer than DTI without complete coverage. -/
def State.overdue (s : State) (k : Nat) : Bool := s.live k && decide (s.dti < s.uncovered k)

/-- The skein of a list whose last complete coverage is oldest; the lower index wins a tie. -/
def State.oldest (s : State) (ks : List Nat) : Option Nat :=
  ks.foldl (fun best k => match best with
    | none => some k
    | some b => if Sparse.get 0 s.selv.coveredRef k < Sparse.get 0 s.selv.coveredRef b then some k else some b) none

/-- A slice starts on a skein. -/
def State.startSlice (s : State) (k slice : Nat) (suspect : Bool) : State :=
  let t := (s.set Fld.HEDDLE_TEST_STATE_PHASE 0 2).set Fld.HEDDLE_TEST_STATE_SKEIN 0 k
  { t with
    selv := { t.selv with running := some ⟨k, slice, suspect, s.refTime⟩ }
    heddle := { t.heddle with sampled := Sparse.put 0 t.heddle.sampled (2 * k + 1) 0 } }

/-- In SAFE the oldest overdue skein runs its next slice, one skein at a time. -/
def State.startOverdue (s : State) : State :=
  if s.dev = .safe ∧ s.selv.running = none then
    match s.oldest (s.liveSkeins.filter s.overdue) with
    | some k => s.startSlice k (Sparse.get 0 s.selv.next k) false
    | none => s
  else s

/-! ## Selvedge faults (R517, R518, R602) -/

/-- Entry to SAFE: every job is aborted and the cycle stops (R419), and every loop that is not OPEN goes to its safe
pattern (R33). -/
def State.enterSafe (s : State) (status source : Nat) : State :=
  let job := (Config.freeWord s.freeCount).toNat % 256
  let t := (({ s with freeCount := s.freeCount + 1 }.jobFault status job source).settle).stopCycle
  let u := (({ t with aon := { t.aon with sleepReq := false } }).goBy .safe 5 4).loopsSafe
  u.startOverdue

/-- A Selvedge fault: it is recorded in every state, and STANDBY and RUN go to SAFE. -/
def State.selvFault (s : State) (kind status source : Nat) : State :=
  let t := ((((s.set Fld.SELV_FAULT_CAP_STATUS 0 status).set Fld.SELV_FAULT_CAP_KIND 0 kind).set
    Fld.SELV_FAULT_CAP_SOURCE 0 source).set Fld.SELV_FAULT_TIME_TIME 0 s.now).set Fld.SELV_STATUS_FAULT_ACTIVE 0 1
  if s.dev = .standby ∨ s.dev = .run ∨ s.sleeping then t.enterSafe status source else t

/-- Whether the time monitors are active: the Selvedge runs, in STANDBY or RUN (Table 18.2). -/
def State.timed (s : State) : Bool := s.selv.on && decide (s.dev = .standby ∨ s.dev = .run)

/-- A time fault (R536), with whether Table 18.3 escalates it. -/
def State.timeFault (s : State) (escalates : Bool) : State :=
  if !s.timed then s else
  let t := s.raise Flg.SELV_EVT_TIME_FAULT 0
  if escalates then t.selvFault 4 0 72 else t

/-- The level on FAULT_N; none while the pin is high-impedance (R516). -/
def State.faultN (s : State) : Option Bool :=
  match s.dev with
  | .off | .reset | .sleep => none
  | .standby | .run => some (s.get Fld.SELV_STATUS_FAULT_ACTIVE 0 == 0)
  | _ => some false

/-- The level on SAFE_STATE, the same condition on its own driver (R516). -/
def State.safeState (s : State) : Option Bool := s.faultN.map not

/-- The level on MAIN_EN (R590, Table 21.3): low in SLEEP until a wake. -/
def State.mainEn (s : State) : Option Bool :=
  match s.dev with
  | .off => none
  | .sleep => some s.aon.wake.isSome
  | _ => some true

/-- LOCKSTEP_MISMATCH (R515). -/
def execLockstepMismatch (s : State) : Host.Outcome State Fault Refusal :=
  .next (if s.selv.on then (s.raise Flg.SELV_EVT_LOCKSTEP 0).selvFault 1 0 73 else s)

/-- DTI_EXCEEDED (R540): a warning, once per skein and interval. -/
def execDtiExceeded (skein : Nat) (s : State) : Host.Outcome State Fault Refusal :=
  .next (if (s.dev = .run ∨ s.dev = .safe) ∧ s.overdue skein ∧ ¬ skein ∈ s.selv.warned then
    let t := s.raise Flg.SELV_EVT_DTI_EXCEEDED 0
    ({ t with selv := { t.selv with warned := t.selv.warned ++ [skein] } }).startOverdue
  else s)

/-- DTI_FAULT (R540): 2 × DTI without complete coverage. -/
def execDtiFault (skein : Nat) (s : State) : Host.Outcome State Fault Refusal :=
  .next (if (s.dev = .run ∨ s.dev = .safe) ∧ s.live skein ∧ 2 * s.dti < s.uncovered skein ∧
      ¬ skein ∈ s.selv.faulted then
    ({ s with selv := { s.selv with faulted := s.selv.faulted ++ [skein] } }).selvFault 2 0x0603 skein
  else s)

/-- Where a hung engine lies: a skein, 64 plus a hank, or the hub (Table 18.5). -/
def Engine.hangSource : Engine → Nat
  | .loom k => k
  | .vec k => k
  | .drafter k _ => k
  | .prog k _ => k
  | .ply h => 64 + h
  | _ => 72

/-- Whether a running command can have completed no beat for HANG_US µs: it has run for that long (R535). -/
def State.hung (s : State) (c : Cmd) : Bool :=
  decide (c.phase = .running) && decide (c.since + s.get Fld.SELV_CTRL_HANG_US 0 * Config.us ≤ s.refTime)

/-- ENGINE_HANG (R535): a skein or ply engine's command ends in a job fault and the skein becomes suspect; a hub
engine's hang is a Selvedge fault. -/
def execEngineHang (uid : Nat) (s : State) : Host.Outcome State Fault Refusal :=
  .next (match s.cmd? uid with
    | some c =>
      let src := c.engine.hangSource
      if !s.hung c ∨ (s.dev ≠ .standby ∧ s.dev ≠ .run) then s
      else
        let t := s.raise Flg.SELV_EVT_HANG 0
        if src = 72 then t.selvFault 5 0x0605 72
        else
          (((t.cutShort c 0x0605).makeSuspect (if src < 64 then src else 8 * (src - 64))).jobFault 0x0605 c.job
            src).settle
    | none => s)

/-! ## Tamper (R570 to R572) -/

/-- The class that POLICY gives a sensor: 1 A, 2 B, 3 C.  Before a hub manifest has verified, the class is open. -/
def State.tamperClass (s : State) (sensor : Nat) : Nat :=
  match s.aon.policy[sensor]? with
  | some c => c
  | none => 1 + (Config.freeWord s.freeCount).toNat % 3

/-- Key SRAM is zeroised (R551).  No record can be tagged from then on: alarm log entries that still wait are held. -/
def State.zeroise (s : State) : State :=
  { s with
    sec := { s.sec with journalKey := [], identity := [], attest := [], wrap := [], keys := [], waiting := [] }
    aon := { s.aon with held := s.heldLogs } }

/-- Whether firmware or the ROM can append to the journal: the key is held, and the journal has been replayed (R558). -/
def State.jnlUp (s : State) : Bool :=
  decide (s.sec.journalKey ≠ []) && s.sec.replayed &&
  (match s.dev with
  | .standby | .run | .safe | .recovery => true
  | _ => false)

/-- Payload of an ALARM_LOG record (Table 20.6). -/
def AlarmLog.payload (l : AlarmLog) : List Byte := leBytes 1 l.sensor ++ leBytes 1 l.cls ++ leBytes 6 0 ++ leBytes 8 l.time

/-- An alarm log entry goes to the journal, or is held where the journal is not up. -/
def State.alarmLog (s : State) (l : AlarmLog) : State :=
  if !s.jnlUp then { s with aon := { s.aon with held := (s.aon.held ++ [l]).take 16 } }
  else s.jnlAppend ⟨0x30, s.jnlId 0x30, l.payload, false⟩

/-- ALARM has no link and no compute or I/O (Table 1.7): whatever is in progress anywhere ends where it stands, and
nothing of it is reported. -/
def State.haltWork (s : State) : State :=
  let t := s.forEach (List.range 6) (fun t p => t.set Fld.IWL_P_STATUS_STATE p 0)
  { t with
    cmds := [], signals := [], cores := [], windows := [], caps := [], datasets := [], iwl := Iwl.reset, macs := []
    cans := [], rings := { Rings.reset with functions := s.rings.functions }
    aon := { t.aon with sleepReq := false } }

/-- Entry to ALARM (Table 1.7, R33). -/
def State.enterAlarm (s : State) : State :=
  if s.dev = .alarm then s else ((s.stopCycle.haltWork).goBy .alarm 7 2).loopsSafe

/-- Whether the main domain is off: in OFF, and in SLEEP from the end of the beat of its entry on. -/
def State.mainOff (s : State) : Bool := decide (s.dev = .off) || (decide (s.dev = .sleep) && !s.sleeping)

/-- A class C reaction: the epoch advance is written where the flash is reached first, and is left pending otherwise;
key SRAM is zeroised (R31, R571). -/
def State.alarmC (s : State) : State :=
  let up := s.jnlUp && !s.romService && !s.isSet Fld.SEC_STATUS_COMPACTING 0 && !s.sec.torn && !s.aon.sleepReq
  let epoch := s.get Fld.SEC_KEY_EPOCH_EPOCH 0 + 1
  let t := { s with freeCount := s.freeCount + 1 }
  let u := if up ∧ Config.freeBit s.freeCount 0 then
      ((t.jnlWrite 0x22 (s.jnlId 0x22) (leBytes 4 epoch)).set Fld.SEC_KEY_EPOCH_EPOCH 0 epoch).jnlFill
    else { t with aon := { t.aon with pendingEpoch := true } }
  if s.mainOff then u.zeroise else u.zeroise.enterAlarm

/-- Sensors trip in one beat: each is logged, the highest of their classes reacts (R571, R572). -/
def State.tamper (s : State) (sensors : List Nat) : State :=
  let cls := sensors.map s.tamperClass
  let top := cls.foldl max 0
  match (sensors.zip cls).find? (fun p => p.2 == top) with
  | none => s
  | some (first, _) =>
    let asleep := s.mainOff
    let t := (({ s with freeCount := s.freeCount + 1 }).set Fld.SEC_ALARM_CAP_SENSOR 0 first).set
      Fld.SEC_ALARM_CAP_CLASS 0 top
    let u := (t.set Fld.SEC_ALARM_TIME_TIME 0 s.now).doIf (!asleep)
      (fun u => u.raiseN Flg.SEC_EVT_TAMPER 0 sensors.length)
    let v := u.forEach (sensors.zip cls) (fun v p => v.alarmLog ⟨p.1, p.2, s.now, asleep⟩)
    if top = 3 then v.alarmC
    else if top = 2 then
      let w := { v with aon := { v.aon with pendingB := true } }
      if asleep then w else w.resetBy 6 true
    else v

/-- Whether a sensor is active in the present state (Table 20.8). -/
def State.sensorActive (s : State) (sensor : Nat) : Bool :=
  decide (sensor < 5) && (match s.dev with
    | .sleep => s.sleeping || decide (sensor < 2)
    | .off => s.aon.up && decide (sensor < 2)
    | _ => true)

/-- TAMPER_TRIP (R570). -/
def execTamperTrip (sensors : List Nat) (s : State) : Host.Outcome State Fault Refusal :=
  .next (s.tamper (sensors.filter s.sensorActive).eraseDups)

/-- ZEROISATION_COMPLETE (Table 1.8): ALARM goes to RESET. -/
def execZeroisationComplete (s : State) : Host.Outcome State Fault Refusal :=
  .next (if s.dev = .alarm then s.enterReset 7 0 true else s)

/-! ## Reset and power events -/

/-- RAILS_UP (R578): OFF goes to RESET. -/
def execRailsUp (s : State) : Host.Outcome State Fault Refusal :=
  .next (if s.dev = .off then
    let t := s.enterReset 0 0 false
    { t with aon := { t.aon with resetLow := true, up := true } }
  else s)

/-- The device goes to OFF: LPDDR and the main domain lose their contents; the always-on domain goes on where its rails
hold (R593). -/
def State.enterOff (s : State) (aonHolds : Bool) : State :=
  if aonHolds then
    let t := s.mainLost (aonFields ++ listenerFields) false
    { t with
      dev := .off
      whorl := { t.whorl with count := s.whorl.count }
      aon := { t.aon with prev := s.before, causeStatus := 0, decided := some (s.refTime, 1, s.before) } }
  else
    let t := s.mainLost [] false
    { t with
      dev := .off
      sec := Sec.reset
      aon := { Aon.reset with prev := s.before, up := false, decided := some (s.refTime, 1, s.before) } }

/-- RAIL_LOSS (R578). -/
def execRailLoss (aonHolds : Bool) (s : State) : Host.Outcome State Fault Refusal :=
  .next (if s.dev = .off ∧ aonHolds then s else s.tearAppend.enterOff aonHolds)

/-- A wake begins: MAIN_EN goes high (R591). -/
def State.wakeBy (s : State) (source : Nat) : State :=
  if s.dev = .sleep ∧ s.aon.wake = none then
    { s.set Fld.PWR_WAKE_LAST_SOURCE 0 source with aon := { s.aon with wake := some (source, s.refTime) } }
  else s

/-- Whether a low pulse of RESET_N resets (Table 21.2): below 10 µs and above 1 µs that is left open. -/
def State.pulseResets (s : State) (lowNs : Nat) : Bool :=
  decide (10000 ≤ lowNs) || (decide (1000 < lowNs) && Config.freeBit s.freeCount 0)

/-- RESET_N_ASSERT (R589); in SLEEP it wakes (R591). -/
def execResetNAssert (lowNs : Nat) (s : State) : Host.Outcome State Fault Refusal :=
  .next (
    let t := { s with freeCount := s.freeCount + 1 }
    if !s.pulseResets lowNs then t
    else
      let u := { t with aon := { t.aon with resetLow := true } }
      match s.dev with
      | .off => u
      | .sleep => if s.sleeping then u.resetBy 1 false else u.wakeBy 3
      | _ => u.resetBy 1 false)

/-- RESET_N_RELEASE (R589): BOOT begins, unless an internal reset has not ended yet. -/
def execResetNRelease (s : State) : Host.Outcome State Fault Refusal :=
  .next (if s.aon.resetLow then
    let t := { s with aon := { s.aon with resetLow := false } }
    if s.dev = .reset ∧ s.aon.internal = false then t.beginBoot else t
  else s)

/-- INTERNAL_RESET_END (R589): at least 10 µs after it began, and not while RESET_N is low. -/
def execInternalResetEnd (s : State) : Host.Outcome State Fault Refusal :=
  .next (if s.dev = .reset ∧ s.aon.internal ∧ s.aon.resetLow = false ∧ s.aon.resetAt + 10 * Config.us ≤ s.refTime then
    ({ s with aon := { s.aon with internal := false } }).beginBoot
  else s)

/-! ## Host requests (R29, R30) -/

/-- Whether the HUB block answers the host (Table 1.7). -/
def State.hubAnswers (s : State) : Bool :=
  match s.dev with
  | .boot | .standby | .run | .safe | .recovery => true
  | _ => false

/-- A request that Table 1.8 does not allow. -/
def State.refuseReq (s : State) : State := s.raise Flg.HUB_EVT_REQ_REFUSED 0

/-- A host request of a place in R30's list: refused while it is not allowed, while a transition is in progress, and where a
higher cause has decided this beat. -/
def State.rankedReq (s : State) (rank : Nat) (allowed : Bool) (f : State → State) : State :=
  if !s.hubAnswers then s else if allowed && !s.inTransition && !s.outranked rank then f s else s.refuseReq

/-- A host request other than RESET. -/
def State.hostReq (s : State) (allowed : Bool) (f : State → State) : State := s.rankedReq 5 allowed f

/-- STATE_REQ_RESET (R29). -/
def execStateReqReset (s : State) : Host.Outcome State Fault Refusal :=
  .next (s.rankedReq 3 true fun s => s.resetBy 2 true)

/-- STATE_REQ_SLEEP (R493, R590): refused while a CAN controller is enabled. -/
def execStateReqSleep (s : State) : Host.Outcome State Fault Refusal :=
  .next (s.hostReq (decide (s.dev = .standby) && !(List.range 8).any (fun n => s.isSet Fld.CAN_CTRL_EN n)) fun s =>
    { s with aon := { s.aon with sleepReq := true } })

/-- SLEEP_ENTRY (R590). -/
def execSleepEntry (s : State) : Host.Outcome State Fault Refusal :=
  .next (if s.dev = .standby ∧ s.aon.sleepReq then s.enterSleep else s)

/-- Whether a hank holds a retired skein. -/
def State.hankRetired (s : State) (h : Nat) : Bool := (List.range 8).any (fun i => !s.live (8 * h + i))

/-- The conditions of R519 beyond the comparator's self-check. -/
def State.releasable (s : State) : Bool :=
  !s.liveSkeins.any s.overdue && !s.selv.fromBoot &&
  !(List.range 4).any (fun p => s.isSet Fld.SELV_PAIR_CFG_VALID p &&
    (s.hankRetired (s.get Fld.SELV_PAIR_CFG_MAIN_HANK p) || s.hankRetired (s.get Fld.SELV_PAIR_CFG_CHECK_HANK p)))

/-- Entry to STANDBY (R33). -/
def State.enterStandby (s : State) (cause : Nat) : State := ((s.stopCycle).goBy .standby cause 5).loopsOpen

/-- STATE_REQ_RELEASE_SAFE (R519). -/
def execStateReqReleaseSafe (selfCheck : Bool) (s : State) : Host.Outcome State Fault Refusal :=
  .next (
    let t := s.doIf (decide (s.dev = .safe)) (fun s => s.setBit Fld.SELV_STATUS_LOCKSTEP_OK 0 selfCheck)
    t.hostReq (decide (s.dev = .safe) && selfCheck && s.releasable) fun s =>
      (s.set Fld.SELV_STATUS_FAULT_ACTIVE 0 0).enterStandby 2)

/-! ## Wakes (R493, R494, R591) -/

/-- WAKE_N_EVENT (R591). -/
def execWakeNEvent (lowUs : Nat) (s : State) : Host.Outcome State Fault Refusal :=
  .next (if 10 ≤ lowUs then s.wakeBy 1 else s)

/-- A wake of the listener on a channel (R494): wakes of one beat record the lowest channel. -/
def State.listenerWake (s : State) (channel kind filter id : Nat) : State :=
  let cap (t : State) : State :=
    ((((t.set Fld.CAN_WAKE_CAP_VALID 0 1).set Fld.CAN_WAKE_CAP_KIND 0 kind).set Fld.CAN_WAKE_CAP_CHANNEL 0 channel).set
      Fld.CAN_WAKE_CAP_FILTER 0 filter).set Fld.CAN_WAKE_ID_ID 0 id |>.set Fld.CAN_WAKE_STAMP_TIME 0 s.now
  match s.aon.wake with
  | none => (cap (s.count Fld.CAN_WAKE_CNT_COUNT 0 1)).wakeBy 2
  | some (source, began) =>
    if source = 2 ∧ began = s.refTime then
      let t := s.count Fld.CAN_WAKE_CNT_COUNT 0 1
      if channel < s.get Fld.CAN_WAKE_CAP_CHANNEL 0 then cap t else t
    else s

/-- CAN_WAKE_DOMINANT (R493): mode 1, at least FILTER µs. -/
def execCanWakeDominant (channel us : Nat) (s : State) : Host.Outcome State Fault Refusal :=
  .next (if s.dev = .sleep ∧ s.get Fld.CAN_WAKE_CFG_MODE channel = 1 ∧ s.get Fld.CAN_WAKE_CFG_FILTER channel ≤ us then
    s.listenerWake channel 0 0 0
  else s)

/-- Whether wake filter f takes a frame (R493): bytes beyond DLEN play no part. -/
def State.wakeFilter (s : State) (f id : Nat) (ide : Bool) (data : List Byte) : Bool :=
  let n := s.get Fld.CAN_WAKE_FLT_CFG_DLEN f
  s.isSet Fld.CAN_WAKE_FLT_CFG_EN f &&
  ((id ^^^ s.get Fld.CAN_WAKE_FLT_ID_VALUE f) &&& s.get Fld.CAN_WAKE_FLT_MASK_VALUE f) == 0 &&
  s.isSet Fld.CAN_WAKE_FLT_CFG_IDE f == ide && decide (n ≤ data.length) &&
  ((leNat (data.take n) ^^^ s.get Fld.CAN_WAKE_FLT_DATA_VALUE f) &&& s.get Fld.CAN_WAKE_FLT_DMASK_VALUE f) % 256 ^ n == 0

/-- CAN_WAKE_FRAME (R494): the lowest enabled filter of the channel that matches. -/
def execCanWakeFrame (channel id : Nat) (ide : Bool) (data : List Byte) (s : State) :
    Host.Outcome State Fault Refusal :=
  .next (if s.dev = .sleep ∧ s.get Fld.CAN_WAKE_CFG_MODE channel = 2 then
    match (List.range 8).find? (fun f => s.get Fld.CAN_WAKE_CFG_FLT_MASK channel / 2 ^ f % 2 == 1 &&
        s.wakeFilter f id ide data) with
    | some f => s.listenerWake channel 1 f id
    | none => s
  else s)

/-- WAKE_BOOT_START (R591): BOOT, or RESET while RESET_N is low. -/
def execWakeBootStart (s : State) : Host.Outcome State Fault Refusal :=
  .next (match s.dev, s.aon.wake with
    | .sleep, some (_, began) =>
      if s.refTime < began + 50 * Config.us then s
      else
        let t := { s with aon := { s.aon with wake := none } }
        if s.aon.resetLow then t.enterReset 1 0 false else t.go .boot 8
    | _, _ => s)

/-- WAKE_TIMEOUT (R591). -/
def execWakeTimeout (s : State) : Host.Outcome State Fault Refusal :=
  .next (match s.dev, s.aon.wake with
    | .sleep, some (_, began) =>
      if s.refTime < began + s.get Fld.PWR_WAKE_TIMEOUT 0 * 1000 * Config.us then s
      else ({ s with aon := { s.aon with wake := none } }).count Fld.PWR_WAKE_WAKE_FAIL_COUNT 0 1
    | _, _ => s)

end Sys2Proof.Machine
end

