-- ==== Sys2Proof/Machine/Security.lean ====
section
/-! DEFINITION. The security enclave (chapter 20): header copies, manifests, keys, the boot sequence (R549 to R561),
the SEC commands (R574) and attestation (R568, R569). -/

namespace Sys2Proof.Machine

/-! ## Flash (R553, R554) -/

/-- The helper data of the PUF. -/
def State.helperData (s : State) : List Byte := s.load (Mem.flash 0x8000) 32768

/-- The 128 bytes of a header copy. -/
def State.headerBytes (s : State) (copy : Nat) : List Byte := s.load (Mem.flash (copy * 0x4000)) 128

/-- A header copy is valid: its MAGIC and its tag. -/
def State.headerValid (s : State) (key : List Byte) (copy : Nat) : Bool :=
  let b := s.headerBytes copy
  fieldOf b 0 2 == 0x4448 && sliceOf b 64 64 == hmac512 key (sliceOf b 0 64)

/-- The header copy in force: the valid one with the higher GENERATION. -/
def State.headerNow (s : State) (key : List Byte) : Option Nat :=
  match s.headerValid key 0, s.headerValid key 1 with
  | true, true => if fieldOf (s.headerBytes 0) 8 8 < fieldOf (s.headerBytes 1) 8 8 then some 1 else some 0
  | true, false => some 0
  | false, true => some 1
  | false, false => none

/-- The slot of a kind that the header in force names: 0 hub, 1 Selvedge. -/
def State.headerSlot (s : State) (kind : Nat) : Nat :=
  match s.headerNow s.sec.journalKey with
  | some c => fieldOf (s.headerBytes c) (2 + kind) 1 % 2
  | none => 0

/-- Where an image slot begins, and its bytes. -/
def slotAddr (kind slot : Nat) : Nat := Mem.flash (if kind = 0 then 0x100000 + slot * 0x800000 else 0x1100000 + slot * 0x200000)
/-- Bytes of an image slot. -/
def slotBytes (kind : Nat) : Nat := if kind = 0 then 0x800000 else 0x200000

/-! ## Manifests (R555 to R557) -/

/-- SEC_VERSION of a manifest. -/
def manifestVersion (m : List Byte) : Nat := fieldOf m 12 4
/-- COMPAT_SET of a manifest. -/
def manifestCompat (m : List Byte) : Nat := fieldOf m 4 4
/-- BODY_LEN of a manifest. -/
def manifestBody (m : List Byte) : Nat := fieldOf m 16 4
/-- POLICY of a hub manifest. -/
def manifestPolicy (m : List Byte) : List Nat := (sliceOf m 32 5).map BitVec.toNat

/-- Whether a manifest accepts stepping B1 (step 7 of Table 20.4). -/
def manifestB1 (m : List Byte) : Bool := fieldOf m 8 1 == 0xB && bitsOf (fieldOf m 9 1) 1 1 == 1

/-- Root slot 0 is revoked once the journal holds a root-revocation record (R557). -/
def rootRevoked (live : List JRecord) (slot : Nat) : Bool := slot == 0 && live.any (fun r => r.type == 0x24)

/-- A manifest is valid with its body (R556); kind 0 hub, 1 Selvedge. -/
def manifestValid (live : List JRecord) (kind : Nat) (m body : List Byte) : Bool :=
  let root := fieldOf m 10 1
  let policy := manifestPolicy m
  fieldOf m 0 2 == 0x464D && fieldOf m 2 1 == kind + 1 && fieldOf m 3 1 == 1 && manifestCompat m != 0 &&
  fieldOf m 11 1 == 0 && fieldOf m 28 4 == 0 && fieldOf m 37 27 == 0 && fieldOf m 160 32 == 0 &&
  decide (1 ≤ manifestBody m) && decide (manifestBody m ≤ slotBytes kind - 256) && sliceOf m 64 64 == sha512 body &&
  decide (root ≤ 1) && !rootRevoked live root && edVerify (leBytes 32 (Config.rootKey root).toNat) (sliceOf m 0 192) (sliceOf m 192 64) &&
  (if kind = 0 then policy.all (fun c => decide (1 ≤ c) && decide (c ≤ 3)) else policy.all (fun c => c == 0))

/-- The manifest of a slot. -/
def State.slotManifest (s : State) (kind slot : Nat) : List Byte := s.load (slotAddr kind slot) 256

/-- The manifest of a slot is valid with the body that follows it. -/
def State.slotValid (s : State) (live : List JRecord) (kind slot : Nat) : Bool :=
  let m := s.slotManifest kind slot
  manifestValid live kind m (s.load (slotAddr kind slot + 256) (manifestBody m))

/-! ## Keys (R549, R550) -/

/-- The bytes of an ASCII label. -/
def label (v : List Nat) : List Byte := v.map (BitVec.ofNat 8)
/-- "JOURNAL" -/
def labelJournal : List Byte := label [0x4A, 0x4F, 0x55, 0x52, 0x4E, 0x41, 0x4C]
/-- "IDENTITY" -/
def labelIdentity : List Byte := label [0x49, 0x44, 0x45, 0x4E, 0x54, 0x49, 0x54, 0x59]
/-- "ATTEST" -/
def labelAttest : List Byte := label [0x41, 0x54, 0x54, 0x45, 0x53, 0x54]
/-- "WRAP" -/
def labelWrap : List Byte := label [0x57, 0x52, 0x41, 0x50]

/-- Gives the words of a public key to its registers. -/
def State.setPub (s : State) (f : Field) (key : List Byte) : State :=
  s.forEach (List.range 8) (fun t w => t.set f w (fieldOf key (4 * w) 4))

/-! ## The boot sequence (R558, Table 20.4) -/

/-- BOOT ends in RECOVERY. -/
def State.bootRecovery (s : State) (cause status : Nat) : State :=
  ({ s with aon := { s.aon with causeStatus := status } }).go .recovery cause

/-- BOOT ends in a RECOVERY that the ROM serves (R559). -/
def State.bootRom (s : State) : State := (s.set Fld.SEC_STATUS_ROM_SERVICE 0 1).bootRecovery 4 0x0702

/-- Step 1, and what the board and the silicon are. -/
def State.bootBegin (s : State) (x : BootInputs) : State :=
  let t := { s with
    aon := { s.aon with causeStatus := if s.aon.fromAlarm then 0x0703 else 0 }
    badParity := []
    sec := { s.sec with puf := sliceOf x.puf 0 8192 }
    net := { s.net with written := [(0, s.refTime), (1, s.refTime)] }
    pwr := { s.pwr with commanded := x.mv, stepAt := s.refTime, windowAt := s.now, sampleAt := s.refTime, ready := true } }
  t.setAll [(Fld.PWR_VAPPLIED_MV, 0, x.mv), (Fld.PWR_STATUS_AVS_OK, 0, 1), (Fld.HUB_ID_GRADE, 0, x.grade),
    (Fld.WHORL_STATUS_WAVE_OK, 0, 1), (Fld.WHORL_STATUS_REF_LOCK, 0, if s.whorl.refValid then 1 else 0),
    (Fld.WHORL_STATUS_HOLDOVER, 0, if s.whorl.refValid then 0 else 1), (Fld.MEMC_CAPACITY_GIB, 0, x.capacity), (Fld.MEMC_CHAN_LIVE_LIVE, 0, x.channels)] |>.forEach (List.range 16)
    (fun t c => (t.set Fld.RING_PROTO_MIN c x.protoMin).set Fld.RING_PROTO_MAX c x.protoMax) |>.pwrSync

/-- A floor that the journal holds. -/
def jnlFloor (live : List JRecord) (id : Nat) : Nat :=
  match jnlFind live 0x23 id with
  | some r => fieldOf r.payload 0 4
  | none => 0

/-- The key epoch that the journal holds; 1 without a record (R550). -/
def jnlEpoch (live : List JRecord) : Nat :=
  match live.find? (fun r => r.type == 0x22) with
  | some r => fieldOf r.payload 0 4
  | none => 1

/-- Replay of the journal (step 4). -/
def State.bootReplay (s : State) : State :=
  match s.jnlChoose s.sec.journalKey with
  | none =>
    let t := (s.raise Flg.SEC_EVT_JNL_TRUNC 0).set Fld.SEC_KEY_EPOCH_EPOCH 0 1
    { t with sec := { t.sec with torn := true } }
  | some (area, rs, tail) =>
    let live := jnlLive rs
    let torn := (s.load (jnlArea area + tail) (min 32 (jnlAreaBytes - tail))).any (fun b => b != 0xFF)
    let seq := match rs.getLast? with
      | some r => r.seq
      | none => 0
    let t := (s.doIf torn (fun s => s.raise Flg.SEC_EVT_JNL_TRUNC 0)).setAll
      [(Fld.SEC_STATUS_JNL_AREA, 0, area), (Fld.SEC_JNL_USED_BYTES, 0, tail), (Fld.SEC_JNL_SEQ_SEQ, 0, seq),
       (Fld.SEC_JNL_LIVE_BYTES, 0, jnlBytes live), (Fld.SEC_KEY_EPOCH_EPOCH, 0, jnlEpoch live),
       (Fld.SEC_HUB_FLOOR_FLOOR, 0, jnlFloor live 1), (Fld.SEC_SELV_FLOOR_FLOOR, 0, jnlFloor live 2)]
    { t with sec := { t.sec with torn := torn } }

/-- An append of BOOT: a torn journal is compacted first, and one that a compaction must follow waits for it. -/
def State.bootAppend (s : State) (type id : Nat) (payload : List Byte) : State :=
  ((s.doIf (s.sec.torn || s.isSet Fld.SEC_STATUS_COMPACTING 0) State.compactEnd).jnlWrite type id payload).jnlFill

/-- The writes of step 4: a pending key-epoch record, then the held alarm log. -/
def State.bootWrites (s : State) : State :=
  let epoch := s.get Fld.SEC_KEY_EPOCH_EPOCH 0 + 1
  let t := if s.aon.pendingEpoch then
      let u := (s.bootAppend 0x22 (s.jnlId 0x22) (leBytes 4 epoch)).set Fld.SEC_KEY_EPOCH_EPOCH 0 epoch
      { u with aon := { u.aon with pendingEpoch := false } }
    else s
  let v := t.forEach t.aon.held (fun t l => (t.bootAppend 0x30 (t.jnlId 0x30) l.payload).doIf l.asleep
    (fun t => t.raise Flg.SEC_EVT_TAMPER 0))
  { v with aon := { v.aon with held := [] } }

/-- The unwrapped keys that key SRAM holds: 16 KiB less the 160 bytes of the derived keys, in the order of their records
(R551). -/
def keysHeld (keys : List (Nat × List Byte)) : List (Nat × List Byte) :=
  keys.foldl (fun held p =>
    if (held.map (fun q => q.2.length)).sum + p.2.length ≤ 16384 - 160 then held ++ [p] else held) []

/-- Step 10: the keys of the current epoch. -/
def State.bootKeys (s : State) (root : List Byte) : State :=
  let epoch := s.get Fld.SEC_KEY_EPOCH_EPOCH 0
  let e := leBytes 4 epoch
  let wrap := (hmac512 root (labelWrap ++ e)).take 32
  let attest := (hmac512 root (labelAttest ++ e)).take 32
  let recs := s.jnlNow.filter (fun r => r.type == 0x20 && r.epoch == epoch)
  let keys := recs.map (fun r => (r.id, keyUnwrap wrap r.payload))
  let good := keysHeld (keys.filterMap (fun p => p.2.map (fun k => (p.1, k))))
  let t := { s with sec := { s.sec with attest := attest, wrap := wrap, keys := good } }
  let u := t.raiseN Flg.SEC_EVT_KEY_SKIPPED 0 (keys.length - good.length)
  (u.setPub Fld.SEC_ATTEST_PUB_KEY (edPublic attest)).set Fld.SEC_STATUS_KEYS_READY 0 1

/-- A skein is taken out of service (R20, R534). -/
def State.retire (s : State) (k : Nat) : State :=
  if s.live k then
    ((s.set Fld.HUB_SKEIN_LIVE_LIVE 0 (s.get Fld.HUB_SKEIN_LIVE_LIVE 0 - 2 ^ k)).raise Flg.HUB_EVT_SKEIN_RETIRED 0)
  else s

/-- Step 11: the Selvedge starts, every skein is self-tested, and injection runs. -/
def State.bootSelvedge (s : State) (x : BootInputs) : State :=
  let t := ({ s with selv := { s.selv with
      on := true
      covered := (List.range 64).map (fun k => (k, s.now))
      coveredRef := (List.range 64).map (fun k => (k, s.refTime)) } }).setAll
    [(Fld.HUB_SKEIN_LIVE_LIVE, 0, 2 ^ 64 - 1), (Fld.HEDDLE_TEST_BOUND_TICKS, 0, x.testBound),
     (Fld.SELV_STATUS_LOCKSTEP_OK, 0, if x.missed.any (fun p => p.1 == 4) then 0 else 1)]
  (t.forEach (List.range 64) State.testRun).forEach ((List.range 64).filter (fun k => x.failed.contains k)) State.retire

/-- The checker that SELV_INJECT_CAP names: the first that missed, by kind and then by SOURCE (R537). -/
def firstMissed (l : List (Nat × Nat)) : Option (Nat × Nat) :=
  l.foldl (fun best p => match best with
    | none => some p
    | some b => if p.1 < b.1 ∨ (p.1 = b.1 ∧ p.2 < b.2) then some p else some b) none

/-- A miss of start-up injection sends BOOT to SAFE (R518, R537). -/
def State.bootSafe (s : State) (checker source : Nat) : State :=
  let t := (s.setAll [(Fld.SELV_INJECT_CAP_CHECKER, 0, checker), (Fld.SELV_INJECT_CAP_SOURCE, 0, source)]).selvFault 6 0 source
  ({ t with selv := { t.selv with fromBoot := true } }).go .safe 5

/-- The registers of a Flyer controller. -/
def ctlRegs : List Reg :=
  [Reg.FLYER_CTL_CFG, Reg.FLYER_CTL_KP, Reg.FLYER_CTL_KI, Reg.FLYER_CTL_KD, Reg.FLYER_CTL_KV, Reg.FLYER_CTL_KA,
   Reg.FLYER_CTL_I_MIN, Reg.FLYER_CTL_I_MAX, Reg.FLYER_CTL_I_INIT, Reg.FLYER_CTL_OUT_MIN, Reg.FLYER_CTL_OUT_MAX,
   Reg.FLYER_CTL_SP_CONST, Reg.FLYER_CTL_BQ0, Reg.FLYER_CTL_BQ]

/-- Loads one word of a Flyer set; the RO registers I and U are ignored (R563), and a field whose value is out of its range
keeps its own (R600). -/
def State.loadCtlWord (s : State) (addr v : Nat) : State :=
  match Reg.lookup ctlRegs addr with
  | some (r, i, _) => s.setAll ((r.fields.filter (fun f => f.legal.allows (bitsOf v f.lo f.width))).map
      (fun f => (f, i, bitsOf v f.lo f.width)))
  | none => s

/-- Loads the AUTOLOAD Flyer sets (R313, Table 20.6). -/
def State.autoload (s : State) : State :=
  s.forEach (s.jnlNow.filter (fun r => r.type == 0x12 && fieldOf r.payload 1 1 % 2 == 1)) (fun t r =>
    t.forEach (List.range 96) (fun t i =>
      t.loadCtlWord (0x408100 + fieldOf r.payload 0 1 * 0x400 + i / 24 * 0x80 + i % 24 * 4) (fieldOf r.payload (4 + 4 * i) 4)))

/-- Steps 7 to 12. -/
def State.bootLate (s : State) (x : BootInputs) (root hub selv : List Byte) : State :=
  if manifestCompat hub ≠ manifestCompat selv ∨ !manifestB1 hub ∨ !manifestB1 selv then s.bootRecovery 4 0x0701 else
  let t := s.set Fld.HUB_COMPAT_SET_SET_ID 0 (manifestCompat hub)
  if manifestVersion hub < t.get Fld.SEC_HUB_FLOOR_FLOOR 0 ∨ manifestVersion selv < t.get Fld.SEC_SELV_FLOOR_FLOOR 0 then
    t.bootRecovery 4 0x0702
  else if t.aon.pendingB then ({ t with aon := { t.aon with pendingB := false } }).bootRecovery 6 0x0703
  else
    let u := (t.bootKeys root).bootSelvedge x
    match firstMissed x.missed with
    | some (checker, source) => u.bootSafe checker source
    | none => (u.autoload).go .standby 3

/-- The Selvedge's verified image is loaded: both cores hold the same bytes of its body, as many as a memory takes (R515). -/
def State.loadSelvedge (s : State) (slot : Nat) : State :=
  let body := s.load (slotAddr 1 slot + 256) (min (manifestBody (s.slotManifest 1 slot)) (2 ^ 19))
  (s.store (Mem.selvedge 0 0) body).store (Mem.selvedge 1 0) body

/-- Steps 5 and 6, and what follows. -/
def State.bootImages (s : State) (x : BootInputs) (root : List Byte) : State :=
  let hubSlot := s.headerSlot 0
  let selvSlot := s.headerSlot 1
  let live := s.jnlNow
  if !s.slotValid live 0 hubSlot then s.bootRom else
  let hub := s.slotManifest 0 hubSlot
  let t := ({ s with
    aon := { s.aon with policy := manifestPolicy hub }
    sec := { s.sec with hubManifest := hub } }).set Fld.SEC_HUB_VERSION_VERSION 0 (manifestVersion hub)
  if !t.slotValid live 1 selvSlot then t.bootRecovery 4 0x0702 else
  let selv := t.slotManifest 1 selvSlot
  let u := ({ t with
    sec := { t.sec with selvManifest := selv }
    selv := { t.selv with on := true } }).set Fld.SEC_SELV_VERSION_VERSION 0 (manifestVersion selv)
  (u.loadSelvedge selvSlot).bootLate x root hub selv

/-- Steps 3 and 4, and what follows. -/
def State.bootJournal (s : State) (x : BootInputs) (root : List Byte) : State :=
  if s.headerNow s.sec.journalKey = none then s.bootRom else
  let t := (s.setAll [(Fld.SEC_STATUS_HUB_SLOT, 0, s.headerSlot 0), (Fld.SEC_STATUS_SELV_SLOT, 0, s.headerSlot 1)]).bootReplay
  if (t.aon.pendingEpoch ∨ t.aon.held ≠ []) ∧ x.flashWrites = false then
    (t.set Fld.SEC_STATUS_ROM_SERVICE 0 1).bootRecovery 9 0x0703
  else
    let u := t.bootWrites
    ({ u with sec := { u.sec with replayed := true } }).bootImages x root

/-- BOOT_SEQUENCE (R558): the boot ROM's steps in order; the first that fails decides. -/
def execBootSequence (inputs : BootInputs) (s : State) : Host.Outcome State Fault Refusal :=
  .next (if s.dev ≠ .boot then s else
    let t := s.bootBegin inputs
    match (Config.pufRoot t.sec.puf t.helperData).map (fun r => leBytes 32 r.toNat) with
    | none => ({ t with sec := { t.sec with journalKey := [], identity := [], attest := [], wrap := [], keys := [] } }).bootRom
    | some root =>
      let identity := (hmac512 root labelIdentity).take 32
      let u := { t with sec := { t.sec with
        journalKey := hmac512 root labelJournal, identity := identity, attest := [], wrap := [], keys := [] } }
      (u.setPub Fld.SEC_IDENT_PUB_KEY (edPublic identity)).bootJournal inputs root)

/-! ## SEC commands (R574) -/

/-- Whether the enclave's states of a command hold: STANDBY, RUN and RECOVERY as Table 20.9 lists them.  Under ROM
service only UPDATE and ACTIVATE are accepted (R559). -/
def State.secStates (s : State) (standby run recovery rom : Bool) : Bool :=
  match s.dev with
  | .standby => standby
  | .run => run
  | .recovery => if s.romService then rom else recovery
  | _ => false

/-- The result of the command that runs. -/
def State.secEnd (s : State) (status value : Nat) : State :=
  { s with sec := { s.sec with running := match s.sec.running with
    | some c => some { c with result := some (status, value) }
    | none => none } }

/-- The states in which a command may be issued (Table 20.9). -/
def State.secAllowed (s : State) (op : Nat) : Bool :=
  match op with
  | 0x01 | 0x08 => s.secStates true true true false
  | 0x02 | 0x03 | 0x04 => s.secStates true true false false
  | 0x05 | 0x06 => s.secStates true false true true
  | 0x07 => s.secStates true false false false
  | 0x09 | 0x0A => s.secStates true false true false
  | _ => !s.romService

/-- Whether the enclave still works on a command: not once the device has left the states in which the SEC block answers. -/
def State.secWorks (s : State) : Bool :=
  match s.dev with
  | .standby | .run | .safe | .recovery => true
  | _ => false

/-- Runs the work of the command that SEC_CMD has issued. -/
def State.secRun (s : State) (op : Nat) (f : State → State) : State :=
  match s.sec.running with
  | some c => if c.op = op ∧ c.result = none ∧ s.secWorks then f s else s
  | none => s

/-- A write of SEC_CMD: a command is issued, or is discarded while one runs.  One issued outside its states completes with
WRONG_STATE; the result of an OP that Table 20.9 does not list is free. -/
def State.secCmd (s : State) (value : Nat) : State :=
  if s.isSet Fld.SEC_STATUS_BUSY 0 then s.raise Flg.SEC_EVT_CMD_REFUSED 0
  else
    let t := s.setAll [(Fld.SEC_CMD_OP, 0, bitsOf value 0 8), (Fld.SEC_CMD_TYPE, 0, bitsOf value 8 8),
      (Fld.SEC_CMD_ID, 0, bitsOf value 16 16), (Fld.SEC_STATUS_BUSY, 0, 1)]
    let op := bitsOf value 0 8
    let n := s.freeCount
    if 1 ≤ op ∧ op ≤ 0x0B then
      { t with sec := { t.sec with running := some ⟨op, if s.secAllowed op then none else some (0x0706, 0)⟩ } }
    else { t with
      freeCount := t.freeCount + 2
      sec := { t.sec with running := some ⟨op, some ((Config.freeWord n).toNat % 65536, (Config.freeWord (n + 1)).toNat)⟩ } }

/-- SEC_COMMAND_DONE (R574). -/
def execSecCommandDone (s : State) : Host.Outcome State Fault Refusal :=
  .next (match s.sec.running with
    | some ⟨op, some (status, value)⟩ =>
      let t := s.setAll [(Fld.SEC_RESULT_STATUS, 0, status), (Fld.SEC_RESULT_OP, 0, op),
        (Fld.SEC_RESULT_VALUE_VALUE, 0, value), (Fld.SEC_STATUS_BUSY, 0, 0)]
      ({ t with sec := { t.sec with running := none, programming := none } }).raise Flg.SEC_EVT_CMD_DONE 0
    | _ => s)

/-- TYPE, ID and LEN of the command. -/
def State.secType (s : State) : Nat := s.get Fld.SEC_CMD_TYPE 0
/-- ID of the command. -/
def State.secId (s : State) : Nat := s.get Fld.SEC_CMD_ID 0
/-- LEN of the command. -/
def State.secLen (s : State) : Nat := s.get Fld.SEC_ARG_LEN_BYTES 0
/-- ADDR of the command: bit 63 names a host address. -/
def State.secAddr (s : State) : Nat :=
  let a := s.get Fld.SEC_ARG_ADDR_ADDR 0
  if a / 2 ^ 63 % 2 = 1 then Mem.host (a % 2 ^ 63) else Mem.lpddr a

/-- Whether a record type is one that the host writes (Table 20.9). -/
def hostType (t : Nat) : Bool := decide (0x10 ≤ t) && decide (t ≤ 0x12)

/-- JNL_READ (R574): copies as much of the object's payload as LEN takes. -/
def execJnlRead (s : State) : Host.Outcome State Fault Refusal :=
  .next (s.secRun 0x01 fun s =>
    match jnlFind s.jnlNow s.secType s.secId with
    | none => s.secEnd 0x0705 0
    | some r =>
      let bs := r.payload.take s.secLen
      (s.store s.secAddr bs).secEnd 0 bs.length)

/-- JNL_WRITE (R563, R565). -/
def execJnlWrite (s : State) : Host.Outcome State Fault Refusal :=
  .next (s.secRun 0x02 fun s =>
    let n := s.secLen
    if !hostType s.secType ∨ 65536 < n ∨ (s.secType = 0x12 ∧ n ≠ 388) then s.secEnd 0x0102 0
    else
      let r : JRecord := ⟨s.secType, 0, 0, s.secId, s.load s.secAddr n⟩
      if 1572864 < jnlBytes (jnlApply s.jnlNow r) then s.secEnd 0x0704 0
      else s.jnlAppend ⟨r.type, r.id, r.payload, true⟩)

/-- JNL_DELETE (R563). -/
def execJnlDelete (s : State) : Host.Outcome State Fault Refusal :=
  .next (s.secRun 0x03 fun s =>
    if !hostType s.secType ∨ (jnlFind s.jnlNow s.secType s.secId).isNone then s.secEnd 0x0705 0
    else s.jnlAppend ⟨0x3F, s.jnlId 0x3F, leBytes 4 s.secType ++ leBytes 4 s.secId, true⟩)

/-- The value of a monotonic counter (R567). -/
def jnlCounter (live : List JRecord) (id : Nat) : Nat :=
  match jnlFind live 0x21 id with
  | some r => fieldOf r.payload 0 8
  | none => 0

/-- The value after an increment: no operation lowers a counter, so the last value of 64 bits stays. -/
def counterNext (v : Nat) : Nat := min (v + 1) (2 ^ 64 - 1)

/-- CTR_INC (R567). -/
def execCtrInc (s : State) : Host.Outcome State Fault Refusal :=
  .next (s.secRun 0x04 fun s =>
    if s.secId < 4 ∨ 15 < s.secId then s.secEnd 0x0102 0
    else s.jnlAppend ⟨0x21, s.secId, leBytes 8 (counterNext (jnlCounter s.jnlNow s.secId)), true⟩)

/-- The kind of image that a command names: 0 hub, 1 Selvedge. -/
def State.secKind (s : State) : Option Nat := if s.secType = 1 then some 0 else if s.secType = 2 then some 1 else none

/-- The floor of an image kind. -/
def State.secFloor (s : State) (kind : Nat) : Nat :=
  if kind = 0 then s.get Fld.SEC_HUB_FLOOR_FLOOR 0 else s.get Fld.SEC_SELV_FLOOR_FLOOR 0

/-- UPDATE (R560): the inactive slot takes a verified image. -/
def execUpdate (s : State) : Host.Outcome State Fault Refusal :=
  .next (s.secRun 0x05 fun s =>
    match s.secKind with
    | none => s.secEnd 0x0702 0
    | some kind =>
      let m := s.load s.secAddr 256
      let n := 256 + manifestBody m
      let image := s.load s.secAddr n
      if s.secLen < n ∨ !manifestValid s.jnlNow kind m (image.drop 256) ∨ manifestVersion m < s.secFloor kind then
        s.secEnd 0x0702 0
      else
        let a := slotAddr kind (1 - s.headerSlot kind)
        ({ s with mem := Mem.write (Mem.clear s.mem a (slotBytes kind)) a image }).secEnd 0 0)

/-- The bytes of a header copy. -/
def headerOf (key : List Byte) (hubSlot selvSlot generation : Nat) : List Byte :=
  let b := leBytes 2 0x4448 ++ leBytes 1 hubSlot ++ leBytes 1 selvSlot ++ leBytes 4 0 ++ leBytes 8 generation ++ leBytes 48 0
  b ++ hmac512 key b

/-- ACTIVATE (R560): the other header copy names the inactive slot. -/
def execActivate (s : State) : Host.Outcome State Fault Refusal :=
  .next (s.secRun 0x06 fun s =>
    match s.secKind with
    | none => s.secEnd 0x0702 0
    | some kind =>
      let key := s.sec.journalKey
      let slot := 1 - s.headerSlot kind
      if key = [] ∨ !s.slotValid s.jnlNow kind slot ∨ manifestVersion (s.slotManifest kind slot) < s.secFloor kind then
        s.secEnd 0x0702 0
      else
        let now := s.headerNow key
        let generation := match now with
          | some c => fieldOf (s.headerBytes c) 8 8 + 1
          | none => 1
        let copy := match now with
          | some c => 1 - c
          | none => 0
        let a := Mem.flash (copy * 0x4000)
        let h := headerOf key (if kind = 0 then slot else s.headerSlot 0) (if kind = 1 then slot else s.headerSlot 1) generation
        ({ s with mem := Mem.write (Mem.clear s.mem a 0x4000) a (h ++ List.replicate (0x4000 - 128) 0) }).secEnd 0 generation)

/-- The records that COMMIT_VERSION writes: floors that rise, and the revocation of root slot 0 (R557, R561). -/
def State.commitRecords (s : State) : List (Nat × Nat × List Byte) :=
  let raise (kind version : Nat) : List (Nat × Nat × List Byte) :=
    if s.secFloor kind < version then [(0x23, kind + 1, leBytes 4 version)] else []
  let root (m : List Byte) : Nat := fieldOf m 10 1
  raise 0 (s.get Fld.SEC_HUB_VERSION_VERSION 0) ++ raise 1 (s.get Fld.SEC_SELV_VERSION_VERSION 0) ++
  (if root s.sec.hubManifest = 1 ∧ root s.sec.selvManifest = 1 ∧ !rootRevoked s.jnlNow 0 then [(0x24, s.jnlId 0x24, [])] else [])

/-- COMMIT_VERSION (R557, R561): the command ends with its last record. -/
def execCommitVersion (s : State) : Host.Outcome State Fault Refusal :=
  .next (s.secRun 0x07 fun s =>
    let rs := s.commitRecords
    if rs.isEmpty then s.secEnd 0 0
    else s.forEach ((List.range rs.length).zip rs) (fun t p =>
      t.jnlAppend ⟨p.2.1, p.2.2.1, p.2.2.2, p.1 + 1 == rs.length⟩))

/-- Whether the attestation key can be used (R569). -/
def State.attestReady (s : State) : Bool :=
  s.sec.attest != [] && s.isSet Fld.SEC_STATUS_KEYS_READY 0 && s.isSet Fld.SEC_CTRL_ATTEST_EN 0 && decide (s.dev ≠ .recovery)

/-- The attestation quote (Table 20.7). -/
def State.quote (s : State) (nonce : List Byte) : List Byte :=
  let b := edPublic s.sec.identity ++ edPublic s.sec.attest ++ leBytes 4 (s.get Fld.SEC_KEY_EPOCH_EPOCH 0)
  let c := b ++ leBytes 4 (s.get Fld.HUB_COMPAT_SET_SET_ID 0) ++ leBytes 4 (s.get Fld.SEC_HUB_VERSION_VERSION 0) ++
    leBytes 4 (s.get Fld.SEC_SELV_VERSION_VERSION 0) ++ nonce ++ sha256t (s.sec.hubManifest ++ s.sec.selvManifest) ++
    leBytes 16 0 ++ edSign s.sec.identity (b.drop 32)
  c ++ edSign s.sec.attest c

/-- ATTEST (R568, R569). -/
def execAttest (s : State) : Host.Outcome State Fault Refusal :=
  .next (s.secRun 0x08 fun s =>
    if !s.attestReady then s.secEnd 0x0707 0
    else (s.store (s.secAddr + 64) (s.quote (s.load s.secAddr 32))).secEnd 0 0)

/-- DEBUG_CHALLENGE (R573): a fresh nonce. -/
def execDebugChallenge (s : State) : Host.Outcome State Fault Refusal :=
  .next (s.secRun 0x09 fun s =>
    let n := (Config.freeWord s.freeCount).toNat
    ({ s with freeCount := s.freeCount + 1, sec := { s.sec with nonce := some n } }).secEnd 0 n)

/-- Whether a debug token opens the lock (R573). -/
def State.debugToken (s : State) (t : List Byte) : Bool :=
  let pub := sliceOf s.sec.hubManifest 128 32
  sliceOf t 0 32 == edPublic s.sec.identity && s.sec.nonce == some (fieldOf t 32 8) && fieldOf t 40 24 == 0 &&
  leNat pub != 0 && edVerify pub (sliceOf t 0 64) (sliceOf t 64 64)

/-- DEBUG_UNLOCK (R573): the third failed unlock since RESET trips sensor 3. -/
def execDebugUnlock (s : State) : Host.Outcome State Fault Refusal :=
  .next (s.secRun 0x0A fun s =>
    let t := { s with sec := { s.sec with nonce := none } }
    if s.debugToken (s.load s.secAddr 128) then (t.set Fld.SEC_STATUS_DEBUG_LOCKED 0 0).secEnd 0 0
    else
      let n := s.sec.failures + 1
      let u := (({ t with sec := { t.sec with failures := n } }).raise Flg.SEC_EVT_DEBUG_FAIL 0).secEnd 0x0702 0
      if n = 3 then u.tamper [3] else u)

/-- DEBUG_LOCK (R573). -/
def execDebugLock (s : State) : Host.Outcome State Fault Refusal :=
  .next (s.secRun 0x0B fun s => (s.set Fld.SEC_STATUS_DEBUG_LOCKED 0 1).secEnd 0 0)

end Sys2Proof.Machine
end

