-- ==== Sys2Proof/Machine/Heddle.lean ====
section
/-! DEFINITION. The Heddle (chapter 13): table load and swap (R392 to R395), the cycle and its slots (R396 to R403),
pre-emption (R408 to R411), golden runs (R525), drain-for-test and field-test slices (R413 to R416, R526, R534,
R538, R539), and accounting (R421). -/

namespace Sys2Proof.Machine

/-! ## Tables -/

/-- The count at which a slot of a cycle that begins at 0 ends. -/
def Slot.stop (x : Slot) : Nat := x.start + x.duration

/-- Whether a slot names a skein. -/
def Slot.hasSkein (x : Slot) (k : Nat) : Bool := x.skeins / 2 ^ k % 2 == 1

/-- Whether a slot's engine set includes an engine; hub engines have no slots (R398). -/
def Slot.has (x : Slot) : Engine → Bool
  | .loom k | .vec k | .drafter k _ | .prog k _ => x.hasSkein k
  | .ply h => x.ply / 2 ^ h % 2 == 1
  | _ => false

/-- A slot entry of a table image (Table 13.1). -/
def Slot.ofBytes (b : List Byte) : Slot :=
  ⟨fieldOf b 0 4, fieldOf b 4 4, fieldOf b 8 1 % 4, fieldOf b 9 1 % 2 == 1, fieldOf b 10 1, fieldOf b 16 8⟩

/-- Whether the reserved bytes and bits of a slot entry are 0. -/
def slotClean (b : List Byte) : Bool :=
  fieldOf b 8 1 / 4 == 0 && fieldOf b 9 1 / 2 == 0 && fieldOf b 11 5 == 0 && fieldOf b 24 8 == 0

/-- Check 1 of the header: MAGIC, VERSION and reserved bytes. -/
def tableHeaderClean (h : List Byte) : Bool :=
  fieldOf h 0 2 == 0x4448 && fieldOf h 2 1 == 1 && fieldOf h 3 1 == 0 && fieldOf h 6 2 == 0 && fieldOf h 12 52 == 0

/-- Check 4: starts do not decrease, and every slot lasts 4,000 ticks and ends within the cycle. -/
def slotsOrdered (cycle : Nat) : Nat → List Slot → Bool
  | _, [] => true
  | prev, x :: rest =>
    decide (prev ≤ x.start) && decide (4000 ≤ x.duration) && decide (x.stop ≤ cycle) && slotsOrdered cycle x.start rest

/-- Whether two slots share an engine and overlap in time. -/
def Slot.clashes (a b : Slot) : Bool :=
  (a.skeins &&& b.skeins != 0 || a.ply &&& b.ply != 0) && decide (a.start < b.stop) && decide (b.start < a.stop)

/-- Check 5: no two slots clash. -/
def slotsApart : List Slot → Bool
  | [] => true
  | x :: rest => rest.all (fun y => !x.clashes y) && slotsApart rest

/-- Check 6: GOLDEN is on SAFETY slots of 80,000 ticks or more. -/
def goldenOk (xs : List Slot) : Bool :=
  xs.all (fun x => !x.golden || (x.cls == 0 && decide (80000 ≤ x.duration)))

/-- The next start, in cyclic order and after `start`, of a SAFETY slot with the skein, as an offset from the same
boundary. -/
def nextSafety (cycle : Nat) (xs : List Slot) (k start : Nat) : Option Nat :=
  let mine := xs.filter (fun x => x.cls == 0 && x.hasSkein k)
  match mine.find? (fun x => decide (start < x.start)) with
  | some x => some x.start
  | none => mine.head?.map (fun x => x.start + cycle)

/-- Check 7 for one skein. -/
def testable (cycle bound : Nat) (xs : List Slot) (k : Nat) : Bool :=
  !xs.any (fun x => x.hasSkein k) ||
  (xs.any (fun x => x.golden && x.hasSkein k) && xs.any (fun x => x.cls == 3 && x.hasSkein k &&
    (match nextSafety cycle xs k x.start with
      | some n => decide (x.start + bound ≤ n)
      | none => false)))

/-- The table at HEDDLE_TBL_ADDR, or the reason of its refusal (Table 13.2). -/
def State.readTable (s : State) : Table ⊕ Nat :=
  let a := 64 * s.get Fld.HEDDLE_TBL_ADDR_ADDR 0
  if s.lpddrBytes < a + 64 then .inr 3 else
  let h := s.load (Mem.lpddr a) 64
  let n := fieldOf h 4 2
  let cycle := fieldOf h 8 4
  let whole := decide (1 ≤ n) && decide (n ≤ 4096) && decide (a + 64 + 32 * n ≤ s.lpddrBytes)
  let raw := if whole then (List.range n).map (fun i => s.load (Mem.lpddr (a + 64 + 32 * i)) 32) else []
  let xs := raw.map Slot.ofBytes
  if !tableHeaderClean h || !raw.all slotClean then .inr 1
  else if cycle < 400000 ∨ 400000000 < cycle then .inr 2
  else if !whole then .inr 3
  else if !slotsOrdered cycle 0 xs then .inr 4
  else if !slotsApart xs then .inr 5
  else if !goldenOk xs then .inr 6
  else if !s.liveSkeins.all (testable cycle (s.get Fld.HEDDLE_TEST_BOUND_TICKS 0) xs) then .inr 7
  else .inl ⟨cycle, xs⟩

/-- A refusal of a LOAD or an ARM is recorded. -/
def State.tableRefused (s : State) (reason : Nat) : State :=
  (s.set Fld.HEDDLE_STATUS_LOAD_REASON 0 reason).raise Flg.HEDDLE_EVT_TBL_REFUSED 0

/-- A write of 1 to LOAD (R393). -/
def State.loadTable (s : State) : State :=
  if s.isSet Fld.HEDDLE_TBL_CMD_ARM 0 then s.tableRefused 8 else
  match s.readTable with
  | .inl t => { s with heddle := { s.heddle with pending := some t } }
  | .inr r => ({ s with heddle := { s.heddle with pending := none } }).tableRefused r

/-- A write of 1 to ARM (R394). -/
def State.armTable (s : State) : State :=
  if s.isSet Fld.HEDDLE_TBL_CMD_ARM 0 then s
  else if s.heddle.pending.isNone then s.tableRefused 0
  else { s.set Fld.HEDDLE_TBL_CMD_ARM 0 1 with heddle := { s.heddle with armAt := s.now } }

/-- TABLE_LOAD (R393). -/
def execTableLoad (s : State) : Host.Outcome State Fault Refusal := .next (s.host State.loadTable)

/-- TABLE_ARM (R394). -/
def execTableArm (s : State) : Host.Outcome State Fault Refusal := .next (s.host State.armTable)

/-! ## The cycle -/

/-- The count at the current cycle's boundary. -/
def State.boundary (s : State) : Nat := s.get Fld.HEDDLE_CYCLE_START_TIME 0

/-- The table of the next cycle: PENDING where a swap is armed. -/
def State.nextTable (s : State) : Option Table :=
  if s.isSet Fld.HEDDLE_TBL_CMD_ARM 0 then s.heddle.pending else s.heddle.active

/-- Starts of slots that satisfy `p`, in this cycle and the next one, as Whorl counts. -/
def State.slotStarts (s : State) (p : Slot → Bool) : List Nat :=
  match s.heddle.active with
  | none => []
  | some t =>
    (t.slots.filter p).map (fun x => s.boundary + x.start) ++
      (match s.nextTable with
        | some u => (u.slots.filter p).map (fun x => s.boundary + t.cycle + x.start)
        | none => [])

/-- The open slots of the active table. -/
def State.openNow (s : State) : List Slot :=
  match s.heddle.active with
  | some t => s.heddle.openSlots.filterMap (fun i => t.slots[i]?)
  | none => []

/-- The slot that is open on an engine. -/
def State.slotOn (s : State) (e : Engine) : Option Slot := s.openNow.find? (fun x => x.has e)

/-- The class of a job. -/
def State.jobClass (s : State) (job : Nat) : Nat := s.get Fld.HEDDLE_JOB_CFG_CLASS job

/-- Whether a slot serves jobs of a class: its own, and BEST_EFFORT in a TEST_IDLE slot (R398). -/
def Slot.serves (x : Slot) (cls : Nat) : Bool := x.cls == cls || (x.cls == 3 && cls == 2)

/-- Whether a job's class may start on an engine (R398). -/
def State.classMay (s : State) (e : Engine) (job : Nat) : Bool :=
  match e with
  | .kv | .ring | .digest => true
  | _ => match s.slotOn e with
    | some x => x.serves (s.jobClass job)
    | none => s.jobClass job == 2

/-- Engines whose running command cannot be pre-empted (R402). -/
def Engine.rigid : Engine → Bool
  | .vec _ | .drafter _ _ => true
  | _ => false

/-- Whether an engine is in the quiesce window of a slot that does not serve a job's class (R402). -/
def State.quiescing (s : State) (e : Engine) (job : Nat) : Bool :=
  let other (x : Slot) : Bool := x.has e && !x.serves (s.jobClass job)
  e.rigid && ((s.slotStarts other).any (fun a => decide (s.now < a) &&
      decide (a ≤ s.now + s.get Fld.HEDDLE_QUIESCE_TICKS 0)) ||
    (match s.heddle.active with
      | some t => s.heddle.quiesced.any (fun i => match t.slots[i]? with
          | some x => other x
          | none => false)
      | none => false))

/-- Whether a skein drains for a test or is in TEST. -/
def State.inTest (s : State) (k : Nat) : Bool :=
  s.get Fld.HEDDLE_TEST_STATE_PHASE 0 != 0 && s.get Fld.HEDDLE_TEST_STATE_SKEIN 0 == k

/-- Whether an engine belongs to a skein. -/
def Engine.on (e : Engine) (k : Nat) : Bool :=
  match e with
  | .loom i | .vec i | .drafter i _ | .prog i _ => i == k
  | _ => false

/-! ## Pre-emption (R408 to R411) -/

/-- One pre-emption is counted. -/
def State.countPreempt (s : State) : State := s.count Fld.HEDDLE_CNT_PREEMPT_COUNT 0 1

/-- Where the save record of core `c` for job `j` lies (R411). -/
def State.saveAddr (s : State) (c j : Nat) : Nat :=
  2 ^ 28 * s.get Fld.HEDDLE_SAVE_BASE_BASE 0 + (c * 256 + j) * 8192

/-- A spindle core of a skein. -/
def State.core (s : State) (k c : Nat) : Core := Sparse.get Core.reset s.cores (2 * k + c)
/-- Replaces a spindle core. -/
def State.putCore (s : State) (k c : Nat) (x : Core) : State :=
  { s with cores := Sparse.put Core.reset s.cores (2 * k + c) x }

/-- A core saves its registers and STAT, and withdraws a registered wait (R93, R101, R411).  The layout of the save
record is not given, so its bytes are free; they are charged to the job's client (R420). -/
def State.saveCore (s : State) (uid k c : Nat) : State :=
  let x := s.core k c
  if x.prog.isNone then (s.modCmd uid (fun d => { d with phase := .yielded })).countPreempt else
  let n := s.freeCount
  let t := (({ s with freeCount := n + 1 }.withdraw (.core k c)).accum Fld.HEDDLE_ACCT_BYTES_LPDDR_WR_COUNT
      (s.get Fld.RING_JOB_CLIENT x.job) 8192).store
    (Mem.lpddr (s.saveAddr (2 * k + c) x.job)) ((List.range 8192).map (Config.freeByte n))
  let u := (t.putCore k c { x with state := .idle, prog := none, waitReg := false, waitGranted := false }).modCmd uid
    (fun d => { d with phase := .yielded })
  ({ u with heddle := { u.heddle with
      saved := Sparse.insert u.heddle.saved ((2 * k + c) * 256 + x.job) { x with waitReg := false } } }).countPreempt

/-- The Heddle pre-empts one running command as far as its engine allows (R408). -/
def State.preempt (s : State) (c : Cmd) : State :=
  match c.engine with
  | .loom _ | .ply _ =>
    if c.yieldReq then s else (s.modCmd c.uid (fun c => { c with yieldReq := true })).countPreempt
  | .prog k q => s.saveCore c.uid k q
  | .drafter _ _ => if s.parked c then (s.modCmd c.uid (fun c => { c with phase := .yielded })).countPreempt else s
  | _ => s

/-- Whether a running command runs on in a slot that opens: vector-engine and drafter commands cannot stop, but for a MOVE
parked on remote reads. -/
def State.runsOn (s : State) (c : Cmd) : Bool := c.engine.rigid && !s.parked c

/-- A slot opens: commands of other classes on its engines are pre-empted, and QUIESCE_LATE is set once for each engine
whose command runs on (R402, R408). -/
def State.preemptFor (s : State) (x : Slot) : State :=
  let met := s.cmds.filter (fun c => decide (c.phase = .running) && x.has c.engine && !x.serves (s.jobClass c.job))
  let t := s.forEach met State.preempt
  t.raiseN Flg.HEDDLE_EVT_QUIESCE_LATE 0 ((met.filter s.runsOn).map Cmd.engine).eraseDups.length

/-! ## Golden runs (R403, R525) -/

/-- Golden runs start on the live skeins of a slot; each resets its skein's count of missed runs (R397). -/
def State.startGolden (s : State) (x : Slot) : State :=
  s.forEach (s.liveSkeins.filter x.hasSkein) (fun t k =>
    { t with heddle := { t.heddle with
      golden := Sparse.insert t.heddle.golden k t.refTime, missed := Sparse.put 0 t.heddle.missed k 0
      sampled := Sparse.put 0 t.heddle.sampled (2 * k + 1) 0 } })

/-- Whether a golden run occupies a skein. -/
def State.inGolden (s : State) (k : Nat) : Bool := (Sparse.find s.heddle.golden k).isSome

/-- GOLDEN_FAIL: a job fault of no job; the skein becomes suspect (R525). -/
def State.goldenFail (s : State) (k : Nat) : State :=
  (((s.raise Flg.SELV_EVT_GOLDEN_FAIL 0).jobFault 0x0602 0 k).settle).makeSuspect k

/-- A golden run is over. -/
def State.dropGolden (s : State) (k : Nat) : State :=
  { s with heddle := { s.heddle with golden := Sparse.erase s.heddle.golden k } }

/-- GOLDEN_RUN_END (R525); the run's beats go to the package row (R420). -/
def execGoldenRunEnd (skein : Nat) (equal : Bool) (beats vecBeats : Nat) (s : State) :
    Host.Outcome State Fault Refusal :=
  .next (if s.inGolden skein then
    let t := (((s.spend (.loom skein) none 16 beats).spend (.vec skein) none 16 vecBeats).goldenTies skein).dropGolden skein
    if equal then t else t.goldenFail skein
  else s)

/-- GOLDEN_TIMEOUT (R525): 20 µs have passed. -/
def execGoldenTimeout (skein : Nat) (s : State) : Host.Outcome State Fault Refusal :=
  .next (match Sparse.find s.heddle.golden skein with
    | some began => if began + 20 * Config.us ≤ s.refTime then
        ((s.goldenTies skein).dropGolden skein).goldenFail skein else s
    | none => s)

/-! ## Field tests (R413 to R416, R526, R539) -/

/-- Whether a skein is suspect. -/
def State.suspect (s : State) (k : Nat) : Bool := s.selv.suspects.contains k

/-- Whether a slice that starts now ends before the next SAFETY slot that contains the skein (R414). -/
def State.testFits (s : State) (k : Nat) : Bool :=
  let safety (x : Slot) : Bool := x.cls == 0 && x.hasSkein k
  let bound := s.now + s.get Fld.HEDDLE_TEST_BOUND_TICKS 0
  (s.slotStarts safety).all (fun a => decide (a ≤ s.now) || decide (bound ≤ a))

/-- A slice is deferred, which the skein's DEFER_COUNT counts (R414, R539). -/
def State.deferTest (s : State) (k : Nat) (f : Flag) : State :=
  let t := (s.set Fld.HEDDLE_TEST_STATE_PHASE 0 0).raise f 0
  { t with selv := { t.selv with defers := Sparse.put 0 t.selv.defers k (Sparse.get 0 t.selv.defers k + 1) } }

/-- Drain-for-test begins: cores, loom and parked MOVEs of the skein are pre-empted (R414). -/
def State.startDrain (s : State) (k : Nat) : State :=
  let t := ((s.set Fld.HEDDLE_TEST_STATE_PHASE 0 1).set Fld.HEDDLE_TEST_STATE_SKEIN 0 k)
  let mine := s.cmds.filter (fun c => decide (c.phase = .running) && c.engine.on k)
  { t with heddle := { t.heddle with drainStart := t.now } }.forEach mine State.preempt

/-- The first skein of a list that fits starts its drain; those before it are deferred (R414). -/
def State.startTest (s : State) : List Nat → State
  | [] => s
  | k :: rest => if s.testFits k then s.startDrain k else (s.deferTest k Flg.HEDDLE_EVT_TEST_DEFER_FIT).startTest rest

/-- A TEST_IDLE slot opens: the suspect skeins of the slot go first, the lowest of them ahead, then the skein next due where
the slot contains it (R413, R414, R526). -/
def State.openTest (s : State) (x : Slot) : State :=
  if s.get Fld.HEDDLE_TEST_STATE_PHASE 0 ≠ 0 then s else
  let mine := s.liveSkeins.filter x.hasSkein
  let due := match s.oldest s.liveSkeins with
    | some k => if mine.contains k && !s.suspect k then [k] else []
    | none => []
  s.startTest (mine.filter s.suspect ++ due)

/-- Whether a TEST_IDLE slot that contains the skein is open. -/
def State.testOpen (s : State) (k : Nat) : Bool := s.openNow.any (fun x => x.cls == 3 && x.hasSkein k)

/-- A suspect skein is done with in this slot: the next suspect one of an open TEST_IDLE slot follows (R526). -/
def State.afterSuspect (s : State) (k : Nat) : State :=
  if s.dev = .run then s.startTest (s.liveSkeins.filter (fun j => decide (k < j) && s.suspect j && s.testOpen j)) else s

/-- The skein's slice is deferred, and a suspect skein makes way for the next one. -/
def State.giveUpTest (s : State) (k : Nat) (f : Flag) : State :=
  (s.deferTest k f).doIf (s.suspect k) (fun t => t.afterSuspect k)

/-- The skein's next slice starts if it fits in the open slot, and is deferred otherwise (R415, R526). -/
def State.trySlice (s : State) (k : Nat) : State :=
  if s.testFits k && s.testOpen k then
    if s.suspect k then s.startSlice k (Sparse.get 0 s.selv.suspectNext k) true
    else s.startSlice k (Sparse.get 0 s.selv.next k) false
  else s.giveUpTest k Flg.HEDDLE_EVT_TEST_DEFER_FIT

/-- DRAIN_END (R415): nothing runs on the skein's loom, vector engine and drafters. -/
def execDrainEnd (s : State) : Host.Outcome State Fault Refusal :=
  .next (
    let k := s.get Fld.HEDDLE_TEST_STATE_SKEIN 0
    let busy := s.cmds.any (fun c => decide (c.phase = .running) && c.engine.on k && decide (c.engine.kind ≠ 3))
    if s.get Fld.HEDDLE_TEST_STATE_PHASE 0 ≠ 1 ∨ busy = true then s else s.trySlice k)

/-- DRAIN_TIMEOUT (R415): HEDDLE_DRAIN_MAX ticks have passed. -/
def execDrainTimeout (s : State) : Host.Outcome State Fault Refusal :=
  .next (if s.get Fld.HEDDLE_TEST_STATE_PHASE 0 = 1 ∧ s.heddle.drainStart + s.get Fld.HEDDLE_DRAIN_MAX_TICKS 0 ≤ s.now then
    s.giveUpTest (s.get Fld.HEDDLE_TEST_STATE_SKEIN 0) Flg.HEDDLE_EVT_TEST_DEFER_DRAIN
  else s)

/-- Firmware retires a skein that has failed: an abort where it holds an admitted command, and a Selvedge fault where
it lies in a hank of a VALID pair (R419, R534). -/
def State.retireFaulty (s : State) (k : Nat) : State :=
  if !s.live k then s else
  let t := (s.retire k)
  let u := { t with selv := { t.selv with suspects := t.selv.suspects.filter (fun j => j != k) } }
  let v := if s.cmds.any (fun c => c.engine.on k || c.home.on k) then (u.jobFault 0 0 k).settle else u
  if (List.range 4).any (fun p => s.isSet Fld.SELV_PAIR_CFG_VALID p &&
      (s.get Fld.SELV_PAIR_CFG_MAIN_HANK p == k / 8 || s.get Fld.SELV_PAIR_CFG_CHECK_HANK p == k / 8)) then
    v.selvFault 3 0 k
  else v

/-- Coverage of a skein is complete: its rotation begins anew, for the next one takes all 16 slices from here on (R539,
R540). -/
def State.coverage (s : State) (k : Nat) : State :=
  { s with selv := { s.selv with
    next := Sparse.put 0 s.selv.next k 0
    covered := Sparse.insert s.selv.covered k s.now
    coveredRef := Sparse.insert s.selv.coveredRef k s.refTime
    warned := s.selv.warned.filter (fun j => j != k)
    faulted := s.selv.faulted.filter (fun j => j != k) } }

/-- A slice of the rotation passes. -/
def State.rotationPass (s : State) (x : Slice) : State :=
  let t := { s with selv := { s.selv with next := Sparse.put 0 s.selv.next x.skein ((x.slice + 1) % 16) } }
  if x.slice = 15 then t.coverage x.skein else t

/-- A slice of a suspect run passes: with the sixteenth the skein leaves suspect, and otherwise the next slice follows
where the slot allows (R526). -/
def State.suspectPass (s : State) (x : Slice) : State :=
  if !s.suspect x.skein then s.afterSuspect x.skein
  else if Sparse.get 0 s.selv.suspectNext x.skein ≠ x.slice then (if s.dev = .run then s.trySlice x.skein else s)
  else
    let t := { s with selv := { s.selv with suspectNext := Sparse.put 0 s.selv.suspectNext x.skein (x.slice + 1) } }
    if x.slice = 15 then
      (({ t with selv := { t.selv with suspects := t.selv.suspects.filter (fun j => j != x.skein) } }).coverage
        x.skein).afterSuspect x.skein
    else if t.dev = .run then t.trySlice x.skein
    else t

/-- The engines whose beats a slice spends, in the order of their kinds (R420). -/
def Slice.engines (x : Slice) : List Engine :=
  [.loom x.skein, .vec x.skein, .drafter x.skein 0, .prog x.skein 0, .ply (x.skein / 8), .digest]

/-- SLICE_END (R539): the slice that runs ends; its beats go to the package row (R420). -/
def execSliceEnd (pass plyFails : Bool) (beats : List Nat) (s : State) : Host.Outcome State Fault Refusal :=
  .next (match s.selv.running with
    | none => s
    | some x =>
      let t := ({ s with selv := { s.selv with running := none } }).set Fld.HEDDLE_TEST_STATE_PHASE 0 0
      let u := (t.forEach ((x.engines).zip beats) (fun t p => t.spend p.1 none 16 p.2)).testRun x.skein
      let ply := plyFails && x.slice == 15 && x.skein % 8 == 0
      let bad := (if ply then (List.range 8).map (fun i => x.skein + i) else []) ++ (if pass then [] else [x.skein])
      let v := u.forEach bad.eraseDups State.retireFaulty
      let w := if bad.contains x.skein then v.doIf x.suspect (fun v => v.afterSuspect x.skein) else if x.suspect then v.suspectPass x else v.rotationPass x
      w.startOverdue)

/-! ## Slots open and close -/

/-- Whether a slot of the active table contains the count. -/
def State.slotHolds (s : State) (x : Slot) : Bool :=
  decide (s.boundary + x.start ≤ s.now) && decide (s.now < s.boundary + x.stop)

/-- Slots whose span is over close. -/
def State.closeSlots (s : State) : State :=
  match s.heddle.active with
  | some t => { s with heddle := { s.heddle with openSlots := s.heddle.openSlots.filter (fun i =>
      match t.slots[i]? with
      | some x => s.slotHolds x
      | none => false) } }
  | none => s

/-- Slot i of the active table opens, if the count lies within it and it is not open (R397). -/
def State.openSlot (s : State) (i : Nat) : State :=
  match s.heddle.active with
  | none => s
  | some t => match t.slots[i]? with
    | none => s
    | some x =>
      if s.dev ≠ .run ∨ i ∈ s.heddle.openSlots ∨ ¬ s.slotHolds x then s
      else
        let u := s.closeSlots
        let v := ({ u with heddle := { u.heddle with
          openSlots := u.heddle.openSlots ++ [i]
          quiesced := u.heddle.quiesced.filter (fun j => j != i) } }).preemptFor x
        let w := if x.golden then v.startGolden x else v
        if x.cls = 3 then w.openTest x else w

/-- SLOT_OPEN (R397). -/
def execSlotOpen (slot : Nat) (s : State) : Host.Outcome State Fault Refusal := .next (s.openSlot slot)

/-- SLOT_CLOSE (R397). -/
def execSlotClose (slot : Nat) (s : State) : Host.Outcome State Fault Refusal :=
  .next (match s.heddle.active with
    | some t => match t.slots[slot]? with
      | some x => if s.slotHolds x then s
        else { s with heddle := { s.heddle with openSlots := s.heddle.openSlots.filter (fun j => j != slot) } }
      | none => s
    | none => s)

/-- QUIESCE_START (R402): the quiesce window of a slot begins. -/
def execQuiesceStart (slot : Nat) (s : State) : Host.Outcome State Fault Refusal :=
  .next (match s.heddle.active with
    | some t => match t.slots[slot]? with
      | some x =>
        let start := if s.now < s.boundary + x.start then s.boundary + x.start else s.boundary + t.cycle + x.start
        if s.dev = .run ∧ start ≤ s.now + s.get Fld.HEDDLE_QUIESCE_TICKS 0 ∧ ¬ slot ∈ s.heddle.quiesced ∧
            ¬ slot ∈ s.heddle.openSlots then
          { s with heddle := { s.heddle with quiesced := s.heddle.quiesced ++ [slot] } }
        else s
      | none => s
    | none => s)

/-! ## Boundaries -/

/-- Begins the cycle that starts `n` cycles of length `c` after the current one. -/
def State.advanceCycle (s : State) (c n : Nat) : State :=
  (s.set Fld.HEDDLE_CYCLE_START_TIME 0 (s.boundary + n * c)).accum Fld.HEDDLE_CYCLE_COUNT_COUNT 0 n

/-- The first boundary, counted from the current cycle's, at which an armed swap takes effect (R394). -/
def State.swapAfter (s : State) (c : Nat) : Nat := max 1 (ceilDiv (s.heddle.armAt + 1 - s.boundary) c)

/-- PENDING becomes ACTIVE at a boundary of the running cycle (R394). -/
def State.swapTable (s : State) : State :=
  let t := (s.set Fld.HEDDLE_TBL_CMD_ARM 0 0).set Fld.HEDDLE_CYCLE_EPOCH_TIME 0 s.boundary
  ({ t with heddle := { t.heddle with active := t.heddle.pending } }).raise Flg.HEDDLE_EVT_SWAPPED 0

/-- The cycle of the latest boundary at or before the count begins (R394, R397). -/
def State.crossCycles (s : State) : State :=
  match s.heddle.active with
  | none => s
  | some t =>
    let n := (s.now - s.boundary) / t.cycle
    if n = 0 then s else
    let k := s.swapAfter t.cycle
    let u :=
      if s.isSet Fld.HEDDLE_TBL_CMD_ARM 0 && decide (k ≤ n) then
        let v := (s.advanceCycle t.cycle k).swapTable
        match v.heddle.active with
        | some x => v.advanceCycle x.cycle ((v.now - v.boundary) / x.cycle)
        | none => v
      else s.advanceCycle t.cycle n
    { u with heddle := { u.heddle with openSlots := [], quiesced := [] } }

/-- CYCLE_BOUNDARY (R394). -/
def execCycleBoundary (s : State) : Host.Outcome State Fault Refusal :=
  .next (if s.dev = .run then s.crossCycles else s)

/-- STATE_REQ_RUN (R395): the run is to begin at the first boundary at or after the request. -/
def execStateReqRun (s : State) : Host.Outcome State Fault Refusal :=
  .next (s.hostReq (decide (s.dev = .standby) && s.heddle.pending.isSome) fun s =>
    { s with heddle := { s.heddle with runReq := true, runAt := s.now } })

/-- The first boundary at or after the RUN request, as HEDDLE_CYCLE_EPOCH and the pending table stand: boundaries lie at
HEDDLE_CYCLE_EPOCH + n × CYCLE (R395). -/
def State.runBoundary (s : State) (cycle : Nat) : Nat :=
  s.heddle.runAt + ((((s.get Fld.HEDDLE_CYCLE_EPOCH_TIME 0 : Nat) : Int) - s.heddle.runAt) % cycle).toNat

/-- RUN_START (R395): PENDING becomes ACTIVE, an ARM is cleared, and the first cycle begins. -/
def execRunStart (s : State) : Host.Outcome State Fault Refusal :=
  .next (match s.heddle.pending with
    | some t =>
      let b := s.runBoundary t.cycle
      if s.dev = .standby ∧ s.heddle.runReq ∧ b ≤ s.now then
        let u := ((s.set Fld.HEDDLE_CYCLE_START_TIME 0 (b + (s.now - b) / t.cycle * t.cycle)).accum
          Fld.HEDDLE_CYCLE_COUNT_COUNT 0 1).set Fld.HEDDLE_TBL_CMD_ARM 0 0
        ({ u with heddle := { u.heddle with
          active := some t, openSlots := [], quiesced := [], runReq := false } }).goBy .run 2 5
      else s
    | none => s)

/-- STATE_REQ_STANDBY (R29): fetching stops. -/
def execStateReqStandby (s : State) : Host.Outcome State Fault Refusal :=
  .next (s.hostReq (decide (s.dev = .run)) fun s => { s with heddle := { s.heddle with standbyReq := true } })

/-- RUN_EXIT (R29): a boundary finds every engine queue empty. -/
def execRunExit (s : State) : Host.Outcome State Fault Refusal :=
  .next (match s.heddle.active with
    | some t =>
      if s.dev = .run ∧ s.heddle.standbyReq ∧ s.boundary + t.cycle ≤ s.now ∧
          s.cmds.all (fun c => decide (c.phase = .ended)) then
        s.crossCycles.enterStandby 2
      else s
    | none => s)

/-! ## Forward steps (R397) -/

/-- How many of the counts `a`, `a + c`, `a + 2c`, … lie in (lo, hi). -/
def startsIn (a c lo hi : Nat) : Nat :=
  let below (x : Nat) : Nat := if x ≤ a then 0 else (x - 1 - a) / c + 1
  below hi - below (lo + 1)

/-- GOLDEN starts of a table that a step from `lo` to `hi` passes over: slot and number of starts. -/
def Table.passed (t : Table) (base lo hi : Nat) : List (Slot × Nat) :=
  ((t.slots.filter (fun x => x.golden)).map (fun x => (x, startsIn (base + x.start) t.cycle lo hi))).filter
    (fun p => decide (0 < p.2))

/-- Passed-over GOLDEN starts of a slot are reported, and each counts as a missed run of its live skeins. -/
def State.skipGolden (s : State) (p : Slot × Nat) : State :=
  let t := (s.raiseN Flg.HEDDLE_EVT_CYCLE_SKIP 0 p.2).raiseN Flg.SELV_EVT_TIME_FAULT 0 p.2
  t.forEach (s.liveSkeins.filter p.1.hasSkein) (fun t k =>
    { t with heddle := { t.heddle with missed := Sparse.put 0 t.heddle.missed k (Sparse.get 0 t.heddle.missed k + p.2) } })

/-- The GOLDEN starts that a forward step from `lo` to the present count passes over, with a swap that falls within the
step taken into account. -/
def State.passedGolden (s : State) (lo : Nat) : List (Slot × Nat) :=
  match s.heddle.active with
  | none => []
  | some t =>
    let swapAt := s.boundary + s.swapAfter t.cycle * t.cycle
    match s.heddle.pending with
    | some u =>
      if s.isSet Fld.HEDDLE_TBL_CMD_ARM 0 && decide (swapAt ≤ s.now) then
        t.passed s.boundary lo swapAt ++ u.passed swapAt (max lo (swapAt - 1)) s.now
      else t.passed s.boundary lo s.now
    | none => t.passed s.boundary lo s.now

/-- What a forward step in RUN does to the cycle; `lo` is the count before it. -/
def State.stepCycle (s : State) (lo : Nat) : State :=
  if s.dev ≠ .run then s else
  let passed := s.passedGolden lo
  let t := s.forEach passed State.skipGolden
  let worst := passed.any (fun p => s.liveSkeins.any (fun k =>
    p.1.hasSkein k && decide (2 ≤ Sparse.get 0 t.heddle.missed k)))
  let u := if worst then t.selvFault 4 0 72 else t
  let v := u.crossCycles.closeSlots
  match v.heddle.active with
  | some x => v.forEach (List.range x.slots.length) State.openSlot
  | none => v

/-! ## Accounting (R421) -/

/-- The weighted beats of an accounting row in this interval. -/
def State.weighted (s : State) (row : Nat) : Nat :=
  ((List.range 6).map (fun k => s.get Fld.HEDDLE_ACCT_W_WEIGHT k * Sparse.get 0 s.heddle.interval (ix row k))).sum

/-- ACCOUNTING_INTERVAL (R421): 1 ms of Whorl time has passed; energy in 2⁻¹⁶ mJ. -/
def execAccountingInterval (s : State) : Host.Outcome State Fault Refusal :=
  .next (if !s.powered || (decide (s.heddle.intervalAt ≤ s.now) && decide (s.now < s.heddle.intervalAt + 4000000)) then s
  else
    let now := s.get Fld.PWR_ENERGY_ENERGY 0
    let e := (now + 2 ^ 64 - s.heddle.energyAt) % 2 ^ 64
    let idle := min e (s.get Fld.HEDDLE_ACCT_IDLE_MW 0 * 65536 / 1000)
    let rest := e - idle
    let total := ((List.range 17).map s.weighted).sum
    let share (c : Nat) : Nat := if total = 0 then 0 else rest * s.weighted c / total
    let given := ((List.range 16).map share).sum
    let t := s.forEach (List.range 16) (fun t c => t.accum Fld.HEDDLE_ACCT_ENERGY_COUNT c (share c))
    let u := t.accum Fld.HEDDLE_ACCT_ENERGY_COUNT 16 (e - given)
    { u with heddle := { u.heddle with interval := [], intervalAt := s.now, energyAt := now } })

end Sys2Proof.Machine
end

