-- ==== Sys2Proof/Machine/Whorl.lean ====
section
/-! DEFINITION. Whorl time (R39 to R50): the tick, steps and holds, time domains (R44, R470 to R474), the reference
clock (R42), the time wave (R49), the beat monitor (R61) and TIME_IN stamps (R475, R476). -/

namespace Sys2Proof.Machine

/-! ## The tick -/

/-- The whole of a tick in the units of the carried fraction: 2⁻¹⁶ ppb (R41). -/
def Whorl.unit : Nat := 2 ^ 16 * 1000000000

/-- One tick of the count with a rate correction: the whole ticks gained and the fraction left (R41). -/
def Whorl.advance (w : Whorl) (rate : Int) : Nat × Nat :=
  let total := ((w.fraction + Whorl.unit : Nat) : Int) + rate
  ((total / Whorl.unit).toNat, (total % Whorl.unit).toNat)

/-- The count after one tick of 250 ps (R39 to R47): it stands still in RESET and during a hold, runs without correction
in SLEEP and OFF, and with WHORL_RATE_ADJ otherwise, which takes effect at the next reference period. -/
def State.tickCount (s : State) : State :=
  let w := s.whorl
  match s.dev with
  | .reset => s
  | .off => if s.aon.up then { s with whorl := { w with count := w.count + 1 } } else s
  | .sleep => { s with whorl := { w with count := w.count + 1 } }
  | _ =>
    let rate := if s.refTime % 40 = 0 then BitVec.ofNat 32 (s.get Fld.WHORL_RATE_ADJ_ADJ 0) else w.rate
    if w.hold ≠ 0 then
      ({ s with whorl := { w with hold := w.hold - 1, rate := rate } }).setBit Fld.WHORL_STATUS_HOLDING 0 (decide (1 < w.hold))
    else
      let a := w.advance rate.toInt
      { s with whorl := { w with count := w.count + BitVec.ofNat 64 a.1, fraction := a.2, rate := rate } }

/-- One tick of reference time, which ends the beat of the one before.  Parity faults of the bobbins may arise in it
(R106). -/
def State.passTick (s : State) : State :=
  let t := s.settleSleep.tickCount
  { t with
    refTime := t.refTime + 1
    badParity := Config.upset t.refTime ++ t.badParity
    pathFaults := Config.pathUpset t.refTime ++ t.pathFaults }

/-! ## Steps and holds (R44 to R46) -/

/-- A hold of `n` ticks takes the place of the one in progress. -/
def State.setHold (s : State) (n : Nat) : State :=
  ({ s with whorl := { s.whorl with hold := n } }).setBit Fld.WHORL_STATUS_HOLDING 0 (decide (n ≠ 0))

/-- The count changes at once; a step of non-zero amount sets STEPPED, and in RUN it acts on the cycle (R397). -/
def State.stepTo (s : State) (count : Nat) : State :=
  if count = s.now then s else
  let t := ({ s with whorl := { s.whorl with count := BitVec.ofNat 64 count } }).raise Flg.WHORL_EVT_STEPPED 0
  if s.now < count then t.stepCycle s.now else t

/-- A step request; none where it is refused. -/
def State.stepBy (s : State) (d : Int) : Option State :=
  let sum := d - (s.whorl.hold : Int)
  if sum < 0 ∧ (s.dev = .run ∨ s.whorl.hold ≠ 0) then
    if sum.natAbs ≤ s.get Fld.WHORL_HOLD_MAX_TICKS 0 then some (s.setHold sum.natAbs) else none
  else if (s.now : Int) + sum < 0 ∨ 2 ^ 64 ≤ (s.now : Int) + sum then none
  else some ((s.setHold 0).stepTo ((s.now : Int) + sum).toNat)

/-- A step or a domain write is refused. -/
def State.stepRefused (s : State) : State := s.raise Flg.WHORL_EVT_STEP_REFUSED 0

/-- WHORL_STEP_WRITE (R44 to R46). -/
def execWhorlStepWrite (step : BitVec 64) (s : State) : Host.Outcome State Fault Refusal :=
  .next (s.host fun s => match s.stepBy step.toInt with
    | some t => t
    | none => s.stepRefused)

/-- HOLD_END (R45): reference time reaches the end of the hold, and the count has not moved. -/
def execHoldEnd (s : State) : Host.Outcome State Fault Refusal :=
  .next (
    let n := s.whorl.hold
    if n = 0 ∨ s.sleeping = true then s else
    let rate := if (s.refTime + 39) / 40 * 40 < s.refTime + n then BitVec.ofNat 32 (s.get Fld.WHORL_RATE_ADJ_ADJ 0)
      else s.whorl.rate
    let t := s.setHold 0
    { t with refTime := t.refTime + n, whorl := { t.whorl with rate := rate } })

/-! ## Time domains (R43, R44, R470 to R474) -/

/-- The active domain. -/
def State.domain (s : State) : Nat := s.get Fld.WHORL_CTRL_DOMAIN 0

/-- Makes a domain the active one. -/
def State.setDomain (s : State) (d : Nat) : State :=
  (((s.set Fld.WHORL_CTRL_DOMAIN 0 d).setBit Fld.WHORL_DOMSET_STATUS_ACTIVE 0 (d == 1)).setBit
    Fld.WHORL_DOMSET_STATUS_ACTIVE 1 (d == 2))

/-- OFS of a set. -/
def State.ofs (s : State) (set : Nat) : Int := s.getInt Fld.WHORL_DOMSET_OFS_OFS set

/-- Takes an amount off the OFS of a set. -/
def State.lessOfs (s : State) (set : Nat) (d : Int) : State :=
  s.set Fld.WHORL_DOMSET_OFS_OFS set (unsigned 64 (s.ofs set - d))

/-- The count joins the domain of a set with a step of its OFS, which both sets lose (R44, R472); none where the step
is refused. -/
def State.joinSet (s : State) (set : Nat) : Option State :=
  let d := s.ofs set
  match s.stepBy d with
  | some t => some (((t.lessOfs 0 d).lessOfs 1 d).setDomain (set + 1))
  | none => none

/-- A switch between the two gPTP sets (R472); none where it is refused. -/
def State.switchSet (s : State) (set : Nat) : Option State :=
  if !s.isSet Fld.WHORL_DOMSET_CFG_VALID set then none else
  (s.joinSet set).map (fun t => t.set Fld.WHORL_RATE_ADJ_ADJ 0 (s.get Fld.WHORL_DOMSET_RATE_RATE set))

/-- A write of WHORL_CTRL.DOMAIN (R44, R45). -/
def State.writeDomain (s : State) (d : Nat) : State :=
  let cur := s.domain
  let gptp := d = 1 ∨ d = 2
  if d = cur then s
  else if gptp ∧ (cur = 1 ∨ cur = 2) then (s.switchSet (d - 1)).getD s.stepRefused
  else if 3 < d ∨ s.dev = .run then s.stepRefused
  else if gptp then
    if s.isSet Fld.WHORL_DOMSET_CFG_VALID (d - 1) then (s.joinSet (d - 1)).getD s.stepRefused else s.stepRefused
  else s.setDomain d

/-- DOMAIN_WRITE (R44). -/
def execDomainWrite (domain : Nat) (s : State) : Host.Outcome State Fault Refusal :=
  .next (s.host fun s => s.writeDomain domain)

/-- A write of the high half of WHORL_DOMd_OFS (R471). -/
def State.writeOfs (s : State) (set v : Nat) : State :=
  let t := ((s.set Fld.WHORL_DOMSET_OFS_OFS set v).set Fld.WHORL_DOMSET_STATUS_LOST set 0)
  let u := { t with net := { t.net with written := Sparse.insert t.net.written set t.refTime } }
  if u.domain = set + 1 ∧ u.get Fld.WHORL_DOMSET_STEP_TICKS set < (u.ofs set).natAbs then
    match u.stepBy (u.ofs set) with
    | some x => (x.lessOfs set (u.ofs set)).raise Flg.WHORL_DOM_EVT_DOM_STEP 0
    | none => u.stepRefused
  else u

/-- A write of WHORL_DOMd_RATE (R471). -/
def State.writeRate (s : State) (set v : Nat) : State :=
  let t := s.set Fld.WHORL_DOMSET_RATE_RATE set v
  if s.domain = set + 1 then t.set Fld.WHORL_RATE_ADJ_ADJ 0 v else t

/-- DOM_OFS_WRITE (R471). -/
def execDomOfsWrite (set : Nat) (ofs : BitVec 64) (s : State) : Host.Outcome State Fault Refusal :=
  .next (s.host fun s => s.writeOfs set ofs.toNat)

/-- DOM_RATE_WRITE (R471). -/
def execDomRateWrite (set : Nat) (rate : BitVec 32) (s : State) : Host.Outcome State Fault Refusal :=
  .next (s.host fun s => s.writeRate set rate.toNat)

/-- The active set is lost without a switch: a time fault (R473, Table 18.3). -/
def State.domainFault (s : State) : State := s.timeFault (s.isSet Fld.SELV_TIME_CFG_DOM_FAULT 0)

/-- DOMAIN_LOST (R473): OFS of the set has not been written for LOSS µs. -/
def execDomainLost (set : Nat) (s : State) : Host.Outcome State Fault Refusal :=
  .next (
    let written := Sparse.get 0 s.net.written set
    if !s.powered || s.isSet Fld.WHORL_DOMSET_STATUS_LOST set ||
      decide (s.refTime < written + s.get Fld.WHORL_DOMSET_LOSS_US set * Config.us) then s
    else
      let t := (s.set Fld.WHORL_DOMSET_STATUS_LOST set 1).raise Flg.WHORL_DOM_EVT_DOM_LOST 0
      let other := 1 - set
      if t.domain ≠ set + 1 then t
      else if t.isSet Fld.WHORL_DOMSET_CFG_AUTO_SWITCH 0 && t.isSet Fld.WHORL_DOMSET_CFG_VALID other &&
          !t.isSet Fld.WHORL_DOMSET_STATUS_LOST other then
        match t.switchSet other with
        | some u => u.raise Flg.WHORL_DOM_EVT_AUTO_SWITCHED 0
        | none => t.stepRefused.domainFault
      else t.domainFault)

/-! ## The reference clock (R42, R536) -/

/-- REFCLK_LOST (R42). -/
def execRefclkLost (s : State) : Host.Outcome State Fault Refusal :=
  .next (
    let t := { s with whorl := { s.whorl with refValid := false, lostAt := s.refTime, expired := false } }
    if s.powered && s.whorl.refValid then
      (((t.set Fld.WHORL_STATUS_HOLDOVER 0 1).set Fld.WHORL_STATUS_REF_LOCK 0 0).raise
        Flg.WHORL_EVT_REF_LOST 0).timeFault (s.isSet Fld.SELV_TIME_CFG_REF_FAULT 0)
    else if s.whorl.refValid then t
    else s)

/-- REFCLK_RESTORED (R42): a valid reference has been present for 10 µs; the count returns to it without a step. -/
def execRefclkRestored (s : State) : Host.Outcome State Fault Refusal :=
  .next (
    let t := { s with whorl := { s.whorl with refValid := true } }
    if s.powered then (t.set Fld.WHORL_STATUS_HOLDOVER 0 0).set Fld.WHORL_STATUS_REF_LOCK 0 1 else t)

/-- REF_HOLD_EXPIRE (R536): REF_HOLD ms of holdover. -/
def execRefHoldExpire (s : State) : Host.Outcome State Fault Refusal :=
  .next (if s.timed && s.isSet Fld.WHORL_STATUS_HOLDOVER 0 && !s.whorl.refValid && !s.whorl.expired &&
      decide (s.whorl.lostAt + s.get Fld.SELV_TIMING_REF_HOLD 0 * 1000 * Config.us ≤ s.refTime) then
    ({ s with whorl := { s.whorl with expired := true } }).selvFault 4 0 72
  else s)

/-! ## The time wave (R49) -/

/-- A replica has loaded a good frame after a slip: the Selvedge is told (R49, R536). -/
def State.resync (s : State) (source : Nat) : State :=
  let recent := s.selv.slips.filter (fun t => decide (s.refTime < t + 1000000 * Config.us)) ++ [s.refTime]
  let t := { s with selv := { s.selv with slips := recent } }
  ((t.set Fld.WHORL_SLIP_SRC_SOURCE 0 source).raise Flg.WHORL_EVT_WAVE_SLIP 0).timeFault
    (decide (s.get Fld.SELV_TIME_CFG_SLIP_MAX 0 < recent.length))

/-- TIME_WAVE_FRAME (R49). -/
def execTimeWaveFrame (bad : List Nat) (s : State) : Host.Outcome State Fault Refusal :=
  .next (if !s.powered then s else
    let back := s.whorl.unsynced.filter (fun r => !bad.contains r)
    let left := (s.whorl.unsynced.filter (fun r => bad.contains r) ++ bad).eraseDups
    let t := ({ s with whorl := { s.whorl with unsynced := left } }).setBit Fld.WHORL_STATUS_WAVE_OK 0 left.isEmpty
    t.forEach back State.resync)

/-- The replica of an engine's unit (Table 2.6). -/
def Engine.replica : Engine → Nat
  | .loom k | .vec k | .drafter k _ | .prog k _ => k
  | .ply h => 64 + h
  | _ => 72

/-- Whether an engine's replica is synchronised; a unit takes no launch decision otherwise (R49). -/
def State.synced (s : State) (e : Engine) : Bool := !s.whorl.unsynced.contains e.replica

/-- The command that runs on a loom. -/
def State.loomCmd (s : State) (k : Nat) : Option Cmd :=
  s.cmds.find? (fun c => decide (c.engine = .loom k) && decide (c.phase = .running))

/-- The looms that are at work: on a command, a golden run or a field-test slice. -/
def State.busyLooms (s : State) : List Nat :=
  (List.range 64).filter (fun k => (s.loomCmd k).isSome || s.inGolden k ||
    (match s.selv.running with
      | some x => x.skein == k
      | none => false))

/-- The beats that a loom's count has gained in this interval. -/
def State.beatsDone (s : State) (k : Nat) : Nat :=
  Sparse.get 0 s.heddle.beats k - Sparse.get 0 s.heddle.beatBase k

/-- Whether what a loom's count has gained may hold beats of an earlier interval: its work in progress was not sampled at the
last one's end, or that end has been passed over. -/
def State.beatsMixed (s : State) (k : Nat) : Bool :=
  s.heddle.unsampled.contains k || s.now / 4000 != s.heddle.beatAt + 1

/-- The beats that a loom has completed in the interval: what its count has gained, and where it is at work now, what the
sample `beats` of its work in progress shows beyond that. -/
def State.beatSample (s : State) (k beats : Nat) : Nat :=
  if s.busyLooms.contains k then (if s.beatsMixed k then beats else max beats (s.beatsDone k))
  else if s.beatsMixed k then min beats (s.beatsDone k) else s.beatsDone k

/-- BEATMON_UPDATE (R61): an interval of 4,000 ticks has ended; the loom that WHORL_BEATMON_SEL names shows the beats by which
its own count has gone up in it (R35), which count the sampled beats of its work in progress. -/
def execBeatmonUpdate (beats : Nat) (s : State) : Host.Outcome State Fault Refusal :=
  .next (if !s.powered || s.now / 4000 == s.heddle.beatAt then s
    else
      let k := s.get Fld.WHORL_BEATMON_SEL_SKEIN 0
      let b := s.beatSample k beats
      let more := if s.busyLooms.contains k then b - s.beatsDone k else 0
      let work := workOf (.loom k) (s.loomCmd k)
      let t := (s.set Fld.WHORL_BEATMON_BEATS 0 b).countBeats k more
      { t with heddle := { t.heddle with
        sampled := Sparse.put 0 t.heddle.sampled work (Sparse.get 0 t.heddle.sampled work + more)
        beatBase := t.heddle.beats
        unsampled := s.busyLooms.filter (fun i => i != k || s.beatsMixed i)
        beatAt := s.now / 4000 } })

/-! ## TIME_IN (R475, R476) -/

/-- The stamps that a pin holds. -/
def State.tinFifo (s : State) (pin : Nat) : List (Nat × Bool) := Sparse.get [] s.net.fifos pin

/-- Whether EDGE of a pin selects an edge. -/
def State.tinSelects (s : State) (pin : Nat) (rising : Bool) : Bool :=
  match s.get Fld.WHORL_TINPIN_CFG_EDGE pin with
  | 0 => rising
  | 1 => !rising
  | _ => true

/-- An edge of a pin whose filter has passed it is stamped; one that finds the FIFO full is not stored (R476). -/
def State.tinStamp (s : State) (pin : Nat) (rising : Bool) : State :=
  if 16 ≤ (s.tinFifo pin).length then
    (((s.set Fld.WHORL_TIN_EVT_OVERRUN 0 (s.get Fld.WHORL_TIN_EVT_OVERRUN 0 ||| 2 ^ pin)).count
      Fld.WHORL_TIN_EVT_CNT_COUNT pin 1)).raiseSource 21
  else { s with net := { s.net with fifos := Sparse.insert s.net.fifos pin (s.tinFifo pin ++ [(s.now, !rising)]) } }

/-- The filtered level of a pin. -/
def State.tinLevel (s : State) (pin : Nat) (high : Bool) : State :=
  { s with net := { s.net with levels := Sparse.insert s.net.levels pin high } }

/-- TIME_IN_EDGE (R475): the level after an edge counts once it is held for FILTER × 4 ticks, so both edges of a shorter
pulse are ignored. -/
def execTimeInEdge (pin : Nat) (rising : Bool) (ticks : Nat) (s : State) : Host.Outcome State Fault Refusal :=
  .next (if !s.powered then s
    else
      let before := (Sparse.find s.net.levels pin).getD (!rising)
      if ticks < 4 * s.get Fld.WHORL_TINPIN_CFG_FILTER pin then s.tinLevel pin before
      else if before = rising then s
      else (s.tinLevel pin rising).doIf (s.isSet Fld.WHORL_TINPIN_CFG_EN pin && s.tinSelects pin rising) fun s => s.tinStamp pin rising)

/-- TIN_STAMP_HIGH_READ (R476): the high half of the captured stamp; the first such read removes the head. -/
def execTinStampHighRead (pin : Nat) (s : State) : Host.Outcome State Fault Refusal :=
  .next (s.host fun s =>
    let t := { s with hostRead := Sparse.get 0 s.shadows (Reg.WHORL_TINPIN_STAMP.base + 0x10 * pin) / 2 ^ 32 }
    if s.net.captured.contains pin then
      { t with net := { t.net with
        fifos := Sparse.put [] t.net.fifos pin ((t.tinFifo pin).drop 1)
        captured := t.net.captured.filter (fun p => p != pin) } }
    else t)

end Sys2Proof.Machine
end

