-- ==== Sys2Proof/Machine/Port.lean ====
section
/-! DEFINITION. Idward ports (R423 to R431, R443 to R445): training, loss, arriving flits, replay, SYNC, and the
transactions that arrive. -/

namespace Sys2Proof.Machine

/-! ## Requests that end without a reply -/

/-- A request ends with a status: its MOVE, or the job of its relay or dispatcher (R430, R431). -/
def State.endReq (s : State) (r : Req) (status : Nat) : State :=
  match r.expect with
  | .write uid => s.moveRefused uid status
  | .read uid _ => s.moveRefused uid status
  | .relay job => s.jobFault status job 72
  | .batch id _ => match s.iwl.batches.find? (fun b => b.id == id) with
    | some b => s.jobFault status (s.get Fld.IWL_DISP_CFG_JOB b.disp) 72
    | none => s

/-! ## Port states (R429, R430) -/

/-- Bytes received on a VC and not yet consumed. -/
def Port.stream (x : Port) (vc : Nat) : List Byte := ((x.rx.filter (fun f => f.1 == vc)).map Prod.snd).flatten

/-- The whole transactions at the front of a byte stream. -/
def wholeTxs : Nat → List Byte → List (List Byte)
  | 0, _ => []
  | fuel + 1, b =>
    if b.length < 16 ∨ b.length < txLength b then [] else b.take (txLength b) :: wholeTxs fuel (b.drop (txLength b))

/-- The whole transactions of a VC in a port's receive buffer. -/
def Port.whole (x : Port) (vc : Nat) : List (List Byte) :=
  let b := x.stream vc
  wholeTxs (b.length / 16) b

/-- The barrier messages that wait whole in a port's receive buffers. -/
def Port.barriers (x : Port) : Nat :=
  (((List.range 6).map x.whole).flatten.filter (fun tx => txType tx == 0x04)).length

/-- The transactions that have arrived on the parcel VCs and wait, those of this package to itself included. -/
def State.parcelsWaiting (s : State) : List (List Byte) :=
  s.iwl.loop ++ ((List.range 6).map (fun p => ([4, 5].map (fun vc =>
    (s.port p).whole vc)).flatten)).flatten

/-- The parcels for this package that have arrived whole and wait, in the order of their arrival (R450). -/
def State.noteParcels (s : State) : State :=
  let here := (s.parcelsWaiting.filter (fun tx => txType tx == 0x05 && txDst tx == s.pkg)).map (fun tx => (txSrc tx, txXid tx))
  let old := s.iwl.parcels.filter (fun p => here.contains p)
  { s with iwl := { s.iwl with parcels := old ++ here.filter (fun p => !old.contains p) } }

/-- What a lost port held of a transaction: a barrier message is dropped and its job faulted, a request or a parcel of
another package is refused with reason 6, a reply is dropped (R430, R438, R442). -/
def State.dropHeld (s : State) (p : Nat) (h : Held) : State :=
  if txType h.tx = 0x04 then
    let t := s.raiseIwl Flg.IWL_EVT_BARRIER_FAIL p
    match h.job with
    | some job => t.jobFault 0x0502 job 72
    | none => t
  else if 0x80 ≤ txType h.tx ∨ txSrc h.tx = s.pkg then s
  else s.route 16 none (s.refusal h.tx 6) none 2

/-- What a port keeps when it leaves UP: the stamps of the last SYNC that it has received (R444, R445). -/
def Port.emptied (x : Port) : Port := { Port.reset with peerTx := x.peerTx, peerRx := x.peerRx, heardAt := x.heardAt }

/-- A port goes to a state in which it holds nothing. -/
def State.emptyPort (s : State) (p state : Nat) : State :=
  ((s.putPort p (s.port p).emptied).set Fld.IWL_P_STATUS_STATE p state).set Fld.IWL_P_STATUS_LANE_LOCK p 0

/-- Whether the loss of a port ends a request: the port holds part of it that the neighbour has not acknowledged, or its
reply must cross the port (R430). -/
def Req.lostWith (r : Req) (x : Port) (p : Nat) : Bool :=
  r.back == p || (r.port == p && decide (Sparse.get 0 x.done r.vc < r.upto))

/-- The requests and parcels of other packages that a port passed on, or whose replies it would, and whose replies must cross it
(R430); what the port itself still holds of a request is refused as such. -/
def State.lostTransit (s : State) (p : Nat) : List (List Byte) :=
  let via (dst : Nat) : Bool := match s.nextHop dst with
    | some (q, _, _) => q == p
    | none => false
  s.iwl.transit.filter (fun tx => s.retraces (txSrc tx) (txDst tx) && (via (txDst tx) || via (txSrc tx)) &&
    !(s.port p).held.any (fun h => txSrc h.tx == txSrc tx && txXid h.tx == txXid tx))

/-- Requests that left by a port which holds nothing of them any more. -/
def State.forgetSent (s : State) (p : Nat) : State :=
  { s with iwl := { s.iwl with reqs := s.iwl.reqs.map (fun (r : Req) => if r.port = p then { r with upto := 0 } else r) } }

/-- A port leaves UP: what it held goes, and what waited for it or for a reply across it ends with LINK_DOWN; a barrier message
in its receive buffers is dropped (R430, R442). -/
def State.portLost (s : State) (p state : Nat) : State :=
  let waiting := s.iwl.reqs.filter (fun r => r.lostWith (s.port p) p)
  let held := (s.port p).held
  let lost := s.lostTransit p
  let t := (s.emptyPort p state).raiseIwl Flg.IWL_EVT_LINK_DOWN p
  let u := (t.forgetSent p).forEach waiting (fun u r => (u.dropReq r.xid).endReq r 0x0502)
  let v := (u.forEach held (fun u h => u.dropHeld p h)).forEach (List.range (s.port p).barriers)
    (fun u _ => u.raiseIwl Flg.IWL_EVT_BARRIER_FAIL p)
  let w := v.forEach lost (fun u tx => u.route 16 none (u.refusal tx 6) none 2)
  { w with iwl := { w.iwl with transit := w.iwl.transit.filter (fun tx => !lost.contains tx) } }.settle

/-- The state of a port that leaves UP by itself. -/
def State.fallState (s : State) (p : Nat) : Nat := if s.isSet Fld.IWL_P_CTRL_AUTO_RETRAIN p then 1 else 0

/-- A write of 1 to EN of a port. -/
def State.portOn (s : State) (p : Nat) : State :=
  let t := s.set Fld.IWL_P_CTRL_EN p 1
  if s.get Fld.IWL_P_STATUS_STATE p = 0 then t.emptyPort p 1 else t

/-- A write of 0 to EN of a port. -/
def State.portOff (s : State) (p : Nat) : State :=
  let t := s.set Fld.IWL_P_CTRL_EN p 0
  if s.portUp p then t.portLost p 0 else t.emptyPort p 0

/-- PORT_ENABLE (R429). -/
def execPortEnable (port : Nat) (s : State) : Host.Outcome State Fault Refusal :=
  .next (s.host fun s => if port < 6 then s.portOn port else s)

/-- PORT_DISABLE (R429). -/
def execPortDisable (port : Nat) (s : State) : Host.Outcome State Fault Refusal :=
  .next (s.host fun s => if port < 6 then s.portOff port else s)

/-- PORT_TRAINED (R429): lanes lock, then the FEC, then the neighbour is checked. -/
def execPortTrained (port lanes : Nat) (fec : Bool) (neighbour : Nat) (s : State) : Host.Outcome State Fault Refusal :=
  .next (if 6 ≤ port ∨ s.get Fld.IWL_P_STATUS_STATE port ≠ 1 then s else
    let t := s.set Fld.IWL_P_STATUS_LANE_LOCK port lanes
    if lanes % 16 ≠ 15 ∨ fec = false then t else
    let u := t.set Fld.IWL_P_STATUS_NEIGHBOUR port neighbour
    if s.neighbour port = some neighbour then
      (u.set Fld.IWL_P_STATUS_STATE port 2).putPort port
        { (s.port port).emptied with ackAt := s.refTime, sentAt := s.refTime }
    else (u.set Fld.IWL_P_STATUS_STATE port 0).raiseIwl Flg.IWL_EVT_MISWIRED port)

/-- LINK_DOWN (R430): a port leaves UP. -/
def execLinkDown (port : Nat) (s : State) : Host.Outcome State Fault Refusal :=
  .next (if s.portUp port then s.portLost port (s.fallState port) else s)

/-! ## Arriving transactions -/

/-- Takes bytes of a VC out of the received flits; a flit whose body is used up is freed. -/
def dropBytes (vc : Nat) : Nat → List (Nat × List Byte) → List (Nat × List Byte)
  | _, [] => []
  | n, (v, b) :: rest =>
    if v ≠ vc ∨ n = 0 then (v, b) :: dropBytes vc n rest
    else if b.length ≤ n then dropBytes vc (n - b.length) rest
    else (v, b.drop n) :: rest

/-- The transaction at the front of a VC of a port, once it is whole; port 6 is the package itself. -/
def State.front (s : State) (p vc : Nat) : Option (List Byte) :=
  if p = 6 then s.iwl.loop.find? (fun tx => txClass (txType tx) == vc / 2)
  else
    let b := (s.port p).stream vc
    if b.length < 16 ∨ b.length < txLength b then none else some (b.take (txLength b))

/-- Takes the first element equal to one out of a list. -/
def removeFirst (tx : List Byte) : List (List Byte) → List (List Byte)
  | [] => []
  | a :: rest => if a = tx then rest else a :: removeFirst tx rest

/-- Takes the transaction at the front of a VC out; the flits that it frees return their credits (R427). -/
def State.consume (s : State) (p vc : Nat) (tx : List Byte) : State :=
  if p = 6 then { s with iwl := { s.iwl with loop := removeFirst tx s.iwl.loop } }.modPort 6
    (fun x => { x with blocked := x.blocked.filter (fun v => v != vc) })
  else (s.modPort p (fun x =>
    let rest := dropBytes vc tx.length x.rx
    { x with
      rx := rest, blocked := x.blocked.filter (fun v => v != vc)
      owed := Sparse.put 0 x.owed vc (Sparse.get 0 x.owed vc + (x.rx.length - rest.length)) })).pump p

/-- Whether a transaction is one of Table 14.3 and travels on a VC of its class. -/
def txKnown (vc : Nat) (tx : List Byte) : Bool :=
  [0x01, 0x02, 0x03, 0x04, 0x05, 0x81, 0x82, 0x83, 0x84].contains (txType tx) && txClass (txType tx) == vc / 2

/-- A transaction of another package that passes through: a request or a parcel is remembered until its reply passes (R430). -/
def State.noteTransit (s : State) (tx : List Byte) : State :=
  let l := s.iwl.transit
  let m :=
    if 0x80 ≤ txType tx then l.filter (fun q => !(txSrc q == txDst tx && txXid q == txXid tx))
    else if txType tx = 0x04 then l
    else l ++ [tx.take 16]
  { s with iwl := { s.iwl with transit := m } }

/-- Transactions of a VC that are not for this package go on along their route (R438), until one stands in front that is. -/
def State.passOn (s : State) (p vc : Nat) : Nat → State
  | 0 => s
  | fuel + 1 =>
    match s.front p vc with
    | none => s
    | some tx =>
      if txDst tx ≠ s.pkg then
        (((s.consume p vc tx).noteTransit tx).route 16 none tx (some (portDim p, vc % 2 == 1)) 2).passOn p vc fuel
      else if txKnown vc tx then s
      else (s.consume p vc tx).passOn p vc fuel

/-- Takes out a transaction of a type and lets what stands behind it move on. -/
def State.takeTx (s : State) (p vc tt : Nat) : Option (List Byte × State) :=
  match s.front p vc with
  | none => none
  | some tx =>
    if txType tx ≠ tt ∨ txDst tx ≠ s.pkg ∨ 6 < p ∨ (p < 6 ∧ ¬ s.portUp p) then none else
    let t := s.consume p vc tx
    some (tx, if p = 6 then t else t.passOn p vc (t.port p).rx.length)

/-! ## Flits (R425 to R428) -/

/-- TYPE of a flit. -/
def flitType (b : List Byte) : Nat := fieldOf b 0 1 % 16
/-- VC of a flit. -/
def flitVc (b : List Byte) : Nat := fieldOf b 0 1 / 16 % 8
/-- Body bytes of a flit that are in use. -/
def flitBody (b : List Byte) : List Byte := (b.drop 10).take (min (fieldOf b 1 1) 242)

/-- Whether a flit is good: its CRC holds and its TYPE and VC are not reserved. -/
def flitGood (b : List Byte) : Bool :=
  b.length == 256 && crc32 (b.take 252) == fieldOf b 252 4 && decide (flitType b < 4) && decide (flitVc b < 6)

/-- A gap in the sequence: one NAK that names the last good flit. -/
def State.nak (s : State) (p : Nat) : State :=
  s.modPort p (fun x => if x.naked then x else { x.send 2 0 0 [] with naked := true })

/-- An acknowledgement frees the replay buffer up to the flit that it names. -/
def Port.acked (x : Port) (seq now : Nat) : Port :=
  match x.replay.findIdx? (fun r => r.seq == seq) with
  | some i =>
    let done := (x.replay.take (i + 1)).foldl (fun m r =>
      Sparse.put 0 m r.vc (Sparse.get 0 m r.vc + (r.parts.map (fun q => q.2.length)).sum)) x.done
    { x with
      replay := x.replay.drop (i + 1)
      done := done
      held := x.held.filter (fun h => decide (Sparse.get 0 done h.vc < h.upto))
      fruitless := 0
      ackAt := now }
  | none => x

/-- A credit return (R427). -/
def Port.credited (x : Port) (vc n : Nat) : Port := { x with spent := Sparse.put 0 x.spent vc (Sparse.get 0 x.spent vc - n) }

/-- What every good flit carries takes effect: the body bytes are counted, the acknowledgement and the credits taken. -/
def State.flitControl (s : State) (p : Nat) (b : List Byte) : State :=
  (s.accum Fld.IWL_P_RX_BYTES_BYTES p (flitBody b).length).modPort p (fun x =>
    let y := if fieldOf b 4 2 / 2 ^ 15 = 1 then x.acked (fieldOf b 4 2 % 4096) s.refTime else x
    (y.credited (fieldOf b 6 1 % 8) (fieldOf b 7 1)).credited (fieldOf b 8 1 % 8) (fieldOf b 9 1))

/-- The codeword that holds flit n of a stream whole, none for a flit that lies in two: a codeword carries 5,140 bits of the
stream and a flit has 2,048 (R424). -/
def wholeCodeword (n : Nat) : Option Nat :=
  if (2048 * n + 2047) / 5140 = 2048 * n / 5140 then some (2048 * n / 5140) else none

/-- The FEC counts at a flit: corrected symbols, and a codeword that is uncorrectable, once (R424).  Every codeword holds a
flit whole, which fails with it. -/
def State.fecCounts (s : State) (p corrected : Nat) (failed : Bool) : State :=
  let x := s.port p
  let t := (s.putPort p { x with flits := x.flits + 1 }).count Fld.IWL_P_FEC_CORR_COUNT p corrected
  match wholeCodeword x.flits with
  | some j =>
    if failed = true ∧ x.judged ≤ j then
      (t.modPort p (fun x => { x with judged := j + 1 })).count Fld.IWL_P_FEC_UNCORR_COUNT p 1
    else t
  | none => t

/-- A flit arrives at a port that is UP: the FEC counts, a failed flit is discarded and a NAK sent, and a good flit of the
type named goes on; then the port sends what it can. -/
def State.flitArrives (s : State) (p : Nat) (b : List Byte) (corrected : Nat) (failed : Bool) (type : Nat)
    (f : State → State) : State :=
  if !s.portUp p then s else
  let t := s.fecCounts p corrected failed
  if failed || !flitGood b then (t.count Fld.IWL_P_CRC_ERR_COUNT p 1).nak p
  else if flitType b = type then (f t).pump p else t

/-- A DATA flit in order: it joins the received flits of its VC, and one without a body is freed at once. -/
def State.acceptData (s : State) (p : Nat) (flit : List Byte) : State :=
  let vc := flitVc flit
  let body := flitBody flit
  s.modPort p (fun x => { x with
    rxSeq := (x.rxSeq + 1) % 4096, naked := false, got := true, ackDue := true
    rx := if body.isEmpty then x.rx else x.rx ++ [(vc, body)]
    owed := if body.isEmpty then Sparse.put 0 x.owed vc (Sparse.get 0 x.owed vc + 1) else x.owed })

/-- Whether a receive buffer has room for a flit of a VC: it holds 32 (R427). -/
def Port.roomFor (x : Port) (vc : Nat) : Bool := decide ((x.rx.filter (fun f => f.1 == vc)).length < 32)

/-- DATA_FLIT (R428): flits are accepted in SEQ order only; what a discarded one carries takes no effect. -/
def execDataFlit (port : Nat) (flit : List Byte) (corrected : Nat) (failed : Bool) (s : State) :
    Host.Outcome State Fault Refusal :=
  .next (s.flitArrives port flit corrected failed 1 fun s =>
    if fieldOf flit 2 2 % 4096 ≠ (s.port port).rxSeq then s.nak port
    else if (s.port port).roomFor (flitVc flit) then
      let t := (s.flitControl port flit).acceptData port flit
      (t.passOn port (flitVc flit) (t.port port).rx.length).noteParcels
    else s)

/-- IDLE_FLIT (R426). -/
def execIdleFlit (port : Nat) (flit : List Byte) (corrected : Nat) (failed : Bool) (s : State) :
    Host.Outcome State Fault Refusal :=
  .next (s.flitArrives port flit corrected failed 0 fun s => s.flitControl port flit)

/-- The flits of the replay buffer are sent again; REPLAY_MAX replays without progress end UP (R428). -/
def State.replay (s : State) (p : Nat) : State :=
  let x := s.port p
  if s.get Fld.IWL_P_REPLAY_CFG_REPLAY_MAX p ≤ x.fruitless then
    (s.raiseIwl Flg.IWL_EVT_REPLAY_LIMIT p).portLost p (s.fallState p)
  else
    ((s.putPort p { x with fruitless := x.fruitless + 1, ackAt := s.refTime }).count Fld.IWL_P_REPLAYS_COUNT p 1).forEach
      x.replay (fun t f => t.sendData p f)

/-- NAK_FLIT (R428). -/
def execNakFlit (port : Nat) (flit : List Byte) (corrected : Nat) (failed : Bool) (s : State) :
    Host.Outcome State Fault Refusal :=
  .next (s.flitArrives port flit corrected failed 2 fun s =>
    let t := s.flitControl port flit
    if (t.port port).replay.isEmpty then t else t.replay port)

/-- REPLAY_TIMEOUT (R428): no ACK has advanced for REPLAY_TIMEOUT ns. -/
def execReplayTimeout (port : Nat) (s : State) : Host.Outcome State Fault Refusal :=
  .next (let x := s.port port
    if s.portUp port ∧ x.replay ≠ [] ∧
        x.ackAt + 4 * s.get Fld.IWL_P_REPLAY_CFG_REPLAY_TIMEOUT port ≤ s.refTime then s.replay port
    else s)

/-! ## System time (R443 to R445) -/

/-- Whether this package is the time master. -/
def State.timeMaster (s : State) : Bool := s.get Fld.IWL_TS_CTRL_MASTER_PKG 0 == s.pkg

/-- The upstream port; 7 for none and for the master. -/
def State.upstream (s : State) : Nat :=
  if !s.isSet Fld.IWL_TS_CTRL_TS_EN 0 || s.timeMaster then 7
  else match s.nextHop (s.get Fld.IWL_TS_CTRL_MASTER_PKG 0) with
    | some (p, _, _) => p
    | none => 7

/-- PERIOD in ticks. -/
def State.syncPeriod (s : State) : Nat := s.get Fld.IWL_TS_CTRL_PERIOD 0 * Config.us

/-- SYNC_SEND (R444). -/
def execSyncSend (port : Nat) (s : State) : Host.Outcome State Fault Refusal :=
  .next (let x := s.port port
    if s.isSet Fld.IWL_TS_CTRL_TS_EN 0 ∧ s.portUp port ∧ x.sentAt + s.syncPeriod ≤ s.refTime then
      let sys := s.timeMaster || s.isSet Fld.IWL_TS_STATUS_LOCKED 0
      let body := leBytes 8 s.now ++ leBytes 8 x.peerTx ++ leBytes 8 x.peerRx ++ leBytes 1 (if sys then 1 else 0)
      (s.putPort port { x.send 3 0 0 body with sentAt := s.refTime }).chargeBody port 16 body.length
    else s)

/-- An offset as OFFSET shows it: signed ticks, saturated. -/
def offsetField (v : Int) : Nat := unsigned 16 (max (-32768) (min 32767 v))

/-- What an offset on the upstream port does: OFFSET and LOCKED, a step where it is large, else the servo's rate, whose
law the spec does not give. -/
def State.servo (s : State) (offset : Int) : State :=
  let n := if offset.natAbs ≤ 8 then min (s.iwl.steady + 1) 8 else 0
  let t := (({ s with iwl := { s.iwl with steady := n } }).set Fld.IWL_TS_STATUS_OFFSET 0 (offsetField offset)).setBit
    Fld.IWL_TS_STATUS_LOCKED 0 (n == 8)
  if s.get Fld.IWL_TS_STEP_TICKS 0 < offset.natAbs then
    ((t.stepBy offset).getD t.stepRefused).raiseIwl Flg.IWL_EVT_TS_STEP s.upstream
  else
    let u := t.set Fld.WHORL_RATE_ADJ_ADJ 0 (Config.freeWord t.freeCount).toNat
    { u with freeCount := u.freeCount + 1 }

/-- SYNC_FLIT (R444). -/
def execSyncFlit (port : Nat) (flit : List Byte) (corrected : Nat) (failed : Bool) (s : State) :
    Host.Outcome State Fault Refusal :=
  .next (s.flitArrives port flit corrected failed 3 fun s0 =>
    let s := s0.flitControl port flit
    if !s.isSet Fld.IWL_TS_CTRL_TS_EN 0 then s else
    let t1 := fieldOf flit 18 8
    let t2 := fieldOf flit 26 8
    let t3 := fieldOf flit 10 8
    let t4 := s.now
    let t := s.modPort port (fun x => { x with peerTx := t3, peerRx := t4, heardAt := s.refTime })
    let up := port == s.upstream
    let u := t.doIf up (fun t => t.set Fld.IWL_TS_STATUS_HOLDOVER 0 0)
    if fieldOf flit 34 1 % 2 = 0 ∨ (t1 = 0 ∧ t2 = 0) then u else
    let delay : Int := (((t4 : Int) - t1) - ((t3 : Int) - t2)) / 2
    let v := u.set Fld.IWL_P_LINK_DELAY_TICKS port (unsigned 32 delay)
    if up && s.domain == 3 then v.servo ((t3 : Int) + delay - t4) else v)

/-- TS_LOST (R445): no SYNC on the upstream port for 4 periods. -/
def execTsLost (s : State) : Host.Outcome State Fault Refusal :=
  .next (let p := s.upstream
    if p < 6 ∧ ¬ s.isSet Fld.IWL_TS_STATUS_HOLDOVER 0 ∧ (s.port p).heardAt + 4 * s.syncPeriod ≤ s.refTime then
      let t := (((s.set Fld.IWL_TS_STATUS_HOLDOVER 0 1).set Fld.IWL_TS_STATUS_LOCKED 0 0).raiseIwl
        Flg.IWL_EVT_TS_LOST p)
      ({ t with iwl := { t.iwl with steady := 0 } }).timeFault (s.isSet Fld.SELV_TIME_CFG_TS_FAULT 0)
    else s)

end Sys2Proof.Machine
end

