-- ==== Sys2Proof/Machine/Idward.lean ====
section
/-! DEFINITION. What arriving transactions do (R127, R128, R133, R409, R430 to R436), relays and barriers (R440 to R442),
dispatchers, inboxes and parcels (R446 to R450). -/

namespace Sys2Proof.Machine

/-! ## Replies -/

/-- A reply of this package to the origin of a transaction, charged to an accounting row. -/
def State.reply (s : State) (row : Nat) (tx : List Byte) (tt : Nat) (body : List Byte) : State :=
  s.sendTx row (txHeader tt s.pkg (txSrc tx) 0 0 (txXid tx) 0 ++ body)

/-- A refusal of this package. -/
def State.refuse (s : State) (tx : List Byte) (reason : Nat) : State := s.sendTx 16 (s.refusal tx reason)

/-- An access that fails the window checks is dropped and refused (R128, R129). -/
def State.dropTx (s : State) (k : Nat) (tx : List Byte) (reason row : Nat) : State :=
  let r := s.dropAccess k (txKey tx) (txSrc tx) reason row
  (if r.2 then r.1.tamper [4] else r.1).refuse tx reason

/-- The accounting row of a job. -/
def State.jobRow (s : State) (job : Nat) : Nat := s.get Fld.RING_JOB_CLIENT job

/-! ## Requests (R434) -/

/-- A parity failure on an access of no local command: the access is discarded and the owner of the row is faulted
(R521). -/
def State.parityOwner (s : State) (k row job : Nat) : State :=
  ((s.parityReport k).jobFault 0x0604 ((s.rowOwner k row).getD job) k).settle

/-- What passes between a port and a row is checked on its way (R520): the state, and whether a fault is met. -/
def State.portCheck (s : State) (port : Nat) : State × Bool :=
  let place := 64 * Config.rows + 400 + port
  ({ s with pathFaults := s.pathFaults.filter (fun x => x != place) }, s.pathFaults.contains place)

/-- ROW_WRITE (R434). -/
def execRowWrite (port vc : Nat) (s : State) : Host.Outcome State Fault Refusal :=
  .next (match s.takeTx port vc 0x01 with
    | none => s
    | some (tx, t) =>
      let p := txRow tx
      match t.windowCheck p.1 (txKey tx) (txSrc tx) (some p.2) 0 true with
      | .inr reason => t.dropTx p.1 tx reason p.2
      | .inl w =>
        let q := t.portCheck port
        if q.2 then q.1.parityOwner p.1 p.2 w.job
        else (((q.1.accessRow p.1 p.2 true 6 none).1).writeRow p.1 p.2 (tx.drop 16)).reply (t.jobRow w.job) tx 0x81 [])

/-- ROW_READ (R434). -/
def execRowRead (port vc : Nat) (s : State) : Host.Outcome State Fault Refusal :=
  .next (match s.takeTx port vc 0x02 with
    | none => s
    | some (tx, t) =>
      let p := txRow tx
      match t.windowCheck p.1 (txKey tx) (txSrc tx) (some p.2) 0 false with
      | .inr reason => t.dropTx p.1 tx reason p.2
      | .inl w =>
        let q := t.portCheck port
        if t.parityBad p.1 p.2 || q.2 then (q.1.pathMet p.1 p.2).parityOwner p.1 p.2 w.job
        else ((q.1.accessRow p.1 p.2 false 6 none).1).reply (t.jobRow w.job) tx 0x82 (t.readRow p.1 p.2))

/-- TOKEN_SIGNAL (R434): applied at the token's home. -/
def execTokenSignal (port vc : Nat) (s : State) : Host.Outcome State Fault Refusal :=
  .next (match s.takeTx port vc 0x03 with
    | none => s
    | some (tx, t) =>
      let id := bitsOf (txTarget tx) 0 16
      match t.windowCheck (tokenHome id) (txKey tx) (txSrc tx) none id true with
      | .inr reason => t.dropTx (tokenHome id) tx reason 0
      | .inl w => (t.arrive id (bitsOf (txTarget tx) 16 16)).reply (t.jobRow w.job) tx 0x81 [])

/-! ## Barriers (R442) -/

/-- A barrier entry (Table 14.5). -/
structure Barrier where
  valid : Bool
  master : Nat
  release : Nat
  members : Nat
  deriving DecidableEq, Repr

/-- Reads barrier entry n. -/
def State.barrier (s : State) (n : Nat) : Barrier :=
  let b := s.load (Mem.lpddr (64 * s.get Fld.IWL_BAR_BASE_BASE 0 + 32 * n)) 32
  ⟨fieldOf b 0 1 / 128 == 1, fieldOf b 1 1 % 128, fieldOf b 4 2, fieldOf b 16 16⟩

/-- Sends a BARRIER message, for an accounting row and the job that has issued it. -/
def State.sendBarrier (s : State) (row : Nat) (job : Option Nat) (dst arg n gen : Nat) : State :=
  s.route row job (txHeader 0x04 s.pkg dst arg 0 0 (n + 65536 * gen)) none 2

/-- The members of a barrier. -/
def Barrier.list (b : Barrier) : List Nat := (List.range 128).filter (fun p => b.members / 2 ^ p % 2 == 1)

/-- The master releases a barrier's generation while every member has arrived; `fuel` bounds the generations held. -/
def State.releaseBarrier (s : State) (n : Nat) : Nat → State
  | 0 => s
  | fuel + 1 =>
    let b := s.barrier n
    let g := Sparse.get 0 s.iwl.due n
    if b.members = 0 ∨ ¬ b.list.all (fun p => s.iwl.arrivals.contains (n, (g, p))) then s else
    let t := { s with iwl := { s.iwl with
      due := Sparse.put 0 s.iwl.due n ((g + 1) % 65536)
      arrivals := s.iwl.arrivals.filter (fun a => !(a.1 == n && a.2.1 == g)) } }
    (t.forEach b.list (fun t p => t.sendBarrier 16 none p 1 n g)).releaseBarrier n fuel

/-- BARRIER_ARRIVE (R442): an arrival is counted once per member and generation. -/
def execBarrierArrive (port vc : Nat) (s : State) : Host.Outcome State Fault Refusal :=
  .next (match s.front port vc with
    | none => s
    | some f => if txArg f ≠ 0 then s else
      match s.takeTx port vc 0x04 with
      | none => s
      | some (tx, t) =>
        let n := bitsOf (txTarget tx) 0 4
        let a := (n, (bitsOf (txTarget tx) 16 16, txSrc tx))
        let b := t.barrier n
        if !b.valid || b.master != t.pkg || b.members / 2 ^ txSrc tx % 2 == 0 || t.iwl.arrivals.contains a then t
        else ({ t with iwl := { t.iwl with arrivals := t.iwl.arrivals ++ [a] } }).releaseBarrier n
          (t.iwl.arrivals.length + 1))

/-- BARRIER_RELEASE (R442). -/
def execBarrierRelease (port vc : Nat) (s : State) : Host.Outcome State Fault Refusal :=
  .next (match s.front port vc with
    | none => s
    | some f => if txArg f = 0 then s else
      match s.takeTx port vc 0x04 with
      | none => s
      | some (tx, t) =>
        let n := bitsOf (txTarget tx) 0 4
        let g := Sparse.get 0 t.iwl.gens n
        if bitsOf (txTarget tx) 16 16 ≠ g ∨ (t.barrier n).valid = false then t
        else ({ t with iwl := { t.iwl with gens := Sparse.put 0 t.iwl.gens n ((g + 1) % 65536) } }).signal
          (t.barrier n).release 1)

/-! ## Inboxes (R448 to R450) -/

/-- An inbox beyond its registers. -/
def State.inbox (s : State) (n : Nat) : Inbox := Sparse.get Inbox.reset s.iwl.inboxes n
/-- Replaces it. -/
def State.putInbox (s : State) (n : Nat) (x : Inbox) : State :=
  { s with iwl := { s.iwl with inboxes := Sparse.put Inbox.reset s.iwl.inboxes n x } }

/-- Capacity of an inbox in rows. -/
def State.inboxCap (s : State) (n : Nat) : Nat := 2 ^ s.get Fld.IWL_INBOX_CFG_LOG2_CAP n
/-- Entries of its overflow ring. -/
def State.ovfCap (s : State) (n : Nat) : Nat :=
  if s.get Fld.IWL_INBOX_OVF_OVF_LOG2 n = 0 then 0 else 2 ^ s.get Fld.IWL_INBOX_OVF_OVF_LOG2 n
/-- Overflow entries held. -/
def Inbox.used (x : Inbox) : Nat := x.ovfTail - x.ovfHead

/-- The tag row that the hub keeps as slot `slot` is filled: a new one begins with each tag row, and what it holds in the places
of tags that have not arrived is free (R448). -/
def State.keptTags (s : State) (n slot : Nat) : List Byte :=
  let x := s.inbox n
  if x.tags = [] ∨ (slot % 128 = 0 ∧ 128 < s.inboxCap n) then (List.range 512).map (Config.freeByte s.freeCount) else x.tags

/-- A data row and its tag land in the next slot; the kept tag row is written whole (R448). -/
def State.landSlot (s : State) (n tag : Nat) (row : List Byte) : State :=
  let k := s.get Fld.IWL_INBOX_CFG_SKEIN n
  let first := s.get Fld.IWL_INBOX_CFG_FIRST_ROW n
  let x := s.inbox n
  let slot := x.tail % s.inboxCap n
  let tagRow := first + s.inboxCap n + slot / 128
  let t := ((s.accessRow k (first + slot) true 6 none).1).writeRow k (first + slot) row
  let old := s.keptTags n slot
  let tags := old.take (4 * (slot % 128)) ++ leBytes 4 tag ++ old.drop (4 * (slot % 128) + 4)
  let u := ((t.accessRow k tagRow true 6 none).1).writeRow k tagRow tags
  (({ u with freeCount := u.freeCount + 1 }).putInbox n { x with tail := (x.tail + 1) % s.inboxCap n, tags := tags }).set Fld.IWL_INBOX_LEVEL_HELD n
    (s.get Fld.IWL_INBOX_LEVEL_HELD n + 1)

/-- Where an entry of an overflow ring lies. -/
def State.ovfAddr (s : State) (n i : Nat) : Nat :=
  Mem.lpddr (64 * s.get Fld.IWL_INBOX_OVF_BASE n + 576 * (i % s.ovfCap n))

/-- Brings OVF_USED up to date. -/
def State.ovfSync (s : State) (n : Nat) : State := s.set Fld.IWL_INBOX_LEVEL_OVF_USED n (min (s.inbox n).used 65535)

/-- The accounting row of an inbox's job. -/
def State.inboxRow (s : State) (n : Nat) : Nat := s.jobRow (s.get Fld.IWL_INBOX_TOKENS_JOB n)

/-- A row goes to the overflow ring (R449), and its entry is charged (R420). -/
def State.ovfPut (s : State) (n tag expert src : Nat) (row : List Byte) : State :=
  let x := s.inbox n
  let a := s.ovfAddr n x.ovfTail
  let t := ((s.accum Fld.HEDDLE_ACCT_BYTES_LPDDR_WR_COUNT (s.inboxRow n) 576).store a (leBytes 4 tag ++ leBytes 2 expert ++ leBytes 1 src)).store (a + 64) (sliceOf row 0 512)
  ((t.putInbox n { x with ovfTail := x.ovfTail + 1 }).count Fld.IWL_CNT_OVF_COUNT 0 1).ovfSync n

/-- A parcel row lands in the inbox, or goes to the overflow ring. -/
def State.parcelRow (s : State) (n tag expert src : Nat) (row : List Byte) : State :=
  if (s.inbox n).used = 0 ∧ s.get Fld.IWL_INBOX_LEVEL_HELD n < s.inboxCap n then s.landSlot n tag row
  else s.ovfPut n tag expert src row

/-- The inbox's token is signalled by the rows that have landed. -/
def State.signalInbox (s : State) (n rows : Nat) : State :=
  if rows = 0 then s else s.signal (s.get Fld.IWL_INBOX_TOKENS_TOKEN n) rows

/-- Free slots are filled from the overflow ring, oldest first. -/
def State.drainOvf (s : State) (n : Nat) : Nat → State
  | 0 => s
  | fuel + 1 =>
    let x := s.inbox n
    if x.used = 0 ∨ s.inboxCap n ≤ s.get Fld.IWL_INBOX_LEVEL_HELD n then s else
    let a := s.ovfAddr n x.ovfHead
    let t := (s.accum Fld.HEDDLE_ACCT_BYTES_LPDDR_RD_COUNT (s.inboxRow n) 576).landSlot n (s.loadNat a 4) (s.load (a + 64) 512)
    ((t.putInbox n { t.inbox n with ovfHead := x.ovfHead + 1 }).ovfSync n).drainOvf n fuel

/-- Slots are returned to an inbox (R448, R449). -/
def State.releaseSlots (s : State) (n k : Nat) : State :=
  let t := s.set Fld.IWL_INBOX_LEVEL_HELD n (s.get Fld.IWL_INBOX_LEVEL_HELD n - k)
  let u := t.drainOvf n (t.inbox n).used
  u.signalInbox n ((s.inbox n).used - (u.inbox n).used)

/-- An expert entry (Table 14.5). -/
structure Expert where
  valid : Bool
  home : Nat
  inbox : Nat
  key : Nat
  deriving DecidableEq, Repr

/-- Reads expert entry e. -/
def State.expert (s : State) (e : Nat) : Expert :=
  let b := s.load (Mem.lpddr (64 * s.get Fld.IWL_EXPERT_BASE_BASE 0 + 16 * e)) 16
  ⟨fieldOf b 0 1 / 128 == 1, fieldOf b 1 1 % 128, fieldOf b 2 1 % 64, fieldOf b 4 4⟩

/-- Whether a parcel's rows fit, in the inbox and its overflow ring together. -/
def State.parcelFits (s : State) (n rows : Nat) : Bool :=
  let x := s.inbox n
  let free := if x.used = 0 then s.inboxCap n - s.get Fld.IWL_INBOX_LEVEL_HELD n else 0
  decide (rows - free + x.used ≤ s.ovfCap n)

/-- The inbox that a parcel is for; none where its expert is not homed here. -/
def State.parcelInbox (s : State) (tx : List Byte) : Option Nat :=
  let x := s.expert (bitsOf (txTarget tx) 0 12)
  if x.valid && x.home == s.pkg && s.isSet Fld.IWL_INBOX_CFG_VALID x.inbox then some x.inbox else none

/-- The first failing window check of the rows that a parcel will take. -/
def State.parcelRefused (s : State) (n : Nat) (tx : List Byte) : Option (Nat × Nat) :=
  let k := s.get Fld.IWL_INBOX_CFG_SKEIN n
  (List.range (txArg tx)).findSome? (fun i =>
    let row := s.get Fld.IWL_INBOX_CFG_FIRST_ROW n + ((s.inbox n).tail + (s.inbox n).used + i) % s.inboxCap n
    match s.windowCheck k (txKey tx) (txSrc tx) (some row) 0 true with
    | .inr reason => some (reason, row)
    | .inl _ => none)

/-- Whether a parcel of another source package for the same inbox arrived before this one and still waits (R450). -/
def State.parcelAhead (s : State) (n src xid : Nat) : Bool :=
  let before := s.iwl.parcels.takeWhile (fun p => p != (src, xid))
  s.parcelsWaiting.any (fun tx => txType tx == 0x05 && txDst tx == s.pkg && txSrc tx != src &&
    s.parcelInbox tx == some n && before.contains (txSrc tx, txXid tx))

/-- The rows of a parcel land, and it is acknowledged. -/
def State.landParcel (s : State) (n : Nat) (tx : List Byte) : State :=
  let job := s.get Fld.IWL_INBOX_TOKENS_JOB n
  let t := s.forEach (List.range (txArg tx)) (fun t i =>
    t.parcelRow n (fieldOf tx (16 + 4 * i) 4) (bitsOf (txTarget tx) 0 12) (txSrc tx) ((tx.drop (64 + 512 * i)).take 512))
  let landed := txArg tx - ((t.inbox n).used - (s.inbox n).used)
  let u := (t.signalInbox n landed).doIf (s.parcelAhead n (txSrc tx) (txXid tx)) (fun u => u.ndc job)
  u.reply (s.jobRow job) tx 0x84 []

/-- A parcel that does not fit stays in its receive buffer (R449). -/
def State.blockParcel (s : State) (p vc : Nat) : State :=
  if (s.port p).blocked.contains vc then s
  else (s.modPort p (fun x => { x with blocked := x.blocked ++ [vc] })).raiseIwl Flg.IWL_EVT_BACKPRESSURE p

/-- A parcel at the front of a VC is refused, lands or waits. -/
def State.parcelAt (s : State) (p vc : Nat) : State :=
  match s.front p vc with
  | none => s
  | some f =>
    if txType f ≠ 0x05 ∨ txDst f ≠ s.pkg then s else
    match s.parcelInbox f with
    | none => match s.takeTx p vc 0x05 with
      | some (tx, t) => t.refuse tx 7
      | none => s
    | some n =>
      match s.parcelRefused n f with
      | some r => match s.takeTx p vc 0x05 with
        | some (tx, t) => t.dropTx (s.get Fld.IWL_INBOX_CFG_SKEIN n) tx r.1 r.2
        | none => s
      | none =>
        if !s.parcelFits n (txArg f) then s.blockParcel p vc else
        match s.takeTx p vc 0x05 with
        | some (tx, t) =>
          let q := t.portCheck p
          if q.2 then q.1.parityOwner (s.get Fld.IWL_INBOX_CFG_SKEIN n)
            (s.get Fld.IWL_INBOX_CFG_FIRST_ROW n + (s.inbox n).tail % s.inboxCap n) (s.get Fld.IWL_INBOX_TOKENS_JOB n)
          else q.1.landParcel n tx
        | none => s

/-- PARCEL (R449). -/
def execParcel (port vc : Nat) (s : State) : Host.Outcome State Fault Refusal :=
  .next (if (s.port port).blocked.contains vc then s else s.parcelAt port vc)

/-- PARCEL_UNBLOCK (R449). -/
def execParcelUnblock (port vc : Nat) (s : State) : Host.Outcome State Fault Refusal :=
  .next (if (s.port port).blocked.contains vc then s.parcelAt port vc else s)

/-! ## Dispatchers (R447) -/

/-- A request of a batch has been acknowledged; the last one signals DONE_TOKEN. -/
def State.batchAnswered (s : State) (id : Nat) : State :=
  match s.iwl.batches.find? (fun b => b.id == id) with
  | none => s
  | some b =>
    if b.left ≤ 1 then
      ({ s with iwl := { s.iwl with batches := s.iwl.batches.filter (fun x => x.id != id) } }).signal
        (s.get Fld.IWL_DISP_CFG_DONE_TOKEN b.disp) 1
    else { s with iwl := { s.iwl with
      batches := s.iwl.batches.map (fun x => if x.id = id then { x with left := x.left - 1 } else x) } }

/-- A dispatch entry (R447). -/
structure DispEntry where
  expert : Nat
  ret : Bool
  bobbin : Bool
  tag : Nat
  src : Nat
  deriving DecidableEq, Repr

/-- Reads a dispatch entry; none where a reserved bit is set. -/
def DispEntry.ofBytes (b : List Byte) : Option DispEntry :=
  let x : DispEntry := ⟨fieldOf b 0 2 % 4096, fieldOf b 2 1 % 2 == 1, fieldOf b 3 1 % 2 == 1, fieldOf b 4 4, fieldOf b 8 8⟩
  if fieldOf b 0 2 < 4096 ∧ fieldOf b 2 1 < 2 ∧ fieldOf b 3 1 < 2 ∧
    (if x.bobbin then x.src < 2 ^ 22 ∧ bitsOf x.src 14 2 = 0 else x.src % 64 = 0) then some x else none

/-- Skein and row of a bobbin source. -/
def DispEntry.row (x : DispEntry) : Nat × Nat := (bitsOf x.src 16 6, bitsOf x.src 0 14)

/-- Whether an entry can be carried out. -/
def State.entryOk (s : State) (job : Nat) (x : DispEntry) : Bool :=
  (if x.ret then bitsOf x.tag 31 1 == 0 && bitsOf x.tag 22 2 == 0 && bitsOf x.tag 14 2 == 0 && decide (bitsOf x.tag 24 7 < s.systemSize)
    else (s.expert x.expert).valid) &&
  (if x.bobbin then decide (x.row.2 < Config.rows) && s.covers job ⟨x.row.1, x.row.2, x.row.2⟩
    else decide (x.src + 512 ≤ s.lpddrBytes))

/-- Reads the source row of an entry as a hub sequence: the state, the row, and whether parity failed. -/
def State.entryRow (s : State) (job : Nat) (x : DispEntry) : State × List Byte × Bool :=
  if x.bobbin then
    let p := x.row
    ((s.accessRow p.1 p.2 false 6 none).1, s.readRow p.1 p.2, s.parityBad p.1 p.2)
  else (s.accum Fld.HEDDLE_ACCT_BYTES_LPDDR_RD_COUNT (s.jobRow job) 512, s.load (Mem.lpddr x.src) 512, false)

/-- Groups consecutive forward entries of one expert, up to 8; every return entry stands alone. -/
def groupEntries (xs : List DispEntry) : List (List DispEntry) :=
  xs.foldl (fun gs x =>
    match gs.getLast? with
    | some g =>
      if !x.ret && decide (g.length < 8) && g.all (fun y => !y.ret && y.expert == x.expert) then gs.dropLast ++ [g ++ [x]]
      else gs ++ [[x]]
    | none => [[x]]) []

/-- Reads the rows of entries in order; stops at a parity failure. -/
def State.entryRows (s : State) (job : Nat) : List DispEntry → State × List (List Byte) × Option DispEntry
  | [] => (s, [], none)
  | x :: rest =>
    let r := s.entryRow job x
    if r.2.2 then (s, [], some x) else
    let q := r.1.entryRows job rest
    (q.1, r.2.1 :: q.2.1, q.2.2)

/-- Sends one parcel or return write of a batch: the state, and the entry whose row has failed its parity check, which sends
nothing. -/
def State.sendGroup (s : State) (disp id : Nat) (g : List DispEntry) : State × Option DispEntry :=
  let job := s.get Fld.IWL_DISP_CFG_JOB disp
  let r := s.entryRows job g
  match r.2.2, g with
  | some x, _ => (r.1, some x)
  | none, [] => (s, none)
  | none, x :: _ =>
    let t := { r.1 with iwl := { r.1.iwl with
      batches := r.1.iwl.batches.map (fun (b : DispBatch) => if b.id = id then { b with left := b.left + 1 } else b) } }
    (if x.ret then
      t.request (s.jobRow job) 0x01 (bitsOf x.tag 24 7) 0 (s.get Fld.IWL_DISP_RET_KEY_KEY disp)
        (bitsOf x.tag 16 6 * 65536 + bitsOf x.tag 0 14) r.2.1.flatten (.batch id false)
    else
      let e := s.expert x.expert
      t.request (s.jobRow job) 0x05 e.home g.length e.key x.expert
        (sliceOf (g.map (fun (y : DispEntry) => leBytes 4 y.tag)).flatten 0 32 ++ leBytes 16 0 ++ r.2.1.flatten) (.batch id true),
     none)

/-- Sends the groups of a batch in order, up to one whose row fails its parity check. -/
def State.sendGroups (s : State) (disp id : Nat) : List (List DispEntry) → State × Option DispEntry
  | [] => (s, none)
  | g :: rest =>
    match s.sendGroup disp id g with
    | (t, none) => t.sendGroups disp id rest
    | r => r

/-- Splits a list after the entries that can be carried out. -/
def goodEntries (ok : DispEntry → Bool) : List (Option DispEntry) → List DispEntry × Bool
  | [] => ([], true)
  | none :: _ => ([], false)
  | some x :: rest => if ok x then let r := goodEntries ok rest
                                   (x :: r.1, r.2) else ([], false)

/-- A dispatcher is handed its next `k` entries as one batch (R447). -/
def State.dispatch (s : State) (disp k : Nat) : State :=
  let job := s.get Fld.IWL_DISP_CFG_JOB disp
  let rd := s.get Fld.IWL_DISP_RD_RD disp
  let base := 64 * s.get Fld.IWL_DISP_LIST_BASE disp
  let size := 2 ^ s.get Fld.IWL_DISP_CFG_LOG2 disp
  let xs := (List.range k).map (fun i => DispEntry.ofBytes (s.load (Mem.lpddr (base + 16 * ((rd + i) % size))) 16))
  let g := goodEntries (s.entryOk job) xs
  let id := s.iwl.nextBatch
  let t := (s.set Fld.IWL_DISP_RD_RD disp (rd + k)).accum Fld.HEDDLE_ACCT_BYTES_LPDDR_RD_COUNT (s.jobRow job) (16 * k)
  -- a batch starts with one answer outstanding for the dispatcher itself
  let b : DispBatch := ⟨id, disp, 1⟩
  let u := { t with iwl := { t.iwl with nextBatch := id + 1, batches := t.iwl.batches ++ [b] } }
  match u.sendGroups disp id (groupEntries g.1) with
  | (v, some x) => (v.pathMet x.row.1 x.row.2).parityOwner x.row.1 x.row.2 job
  | (v, none) => if g.2 then v.batchAnswered id else (v.jobFault 0x0204 job 72).settle

/-! ## Relays (R440, R441) -/

/-- A relay entry (Table 14.5). -/
structure Relay where
  valid : Bool
  kind : Nat
  dest : Nat
  index : Nat
  key : Nat
  job : Nat
  deriving DecidableEq, Repr

/-- Reads relay entry n. -/
def State.relayEntry (s : State) (n : Nat) : Relay :=
  let b := s.load (Mem.lpddr (64 * s.get Fld.IWL_RELAY_BASE_BASE 0 + 16 * n)) 16
  ⟨fieldOf b 0 1 / 128 == 1, fieldOf b 0 1 % 8, fieldOf b 1 1 % 128, fieldOf b 2 2, fieldOf b 4 4, fieldOf b 8 1⟩

/-- Whether a relay entry can act for a signal of a job. -/
def State.relayOk (s : State) (r : Relay) (job amount : Nat) : Bool :=
  r.valid && r.job == job && (match r.kind with
    | 0 => decide (r.dest < s.systemSize)
    | 1 => decide (r.index < 16) && amount == 1 && (s.barrier r.index).valid
    | 2 => decide (r.index < 8) && s.isSet Fld.IWL_DISP_CFG_VALID r.index && s.get Fld.IWL_DISP_CFG_JOB r.index == job
    | 3 => decide (r.index < 64) && s.isSet Fld.IWL_INBOX_CFG_VALID r.index && s.get Fld.IWL_INBOX_TOKENS_JOB r.index == job
    | _ => false)

/-- A relay entry acts on a signal. -/
def State.relayAct (s : State) (r : Relay) (amount : Nat) : State :=
  match r.kind with
  | 0 => s.request (s.jobRow r.job) 0x03 r.dest 0 r.key (r.index + 65536 * amount) [] (.relay r.job)
  | 1 => s.sendBarrier (s.jobRow r.job) (some r.job) (s.barrier r.index).master 0 r.index (Sparse.get 0 s.iwl.gens r.index)
  | 2 => s.dispatch r.index amount
  | _ => s.releaseSlots r.index amount

/-- RELAY_SIGNAL (R440). -/
def execRelaySignal (skein index : Nat) (s : State) : Host.Outcome State Fault Refusal :=
  .next (let id := skein * 1024 + index
    match s.iwl.relays.find? (fun p => p.1 == id) with
    | none => s
    | some p =>
      let t := { s with iwl := { s.iwl with relays := s.iwl.relays.erase p } }
      let r := t.relayEntry (skein * 16 + (index - 1008))
      let job := ((t.token id).owner).getD 0
      if t.relayOk r job p.2 then t.relayAct r p.2
      else ((t.raiseIwl Flg.IWL_EVT_RELAY_BAD 6).jobFault 0x0204 job 72).settle)

/-! ## Replies reach their origin (R128, R409, R431, R436) -/

/-- A reply is matched with its request; one whose request has ended sets LATE_REPLY. -/
def State.answer (s : State) (p vc tt : Nat) (f : State → List Byte → Req → State) : State :=
  match s.takeTx p vc tt with
  | none => s
  | some (tx, t) =>
    match t.req? (txXid tx) with
    | none => t.raiseIwl Flg.IWL_EVT_LATE_REPLY p
    | some r => f (t.dropReq r.xid) tx r

/-- ACK (R436). -/
def execAck (port vc : Nat) (s : State) : Host.Outcome State Fault Refusal :=
  .next (s.answer port vc 0x81 fun s _ r => match r.expect with
    | .write uid => s.moveAnswered uid
    | .batch id _ => s.batchAnswered id
    | _ => s)

/-- READ_DATA (R409). -/
def execReadData (port vc : Nat) (s : State) : Host.Outcome State Fault Refusal :=
  .next (s.answer port vc 0x82 fun s tx r => match r.expect with
    | .read uid i => s.moveArrived uid i (tx.drop 16)
    | _ => s)

/-- The status that a refusal gives: LINK_DOWN for reason 6, else WINDOW_BOUNDS (R128, R438, R441). -/
def refusalStatus (reason : Nat) : Nat := if reason = 6 then 0x0502 else 0x0201

/-- REFUSE (R128). -/
def execRefuse (port vc : Nat) (s : State) : Host.Outcome State Fault Refusal :=
  .next (s.answer port vc 0x83 fun s tx r => (s.endReq r (refusalStatus (txArg tx))).settle)

/-- PARCEL_ACK (R449). -/
def execParcelAck (port vc : Nat) (s : State) : Host.Outcome State Fault Refusal :=
  .next (s.answer port vc 0x84 fun s _ r => match r.expect with
    | .batch id _ => s.batchAnswered id
    | _ => s)

/-- Whether a request is a parcel, which IWL_TIMEOUT exempts (R431). -/
def Expect.exempt : Expect → Bool
  | .batch _ parcel => parcel
  | _ => false

/-- REMOTE_TIMEOUT (R431). -/
def execRemoteTimeout (xid : Nat) (s : State) : Host.Outcome State Fault Refusal :=
  .next (match s.req? xid with
    | none => s
    | some r =>
      if r.expect.exempt ∨ s.refTime < r.issued + s.get Fld.IWL_TIMEOUT_US 0 * Config.us then s
      else (((s.raiseIwl Flg.IWL_EVT_REMOTE_TIMEOUT r.port).dropReq xid).endReq r 0x0501).settle)

end Sys2Proof.Machine
end

