-- ==== Sys2Proof/Machine/Launch.lean ====
section
/-! DEFINITION. Engine queues (R75, R77 to R79), launch times (R52 to R60), the choice of the next command (R398 to
R402), its start (R53, R114, R192), lateness (R55), and the loom's yield (R175). -/

namespace Sys2Proof.Machine

/-! ## Queues (R75, R77 to R79, R261) -/

/-- The commands that occupy a queue, a drafter's with the forwarded ones that still hold an entry (R78). -/
def State.queueOf (s : State) (e : Engine) : List Cmd :=
  s.cmds.filter (fun c => (decide (c.home = e) && c.waits) ||
    (match c.via with
      | some (k, d) => decide (e = .drafter k d) && decide (c.phase = .admitted)
      | none => false))

/-- Depth of a queue; the spec bounds no other one. -/
def Engine.depth : Engine → Option Nat
  | .loom _ | .vec _ | .ply _ => some 32
  | .drafter _ _ => some 64
  | .prog _ _ => some 8
  | _ => none

/-- Entries of a queue that host-admitted commands may hold. -/
def State.hostShare (s : State) (e : Engine) : Nat :=
  match e with
  | .loom k => s.get Fld.SKEIN_HOST_RESERVE_LQ k
  | .vec k => s.get Fld.SKEIN_HOST_RESERVE_VQ k
  | .drafter k _ => s.get Fld.SKEIN_HOST_RESERVE_DQ k
  | .ply h => s.get Fld.PLY_HOST_RESERVE_SHARE h
  | _ => 8

/-- Whether a command may enter its queue now (R77). -/
def State.hasRoom (s : State) (c : Cmd) : Bool :=
  match c.home.depth with
  | none => true
  | some n =>
    let q := s.queueOf c.home
    decide (q.length < n) && (!c.fromHost || decide ((q.filter Cmd.fromHost).length < s.hostShare c.home))

/-- A command enters its queue, behind every command that is in one. -/
def State.enterQueue (s : State) (c : Cmd) : State :=
  { s with cmds := s.cmds.filter (fun d => d.uid != c.uid) ++ [{ c with phase := .queued, via := none, since := s.refTime }] }

/-- Whether an earlier command of the same job still waits for an entry of the same queue (R79). -/
def State.overtakes (s : State) (c : Cmd) : Bool :=
  (s.cmds.takeWhile (fun d => d.uid != c.uid)).any (fun d =>
    decide (d.phase = .admitted) && decide (d.home = c.home) && d.job == c.job)

/-- A MATMUL that has reached the head of its job's order in its loom queue keeps the GEMV_MAX of that instant (R162). -/
def State.noteHead (s : State) (c : Cmd) : Cmd :=
  match c.home with
  | .loom k =>
    if c.opcode = 0x01 ∧ c.phase = .queued ∧ c.gemv = none ∧ s.isHead c then
      { c with gemv := some (s.get Fld.SKEIN_LOOM_CTRL_GEMV_MAX k) }
    else c
  | _ => c

/-- Every command that stands at the head of its job's order keeps the GEMV_MAX in force; a write of GEMV_MAX does so first. -/
def State.noteHeads (s : State) : State := { s with cmds := s.cmds.map s.noteHead }

/-- Admitted commands enter their queues as entries free, those of one job in arrival order (R77, R79), and what has come
to the head of its job's order is noted (R162). -/
def State.fillQueues (s : State) : State :=
  let t := s.forEach (s.cmds.filter (fun c => decide (c.phase = .admitted))) (fun t c =>
    match t.cmd? c.uid with
    | some d => if t.hasRoom d && !t.overtakes d then t.enterQueue d else t
    | none => t)
  t.noteHeads

/-! ## Footprints (R114) -/

/-- An entry of an extent list. -/
structure Extent where
  category : Nat
  bobbin : Bool
  skein : Nat
  length : Nat
  addr : Nat
  deriving DecidableEq, Repr

/-- Reads an extent entry; none where it is malformed. -/
def Extent.ofBytes (b : List Byte) : Option Extent :=
  let x : Extent := ⟨fieldOf b 0 1 % 4, fieldOf b 1 1 % 2 == 1, fieldOf b 2 1 % 64, fieldOf b 4 4, fieldOf b 8 8⟩
  let clean := fieldOf b 0 1 / 4 == 0 && fieldOf b 1 1 / 2 == 0 && fieldOf b 2 1 / 64 == 0 && fieldOf b 3 1 == 0 &&
    decide (1 ≤ x.length) &&
    (if x.bobbin then decide (x.addr < 2 ^ 14) else decide (x.length ≤ 2 ^ 31) && x.addr % 64 == 0)
  if clean then some x else none

/-- Rows of a bobbin extent. -/
def Extent.range (x : Extent) : RowRange := ⟨x.skein, x.addr, x.addr + x.length - 1⟩

/-- The well-formed entries of the extent list of a DIGEST, as LPDDR holds it now. -/
def State.extentList (s : State) (d : List Byte) : List Extent :=
  (List.range (fieldOf d 26 2)).filterMap (fun i => Extent.ofBytes (s.load (Mem.lpddr (fieldOf d 32 8 + 16 * i)) 16))


/-- The read and write footprints of a command on the skein that runs it. -/
def State.footprints (s : State) (c : Cmd) (k : Nat) : List RowRange × List RowRange :=
  match c.opcode with
  | 0x01 => match Matmul.ofBytes c.desc with
    | some x => (x.reads k, x.writes k)
    | none => ([], [])
  | 0x02 => match Conv.ofBytes c.desc with
    | some x => (x.reads k, x.writes k)
    | none => ([], [])
  | 0x03 => match Pool.ofBytes c.desc with
    | some x => (x.reads k, x.writes k)
    | none => ([], [])
  | 0x04 => match Vec.ofBytes c.desc with
    | some x => (x.reads k, x.writes k)
    | none => ([], [])
  | 0x05 => match Attn.ofBytes c.desc with
    | some x => (x.reads k (s.ctxD c.stream), x.writes k (s.ctxD c.stream))
    | none => ([], [])
  | 0x06 => ((Append.ofBytes c.desc).reads (s.ctxD c.stream) ((tagBytes (s.ctxTag c.stream)).getD 1), [])
  | 0x07 => match Solve.ofBytes c.desc with
    | some x => (x.reads, x.writes)
    | none => ([], [])
  | 0x08 => match Dyn.ofBytes c.desc with
    | some x => (x.reads, x.writes)
    | none => ([], [])
  | 0x09 =>
    let x := RowMove.ofBytes c.desc
    (x.reads k, x.writes k)
  | 0x0E => (((s.extentList c.desc).filter (fun x => x.bobbin)).map Extent.range, [])
  | _ => ([], [])

/-! ## The choice of the next command (R398 to R402) -/

/-- Whether a MATMUL goes to the vector engine when it starts, by the GEMV_MAX at which it became the head (R162). -/
def State.routes (s : State) (c : Cmd) : Bool :=
  match c.home with
  | .loom k =>
    c.opcode == 0x01 && (match Matmul.ofBytes c.desc with
      | some x => !x.force && decide (x.m ≤ c.gemv.getD (s.get Fld.SKEIN_LOOM_CTRL_GEMV_MAX k))
      | none => false)
  | _ => false

/-- The engine that a waiting command is to start on. -/
def State.target (s : State) (c : Cmd) : Engine :=
  if c.phase = .yielded then c.engine
  else if s.routes c then .vec c.home.skein
  else c.home

/-- Whether a command that waits has reached its guard (R56). -/
def State.guarded (s : State) (c : Cmd) : Bool :=
  decide (c.phase = .queued) && decide (c.launch ≠ 0) && (c.guarded || decide (c.launch ≤ s.now + c.guard))

/-- Whether the guard of a command of another job keeps a command from starting (R56). -/
def State.heldByGuard (s : State) (c : Cmd) : Bool :=
  !s.guarded c && s.cmds.any (fun w => s.guarded w && decide (w.job ≠ c.job) && decide (s.target w = s.target c))

/-- Whether a FENCE covers a command that was admitted after it (R98). -/
def Cmd.fences (f c : Cmd) : Bool :=
  match f.origin, c.origin with
  | .host fc fq _, .host cc cq _ =>
    f.opcode == 0x0D && decide (f.uid < c.uid) && fc == cc &&
    (if f.field 24 1 = 0 then fq == cq else f.job == c.job)
  | _, _ => false

/-- Whether an engine's unit is in service and free of tests and golden runs (R396, R403, R414, R526). -/
def State.unitFree (s : State) (e : Engine) : Bool :=
  match e with
  | .loom k | .vec k => s.live k && !s.inTest k && !s.suspect k && !s.inGolden k
  | .drafter k _ | .prog k _ => s.live k && !s.inTest k && !s.suspect k
  | .ply h => match s.selv.running with
    | some x => !(x.slice == 15 && x.skein == 8 * h)
    | none => true
  | _ => true

/-- The accumulator stores of a loom that commands hold, an ATTN until it completes (R137, R175, R254). -/
def State.storesHeld (s : State) (k : Nat) : List Nat :=
  (s.cmds.filter (fun c => decide (c.engine = .loom k) && (decide (c.phase = .running) || decide (c.phase = .yielded) ||
    (decide (c.phase = .ended) && c.opcode == 0x05)))).map Cmd.store

/-- The free accumulator store that a starting command takes. -/
def State.freeStore (s : State) (k : Nat) : Option Nat := (List.range 2).find? (fun i => !(s.storesHeld k).contains i)

/-- Whether an engine can take a command (R53). -/
def State.engineFree (s : State) (c : Cmd) (e : Engine) : Bool :=
  let idle := !s.cmds.any (fun d => decide (d.engine = e) && decide (d.phase = .running))
  match e with
  | .loom k => idle && (decide (c.phase = .yielded) || (s.freeStore k).isSome)
  | .ply h => idle && (decide (c.phase = .yielded) || (s.freeBank h).isSome)
  | .prog k q => idle && (s.core k q).prog.isNone
  | .kv => !s.cmds.any (fun d => decide (d.engine = .kv) && decide (d.phase = .running) && d.stream == c.stream)
  | .ring => true
  | _ => idle

/-- Whether a command has passed L + WHORL_LATE_TOL without being judged (R55). -/
def State.unjudged (s : State) (c : Cmd) : Bool :=
  decide (c.launch ≠ 0) && decide (c.launch + c.tol < s.now) && !c.late && decide (c.phase ≠ .yielded)

/-- Whether commands start in this device state. -/
def State.serving (s : State) : Bool :=
  (decide (s.dev = .run) || decide (s.dev = .standby)) && !s.isSet Fld.HEDDLE_STATUS_ABORTING 0

/-- Whether a command may start now, but for the choice among the jobs of its engine. -/
def State.startable (s : State) (c : Cmd) : Bool :=
  let e := s.target c
  (decide (c.phase = .queued) || decide (c.phase = .yielded)) && s.serving && s.isHead c && c.tokenOk &&
  decide (c.launch ≤ s.now) && !s.unjudged c && s.engineFree c e && s.unitFree e && s.synced e &&
  s.classMay e c.job && !(decide (c.phase = .queued) && s.quiescing e c.job) && !s.heldByGuard c &&
  !s.cmds.any (fun f => f.fences c)

/-- How far a job comes after another in the order of R401. -/
def jobDistance (last job : Nat) : Nat := (job + 255 - last) % 256

/-- The least of a list by a measure, the first where several are equal. -/
def leastBy (f : Cmd → Nat) (cs : List Cmd) : Option Cmd :=
  cs.foldl (fun best c => match best with
    | none => some c
    | some b => if f c < f b then some c else some b) none

/-- The command that an engine chooses: a routed MATMUL first (R163), then one covered by its guard, then the next job's
(R401). -/
def State.choice (s : State) (e : Engine) : Option Cmd :=
  let all := s.cmds.filter (fun c => decide (s.target c = e) && s.startable c)
  let routed := all.filter (fun c => decide (c.phase = .queued) && s.routes c)
  let pool := if routed.isEmpty then all else routed
  let timed := pool.filter s.guarded
  leastBy (fun c => jobDistance (Sparse.get 255 s.heddle.lastJob e.number) c.job) (if timed.isEmpty then pool else timed)

/-- Whether an engine would start this command next; hub engines serve their commands as they become ready. -/
def State.chooses (s : State) (c : Cmd) : Bool :=
  match s.target c with
  | .kv | .ring | .digest => true
  | e => match s.choice e with
    | some d => d.uid == c.uid
    | none => false

/-! ## The start (R53, R114, R192) -/

/-- Whether a command that starts now on a skein latches ties to even (Table 6.4). -/
def State.tieEven (s : State) (k : Nat) : Bool :=
  match s.dev with
  | .standby | .run | .safe => s.get Fld.HEDDLE_TEST_STATE_PHASE 0 == 2 && s.get Fld.HEDDLE_TEST_STATE_SKEIN 0 == k
  | _ => true

/-- A skein counts a command that has latched even mode (Table 6.6). -/
def State.countEven (s : State) (e : Engine) (even : Bool) : State :=
  match e with
  | .loom k | .vec k => if even then s.count Fld.SKEIN_RQ_CNT_EVEN_COUNT k 1 else s
  | _ => s

/-- A core takes its saved registers back (R101, R411). -/
def State.restoreCore (s : State) (k q job : Nat) : State :=
  let key := (2 * k + q) * 256 + job
  match Sparse.find s.heddle.saved key with
  | some x => (({ s with heddle := { s.heddle with saved := Sparse.erase s.heddle.saved key } }).accum
      Fld.HEDDLE_ACCT_BYTES_LPDDR_RD_COUNT (s.get Fld.RING_JOB_CLIENT job) 8192).putCore k q x
  | none => s

/-- A yielded command resumes with what it kept (R175, R288, R408). -/
def State.resume (s : State) (c : Cmd) : State :=
  let t := s.modCmd c.uid (fun d => { d with phase := .running, yieldReq := false, since := s.refTime })
  match c.engine, c.work with
  | .ply h, .bank b => t.setBank h b 1 c.job
  | .loom k, .conv g => t.set Fld.SKEIN_CONV_STATUS_GROUP k g
  | .prog k q, _ => t.restoreCore k q c.job
  | .drafter _ _, _ => t.askOn c.uid
  | _, _ => t

/-- A command that has started holds what its kind takes: a snapshot (R241) once it is not to be refused (R224), or a tile
bank (R288); a CONV begins with its group 0 (R220). -/
def State.startWork (s : State) (c : Cmd) : State :=
  match c.engine with
  | .ply h => match s.freeBank h with
    | some b => (s.modCmd c.uid (fun d => { d with work := .bank b })).setBank h b 1 c.job
    | none => s
  | _ =>
    if c.opcode = 0x05 ∧ attnCheck s c.job c.stream c.desc = none then s.takeSnapshot c
    else if c.opcode = 0x06 then s.kvJoin c.uid
    else if c.opcode = 0x02 then s.set Fld.SKEIN_CONV_STATUS_GROUP c.engine.skein 0
    else s

/-- A command starts on an engine: its footprints are in progress from now on (R114), its rounding mode is latched
(R192), and a command of a pair takes its ordinal (R529).  FLAGS.DIGEST without a record ring is refused (R510). -/
def State.begin (s : State) (c : Cmd) (e : Engine) : State :=
  let routed := decide (e ≠ c.home) && s.routes c
  let f := s.footprints c e.skein
  let even := s.tieEven e.skein
  let store := match e with
    | .loom k => (s.freeStore k).getD 0
    | _ => 0
  let d := { c with
    phase := .running, registered := false, engine := e, started := s.now, even := even, routed := routed, reads := f.1, writes := f.2
    store := store, since := s.refTime, pages := s.ctxPages c.stream }
  let t := (s.modCmd c.uid (fun _ => d)).countEven e even
  let u := if routed then t.count Fld.SKEIN_LOOM_CNT_ROUTED_COUNT c.home.skein 1 else t
  if c.flags / 2 % 2 = 1 ∧ c.opcode ≠ 0x0E ∧ s.get Fld.HEDDLE_DETJ_REC_BASE_BASE c.job = 0 then u.finish c.uid 0x0102 0
  else (u.startWork d).tileStart d

/-- The job whose command started last on an engine is remembered (R401). -/
def State.noteJob (s : State) (e : Engine) (job : Nat) : State :=
  { s with heddle := { s.heddle with lastJob := Sparse.insert s.heddle.lastJob e.number job } }

/-- LAUNCH_START (R53): the command that its engine chooses starts, or resumes. -/
def execLaunchStart (uid : Nat) (s : State) : Host.Outcome State Fault Refusal :=
  .next (match s.cmd? uid with
    | none => s
    | some c =>
      if s.startable c && s.chooses c then
        let e := s.target c
        (if c.phase = .yielded then s.resume c else s.begin c e).noteJob e c.job
      else s)

/-! ## Guards and lateness (R55, R56) -/

/-- LAUNCH_GUARD (R56): Whorl time reaches L − WHORL_GUARD. -/
def execLaunchGuard (uid : Nat) (s : State) : Host.Outcome State Fault Refusal :=
  .next (match s.cmd? uid with
    | none => s
    | some c =>
      if c.launch ≠ 0 ∧ c.launch ≤ s.now + c.guard ∧ (c.phase = .admitted ∨ c.phase = .queued) then
        s.modCmd uid (fun c => { c with guarded := true })
      else s)

/-- Whether the policy that applied at its admission skips a late command (R55). -/
def State.skipsLate (s : State) (c : Cmd) : Bool :=
  let cls := s.jobClass c.job
  let idle := match s.slotOn c.home with
    | some x => cls == 2 && x.cls == 3
    | none => false
  bitsOf c.policy (if idle then 3 else cls) 1 == 1

/-- LAUNCH_LATE (R55): the command has not started by L + WHORL_LATE_TOL. -/
def execLaunchLate (uid : Nat) (s : State) : Host.Outcome State Fault Refusal :=
  .next (match s.cmd? uid with
    | none => s
    | some c =>
      if c.launch ≠ 0 ∧ c.launch + c.tol ≤ s.now ∧ c.late = false ∧ (c.phase = .admitted ∨ c.phase = .queued) ∧
          s.synced c.home ∧ ¬ s.isSet Fld.HEDDLE_STATUS_ABORTING 0 then
        let t := s.raise Flg.WHORL_EVT_LAUNCH_LATE 0
        if s.skipsLate c then (((t.withdraw (.cmd uid)).finish uid 0x0401 0).modCmd uid (fun c => { c with via := none })).fillQueues
        else t.modCmd uid (fun c => { c with late := true })
      else s)

/-! ## The loom yields (R175) -/

/-- LOOM_YIELD (R175): the running command that was asked to yield keeps its store and its place. -/
def execLoomYield (skein : Nat) (s : State) : Host.Outcome State Fault Refusal :=
  .next (match s.cmds.find? (fun c => decide (c.engine = .loom skein) && decide (c.phase = .running) && c.yieldReq) with
    | none => s
    | some c =>
      if 2 ≤ (s.cmds.filter (fun d => decide (d.engine = .loom skein) && decide (d.phase = .yielded))).length then s
      else ((s.noteGroup c).modCmd c.uid (fun c => { c with phase := .yielded, yieldReq := false })).count
        Fld.SKEIN_LOOM_CNT_YIELD_COUNT skein 1)

end Sys2Proof.Machine
end

