-- ==== Sys2Proof/Machine/Digest.lean ====
section
/-! DEFINITION. The Gulec digest record (R506, R507, R510 to R512) and the DIGEST command (R508, R509). -/

namespace Sys2Proof.Machine

/-! ## The record -/

/-- The skein that a command is homed on: its ring's home skein, or the skein of the core that issued it. -/
def State.homeSkein (s : State) (c : Cmd) : Nat :=
  match c.origin with
  | .host client sq _ => s.get Fld.RING_SQ_CFG_HOME_SKEIN (ix client sq)
  | .core k _ => k
  | .firmware => c.home.skein

/-- The images resident on a core. -/
def State.residentsOf (s : State) (k q : Nat) : List Resident := Sparse.get [] s.residents (2 * k + q)

/-- JIBEX_VERSION of the job's image on a skein, 0 where there is none (Table 17.3). -/
def State.jibexVersion (s : State) (k job : Nat) : Nat :=
  match (s.residentsOf k 0 ++ s.residentsOf k 1).find? (fun r => r.job == job) with
  | some r => r.jibex
  | none => 0

/-- What a record says beyond its command: whether it is to be signed, its short result, the capture of R507, and the
four digests. -/
structure GulecParts where
  sign : Bool
  short : Nat
  capture : Nat × Nat × Nat
  digests : List Byte
  deriving DecidableEq, Repr

/-- Whether a record can be signed. -/
def State.signs (s : State) (x : GulecParts) : Bool := x.sign && s.attestReady

/-- Bytes 0 to 191 of a record (Table 17.3). -/
def State.gulecBody (s : State) (c : Cmd) (x : GulecParts) : List Byte :=
  let ring := match c.origin with
    | .host client sq seq => (client, sq, seq)
    | _ => (s.get Fld.RING_JOB_CLIENT c.job, 0, 0)
  let spindle := match c.origin with
    | .core _ _ => 1
    | _ => 0
  let signed := s.signs x
  let flags := (if signed then 1 else 0) + 2 * s.get Fld.HEDDLE_DETJ_CFG_TWIST c.job + 4 * x.capture.2.2 + 8 * spindle
  leBytes 2 0x4447 ++ leBytes 1 1 ++ leBytes 1 flags ++ leBytes 2 (s.get Fld.HUB_ID_PART 0) ++
  leBytes 1 (16 * s.get Fld.HUB_STEPPING_MAJOR 0 + s.get Fld.HUB_STEPPING_MINOR 0) ++ leBytes 1 s.pkg ++
  leBytes 1 c.job ++ leBytes 1 ring.1 ++ leBytes 1 c.opcode ++ leBytes 1 ring.2.1 ++
  leBytes 4 (s.get Fld.HUB_COMPAT_SET_SET_ID 0) ++ leBytes 4 (s.jibexVersion (s.homeSkein c) c.job) ++
  leBytes 4 ring.2.2 ++ leBytes 8 x.capture.2.1 ++ leBytes 8 x.capture.1 ++
  leBytes 4 (if signed then s.get Fld.SEC_KEY_EPOCH_EPOCH 0 else 0) ++ leBytes 4 0 ++ leBytes 8 x.short ++ leBytes 8 0 ++
  sliceOf x.digests 0 128

/-- A whole record: signed with the attestation key, or with zeros for a signature (R512). -/
def State.gulecRecord (s : State) (c : Cmd) (x : GulecParts) : List Byte :=
  let b := s.gulecBody c x
  b ++ (if s.signs x then edSign s.sec.attest b else leBytes 64 0)

/-- The next entry of a job's record ring (R511). -/
def State.ringEntry (s : State) (job : Nat) : Nat :=
  256 * s.get Fld.HEDDLE_DETJ_REC_BASE_BASE job +
    256 * (s.get Fld.HEDDLE_DETJ_REC_WR_COUNT job % 2 ^ s.get Fld.HEDDLE_DETJ_CFG_REC_LOG2 job)

/-- The address of the record that a DIGEST writes next. -/
def State.nextRecord (s : State) (c : Cmd) : Nat := if c.field 40 8 = 0 then s.ringEntry c.job else c.field 40 8

/-- Writes a record at an address, and sets SIGN_SKIPPED where a signature was wanted and could not be made. -/
def State.writeGulec (s : State) (c : Cmd) (addr : Nat) (x : GulecParts) : State :=
  let t := s.storeKind0 c (addr / 2 ^ 63 % 2 == 1) addr (s.gulecRecord c x)
  t.doIf (x.sign && !s.attestReady) (fun t => t.raise Flg.HEDDLE_DET_EVT_SIGN_SKIPPED 0)

/-- Writes a record into the next entry of the job's record ring; the answer beside the state is its address. -/
def State.writeRing (s : State) (c : Cmd) (x : GulecParts) : State × Nat :=
  let a := s.ringEntry c.job
  ((s.writeGulec c a x).accum Fld.HEDDLE_DETJ_REC_WR_COUNT c.job 1, a)

/-! ## Records of FLAGS.DIGEST (R510) -/

/-- The skein whose bobbin holds what a command wrote: its own, once a stolen command has been copied back (R406). -/
def Cmd.outSkein (c : Cmd) : Nat := if c.copied then c.home.skein else c.engine.skein

/-- The bytes that the OUTPUTS digest of a command covers: its write extent, or what a MOVE wrote. -/
def State.outputBytes (s : State) (c : Cmd) : List Byte :=
  if c.opcode = 0x09 then (c.moved.map Prod.snd).flatten
  else ((rowsOf c.writes).map (fun r => s.readRow c.outSkein r)).flatten

/-- A digest of a category, 32 zero bytes where it has no extent (R506). -/
def categoryDigest (bs : List Byte) : List Byte := if bs = [] then leBytes 32 0 else sha256t bs

/-- Whether a command writes a record with FLAGS.DIGEST (R510). -/
def State.wantsRecord (s : State) (c : Cmd) : Bool :=
  c.flags / 2 % 2 == 1 && c.opcode != 0x0E && s.get Fld.HEDDLE_DETJ_REC_BASE_BASE c.job != 0

/-- The rows that the OUTPUTS digest reads as the record is made. -/
def Cmd.outputRows (c : Cmd) : List Nat := if c.opcode = 0x09 then [] else rowsOf c.writes

/-- The record of a command with FLAGS.DIGEST: the answer beside the state is the completion's RESULT, and the status where a
row read for it fails its parity (R106, R521). -/
def State.flagRecord (s : State) (c : Cmd) : State × Nat × Nat :=
  let r := s.readRows c.outSkein 6 c.uid c.outputRows
  if r.2 ≠ 0 then (r.1, c.result, r.2) else
  let base := s.get Fld.HEDDLE_DET_BASE_REC_ADDR c.job
  let kept := if base = 0 then leBytes 96 0 else s.load (byteAddr (base / 2 ^ 63 % 2 == 1) base + 64) 96
  let w := r.1.writeRing c
    ⟨s.isSet Fld.HEDDLE_DETJ_CFG_SIGN c.job, c.result, c.capture, kept ++ categoryDigest (s.outputBytes c)⟩
  (w.1, w.2, 0)

/-- The record of a DIGEST whose work is over (R508, R509); the answer beside the state is its RESULT. -/
def State.digestRecord (s : State) (c : Cmd) (digests : List Byte) : State × Nat :=
  let x : GulecParts := ⟨c.field 24 1 % 2 == 1, s.nextRecord c, c.capture, digests⟩
  let v := if c.field 40 8 = 0 then (s.writeRing c x).1 else s.writeGulec c (c.field 40 8) x
  (v.doIf (c.field 24 1 / 2 % 2 == 1) (fun v => v.set Fld.HEDDLE_DET_BASE_REC_ADDR c.job (s.nextRecord c)), s.nextRecord c)

/-- The record that a completing command writes, if it writes one: the state, the completion's RESULT, and the status that a
failed read of its outputs gives. -/
def State.record (s : State) (c : Cmd) : State × Nat × Nat :=
  match c.work with
  | .digested _ digests =>
    if c.status = 0 then
      let r := s.digestRecord c digests
      (r.1, r.2, 0)
    else (s, c.result, 0)
  | _ => if s.wantsRecord c then s.flagRecord c else (s, c.result, 0)

/-! ## The order of records (R511, R513) -/

/-- Whether a stolen command's write extent has still to be copied back (R406). -/
def Cmd.copyDue (c : Cmd) : Bool := c.stolen && !mutedStatus c.status && !c.copied

/-- When the record of a command became due: at the start of a DIGEST, and for any other when nothing but the record held its
completion. -/
def Cmd.dueAt (c : Cmd) : Nat :=
  match c.work with
  | .digested due _ => due
  | _ => c.since

/-- Whether the digest engine has a record of a command to make: that of a DIGEST from its start, and that of a command with
FLAGS.DIGEST once no pair and no copy holds it. -/
def State.recordDue (s : State) (c : Cmd) : Bool :=
  (c.opcode == 0x0E && decide (c.phase = .running)) ||
  (decide (c.phase = .ended) && s.tileReady c && !c.copyDue && (s.wantsRecord c || (match c.work with
    | .digested _ _ => true
    | _ => false)))

/-- Whether no record that became due before a command's is left to make (R513). -/
def State.recordTurn (s : State) (c : Cmd) : Bool :=
  !s.cmds.any (fun d => s.recordDue d && decide (d.dueAt < c.dueAt))

/-! ## DIGEST (R508, R509) -/

/-- Whether an extent lies in LPDDR or in the job's regions on its skein. -/
def State.extentOk (s : State) (job : Nat) (x : Extent) : Bool :=
  if x.bobbin then rangesFit [x.range] && s.covers job x.range else decide (x.addr + x.length ≤ s.lpddrBytes)

/-- The refusal rules of R509. -/
def digestCheck (s : State) (job : Nat) (d : List Byte) : Option Nat :=
  let n := fieldOf d 26 2
  let list := fieldOf d 32 8
  let record := fieldOf d 40 8
  let ok := fieldOf d 24 1 / 4 == 0 && fieldOf d 25 1 == 0 && fieldOf d 28 4 == 0 && fieldOf d 48 16 == 0 &&
    decide (n ≤ 4096) && list % 64 == 0 && (n != 0 || list == 0) && record % 64 == 0 &&
    fieldOf d 1 1 / 2 % 2 == 0 && (record != 0 || s.get Fld.HEDDLE_DETJ_REC_BASE_BASE job != 0)
  if ok then none else some 0x0102

/-- Reads one extent: the state, its bytes, and a status. -/
def State.readExtent (s : State) (c : Cmd) (x : Extent) : State × List Byte × Nat :=
  if x.bobbin then
    let rows := x.range.rows
    let r := s.readRows x.skein 6 c.uid rows
    (r.1, (rows.map (fun row => s.readRow x.skein row)).flatten, r.2)
  else (s.chargeRead c false x.length, s.load (Mem.lpddr x.addr) x.length, 0)

/-- Reads extents in list order, with the category of each; stops at the first that fails. -/
def State.readExtents (s : State) (c : Cmd) : List Extent → State × List (Nat × List Byte) × Nat
  | [] => (s, [], 0)
  | x :: rest =>
    let r := s.readExtent c x
    if r.2.2 ≠ 0 then (r.1, [], r.2.2) else
    let q := r.1.readExtents c rest
    (q.1, (x.category, r.2.1) :: q.2.1, q.2.2)

/-- The digests of the four categories, each over its extents in list order. -/
def categoryDigests (l : List (Nat × List Byte)) : List Byte :=
  ((List.range 4).map (fun i => categoryDigest ((l.filter (fun p => p.1 == i)).map Prod.snd).flatten)).flatten

/-- Where the record of a DIGEST may lie: its own address must lie in LPDDR, or in host memory for a command that came
through a ring (R362). -/
def State.recordFits (s : State) (c : Cmd) (addr : Nat) : Bool :=
  addr == 0 || c.hostAddr addr || decide (addr + 256 ≤ s.lpddrBytes)

/-- A DIGEST hashes its extents; its completion writes its record (R511). -/
def State.runDigest (s : State) (c : Cmd) : State :=
  let n := c.field 26 2
  let list := c.field 32 8
  let record := c.field 40 8
  if s.lpddrBytes < list + 16 * n ∨ !s.recordFits c record then s.finish c.uid 0x0204 0 else
  let xs := s.extentList c.desc
  if xs.length < n ∨ !xs.all (s.extentOk c.job) then s.finish c.uid 0x0204 0 else
  let r := (s.chargeRead c false (16 * n)).readExtents c xs
  if r.2.2 ≠ 0 then r.1.finish c.uid r.2.2 0 else
  (r.1.modCmd c.uid (fun d => { d with work := .digested c.since (categoryDigests r.2.1) })).finish c.uid 0 0

/-- DIGEST (R508): the running command ends, having spent `beats`, once its record comes next (R513). -/
def execDigest (uid beats : Nat) (s : State) : Host.Outcome State Fault Refusal :=
  .next (match s.runningCmd uid 0x0E with
    | none => s
    | some c =>
      if !s.recordTurn c then s else
      let t := s.chargeCmd c beats
      match digestCheck t c.job c.desc with
      | some st => t.finish uid st 0
      | none => t.runDigest c)

/-- A write of 1 to HEDDLE_DETj_CTRL.CLEAR (R501). -/
def State.clearNdc (s : State) (job : Nat) : State :=
  (s.set Fld.HEDDLE_DETJ_NDC_COUNT job 0).set Fld.HEDDLE_DETJ_STATUS_TIMING_STATUS job 0

/-- NDC_CLEAR (R501). -/
def execNdcClear (job : Nat) (s : State) : Host.Outcome State Fault Refusal := .next (s.host (fun s => s.clearNdc job))

end Sys2Proof.Machine
end

