-- ==== Sys2Proof/Machine/Admit.lean ====
section
/-! DEFINITION. What a descriptor becomes: its destination (Table 12.2), the checks of its payload (Table 12.4, item 5),
and the command that its admission or issue makes (Table 2.5). -/

namespace Sys2Proof.Machine

/-! ## Destinations -/

/-- Where a descriptor of a ring goes (Table 12.2). -/
def destination (home dsel : Nat) (d : List Byte) : Engine :=
  match fieldOf d 0 1 with
  | 0x01 | 0x02 | 0x05 => .loom home
  | 0x03 | 0x04 => .vec home
  | 0x06 => .kv
  | 0x07 | 0x08 => .ply (fieldOf d 26 1 % 64 / 8)
  | 0x09 => .drafter home dsel
  | 0x0A => .prog (fieldOf d 32 1 % 64) (fieldOf d 33 1 % 2)
  | 0x0E => .digest
  | _ => .ring

/-! ## Payload checks -/

/-- The fields of a PROG (Table 3.8). -/
structure Prog where
  image : Nat
  skein : Nat
  core : Nat
  entry : Nat
  load : Bool
  arg1 : Nat
  arg2 : Nat
  deriving DecidableEq, Repr

/-- Reads a PROG payload. -/
def Prog.ofBytes (d : List Byte) : Prog :=
  ⟨fieldOf d 24 8, fieldOf d 32 1 % 64, fieldOf d 33 1 % 2, fieldOf d 34 2, fieldOf d 36 1 % 2 == 1, fieldOf d 40 8,
   fieldOf d 48 8⟩

/-- The payload checks of PROG (R98). -/
def progCheck (s : State) (d : List Byte) : Bool :=
  let x := Prog.ofBytes d
  x.image % 64 == 0 && fieldOf d 32 1 / 64 == 0 && fieldOf d 33 1 / 2 == 0 && decide (x.entry < 1024) &&
  fieldOf d 36 1 / 2 == 0 && fieldOf d 37 3 == 0 && fieldOf d 56 8 == 0 && s.live x.skein

/-- The payload checks of WAIT (R92, R98). -/
def waitCheck (s : State) (job : Nat) (d : List Byte) : Bool :=
  s.mayWait job (fieldOf d 24 2) && fieldOf d 26 6 == 0 && fieldOf d 40 24 == 0

/-- The payload checks of SIGNAL (R92, R98). -/
def signalCheck (s : State) (job : Nat) (d : List Byte) : Bool :=
  s.ownsToken job (fieldOf d 24 2) && fieldOf d 26 2 != 0 && fieldOf d 28 36 == 0

/-- The payload checks of FENCE (R98). -/
def fenceCheck (d : List Byte) : Bool := decide (fieldOf d 24 1 ≤ 1) && fieldOf d 25 39 == 0

/-- A check whose failure is BAD_FIELD. -/
def badField (ok : Bool) : Option Nat := if ok then none else some 0x0102

/-- The payload checks of an opcode's chapter for a ring's descriptor. -/
def payloadCheck (s : State) (job stream : Nat) (d : List Byte) : Option Nat :=
  match fieldOf d 0 1 with
  | 0x01 => matmulCheck d
  | 0x02 => convCheck d
  | 0x03 => poolCheck d
  | 0x04 => vecCheck d
  | 0x05 => attnCheck s job stream d
  | 0x06 => appendCheck s job stream d
  | 0x07 => solveCheck s job none d
  | 0x08 => dynCheck s job none d
  | 0x09 => moveCheck s job stream d
  | 0x0A => badField (progCheck s d)
  | 0x0B => badField (waitCheck s job d)
  | 0x0C => badField (signalCheck s job d)
  | 0x0D => badField (fenceCheck d)
  | _ => digestCheck s job d

/-- The reserved bytes of a spindle image: the header's and its payload's (R76, R122, Table 3.7). -/
def imageReserved (d : List Byte) : Bool :=
  let z (a n : Nat) : Bool := fieldOf d a n == 0
  !(fieldOf d 1 1 / 4 == 0 && z 10 6 && (match fieldOf d 0 1 with
    | 0x01 => z 27 1 && z 54 10
    | 0x02 => z 27 1 && z 39 1 && z 60 4
    | 0x03 => z 27 1 && z 45 19
    | 0x04 => z 27 1 && z 46 2 && z 56 8
    | 0x05 => z 31 1 && z 58 6
    | 0x06 => z 28 4 && z 48 16
    | 0x07 => z 49 1
    | 0x08 => z 29 3 && z 46 2 && z 56 8
    | 0x09 => !moveReserved d
    | _ => z 25 1 && z 28 4 && z 48 16))

/-! ## Admission -/

/-- The command that a descriptor becomes: the tolerance, policy and guard that apply to it are those of this instant
(Table 2.5). -/
def State.newCmd (s : State) (origin : Origin) (job : Nat) (d : List Byte) (home : Engine) (via : Option (Nat × Nat)) : Cmd where
  uid := s.nextUid
  origin := origin
  job := job
  desc := d
  launch := fieldOf d 16 8
  home := home
  engine := home
  phase := .admitted
  via := via
  registered := false
  granted := false
  late := false
  tol := s.get Fld.WHORL_LATE_TOL_TICKS 0
  policy := s.get Fld.WHORL_LATE_POLICY_SAFETY 0 + 2 * s.get Fld.WHORL_LATE_POLICY_PERCEPTION 0 +
    4 * s.get Fld.WHORL_LATE_POLICY_BEST_EFFORT 0 + 8 * s.get Fld.WHORL_LATE_POLICY_TEST_IDLE 0
  guard := s.get Fld.WHORL_GUARD_TICKS 0
  guarded := false
  started := 0
  status := 0
  result := 0
  even := false
  routed := false
  store := 0
  reads := []
  writes := []
  outstanding := 0
  yieldReq := false
  orphan := false
  since := s.refTime
  awaits := []
  work := .plain
  gemv := none
  pages := 0
  mail := none
  copied := false
  cut := false
  capture := (0, 0, 0)
  digest := 0
  moved := []

/-- Adds a command and takes its number. -/
def State.addCmd (s : State) (c : Cmd) : State := { s with cmds := s.cmds ++ [c], nextUid := s.nextUid + 1 }

end Sys2Proof.Machine
end

