-- ==== Sys2Proof/Machine/Bundle.lean ====
section
/-! DEFINITION. The bundle of a spindle core: its slots and their fields (Tables 3.2 and 3.3), the opcodes of each slot
class (Table 3.4), and what each slot computes from the registers that it reads (R64 to R68, R72, R74). -/

namespace Sys2Proof.Machine

/-! ## Slots (Tables 3.2 and 3.3) -/

/-- The slots of a bundle. -/
inductive SlotKind where
  | int0 | int1 | br | simd | ls | vq | lq | dq
  deriving DecidableEq, Repr

/-- The lowest bit of a slot. -/
def SlotKind.lo : SlotKind → Nat
  | .int0 => 16 | .int1 => 80 | .br => 144 | .simd => 192 | .ls => 256 | .vq => 320 | .lq => 384 | .dq => 448

/-- The width of a slot. -/
def SlotKind.width : SlotKind → Nat
  | .br => 48
  | _ => 64

/-- The VALID bit of a slot. -/
def SlotKind.bit : SlotKind → Nat
  | .int0 => 0 | .int1 => 1 | .br => 2 | .simd => 3 | .ls => 4 | .vq => 5 | .lq => 6 | .dq => 7

/-- All slots. -/
def SlotKind.all : List SlotKind := [.int0, .int1, .br, .simd, .ls, .vq, .lq, .dq]

/-- The content of a slot of a bundle. -/
def slotOf (w : Nat) (k : SlotKind) : Nat := bitsOf w k.lo k.width

/-- Whether a slot's VALID bit is 1. -/
def slotOn (w : Nat) (k : SlotKind) : Bool := bitsOf w k.bit 1 == 1

/-- OP of a slot. -/
def slotOp (k : SlotKind) (v : Nat) : Nat := bitsOf v (k.width - 8) 8

/-! ## Opcodes (Table 3.4) -/

/-- INT opcodes. -/
inductive IntOp where
  | add | sub | mul | mulh | div | rem | and | or | xor | shl | shr | sra | cmpeq | cmplt | cmpltu | ldi | ldhi
  | ld (bytes : Nat) | st (bytes : Nat) | tkset | tkrd | tksig | rdtime | rdid | rdstat | clrstat
  deriving DecidableEq, Repr

/-- The INT opcode of an OP. -/
def intOp : Nat → Option IntOp
  | 0x01 => some .add | 0x02 => some .sub | 0x03 => some .mul | 0x04 => some .mulh | 0x05 => some .div | 0x06 => some .rem
  | 0x08 => some .and | 0x09 => some .or | 0x0A => some .xor | 0x0B => some .shl | 0x0C => some .shr | 0x0D => some .sra
  | 0x10 => some .cmpeq | 0x11 => some .cmplt | 0x12 => some .cmpltu | 0x18 => some .ldi | 0x19 => some .ldhi
  | 0x20 => some (.ld 8) | 0x21 => some (.ld 4) | 0x22 => some (.ld 2) | 0x23 => some (.ld 1)
  | 0x24 => some (.st 8) | 0x25 => some (.st 4) | 0x26 => some (.st 2) | 0x27 => some (.st 1)
  | 0x30 => some .tkset | 0x31 => some .tkrd | 0x32 => some .tksig | 0x38 => some .rdtime | 0x39 => some .rdid
  | 0x3A => some .rdstat | 0x3B => some .clrstat
  | _ => none

/-- Whether an INT opcode writes a predicate. -/
def IntOp.compares : IntOp → Bool
  | .cmpeq | .cmplt | .cmpltu => true
  | _ => false

/-- Whether an INT opcode writes a scalar register. -/
def IntOp.writesG : IntOp → Bool
  | .cmpeq | .cmplt | .cmpltu | .st _ | .tkset | .tksig | .clrstat => false
  | _ => true

/-- BR opcodes. -/
inductive BrOp where
  | br | bri | call | ret | loop | waittk | fence | halt | trap
  deriving DecidableEq, Repr

/-- The BR opcode of an OP. -/
def brOp : Nat → Option BrOp
  | 0x01 => some .br | 0x02 => some .bri | 0x03 => some .call | 0x04 => some .ret | 0x05 => some .loop
  | 0x08 => some .waittk | 0x09 => some .fence | 0x0A => some .halt | 0x0B => some .trap
  | _ => none

/-- SIMD opcodes. -/
inductive SimdOp where
  | vadd | vsub | vmul | vmax | vmin | vand | vor | vxor | vshl | vshr | vsel | vcmplt | vbcast | vext | vperm
  deriving DecidableEq, Repr

/-- The SIMD opcode of an OP. -/
def simdOp : Nat → Option SimdOp
  | 0x01 => some .vadd | 0x02 => some .vsub | 0x03 => some .vmul | 0x04 => some .vmax | 0x05 => some .vmin
  | 0x06 => some .vand | 0x07 => some .vor | 0x08 => some .vxor | 0x09 => some .vshl | 0x0A => some .vshr
  | 0x0B => some .vsel | 0x0C => some .vcmplt | 0x10 => some .vbcast | 0x11 => some .vext | 0x12 => some .vperm
  | _ => none

/-- LS opcodes. -/
inductive LsOp where
  | ldrow | strow | ldv | stv
  deriving DecidableEq, Repr

/-- The LS opcode of an OP. -/
def lsOp : Nat → Option LsOp
  | 0x01 => some .ldrow | 0x02 => some .strow | 0x03 => some .ldv | 0x04 => some .stv
  | _ => none

/-! ## Format (R65, R66) -/

/-- Whether a slot's reserved fields are 0 and its fields keep the rules of Table 3.3. -/
def bundleSlotClean (k : SlotKind) (v : Nat) : Bool :=
  match k with
  | .int0 | .int1 =>
    (match intOp (slotOp k v) with
      | some o => !o.compares || bitsOf v 50 2 == 0
      | none => true) && (bitsOf v 36 1 == 0 || bitsOf v 37 5 == 0)
  | .br => bitsOf v 16 15 == 0
  | .simd => bitsOf v 8 21 == 0
  | .ls => bitsOf v 28 14 == 0 && bitsOf v 47 2 == 0
  | .vq | .lq => bitsOf v 37 5 == 0 && bitsOf v 0 37 == 0
  | .dq => bitsOf v 37 4 == 0 && bitsOf v 0 32 == 0 && (slotOp k v == 0x02 || bitsOf v 32 5 == 0)

/-- Whether a bundle keeps the rules of R65. -/
def bundleClean (w : Nat) : Bool :=
  bitsOf w 8 4 == 1 && bitsOf w 12 4 == 0 &&
  SlotKind.all.all (fun k => if slotOn w k then bundleSlotClean k (slotOf w k) else slotOf w k == 0)

/-- Whether Table 3.4 lists a slot's OP, and a SIMD slot's ETYPE is a type (R66, R72). -/
def slotListed (k : SlotKind) (v : Nat) : Bool :=
  let op := slotOp k v
  match k with
  | .int0 | .int1 => (intOp op).isSome
  | .br => (brOp op).isSome
  | .simd => (simdOp op).isSome && decide (bitsOf v 34 3 < 6)
  | .ls => (lsOp op).isSome
  | .vq | .lq => op == 1
  | .dq => op == 1 || op == 2

/-- What a bundle's slots name as destinations (R68). -/
inductive Dest where
  | g (n : Nat) | p (n : Nat) | v (n : Nat)
  deriving DecidableEq, Repr

/-- The destinations that a slot names. -/
def slotDests (k : SlotKind) (v : Nat) : List Dest :=
  let op := slotOp k v
  match k with
  | .int0 | .int1 => match intOp op with
    | some o => if o.compares then [.p (bitsOf v 47 3)] else if o.writesG then [.g (bitsOf v 47 5)] else []
    | none => []
  | .br => match brOp op with
    | some .call => [.g 31]
    | some .loop => [.g (bitsOf v 31 5)]
    | _ => []
  | .simd => match simdOp op with
    | some .vext => [.g (bitsOf v 47 5)]
    | some _ => [.v (bitsOf v 47 5)]
    | none => []
  | .ls => match lsOp op with
    | some .ldrow => (List.range 4).map (fun i => .v (bitsOf v 47 5 + i))
    | some .ldv => [.v (bitsOf v 47 5)]
    | _ => []
  | _ => []

/-- Whether an element stands twice in a list. -/
def repeats (l : List Dest) : Bool := decide (l.eraseDups.length < l.length)

/-- The traps that a bundle meets whatever its predicates say: causes 0x01, 0x03 and 0x02, in that order. -/
def staticTrap (w : Nat) : Option Nat :=
  let on := SlotKind.all.filter (slotOn w)
  if !bundleClean w then some 0x01
  else if !on.all (fun k => slotListed k (slotOf w k)) then some 0x03
  else if repeats ((on.map (fun k => slotDests k (slotOf w k))).flatten) then some 0x02
  else none

/-! ## Registers -/

/-- A scalar register; g0 reads 0 (Table 3.1). -/
def CoreRegs.gr (r : CoreRegs) (n : Nat) : Nat := if n = 0 then 0 else (Sparse.get 0#64 r.g n).toNat
/-- Writes a scalar register; g0 ignores writes. -/
def CoreRegs.setG (r : CoreRegs) (n v : Nat) : CoreRegs :=
  if n = 0 then r else { r with g := Sparse.put 0#64 r.g n (BitVec.ofNat 64 v) }
/-- A predicate; pr0 reads 1. -/
def CoreRegs.prd (r : CoreRegs) (n : Nat) : Bool := n == 0 || r.pr.getLsbD n
/-- Writes a predicate; pr0 ignores writes. -/
def CoreRegs.setP (r : CoreRegs) (n : Nat) (b : Bool) : CoreRegs :=
  if n = 0 then r
  else { r with pr := if b then r.pr ||| BitVec.ofNat 8 (2 ^ n) else r.pr &&& ~~~ BitVec.ofNat 8 (2 ^ n) }
/-- A SIMD register. -/
def CoreRegs.vr (r : CoreRegs) (n : Nat) : Nat := (Sparse.get 0#1024 r.v n).toNat
/-- Writes a SIMD register. -/
def CoreRegs.setV (r : CoreRegs) (n v : Nat) : CoreRegs :=
  { r with v := Sparse.put 0#1024 r.v n (BitVec.ofNat 1024 v) }
/-- STAT (Table 3.1). -/
def CoreRegs.stat (r : CoreRegs) : Nat :=
  r.firstStatus * 65536 + (if r.cmdErr then 2 else 0) + (if r.divz then 1 else 0)

/-- Whether a slot acts: its VALID bit is 1 and its predicate holds (R66). -/
def CoreRegs.acts (r : CoreRegs) (w : Nat) (k : SlotKind) : Bool :=
  let v := slotOf w k
  let n := k.width - 12
  slotOn w k && (r.prd (bitsOf v n 3) != (bitsOf v (n + 3) 1 == 1))

/-! ## What slots compute -/

/-- The writes of a bundle, all of which land together (R67). -/
structure Writes where
  g : List (Nat × Nat)
  p : List (Nat × Bool)
  v : List (Nat × Nat)
  /-- STAT is cleared, and DIVZ is set -/
  clear : Bool
  divz : Bool
  /-- DMEM stores: byte address and bytes -/
  dmem : List (Nat × List Byte)
  /-- TKSET: token, COUNT, TARGET, MODE -/
  rearm : List (Nat × Nat × Nat × Bool)
  /-- TKSIG: token and amount -/
  signals : List (Nat × Nat)
  /-- the first trap met -/
  trap : Option Nat
  deriving DecidableEq, Repr

/-- No writes. -/
def Writes.none : Writes := ⟨[], [], [], false, false, [], [], [], Option.none⟩

/-- Writes of two slots. -/
def Writes.join (a b : Writes) : Writes :=
  ⟨a.g ++ b.g, a.p ++ b.p, a.v ++ b.v, a.clear || b.clear, a.divz || b.divz, a.dmem ++ b.dmem, a.rearm ++ b.rearm,
   a.signals ++ b.signals, a.trap.or b.trap⟩

/-- A write of a scalar register. -/
def wG (n v : Nat) : Writes := { Writes.none with g := [(n, v % 2 ^ 64)] }
/-- A write of a predicate. -/
def wP (n : Nat) (b : Bool) : Writes := { Writes.none with p := [(n, b)] }
/-- A write of a SIMD register. -/
def wV (n v : Nat) : Writes := { Writes.none with v := [(n, v)] }
/-- A trap. -/
def wTrap (cause : Nat) : Writes := { Writes.none with trap := some cause }

/-- Whether `n` bytes at a DMEM address are in range and naturally aligned (R72). -/
def dmemOk (a n : Nat) : Bool := decide (a + n ≤ 65536) && a % n == 0

/-- The signed quotient of two 64-bit words (Table 3.4); the one that does not fit 64 bits has no stated value. -/
def divide (a b : Nat) : Nat :=
  if b = 0 then 2 ^ 64 - 1
  else if a = 2 ^ 63 ∧ b = 2 ^ 64 - 1 then Config.quotientOverflow.toNat
  else unsigned 64 ((signed 64 a).tdiv (signed 64 b))

/-- The signed remainder. -/
def remainder (a b : Nat) : Nat := if b = 0 then a else unsigned 64 ((signed 64 a).tmod (signed 64 b))

/-- What an acting INT slot does: `a` and `b` are its operands and `imm` its sign-extended IMM36. -/
def State.intSlot (s : State) (k q job : Nat) (r : CoreRegs) (v : Nat) (o : IntOp) : Writes :=
  let gd := bitsOf v 47 5
  let a := r.gr (bitsOf v 42 5)
  let imm := unsigned 64 (signed 36 (bitsOf v 0 36))
  let gb := r.gr (bitsOf v 37 5)
  let b := if bitsOf v 36 1 = 1 then imm else gb
  let addr := (a + imm) % 2 ^ 64
  let token := a % 65536
  let owned := s.ownsToken job token
  let armable := owned && !tokenNull token
  match o with
  | .add => wG gd (a + b)
  | .sub => wG gd (a + 2 ^ 64 - b)
  | .mul => wG gd (a * b)
  | .mulh => wG gd (unsigned 64 (signed 64 a * signed 64 b / (2 ^ 64 : Nat)))
  | .div => { wG gd (divide a b) with divz := decide (b = 0) }
  | .rem => { wG gd (remainder a b) with divz := decide (b = 0) }
  | .and => wG gd (a &&& b)
  | .or => wG gd (a ||| b)
  | .xor => wG gd (a ^^^ b)
  | .shl => wG gd (a * 2 ^ (b % 64))
  | .shr => wG gd (a / 2 ^ (b % 64))
  | .sra => wG gd (unsigned 64 (signed 64 a / (2 ^ (b % 64) : Nat)))
  | .cmpeq => wP (gd % 8) (a == b)
  | .cmplt => wP (gd % 8) (decide (signed 64 a < signed 64 b))
  | .cmpltu => wP (gd % 8) (decide (a < b))
  | .ldi => wG gd imm
  | .ldhi => wG gd (bitsOf v 0 28 * 2 ^ 36 + r.gr gd % 2 ^ 36)
  | .ld n => if dmemOk addr n then wG gd (s.loadNat (Mem.dmem k q + addr) n) else wTrap 0x04
  | .st n => if dmemOk addr n then { Writes.none with dmem := [(addr, leBytes n gb)] } else wTrap 0x04
  | .tkset =>
    if !armable then wTrap 0x07
    else { Writes.none with rearm := [(token, gb % 65536, bitsOf v 0 16, bitsOf v 16 1 == 1)] }
  | .tkrd => if !armable then wTrap 0x07 else wG gd (s.token token).count
  | .tksig => if !owned then wTrap 0x07 else { Writes.none with signals := [(token, bitsOf v 0 16)] }
  | .rdtime => wG gd s.now
  | .rdid => wG gd (s.pkg * 2 ^ 24 + job * 2 ^ 16 + k * 2 ^ 8 + q)
  | .rdstat => wG gd r.stat
  | .clrstat => { Writes.none with clear := true }

/-- What slot INT0 or INT1 does. -/
def State.intWrites (s : State) (k q job : Nat) (r : CoreRegs) (w : Nat) (slot : SlotKind) : Writes :=
  let v := slotOf w slot
  match intOp (slotOp slot v) with
  | some o => if r.acts w slot then s.intSlot k q job r v o else Writes.none
  | none => Writes.none

/-! ### SIMD -/

/-- Width of an element type. -/
def etypeBits : Nat → Nat
  | 0 => 8 | 1 => 16 | 2 => 32 | 3 => 16 | 4 => 16 | _ => 32

/-- The floating format of an element type, none for the integer types. -/
def etypeFmt : Nat → Option Fmt
  | 3 => some Fmt.fp16 | 4 => some Fmt.bf16 | 5 => some Fmt.fp32
  | _ => none

/-- Element i of a SIMD register. -/
def elemOf (bits reg i : Nat) : Nat := bitsOf reg (i * bits) bits

/-- A SIMD register from its elements. -/
def packElems (bits : Nat) : List Nat → Nat
  | [] => 0
  | e :: rest => e % 2 ^ bits + 2 ^ bits * packElems bits rest

/-- Rounds to nearest even as IEEE 754 does: an overflow gives infinity. -/
def Fmt.nearest (f : Fmt) (x : Fl) : Fl :=
  match x with
  | .fin neg m e => let g := f.grid m e
                    if dyGt g.1 g.2 f.maxM f.maxE then .inf neg else .fin neg g.1 g.2
  | _ => x

/-- Saturates to the range of a signed integer type. -/
def satElem (bits : Nat) (v : Int) : Nat :=
  let hi : Int := (2 ^ (bits - 1) : Nat)
  unsigned bits (if v < -hi then -hi else if v ≥ hi then hi - 1 else v)

/-- One element of an arithmetic operation: integers saturate, floating point rounds once. -/
def arithElem (t : Nat) (fi : Int → Int → Int) (ff : Fl → Fl → Fl) (a b : Nat) : Nat :=
  match etypeFmt t with
  | none => satElem (etypeBits t) (fi (signed (etypeBits t) a) (signed (etypeBits t) b))
  | some f => f.encode (f.nearest (ff (f.decode a) (f.decode b)))

/-- Whether an element is not 0. -/
def elemSet (t e : Nat) : Bool :=
  match etypeFmt t with
  | none => e != 0
  | some f => !(f.decode e).isZero

/-- Whether one element lies below another. -/
def elemLt (t a b : Nat) : Bool :=
  match etypeFmt t with
  | none => decide (signed (etypeBits t) a < signed (etypeBits t) b)
  | some f => (f.decode a).lt false (f.decode b)

/-- A shift of integer elements; the spec gives no shift of floating ones, whose result is `free`. -/
def shiftElem (t : Nat) (left : Bool) (n a free : Nat) : Nat :=
  match etypeFmt t with
  | some _ => free
  | none =>
    if left then a * 2 ^ n else unsigned (etypeBits t) (signed (etypeBits t) a / (2 ^ n : Nat))

/-- Element i of VPERM: an index that names no element has no stated result. -/
def permElem (t a b i free : Nat) : Nat :=
  let bits := etypeBits t
  let n := elemOf bits b i
  if (etypeFmt t).isNone ∧ n < 2 ^ (bits - 1) ∧ n < 1024 / bits then elemOf bits a n else free

/-- Element i of the result of a SIMD operation. -/
def simdElem (o : SimdOp) (t shift d a b g free i : Nat) : Nat :=
  let bits := etypeBits t
  let x := elemOf bits a i
  let y := elemOf bits b i
  let u := elemOf bits free i
  match o with
  | .vadd => arithElem t (· + ·) Fl.add x y
  | .vsub => arithElem t (· - ·) (fun x y => x.add y.neg) x y
  | .vmul => arithElem t (· * ·) Fl.mul x y
  | .vmax => arithElem t max fmax x y
  | .vmin => arithElem t min fmin x y
  | .vand => x &&& y
  | .vor => x ||| y
  | .vxor => x ^^^ y
  | .vshl => shiftElem t true shift x u
  | .vshr => shiftElem t false shift x u
  | .vsel => if elemSet t y then x else elemOf bits d i
  | .vcmplt => if elemLt t x y then 2 ^ bits - 1 else 0
  | .vbcast => g % 2 ^ bits
  | .vext => 0
  | .vperm => permElem t a b i u

/-- What VEXT gives its scalar register: an element, sign-extended or as its bit pattern. -/
def extElem (t a g : Nat) : Nat :=
  let bits := etypeBits t
  let e := elemOf bits a (g % 128 % (1024 / bits))
  match etypeFmt t with
  | none => unsigned 64 (signed bits e)
  | some _ => e

/-- What the SIMD slot does.  What the spec leaves open of a result is free, the same bits from the same operation on the same
operands (R502). -/
def simdWrites (r : CoreRegs) (w : Nat) : Writes :=
  let v := slotOf w .simd
  let t := bitsOf v 34 3
  let vd := bitsOf v 47 5
  let a := r.vr (bitsOf v 42 5)
  let b := r.vr (bitsOf v 37 5)
  let g := r.gr (bitsOf v 29 5)
  match simdOp (slotOp .simd v) with
  | none => Writes.none
  | some o =>
    if !r.acts w .simd then Writes.none
    else if o = .vext then wG vd (extElem t a g)
    else wV vd (packElems (etypeBits t) ((List.range (1024 / etypeBits t)).map
      (simdElem o t (bitsOf v 0 8) (r.vr vd) a b g (Config.simdOpen [slotOp .simd v, t, bitsOf v 0 8] a b).toNat)))

/-! ### LS -/

/-- What an LS slot is to do with a bobbin row. -/
inductive RowUse where
  | load (row vg : Nat) | store (row : Nat) (bytes : List Byte)
  deriving DecidableEq, Repr

/-- What the LS slot does in DMEM and with a bobbin row. -/
def State.lsWrites (s : State) (k q job : Nat) (r : CoreRegs) (w : Nat) : Writes × Option RowUse :=
  let v := slotOf w .ls
  let vg := bitsOf v 47 5
  let addr := (r.gr (bitsOf v 42 5) + bitsOf v 0 28) % 2 ^ 64
  let rowOk := decide (addr < Config.rows) && s.covers job ⟨k, addr, addr⟩
  match lsOp (slotOp .ls v) with
  | none => (Writes.none, none)
  | some o =>
    if !r.acts w .ls then (Writes.none, none) else
    match o with
    | .ldrow => if rowOk then (Writes.none, some (.load addr vg)) else (wTrap 0x05, none)
    | .strow =>
      if rowOk then
        (Writes.none, some (.store addr ((List.range 4).map (fun i => leBytes 128 (r.vr (vg + i)))).flatten))
      else (wTrap 0x05, none)
    | .ldv => if dmemOk addr 128 then (wV vg (s.loadNat (Mem.dmem k q + addr) 128), none) else (wTrap 0x04, none)
    | .stv =>
      if dmemOk addr 128 then ({ Writes.none with dmem := [(addr, leBytes 128 (r.vr vg))] }, none) else (wTrap 0x04, none)

/-! ## The wait of a core -/

/-- The bundle at a core's bundle index. -/
def State.bundleAt (s : State) (k q : Nat) : Nat := s.loadNat (Mem.imem k q + 64 * (s.core k q).pc) 64

/-- The token that an acting WAITTK of a bundle names, none where no WAITTK acts. -/
def CoreRegs.waitOf (r : CoreRegs) (w : Nat) : Option Nat :=
  let v := slotOf w .br
  if r.acts w .br && decide (brOp (slotOp .br v) = some .waittk) then some (r.gr (bitsOf v 31 5) % 65536) else none

/-- The token that a core's present bundle waits at. -/
def State.coreWait (s : State) (k q : Nat) : Option Nat := (s.core k q).regs.waitOf (s.bundleAt k q)

end Sys2Proof.Machine
end

