-- ==== Sys2Proof/Machine/Complete.lean ====
section
/-! DEFINITION. Completion (R80, R89, R376, R380, R417, R501), the host's token and order commands (R98), token
assignment and release (R85 to R92), and work stealing (R404 to R407). -/

namespace Sys2Proof.Machine

/-! ## Completion -/

/-- Statuses that set TIMING_STATUS (R501). -/
def timingStatus (v : Nat) : Bool := [0x0401, 0x0402, 0x0501, 0x0502, 0x0901].contains v

/-- The status that a command completes with: LAUNCH_LATE where it ran late and ended OK (R55), and FRAME_MISMATCH in a
mismatched frame (R531). -/
def State.finalStatus (s : State) (c : Cmd) : Nat :=
  let v := s.tileStatus c
  if c.late && v == 0 then 0x0401 else v

/-- A core's program records the status of a command that the core issued (R80). -/
def Core.noteStatus (x : Core) (status : Nat) : Core :=
  { x with regs := { x.regs with
    cmdErr := true, firstStatus := if x.regs.firstStatus = 0 then status else x.regs.firstStatus } }

/-- The core that issued a command records a non-OK status, in its saved registers where the job has been pre-empted
(R80, R411). -/
def State.coreStatus (s : State) (k q job status : Nat) : State :=
  let key := (2 * k + q) * 256 + job
  if (Sparse.find s.heddle.saved key).isSome then
    { s with heddle := { s.heddle with saved := s.heddle.saved.map (fun p =>
      if p.1 = key then (p.1, p.2.noteStatus status) else p) } }
  else s.putCore k q ((s.core k q).noteStatus status)

/-- What a completion reports to its issuer (R80, R380, R388). -/
def State.report (s : State) (c : Cmd) (status result : Nat) : State :=
  match c.origin with
  | .host client sq seq =>
    if c.orphan then s else
    let r : Record := ⟨client, sq, s.get Fld.RING_SQ_CFG_CQ (ix client sq), c.flags % 2 == 1, status, c.job, c.opcode,
      c.stream, seq, s.now, result, false⟩
    { s with rings := { s.rings with records := s.rings.records ++ [r] } }
  | .core k q => if status = 0 then s else s.coreStatus k q c.job status
  | .firmware => s

/-- The fault that a completion's status raises (R521).  A parity failure was reported to the Selvedge, and an engine hang
was raised, when it was detected (R522, R535). -/
def State.raiseFault (s : State) (c : Cmd) (status : Nat) : State :=
  if !faultStatus status || status == 0x0605 then s else (s.jobFault status c.job c.engine.hangSource).settle

/-- A job ends: no command of it is left, and so no program either.  Its range entries are released (R267) and its windows
drain (R132). -/
def State.endJob (s : State) (c : Cmd) : State :=
  if ¬ s.cmds.any (fun d => d.job == c.job) then (s.dropRanges c.job).drainWindows (some c.job) else s

/-- What a command that a fault has cut short leaves is settled (R159, R178): the state, and the command, whose capture counts
the races of it (R507). -/
def State.settleCut (s : State) (c : Cmd) : State × Cmd :=
  if !c.cut then (s, c) else
  let t := s.cutWork c
  let n := t.get Fld.HEDDLE_DETJ_NDC_COUNT c.job - s.get Fld.HEDDLE_DETJ_NDC_COUNT c.job
  (t, { (t.cmd? c.uid).getD c with capture := (c.capture.1, c.capture.2.1 + n, c.capture.2.2) })

/-- A command completes: the rows that waited for it, its record or its issuer's status, its signal, and what it held. -/
def State.complete (s : State) (c : Cmd) : State :=
  let a := s.settleCut c
  let r := (a.1.attnWrite c (s.tileStatus c)).record a.2
  let status := if r.2.2 ≠ 0 then r.2.2 else s.finalStatus c
  let t := ((r.1.tileDone c).freeBankOf c).dropCmd c.uid
  let u := (t.doIf (timingStatus status) (fun t => t.set Fld.HEDDLE_DETJ_STATUS_TIMING_STATUS c.job 1)).report c status r.2.1
  let skipped := status == 0x0401 && !c.late
  let v := u.doIf (!mutedStatus status && !skipped) (fun u => u.signal c.signalToken 1)
  ((v.raiseFault c status).endJob c).kvSweep.fillQueues

/-- COMMAND_COMPLETE (R89): a command whose work is over completes once no pair and no copy holds it; records are made in the
order in which they became due (R513). -/
def execCommandComplete (uid : Nat) (s : State) : Host.Outcome State Fault Refusal :=
  .next (match s.cmd? uid with
    | none => s
    | some c =>
      if c.phase = .ended ∧ s.tileReady c ∧ c.copyDue = false ∧ (s.recordDue c = false ∨ s.recordTurn c = true) then s.complete c
      else s)

/-! ## WAIT, SIGNAL and FENCE (R98) -/

/-- WAIT (R98): the running WAIT registers at its token, or has already missed its deadline. -/
def execWait (uid : Nat) (s : State) : Host.Outcome State Fault Refusal :=
  .next (match s.runningCmd uid 0x0B with
    | none => s
    | some c =>
      if c.registered then s
      else if c.field 32 8 ≠ 0 ∧ c.field 32 8 < s.now then s.finish uid 0x0402 0
      else ((s.modCmd uid (fun c => { c with registered := true })).register (c.field 24 2) (.cmd uid)).settle)

/-- WAIT_DEADLINE (R98): not granted by DEADLINE; nothing is consumed. -/
def execWaitDeadline (uid : Nat) (s : State) : Host.Outcome State Fault Refusal :=
  .next (match s.runningCmd uid 0x0B with
    | none => s
    | some c =>
      if c.registered ∧ c.field 32 8 ≠ 0 ∧ c.field 32 8 ≤ s.now then (s.withdraw (.cmd uid)).finish uid 0x0402 0 else s)

/-- SIGNAL (R98). -/
def execSignal (uid : Nat) (s : State) : Host.Outcome State Fault Refusal :=
  .next (match s.runningCmd uid 0x0C with
    | none => s
    | some c => (s.signal (c.field 24 2) (c.field 26 2)).finish uid 0 0)

/-- FENCE_DESCRIPTOR (R98): every command of its scope admitted before it has completed. -/
def execFenceDescriptor (uid : Nat) (s : State) : Host.Outcome State Fault Refusal :=
  .next (match s.runningCmd uid 0x0D with
    | none => s
    | some c => if c.awaits.any (fun u => (s.cmd? u).isSome) then s else s.finish uid 0 0)

/-! ## Tokens (R85 to R92) -/

/-- Whether an abort has begun in this same beat: what arises in the beat is still judged with it (R418). -/
def State.cutNow (s : State) : Bool := s.isSet Fld.HEDDLE_STATUS_ABORTING 0 && s.heddle.abortAt == s.refTime

/-- The wait of a command that the abort has just stopped reaches its token, once. -/
def State.cmdWaitLate (s : State) (c : Cmd) : State :=
  ({ s with heddle := { s.heddle with cutWaits := s.heddle.cutWaits.filter (fun u => u != c.uid) } }).lateWait c.waitToken
    (.cmd c.uid)

/-- The wait of a stalled core that the abort has just stopped reaches its token, once. -/
def State.coreWaitLate (s : State) (k q : Nat) : State :=
  match s.coreWait k q with
  | some id => (s.putCore k q { s.core k q with cutWait := false }).lateWait id (.core k q)
  | none => s

/-- TOKEN_WAIT_REGISTER (R90): a command at the head of its job's order, a stalled core or a stream registers its
wait. -/
def execTokenWaitRegister (waiter : Wait) (s : State) : Host.Outcome State Fault Refusal :=
  .next (State.settle (match waiter with
    | .cmd uid => match s.cmd? uid with
      | some c =>
        if s.cutNow ∧ uid ∈ s.heddle.cutWaits then s.cmdWaitLate c
        else if c.phase = .queued ∧ s.isHead c ∧ c.registered = false ∧ c.tokenOk = false then
          (s.modCmd uid (fun c => { c with registered := true })).register c.waitToken (.cmd uid)
        else s
      | none => s
    | .core k q =>
      let x := s.core k q
      if s.cutNow ∧ x.cutWait = true then s.coreWaitLate k q else
      match s.coreWait k q with
      | some id =>
        if x.state = .stalled ∧ x.waitReg = false ∧ x.waitGranted = false then
          (s.putCore k q { x with waitReg := true }).register id (.core k q)
        else s
      | none => s
    | .capture n => if (s.cap n).live then s.register (s.get Fld.CARD_CAP_TOKENS_FREE n) (.cap n) else s
    | .dataset d => if (s.ds d).live then s.register (s.get Fld.CARD_DS_TOKENS_FREE d) (.ds d) else s))

/-- Takes the first element that satisfies `p` out of a list. -/
def takeFirst {α : Type} (p : α → Bool) : List α → Option α × List α
  | [] => (none, [])
  | a :: rest => if p a then (some a, rest) else
    let r := takeFirst p rest
    (r.1, a :: r.2)

/-- TOKEN_SIGNAL_ARRIVE (R90): the oldest signal in flight to a token reaches its home. -/
def execTokenSignalArrive (token : Nat) (s : State) : Host.Outcome State Fault Refusal :=
  .next (match takeFirst (fun p => p.1 == token) s.signals with
    | (some p, rest) => (({ s with signals := rest }).arrive p.1 p.2).settle
    | (none, _) => s)


/-- Whether a carding stream, dispatcher or inbox of a job is enabled (R87). -/
def State.jobStreams (s : State) (job : Nat) : Bool :=
  (List.range 16).any (fun n => s.isSet Fld.CARD_CAP_CTRL_EN n && s.get Fld.CARD_CAP_NBUF_JOB n == job) ||
  (List.range 4).any (fun d => s.isSet Fld.CARD_DS_CTRL_EN d && s.get Fld.CARD_DS_CTRL_JOB d == job) ||
  (List.range 8).any (fun d => s.isSet Fld.IWL_DISP_CFG_VALID d && s.get Fld.IWL_DISP_CFG_JOB d == job) ||
  (List.range 64).any (fun n => s.isSet Fld.IWL_INBOX_CFG_VALID n && s.get Fld.IWL_INBOX_TOKENS_JOB n == job)

/-- A token is given an owner and armed; what waits at it is tested. -/
def State.armToken (s : State) (id job count target : Nat) (level : Bool) : State :=
  (s.putToken id { s.token id with count := count, target := target, level := level, owner := some job }).serve id

/-- A SKEIN_TOKEN_CMD is refused (R104). -/
def State.tokenRefused (s : State) (skein : Nat) : State := s.raise Flg.SKEIN_EVT_TOKEN_REFUSED skein

/-- OP ASSIGN (R86). -/
def State.assignToken (s : State) (skein index job count target : Nat) (level : Bool) : State :=
  let id := skein * 1024 + index
  let ok := match (s.token id).owner with
    | none => true
    | some j => j == job && !s.jobBusy job
  if index = 0 ∨ ok = false then s.tokenRefused skein else s.armToken id job count target level

/-- Whether a job's tokens may be released (R87): no registered waiter names one of them either (R85). -/
def State.mayRelease (s : State) (job : Nat) : Bool :=
  !s.jobBusy job && !s.jobStreams job && (s.ownedTokens job).all (fun id => (s.token id).waiters.isEmpty)

/-- OP RELEASE (R87). -/
def State.releaseToken (s : State) (skein index : Nat) : State :=
  let id := skein * 1024 + index
  match (s.token id).owner with
  | some job => if index ≠ 0 ∧ s.mayRelease job then s.putToken id Token.reset else s.tokenRefused skein
  | none => s.tokenRefused skein

/-- A write of 1 to RING_JOBj.RELEASE_TOKENS (R87). -/
def State.releaseJob (s : State) (job : Nat) : State :=
  if s.mayRelease job then s.forEach (s.ownedTokens job) (fun t id => t.putToken id Token.reset)
  else s.raise Flg.RING_EVT_CFG_REFUSED 0

/-- TOKEN_ASSIGN (R86). -/
def execTokenAssign (skein index job count target : Nat) (level : Bool) (s : State) :
    Host.Outcome State Fault Refusal :=
  .next (s.host fun s => (s.assignToken skein index job count target level).settle)

/-- TOKEN_RELEASE (R87). -/
def execTokenRelease (skein index : Nat) (s : State) : Host.Outcome State Fault Refusal :=
  .next (s.host fun s => s.releaseToken skein index)

/-- RELEASE_TOKENS (R87). -/
def execReleaseTokens (job : Nat) (s : State) : Host.Outcome State Fault Refusal :=
  .next (s.host fun s => s.releaseJob job)

/-! ## Work stealing (R404 to R407) -/

/-- The thief's engine of a command's kind (R404, R406). -/
def Cmd.thiefEngine (c : Cmd) (t : Nat) : Option Engine :=
  match c.home with
  | .loom _ => some (.loom t)
  | .vec _ => some (.vec t)
  | .drafter _ d => if c.opcode = 0x09 then some (.drafter t d) else none
  | _ => none

/-- Whether a job is pinned to a skein by a remote read that has not been answered (R410). -/
def State.pinned (s : State) (job k : Nat) : Bool :=
  s.cmds.any (fun c => c.job == job && c.engine.on k && s.parked c)

/-- Whether an engine holds a ready command in its own queue: one at the head of its job's order whose wait token is satisfied,
the engine being free (R53, R404). -/
def State.holdsReady (s : State) (e : Engine) : Bool :=
  s.cmds.any (fun d => decide (d.home = e) && (decide (d.phase = .queued) || decide (d.phase = .yielded)) && s.isHead d &&
    d.tokenOk && s.engineFree d (s.target d))

/-- Whether a skein may steal a command (R404); the steal is a launch decision of the thief (R49). -/
def State.stealable (s : State) (c : Cmd) (t : Nat) : Bool :=
  match c.thiefEngine t with
  | none => false
  | some e =>
    let v := c.home.skein
    let f := s.footprints c t
    s.serving && decide (t ≠ v) && s.live t && s.live v && !s.inTest t && !s.inTest v &&
    decide (c.phase = .queued) && !s.routes c && c.launch == 0 && c.tokenOk && s.isHead c &&
    s.isSet Fld.HEDDLE_JOB_CFG_STEAL_EN c.job && s.get Fld.HEDDLE_JOB_STEAL_MASK c.job / 2 ^ t % 2 == 1 &&
    !s.fixedTwist c.job && !s.pinned c.job v &&
    s.engineFree c e && s.unitFree e && s.synced e && !s.holdsReady e &&
    s.classMay e c.job && !s.quiescing e c.job && !s.cmds.any (fun f => f.fences c) &&
    !s.cmds.any (fun w => s.guarded w && decide (w.job ≠ c.job) && decide (s.target w = e)) &&
    s.inRegions c.job (f.1 ++ f.2)

/-- How far a victim stands in a thief's search (R405): its own hank from T + 1, then the others. -/
def stealRank (t v : Nat) : Nat :=
  if v / 8 = t / 8 then (v % 8 + 8 - t % 8) % 8 else 8 * ((v / 8 + 8 - t / 8) % 8) + v % 8

/-- STEAL (R404 to R407): the thief takes the first command that its search finds. -/
def execSteal (uid thief : Nat) (s : State) : Host.Outcome State Fault Refusal :=
  .next (match s.cmd? uid with
    | none => s
    | some c => match c.thiefEngine thief with
      | none => s
      | some e =>
        let before := s.cmds.any (fun d => decide (d.thiefEngine thief = some e) &&
          decide (stealRank thief d.home.skein < stealRank thief c.home.skein) && s.stealable d thief)
        if s.stealable c thief && !before then
          ((((s.count Fld.HEDDLE_CNT_STEAL_COUNT 0 1).ndc c.job).begin c e).noteJob e c.job).fillQueues
        else s)

/-- STEAL_COPY_BACK_END (R406): the write extent of a stolen command that has ended is copied to its own skein, through
both skeins' X ports; rows that wait for its completion are written there by it (R247). -/
def execStealCopyBackEnd (uid : Nat) (s : State) : Host.Outcome State Fault Refusal :=
  .next (match s.cmd? uid with
    | none => s
    | some c =>
      if c.phase = .ended ∧ c.copyDue then
        let rows := (rowsOf c.writes).filter (fun row => !c.heldRows.contains row)
        let r := s.readRows c.engine.skein 6 uid rows
        if r.2 ≠ 0 then r.1.finish uid r.2 0 else
        let w := r.1.writeRows c.home.skein 6 uid (rows.map (fun row => (row, s.readRow c.engine.skein row)))
        let m := if w.2 = 0 then w.1.meetRows c.home.skein 6 uid c.heldRows else w
        if m.2 ≠ 0 then m.1.finish uid m.2 0 else m.1.modCmd uid (fun c => { c with copied := true, since := s.refTime })
      else s)

end Sys2Proof.Machine
end

