-- ==== Sys2Proof/Machine/Spindle.lean ====
section
/-! DEFINITION. The spindle cores: one bundle (R67 to R74, R76 to R78, R80, R94), program images and their start (R98 to
R102, R126, R188, R268), and the debugger (R541). -/

namespace Sys2Proof.Machine

/-! ## Branches (Table 3.4) -/

/-- What the BR slot does: the next bundle index, its register write, and what it waits for. -/
structure Branch where
  next : Nat
  g : List (Nat × Nat)
  wait : Option Nat
  fence : Nat
  halt : Bool
  /-- cause and software code -/
  trap : Option (Nat × Nat)
  deriving DecidableEq, Repr

/-- A branch to an index, which must lie in the image's IMEM extent (R72). -/
def Branch.to (base len target : Nat) (g : List (Nat × Nat)) : Branch :=
  ⟨target, g, none, 0, false, if base ≤ target ∧ target < base + len then none else some (0x0A, 0)⟩

/-- What the BR slot of a bundle does. -/
def branchOf (x : Core) (mayWait : Nat → Bool) (w : Nat) : Branch :=
  let r := x.regs
  let v := slotOf w .br
  let ga := bitsOf v 31 5
  let a := r.gr ga
  let imm := bitsOf v 0 16
  let on : Branch := ⟨(x.pc + 1) % 1024, [], none, 0, false, none⟩
  let jump (t : Nat) (g : List (Nat × Nat)) : Branch := Branch.to x.imemBase x.imemLen t g
  match brOp (slotOp .br v) with
  | none => on
  | some o =>
    if !r.acts w .br then on else
    match o with
    | .br => jump (imm % 1024) []
    | .bri => jump (a % 1024) []
    | .call => jump (imm % 1024) [(31, (x.pc + 1) % 1024)]
    | .ret => jump (r.gr 31 % 1024) []
    | .loop =>
      let n := (a + 2 ^ 64 - 1) % 2 ^ 64
      if n ≠ 0 then jump (imm % 1024) [(ga, n)] else { on with g := [(ga, n)] }
    | .waittk => if mayWait (a % 65536) then { on with wait := some (a % 65536) } else { on with trap := some (0x07, 0) }
    | .fence => { on with fence := imm % 64 }
    | .halt => { on with halt := true }
    | .trap => { on with trap := some (0x09, imm % 256) }

/-- Whether a command that a core issued belongs to part i of a FENCE and is not complete (R94). -/
def Cmd.fencePart (c : Cmd) (k q i : Nat) : Bool :=
  c.origin == .core k q && !(decide (c.phase = .ended) && c.status == 0x0401 && !c.late) &&
  (match i with
    | 0 => decide (c.home = .loom k)
    | 1 => decide (c.home = .vec k)
    | 2 => decide (c.home = .drafter k 0)
    | 3 => decide (c.home = .drafter k 1)
    | 5 => [0x06, 0x07, 0x08, 0x0E].contains c.opcode
    | _ => false)

/-- Whether a FENCE over these parts is open; stores are visible at once (R94, R96). -/
def State.fenceOpen (s : State) (k q mask : Nat) : Bool :=
  (List.range 6).any (fun i => mask / 2 ^ i % 2 == 1 && s.cmds.any (fun c => c.fencePart k q i))

/-! ## Issue (R75 to R79) -/

/-- Opcodes that a queue accepts from a spindle core (Table 3.5). -/
def SlotKind.accepts : SlotKind → List Nat
  | .lq => [0x01, 0x02, 0x05]
  | .vq => [0x03, 0x04]
  | .dq => [0x06, 0x07, 0x08, 0x09, 0x0E]
  | _ => []

/-- The queue that an issue slot of skein k fills. -/
def issueQueue (k v : Nat) : SlotKind → Engine
  | .lq => .loom k
  | .vq => .vec k
  | _ => .drafter k (bitsOf v 41 1)

/-- Where an image goes, and the drafter entry that it holds until then (R78). -/
def issueHome (k : Nat) (e : Engine) (opcode : Nat) : Engine × Option (Nat × Nat) :=
  match e with
  | .drafter _ d => match opcode with
    | 0x07 | 0x08 => (.ply (k / 8), some (k, d))
    | 0x06 => (.kv, some (k, d))
    | 0x0E => (.digest, some (k, d))
    | _ => (e, none)
  | _ => (e, none)

/-- An issue slot that acts: its queue and the images that it issues. -/
structure IssueSlot where
  slot : SlotKind
  queue : Engine
  addr : Nat
  images : List (List Byte)
  deriving DecidableEq, Repr

/-- An image as it is issued: its job is the running one, and GL replaces the launch time (R76). -/
def issueImage (job gl launch : Nat) (d : List Byte) : List Byte :=
  d.take 2 ++ leBytes 1 job ++ (d.drop 3).take 13 ++
  (if gl = 0 then (d.drop 16).take 8 else leBytes 8 launch) ++ d.drop 24

/-- The acting issue slots of a bundle; `s` holds the bundle's own stores (R71). -/
def State.issueSlots (s : State) (k q job : Nat) (r : CoreRegs) (w : Nat) : List IssueSlot :=
  ([SlotKind.lq, .vq, .dq].filter (r.acts w)).map (fun slot =>
    let v := slotOf w slot
    let a := r.gr (bitsOf v 47 5)
    let gl := bitsOf v 42 5
    let n := if slot = .dq ∧ slotOp slot v = 2 then bitsOf v 32 5 + 1 else 1
    ⟨slot, issueQueue k v slot, a, (List.range n).map (fun i =>
      issueImage job gl (r.gr gl) (s.load (Mem.dmem k q + a + 64 * i) 64))⟩)

/-- The trap of an image (R76, R92). -/
def State.imageTrap (s : State) (job : Nat) (slot : SlotKind) (d : List Byte) : Option Nat :=
  if !(slot.accepts.contains (fieldOf d 0 1)) then some 0x06
  else if imageReserved d then some 0x01
  else if !(s.mayWait job (fieldOf d 6 2) && s.ownsToken job (fieldOf d 8 2)) then some 0x07
  else none

/-- The trap of an issue slot. -/
def State.issueTrap (s : State) (job : Nat) (x : IssueSlot) : Option Nat :=
  if x.addr % 64 ≠ 0 ∨ 65536 < x.addr + 64 * x.images.length then some 0x04
  else x.images.findSome? (s.imageTrap job x.slot)

/-- Whether a queue can take the images of an issue slot now (R77, R79). -/
def State.issueRoom (s : State) (job : Nat) (x : IssueSlot) : Bool :=
  decide ((s.queueOf x.queue).length + x.images.length ≤ x.queue.depth.getD 0) &&
  !s.cmds.any (fun c => decide (c.home = x.queue) && decide (c.phase = .admitted) && c.job == job)

/-- A command that a core issues; while its PROG runs on after a reset of the client's function, so does what it issues
(R388). -/
def State.issued (s : State) (k q job : Nat) (d : List Byte) (h : Engine × Option (Nat × Nat)) : Cmd :=
  { s.newCmd (.core k q) job d h.1 h.2 with
    orphan := s.cmds.any (fun c => c.orphan && (s.core k q).prog == some c.uid) }

/-- Issues the images of a slot. -/
def State.issue (s : State) (k q job : Nat) (x : IssueSlot) : State :=
  s.forEach x.images (fun t d =>
    let h := issueHome k x.queue (fieldOf d 0 1)
    (t.addCmd (t.issued k q job d h)).fillQueues)

/-! ## The bundle -/

/-- DMEM stores land (R71). -/
def State.landDmem (s : State) (k q : Nat) (l : List (Nat × List Byte)) : State :=
  s.forEach l (fun t p => t.store (Mem.dmem k q + p.1) p.2)

/-- What the slots other than BR and the issue slots do. -/
def State.slotWrites (s : State) (k q job : Nat) (r : CoreRegs) (w : Nat) : Writes × Option RowUse :=
  let l := s.lsWrites k q job r w
  ((((s.intWrites k q job r w .int0).join (s.intWrites k q job r w .int1)).join l.1).join (simdWrites r w), l.2)

/-- Registers after a bundle's writes. -/
def CoreRegs.land (r : CoreRegs) (x : Writes) (g : List (Nat × Nat)) : CoreRegs :=
  let a := (x.g ++ g).foldl (fun r p => r.setG p.1 p.2) r
  let b := x.p.foldl (fun r p => r.setP p.1 p.2) a
  let c := x.v.foldl (fun r p => r.setV p.1 p.2) b
  let d := if x.clear then { c with firstStatus := 0, cmdErr := false, divz := false } else c
  { d with divz := d.divz || x.divz }

/-- A core traps at its present bundle (R73). -/
def State.coreTrap (s : State) (k q cause code : Nat) : State :=
  let x := s.core k q
  ((s.putCore k q { x with state := .trapped, waitReg := false, waitGranted := false, cut := none }).trap k q cause code
    x.job).settle

/-- The first trap of a bundle: INT, LS and SIMD slots, then BR, then the issue slots. -/
def bundleTrap (slots : Option Nat) (br : Option (Nat × Nat)) (issues : Option Nat) : Option (Nat × Nat) :=
  (slots.map (fun c => (c, 0))).or (br.or (issues.map (fun c => (c, 0))))

/-- Windows that a program opened begin to drain (R126). -/
def State.drainProgram (s : State) (k q : Nat) (x : Core) : State :=
  match (s.residentsOf k q).find? (fun r => r.job == x.job && r.imemBase == x.imemBase && r.imemLen == x.imemLen) with
  | none => s
  | some r => s.forEach r.windows (fun t p => if (t.window k p.1).job = x.job then t.windowDrain k p.1 else t)

/-- A core's program ends: its PROG ends with a status and a short result. -/
def State.endProgram (s : State) (k q uid status result : Nat) : State :=
  let x := s.core k q
  (((s.putCore k q { x with state := .halted, prog := none, waitReg := false, waitGranted := false }).drainProgram k q x)).finish
    uid status result

/-- The bobbin access of a bundle: the state, what LDROW reads, and a status. -/
def State.rowAccess (s : State) (k q uid : Nat) : Option RowUse → State × List (Nat × Nat) × Nat
  | none => (s, [], 0)
  | some (.load row vg) =>
    let bs := s.readRow k row
    let r := s.readRows k (4 + q) uid [row]
    (r.1, (List.range 4).map (fun i => (vg + i, leNat (sliceOf bs (128 * i) 128))), r.2)
  | some (.store row bs) =>
    let r := s.writeRows k (4 + q) uid [(row, bs)]
    (r.1, [], r.2)

/-- What a completing bundle does to the state: its writes land together, then its commands are issued. -/
def State.landBundle (s : State) (k q uid : Nat) (a : Writes) (use : Option RowUse) (b : Branch) (is : List IssueSlot) :
    State :=
  let x := s.core k q
  let u := s.rowAccess k q uid use
  if u.2.2 = 0x0604 then u.1.endProgram k q uid 0x0604 0 else
  let y := { x with
    state := .run, pc := b.next, regs := x.regs.land { a with v := a.v ++ u.2.1 } b.g, waitReg := false, waitGranted := false }
  let t := (u.1.landDmem k q a.dmem).putCore k q y
  let v := (t.forEach a.rearm (fun t p => t.armToken p.1 x.job p.2.1 p.2.2.1 p.2.2.2)).forEach a.signals
    (fun t p => t.signal p.1 p.2)
  let i := v.forEach is (fun t p => t.issue k q x.job p)
  let z := i.spend (.prog k q) none (i.get Fld.RING_JOB_CLIENT x.job) 1
  if u.2.2 ≠ 0 then z.endProgram k q uid u.2.2 0
  else if b.halt then z.endProgram k q uid x.regs.firstStatus (x.regs.gr 1)
  else z

/-- The trap of a core's present bundle: cause and software code (R72, R73, R76, R92). -/
def State.trapOf (s : State) (k q : Nat) : Option (Nat × Nat) :=
  let x := s.core k q
  let w := s.bundleAt k q
  match staticTrap w with
  | some c => some (c, 0)
  | none =>
    let a := (s.slotWrites k q x.job x.regs w).1
    bundleTrap a.trap (branchOf x (s.mayWait x.job) w).trap
      (((s.landDmem k q a.dmem).issueSlots k q x.job x.regs w).findSome? (s.issueTrap x.job))

/-- A core runs its present bundle as far as it goes: it traps, stalls or completes (R67, R70, R73). -/
def State.runBundle (s : State) (k q uid : Nat) : State :=
  match s.trapOf k q with
  | some p => s.coreTrap k q p.1 p.2
  | none =>
    let x := s.core k q
    let w := s.bundleAt k q
    let a := s.slotWrites k q x.job x.regs w
    let b := branchOf x (s.mayWait x.job) w
    let is := (s.landDmem k q a.1.dmem).issueSlots k q x.job x.regs w
    let waits := match b.wait with
      | some id => !tokenNull id && !x.waitGranted
      | none => false
    if waits || s.fenceOpen k q b.fence || !is.all (s.issueRoom x.job) then s.putCore k q { x with state := .stalled }
    else (s.landBundle k q uid a.1 a.2 b is).settle

/-- Whether an abort of this same beat has cut the core's program off: its bundle can still trap together with the fault
that started the abort (R104, R418). -/
def State.coreCut (s : State) (k q : Nat) : Bool := (s.core k q).cut == some s.refTime

/-- Whether the debugger has halted a core (R541). -/
def State.coreHalted (s : State) (k q : Nat) : Bool := s.selv.halted.contains (2 * k + q)

/-- The PROG whose program a core runs, where the core may take a bundle now. -/
def State.coreRuns (s : State) (k q : Nat) : Option Nat :=
  match (s.core k q).prog with
  | some uid =>
    if s.serving && s.live k && (s.runningCmd uid 0x0A).isSome &&
      (decide ((s.core k q).state = .run) || decide ((s.core k q).state = .stalled)) then some uid else none
  | none => none

/-- A core takes one bundle. -/
def State.takeBundle (s : State) (k q : Nat) : State :=
  match s.coreRuns k q with
  | some uid => s.runBundle k q uid
  | none => if s.coreCut k q then (match s.trapOf k q with
    | some p => s.coreTrap k q p.1 p.2
    | none => s) else s

/-- BUNDLE (R67): a running core takes its next bundle. -/
def execBundle (skein core : Nat) (s : State) : Host.Outcome State Fault Refusal :=
  .next (if ((s.core skein core).state = .run ∨ s.coreCut skein core = true) ∧ ¬ s.coreHalted skein core then
    s.takeBundle skein core else s)

/-- BUNDLE_RESUME (R70): a stalled bundle completes once every acting slot can complete. -/
def execBundleResume (skein core : Nat) (s : State) : Host.Outcome State Fault Refusal :=
  .next (if (s.core skein core).state = .stalled ∧ ¬ s.coreHalted skein core then s.takeBundle skein core else s)

/-! ## Program images (R99 to R102) -/

/-- The header fields of a program image (Table 3.9). -/
structure Image where
  bytes : List Byte
  sections : Nat
  imemBase : Nat
  imemLen : Nat
  dmemBase : Nat
  dmemLen : Nat
  flags : Nat
  jibex : Nat
  deriving DecidableEq, Repr

/-- Reads the image at an LPDDR address; none where it does not lie in LPDDR. -/
def State.readImage (s : State) (a : Nat) : Option Image :=
  let n := s.loadNat (Mem.lpddr a + 4) 4
  if s.lpddrBytes < a + 64 ∨ s.lpddrBytes < a + n ∨ n < 64 then none else
  let b := s.load (Mem.lpddr a) n
  some ⟨b, fieldOf b 3 1, fieldOf b 16 2, fieldOf b 18 2, fieldOf b 20 2, fieldOf b 22 2, fieldOf b 24 2, fieldOf b 12 4⟩

/-- A section of an image. -/
structure Section where
  type : Nat
  target : Nat
  data : List Byte
  deriving DecidableEq, Repr

/-- Section i of an image; none where its entry is malformed or its data leave the image. -/
def Image.section (x : Image) (i : Nat) : Option Section :=
  let e := 64 + 16 * i
  let o := fieldOf x.bytes (e + 4) 4
  let n := fieldOf x.bytes (e + 8) 4
  if x.bytes.length < e + 16 ∨ fieldOf x.bytes (e + 1) 3 ≠ 0 ∨ x.bytes.length < o + n then none
  else some ⟨fieldOf x.bytes e 1, fieldOf x.bytes (e + 12) 4, (x.bytes.drop o).take n⟩

/-- The sections of an image that are well formed. -/
def Image.all (x : Image) : List Section := (List.range x.sections).filterMap x.section

/-- The bytes of a section in pieces of `n`. -/
def Section.pieces (x : Section) (n : Nat) : List (List Byte) :=
  (List.range (x.data.length / n)).map (fun i => (x.data.drop (n * i)).take n)

/-- Rows that a section loads. -/
def Section.rows (x : Section) (k : Nat) : RowRange := ⟨k, x.target, x.target + ceilDiv x.data.length 512 - 1⟩

/-- A window definition (Table 4.2); none where a reserved bit is set. -/
def windowDef (job : Nat) (b : List Byte) : Option (Nat × Window) :=
  if fieldOf b 0 1 < 16 ∧ fieldOf b 1 1 < 4 ∧ fieldOf b 2 2 = 0 ∧ fieldOf b 12 4 = 0 ∧ fieldOf b 10 2 ≤ Config.rows then
    some (fieldOf b 0 1, ⟨.idle, job, fieldOf b 1 1 / 2 % 2 == 1, fieldOf b 1 1 % 2 == 1, fieldOf b 4 4, fieldOf b 8 2,
      fieldOf b 10 2, fieldOf b 16 16⟩)
  else none

/-- Opens windows one after another under R125; `idle` asks that each be IDLE. -/
def State.openWindows (s : State) (k : Nat) (idle : Bool) : List (Nat × Window) → Option State
  | [] => some s
  | (n, w) :: rest =>
    if s.windowOk k n w && (!idle || decide ((s.window k n).state = .idle)) then
      (s.putWindow k n { w with state := .active }).openWindows k idle rest
    else none

/-- Whether a token-assignment entry can be taken (R86, Table 3.10). -/
def State.tokenEntryOk (s : State) (job : Nat) (b : List Byte) : Bool :=
  let id := fieldOf b 0 2
  !tokenNull id && decide (fieldOf b 6 1 ≤ 1) && fieldOf b 7 1 == 0 &&
  ((s.token id).owner == none || (s.token id).owner == some job)

/-- Whether a range entry can be loaded (R268). -/
def State.rangeLoadOk (s : State) (h job e : Nat) : Bool :=
  let x := s.rangeEntry h e
  !x.valid || x.owner == job

/-- The windows that an image defines. -/
def Image.windows (x : Image) (job : Nat) : List (Nat × Window) :=
  ((x.all.filter (fun t => t.type == 7)).map (fun t => (t.pieces 32).filterMap (windowDef job))).flatten

/-- Whether a section passes the check of R100 (R86, R126, R188, R268). -/
def State.sectionOk (s : State) (k job : Nat) (x : Image) (t : Section) : Bool :=
  let n := t.data.length
  match t.type with
  | 1 => n % 64 == 0 && decide (t.target + n / 64 ≤ x.imemLen)
  | 2 => decide (t.target + n ≤ 512 * x.dmemLen)
  | 3 => t.target == 0 && n % 8 == 0 && (t.pieces 8).all (s.tokenEntryOk job)
  | 4 => n % 512 == 0 && n != 0 && s.covers job (t.rows k)
  | 5 => n % 16 == 0 && n != 0 && s.covers job (t.rows k)
  | 6 => n % 16 == 0 && n != 0 && decide (t.target + n / 16 ≤ 64) &&
    (List.range (n / 16)).all (fun i => s.rangeLoadOk (k / 8) job (t.target + i))
  | 7 => t.target == 0 && n % 32 == 0 && (t.pieces 32).all (fun b => (windowDef job b).isSome)
  | _ => false

/-- The check of R100. -/
def State.imageOk (s : State) (k job : Nat) (x : Image) : Bool :=
  let b := x.bytes
  fieldOf b 0 2 == 0x4B53 && fieldOf b 2 1 == 1 && decide (1 ≤ x.sections) && decide (x.sections ≤ 32) &&
  fieldOf b 8 4 == s.get Fld.HUB_COMPAT_SET_SET_ID 0 && fieldOf b 26 6 == 0 && decide (x.flags < 2) &&
  (b.drop 32).take 32 == sha256t (b.take 32 ++ leBytes 32 0 ++ b.drop 64) &&
  decide (1 ≤ x.imemLen) && decide (x.imemBase + x.imemLen ≤ 1024) && decide (x.dmemBase + x.dmemLen ≤ 128) &&
  x.all.length == x.sections && x.all.all (s.sectionOk k job x) && (s.openWindows k false (x.windows job)).isSome

/-- Whether two extents share a unit; an empty one shares none. -/
def extentsMeet (a n b m : Nat) : Bool := decide (0 < n) && decide (0 < m) && decide (a < b + m) && decide (b < a + n)

/-- Whether an image's extents meet a resident's. -/
def Image.meets (x : Image) (r : Resident) : Bool :=
  extentsMeet x.imemBase x.imemLen r.imemBase r.imemLen || extentsMeet x.dmemBase x.dmemLen r.dmemBase r.dmemLen

/-- Replaces the images resident on a core. -/
def State.putResidents (s : State) (k q : Nat) (l : List Resident) : State :=
  { s with residents := Sparse.put [] s.residents (2 * k + q) l }

/-- Loads one section of an image; a row race in fixed-twist mode gives its status. -/
def State.loadSection (s : State) (k q uid job : Nat) (x : Image) (t : Section) : State × Nat :=
  match t.type with
  | 1 => (s.store (Mem.imem k q + 64 * (x.imemBase + t.target)) t.data, 0)
  | 2 => (s.store (Mem.dmem k q + 512 * x.dmemBase + t.target) t.data, 0)
  | 3 => (s.forEach (t.pieces 8) (fun u b =>
      u.armToken (fieldOf b 0 2) job (fieldOf b 2 2) (fieldOf b 4 2) (fieldOf b 6 1 == 1)), 0)
  | 4 | 5 => s.writeRows k (4 + q) uid ((List.range (ceilDiv t.data.length 512)).map (fun i =>
      (t.target + i, sliceOf t.data (512 * i) 512)))
  | 6 => (s.forEach (numbered (t.pieces 16)) (fun u p =>
      u.store (Mem.range (k / 8) (t.target + p.1)) ((p.2.take 4).map (fun b => b &&& 0x1F) ++ leBytes 1 job ++
        leBytes 1 1 ++ sliceOf p.2 6 2 ++ leBytes 8 0)), 0)
  | _ => (s, 0)

/-- Loads the sections of an image in order, and stops at a race in fixed-twist mode (R117). -/
def State.loadSections (s : State) (k q uid job : Nat) (x : Image) : List Section → State × Nat
  | [] => (s, 0)
  | t :: rest =>
    let r := s.loadSection k q uid job x t
    if r.2 ≠ 0 then r else r.1.loadSections k q uid job x rest

/-! ## PROG -/

/-- The program of a PROG starts on its core: its windows open, or it does not run (R98, R126). -/
def State.startProgram (s : State) (c : Cmd) (k q : Nat) (p : Prog) (r : Resident) : State :=
  match s.openWindows k true r.windows with
  | none => ((s.putResidents k q ((s.residentsOf k q).filter (fun y => decide (y ≠ r)))).finish c.uid 0x0102 0).raise
      Flg.SKEIN_BOB_EVT_CONFIG_REFUSED k
  | some t =>
    let x := t.core k q
    t.putCore k q { x with
      state := .run, pc := p.entry, job := c.job, regs := (x.regs.setG 1 p.arg1).setG 2 p.arg2, prog := some c.uid
      imemBase := r.imemBase, imemLen := r.imemLen, waitReg := false, waitGranted := false, cut := none }

/-- Whether an image of this FLAGS may run for the job now (R102). -/
def State.twistFits (s : State) (job : Nat) (fixedOnly : Bool) : Bool := !fixedOnly || s.fixedTwist job

/-- The resident image that a load makes of an image of a job. -/
def Image.resident (x : Image) (job : Nat) : Resident :=
  ⟨job, x.imemBase, x.imemLen, x.dmemBase, x.dmemLen, x.jibex, x.flags == 1, x.windows job⟩

/-- Whether a PROG can load an image on a core: its parts are well formed, ENTRY lies in it, no image of another job
that is busy is met, and its twist fits the job. -/
def State.loadOk (s : State) (c : Cmd) (k q : Nat) (p : Prog) (x : Image) : Bool :=
  s.imageOk k c.job x && decide (x.imemBase ≤ p.entry) && decide (p.entry < x.imemBase + x.imemLen) &&
    !(s.residentsOf k q).any (fun r => decide (r.job ≠ c.job) && s.jobBusy r.job && x.meets r) &&
    s.twistFits c.job (x.flags == 1)

/-- Puts an image in place on a core: the images it meets go, and its sections are copied in. -/
def State.placeImage (s : State) (c : Cmd) (k q : Nat) (x : Image) : State × Nat :=
  ((s.chargeRead c false x.bytes.length).putResidents k q
    (x.resident c.job :: (s.residentsOf k q).filter (fun y => !x.meets y))).loadSections k q c.uid c.job x x.all

/-- The rows of the sections that an image loads into the bobbin, with what goes into them. -/
def Image.bobbinRows (x : Image) : List (Nat × List Byte) :=
  ((x.all.filter (fun t => t.type == 4 || t.type == 5)).map (fun t => (List.range (ceilDiv t.data.length 512)).map (fun i =>
    (t.target + i, sliceOf t.data (512 * i) 512)))).flatten

/-- A PROG whose image holds rows to load is a tile of its pair, with their digest (R523, R529). -/
def State.tileLoad (s : State) (c : Cmd) (x : Image) : State :=
  s.doIf (!x.bobbinRows.isEmpty) (fun s =>
    (s.enrol c).modCmd c.uid (fun c => { c with digest := rowsDigest x.bobbinRows }))

/-- A PROG with LOAD (R100 to R102): its image is checked and loaded, then starts. -/
def State.loadProgram (s : State) (c : Cmd) (k q : Nat) (p : Prog) : State :=
  match s.readImage p.image with
  | none => s.finish c.uid 0x0102 0
  | some x =>
    if s.loadOk c k q p x then
      let l := (s.tileLoad c x).placeImage c k q x
      if l.2 ≠ 0 then l.1.finish c.uid l.2 0 else l.1.startProgram c k q p (x.resident c.job)
    else s.finish c.uid 0x0102 0

/-- A PROG without LOAD starts the resident image that holds its ENTRY. -/
def State.runResident (s : State) (c : Cmd) (k q : Nat) (p : Prog) : State :=
  match (s.residentsOf k q).find? (fun r => r.job == c.job && decide (r.imemBase ≤ p.entry) &&
      decide (p.entry < r.imemBase + r.imemLen)) with
  | none => s.finish c.uid 0x0102 0
  | some r => if s.twistFits c.job r.fixedOnly then s.startProgram c k q p r else s.finish c.uid 0x0102 0

/-- PROG (R98, R100): a PROG at the head of its program queue whose program has not started yet. -/
def execProg (uid : Nat) (s : State) : Host.Outcome State Fault Refusal :=
  .next (match s.runningCmd uid 0x0A with
    | none => s
    | some c => match c.engine with
      | .prog k q =>
        if (s.core k q).prog.isSome then s else
        let p := Prog.ofBytes c.desc
        (if p.load then s.loadProgram c k q p else s.runResident c k q p).settle
      | _ => s)

/-! ## The debugger (R541, R573) -/

/-- The pair one of whose hanks, main or checker, holds a skein. -/
def State.pairOfHank (s : State) (f : Field) (k : Nat) : Option Nat :=
  (List.range 4).find? (fun p => s.isSet Fld.SELV_PAIR_CFG_VALID p && s.get f p == k / 8)

/-- The cores that an action on a core reaches: the core, and the checker's core of its pair. -/
def State.debugCores (s : State) (k q : Nat) : List (Nat × Nat) :=
  match s.pairOfHank Fld.SELV_PAIR_CFG_MAIN_HANK k with
  | some p => [(k, q), (8 * s.get Fld.SELV_PAIR_CFG_CHECK_HANK p + k % 8, q)]
  | none => [(k, q)]

/-- One debugger action on cores. -/
def State.debugAct (s : State) (cores : List (Nat × Nat)) (a : DebugAction) : State :=
  let ids := cores.map (fun c => 2 * c.1 + c.2)
  match a with
  | .halt => { s with selv := { s.selv with halted := s.selv.halted.filter (fun h => !ids.contains h) ++ ids } }
  | .resume => { s with selv := { s.selv with halted := s.selv.halted.filter (fun h => !ids.contains h) } }
  | .step => s.forEach cores (fun t c => if t.coreHalted c.1 c.2 then t.takeBundle c.1 c.2 else t)
  | .read _ | .write _ _ => s

/-- The same bytes are written to the memories of both Selvedge cores (R541). -/
def State.selvedgeWrite (s : State) (a : Nat) (bs : List Byte) : State :=
  (s.store (Mem.selvedge 0 a) bs).store (Mem.selvedge 1 a) bs

/-- One debugger action on the main Selvedge core, which the checker core takes in the same step (R541).  The instruction set
of these cores is not given: a step leaves free bytes at a free place of their memories, the same in both. -/
def State.selvedgeAct (s : State) (a : DebugAction) : State :=
  match a with
  | .halt => { s with selv := { s.selv with halted := s.selv.halted.filter (fun h => h != 128) ++ [128] } }
  | .resume => { s with selv := { s.selv with halted := s.selv.halted.filter (fun h => h != 128) } }
  | .step =>
    if !s.selv.on || !s.selv.halted.contains 128 then s else
    let n := s.freeCount
    let t := { s with
      freeCount := n + 2
      selv := { s.selv with stepped := (s.selv.stepped.1 + 1, s.selv.stepped.2 + 1) } }
    t.selvedgeWrite (8 * ((Config.freeWord n).toNat % 65536)) (leBytes 8 (Config.freeWord (n + 1)).toNat)
  | .read a => { s with selv := { s.selv with debugRead := leNat (s.load (Mem.selvedge 0 (a % 524288 / 4 * 4)) 4) } }
  | .write a v => s.selvedgeWrite (a % 524288 / 4 * 4) (leBytes 4 v)

/-- The wait for a digest's counterpart does not run while a core of either copy is halted: the time of a halt that has
begun, or ended, between `old` and `s` is taken out of the waits of the pair's tiles (R541). -/
def State.stopWaits (old s : State) (p : Nat) : State :=
  if !s.isSet Fld.SELV_PAIR_CFG_VALID p || old.pairHalted p == s.pairHalted p then s
  else if s.pairHalted p then s.modPair p (fun x => { x with stopped := some s.refTime })
  else
    let began := ((s.pair p).stopped).getD 0
    (s.forEach (s.pair p).tiles (fun t x => t.modCmd x.uid (fun c =>
      { c with since := c.since + (s.refTime - max began c.since) }))).modPair p (fun x => { x with stopped := none })

/-- DEBUGGER_HALT_STEP (R541): an action on the main Selvedge core, or on a spindle core and the checker's core with it;
the pair is tainted.  A locked debug block takes none, and traffic on its port trips sensor 3 (R570); a checker's core takes
none. -/
def execDebuggerHaltStep (target : Option (Nat × Nat)) (action : DebugAction) (s : State) :
    Host.Outcome State Fault Refusal :=
  .next (if s.isSet Fld.SEC_STATUS_DEBUG_LOCKED 0 then s.tamper ([3].filter s.sensorActive) else
    match target with
    | none => s.selvedgeAct action
    | some (k, q) =>
      if (s.pairOfHank Fld.SELV_PAIR_CFG_CHECK_HANK k).isSome then s else
      let t := match s.pairOfHank Fld.SELV_PAIR_CFG_MAIN_HANK k with
        | some p => s.set Fld.SELV_PAIR_CFG_DEBUG_TAINT p 1
        | none => s
      (t.debugAct (s.debugCores k q) action).forEach (List.range 4) (State.stopWaits s))

end Sys2Proof.Machine
end

