-- ==== Sys2Proof/Machine/Aperture.lean ====
section
/-! DEFINITION. The debug aperture of BAR4: its staging copy of one row per skein (R134), and what the debug block does
to it at the skeins of a pair (R541). -/

namespace Sys2Proof.Machine

/-- Whether an access of BAR4 has the width and alignment of R6. -/
def accessFits (offset size : Nat) : Bool := size == 4 && offset % 4 == 0

/-- The skein, the row and the byte of the row that an offset of BAR4 names. -/
def aperturePlace (offset : Nat) : Nat × Nat × Nat := (offset / 0x800000, offset % 0x800000 / 512, offset % 512)

/-- Whether the aperture answers an access: debug is unlocked, the row exists, and the skein is no checker's. -/
def State.apertureOpen (s : State) (offset size : Nat) : Bool :=
  let p := aperturePlace offset
  accessFits offset size && !s.isSet Fld.SEC_STATUS_DEBUG_LOCKED 0 && decide (p.1 < 64) &&
  decide (p.2.1 < Config.rows) && (s.checkHankPair p.1).isNone

/-- Replaces the staging copy of a skein. -/
def State.putAperture (s : State) (k : Nat) (x : Aperture) : State :=
  { s with apertures := Sparse.insert s.apertures k x }

/-- The copy captures a row whole through port X. -/
def State.captureRow (s : State) (k row : Nat) : State :=
  let t := (s.accessRow k row false 6 none).1
  let u := t.doIf (t.parityBad k row) fun t => (t.pathMet k row).parityOwner k row ((t.rowOwner k row).getD 0)
  u.putAperture k ⟨row, u.readRow k row, false⟩

/-- An access addresses a row: another row held before is ended, and this one is captured. -/
def State.holdRow (s : State) (k row : Nat) : State :=
  match Sparse.find s.apertures k with
  | some x =>
    if x.row = row then s
    else (s.doIf x.dirty fun s => s.raise Flg.SKEIN_BOB_EVT_UNALIGNED k).captureRow k row
  | none => s.captureRow k row

/-- The copy of a skein, once it holds a row. -/
def State.aperture (s : State) (k : Nat) : Aperture := (Sparse.find s.apertures k).getD ⟨0, [], false⟩

/-- A row of a main copy's skein is written again in the mirrored row of the paired skein, and the pair is tainted
(R541). -/
def State.replayRow (s : State) (p k row : Nat) (bs : List Byte) : State :=
  let c := 8 * s.get Fld.SELV_PAIR_CFG_CHECK_HANK p + k % 8
  let mirror := Config.rows - 1 - row
  ((s.store (Mem.row c mirror) bs).parityWritten (c * Config.rows + mirror)).set Fld.SELV_PAIR_CFG_DEBUG_TAINT p 1

/-- The copy is committed as one row write through port X. -/
def State.commitAperture (s : State) (k : Nat) : State :=
  let x := s.aperture k
  let t := (((s.accessRow k x.row true 6 none).1).writeRow k x.row x.data).putAperture k { x with dirty := false }
  match t.pairOfHank Fld.SELV_PAIR_CFG_MAIN_HANK k with
  | some p => t.replayRow p k x.row x.data
  | none => t

/-- APERTURE_READ (R134): the host reads 4 bytes of the copy. -/
def execApertureRead (offset size : Nat) (s : State) : Host.Outcome State Fault Refusal :=
  .next (s.host fun s =>
    if s.apertureOpen offset size then
      let p := aperturePlace offset
      let t := s.holdRow p.1 p.2.1
      ({ t with hostRead := fieldOf (t.aperture p.1).data p.2.2 4 }).settle
    else { s with hostRead := 0 })

/-- APERTURE_WRITE (R134): the host replaces 4 bytes of the copy; the last 4 bytes of the row commit it. -/
def execApertureWrite (offset size value : Nat) (s : State) : Host.Outcome State Fault Refusal :=
  .next (s.host fun s =>
    if s.apertureOpen offset size then
      let p := aperturePlace offset
      let t := s.holdRow p.1 p.2.1
      let x := t.aperture p.1
      let u := t.putAperture p.1 { x with data := patch x.data p.2.2 (leBytes 4 value), dirty := true }
      (u.doIf (p.2.2 == 508) fun u => u.commitAperture p.1).settle
    else s)

end Sys2Proof.Machine
end

