-- ==== Sys2Proof/Machine/Ether.lean ====
section
/-! DEFINITION. The Ethernet MACs (R455 to R469, R478): the frame rings, transmit at time, the Flyer transmit slots, PTP
insertion, reception and the link. -/

namespace Sys2Proof.Machine

/-! ## A MAC and its descriptors -/

/-- Whether a MAC is enabled, in a mode other than 0 (off); in SLEEP, RESET and OFF the MACs are off (R465). -/
def State.macOn (s : State) (m : Nat) : Bool := s.ioOn && s.isSet Fld.ETH_CTRL_EN m && s.get Fld.ETH_CTRL_MODE m != 0

/-- Line rate in units of 0.5 Gb/s (Table 15.1); 0 with the MAC off. -/
def State.macRate (s : State) (m : Nat) : Nat :=
  match s.get Fld.ETH_CTRL_MODE m with
  | 1 => 20
  | 2 => 50
  | 3 => [20, 10, 5, 2].getD (s.get Fld.ETH_STATUS_USX_RATE m) 2
  | _ => 0

/-- Ticks of a frame without FCS on the line: preamble, frame padded to 60 bytes, FCS and inter-frame gap (R455, R464). -/
def State.macTicks (s : State) (m len : Nat) : Nat := ceilDiv ((8 + max 60 len + 4 + 12) * 64) (s.macRate m)

/-- LPDDR address of the transmit descriptor at the head. -/
def State.txHead (s : State) (m : Nat) : Nat :=
  Mem.lpddr (32 * s.get Fld.ETH_TX_BASE_BASE m + 32 * s.get Fld.ETH_TX_HEAD_HEAD m)

/-- OWN of a descriptor (Tables 15.2 and 15.3). -/
def descOwn (d : List Byte) : Bool := bitsOf (fieldOf d 10 1) 7 1 == 1
/-- LATE_SKIP of a transmit descriptor. -/
def descSkip (d : List Byte) : Bool := bitsOf (fieldOf d 10 1) 6 1 == 1
/-- LAUNCH of a transmit descriptor. -/
def descLaunch (d : List Byte) : Nat := fieldOf d 16 8

/-- The head entry that waits to be sent: none while it is on the line. -/
def State.ringHead (s : State) (m : Nat) : Option (List Byte) :=
  match (s.mac m).sending with
  | some x => if x.slot.isNone then none else (s.mac m).head
  | none => (s.mac m).head

/-- R459: the descriptor is written back with BAD_FIELD. -/
def State.descBad (s : State) (m : Nat) (d : List Byte) : Bool :=
  let b := fieldOf d 10 1
  let len := fieldOf d 8 2
  b % 4 != 0 || fieldOf d 14 2 != 0 || decide (len < 14) || decide (s.get Fld.ETH_CTRL_MAX_LEN m < len + 4) ||
  bitsOf b 4 2 == 3 || bitsOf b 2 2 == 3 || (bitsOf b 2 2 != 0 && decide (len < fieldOf d 11 1 + 44))

/-- The descriptor at an address is written back with a status and a stamp, OWN 0, where the MAC still owns it, and HEAD
advances past it (R457, R458). -/
def State.txBack (s : State) (m a status stamp : Nat) : State :=
  let d := s.load a 32
  let own := fieldOf d 10 1 % 128
  let bs := patch (patch (patch d 10 (leBytes 1 own)) 12 (leBytes 2 status)) 24 (leBytes 8 stamp)
  let t := s.doIf (descOwn d) (fun s => s.store a bs)
  let x := t.mac m
  let u := t.putMac m { x with head := none, late := x.late.filter (fun i => i != 4) }
  u.doIf (a == s.txHead m) (fun u => u.set Fld.ETH_TX_HEAD_HEAD m
    ((s.get Fld.ETH_TX_HEAD_HEAD m + 1) % 2 ^ s.get Fld.ETH_TX_CFG_LOG2 m))

/-- The MAC reads its head entry; entries of R459 are written back unsent, at most once round the ring. -/
def State.txRead (s : State) (m : Nat) : Nat → State
  | 0 => s
  | fuel + 1 =>
    let d := s.load (s.txHead m) 32
    if !descOwn d then s.putMac m { s.mac m with head := none }
    else if s.descBad m d then ((s.txBack m (s.txHead m) 0x0102 0).raise Flg.ETH_EVT_TX_BAD m).txRead m fuel
    else s.putMac m { s.mac m with head := some d }

/-- The MAC reads its head entry again (R458), unless it is disabled or that entry is on the line. -/
def State.txNext (s : State) (m : Nat) : State :=
  let ringBusy := (s.ringHead m).isNone && (s.mac m).head.isSome
  if s.macOn m && !ringBusy then s.txRead m (2 ^ s.get Fld.ETH_TX_CFG_LOG2 m) else s

/-! ## Enable, kick and link -/

/-- A write of ETH_CTRL.EN: modes 4 to 7 are refused at enable (Table 15.6).  A disabled MAC holds no head entry. -/
def State.ethEnable (s : State) (m : Nat) (on : Bool) : State :=
  if on && decide (4 ≤ s.get Fld.ETH_CTRL_MODE m) && !s.isSet Fld.ETH_CTRL_EN m then s.raise Flg.ETH_EVT_CFG_REFUSED m
  else
    let t := s.setBit Fld.ETH_CTRL_EN m on
    if on then t else t.putMac m { t.mac m with head := none, late := [] }

/-- ETH_ENABLE (R478). -/
def execEthEnable (mac : Nat) (enable : Bool) (s : State) : Host.Outcome State Fault Refusal :=
  .next (s.host fun s => s.ethEnable mac enable)

/-- ETH_TX_KICK (R458). -/
def execEthTxKick (mac : Nat) (s : State) : Host.Outcome State Fault Refusal := .next (s.host fun s => s.txNext mac)

/-- ETH_LINK_CHANGE (Table 15.6): in mode 3 the in-band word gives the rate. -/
def execEthLinkChange (mac : Nat) (up : Bool) (rate : Nat) (s : State) : Host.Outcome State Fault Refusal :=
  .next (if !s.macOn mac then s else
    let t := s.doIf (s.get Fld.ETH_CTRL_MODE mac == 3) (fun t => t.set Fld.ETH_STATUS_USX_RATE mac rate)
    if t.isSet Fld.ETH_STATUS_LINK_UP mac == up then t
    else (t.setBit Fld.ETH_STATUS_LINK_UP mac up).raise Flg.ETH_EVT_LINK_CHANGE mac)

/-! ## Frames -/

/-- The big-endian number in bytes `a` to `a + n - 1`. -/
def beField (bs : List Byte) (a n : Nat) : Nat := leNat (sliceOf bs a n).reverse

/-- Whether a frame carries a tag of IEEE 802.1Q. -/
def frameTagged (f : List Byte) : Bool := beField f 12 2 == 0x8100
/-- Place of the EtherType after at most one tag. -/
def frameType (f : List Byte) : Nat := if frameTagged f then 16 else 12

/-- The place of a UDP header and whether it is over IPv6; none where the frame is not UDP over IP. -/
def frameUdp (f : List Byte) : Option (Nat × Bool) :=
  let p := frameType f + 2
  if beField f (p - 2) 2 = 0x0800 ∧ beField f (p + 9) 1 = 17 then some (p + 4 * (beField f p 1 % 16), false)
  else if beField f (p - 2) 2 = 0x86DD ∧ beField f (p + 6) 1 = 17 then some (p + 40, true)
  else none

/-- R461: the frame is classified as PTP. -/
def framePtp (f : List Byte) : Bool :=
  beField f (frameType f) 2 == 0x88F7 ||
  (match frameUdp f with
    | some (u, _) => beField f (u + 2) 2 == 319 || beField f (u + 2) 2 == 320
    | none => false)

/-- The ones'-complement sum of 16-bit words, without its end-around carries. -/
def wordSum : List Byte → Nat
  | [] => 0
  | [a] => 256 * a.toNat
  | a :: b :: rest => 256 * a.toNat + b.toNat + wordSum rest

/-- Folds the carries of a ones'-complement sum into 16 bits. -/
def foldCarry (v : Nat) : Nat :=
  let a := v % 65536 + v / 65536
  let b := a % 65536 + a / 65536
  b % 65536 + b / 65536

/-- A frame with its UDP checksum put right after a change (R469): 0 over IPv4, recomputed over IPv6. -/
def fixUdp (f : List Byte) : List Byte :=
  match frameUdp f with
  | none => f
  | some (u, false) => patch f (u + 6) [0, 0]
  | some (u, true) =>
    let ip := frameType f + 2
    let len := beField f (u + 4) 2
    let sum := wordSum (sliceOf f (ip + 8) 32) + len + 17 + wordSum (sliceOf (patch f (u + 6) [0, 0]) u len)
    let c := 65535 - foldCarry sum
    patch f (u + 6) (beBytes 2 (if c = 0 then 65535 else c))

/-- Whether a PTP header at an offset lies beyond the UDP payload of its frame. -/
def ptpBeyond (f : List Byte) (ofs : Nat) : Bool :=
  match frameUdp f with
  | some (u, _) => decide (u + beField f (u + 4) 2 < ofs + 44)
  | none => false

/-- Domain time at a stamp (R468). -/
def State.domainTime (s : State) (dom stamp : Nat) : Int :=
  (stamp : Int) + (if dom = 0 then 0 else s.getInt Fld.WHORL_DOMSET_OFS_OFS (dom - 1))

/-- The correctionField of a PTP header gains an amount, and saturates (R469). -/
def addCorrection (f : List Byte) (ofs : Nat) (d : Int) : List Byte :=
  patch f (ofs + 8) (beBytes 8 (unsigned 64 (sat64 (signed 64 (beField f (ofs + 8) 8) + d))))

/-- One-step insertion into a frame that leaves with an egress stamp (R469), and whether it is TX_BAD. -/
def State.insertTime (s : State) (d f : List Byte) (stamp : Nat) : List Byte × Bool :=
  let b := fieldOf d 10 1
  let ofs := fieldOf d 11 1
  if bitsOf b 2 2 = 0 then (f, false)
  else if ptpBeyond f ofs then (f, true)
  else if bitsOf b 2 2 = 1 then
    let t := s.domainTime (bitsOf b 4 2) stamp
    let g := patch f (ofs + 34) (beBytes 6 (unsigned 48 (t / 4000000000)))
    let h := patch g (ofs + 40) (beBytes 4 (t % 4000000000 / 4).toNat)
    (fixUdp (addCorrection h ofs (t % 4 * 16384)), false)
  else (fixUdp (addCorrection f ofs (((stamp : Int) - fieldOf d 24 8) * 16384)), false)

/-- A frame as it stands on the line: padded with zeros to 60 bytes, its FCS last (R455). -/
def onLine (f : List Byte) : List Byte :=
  let g := f ++ List.replicate (60 - f.length) 0
  g ++ leBytes 4 (crc32 g)

/-! ## Transmit at time (R463 to R466) -/

/-- A transmit request: slot 0 to 3 or the ring as 4, its launch time (0 untimed) and LATE_SKIP. -/
structure TxReq where
  src : Nat
  launch : Nat
  skip : Bool
  deriving DecidableEq, Repr

/-- The transmit requests of a MAC: the four Flyer slots, then the ring head. -/
def State.macReqs (s : State) (m : Nat) : List TxReq :=
  (List.range 4).filterMap (fun j => (Sparse.find s.flyer.slots (4 * (8 + m) + j)).map
    (fun (q : SlotReq) => (⟨j, q.launch, s.isSet Fld.ETH_SLOT_CFG_LATE_SKIP (ix m j)⟩ : TxReq))) ++
  (match s.ringHead m with
    | some d => [(⟨4, descLaunch d, descSkip d⟩ : TxReq)]
    | none => [])

/-- The instant at the transmit pins at which a request may start has come (R463); in SAFE no timed one does (R465), nor
while the replica is unsynchronised (R49). -/
def State.txDue (s : State) (lat : Nat) (q : TxReq) : Bool :=
  s.hubSynced && q.launch != 0 && decide (q.launch ≤ s.now + lat) && decide (s.dev ≠ .safe)

/-- The earliest of some requests; equal launch times go to the one named first (R464). -/
def earliest : List TxReq → Option TxReq
  | [] => none
  | q :: rest => match earliest rest with
    | some x => if q.launch ≤ x.launch then some q else some x
    | none => some q

/-- The Flyer request of a slot goes. -/
def State.dropSlot (s : State) (target slot : Nat) : State :=
  { s with flyer := { s.flyer with slots := Sparse.erase s.flyer.slots (4 * target + slot) } }

/-- A request of a MAC is judged late: with LATE_SKIP it is not sent (R463). -/
def State.ethJudge (s : State) (m : Nat) (q : TxReq) : State :=
  let x := s.mac m
  if x.late.contains q.src then s
  else
    let t := s.raise Flg.ETH_EVT_TX_LATE m
    if !q.skip then t.putMac m { x with late := x.late ++ [q.src] }
    else if q.src < 4 then t.dropSlot (8 + m) q.src
    else if x.head.isSome then (t.txBack m (t.txHead m) 0x0401 0).txNext m
    else t

/-- Whether a request is past its tolerance and not judged yet. -/
def State.ethOverdue (s : State) (m after : Nat) (q : TxReq) : Bool :=
  q.launch != 0 && decide (q.launch + s.get Fld.ETH_TX_CFG_LATE_TOL m + after ≤ s.now) && !(s.mac m).late.contains q.src

/-- Judges requests until none is left to judge: a ring entry that goes back unsent makes way for the next one. -/
def State.ethJudgeAll (s : State) (m after : Nat) : Nat → State
  | 0 => s
  | fuel + 1 => match (s.macReqs m).find? (s.ethOverdue m after) with
    | some q => (s.ethJudge m q).ethJudgeAll m after fuel
    | none => s

/-- In SAFE the timed ring entries at the head go back unsent once their launch times have passed (R465). -/
def State.ethSafeBack (s : State) (m : Nat) : Nat → State
  | 0 => s
  | fuel + 1 => match s.ringHead m with
    | some d =>
      if s.dev = .safe ∧ descLaunch d ≠ 0 ∧ descLaunch d < s.now then
        ((s.txBack m (s.txHead m) 0x0401 0).txNext m).ethSafeBack m fuel
      else s
    | none => s

/-- Judges the requests whose lateness is past its tolerance, and the timed ring entries in SAFE (R463, R465).  An
unsynchronised replica takes no such decision (R49). -/
def State.ethLate (s : State) (m after : Nat) : State :=
  if !s.hubSynced then s else
  let fuel := 2 ^ s.get Fld.ETH_TX_CFG_LOG2 m + 5
  (s.ethJudgeAll m after fuel).ethSafeBack m fuel

/-- ETH_TX_LATE (R463, R465). -/
def execEthTxLate (mac : Nat) (s : State) : Host.Outcome State Fault Refusal :=
  .next (if s.macOn mac then s.ethLate mac 0 else s)

/-- The request that starts: the earliest timed one whose start instant has come, or an untimed ring frame that ends,
with its gap, before the start instant of every pending timed request (R464); in SAFE no timed request starts (R465). -/
def State.ethChoice (s : State) (m : Nat) : Option TxReq :=
  let lat := s.get Fld.ETH_PHY_LAT_TX m
  let reqs := s.macReqs m
  match earliest (reqs.filter (s.txDue lat)) with
  | some q => some q
  | none =>
    let timed := reqs.filter (fun q => q.launch != 0 && decide (s.dev ≠ .safe))
    let len := match (s.mac m).head with
      | some d => fieldOf d 8 2
      | none => 0
    reqs.find? (fun q => q.launch == 0 && timed.all (fun p => decide (s.now + s.macTicks m len + lat < p.launch)))

/-- A frame starts: its egress stamp is the tick at the transmit pins plus PHY_LAT.TX (R462). -/
def State.ethStart (s : State) (m : Nat) (q : TxReq) : State :=
  let x := s.mac m
  let stamp := (s.now + s.get Fld.ETH_PHY_LAT_TX m) % 2 ^ 64
  let go (t : State) (slot : Option Nat) (f : List Byte) (late : List Nat) : State :=
    let e : EthSend := ⟨slot, s.txHead m, x.late.contains q.src, stamp, s.refTime, s.macTicks m f.length, onLine f⟩
    (t.putMac m { x with sending := some e, late := late }).set Fld.ETH_STATUS_TX_ACTIVE m 1
  if q.src < 4 then
    match Sparse.find s.flyer.slots (4 * (8 + m) + q.src) with
    | some r => go (s.dropSlot (8 + m) q.src) (some q.src) r.frame (x.late.filter (fun i => i != q.src))
    | none => s
  else match x.head with
    | some d =>
      let r := s.insertTime d (s.load (Mem.lpddr (fieldOf d 0 8)) (fieldOf d 8 2)) stamp
      (go s none r.1 x.late).doIf r.2 (fun t => t.raise Flg.ETH_EVT_TX_BAD m)
    | none => s

/-- ETH_TX_START (R464): a request past its tolerance is judged before one is chosen. -/
def execEthTxStart (mac : Nat) (s : State) : Host.Outcome State Fault Refusal :=
  .next (if !s.macOn mac || (s.mac mac).sending.isSome || s.macRate mac == 0 then s else
    let t := s.ethLate mac 1
    match t.ethChoice mac with
    | some q => t.ethStart mac q
    | none => t)

/-- ETH_TX_DONE (R458): the frame and its gap have passed; after a frame of the ring the head entry is read again. -/
def execEthTxDone (mac : Nat) (s : State) : Host.Outcome State Fault Refusal :=
  .next (match (s.mac mac).sending with
    | none => s
    | some x =>
      if s.refTime < x.began + x.ticks then s else
      let t := ((s.putMac mac { s.mac mac with sending := none }).set Fld.ETH_STATUS_TX_ACTIVE mac 0).accum
        Fld.ETH_TX_BYTES_BYTES mac x.frame.length
      if x.slot.isNone then (t.txBack mac x.entry (if x.late then 0x0401 else 0) x.stamp).txNext mac else t)

/-! ## Reception (R456, R460, R461) -/

/-- R456: the destination is the MAC's. -/
def State.ethAccepts (s : State) (m : Nat) (f : List Byte) : Bool :=
  let broadcast := (sliceOf f 0 6).all (fun b => b == 0xFF)
  fieldOf (sliceOf f 0 6) 0 6 == s.get Fld.ETH_ADDR_ADDR m || broadcast ||
  ((f.headD 0).getLsbD 0 && s.isSet Fld.ETH_CTRL_MCAST_ALL m) || s.isSet Fld.ETH_CTRL_PROMISC m

/-- A PAUSE frame of IEEE 802.3. -/
def framePause (f : List Byte) : Bool := beField f 12 2 == 0x8808 && beField f 14 2 == 1

/-- A frame is written into the entry at the head of its ring, or dropped (R460). -/
def State.ethStore (s : State) (m : Nat) (f : List Byte) (sfd : Nat) : State :=
  let q := if framePtp f then 1 else 0
  let i := ix m q
  let a := Mem.lpddr (32 * s.get Fld.ETH_RX_RING_BASE_BASE i + 32 * s.get Fld.ETH_RX_RING_HEAD_HEAD i)
  let d := s.load a 32
  if !descOwn d then s.raise Flg.ETH_EVT_RX_OVERRUN m
  else if 64 * s.get Fld.ETH_RX_RING_CFG_BUF_SIZE i < f.length then s.raise Flg.ETH_EVT_RX_ERR m
  else
    let flags := fieldOf d 10 1 % 32 + (if frameTagged f then 64 else 0) + (if q = 1 then 32 else 0)
    let stamp := (sfd + 2 ^ 64 - s.get Fld.ETH_PHY_LAT_RX m) % 2 ^ 64
    let e := patch (patch (patch d 8 (leBytes 2 f.length)) 10 (leBytes 1 flags)) 16 (leBytes 8 stamp)
    ((s.store (Mem.lpddr (fieldOf d 0 8)) f).store a e).set Fld.ETH_RX_RING_HEAD_HEAD i
      ((s.get Fld.ETH_RX_RING_HEAD_HEAD i + 1) % 2 ^ s.get Fld.ETH_RX_RING_CFG_LOG2 i)

/-- ETH_RX_FRAME (R455, R456, R460). -/
def execEthRxFrame (mac : Nat) (frame : List Byte) (fcsOk : Bool) (sfd : Nat) (s : State) :
    Host.Outcome State Fault Refusal :=
  .next (if !s.macOn mac then s
    else if !fcsOk || decide (s.get Fld.ETH_CTRL_MAX_LEN mac < frame.length + 4) then s.raise Flg.ETH_EVT_RX_ERR mac
    else if framePause frame then s.raise Flg.ETH_EVT_PAUSE_RX mac
    else if s.ethAccepts mac frame then
      (s.accum Fld.ETH_RX_BYTES_BYTES mac (frame.length + 4)).ethStore mac frame sfd
    else s)

end Sys2Proof.Machine
end

