-- ==== Sys2Proof/Machine/Can.lean ====
section
/-! DEFINITION. The CAN controllers (R480 to R492, R496): enable and disable, the rings and their indices, attempts,
reception, and error states. -/

namespace Sys2Proof.Machine

/-! ## A controller -/

/-- A controller beyond its registers. -/
def State.can (s : State) (n : Nat) : CanCtl := Sparse.get CanCtl.reset s.cans n
/-- Replaces it. -/
def State.putCan (s : State) (n : Nat) (x : CanCtl) : State := { s with cans := Sparse.put CanCtl.reset s.cans n x }

/-- Ticks of a bit: 1 + (TSEG1_M1 + 1) + (TSEG2_M1 + 1) quanta of (BRP_M1 + 1) × 6.25 ns (R481). -/
def bitTicks (brp seg1 seg2 : Nat) : Nat := (seg1 + seg2 + 3) * (brp + 1) * 25

/-- Ticks of a bit from its sample point on: its TSEG2 (R481). -/
def tailTicks (brp seg2 : Nat) : Nat := (seg2 + 1) * (brp + 1) * 25

/-- Ticks after the sample point of a bit of the nominal phase and of the FD and XL data phases. -/
def State.canTails (s : State) (n : Nat) : Nat × Nat × Nat :=
  (tailTicks (s.get Fld.CAN_NBT_BRP_M1 n) (s.get Fld.CAN_NBT_TSEG2_M1 n),
   tailTicks (s.get Fld.CAN_DBT_BRP_M1 n) (s.get Fld.CAN_DBT_TSEG2_M1 n),
   tailTicks (s.get Fld.CAN_XBT_BRP_M1 n) (s.get Fld.CAN_XBT_TSEG2_M1 n))

/-- Bit time of the nominal phase. -/
def State.canNominal (s : State) (n : Nat) : Nat :=
  bitTicks (s.get Fld.CAN_NBT_BRP_M1 n) (s.get Fld.CAN_NBT_TSEG1_M1 n) (s.get Fld.CAN_NBT_TSEG2_M1 n)
/-- Bit time of the FD data phase. -/
def State.canFdBit (s : State) (n : Nat) : Nat :=
  bitTicks (s.get Fld.CAN_DBT_BRP_M1 n) (s.get Fld.CAN_DBT_TSEG1_M1 n) (s.get Fld.CAN_DBT_TSEG2_M1 n)
/-- Bit time of the XL data phase. -/
def State.canXlBit (s : State) (n : Nat) : Nat :=
  bitTicks (s.get Fld.CAN_XBT_BRP_M1 n) (s.get Fld.CAN_XBT_TSEG1_M1 n) (s.get Fld.CAN_XBT_TSEG2_M1 n)

/-- The configured bit timing keeps the rate limits of Table 16.1 for the enabled formats. -/
def State.canRates (s : State) (n : Nat) : Bool :=
  decide (4000 ≤ s.canNominal n) && decide (s.canNominal n ≤ 400000) &&
  (!s.isSet Fld.CAN_CTRL_FD_EN n || decide (500 ≤ s.canFdBit n)) &&
  (!s.isSet Fld.CAN_CTRL_XL_EN n || decide (200 ≤ s.canXlBit n))

/-- Whether a controller is enabled. -/
def State.canOn (s : State) (n : Nat) : Bool := s.ioOn && s.isSet Fld.CAN_CTRL_EN n
/-- Whether a controller takes part in bus traffic: integrated and not bus-off. -/
def State.canLive (s : State) (n : Nat) : Bool :=
  s.canOn n && s.isSet Fld.CAN_STATUS_SYNCED n && s.get Fld.CAN_STATUS_ERR_STATE n != 2

/-! ## Rings (R482 to R486) -/

/-- Entries of the transmit ring. -/
def State.canTxSize (s : State) (n : Nat) : Nat := 2 ^ s.get Fld.CAN_TX_CFG_LOG2 n
/-- Entries of the receive ring. -/
def State.canRxSize (s : State) (n : Nat) : Nat := 2 ^ s.get Fld.CAN_RX_CFG_LOG2 n

/-- (a − b) mod size. -/
def indexGap (a b size : Nat) : Nat := (a % size + size - b % size) % size

/-- Address of the transmit entry at an index. -/
def State.canTxAddr (s : State) (n i : Nat) : Nat :=
  Mem.lpddr (64 * s.get Fld.CAN_TX_BASE_BASE n + i * (if s.isSet Fld.CAN_TX_CFG_BIG n then 2112 else 128))
/-- Address of the receive entry at an index. -/
def State.canRxAddr (s : State) (n i : Nat) : Nat :=
  Mem.lpddr (64 * s.get Fld.CAN_RX_BASE_BASE n + i * (if s.isSet Fld.CAN_RX_CFG_BIG n then 2112 else 128))

/-- The header of the entry at DONE, none when the ring holds no entry of the controller. -/
def State.canHead (s : State) (n : Nat) : Option (List Byte) :=
  let done := s.get Fld.CAN_TX_DONE_INDEX n
  if done = s.get Fld.CAN_TX_TAIL_INDEX n then none else some (s.load (s.canTxAddr n done) 32)

/-- FORMAT of an entry header. -/
def hdrFormat (h : List Byte) : Nat := fieldOf h 4 1 % 4
/-- A flag bit of byte 4 of an entry header. -/
def hdrFlag (h : List Byte) (b : Nat) : Bool := bitsOf (fieldOf h 4 1) b 1 == 1
/-- LEN of an entry header. -/
def hdrLen (h : List Byte) : Nat := fieldOf h 6 2
/-- LAUNCH of an entry header. -/
def hdrLaunch (h : List Byte) : Nat := fieldOf h 16 8

/-- Data lengths that Table 16.1 gives a format. -/
def lenLegal (format len : Nat) : Bool :=
  match format with
  | 0 => decide (len ≤ 8)
  | 1 => decide (len ≤ 8) || [12, 16, 20, 24, 32, 48, 64].contains len
  | 2 => decide (1 ≤ len) && decide (len ≤ 2048)
  | _ => false

/-- Whether a format is enabled. -/
def State.canFormat (s : State) (n format : Nat) : Bool :=
  match format with
  | 0 => true
  | 1 => s.isSet Fld.CAN_CTRL_FD_EN n
  | 2 => s.isSet Fld.CAN_CTRL_XL_EN n
  | _ => false

/-- R486: the entry is written back with BAD_FIELD. -/
def State.canEntryBad (s : State) (n : Nat) (h : List Byte) : Bool :=
  let f := hdrFormat h
  let xl := f == 2
  decide (2 ^ 29 ≤ fieldOf h 0 4) || hdrFlag h 6 || fieldOf h 5 1 != 0 || (xl && hdrFlag h 2) ||
  (!xl && (fieldOf h 10 6 != 0)) || !s.canFormat n f || !lenLegal f (hdrLen h) ||
  (!s.isSet Fld.CAN_TX_CFG_BIG n && decide (64 < hdrLen h)) ||
  (hdrFlag h 3 && f != 0) || (hdrFlag h 4 && f != 1) || (hdrFlag h 5 && !xl)

/-- Address of the transmit entry at DONE. -/
def State.canDoneAddr (s : State) (n : Nat) : Nat := s.canTxAddr n (s.get Fld.CAN_TX_DONE_INDEX n)

/-- The entry at an address, the one at DONE when it was read, is written back with a status and a stamp, and DONE advances
(R484); event source 24 + n. -/
def State.canBack (s : State) (n a status stamp : Nat) : State :=
  let done := s.get Fld.CAN_TX_DONE_INDEX n
  let h := patch (patch (s.load a 32) 8 (leBytes 2 status)) 24 (leBytes 8 stamp)
  ((s.store a h).set Fld.CAN_TX_DONE_INDEX n ((done + 1) % s.canTxSize n)).raiseSource (24 + n)

/-- Entries at DONE that R486 names are written back unsent. -/
def State.canScan (s : State) (n : Nat) : Nat → State
  | 0 => s
  | fuel + 1 =>
    match s.canHead n with
    | none => s
    | some h =>
      if s.canEntryBad n h then ((s.canBack n (s.canDoneAddr n) 0x0102 0).raise Flg.CAN_EVT_TX_BAD n).canScan n fuel else s

/-- A controller that works looks at the entry at DONE, unless that entry is in an attempt. -/
def State.canNext (s : State) (n : Nat) : State :=
  let ringBusy := match (s.can n).attempt with
    | some a => a.src == 4
    | none => false
  if s.canLive n && !ringBusy then s.canScan n (s.canTxSize n) else s

/-- An invalid index write is discarded (R485). -/
def State.indexInvalid (s : State) (n : Nat) : State := s.raise Flg.CAN_EVT_IDX_INVALID n

/-- CAN_TX_TAIL_WRITE (R484). -/
def execCanTxTailWrite (ctrl value : Nat) (s : State) : Host.Outcome State Fault Refusal :=
  .next (s.host fun s =>
    let size := s.canTxSize ctrl
    let tail := s.get Fld.CAN_TX_TAIL_INDEX ctrl
    if indexGap value tail size ≤ size - 1 - indexGap tail (s.get Fld.CAN_TX_ACK_INDEX ctrl) size then
      (s.set Fld.CAN_TX_TAIL_INDEX ctrl (value % size)).canNext ctrl
    else s.indexInvalid ctrl)

/-- CAN_TX_ACK_WRITE (R484). -/
def execCanTxAckWrite (ctrl value : Nat) (s : State) : Host.Outcome State Fault Refusal :=
  .next (s.host fun s =>
    let size := s.canTxSize ctrl
    let ack := s.get Fld.CAN_TX_ACK_INDEX ctrl
    if indexGap value ack size ≤ indexGap (s.get Fld.CAN_TX_DONE_INDEX ctrl) ack size then
      s.set Fld.CAN_TX_ACK_INDEX ctrl (value % size)
    else s.indexInvalid ctrl)

/-- CAN_RX_ACK_WRITE (R483). -/
def execCanRxAckWrite (ctrl value : Nat) (s : State) : Host.Outcome State Fault Refusal :=
  .next (s.host fun s =>
    let size := s.canRxSize ctrl
    let ack := s.get Fld.CAN_RX_ACK_INDEX ctrl
    if indexGap value ack size ≤ indexGap (s.get Fld.CAN_RX_TAIL_INDEX ctrl) ack size then
      s.set Fld.CAN_RX_ACK_INDEX ctrl (value % size)
    else s.indexInvalid ctrl)

/-! ## Enable and disable (R481, R487) -/

/-- A write of 1 to EN: every entry has gone back to software, that of a frame still on the bus included. -/
def State.canEnable (s : State) (n : Nat) : State :=
  if s.isSet Fld.CAN_CTRL_EN n then s
  else if !s.canRates n then s.raise Flg.CAN_EVT_CFG_REFUSED n
  else
    let zero := [Fld.CAN_TX_TAIL_INDEX, Fld.CAN_TX_DONE_INDEX, Fld.CAN_TX_ACK_INDEX, Fld.CAN_RX_TAIL_INDEX,
      Fld.CAN_RX_ACK_INDEX, Fld.CAN_STATUS_SYNCED, Fld.CAN_STATUS_TEC, Fld.CAN_STATUS_REC, Fld.CAN_STATUS_ERR_STATE]
    let t := s.forEach zero (fun t f => t.set f n 0)
    let x := t.can n
    (t.putCan n { x with attempt := x.attempt.map (fun a => { a with src := 5 }), ending := none }).set Fld.CAN_CTRL_EN n 1

/-- A controller that is disabled is off the bus, once the frame it sends has ended. -/
def State.canStop (s : State) (n : Nat) : State :=
  if !s.isSet Fld.CAN_CTRL_EN n && (s.can n).attempt.isNone then s.set Fld.CAN_STATUS_SYNCED n 0 else s

/-- A write of 0 to EN: a frame that the controller sends or receives now still ends. -/
def State.canDisable (s : State) (n : Nat) : State :=
  let x := s.can n
  let t := s.doIf (s.canLive n && x.attempt.isNone) fun s => s.putCan n { x with ending := some s.now }
  (t.set Fld.CAN_CTRL_EN n 0).canStop n

/-- Whether a frame that began at a Whorl time was on the bus when EN was written 0 and has not ended yet (R487). -/
def State.canEnds (s : State) (n sof : Nat) : Bool :=
  s.ioOn && (match (s.can n).ending with
    | some t => decide (sof ≤ t)
    | none => false)

/-- The controller has stopped: no frame of before EN 0 is left. -/
def State.canEnded (s : State) (n : Nat) : State :=
  if (s.can n).ending.isSome then s.putCan n { s.can n with ending := none } else s

/-- CAN_ENABLE (R487). -/
def execCanEnable (ctrl : Nat) (s : State) : Host.Outcome State Fault Refusal := .next (s.host fun s => s.canEnable ctrl)

/-- CAN_DISABLE (R487). -/
def execCanDisable (ctrl : Nat) (s : State) : Host.Outcome State Fault Refusal :=
  .next (s.host fun s => s.canDisable ctrl)

/-- CAN_BUS_INTEGRATED (R487): the controller starts work. -/
def execCanBusIntegrated (ctrl : Nat) (s : State) : Host.Outcome State Fault Refusal :=
  .next (if s.canOn ctrl && !s.isSet Fld.CAN_STATUS_SYNCED ctrl && s.get Fld.CAN_STATUS_ERR_STATE ctrl != 2 then
    (s.set Fld.CAN_STATUS_SYNCED ctrl 1).canNext ctrl
  else s)

/-! ## Attempts (R488 to R492) -/

/-- The transmit requests that stand outside an attempt: per slot the one that retries, or else the unstarted one, then
the entry at DONE. -/
def State.canReqs (s : State) (n : Nat) : List TxReq :=
  let busy := match (s.can n).attempt with
    | some a => a.src
    | none => 5
  let slot (j : Nat) : Option SlotReq := match Sparse.find (s.can n).held j with
    | some q => some q
    | none => Sparse.find s.flyer.slots (4 * n + j)
  ((List.range 4).filterMap (fun j => (slot j).map
    (fun (q : SlotReq) => (⟨j, q.launch, s.isSet Fld.CAN_SLOT_CFG_LATE_SKIP (ix n j)⟩ : TxReq))) ++
  (match s.canHead n with
    | some h => [(⟨4, hdrLaunch h, hdrFlag h 7⟩ : TxReq)]
    | none => [])).filter (fun q => q.src != busy)

/-- A request with LATE_SKIP whose time has run out goes back unsent (R489). -/
def State.canSkip (s : State) (n : Nat) (q : TxReq) : State :=
  if q.src = 4 then ((s.canBack n (s.canDoneAddr n) 0x0401 0).raise Flg.CAN_EVT_TX_LATE n).canNext n
  else
    let t := if (Sparse.find (s.can n).held q.src).isSome then
        s.putCan n { s.can n with held := Sparse.erase (s.can n).held q.src }
      else s.dropSlot n q.src
    t.raise Flg.CAN_EVT_TX_LATE n

/-- Whether a request with LATE_SKIP is `after` ticks past its tolerance. -/
def State.canOverdue (s : State) (n after : Nat) (q : TxReq) : Bool :=
  q.launch != 0 && q.skip && decide (q.launch + s.get Fld.CAN_TX_CFG_LATE_TOL n + after ≤ s.now)

/-- Judges requests until none is left to judge: a ring entry that goes back unsent makes way for the next one. -/
def State.canJudgeAll (s : State) (n after : Nat) : Nat → State
  | 0 => s
  | fuel + 1 => match (s.canReqs n).find? (s.canOverdue n after) with
    | some q => (s.canSkip n q).canJudgeAll n after fuel
    | none => s

/-- In SAFE the timed ring entries at DONE go back unsent once their launch times have passed (R492). -/
def State.canSafeBack (s : State) (n : Nat) : Nat → State
  | 0 => s
  | fuel + 1 => match (s.canReqs n).find? (fun q => q.src == 4) with
    | some q =>
      if s.dev = .safe ∧ q.launch ≠ 0 ∧ q.launch < s.now then
        ((s.canBack n (s.canDoneAddr n) 0x0401 0).canNext n).canSafeBack n fuel
      else s
    | none => s

/-- Judges the requests with LATE_SKIP that are `after` ticks past their tolerance, and the timed ring entries in SAFE
(R489, R492).  An unsynchronised replica takes no such decision (R49). -/
def State.canLate (s : State) (n after : Nat) : State :=
  if !s.hubSynced then s else
  (s.canJudgeAll n after (s.canTxSize n + 5)).canSafeBack n (s.canTxSize n + 5)

/-- CAN_TX_LATE (R489, R492). -/
def execCanTxLate (ctrl : Nat) (s : State) : Host.Outcome State Fault Refusal :=
  .next (if s.canLive ctrl then s.canLate ctrl 0 else s)

/-- Stuff bits of a run of bits at most: one after the first five and one after every four more. -/
def stuffBits (n : Nat) : Nat := (n - 1) / 4

/-- Longest duration of a Classical frame, in bits of the nominal phase: from the start of frame to the end of the CRC with
every stuff bit, then ten bits (ISO 11898-1). -/
def classicBits (ide rtr : Bool) (len : Nat) : Nat :=
  let n := (if ide then 54 else 34) + (if rtr then 0 else 8 * len)
  n + stuffBits n + 10

/-- Longest duration of an FD frame in ticks: bits of the nominal phase up to BRS, bits of the data phase up to the CRC, the
stuff bits of each, the fixed stuff bits of the CRC, and ten bits of the nominal phase.  With BRS the bit rate changes at
the sample points of BRS and of the CRC delimiter (ISO 11898-1). -/
def fdTicks (ide brs : Bool) (len bit data tail dataTail : Nat) : Nat :=
  let head := if ide then 36 else 17
  let n := head + 5 + 8 * len
  let crc := if len ≤ 16 then 4 + 17 + 6 else 4 + 21 + 7
  let early := head + stuffBits head
  let late := n + stuffBits n - early + crc
  if brs then early * bit - tail + dataTail + late * data + (data - dataTail) + tail + 9 * bit else (early + late + 10) * bit

/-- Longest duration of an XL frame in ticks: the arbitration phase with its stuff bits, the data phase with a fixed stuff
bit after every ten bits, and the bits from the switch back on (ISO 11898-1). -/
def xlTicks (len bit data : Nat) : Nat :=
  let n := 108 + 8 * len
  (17 + stuffBits 17) * bit + (3 + n + n / 10 + 4 + 1) * data + 12 * bit

/-- The longest duration of the entry at DONE (R490). -/
def State.canLongest (s : State) (n : Nat) (h : List Byte) : Nat :=
  let (tail, fdTail, _) := s.canTails n
  match hdrFormat h with
  | 0 => classicBits (hdrFlag h 2) (hdrFlag h 3) (hdrLen h) * s.canNominal n
  | 1 => fdTicks (hdrFlag h 2) (hdrFlag h 4) (hdrLen h) (s.canNominal n) (s.canFdBit n) tail fdTail
  | _ => xlTicks (hdrLen h) (s.canNominal n) (s.canXlBit n)

/-- Whether a request may start at all: a slot's frame in a format that is enabled. -/
def State.canEligible (s : State) (n : Nat) (q : TxReq) : Bool :=
  let slot := match Sparse.find (s.can n).held q.src with
    | some r => some r
    | none => Sparse.find s.flyer.slots (4 * n + q.src)
  decide (q.src = 4) || (match slot.bind (fun r => r.can) with
    | some f => s.canFormat n f.format
    | none => true)

/-- The request that a start-of-frame opportunity takes (R490); in SAFE no timed one starts (R492). -/
def State.canChoice (s : State) (n : Nat) : Option TxReq :=
  let lat := s.get Fld.CAN_PHY_LAT_TX n
  let reqs := (s.canReqs n).filter (s.canEligible n)
  match earliest (reqs.filter (s.txDue lat)) with
  | some q => some q
  | none =>
    let timed := reqs.filter (fun q => q.launch != 0 && decide (s.dev ≠ .safe))
    let long := match s.canHead n with
      | some h => s.canLongest n h
      | none => 0
    reqs.find? (fun q => q.launch == 0 && timed.all (fun p => decide (s.now + long + lat < p.launch)))

/-- An attempt of a request starts with its start of frame; a slot's request is then no longer unstarted (R491). -/
def State.canStart (s : State) (n : Nat) (q : TxReq) : State :=
  let stamp := (s.now + s.get Fld.CAN_PHY_LAT_TX n) % 2 ^ 64
  let a : Attempt := ⟨q.src, stamp, s.canDoneAddr n⟩
  let x := s.can n
  match Sparse.find x.held q.src, Sparse.find s.flyer.slots (4 * n + q.src) with
  | none, some r =>
    if q.src < 4 then (s.dropSlot n q.src).putCan n { x with attempt := some a, held := Sparse.insert x.held q.src r }
    else s.putCan n { x with attempt := some a }
  | _, _ => s.putCan n { x with attempt := some a }

/-- CAN_TX_ATTEMPT (R489, R490): no attempt of a request with LATE_SKIP starts after its tolerance, none at all with
MON 1 (R492). -/
def execCanTxAttempt (ctrl : Nat) (s : State) : Host.Outcome State Fault Refusal :=
  .next (if !s.canLive ctrl || s.isSet Fld.CAN_CTRL_MON ctrl || (s.can ctrl).attempt.isSome then s else
    let t := s.canLate ctrl 1
    match t.canChoice ctrl with
    | some q => t.canStart ctrl q
    | none => t)

/-- An attempt ends without success: the frame waits for the next opportunity. -/
def State.canFail (s : State) (n : Nat) : State := (s.putCan n { s.can n with attempt := none }).canStop n

/-- CAN_ARB_LOST (R489). -/
def execCanArbLost (ctrl : Nat) (s : State) : Host.Outcome State Fault Refusal :=
  .next (if (s.can ctrl).attempt.isSome && s.ioOn then (s.count Fld.CAN_CNT_ARB_LOST_COUNT ctrl 1).canFail ctrl else s)

/-! ## Error states (R492) -/

/-- The error counters take new values, and the error state with them. -/
def State.canErrors (s : State) (n tec rxc : Nat) : State :=
  let old := s.get Fld.CAN_STATUS_ERR_STATE n
  let st := if 256 ≤ tec then 2 else if 128 ≤ tec ∨ 128 ≤ rxc then 1 else 0
  let t := ((s.set Fld.CAN_STATUS_TEC n (min tec 255)).set Fld.CAN_STATUS_REC n (min rxc 255)).set
    Fld.CAN_STATUS_ERR_STATE n st
  let u := t.doIf (st == 1 && old != 1) (fun t => t.raise Flg.CAN_EVT_ERR_PASSIVE n)
  u.doIf (st == 2 && old != 2) (fun t => (t.set Fld.CAN_STATUS_SYNCED n 0).raise Flg.CAN_EVT_BUS_OFF n)

/-- A frame is sent without error: the transmit error counter falls (ISO 11898-1). -/
def State.canSentOk (s : State) (n : Nat) : State :=
  s.canErrors n (s.get Fld.CAN_STATUS_TEC n - 1) (s.get Fld.CAN_STATUS_REC n)

/-- A frame is received without error: the receive error counter falls, from above 127 to a value between 119 and 127
(ISO 11898-1). -/
def State.canHeardOk (s : State) (n : Nat) : State :=
  let heard := s.get Fld.CAN_STATUS_REC n
  if heard ≤ 127 then s.canErrors n (s.get Fld.CAN_STATUS_TEC n) (heard - 1)
  else
    let t := s.canErrors n (s.get Fld.CAN_STATUS_TEC n) (119 + (Config.freeWord s.freeCount).toNat % 9)
    { t with freeCount := t.freeCount + 1 }

/-- Whether the error counters can rise to these values by one error (ISO 11898-1): a transmitter's by eights, or not at
all under its exceptions; a receiver's by one or by eights or both, and no further above 127. -/
def State.canRises (s : State) (n tec rxc : Nat) : Bool :=
  let oldT := s.get Fld.CAN_STATUS_TEC n
  let oldR := s.get Fld.CAN_STATUS_REC n
  if (s.can n).attempt.isSome then rxc == oldR && decide (oldT ≤ tec) && (tec - oldT) % 8 == 0
  else tec == oldT && ((decide (oldR < rxc) && decide ((rxc - oldR) % 8 ≤ 1)) || (rxc == oldR && decide (127 < oldR)))

/-- CAN_PROTOCOL_ERROR (R492): an error frame is sent or received, and an attempt in progress fails. -/
def execCanProtocolError (ctrl tec rxc : Nat) (s : State) : Host.Outcome State Fault Refusal :=
  .next (if (s.canLive ctrl || (s.ioOn && (s.can ctrl).attempt.isSome) || s.canEnds ctrl 0) && s.canRises ctrl tec rxc then
    (((s.raise Flg.CAN_EVT_PROTO_ERR ctrl).canErrors ctrl tec rxc).canFail ctrl).canEnded ctrl
  else s)

/-- CAN_BUS_OFF_RECOVERY (R492): the controller rejoins, and the timed frames that wait are judged (R489). -/
def execCanBusOffRecovery (ctrl : Nat) (s : State) : Host.Outcome State Fault Refusal :=
  .next (if s.canOn ctrl && s.isSet Fld.CAN_CTRL_AUTO_RECOVER ctrl && s.get Fld.CAN_STATUS_ERR_STATE ctrl == 2 then
    (((s.canErrors ctrl 0 0).set Fld.CAN_STATUS_SYNCED ctrl 1).canNext ctrl).canLate ctrl 0
  else s)

/-! ## An attempt succeeds (R484, R489) -/

/-- The frame of a transmit entry (Table 16.2): a remote frame has no data. -/
def txFrame (h data : List Byte) : CanFrame :=
  ⟨fieldOf h 0 4, hdrFormat h, hdrFlag h 2, hdrFlag h 3, hdrFlag h 4, hdrFlag h 5, hdrLen h, fieldOf h 10 1, fieldOf h 11 1,
   fieldOf h 12 4, if hdrFlag h 3 then [] else data⟩

/-- CAN_TX_DONE. -/
def execCanTxDone (ctrl : Nat) (s : State) : Host.Outcome State Fault Refusal :=
  .next (match (s.can ctrl).attempt with
    | none => s
    | some a =>
      if !s.ioOn then s else
      let late (launch : Nat) := launch != 0 &&
        decide (launch + s.get Fld.CAN_TX_CFG_LATE_TOL ctrl + s.get Fld.CAN_PHY_LAT_TX ctrl < a.stamp)
      let x := s.can ctrl
      let t := if a.src = 4 then
          let h := s.load a.entry 32
          let data := s.load (a.entry + 32) (hdrLen h)
          let b := (s.putCan ctrl { x with attempt := none, sent := some (txFrame h data) }).canBack ctrl a.entry
            (if late (hdrLaunch h) then 0x0401 else 0) a.stamp
          b.doIf (late (hdrLaunch h)) (fun b => b.raise Flg.CAN_EVT_TX_LATE ctrl)
        else
          match Sparse.find x.held a.src with
          | some q =>
            let b := s.putCan ctrl { x with attempt := none, held := Sparse.erase x.held a.src, sent := q.can }
            b.doIf (late q.launch) (fun b => b.raise Flg.CAN_EVT_TX_LATE ctrl)
          | none => s.putCan ctrl { x with attempt := none }
      ((t.canSentOk ctrl).canNext ctrl).canStop ctrl)

/-! ## Reception (R483) -/

/-- Whether filter f of a controller takes a frame (Table 16.5). -/
def State.canFilter (s : State) (n : Nat) (fr : CanFrame) (f : Nat) : Bool :=
  let i := ix n f
  let fmt := s.get Fld.CAN_FLT_CFG_FORMAT i
  s.isSet Fld.CAN_FLT_CFG_EN i && (fmt == 0 || fmt == fr.format + 1) && s.isSet Fld.CAN_FLT_CFG_IDE i == fr.ide &&
  (fr.id ^^^ s.get Fld.CAN_FLT_ID_VALUE i) &&& s.get Fld.CAN_FLT_MASK_VALUE i == 0

/-- FILTER of a frame: the lowest filter that takes it, 0xFF under ACCEPT_ALL, none where it is not accepted. -/
def State.canMatch (s : State) (n : Nat) (fr : CanFrame) : Option Nat :=
  if s.isSet Fld.CAN_CTRL_ACCEPT_ALL n then some 0xFF else (List.range 16).find? (s.canFilter n fr)

/-- A receive entry (Table 16.2): its header and the data bytes of the frame. -/
def canEntry (fr : CanFrame) (filter stamp : Nat) : List Byte :=
  let bit (b : Bool) (k : Nat) := if b then 2 ^ k else 0
  let xl := fr.format == 2
  let rtr := fr.rtr && fr.format == 0
  let only (v : Nat) := if xl then v else 0
  leBytes 4 (fr.id % 2 ^ 29) ++
  leBytes 1 (fr.format + bit (fr.ide && !xl) 2 + bit rtr 3 + bit (fr.brs && fr.format == 1) 4 +
    bit (fr.esiSec && fr.format != 0) 5) ++ leBytes 1 filter ++
  leBytes 2 fr.len ++ leBytes 2 0 ++ leBytes 1 (only fr.sdt) ++ leBytes 1 (only fr.vcid) ++ leBytes 4 (only fr.af) ++
  leBytes 8 0 ++ leBytes 8 stamp ++ (if rtr then [] else sliceOf fr.data 0 fr.len)

/-- A frame is written into the receive entry at TAIL, or dropped; event source 24 + n. -/
def State.canStore (s : State) (n : Nat) (fr : CanFrame) (filter sof : Nat) : State :=
  let size := s.canRxSize n
  let tail := s.get Fld.CAN_RX_TAIL_INDEX n
  if (if s.isSet Fld.CAN_RX_CFG_BIG n then 2048 else 64) < fr.len then s.raise Flg.CAN_EVT_RX_TOO_LONG n
  else if (tail + 1) % size = s.get Fld.CAN_RX_ACK_INDEX n then s.raise Flg.CAN_EVT_RX_OVERRUN n
  else
    let stamp := (sof + 2 ^ 64 - s.get Fld.CAN_PHY_LAT_RX n) % 2 ^ 64
    ((s.store (s.canRxAddr n tail) (canEntry fr filter stamp)).set Fld.CAN_RX_TAIL_INDEX n ((tail + 1) % size)).raiseSource
      (24 + n)

/-- CAN_RX_FRAME (R483): a frame of a format that is enabled; one that was on the bus when EN was written 0 is still
received (R487). -/
def execCanRxFrame (ctrl : Nat) (frame : CanFrame) (sof : Nat) (s : State) : Host.Outcome State Fault Refusal :=
  .next (if !(s.canLive ctrl || s.canEnds ctrl sof) || !s.canFormat ctrl frame.format || !lenLegal frame.format frame.len then s else
    let t := (s.canHeardOk ctrl).canEnded ctrl
    match t.canMatch ctrl frame with
    | some f => t.canStore ctrl frame f sof
    | none => t)

end Sys2Proof.Machine
end

