-- ==== Sys2Proof/Machine/Jpeg.lean ====
section
/-! DEFINITION. Images of ISO/IEC 10918-1 as the carding decoder takes them (R339): markers, frame headers, tables, scans with
Huffman coding and restart intervals, and the samples of a component. -/

namespace Sys2Proof.Machine

/-! ## Markers and headers -/

/-- The marker whose code follows a byte 0xFF, after fill bytes. -/
def afterFf : List Byte → Option (Nat × List Byte)
  | [] => none
  | b :: rest => if b = 0xFF then afterFf rest else if b = 0 then none else some (b.toNat, rest)

/-- The marker that begins a byte stream: its code, and what follows. -/
def markerOf : List Byte → Option (Nat × List Byte)
  | b :: rest => if b = 0xFF then afterFf rest else none
  | [] => none

/-- A big-endian number of two bytes. -/
def be16 (bs : List Byte) : Nat := (bs.getD 0 0).toNat * 256 + (bs.getD 1 0).toNat

/-- The body of a marker segment, and what follows it. -/
def segmentOf (bs : List Byte) : Option (List Byte × List Byte) :=
  let n := be16 bs
  if n < 2 ∨ bs.length < n then none else some ((bs.take n).drop 2, bs.drop n)

/-- A component of a frame: identifier, sampling factors and quantisation table. -/
structure JpegComp where
  id : Nat
  h : Nat
  v : Nat
  tq : Nat
  deriving DecidableEq, Repr

/-- A frame header: the code of its process, sample precision, lines, samples per line, components. -/
structure JpegFrame where
  sof : Nat
  prec : Nat
  y : Nat
  x : Nat
  comps : List JpegComp
  deriving DecidableEq, Repr

/-- Whether a marker begins a frame header. -/
def isSof (m : Nat) : Bool := decide (0xC0 ≤ m) && decide (m ≤ 0xCF) && m != 0xC4 && m != 0xC8 && m != 0xCC

/-- Reads the body of a frame header. -/
def JpegFrame.ofBody (m : Nat) (b : List Byte) : Option JpegFrame :=
  let n := (b.getD 5 0).toNat
  if b.length < 6 ∨ b.length ≠ 6 + 3 * n then none else
  some ⟨m, (b.getD 0 0).toNat, be16 (b.drop 1), be16 (b.drop 3), (List.range n).map (fun i =>
    ⟨(b.getD (6 + 3 * i) 0).toNat, (b.getD (7 + 3 * i) 0).toNat / 16, (b.getD (7 + 3 * i) 0).toNat % 16,
      (b.getD (8 + 3 * i) 0).toNat⟩)⟩

/-- The frame header that follows SOI and other segments; `fuel` bounds their number. -/
def seekFrame : Nat → List Byte → Option JpegFrame
  | 0, _ => none
  | fuel + 1, bs =>
    match markerOf bs with
    | none => none
    | some (m, rest) =>
      if m = 0x01 ∨ (0xD0 ≤ m ∧ m ≤ 0xDA) then none else
      match segmentOf rest with
      | none => none
      | some (body, next) => if isSof m then JpegFrame.ofBody m body else seekFrame fuel next

/-- The frame header of an image, where one lies within its bytes (check 1 of Table 11.5). -/
def imageFrame (bs : List Byte) : Option JpegFrame :=
  match markerOf bs with
  | some (0xD8, rest) => seekFrame rest.length rest
  | _ => none

/-- The greatest horizontal sampling factor. -/
def JpegFrame.hMax (f : JpegFrame) : Nat := (f.comps.map JpegComp.h).foldl max 1
/-- The greatest vertical sampling factor. -/
def JpegFrame.vMax (f : JpegFrame) : Nat := (f.comps.map JpegComp.v).foldl max 1

/-- Whether the chroma of three components is sampled as the luma, half as often in a line, or half as often in both
directions. -/
def JpegFrame.sampled (f : JpegFrame) : Bool :=
  match f.comps with
  | [_] => true
  | [a, b, c] => b.h == c.h && b.v == c.v &&
      ((a.h == b.h && a.v == b.v) || (a.h == 2 * b.h && a.v == b.v) || (a.h == 2 * b.h && a.v == 2 * b.v))
  | _ => false

/-- Whether the decoder takes a frame (R339): a baseline or an extended sequential process with Huffman coding. -/
def JpegFrame.taken (f : JpegFrame) : Bool :=
  (f.sof == 0xC0 && f.prec == 8 || f.sof == 0xC1 && (f.prec == 8 || f.prec == 12)) && f.sampled &&
  f.comps.all (fun c => decide (1 ≤ c.h) && decide (c.h ≤ 4) && decide (1 ≤ c.v) && decide (c.v ≤ 4) && decide (c.tq ≤ 3)) &&
  decide ((f.comps.map JpegComp.id).Nodup)

/-! ## Tables -/

/-- A Huffman table: length, code and value of each entry. -/
abbrev HuffTable := List (Nat × (Nat × Nat))

/-- The tables in force and what the scans have given. -/
structure JpegState where
  frame : Option JpegFrame
  /-- quantisation tables by number: whether of 16-bit precision, and the elements in zigzag order -/
  quant : List (Nat × (Bool × List Nat))
  /-- Huffman tables by class and number: 16 · class + number -/
  huff : List (Nat × HuffTable)
  /-- MCUs between restarts, 0 for none -/
  restart : Nat
  /-- components that a scan has given -/
  scanned : List Nat
  /-- dequantised coefficients by component and block, in the order of Figure 5 of the standard read line by line -/
  blocks : List ((Nat × (Nat × Nat)) × List Int)
  deriving DecidableEq, Repr

/-- Reads quantisation tables. -/
def readQuant : Nat → List Byte → List (Nat × (Bool × List Nat)) → Option (List (Nat × (Bool × List Nat)))
  | 0, bs, q => if bs.isEmpty then some q else none
  | _ + 1, [], q => some q
  | fuel + 1, b :: rest, q =>
    let wide := b.toNat / 16
    let n := 64 * (wide + 1)
    let vals := (List.range 64).map (fun i => if wide = 0 then (rest.getD i 0).toNat else be16 (rest.drop (2 * i)))
    if 1 < wide ∨ 3 < b.toNat % 16 ∨ rest.length < n ∨ vals.contains 0 then none
    else readQuant fuel (rest.drop n) ((b.toNat % 16, (wide == 1, vals)) :: q)

/-- The codes of a Huffman table, by length from `len` on; `code` is the next one.  None where a length has no code left: the
code of 1-bits alone is none (ISO/IEC 10918-1). -/
def huffCodes : List Nat → Nat → Nat → List Nat → Option HuffTable
  | [], _, _, _ => some []
  | n :: counts, len, code, vals =>
    if n ≠ 0 ∧ 2 ^ len ≤ code + n then none else
    match huffCodes counts (len + 1) (2 * (code + n)) (vals.drop n) with
    | some t => some ((List.range n).map (fun i => (len, (code + i, vals.getD i 0))) ++ t)
    | none => none

/-- Reads Huffman tables. -/
def readHuff : Nat → List Byte → List (Nat × HuffTable) → Option (List (Nat × HuffTable))
  | 0, bs, h => if bs.isEmpty then some h else none
  | _ + 1, [], h => some h
  | fuel + 1, b :: rest, h =>
    let counts := (rest.take 16).map BitVec.toNat
    let n := counts.sum
    let vals := ((rest.drop 16).take n).map BitVec.toNat
    if 1 < b.toNat / 16 ∨ 3 < b.toNat % 16 ∨ rest.length < 16 + n then none else
    match huffCodes counts 1 0 vals with
    | some t => readHuff fuel (rest.drop (16 + n)) ((b.toNat, t) :: h)
    | none => none

/-! ## Entropy-coded segments -/

/-- The bits of bytes, most significant first. -/
def bitsMsb (bs : List Byte) : List Bool := (bs.map (fun b => (List.range 8).map (fun i => b.getLsbD (7 - i)))).flatten

/-- The value that comes next under a Huffman table. -/
def huffNext (t : HuffTable) : Nat → Nat → Nat → List Bool → Option (Nat × List Bool)
  | 0, _, _, _ => none
  | _ + 1, _, _, [] => none
  | fuel + 1, len, code, b :: rest =>
    let c := 2 * code + (if b then 1 else 0)
    match t.find? (fun e => e.1 == len + 1 && e.2.1 == c) with
    | some e => some (e.2.2, rest)
    | none => huffNext t fuel (len + 1) c rest

/-- A number of n bits. -/
def takeBits (n : Nat) (bits : List Bool) : Option (Nat × List Bool) :=
  if bits.length < n then none
  else some ((bits.take n).foldl (fun v b => 2 * v + (if b then 1 else 0)) 0, bits.drop n)

/-- The value of category t with the additional bits v. -/
def extendBits (v t : Nat) : Int := if 2 * v < 2 ^ t then (v : Int) - (2 ^ t - 1 : Nat) else v

/-- A coefficient of category t. -/
def takeCoef (t : Nat) (bits : List Bool) : Option (Int × List Bool) :=
  (takeBits t bits).map (fun r => (if t = 0 then 0 else extendBits r.1 t, r.2))

/-- The AC coefficients of a block from place k on, by place in zigzag order; `most` is the largest category. -/
def takeAc (t : HuffTable) (most : Nat) : Nat → Nat → List Bool → Option (List (Nat × Int) × List Bool)
  | 0, _, _ => none
  | fuel + 1, k, bits =>
    if 63 < k then some ([], bits) else
    match huffNext t 16 0 0 bits with
    | none => none
    | some (rs, rest) =>
      let r := rs / 16
      let c := rs % 16
      if c = 0 then
        if r = 0 then some ([], rest)
        else if r = 15 ∧ k + 16 ≤ 63 then takeAc t most fuel (k + 16) rest
        else none
      else if most < c ∨ 63 < k + r then none
      else match takeCoef c rest with
        | none => none
        | some (v, rest) => (takeAc t most fuel (k + r + 1) rest).map (fun q => ((k + r, v) :: q.1, q.2))

/-- The zigzag place of each coefficient of a block read line by line. -/
def zigzag : List Nat :=
  [0, 1, 5, 6, 14, 15, 27, 28, 2, 4, 7, 13, 16, 26, 29, 42] ++ [3, 8, 12, 17, 25, 30, 41, 43, 9, 11, 18, 24, 31, 40, 44, 53] ++
  [10, 19, 23, 32, 39, 45, 52, 54, 20, 22, 33, 38, 46, 51, 55, 60] ++
  [21, 34, 37, 47, 50, 56, 59, 61, 35, 36, 48, 49, 57, 58, 62, 63]

/-- A component as a scan codes it: its place in the frame, its factors and its tables. -/
structure ScanComp where
  place : Nat
  h : Nat
  v : Nat
  dc : HuffTable
  ac : HuffTable
  quant : List Nat
  deriving DecidableEq, Repr

/-- A block: its dequantised coefficients read line by line, the DC value that predicts the next, and the bits left. -/
def takeBlock (c : ScanComp) (prec : Nat) (pred : Int) (bits : List Bool) : Option (List Int × Int × List Bool) :=
  match huffNext c.dc 16 0 0 bits with
  | none => none
  | some (t, rest) =>
    if prec + 3 < t then none else
    match takeCoef t rest with
    | none => none
    | some (d, rest) =>
      match takeAc c.ac (prec + 2) 64 1 rest with
      | none => none
      | some (acs, rest) =>
        let dc := pred + d
        let all := (0, dc) :: acs
        some (zigzag.map (fun z => (match all.find? (fun p => p.1 == z) with
          | some p => p.2
          | none => 0) * (c.quant.getD z 0 : Nat)), dc, rest)

/-- Blocks of components at their places, in coding order. -/
abbrev Blocks := List ((Nat × (Nat × Nat)) × List Int)

/-- Decodes the blocks of an interval in order; `preds` holds the last DC value of each component. -/
def takeBlocks (prec : Nat) : List (ScanComp × (Nat × Nat)) → List (Nat × Int) → List Bool → Option (Blocks × List Bool)
  | [], _, bits => some ([], bits)
  | (c, at') :: rest, preds, bits =>
    let pred := match preds.find? (fun p => p.1 == c.place) with
      | some p => p.2
      | none => 0
    match takeBlock c prec pred bits with
    | none => none
    | some (coefs, dc, bits) =>
      (takeBlocks prec rest ((c.place, dc) :: preds) bits).map (fun r => (((c.place, at'), coefs) :: r.1, r.2))

/-- Splits the entropy-coded segments of a scan from what follows: the bytes of each restart interval without stuffing,
oldest first, and the rest from the next marker on. -/
def splitScan : List Byte → List Byte → Nat → List (List Byte) → Option (List (List Byte) × List Byte)
  | [], _, _, _ => none
  | [_], _, _, _ => none
  | a :: b :: rest, cur, next, done =>
    if a ≠ 0xFF then splitScan (b :: rest) (a :: cur) next done
    else if b = 0 then splitScan rest (0xFF :: cur) next done
    else if b = 0xFF then splitScan (b :: rest) cur next done
    else if b.toNat = 0xD0 + next % 8 then splitScan rest [] (next + 1) (cur.reverse :: done)
    else some ((cur.reverse :: done).reverse, a :: b :: rest)

/-- Blocks in a line of a component, and its lines of blocks, in a scan of its own. -/
def JpegFrame.ownBlocks (f : JpegFrame) (c : ScanComp) : Nat × Nat :=
  (ceilDiv (ceilDiv (f.x * c.h) f.hMax) 8, ceilDiv (ceilDiv (f.y * c.v) f.vMax) 8)

/-- The MCUs of a scan: the blocks of each, in coding order. -/
def JpegFrame.mcus (f : JpegFrame) (cs : List ScanComp) : List (List (ScanComp × (Nat × Nat))) :=
  match cs with
  | [c] =>
    let n := f.ownBlocks c
    (List.range (n.1 * n.2)).map (fun i => [(c, (i % n.1, i / n.1))])
  | _ =>
    let w := ceilDiv f.x (8 * f.hMax)
    let h := ceilDiv f.y (8 * f.vMax)
    (List.range (w * h)).map (fun i => (cs.map (fun c => ((List.range c.v).map (fun j =>
      (List.range c.h).map (fun k => (c, (i % w * c.h + k, i / w * c.v + j))))).flatten)).flatten)

/-- Decodes the intervals of a scan: `n` MCUs each, the last one fewer; what remains of the last byte is 1-bits. -/
def takeIntervals (prec n : Nat) : List (List Byte) → List (List (ScanComp × (Nat × Nat))) → Option Blocks
  | [], mcus => if mcus.isEmpty then some [] else none
  | bs :: rest, mcus =>
    if mcus.isEmpty then none else
    match takeBlocks prec (mcus.take n).flatten [] (bitsMsb bs) with
    | none => none
    | some (blocks, left) =>
      if 8 ≤ left.length ∨ left.contains false then none
      else (takeIntervals prec n rest (mcus.drop n)).map (fun r => blocks ++ r)

/-! ## Scans and images -/

/-- The component that an entry of a scan header names, with its tables. -/
def JpegState.scanComp (t : JpegState) (f : JpegFrame) (id tables : Nat) : Option ScanComp :=
  match (List.range f.comps.length).find? (fun i => (f.comps.map JpegComp.id).getD i 0 == id) with
  | none => none
  | some i =>
    match f.comps[i]?, t.huff.find? (fun h => h.1 == tables / 16), t.huff.find? (fun h => h.1 == 16 + tables % 16) with
    | some c, some d, some a => match t.quant.find? (fun q => q.1 == c.tq) with
      | some q => if q.2.1 && f.prec == 8 then none else some ⟨i, c.h, c.v, d.2, a.2, q.2.2⟩
      | none => none
    | _, _, _ => none

/-- Takes every element or none. -/
def allSome {α : Type} : List (Option α) → Option (List α)
  | [] => some []
  | some a :: rest => (allSome rest).map (fun r => a :: r)
  | none :: _ => none

/-- The components of a scan header, in the order of the frame; none where the header is not one of a sequential scan. -/
def JpegState.scanHeader (t : JpegState) (f : JpegFrame) (b : List Byte) : Option (List ScanComp) :=
  let n := (b.getD 0 0).toNat
  let sel (i : Nat) := (b.getD (2 + 2 * i) 0).toNat
  let most := if f.sof = 0xC0 then 1 else 3
  if b.length ≠ 4 + 2 * n ∨ n < 1 ∨ (b.drop (1 + 2 * n)) ≠ [0, 63, 0] ∨
    (List.range n).any (fun i => decide (most < sel i / 16) || decide (most < sel i % 16)) then none else
  match allSome ((List.range n).map (fun i => t.scanComp f (b.getD (1 + 2 * i) 0).toNat (sel i))) with
  | none => none
  | some cs =>
    let places := cs.map ScanComp.place
    if (places.zip places.tail).all (fun p => decide (p.1 < p.2)) && !places.any (fun i => t.scanned.contains i) &&
      (n == 1 || decide ((cs.map (fun c => c.h * c.v)).sum ≤ 10)) then some cs else none

/-- A scan: its header, then its entropy-coded segments. -/
def JpegState.scan (t : JpegState) (bs : List Byte) : Option (JpegState × List Byte) :=
  match t.frame, segmentOf bs with
  | some f, some (body, rest) =>
    match t.scanHeader f body, splitScan rest [] 0 [] with
    | some cs, some (segs, next) =>
      let mcus := f.mcus cs
      (takeIntervals f.prec (if t.restart = 0 then mcus.length else t.restart) segs mcus).map (fun blocks =>
        ({ t with scanned := t.scanned ++ cs.map ScanComp.place, blocks := t.blocks ++ blocks }, next))
    | _, _ => none
  | _, _ => none

/-- A marker segment other than a scan's. -/
def JpegState.segment (t : JpegState) (m : Nat) (body : List Byte) : Option JpegState :=
  if m = 0xDB then (readQuant body.length body t.quant).map (fun q => { t with quant := q })
  else if m = 0xC4 then (readHuff body.length body t.huff).map (fun h => { t with huff := h })
  else if m = 0xDD then if body.length = 2 then some { t with restart := be16 body } else none
  else if isSof m then match t.frame, JpegFrame.ofBody m body with
    | none, some f => if f.taken then some { t with frame := some f } else none
    | _, _ => none
  else if m = 0xFE ∨ (0xE0 ≤ m ∧ m ≤ 0xEF) ∨ m = 0xDC then some t
  else none

/-- The image up to its end marker; `fuel` bounds its segments. -/
def JpegState.run : Nat → JpegState → List Byte → Option JpegState
  | 0, _, _ => none
  | fuel + 1, t, bs =>
    match markerOf bs with
    | none => none
    | some (m, rest) =>
      if m = 0xD9 then some t
      else if m = 0xDA then match t.scan rest with
        | some (u, next) => u.run fuel next
        | none => none
      else match segmentOf rest with
        | none => none
        | some (body, next) => match t.segment m body with
          | some u => u.run fuel next
          | none => none

/-- What an image decodes to; none where the decoder does not take it or its syntax is violated (R339). -/
def imageDecode (bs : List Byte) : Option JpegState :=
  match markerOf bs with
  | some (0xD8, rest) => match JpegState.run rest.length ⟨none, [], [], 0, [], []⟩ rest with
    | some t => match t.frame with
      | some f => if t.scanned.length = f.comps.length then some t else none
      | none => none
    | none => none
  | _ => none

/-- The factor of coefficient u at place x in one direction of the inverse DCT, C(u) ÷ 2 × cos((2x + 1) u π ÷ 16), in units of
2⁻³⁰. -/
def dctFactor (u x : Nat) : Int :=
  if u = 0 then 379625062 else
  let cosine : List Int := [536870912, 526555088, 496004047, 446391849, 379625062, 298269498, 205451603, 104738319, 0]
  let a := (2 * x + 1) * u % 32
  let b := if 16 < a then 32 - a else a
  if b ≤ 8 then cosine.getD b 0 else -(cosine.getD (16 - b) 0)

/-- The inverse DCT of a block at a place, to the nearest integer (ISO/IEC 10918-1, A.3.3). -/
def inverseDct (block : List Int) (place : Nat) : Int :=
  let sum := ((List.range 8).map (fun v => dctFactor v (place / 8) *
    ((List.range 8).map (fun u => dctFactor u (place % 8) * block.getD (8 * v + u) 0)).sum)).sum
  (sum + 2 ^ 59) / 2 ^ 60

/-- A sample of a block: its inverse DCT, raised by the level shift and held within the precision.  The standard does not fix
the precision of the transform, so a block that is not 0 throughout may come out 1 off. -/
def dctSample (prec : Nat) (block : List Int) (place : Nat) : Nat :=
  let off : Int := if block.all (fun v => v == 0) then 0 else ((Config.idct prec block place).toNat % 3 : Nat) - 1
  let v : Int := inverseDct block place + off + ((2 ^ (prec - 1) : Nat) : Int)
  min (2 ^ prec - 1) v.toNat

/-- Element c of pixel (x, y) of an image, its chroma upsampled by replication (R339). -/
def JpegState.elem (t : JpegState) (x y c : Nat) : Nat :=
  match t.frame with
  | none => 0
  | some f => match f.comps[c]? with
    | none => 0
    | some p =>
      let sx := x * p.h / f.hMax
      let sy := y * p.v / f.vMax
      match t.blocks.find? (fun b => b.1 == (c, (sx / 8, sy / 8))) with
      | some b => dctSample f.prec b.2 (sy % 8 * 8 + sx % 8)
      | none => 0

end Sys2Proof.Machine
end

