-- ==== Sys2Proof/Machine/Carding.lean ====
section
/-! DEFINITION. The carding input pipeline (chapter 11): capture streams, and dataset streams with their sample
order, augmentation, pyramid, resize, budget and batches. -/

namespace Sys2Proof.Machine

/-! ## Capture streams -/

/-- The data types that a stream accepts (Table 11.1). -/
def capDtOk (dt : Nat) : Bool := dt == 0x2A || dt == 0x2B || dt == 0x2C || dt == 0x1E

/-- Bytes that a pixel is written as (Table 11.1). -/
def capPixelBytes (dt : Nat) : Nat := if dt = 0x2A then 1 else 2

/-- A stream's token obeys R333: CONSUME, TARGET 1, owned by its job, with the initial count that the rule gives. -/
def State.streamToken (s : State) (job id count : Nat) : Bool :=
  let t := s.token id
  !tokenNull id && !t.level && t.target == 1 && t.owner == some job && t.count == count

/-- A stream's two tokens obey R333: FREE starts at NBUF, may be waited on and has no other waiter, FULL starts at 0. -/
def State.streamTokens (s : State) (job free full nbuf : Nat) : Bool :=
  s.streamToken job free nbuf && s.mayWait job free && (s.token free).waiters.isEmpty && s.streamToken job full 0

/-- CAP_ENABLE (R333, R358). -/
def execCapEnable (stream : Nat) (s : State) : Host.Outcome State Fault Refusal :=
  .next (s.host fun s => if s.isSet Fld.CARD_CAP_CTRL_EN stream then s else
    let job := s.get Fld.CARD_CAP_NBUF_JOB stream
    let n := s.get Fld.CARD_CAP_NBUF_NBUF stream
    let ok := s.get Fld.CARD_CAP_CTRL_LANES stream != 3 && capDtOk (s.get Fld.CARD_CAP_FMT_DT stream) &&
      decide (1 ≤ n) && decide (n ≤ 32) &&
      s.streamTokens job (s.get Fld.CARD_CAP_TOKENS_FREE stream) (s.get Fld.CARD_CAP_TOKENS_FULL stream) n
    if ok then
      let t := (((s.set Fld.CARD_CAP_CTRL_EN stream 1).set Fld.CARD_CAP_STATUS_POOL stream 0).set
        Fld.CARD_CAP_SEQ_SEQ stream 0).set Fld.CARD_CAP_STATUS_IN_FRAME stream 0
      (((t.putCap stream ⟨true, 0, none, none⟩).capSync stream).register (s.get Fld.CARD_CAP_TOKENS_FREE stream)
        (.cap stream)).settle
    else s.raise Flg.CARD_CAP_EVT_CFG_REFUSED stream)

/-- A capture stream stops: its FREE wait is withdrawn. -/
def State.capStop (s : State) (n : Nat) : State :=
  ((s.putCap n { s.cap n with live := false, held := none, frame := none }).set Fld.CARD_CAP_STATUS_IN_FRAME n 0).withdraw
    (.cap n)

/-- CAP_DISABLE (R337): a frame in progress reaches its decision first. -/
def execCapDisable (stream : Nat) (s : State) : Host.Outcome State Fault Refusal :=
  .next (s.host fun s => let t := s.set Fld.CARD_CAP_CTRL_EN stream 0
    if (s.cap stream).frame.isSome then t else t.capStop stream)

/-- Address of buffer b of a capture stream. -/
def State.capBuffer (s : State) (n b : Nat) : Nat :=
  512 * s.get Fld.CARD_CAP_BUF_BASE_BASE n + b * s.get Fld.CARD_CAP_BUF_STRIDE_BYTES n

/-- Bytes that a stream of a job writes to LPDDR: they are charged to the job's client (R420). -/
def State.streamStore (s : State) (job addr : Nat) (bs : List Byte) : State :=
  (s.accum Fld.HEDDLE_ACCT_BYTES_LPDDR_WR_COUNT (s.get Fld.RING_JOB_CLIENT job) bs.length).store (Mem.lpddr addr) bs

/-- Writes the frame record (Table 11.2). -/
def State.capRecord (s : State) (n b : Nat) (f : Frame) (status ended publish : Nat) : State :=
  s.streamStore (s.get Fld.CARD_CAP_NBUF_JOB n) (s.capBuffer n b)
    (leBytes 2 status ++ leBytes 1 n ++ leBytes 1 f.vc ++ leBytes 1 (s.get Fld.CARD_CAP_FMT_DT n) ++
     leBytes 1 (if f.corrected then 1 else 0) ++ leBytes 2 f.csiFrame ++ leBytes 4 f.seq ++ leBytes 4 f.lines ++
     leBytes 4 f.lineBytes ++ leBytes 4 0 ++ leBytes 8 f.start ++ leBytes 8 ended ++ leBytes 8 publish ++
     List.replicate 464 0)

/-- Ends the stream's frame as corrupt or stale: the record is written and the buffer kept (R335, R336). -/
def State.capDrop (s : State) (n : Nat) (f : Frame) (stale : Bool) : State :=
  let c := s.cap n
  let ended := f.ended.getD (Config.freeWord s.freeCount).toNat
  let t := match c.held with
    | none => s
    | some b => (s.capRecord n b f (if stale then 0x0803 else 0x0805) ended s.now).raise
        (if stale then Flg.CARD_CAP_EVT_STALE else Flg.CARD_CAP_EVT_CORRUPT) n
  (({ t with freeCount := t.freeCount + 1 }.putCap n { c with frame := none }).set
    Fld.CARD_CAP_STATUS_IN_FRAME n 0).capSync n

/-- The publication decision of a frame that ended at `ended`: it is published, or dropped as corrupt or stale (R336). -/
def State.capDecide (s : State) (n : Nat) (f : Frame) (ended : Nat) : State :=
  let c := s.cap n
  let age := s.get Fld.CARD_CAP_AGE_MAX_TICKS n
  let t :=
    if f.corrupt then s.capDrop n f false
    else if age ≠ 0 ∧ age < s.now - f.start then s.capDrop n f true
    else match c.held with
    | none => s.putCap n { c with frame := none }
    | some b =>
      ((((s.capRecord n b f 0 ended s.now).signal (s.get Fld.CARD_CAP_TOKENS_FULL n) 1).putCap n
        { c with held := none, frame := none }).set Fld.CARD_CAP_STATUS_IN_FRAME n 0).capSync n
  t.doIf (!t.isSet Fld.CARD_CAP_CTRL_EN n) (fun u => u.capStop n)

/-- What a Frame Start packet makes of the frame before it: one without its Frame End is corrupt (R335), one whose decision
is still due is decided first (R336). -/
def State.capClose (s : State) (n : Nat) : State :=
  match (s.cap n).frame with
  | none => s
  | some f => match f.ended with
    | none => s.capDrop n f false
    | some e => s.capDecide n f e

/-- FRAME_START_PACKET (R334): the frame is stamped and takes a buffer, or NO_BUFFER is set, once the frame before it is
closed. -/
def execFrameStartPacket (stream vc csiFrame : Nat) (corrected : Bool) (s : State) :
    Host.Outcome State Fault Refusal :=
  .next (if !(s.cap stream).live then s
  else if vc ≠ s.get Fld.CARD_CAP_FMT_VC stream then s.raise Flg.CARD_CAP_EVT_PKT_DISCARDED stream
  else
    let u := s.capClose stream
    if !(u.cap stream).live then u else
    if !u.isSet Fld.CARD_CAP_CTRL_EN stream then u.capStop stream else
    let v := ((u.set Fld.CARD_CAP_SEQ_SEQ stream (u.get Fld.CARD_CAP_SEQ_SEQ stream + 1)).set
      Fld.CARD_CAP_LAST_START_TIME stream u.now).doIf corrected (fun w => w.raise Flg.CARD_CAP_EVT_HDR_CORRECTED stream)
    let f : Frame := ⟨u.now, vc, csiFrame, v.get Fld.CARD_CAP_SEQ_SEQ stream, corrected, false, 0, 0, none⟩
    let c := v.cap stream
    match c.held with
    | some _ => (v.putCap stream { c with frame := some f }).set Fld.CARD_CAP_STATUS_IN_FRAME stream 1
    | none =>
      let pool := v.get Fld.CARD_CAP_STATUS_POOL stream
      if pool = 0 then
        (v.putCap stream { c with frame := some f }).raise Flg.CARD_CAP_EVT_NO_BUFFER stream
      else
        (((v.set Fld.CARD_CAP_STATUS_POOL stream (pool - 1)).putCap stream
          { c with next := (c.next + 1) % v.get Fld.CARD_CAP_NBUF_NBUF stream, held := some c.next, frame := some f }).set
          Fld.CARD_CAP_STATUS_IN_FRAME stream 1).capSync stream)

/-- The bytes of a line (Table 11.1). -/
def lineBytes (dt : Nat) (pixels : List Nat) : List Byte :=
  (pixels.map (fun p => match dt with
    | 0x2A => leBytes 1 p
    | 0x2B => leBytes 2 (p % 1024)
    | 0x2C => leBytes 2 (p % 4096)
    | _ => leBytes 2 p)).flatten

/-- LINE_PACKET (R330, R332, R335): a line of the stream's VC and DT lands, another packet is discarded. -/
def execLinePacket (stream vc dt : Nat) (header : CsiHeader) (checksumOk : Bool) (pixels : List Nat) (s : State) :
    Host.Outcome State Fault Refusal :=
  .next (let c := s.cap stream
    if !c.live then s
    else if header ≠ .uncorrectable ∧ (vc ≠ s.get Fld.CARD_CAP_FMT_VC stream ∨ dt ≠ s.get Fld.CARD_CAP_FMT_DT stream) then
      s.raise Flg.CARD_CAP_EVT_PKT_DISCARDED stream
    else match c.frame with
    | none => s
    | some f =>
      if f.ended.isSome then s
      else if header = .uncorrectable then s.putCap stream { c with frame := some { f with corrupt := true } }
      else
        let bs := lineBytes dt pixels
        let p := ceilDiv bs.length 64 * 64
        let fits := decide (pixels.length ≤ 8192) &&
          decide (512 + f.lines * p + p ≤ s.get Fld.CARD_CAP_BUF_STRIDE_BYTES stream)
        let fixed := decide (header = .corrected)
        let t := s.doIf fixed (fun t => t.raise Flg.CARD_CAP_EVT_HDR_CORRECTED stream)
        let bad := { f with corrected := f.corrected || fixed, corrupt := f.corrupt || !checksumOk || !fits }
        match c.held with
        | none => t.putCap stream { c with frame := some bad }
        | some b =>
          if fits then
            (t.streamStore (t.get Fld.CARD_CAP_NBUF_JOB stream) (t.capBuffer stream b + 512 + f.lines * p) bs).putCap stream
              { c with frame := some { bad with lines := f.lines + 1, lineBytes := bs.length } }
          else t.putCap stream { c with frame := some bad })

/-- FRAME_END_PACKET (R336): END is stamped. -/
def execFrameEndPacket (stream vc : Nat) (corrected : Bool) (s : State) : Host.Outcome State Fault Refusal :=
  .next (let c := s.cap stream
    if !c.live then s
    else if vc ≠ s.get Fld.CARD_CAP_FMT_VC stream then s.raise Flg.CARD_CAP_EVT_PKT_DISCARDED stream
    else match c.frame with
    | none => s
    | some f =>
      if f.ended.isSome then s else
      (s.doIf corrected (fun t => t.raise Flg.CARD_CAP_EVT_HDR_CORRECTED stream)).putCap stream
        { c with frame := some { f with corrected := f.corrected || corrected, ended := some s.now } })

/-- PUBLICATION_DECISION (R335, R336): an ended frame is published, or dropped as corrupt or stale. -/
def execPublicationDecision (stream : Nat) (s : State) : Host.Outcome State Fault Refusal :=
  .next (match (s.cap stream).frame with
    | none => s
    | some f =>
      match f.ended with
      | none => s
      | some e => s.capDecide stream f e)

/-! ## The generator and the sample order -/

/-- One round of Philox-4×32 with keys k0 and k1 (R347). -/
def philoxRound (k0 k1 : Nat) (c : Nat × Nat × Nat × Nat) : Nat × Nat × Nat × Nat :=
  let (c0, c1, c2, c3) := c
  let p0 := 0xD2511F53 * c0
  let p1 := 0xCD9E8D57 * c2
  (Nat.xor (Nat.xor (p1 / 2 ^ 32) c1) k0, p1 % 2 ^ 32, Nat.xor (Nat.xor (p0 / 2 ^ 32) c3) k1, p0 % 2 ^ 32)

/-- Rounds of Philox, the key bumped between them. -/
def philoxFrom : Nat → Nat → Nat → Nat × Nat × Nat × Nat → Nat × Nat × Nat × Nat
  | 0, _, _, c => c
  | n + 1, k0, k1, c =>
    philoxFrom n ((k0 + 0x9E3779B9) % 2 ^ 32) ((k1 + 0xBB67AE85) % 2 ^ 32) (philoxRound k0 k1 c)

/-- Philox-4×32-10 of a 64-bit seed and a counter (R347). -/
def philox (seed : Nat) (c : Nat × Nat × Nat × Nat) : Nat × Nat × Nat × Nat :=
  philoxFrom 10 (seed % 2 ^ 32) (seed / 2 ^ 32) c

/-- The mixing step of one Feistel round (R345). -/
def feistelMix (v : Nat) : Nat :=
  let t := v * 0x85EBCA6B % 2 ^ 32
  let t := Nat.xor t (t / 2 ^ 13)
  let t := t * 0xC2B2AE35 % 2 ^ 32
  Nat.xor t (t / 2 ^ 16)

/-- The four rounds of R345 over 2h bits. -/
def feistel (h : Nat) (ks : List Nat) (y : Nat) : Nat :=
  let r := ks.foldl (fun (lr : Nat × Nat) k =>
    (lr.2, Nat.xor lr.1 (feistelMix ((lr.2 + k) % 2 ^ 32) % 2 ^ h))) (y / 2 ^ h, y % 2 ^ h)
  r.1 * 2 ^ h + r.2

/-- The cycle walk into 0 … n − 1, for at most `fuel` steps. -/
def feistelWalk (h n : Nat) (ks : List Nat) : Nat → Nat → Nat
  | 0, y => y
  | fuel + 1, y =>
    let z := feistel h ks y
    if z < n then z else feistelWalk h n ks fuel z

/-- The index that position p of epoch e reads with SHUFFLE set (R345). -/
def shuffled (seed epoch n p : Nat) : Nat :=
  let w := max 1 (if n ≤ 1 then 0 else Nat.log2 (n - 1) + 1)
  let h := ceilDiv w 2
  let k := philox seed (epoch, 0, 0, 1)
  feistelWalk h n [k.1, k.2.1, k.2.2.1, k.2.2.2] (2 ^ (2 * h)) p

/-! ## Images -/

/-- An image: width, height, channels, and element (x, y, c). -/
structure Raster where
  w : Nat
  h : Nat
  c : Nat
  px : Nat → Nat → Nat → Nat

/-- A coordinate clamped to 0 … n − 1. -/
def clampTo (n : Nat) (v : Int) : Nat := if v < 0 then 0 else min v.toNat (n - 1)

/-- The next level of a pyramid (R349). -/
def Raster.half (g : Raster) : Raster where
  w := (g.w + 1) / 2
  h := (g.h + 1) / 2
  c := g.c
  px := fun x y c =>
    let ks := [(1, -2), (4, -1), (6, 0), (4, 1), (1, 2)]
    divEven ((ks.map (fun (kj : Nat × Int) => (ks.map (fun (ki : Nat × Int) =>
      ki.1 * kj.1 * g.px (clampTo g.w (2 * (x : Int) + ki.2)) (clampTo g.h (2 * (y : Int) + kj.2)) c)).sum)).sum) 256

/-- Level l of a pyramid. -/
def Raster.level (g : Raster) : Nat → Raster
  | 0 => g
  | l + 1 => (g.level l).half

/-- A crop. -/
structure Crop where
  x0 : Nat
  y0 : Nat
  w : Nat
  h : Nat
  deriving DecidableEq, Repr

/-- The crop of R348 from the four words of the generator. -/
def cropOf (w h sminW sminH : Nat) (u : Nat × Nat × Nat × Nat) : Crop :=
  let sw := sminW + u.1 / 2 ^ 16 * (65536 - sminW) / 2 ^ 16
  let sh := sminH + u.2.1 / 2 ^ 16 * (65536 - sminH) / 2 ^ 16
  let cw := max 1 (w * sw / 2 ^ 16)
  let ch := max 1 (h * sh / 2 ^ 16)
  ⟨(w - cw + 1) * u.2.2.1 / 2 ^ 32, (h - ch + 1) * u.2.2.2 / 2 ^ 32, cw, ch⟩

/-- The source level of R350. -/
def sourceLevel (k : Crop) (ow oh : Nat) : Nat :=
  ((List.range 6).reverse.find? (fun l => decide (ow ≤ k.w / 2 ^ l) && decide (oh ≤ k.h / 2 ^ l))).getD 0

/-- Where an output coordinate falls in the source level: its integer part and its 8-bit weight (R350). -/
def resizeAt (start len out l x : Nat) : Int × Nat :=
  let step := divEven (len * 65536) (out * 2 ^ l)
  let sx : Int := (start * 65536 / 2 ^ l : Nat) + ((2 * x + 1) * step / 2 : Nat) - 32768
  (sx / 65536, (sx % 65536).toNat / 256)

/-- Crop and resize (R350). -/
def Raster.resize (g : Raster) (k : Crop) (ow oh : Nat) : Raster where
  w := ow
  h := oh
  c := g.c
  px := fun x y c =>
    let l := sourceLevel k ow oh
    let src := g.level l
    let sx := resizeAt k.x0 k.w ow l x
    let sy := resizeAt k.y0 k.h oh l y
    let at' (dx dy : Int) := src.px (clampTo src.w (sx.1 + dx)) (clampTo src.h (sy.1 + dy)) c
    divEven (at' 0 0 * (256 - sx.2) * (256 - sy.2) + at' 1 0 * sx.2 * (256 - sy.2) +
      at' 0 1 * (256 - sx.2) * sy.2 + at' 1 1 * sx.2 * sy.2) 65536

/-- The bytes of a level of a batch slot (R351). -/
def Raster.bytes (g : Raster) (elem : Nat) (pack : Bool) : List Byte :=
  ((List.range g.h).map (fun y => ((List.range g.w).map (fun x =>
    let e := ((List.range g.c).map (fun c => leBytes elem (g.px x y c))).flatten
    if pack then e else e ++ List.replicate (64 - e.length) 0)).flatten)).flatten

/-- Bytes that a level of w × h pixels takes. -/
def levelBytes (w h c elem : Nat) (pack : Bool) : Nat := w * h * (if pack then c * elem else 64)

/-- Offsets of `n` levels within a slot, each on a 512-byte boundary, and the bytes of all. -/
def levelOffsets (c elem : Nat) (pack : Bool) : Nat → Nat → Nat → Nat → List Nat × Nat
  | 0, _, _, off => ([], off)
  | n + 1, w, h, off =>
    let r := levelOffsets c elem pack n ((w + 1) / 2) ((h + 1) / 2)
      (off + ceilDiv (levelBytes w h c elem pack) 512 * 512)
    (off :: r.1, r.2)

/-! ## Dataset streams -/

/-- The fields of a dataset stream's registers that it takes at enable (R355). -/
def dsFields : List Field :=
  [Fld.CARD_DS_CTRL_PATH, Fld.CARD_DS_CTRL_SHUFFLE, Fld.CARD_DS_CTRL_AUG, Fld.CARD_DS_CTRL_EPOCH_AUG,
   Fld.CARD_DS_CTRL_ELEM16, Fld.CARD_DS_CTRL_RGB, Fld.CARD_DS_CTRL_PACK, Fld.CARD_DS_CTRL_OUT_C,
   Fld.CARD_DS_CTRL_LEVELS, Fld.CARD_DS_CTRL_LOG_LOG2, Fld.CARD_DS_OUT_OUT_W, Fld.CARD_DS_OUT_OUT_H,
   Fld.CARD_DS_AUG_SMIN_W, Fld.CARD_DS_AUG_SMIN_H, Fld.CARD_DS_LIMITS_RATIO_MAX, Fld.CARD_DS_LIMITS_MAX_DIM,
   Fld.CARD_DS_TABLE_BASE_BASE, Fld.CARD_DS_N_N, Fld.CARD_DS_SEED_SEED, Fld.CARD_DS_BUDGET_MULT,
   Fld.CARD_DS_BUDGET_MIN_BEATS, Fld.CARD_DS_BATCH_NBUF, Fld.CARD_DS_BATCH_BATCH, Fld.CARD_DS_TOKENS_FULL,
   Fld.CARD_DS_BUF_BASE_BASE, Fld.CARD_DS_BUF_STRIDE_BYTES, Fld.CARD_DS_SLOT_STRIDE_BYTES,
   Fld.CARD_DS_LOG_BASE_BASE]

/-- Whether a bit of a dataset stream's registers was set at enable. -/
def State.dsIs (s : State) (f : Field) (d : Nat) : Bool := s.dsGet f d == 1

/-- N as it bounds the positions now: the live path follows the register (R346). -/
def State.dsN (s : State) (d : Nat) : Nat :=
  if s.dsIs Fld.CARD_DS_CTRL_PATH d then s.get Fld.CARD_DS_N_N d else s.dsGet Fld.CARD_DS_N_N d

/-- Bytes of an output element. -/
def State.dsElem (s : State) (d : Nat) : Nat := if s.dsIs Fld.CARD_DS_CTRL_ELEM16 d then 2 else 1

/-- Bytes that a slot needs. -/
def State.dsSlotBytes (s : State) (d : Nat) : Nat :=
  (levelOffsets (s.dsGet Fld.CARD_DS_CTRL_OUT_C d) (s.dsElem d) (s.dsIs Fld.CARD_DS_CTRL_PACK d)
    (s.dsGet Fld.CARD_DS_CTRL_LEVELS d) (s.dsGet Fld.CARD_DS_OUT_OUT_W d) (s.dsGet Fld.CARD_DS_OUT_OUT_H d) 0).2

/-- DS_ENABLE (R351, R352, R356, R358): a stream starts at position 0, or CFG_REFUSED is set. -/
def execDsEnable (stream : Nat) (s : State) : Host.Outcome State Fault Refusal :=
  .next (s.host fun s => if s.isSet Fld.CARD_DS_CTRL_EN stream then s else
    let g (f : Field) := s.get f stream
    let job := g Fld.CARD_DS_CTRL_JOB
    let free := g Fld.CARD_DS_TOKENS_FREE
    let inR (v lo hi : Nat) := decide (lo ≤ v) && decide (v ≤ hi)
    let ok := s.streamTokens job free (g Fld.CARD_DS_TOKENS_FULL) (g Fld.CARD_DS_BATCH_NBUF) &&
      inR (g Fld.CARD_DS_BATCH_NBUF) 1 32 && inR (g Fld.CARD_DS_BATCH_BATCH) 1 64 &&
      inR (g Fld.CARD_DS_N_N) 1 (2 ^ 31) && inR (g Fld.CARD_DS_CTRL_LEVELS) 1 6 &&
      (g Fld.CARD_DS_CTRL_OUT_C == 1 || g Fld.CARD_DS_CTRL_OUT_C == 3) &&
      (g Fld.CARD_DS_CTRL_PATH == 0 || g Fld.CARD_DS_CTRL_SHUFFLE == 0) &&
      decide (s.dsSlotBytes stream ≤ g Fld.CARD_DS_SLOT_STRIDE_BYTES) &&
      decide (512 + (g Fld.CARD_DS_BATCH_BATCH - 1) * g Fld.CARD_DS_SLOT_STRIDE_BYTES + s.dsSlotBytes stream ≤
        g Fld.CARD_DS_BUF_STRIDE_BYTES)
    if ok then
      let t := ((((s.set Fld.CARD_DS_CTRL_EN stream 1).set Fld.CARD_DS_POS_POS stream 0).set
        Fld.CARD_DS_MEAN_MEAN stream 0).set Fld.CARD_DS_LOG_WR_WR stream 0).set Fld.CARD_DS_STATUS_POOL stream 0
      (((t.putDs stream { DsStream.reset with
        live := true, epoch := g Fld.CARD_DS_EPOCH_EPOCH, regs := dsFields.map (fun f => (f.code, g f)) }).dsSync
          stream).register free (.ds stream)).settle
    else s.raise Flg.CARD_DS_EVT_CFG_REFUSED stream)

/-- A dataset stream stops. -/
def State.dsStop (s : State) (d : Nat) : State :=
  ((s.putDs d { s.ds d with live := false, stopping := false, batch := none, samples := [], regs := [] }).dsSync d).withdraw (.ds d)

/-- DS_DISABLE (R356): the batch being filled finishes first. -/
def execDsDisable (stream : Nat) (s : State) : Host.Outcome State Fault Refusal :=
  .next (s.host fun s => let t := s.set Fld.CARD_DS_CTRL_EN stream 0
    let x := s.ds stream
    if x.batch.isSome then t.putDs stream { x with stopping := true } else t.dsStop stream)

/-- A sample table entry (Table 11.3): address, length and kind. -/
def State.dsEntry (s : State) (d index : Nat) : Nat × Nat × Nat :=
  let a := Mem.lpddr (16 * s.dsGet Fld.CARD_DS_TABLE_BASE_BASE d + 16 * index)
  (s.loadNat a 8, s.loadNat (a + 8) 4, s.loadNat (a + 12) 1)

/-- Width, height and element bytes of a sample's header, or the status of the check that fails (Table 11.5). -/
def State.dsHeader (s : State) (d index : Nat) : Nat × Nat × Nat × Nat :=
  let (addr, len, kind) := s.dsEntry d index
  let outC := s.dsGet Fld.CARD_DS_CTRL_OUT_C d
  let maxDim := s.dsGet Fld.CARD_DS_LIMITS_MAX_DIM d
  let wide := s.dsIs Fld.CARD_DS_CTRL_ELEM16 d
  let dims (w h : Nat) := decide (1 ≤ w) && decide (w ≤ maxDim) && decide (1 ≤ h) && decide (h ≤ maxDim)
  if kind = 0 then
    match imageFrame (s.load (Mem.lpddr addr) len) with
    | none => (0, 0, 0, 0x0805)
    | some f =>
      if !dims f.x f.y then (f.x, f.y, 0, 0x0801)
      else if s.dsGet Fld.CARD_DS_LIMITS_RATIO_MAX d * len < f.x * f.y then (f.x, f.y, 0, 0x0801)
      else (f.x, f.y, if f.prec = 12 then 2 else 1, 0)
  else if kind = 1 then
    let b (i n : Nat) := s.loadNat (Mem.lpddr (addr + i)) n
    let e := b 2 1 + 1
    let w := b 8 4
    let h := b 4 4
    if b 0 2 ≠ 0x5453 ∨ 1 < b 2 1 ∨ b 3 1 ≠ outC ∨ (e = 2 ∧ !wide) then (w, h, e, 0x0805)
    else if !dims w h then (w, h, e, 0x0801)
    else if 16 + w * h * outC * e ≠ len then (w, h, e, 0x0801)
    else (w, h, e, 0)
  else (0, 0, 0, 0x0805)

/-- SMIN as a Q0.16 fraction: 0 means 65,536. -/
def smin (v : Nat) : Nat := if v = 0 then 65536 else v

/-- The crop of a sample (R347, R348). -/
def State.dsCrop (s : State) (d epoch index w h : Nat) : Crop :=
  if s.dsIs Fld.CARD_DS_CTRL_AUG d then
    cropOf w h (smin (s.dsGet Fld.CARD_DS_AUG_SMIN_W d)) (smin (s.dsGet Fld.CARD_DS_AUG_SMIN_H d))
      (philox (s.dsGet Fld.CARD_DS_SEED_SEED d)
        (index, if s.dsIs Fld.CARD_DS_CTRL_EPOCH_AUG d then epoch else 0, 0, 0))
  else ⟨0, 0, w, h⟩

/-- Columns or lines of a level that a lower level's columns or lines `a` to `b` are filtered from (R349). -/
def filterSpan (size a b : Nat) : Nat × Nat := (2 * a - 2, min (2 * b + 2) (size - 1))

/-- The bytes of the largest of the levels 1 to n over a crop and its filter margin (R350), where level n is needed from
columns and lines `x.1`, `y.1` to `x.2`, `y.2`. -/
def levelsOver (w h bytes : Nat) : Nat → Nat × Nat → Nat × Nat → Nat
  | 0, _, _ => 0
  | n + 1, x, y =>
    let size (v : Nat) := ceilDiv v (2 ^ n)
    max (bytes * (x.2 + 1 - x.1) * (y.2 + 1 - y.1))
      (levelsOver w h bytes n (filterSpan (size w) x.1 x.2) (filterSpan (size h) y.1 y.2))

/-- The columns of level l that a resize of a crop reads, or the lines (R350). -/
def resizeSpan (size start len out l : Nat) : Nat × Nat :=
  let n := ceilDiv size (2 ^ l)
  (clampTo n (resizeAt start len out l 0).1, clampTo n ((resizeAt start len out l (out - 1)).1 + 1))

/-- Check 5 of Table 11.5: each level that is built for a crop fits the 1 MiB working area of a pipeline, with its filter
margin.  DEDUCED from the worked example of R350, whose levels do so at every OUT_C. -/
def pyramidOk (w h bytes ow oh l : Nat) (k : Crop) : Bool :=
  decide (levelsOver w h bytes l (resizeSpan w k.x0 k.w ow l) (resizeSpan h k.y0 k.h oh l) ≤ 1024 * 1024)

/-- Every check of Table 11.5, check 5 last. -/
def State.dsChecks (s : State) (d epoch index : Nat) : Nat :=
  let (w, h, e, st) := s.dsHeader d index
  if st ≠ 0 then st else
  let k := s.dsCrop d epoch index w h
  let ow := s.dsGet Fld.CARD_DS_OUT_OUT_W d
  let oh := s.dsGet Fld.CARD_DS_OUT_OUT_H d
  if pyramidOk w h (e * s.dsGet Fld.CARD_DS_CTRL_OUT_C d) ow oh (sourceLevel k ow oh) k then 0 else 0x0801

/-- The decoder takes an image: its syntax is right and its process is one that it decodes, its components are the stream's,
and its precision fits the stream's elements (R339). -/
def State.jpegOk (s : State) (d : Nat) (bs : List Byte) : Bool :=
  match imageFrame bs with
  | some f => f.comps.length == s.dsGet Fld.CARD_DS_CTRL_OUT_C d &&
      (f.prec != 12 || s.dsIs Fld.CARD_DS_CTRL_ELEM16 d) && (imageDecode bs).isSome
  | none => false

/-- Component c of the red, green and blue of a luma–chroma pixel of `prec` bits (R339): the equations of ITU-T
T.871 with coefficients in Q2.14, each sum rounded once to nearest even and saturated. -/
def rgbElem (prec y cb cr c : Nat) : Nat :=
  let half : Int := (2 ^ (prec - 1) : Nat)
  let b : Int := (cb : Int) - half
  let r : Int := (cr : Int) - half
  let colour : Int := match c with
    | 0 => 22970 * r
    | 1 => -5638 * b - 11700 * r
    | _ => 29032 * b
  let v := (rshiftRound ((y : Int) * 16384 + colour) 14 true).1
  (max 0 (min v ((2 ^ prec : Nat) - 1))).toNat

/-- Element c of pixel (x, y) of a decoded image, converted with RGB set where it has three components (R339). -/
def State.jpegPixel (s : State) (d : Nat) (t : JpegState) (x y c : Nat) : Nat :=
  match t.frame with
  | some f =>
    if f.comps.length = 3 ∧ s.dsIs Fld.CARD_DS_CTRL_RGB d then rgbElem f.prec (t.elem x y 0) (t.elem x y 1) (t.elem x y 2) c
    else t.elem x y c
  | none => 0

/-- The decoded sample. -/
def State.dsImage (s : State) (d index : Nat) : Raster :=
  let (addr, len, kind) := s.dsEntry d index
  let (w, h, e, _) := s.dsHeader d index
  let c := s.dsGet Fld.CARD_DS_CTRL_OUT_C d
  if kind = 0 then
    match imageDecode (s.load (Mem.lpddr addr) len) with
    | some t => ⟨w, h, c, s.jpegPixel d t⟩
    | none => ⟨w, h, c, fun _ _ _ => 0⟩
  else ⟨w, h, c, fun x y ch => s.loadNat (Mem.lpddr (addr + 16 + ((y * w + x) * c + ch) * e)) e⟩

/-- A failed sample: its skip-log record, its flag and LAST_STATUS (R344, R354). -/
def State.dsFail (s : State) (d : Nat) (x : Sample) (beats status : Nat) : State :=
  let wr := s.get Fld.CARD_DS_LOG_WR_WR d
  let a := 32 * s.dsGet Fld.CARD_DS_LOG_BASE_BASE d + 32 * (wr % 2 ^ s.dsGet Fld.CARD_DS_CTRL_LOG_LOG2 d)
  let t := s.streamStore (s.get Fld.CARD_DS_CTRL_JOB d) a
    (leBytes 4 x.epoch ++ leBytes 4 x.pos ++ leBytes 4 x.index ++ leBytes 2 status ++
     leBytes 2 0 ++ leBytes 4 beats ++ leBytes 4 (x.budget.getD 0) ++ leBytes 8 s.now)
  ((t.set Fld.CARD_DS_LOG_WR_WR d (wr + 1)).set Fld.CARD_DS_STATUS_LAST_STATUS d status).raise
    (if status = 0x0801 then Flg.CARD_DS_EVT_DIM else if status = 0x0802 then Flg.CARD_DS_EVT_BUDGET
     else Flg.CARD_DS_EVT_CORRUPT) d

/-- The number of the carding pipelines among the units that count beats (R35). -/
def cardingUnit : Nat := 395

/-- A sample's beats count with the hub engines', and its table entry and, once its header has passed, its bytes with the LPDDR
reads; both are charged to the client of the stream's job (R420). -/
def State.dsCharge (s : State) (d : Nat) (v : Sample) (beats : Nat) : State :=
  let row := s.get Fld.RING_JOB_CLIENT (s.get Fld.CARD_DS_CTRL_JOB d)
  ((s.chargeBeats row 5 beats).countBeats cardingUnit beats).accum Fld.HEDDLE_ACCT_BYTES_LPDDR_RD_COUNT row
    (16 + (if s.dsChecks d v.epoch v.index = 0 then (s.dsEntry d v.index).2.1 else 0))

/-- A sample ends with its beats and status. -/
def State.dsEnd (s : State) (d serial beats status : Nat) : State :=
  let x := s.ds d
  let t := match x.samples.find? (fun v => v.serial == serial) with
    | some v => (s.dsCharge d v beats).doIf (status != 0) (fun t => t.dsFail d v beats status)
    | none => s
  t.putDs d { x with samples := x.samples.map (fun v =>
    if v.serial = serial then { v with ended := some (beats, status) } else v) }

/-- Address of slot k of batch buffer b. -/
def State.dsSlot (s : State) (d b k : Nat) : Nat :=
  512 * s.dsGet Fld.CARD_DS_BUF_BASE_BASE d + b * s.dsGet Fld.CARD_DS_BUF_STRIDE_BYTES d + 512 +
    k * s.dsGet Fld.CARD_DS_SLOT_STRIDE_BYTES d

/-- Writes a sample's output levels into a slot (R349 to R351). -/
def State.dsWrite (s : State) (d b k : Nat) (x : Sample) : State :=
  let g := s.dsImage d x.index
  let ow := s.dsGet Fld.CARD_DS_OUT_OUT_W d
  let oh := s.dsGet Fld.CARD_DS_OUT_OUT_H d
  let out := g.resize (s.dsCrop d x.epoch x.index g.w g.h) ow oh
  let pack := s.dsIs Fld.CARD_DS_CTRL_PACK d
  let n := s.dsGet Fld.CARD_DS_CTRL_LEVELS d
  let offs := (levelOffsets g.c (s.dsElem d) pack n ow oh 0).1
  s.forEach (List.zip (List.range n) offs) (fun t lo =>
    t.streamStore (s.get Fld.CARD_DS_CTRL_JOB d) (s.dsSlot d b k + lo.2) ((out.level lo.1).bytes (s.dsElem d) pack))

/-- The mean after a sample that completed in `beats` (R343). -/
def dsMean (first : Bool) (m beats : Nat) : Nat :=
  if first then beats * 256 % 2 ^ 32
  else (((m : Int) + ((beats * 256 : Nat) - (m : Int)) / 64) % (2 ^ 32 : Nat)).toNat

/-- The stream has a buffer for the next slot, taking one from its pool where it needs one (R352). -/
def State.dsBuffer (s : State) (d : Nat) (first : Sample) : Option (State × Batch) :=
  let x := s.ds d
  match x.batch with
  | some b => if b.full then none else some (s, b)
  | none =>
    let pool := s.get Fld.CARD_DS_STATUS_POOL d
    if pool = 0 ∨ x.stopping then none else
    let b : Batch := ⟨x.next, first.pos, first.epoch, [], false⟩
    some (((s.set Fld.CARD_DS_STATUS_POOL d (pool - 1)).putDs d
      { x with next := (x.next + 1) % s.dsGet Fld.CARD_DS_BATCH_NBUF d, batch := some b }).dsSync d, b)

/-- The position is the last of its epoch on the training path: EPOCH advances, and a batch with slots is
complete (R346). -/
def State.dsEpoch (s : State) (d pos : Nat) : State :=
  if s.dsIs Fld.CARD_DS_CTRL_PATH d || pos + 1 != s.dsGet Fld.CARD_DS_N_N d then s
  else
    let x := s.ds d
    let t := s.putDs d { x with batch := x.batch.map (fun b => { b with full := true }), epoch := (x.epoch + 1) % 2 ^ 32 }
    ((t.set Fld.CARD_DS_EPOCH_EPOCH d (t.get Fld.CARD_DS_EPOCH_EPOCH d + 1)).set Fld.CARD_DS_POS_POS d 0).raise
      Flg.CARD_DS_EVT_EPOCH_END d

/-- The next position in order has been taken: the mean after it is kept. -/
def State.dsTaken (s : State) (d : Nat) (v : Sample) (m : Nat) : State :=
  let x := s.ds d
  let y := { x with
    samples := x.samples.filter (fun u => u.serial != v.serial)
    taken := x.taken + 1
    means := (m :: x.means).take 17 }
  ((s.putDs d y).set Fld.CARD_DS_MEAN_MEAN d m).dsEpoch d v.pos

/-- Puts a taken sample into the batch's next slot, its data only when it succeeded. -/
def State.dsPlace (s : State) (d : Nat) (b : Batch) (v : Sample) (status : Nat) : State :=
  let t := s.doIf (status == 0) (fun t => t.dsWrite d b.buffer b.slots.length v)
  let c := { b with slots := b.slots ++ [(v.index, status)],
                    full := decide (s.dsGet Fld.CARD_DS_BATCH_BATCH d ≤ b.slots.length + 1) }
  t.putDs d { t.ds d with batch := some c }

/-- Whether a sample has ever completed since enable: MEAN is not 0, or the beats were. -/
def DsStream.first (x : DsStream) : Bool := x.means.all (fun m => m == 0)

/-- Takes ended samples in ascending position order while it can (R343, R352). -/
def State.dsFold (s : State) (d : Nat) : Nat → State
  | 0 => s
  | fuel + 1 =>
    let x := s.ds d
    match x.samples.find? (fun v => v.serial == x.taken) with
    | none => s
    | some v =>
      match v.ended with
      | none => s
      | some (beats, status) =>
        let m := s.get Fld.CARD_DS_MEAN_MEAN d
        if status ≠ 0 ∧ !s.dsIs Fld.CARD_DS_CTRL_PATH d then (s.dsTaken d v m).dsFold d fuel
        else
          match s.dsBuffer d v with
          | none => s
          | some (t, b) =>
            ((t.dsPlace d b v status).dsTaken d v (if status = 0 then dsMean x.first m beats else m)).dsFold d fuel

/-- Takes what can be taken. -/
def State.dsAdvance (s : State) (d : Nat) : State := s.dsFold d 17

/-- The budget of a sample (R343); none where MULT disables it. -/
def State.dsBudget (s : State) (d serial : Nat) : Option Nat :=
  let mult := s.dsGet Fld.CARD_DS_BUDGET_MULT d
  if mult = 0 then none else
  let x := s.ds d
  let m := if serial < 16 then 0 else x.means.getD (x.taken + 15 - serial) 0
  some (max (s.dsGet Fld.CARD_DS_BUDGET_MIN_BEATS d) (mult * m / 256))

/-- The beats of the header checks (Table 11.7). -/
def headerBeats : Nat := 64

/-- The beats that a sample spends: those of its header, and more that depend on its bytes and on the stream's settings
(R342) where its header passes. -/
def State.dsBeats (s : State) (d : Nat) (v : Sample) : Nat :=
  if s.dsChecks d v.epoch v.index = 0 then
    let (addr, len, _) := s.dsEntry d v.index
    headerBeats + (Config.sampleBeats (s.load (Mem.lpddr addr) len) ((s.ds d).regs.map Prod.snd)).toNat
  else headerBeats

/-- Whether a sample's beats reach its budget before it has ended (R344). -/
def State.dsOver (s : State) (d : Nat) (v : Sample) : Bool :=
  match v.budget with
  | some b => decide (b ≤ s.dsBeats d v)
  | none => false

/-- Samples in the four pipelines. -/
def State.dsBusy (s : State) : Nat := ((s.datasets.map (fun p => (p.2.samples.filter (fun v => v.ended.isNone)).length)).sum)

/-- DS_SAMPLE_START (R341, R343, R345): a free pipeline starts the next position, which the command names; a sample
whose header fails ends at once, unless its budget ends it first. -/
def execDsSampleStart (stream position : Nat) (s : State) : Host.Outcome State Fault Refusal :=
  .next (let t := s.dsAdvance stream
    let x := t.ds stream
    let p := t.get Fld.CARD_DS_POS_POS stream
    let n := t.dsN stream
    if x.live && position == p && decide (p < n) && decide (x.started < x.taken + 16) && decide (t.dsBusy < 4) then
      let index := if t.dsIs Fld.CARD_DS_CTRL_SHUFFLE stream then
        shuffled (t.dsGet Fld.CARD_DS_SEED_SEED stream) x.epoch n p else p
      let v : Sample := ⟨x.started, p, x.epoch, index, t.dsBudget stream x.started, none⟩
      let u := (t.putDs stream { x with samples := x.samples ++ [v], started := x.started + 1 }).set
        Fld.CARD_DS_POS_POS stream (p + 1)
      let st := u.dsChecks stream x.epoch index
      if st = 0 ∨ u.dsOver stream v = true then u else (u.dsEnd stream v.serial headerBeats st).dsAdvance stream
    else t)

/-- The first sample of a position in a pipeline that a test picks. -/
def State.dsRunning (s : State) (d pos : Nat) (p : Sample → Bool) : Option Sample :=
  (s.ds d).samples.find? (fun v => v.pos == pos && v.ended.isNone && p v)

/-- DS_SAMPLE_END (R339, R343): the sample of a position and an epoch completes within its budget, or fails in decoding. -/
def execDsSampleEnd (stream position epoch : Nat) (s : State) : Host.Outcome State Fault Refusal :=
  .next (match s.dsRunning stream position (fun v => v.epoch == epoch) with
    | none => s
    | some v =>
      if s.dsOver stream v then s else
      let (addr, len, kind) := s.dsEntry stream v.index
      let bad := decide (kind = 0) && !s.jpegOk stream (s.load (Mem.lpddr addr) len)
      (s.dsEnd stream v.serial (s.dsBeats stream v) (if bad then 0x0805 else 0)).dsAdvance stream)

/-- DECODE_BUDGET (R344): the sample's beats reach its budget. -/
def execDecodeBudget (stream position : Nat) (s : State) : Host.Outcome State Fault Refusal :=
  .next (match s.dsRunning stream position (s.dsOver stream) with
    | none => s
    | some v => (s.dsEnd stream v.serial (v.budget.getD 0) 0x0802).dsAdvance stream)

/-- `n` entries of `w` bytes from a list, the missing ones 0. -/
def tableBytes (w n : Nat) (l : List Nat) : List Byte := ((List.range n).map (fun i => leBytes w (l.getD i 0))).flatten

/-- BATCH_PUBLISH (R352): a full batch gets its header and FULL is signalled. -/
def execBatchPublish (stream : Nat) (s : State) : Host.Outcome State Fault Refusal :=
  .next (let x := s.ds stream
    match x.batch with
    | none => s.dsAdvance stream
    | some b =>
      if !b.full then s.dsAdvance stream else
      let a := 512 * s.dsGet Fld.CARD_DS_BUF_BASE_BASE stream + b.buffer * s.dsGet Fld.CARD_DS_BUF_STRIDE_BYTES stream
      let t := s.streamStore (s.get Fld.CARD_DS_CTRL_JOB stream) a
        (leBytes 4 (x.published + 1) ++ leBytes 4 b.epoch ++ leBytes 4 b.firstPos ++ leBytes 1 b.slots.length ++
         leBytes 1 stream ++ leBytes 2 0 ++ leBytes 8 s.now ++ List.replicate 40 0 ++
         tableBytes 4 64 (b.slots.map Prod.fst) ++ tableBytes 2 64 (b.slots.map Prod.snd) ++ List.replicate 64 0)
      let u := (t.putDs stream { x with batch := none, published := x.published + 1 }).dsSync stream
      let v := u.signal (s.dsGet Fld.CARD_DS_TOKENS_FULL stream) 1
      if x.stopping then v.dsStop stream else v.dsAdvance stream)

end Sys2Proof.Machine
end

