-- ==== Sys2Proof/Machine/Rings.lean ====
section
/-! DEFINITION. The Larhelen rings (chapter 12): doorbells, fetch and admission, completion records, interrupts, enable,
disable and function-level reset. -/

namespace Sys2Proof.Machine

/-! ## Ring geometry (R364) -/

/-- Entries of a submission ring. -/
def State.sqSize (s : State) (c q : Nat) : Nat := 2 ^ s.get Fld.RING_SQ_CFG_LOG2_SIZE (ix c q)
/-- Entries of a completion ring. -/
def State.cqSize (s : State) (c q : Nat) : Nat := 2 ^ s.get Fld.RING_CQ_CFG_LOG2_SIZE (ix c q)

/-- (a − b) modulo a ring's size. -/
def ringGap (size a b : Nat) : Nat := (a + size - b % size) % size

/-- Whether a function is enabled and a ring's index exists (R360, R364). -/
def State.ringExists (s : State) (c q : Nat) : Bool := decide (c < 16) && decide (q < 64) && s.rings.functions / 2 ^ c % 2 == 1

/-! ## Doorbells (R367 to R370) -/

/-- An invalid doorbell is discarded and captured (R370). -/
def State.doorbellInvalid (s : State) (c ring value : Nat) : State :=
  let cap (t : State) : State := (t.set Fld.RING_DB_CAP_RING c ring).set Fld.RING_DB_CAP_VALUE c value
  (s.doIf (!s.isSet Fld.RING_EVT_DB_INVALID c) cap).raise Flg.RING_EVT_DB_INVALID c

/-- Whether an SQ doorbell is valid (R368). -/
def State.sqDoorbellOk (s : State) (c q value : Nat) : Bool :=
  let i := ix c q
  let size := s.sqSize c q
  let head := s.get Fld.RING_SQ_HEAD_HEAD i
  let tail := s.get Fld.RING_SQ_TAIL_TAIL i
  s.isSet Fld.RING_SQ_CFG_EN i && decide (value < size) &&
  decide (ringGap size value tail + ringGap size tail head ≤ size - 1)

/-- Whether a CQ doorbell is valid (R369). -/
def State.cqDoorbellOk (s : State) (c q value : Nat) : Bool :=
  let i := ix c q
  let size := s.cqSize c q
  let head := s.get Fld.RING_CQ_HEAD_HEAD i
  let tail := s.get Fld.RING_CQ_TAIL_TAIL i
  s.isSet Fld.RING_CQ_CFG_EN i && decide (value < size) && decide (ringGap size value head ≤ ringGap size tail head)

/-- A write of a doorbell page: only a 32-bit write at offset 0 is a doorbell (R367). -/
def State.doorbell (s : State) (c q offset size : Nat) (f : State → State) : State :=
  s.host fun s => if offset = 0 ∧ size = 4 ∧ s.ringExists c q then f s else s

/-- SQ_DOORBELL (R368). -/
def execSqDoorbell (client sq offset size value : Nat) (s : State) : Host.Outcome State Fault Refusal :=
  .next (s.doorbell client sq offset size fun s =>
    if s.sqDoorbellOk client sq value then s.set Fld.RING_SQ_TAIL_TAIL (ix client sq) value
    else s.doorbellInvalid client sq value)

/-- CQ_DOORBELL (R369). -/
def execCqDoorbell (client cq offset size value : Nat) (s : State) : Host.Outcome State Fault Refusal :=
  .next (s.doorbell client cq offset size fun s =>
    if s.cqDoorbellOk client cq value then s.set Fld.RING_CQ_HEAD_HEAD (ix client cq) value
    else s.doorbellInvalid client (64 + cq) value)

/-! ## Fetch (R371, R372) -/

/-- Whether a command holds a completion place of a client (R372). -/
def Cmd.placeOf (c : Cmd) (client : Nat) : Bool :=
  match c.origin with
  | .host k _ _ => k == client && !c.orphan
  | _ => false

/-- Completion places that a client holds. -/
def State.placesUsed (s : State) (client : Nat) : Nat :=
  (s.cmds.filter (fun c => c.placeOf client)).length + (s.rings.records.filter (fun r => r.client == client)).length

/-- Whether the ring engine fetches at all (R29, R371, R417). -/
def State.fetching (s : State) : Bool :=
  (decide (s.dev = .run) && !s.isSet Fld.HEDDLE_STATUS_ABORTING 0 && !s.heddle.standbyReq) ||
  (decide (s.dev = .recovery) && !s.romService)

/-- Whether a ring has a descriptor to fetch. -/
def State.hasDescriptor (s : State) (c q : Nat) : Bool :=
  s.ringExists c q && s.isSet Fld.RING_SQ_CFG_EN (ix c q) &&
  s.get Fld.RING_SQ_HEAD_HEAD (ix c q) != s.get Fld.RING_SQ_TAIL_TAIL (ix c q)

/-- The ring of a client whose turn it is: the next one in index order that has a descriptor. -/
def State.nextRing (s : State) (c : Nat) : Option Nat :=
  if s.placesUsed c < Config.places then
    ((List.range 64).map (fun i => (Sparse.get 63 s.rings.turnRing c + 1 + i) % 64)).find? (s.hasDescriptor c)
  else none

/-- The client and ring that the next fetch takes, and the count of that client's turn: up to eight descriptors a turn. -/
def State.nextFetch (s : State) : Option (Nat × Nat × Nat) :=
  let c := s.rings.turnClient
  match (if s.rings.turnCount < 8 then s.nextRing c else none) with
  | some q => some (c, q, s.rings.turnCount + 1)
  | none => ((List.range 16).map (fun i => (c + 1 + i) % 16)).findSome? (fun d => match s.nextRing d with
    | some q => some (d, q, 1)
    | none => none)

/-! ## Admission (R373) -/

/-- Whether check 3 of Table 12.4 holds, and the ring's home skein is in service (R419). -/
def State.headerOk (s : State) (c q : Nat) (d : List Byte) : Bool :=
  let job := fieldOf d 2 1
  fieldOf d 3 1 == q && s.isSet Fld.RING_JOB_VALID job && s.get Fld.RING_JOB_CLIENT job == c &&
  fieldOf d 1 1 / 4 == 0 && fieldOf d 10 6 == 0 && s.live (s.get Fld.RING_SQ_CFG_HOME_SKEIN (ix c q))

/-- Whether check 4 of Table 12.4 holds (R54, R92). -/
def State.tokensOk (s : State) (d : List Byte) : Bool :=
  let job := fieldOf d 2 1
  s.mayWait job (fieldOf d 6 2) && s.ownsToken job (fieldOf d 8 2) &&
  decide (fieldOf d 16 8 ≤ s.now + s.get Fld.WHORL_HORIZON_TICKS 0)

/-- The checks of Table 12.4 in order, and that of R510 with those of the payload; check 2 cannot fail while only version 1 is defined (R383). -/
def State.admitCheck (s : State) (c q : Nat) (d : List Byte) : Option Nat :=
  if fieldOf d 0 1 = 0 ∨ 0x0E < fieldOf d 0 1 then some 0x0101
  else if !s.headerOk c q d then some 0x0102
  else if !s.tokensOk d then some 0x0102
  else if fieldOf d 1 1 / 2 % 2 = 1 ∧ s.get Fld.HEDDLE_DETJ_REC_BASE_BASE (fieldOf d 2 1) = 0 then some 0x0102
  else payloadCheck s (fieldOf d 2 1) (fieldOf d 4 2) d

/-- A descriptor that runs nothing gets its record at once. -/
def State.recordOnly (s : State) (c q seq status : Nat) (d : List Byte) : State :=
  let r : Record := ⟨c, q, s.get Fld.RING_SQ_CFG_CQ (ix c q), fieldOf d 1 1 % 2 == 1, status, fieldOf d 2 1,
    fieldOf d 0 1, fieldOf d 4 2, seq, s.now, 0, false⟩
  { s with rings := { s.rings with records := s.rings.records ++ [r] } }

/-- The commands that a FENCE waits for: those of its scope admitted before it that have not completed (R98). -/
def State.fenceScope (s : State) (c q : Nat) (d : List Byte) : List Nat :=
  (s.cmds.filter (fun x => match x.origin with
    | .host cc cq _ => cc == c && (if fieldOf d 24 1 = 0 then cq == q else x.job == fieldOf d 2 1)
    | _ => false)).map Cmd.uid

/-- An accepted descriptor is admitted (R373). -/
def State.admitDescriptor (s : State) (c q seq : Nat) (d : List Byte) : State :=
  let home := destination (s.get Fld.RING_SQ_CFG_HOME_SKEIN (ix c q)) (s.get Fld.RING_SQ_CFG_DSEL (ix c q)) d
  let x := s.newCmd (.host c q seq) (fieldOf d 2 1) d home none
  (s.addCmd { x with awaits := if fieldOf d 0 1 = 0x0D then s.fenceScope c q d else [] }).fillQueues

/-- What becomes of a fetched descriptor (R28, R373, R374). -/
def State.judge (s : State) (c q seq : Nat) (d : List Byte) : State :=
  if s.dev = .recovery then s.recordOnly c q seq s.aon.causeStatus d else
  match s.admitCheck c q d with
  | some st => (s.raise Flg.RING_EVT_ADMIT_REJECT c).recordOnly c q seq st d
  | none => s.admitDescriptor c q seq d

/-- A descriptor is fetched: HEAD and SEQ advance (R371). -/
def State.fetch (s : State) (c q : Nat) : State :=
  let i := ix c q
  let head := s.get Fld.RING_SQ_HEAD_HEAD i
  let seq := s.get Fld.RING_SQ_SEQ_SEQ i
  let d := s.load (Mem.host ((64 * s.get Fld.RING_SQ_BASE_BASE i + 64 * head) % 2 ^ 64)) 64
  ((s.set Fld.RING_SQ_HEAD_HEAD i ((head + 1) % s.sqSize c q)).set Fld.RING_SQ_SEQ_SEQ i (seq + 1)).judge c q seq d

/-- DESCRIPTOR_FETCH (R371); a read that fails on PCIe disables the ring with no record. -/
def execDescriptorFetch (readFails : Bool) (s : State) : Host.Outcome State Fault Refusal :=
  .next (if !s.fetching then s else
    match s.nextFetch with
    | none => s
    | some (c, q, n) =>
      let t := { s with rings := { s.rings with
        turnClient := c, turnCount := n, turnRing := Sparse.insert s.rings.turnRing c q } }
      if readFails then (t.set Fld.RING_SQ_CFG_EN (ix c q) 0).raise Flg.RING_EVT_FETCH_ERR c else t.fetch c q)

/-! ## Completion records (R376 to R381) -/

/-- The 32 bytes of a record (Table 12.5). -/
def State.recordBytes (s : State) (r : Record) (phase : Nat) : List Byte :=
  leBytes 1 phase ++ leBytes 1 r.sq ++ leBytes 2 r.status ++ leBytes 1 r.job ++ leBytes 1 r.opcode ++ leBytes 2 r.stream ++
  leBytes 4 r.seq ++ leBytes 2 (s.get Fld.RING_SQ_HEAD_HEAD (ix r.client r.sq)) ++ leBytes 2 0 ++ leBytes 8 r.time ++
  leBytes 8 r.result

/-- Whether a completion ring is full (R377). -/
def State.cqFull (s : State) (c q : Nat) : Bool :=
  (s.get Fld.RING_CQ_TAIL_TAIL (ix c q) + 1) % s.cqSize c q == s.get Fld.RING_CQ_HEAD_HEAD (ix c q)

/-- A completion ring sends its message, and counts afresh. -/
def State.sendCq (s : State) (c q : Nat) : State :=
  ({ s with rings := { s.rings with coal := Sparse.erase s.rings.coal (ix c q) } }).sendVector c
    (s.get Fld.RING_CQ_CFG_VECTOR (ix c q))

/-- What a written record does to its ring's coalescing (R381). -/
def State.coalesce (s : State) (c q : Nat) (irq : Bool) : State :=
  let i := ix c q
  if !s.isSet Fld.RING_CQ_CFG_IEN i then s else
  let x := Sparse.get (0, s.refTime) s.rings.coal i
  if irq ∨ s.get Fld.RING_CQ_CFG_COAL_COUNT i ≤ x.1 + 1 then s.sendCq c q
  else { s with rings := { s.rings with coal := Sparse.insert s.rings.coal i (x.1 + 1, x.2) } }

/-- A record is written at TAIL (R377, R378). -/
def State.putRecord (s : State) (r : Record) : State :=
  let i := ix r.client r.cq
  let tail := s.get Fld.RING_CQ_TAIL_TAIL i
  let phase := s.get Fld.RING_CQ_TAIL_PHASE i
  let t := s.store (Mem.host ((32 * s.get Fld.RING_CQ_BASE_BASE i + 32 * tail) % 2 ^ 64)) (s.recordBytes r phase)
  let next := (tail + 1) % s.cqSize r.client r.cq
  ((t.set Fld.RING_CQ_TAIL_TAIL i next).set Fld.RING_CQ_TAIL_PHASE i (if next = 0 then 1 - phase else phase)).coalesce
    r.client r.cq r.irq

/-- Whether a record is one for a completion ring. -/
def Record.isFor (r : Record) (client cq : Nat) : Bool := r.client == client && r.cq == cq

/-- A full completion ring has each of its records wait, and each is counted once (R377). -/
def State.recordsWait (s : State) (client cq : Nat) : State :=
  let fresh := s.rings.records.filter (fun r => r.isFor client cq && !r.waited)
  let t := s.raiseN Flg.RING_EVT_CQ_FULL client fresh.length
  { t with rings := { t.rings with
    records := t.rings.records.map (fun r => if r.isFor client cq then { r with waited := true } else r) } }

/-- COMPLETION_RECORD_WRITE (R377): the oldest record of a ring is written, or all of them wait for room. -/
def execCompletionRecordWrite (client cq : Nat) (s : State) : Host.Outcome State Fault Refusal :=
  .next (match takeFirst (fun r => r.isFor client cq) s.rings.records with
    | (none, _) => s
    | (some r, rest) =>
      if s.cqFull client cq then s.recordsWait client cq
      else ({ s with rings := { s.rings with records := rest } }).putRecord r)

/-- COAL_TIMER (R381): COAL_TIME µs have passed since the first record that no message covers. -/
def execCoalTimer (client cq : Nat) (s : State) : Host.Outcome State Fault Refusal :=
  .next (let i := ix client cq
    let n := s.get Fld.RING_CQ_CFG_COAL_TIME i
    match Sparse.find s.rings.coal i with
    | some x =>
      if s.isSet Fld.RING_CQ_CFG_IEN i ∧ n ≠ 0 ∧ x.2 + n * Config.us ≤ s.refTime then s.sendCq client cq else s
    | none => s)

/-- A vector's mask is cleared: a pending vector sends one message (R381). -/
def State.unmask (s : State) (c v : Nat) : State :=
  let t := s.set Fld.MSIX_CTRL_MASK (ix c v) 0
  let p := t.get Fld.MSIX_PBA_PENDING c
  if p / 2 ^ v % 2 = 1 then (t.set Fld.MSIX_PBA_PENDING c (p - 2 ^ v)).sendVector c v else t

/-- MSIX_UNMASK (R381). -/
def execMsixUnmask (client vector : Nat) (s : State) : Host.Outcome State Fault Refusal :=
  .next (s.host fun s => if s.ringExists client vector then s.unmask client vector else s)

/-! ## Enable and disable (R386, R387) -/

/-- A refused set-up write of a ring window. -/
def State.ringRefused (s : State) (c : Nat) : State := s.raise Flg.RING_EVT_CFG_REFUSED c

/-- A write of 1 to EN of a submission ring. -/
def State.sqEnable (s : State) (c q : Nat) : State :=
  let i := ix c q
  let n := s.get Fld.RING_SQ_CFG_LOG2_SIZE i
  if s.isSet Fld.RING_SQ_CFG_EN i then s
  else if s.get Fld.RING_PROTO_SEL_VERSION c ≠ 0 ∧ 8 ≤ n ∧ n ≤ 16 ∧
      s.isSet Fld.RING_CQ_CFG_EN (ix c (s.get Fld.RING_SQ_CFG_CQ i)) then
    (((s.set Fld.RING_SQ_CFG_EN i 1).set Fld.RING_SQ_HEAD_HEAD i 0).set Fld.RING_SQ_TAIL_TAIL i 0).set Fld.RING_SQ_SEQ_SEQ i 0
  else s.ringRefused c

/-- A write of 1 to EN of a completion ring. -/
def State.cqEnable (s : State) (c q : Nat) : State :=
  let i := ix c q
  let n := s.get Fld.RING_CQ_CFG_LOG2_SIZE i
  if s.isSet Fld.RING_CQ_CFG_EN i then s
  else if s.get Fld.RING_PROTO_SEL_VERSION c ≠ 0 ∧ 8 ≤ n ∧ n ≤ 16 then
    let t := (((s.set Fld.RING_CQ_CFG_EN i 1).set Fld.RING_CQ_TAIL_TAIL i 0).set Fld.RING_CQ_HEAD_HEAD i 0).set
      Fld.RING_CQ_TAIL_PHASE i 1
    { t with rings := { t.rings with coal := Sparse.erase t.rings.coal i } }
  else s.ringRefused c

/-- Whether a command or a record of a client is to go to a completion ring. -/
def State.cqAwaited (s : State) (c q : Nat) : Bool :=
  s.rings.records.any (fun r => r.client == c && r.cq == q) ||
  s.cmds.any (fun x => !x.orphan && (match x.origin with
    | .host cc cq _ => cc == c && s.get Fld.RING_SQ_CFG_CQ (ix c cq) == q
    | _ => false))

/-- A write of 0 to EN of a completion ring. -/
def State.cqDisable (s : State) (c q : Nat) : State :=
  let i := ix c q
  if !s.isSet Fld.RING_CQ_CFG_EN i then s
  else if (List.range 64).any (fun x => s.isSet Fld.RING_SQ_CFG_EN (ix c x) && s.get Fld.RING_SQ_CFG_CQ (ix c x) == q) ||
      s.cqAwaited c q then s.ringRefused c
  else s.set Fld.RING_CQ_CFG_EN i 0

/-- What a set-up write of a ring window does. -/
def State.ringHost (s : State) (c q : Nat) (f : State → State) : State := s.host fun s => if s.ringExists c q then f s else s

/-- SQ_ENABLE (R386). -/
def execSqEnable (client sq : Nat) (s : State) : Host.Outcome State Fault Refusal :=
  .next (s.ringHost client sq fun s => s.sqEnable client sq)

/-- SQ_DISABLE (R387): fetching stops at once. -/
def execSqDisable (client sq : Nat) (s : State) : Host.Outcome State Fault Refusal :=
  .next (s.ringHost client sq fun s => s.set Fld.RING_SQ_CFG_EN (ix client sq) 0)

/-- CQ_ENABLE (R386). -/
def execCqEnable (client cq : Nat) (s : State) : Host.Outcome State Fault Refusal :=
  .next (s.ringHost client cq fun s => s.cqEnable client cq)

/-- CQ_DISABLE (R387). -/
def execCqDisable (client cq : Nat) (s : State) : Host.Outcome State Fault Refusal :=
  .next (s.ringHost client cq fun s => s.cqDisable client cq)

/-! ## Function-level reset (R388) -/

/-- Fields of a ring window by client alone, and by client and an inner index; RING_PROTO keeps what BOOT loaded. -/
def windowFields : List Field × List Field :=
  ([Fld.RING_PROTO_SEL_VERSION, Fld.RING_EVT_CQ_FULL, Fld.RING_EVT_DB_INVALID, Fld.RING_EVT_ADMIT_REJECT,
    Fld.RING_EVT_FETCH_ERR, Fld.RING_EVT_CFG_REFUSED, Fld.RING_DB_CAP_RING, Fld.RING_DB_CAP_VALUE, Fld.MSIX_PBA_PENDING],
   [Fld.RING_EVT_CNT_COUNT, Fld.RING_SQ_BASE_BASE, Fld.RING_SQ_CFG_EN, Fld.RING_SQ_CFG_LOG2_SIZE, Fld.RING_SQ_CFG_CQ,
    Fld.RING_SQ_CFG_DSEL, Fld.RING_SQ_CFG_HOME_SKEIN, Fld.RING_SQ_HEAD_HEAD, Fld.RING_SQ_TAIL_TAIL, Fld.RING_SQ_SEQ_SEQ,
    Fld.RING_CQ_BASE_BASE, Fld.RING_CQ_CFG_EN, Fld.RING_CQ_CFG_LOG2_SIZE, Fld.RING_CQ_CFG_VECTOR, Fld.RING_CQ_CFG_IEN,
    Fld.RING_CQ_CFG_COAL_COUNT, Fld.RING_CQ_CFG_COAL_TIME, Fld.RING_CQ_TAIL_PHASE, Fld.RING_CQ_TAIL_TAIL,
    Fld.RING_CQ_HEAD_HEAD, Fld.MSIX_ADDR_LO_ADDR, Fld.MSIX_ADDR_HI_ADDR, Fld.MSIX_DATA_DATA, Fld.MSIX_CTRL_MASK])

/-- Fields of the event-source table, which only the physical function's window holds. -/
def sourceFields : List Field := [Fld.RING_EVSRC_EN, Fld.RING_EVSRC_CLIENT, Fld.RING_EVSRC_VECTOR]

/-- Whether a stored field belongs to a client's ring window; job ownership does not (R388). -/
def inWindow (c key : Nat) : Bool :=
  let code := key / 0x100000000
  let i := key % 0x100000000
  (windowFields.1.any (fun f => f.code == code) && i == c) ||
  (windowFields.2.any (fun f => f.code == code) && i / 256 == c) ||
  (c == 0 && sourceFields.any (fun f => f.code == code))

/-- Whether a command was submitted by a client. -/
def Cmd.ofClient (c : Cmd) (client : Nat) : Bool :=
  match c.origin with
  | .host k _ _ => k == client
  | _ => false

/-- Whether a command belongs to a client: the client submitted it, or a spindle core issued it for a job of the client's.  A
reset of the client's function removes it, or leaves it running without its host writes and its record (R388). -/
def State.orphaned (s : State) (client : Nat) (c : Cmd) : Bool :=
  c.ofClient client || (s.get Fld.RING_JOB_CLIENT c.job == client && (c.orphan || s.isSet Fld.RING_JOB_VALID c.job))

/-- A client's function is reset: its rings are disabled, commands that have not started go, those that have run on with
their host writes and records discarded, and its registers return to their reset values. -/
def State.functionReset (s : State) (c : Nat) : State :=
  let gone := s.cmds.filter (fun x => s.orphaned c x && !x.inProgress)
  let t := s.forEach gone (fun t x => (t.withdraw (.cmd x.uid)).dropCmd x.uid)
  let u := { t with
    cmds := t.cmds.map (fun (x : Cmd) => if t.orphaned c x then { x with orphan := true } else x)
    regs := t.regs.filter (fun p => !inWindow c p.1)
    rings := { t.rings with
      records := t.rings.records.filter (fun r => r.client != c)
      coal := t.rings.coal.filter (fun p => p.1 / 256 != c)
      resets := Sparse.insert t.rings.resets c t.refTime } }
  u.fillQueues

/-- FUNCTION_LEVEL_RESET (R388). -/
def execFunctionLevelReset (client : Nat) (s : State) : Host.Outcome State Fault Refusal :=
  .next (s.host fun s => if s.ringExists client 0 then s.functionReset client else s)

/-- A virtual function is disabled: it is reset, and from then on it has no rings and owns no jobs (R360). -/
def State.disableFunction (s : State) (c : Nat) : State :=
  let owned := (List.range 256).filter fun j => s.isSet Fld.RING_JOB_VALID j && s.get Fld.RING_JOB_CLIENT j == c
  (s.functionReset c).forEach owned fun t j => t.set Fld.RING_JOB_VALID j 0

/-- The SR-IOV capability enables `n` virtual functions beside the physical one: those that it no longer enables are
disabled (R360). -/
def State.setFunctions (s : State) (n : Fin 16) : State :=
  let gone := (List.range 16).filter fun c => decide (n.val < c) && s.ringExists c 0
  let t := s.forEach gone State.disableFunction
  { t with rings := { t.rings with functions := 2 ^ (n.val + 1) - 1 } }

/-- What the host writes to the SR-IOV capability in a tick that began at an instant (R360). -/
def State.sriovWrite (s : State) (instant : Nat) : State :=
  match Config.sriov instant with
  | some n => if s.powered then s.setFunctions n else s
  | none => s

/-- One tick of reference time, with which a write of the SR-IOV capability comes. -/
def State.tick (s : State) : State := s.passTick.sriovWrite s.refTime

/-- FLR_TIMEOUT (R388): a command of the reset client still runs 50 ms after the reset, so every job is aborted. -/
def execFlrTimeout (client : Nat) (s : State) : Host.Outcome State Fault Refusal :=
  .next (match Sparse.find s.rings.resets client with
    | none => s
    | some at_ =>
      if s.refTime < at_ + 50000 * Config.us then s else
      let t := { s with rings := { s.rings with resets := Sparse.erase s.rings.resets client } }
      match s.cmds.find? (fun c => c.orphan && s.orphaned client c) with
      | none => t
      | some c => (t.jobFault 0 c.job c.engine.hangSource).settle)

end Sys2Proof.Machine
end

