-- ==== Sys2Proof/Machine/Views.lean ====
section
/-! DEFINITION. Fields that a register map shows and that State holds in another form: what a read of each returns. -/

namespace Sys2Proof.Machine

/-- 1 for true. -/
def bit (b : Bool) : Nat := if b then 1 else 0

/-- HUB_STATE and the ring windows' fields (Tables 1.11 and 12.10). -/
def State.viewHub (s : State) (f : Field) (i : Nat) : Option Nat :=
  if f = Fld.HUB_STATE_STATE then some s.dev.code
  else if f = Fld.HUB_STATE_PREV_STATE then some s.aon.prev.code
  else if f = Fld.HUB_STATE_CAUSE then some s.aon.cause
  else if f = Fld.HUB_STATE_CAUSE_STATUS then some s.aon.causeStatus
  else if f = Fld.RING_CLIENT_ID_CLIENT then some i
  else if f = Fld.RING_CLIENT_STATUS_PLACES_USED then some (s.placesUsed i)
  else if f = Fld.RING_CLIENT_STATUS_FETCH_PAUSED then some (bit (decide (Config.places ≤ s.placesUsed i)))
  else none

/-- The skein that HEDDLE_TEST_STATE shows: draining, under test or next due. -/
def State.testSkein (s : State) : Nat :=
  if s.get Fld.HEDDLE_TEST_STATE_PHASE 0 = 0 then (s.oldest s.liveSkeins).getD 0 else s.get Fld.HEDDLE_TEST_STATE_SKEIN 0

/-- The Heddle's, the determinism and the time base's fields (Tables 2.5, 13.6, 15.8 and 17.7). -/
def State.viewTime (s : State) (f : Field) (i : Nat) : Option Nat :=
  if f = Fld.HEDDLE_STATUS_PENDING_VALID then some (bit s.heddle.pending.isSome)
  else if f = Fld.HEDDLE_STATUS_ACTIVE_VALID then some (bit s.heddle.active.isSome)
  else if f = Fld.HEDDLE_TEST_STATE_SKEIN then some s.testSkein
  else if f = Fld.HEDDLE_DET_BASE_REC_ADDR then some (s.get f (s.get Fld.HEDDLE_DET_SEL_JOB 0))
  else if f = Fld.WHORL_TIME_TIME then some s.now
  else if f = Fld.WHORL_TINPIN_STATUS_LEVEL then some (s.tinFifo i).length
  else if f = Fld.WHORL_TINPIN_STATUS_HEAD_EDGE then some (bit (((s.tinFifo i).head?.map Prod.snd).getD false))
  else if f = Fld.WHORL_TINPIN_STAMP_TIME then some (((s.tinFifo i).head?.map Prod.fst).getD 0)
  else none

/-- SPq_STATE of a core: an idle core with a saved record is pre-empted (R411). -/
def State.coreCode (s : State) (k q : Nat) : Nat :=
  let saved := s.heddle.saved.any (fun (p : Nat × Core) => p.1 / 256 == 2 * k + q)
  if (s.core k q).state = .idle ∧ saved = true then CoreState.preempted.code else (s.core k q).state.code

/-- The token that SKEIN_TOKEN_SEL shows. -/
def State.shownToken (s : State) (k : Nat) : Token := s.token (1024 * k + s.get Fld.SKEIN_TOKEN_SEL_INDEX k)

/-- Fields of the cores, queues and tokens of a skein (Table 3.13). -/
def State.viewSkein (s : State) (f : Field) (k : Nat) : Option Nat :=
  if f = Fld.SKEIN_SP_STATE_SP0_STATE then some (s.coreCode k 0)
  else if f = Fld.SKEIN_SP_STATE_SP1_STATE then some (s.coreCode k 1)
  else if f = Fld.SKEIN_SP_STATE_SP0_JOB then some (s.core k 0).job
  else if f = Fld.SKEIN_SP_STATE_SP1_JOB then some (s.core k 1).job
  else if f = Fld.SKEIN_SP0_PC_PC then some (s.core k 0).pc
  else if f = Fld.SKEIN_SP1_PC_PC then some (s.core k 1).pc
  else if f = Fld.SKEIN_QUEUE_LEVEL_LQ then some (s.queueOf (.loom k)).length
  else if f = Fld.SKEIN_QUEUE_LEVEL_VQ then some (s.queueOf (.vec k)).length
  else if f = Fld.SKEIN_QUEUE_LEVEL_D0 then some (s.queueOf (.drafter k 0)).length
  else if f = Fld.SKEIN_QUEUE_LEVEL_D1 then some (s.queueOf (.drafter k 1)).length
  else if f = Fld.SKEIN_TOKEN_DATA_MODE then some (bit (s.shownToken k).level)
  else if f = Fld.SKEIN_TOKEN_DATA_OWNER_JOB then some ((s.shownToken k).owner.getD 0)
  else if f = Fld.SKEIN_TOKEN_DATA_ASSIGNED then some (bit (s.shownToken k).owner.isSome)
  else if f = Fld.SKEIN_TOKEN_DATA_TARGET then some (s.shownToken k).target
  else if f = Fld.SKEIN_TOKEN_DATA_COUNT then some (s.shownToken k).count
  else none

/-- The window that SKEIN_WIN_SEL shows. -/
def State.shownWindow (s : State) (k : Nat) : Window := s.window k (s.get Fld.SKEIN_WIN_SEL_INDEX k)

/-- STATE of a window (Table 4.5). -/
def WinState.code : WinState → Nat
  | .idle => 0 | .active => 1 | .draining => 2

/-- Fields of the selected window (Table 4.5). -/
def State.viewWindow (s : State) (f : Field) (i : Nat) : Option Nat :=
  if f = Fld.SKEIN_WIN_CTRL_JOB then some (s.shownWindow i).job
  else if f = Fld.SKEIN_WIN_CTRL_STATE then some (s.shownWindow i).state.code
  else if f = Fld.SKEIN_WIN_CTRL_PERMIT_READ then some (bit (s.shownWindow i).permitRead)
  else if f = Fld.SKEIN_WIN_CTRL_PERMIT_WRITE then some (bit (s.shownWindow i).permitWrite)
  else if f = Fld.SKEIN_WIN_KEY_KEY then some (s.shownWindow i).key
  else if f = Fld.SKEIN_WIN_ROWS_COUNT then some (s.shownWindow i).count
  else if f = Fld.SKEIN_WIN_ROWS_FIRST then some (s.shownWindow i).first
  else if f = Fld.SKEIN_WIN_SRC_MASK then some (bitsOf (s.shownWindow (i / 256)).mask (32 * (i % 256)) 32)
  else none

/-- The command that holds accumulator store i of a loom. -/
def State.storeHolder (s : State) (k i : Nat) : Option Cmd :=
  s.cmds.find? (fun c => decide (c.engine = .loom k) && (decide (c.phase = .running) || decide (c.phase = .yielded)) &&
    c.store == i)

/-- STOREi of SKEIN_LOOM_STATUS. -/
def State.storeCode (s : State) (k i : Nat) : Nat :=
  match s.storeHolder k i with
  | some c => if c.phase = .running then 1 else 2
  | none => 0

/-- Whether an engine runs a command that meets a condition. -/
def State.runs (s : State) (e : Engine) (p : Cmd → Bool) : Bool :=
  s.cmds.any (fun c => decide (c.engine = e) && decide (c.phase = .running) && p c)

/-- Fields of the loom, the rounding mode and the convolution unit (Tables 5.10, 6.6 and 7.5). -/
def State.viewLoom (s : State) (f : Field) (k : Nat) : Option Nat :=
  if f = Fld.SKEIN_LOOM_STATUS_STORE0 then some (s.storeCode k 0)
  else if f = Fld.SKEIN_LOOM_STATUS_STORE1 then some (s.storeCode k 1)
  else if f = Fld.SKEIN_LOOM_STATUS_STORE0_JOB then some (((s.storeHolder k 0).map Cmd.job).getD 0)
  else if f = Fld.SKEIN_LOOM_STATUS_STORE1_JOB then some (((s.storeHolder k 1).map Cmd.job).getD 0)
  else if f = Fld.SKEIN_LOOM_STATUS_BUSY then some (bit (s.runs (.loom k) fun _ => true))
  else if f = Fld.SKEIN_LOOM_STATUS_ROUTED then some (bit (s.runs (.vec k) Cmd.routed))
  else if f = Fld.SKEIN_RQ_STATUS_TIE_EVEN then some (bit (s.tieEven k))
  else if f = Fld.SKEIN_CONV_STATUS_GROUP then
    (s.cmds.find? (fun c => decide (c.engine = .loom k) && decide (c.phase = .running) && c.opcode == 0x02)).map s.convGroup
  else if f = Fld.SKEIN_CONV_STATUS_CONV_BUSY then some (bit (s.runs (.loom k) fun c => c.opcode == 0x02))
  else if f = Fld.SKEIN_CONV_STATUS_POOL_BUSY then some (bit (s.runs (.vec k) fun c => c.opcode == 0x03))
  else none

/-- The stream context that MEMC_CTX_SEL shows, and where its shown page begins. -/
def State.shownContext (s : State) : Nat × Nat :=
  let t := s.get Fld.MEMC_CTX_SEL_STREAM 0
  (t, Mem.context t + 64 * s.get Fld.MEMC_CTX_SEL_PAGE 0)

/-- Where the range entry that PLY_RANGE_SEL of an engine shows begins. -/
def State.shownRange (s : State) (h : Nat) : Nat := Mem.range h (s.get Fld.PLY_RANGE_SEL_ENTRY h)

/-- Fields of the KV pool's contexts and of the ply engines (Tables 8.10 and 9.12). -/
def State.viewPool (s : State) (f : Field) (i : Nat) : Option Nat :=
  if f = Fld.MEMC_CTX_SEL_CONFIG then some (bit (s.ctxConfig s.shownContext.1))
  else if f = Fld.MEMC_CTX_DATA_DATA then some (s.loadNat (s.shownContext.2 + 4 * i) 4)
  else if f = Fld.PLY_QUEUE_LEVEL_LEVEL then some (s.queueOf (.ply i)).length
  else if f = Fld.PLY_RANGE_SEL_CONFIG then some (bit (s.rangeConfig i (s.get Fld.PLY_RANGE_SEL_ENTRY i)))
  else if f = Fld.PLY_RANGE_DATA_DATA then some (s.loadNat (s.shownRange (i / 256) + 4 * (i % 256)) 4)
  else none

/-- STAGED of FLYER_LOOP_MBX_STATE. -/
def State.stagedCode (s : State) (n : Nat) : Nat :=
  match (s.loop n).staged with
  | none => 0
  | some e => if e.await.isSome then 2 else 1

/-- The mask of the loops in a state. -/
def State.loopMask (s : State) (st : Nat) : Nat :=
  ((List.range 32).map (fun n => if s.loopState n = st then 2 ^ n else 0)).sum

/-- Fields of the Flyer and of Idward (Tables 10.10 and 14.9). -/
def State.viewFlyer (s : State) (f : Field) (i : Nat) : Option Nat :=
  if f = Fld.FLYER_CLOSED_MASK then some (s.loopMask 2)
  else if f = Fld.FLYER_SAFE_MASK then some (s.loopMask 3)
  else if f = Fld.FLYER_LOOP_MBX_STATE_SEGMENT then some (s.loop i).profile.seg
  else if f = Fld.FLYER_LOOP_MBX_STATE_QUEUE then some (s.loop i).profile.queue.length
  else if f = Fld.FLYER_LOOP_MBX_STATE_STAGED then some (s.stagedCode i)
  else if f = Fld.IWL_TS_STATUS_UPSTREAM then some s.upstream
  else none

/-- The measured voltage and current of the rail that PWR_RAIL_SEL shows. -/
def State.shownRail (s : State) : Nat × Nat := Sparse.get (0, 0) s.pwr.rails (s.get Fld.PWR_RAIL_SEL_RAIL 0)

/-- Next slice of a skein: of its suspect run while it is suspect, else of its rotation. -/
def State.nextSlice (s : State) (k : Nat) : Nat :=
  if s.suspect k then Sparse.get 0 s.selv.suspectNext k else Sparse.get 0 s.selv.next k

/-- Fields of the Selvedge and of the PWR block (Tables 18.5 and 21.7). -/
def State.viewSelv (s : State) (f : Field) : Option Nat :=
  let k := s.get Fld.SELV_TEST_SEL_SKEIN 0
  if f = Fld.SELV_STATUS_NEXT_DUE then some ((s.oldest s.liveSkeins).getD 0)
  else if f = Fld.SELV_STATUS_RELEASE_READY then some (bit (decide (s.dev = .safe) && s.releasable))
  else if f = Fld.SELV_STATUS_FAULT_N then some (bit (s.faultN.getD false))
  else if f = Fld.SELV_TEST_INFO_DEFER_COUNT then some (min 65535 (Sparse.get 0 s.selv.defers k))
  else if f = Fld.SELV_TEST_INFO_NEXT_SLICE then some (s.nextSlice k)
  else if f = Fld.SELV_TEST_INFO_SUSPECT then some (bit (s.suspect k))
  else if f = Fld.SELV_TEST_INFO_RETIRED then some (bit (!s.live k))
  else if f = Fld.SELV_TEST_LAST_TIME then some (Sparse.get 0 s.selv.covered k)
  else if f = Fld.PWR_RAIL_DATA_MV then some s.shownRail.1
  else if f = Fld.PWR_RAIL_DATA_CURRENT then some s.shownRail.2
  else none

/-- What a field shows that State holds in another form. -/
def State.view (s : State) (f : Field) (i : Nat) : Option Nat :=
  ((((((((s.viewHub f i).or (s.viewTime f i)).or (s.viewSkein f i)).or (s.viewWindow f i)).or (s.viewLoom f i)).or
    (s.viewPool f i)).or (s.viewFlyer f i)).or (s.viewSelv f))

/-- What a read of a field returns (R9). -/
def State.readField (s : State) (f : Field) (i : Nat) : Nat :=
  if f.acc = .wo then 0 else ((s.view f i).getD (s.get f i)) % 2 ^ f.width

/-- What a read of a whole register returns. -/
def State.readReg (s : State) (r : Reg) (i : Nat) : Nat :=
  (r.fields.map (fun f => s.readField f i * 2 ^ f.lo)).sum

end Sys2Proof.Machine
end

