-- ==== Sys2Proof/Machine/Registers.lean ====
section
/-! DEFINITION. Host accesses of the set-up registers: addresses (R17), widths and halves (R6, R7), access codes (R9),
CONFIG (R14), refused values (R600), and the registers whose writes act. -/

namespace Sys2Proof.Machine

/-! ## Addresses -/

/-- Every register of BAR0. -/
def allRegs : List Reg := regsHost ++ regsSkein ++ regsFlyer ++ regsNet ++ regsSafe

/-- The BAR0 address that an access of a function's BAR0 reaches: a virtual function's BAR0 is its own ring window
(R17, R361). -/
def State.busAddress (s : State) (fn offset : Nat) : Option Nat :=
  if fn = 0 then some offset
  else if fn < 16 ∧ offset < 0x10000 ∧ s.rings.functions / 2 ^ fn % 2 = 1 then some (0x100000 + fn * 0x10000 + offset)
  else none

/-- Whether the block at an address answers the host (Table 1.7, R559). -/
def State.answersAt (s : State) (addr : Nat) : Bool :=
  let hub := decide (addr < 0x100000)
  s.setUp || (match s.dev with
    | .boot => hub
    | .recovery => hub || (decide (0xB00000 ≤ addr) && decide (addr < 0xC00000))
    | _ => false)

/-- The place of a register's group index. -/
def Reg.outer (r : Reg) (i : Nat) : Nat := i / 256 ^ (r.dims.length - 1)

/-! ## Reads -/

/-- The RC fields of a register return to 0 (R9, R13). -/
def State.clearRc (s : State) (r : Reg) (i : Nat) : State :=
  s.forEach r.fields (fun t f => if f.acc = .rc then t.set f i 0 else t)

/-- A read of the low half captures the whole value; of a stamp it also marks the head to be removed (R7, R476). -/
def State.readLow (s : State) (r : Reg) (i addr : Nat) : State :=
  let v := s.readReg r i
  let t := { s with shadows := Sparse.put 0 s.shadows addr v, hostRead := v % 2 ^ 32 }
  if r.base = Reg.WHORL_TINPIN_STAMP.base then
    let rest := t.net.captured.filter (fun p => p != i)
    { t with net := { t.net with captured := if (t.tinFifo i).isEmpty then rest else rest ++ [i] } }
  else t

/-- The state that an outcome goes on with. -/
def nextOr (s : State) : Host.Outcome State Fault Refusal → State
  | .next t => t
  | _ => s

/-- A read of the high half returns the shadow (R7). -/
def State.readHigh (s : State) (r : Reg) (i addr : Nat) : State :=
  if r.base = Reg.WHORL_TINPIN_STAMP.base then nextOr s (execTinStampHighRead i s)
  else { s with hostRead := Sparse.get 0 s.shadows (addr - 4) / 2 ^ 32 }

/-- A read of a BAR0 address. -/
def State.readBar (s : State) (addr size : Nat) : State :=
  if !s.answersAt addr then s
  else if !accessFits addr size then { s with hostRead := 0 }
  else match Reg.lookup allRegs addr with
    | none => { s with hostRead := 0 }
    | some (r, i, true) => s.readHigh r i addr
    | some (r, i, false) =>
      if r.wide then s.readLow r i addr else { s.clearRc r i with hostRead := s.readReg r i }

/-- A read through a function.  A number of 16 and above stands for BAR2 of function `fn − 16`, any part of which reads as
0 (R367). -/
def State.readAt (s : State) (fn offset size : Nat) : State :=
  if 16 ≤ fn then { s with hostRead := 0 } else
  match s.busAddress fn offset with
  | some addr => s.readBar addr size
  | none => { s with hostRead := 0 }

/-- LOW_HALF_READ (R7): a 32-bit read, which of a low half captures the high half. -/
def execLowHalfRead (fn offset : Nat) (s : State) : Host.Outcome State Fault Refusal := .next (s.readAt fn offset 4)

/-- RC_COUNTER_READ (R9, R13): a 32-bit read, which of a counter clears it. -/
def execRcCounterRead (fn offset : Nat) (s : State) : Host.Outcome State Fault Refusal := .next (s.readAt fn offset 4)

/-! ## CONFIG (R14) -/

/-- A job is in CONFIG (R385). -/
def State.jobConfig (s : State) (job : Nat) : Bool :=
  !s.jobBusy job && (s.ownedTokens job).isEmpty && !s.jobStreams job &&
  !(List.range 64).any (fun k => (List.range 8).any (fun n =>
    s.isSet Fld.SKEIN_BOB_REGION_VALID (ix k n) && s.get Fld.SKEIN_BOB_REGION_JOB (ix k n) == job)) &&
  !s.windows.any (fun (p : Nat × Window) => p.2.open_ && p.2.job == job) &&
  !(Sparse.within s.mem (Mem.context 0) (Mem.context 65536)).any (fun p => p.1 % 256 == 27 && p.2.toNat % 2 == 1 &&
    (Mem.read s.mem (p.1 - 1)).toNat == job) &&
  !(List.range 512).any (fun i => (s.rangeEntry (i / 64) (i % 64)).valid && (s.rangeEntry (i / 64) (i % 64)).owner == job)

/-- Whether a ring's commands or records hold no completion place (R386). -/
def State.sqQuiet (s : State) (c q : Nat) : Bool :=
  !s.cmds.any (fun x => !x.orphan && (match x.origin with
    | .host cc sq _ => cc == c && sq == q
    | _ => false)) &&
  !s.rings.records.any (fun r => r.client == c && r.sq == q)

/-- Every ring of a client is disabled (Table 12.10). -/
def State.ringsOff (s : State) (c : Nat) : Bool :=
  (List.range 64).all (fun q => !s.isSet Fld.RING_SQ_CFG_EN (ix c q) && !s.isSet Fld.RING_CQ_CFG_EN (ix c q))

/-- The queues that SKEIN_HOST_RESERVE shares hold nothing, and nothing from a host waits for them. -/
def State.shareQuiet (s : State) (k : Nat) : Bool :=
  let es : List Engine := [.loom k, .vec k, .drafter k 0, .drafter k 1]
  es.all (fun e => (s.queueOf e).isEmpty &&
    !s.cmds.any (fun c => c.fromHost && decide (c.home = e) && decide (c.phase = .admitted)))

/-- Every loop that meets a condition is OPEN. -/
def State.loopsAllOpen (s : State) (p : Nat → Bool) : Bool :=
  (List.range 32).all (fun n => !p n || s.loopState n == 0)

/-- Every loop that names an input is OPEN (R327). -/
def State.inputOpen (s : State) (base : Nat) : Bool :=
  s.loopsAllOpen (fun n => (s.loopInputs n).any (fun c => inputBase c == base))

/-- Every loop that names a converter is OPEN: as an input or as its trigger (R327). -/
def State.adcOpen (s : State) (c : Nat) : Bool :=
  s.inputOpen (0x60 + c) && s.loopsAllOpen (fun n =>
    s.isSet Fld.FLYER_LOOP_CFG_TRIG_MODE n && s.get Fld.FLYER_LOOP_CFG_TRIG_ADC n == c)

/-- Every loop that names a PWM group as its output is OPEN (R327). -/
def State.pwmOpen (s : State) (g : Nat) : Bool :=
  s.loopsAllOpen (fun n => s.get Fld.FLYER_LOOP_OUT_OUT_KIND n != 0 && s.get Fld.FLYER_LOOP_OUT_GROUP n == g)

/-- No CLOSED loop names a transmit slot (R466, R491). -/
def State.slotOpen (s : State) (target slot : Nat) : Bool :=
  !(List.range 32).any (fun n => s.loopState n == 2 && s.isSet Fld.FLYER_LOOP_TX_EN n &&
    s.get Fld.FLYER_LOOP_TX_TARGET n == target && s.get Fld.FLYER_LOOP_TX_SLOT n == slot)

/-- Both jobs that a pair names now are in CONFIG. -/
def State.pairConfig (s : State) (p : Nat) : Bool :=
  s.jobConfig (s.get Fld.SELV_PAIR_CFG_MAIN_JOB p) && s.jobConfig (s.get Fld.SELV_PAIR_CFG_CHECK_JOB p)

/-- Whether the RWO fields of a register take a write (R14); CARD_DS_N is RW on the live path (Table 11.10). -/
def State.inConfig (s : State) (r : Reg) (i : Nat) : Bool :=
  let o := r.outer i
  match r.unit with
  | .none | .region | .window | .context | .plyRange | .pair => true
  | .job => s.jobConfig i
  | .sq => !s.isSet Fld.RING_SQ_CFG_EN i && s.sqQuiet (i / 256) (i % 256)
  | .cq => !s.isSet Fld.RING_CQ_CFG_EN i && !s.cqAwaited (i / 256) (i % 256)
  | .proto => s.ringsOff i
  | .skeinShare => s.shareQuiet i
  | .kvPool => !s.isSet Fld.MEMC_KV_CTRL_ENABLE 0
  | .plyShare => !s.cmds.any (fun c => decide (c.home = .ply i))
  | .loop => s.loopConfig o
  | .enc => s.inputOpen o
  | .ssi => s.inputOpen (0x30 + o)
  | .sd => s.inputOpen (0x40 + o)
  | .adc => s.adcOpen o
  | .pwm => s.pwmOpen o
  | .cap => !s.isSet Fld.CARD_CAP_CTRL_EN o
  | .ds => !s.isSet Fld.CARD_DS_CTRL_EN o || (r.base == Reg.CARD_DS_N.base && s.isSet Fld.CARD_DS_CTRL_PATH o)
  | .notRun => decide (s.dev ≠ .run)
  | .dispatcher => !s.jobBusy (s.get Fld.IWL_DISP_CFG_JOB o)
  | .inbox => !s.jobBusy (s.get Fld.IWL_INBOX_TOKENS_JOB o)
  | .port => s.get Fld.IWL_P_STATUS_STATE o == 0
  | .links => (List.range 6).all (fun p => s.get Fld.IWL_P_STATUS_STATE p == 0)
  | .eth => !s.isSet Fld.ETH_CTRL_EN o
  | .ethSlot => s.slotOpen (8 + o) (i / 256 ^ (r.dims.length - 2) % 256)
  | .can => !s.isSet Fld.CAN_CTRL_EN o
  | .canSlot => s.slotOpen o (i / 256 ^ (r.dims.length - 2) % 256)

/-! ## Reports -/

/-- The refusal flag that Table 0.5 names for a register's block, and its index. -/
def Reg.refusal (r : Reg) (i : Nat) : Option (Flag × Nat) :=
  let o := r.outer i
  let block := r.base / 0x100000
  if block = 1 then some (Flg.RING_EVT_CFG_REFUSED, if r.base = Reg.RING_JOB.base ∨ r.base = Reg.RING_EVSRC.base then 0 else o)
  else if block = 5 then
    some (if r.base < 0x502000 then Flg.CARD_CAP_EVT_CFG_REFUSED else Flg.CARD_DS_EVT_CFG_REFUSED, o)
  else if block = 6 then some (Flg.ETH_EVT_CFG_REFUSED, o)
  else if block = 7 then (if r.base < 0x708000 then some (Flg.CAN_EVT_CFG_REFUSED, o) else none)
  else if block = 9 then some (Flg.MEMC_KV_EVT_CFG_REFUSED, 0)
  else if block = 10 then some (Flg.SELV_EVT_CFG_REFUSED, 0)
  else if block = 12 then some (Flg.PWR_EVT_SET_REFUSED, 0)
  else if 16 ≤ block ∧ block < 32 then some (Flg.SKEIN_BOB_EVT_CONFIG_REFUSED, o)
  else if 32 ≤ block then some (Flg.PLY_EVT_CFG_REFUSED, o)
  else none

/-- A refusal flag is set once, where the block has one (Table 0.5). -/
def State.reportRefused (s : State) (r : Reg) (i : Nat) : State :=
  match r.refusal i with
  | some (f, o) => s.raise f o
  | none => s

/-- Sets of the refusal flag of a register's block so far. -/
def State.refusals (s : State) (r : Reg) (i : Nat) : Nat :=
  match r.refusal i with
  | some (f, o) => s.get f.cnt (f.cntIx o)
  | none => 0

/-- Whether a write outside CONFIG sets the refusal flag of its block: the flags of the carding streams, the MACs and the
CAN controllers name no such write, but for those of transmit slots (Tables 11.9, 11.10, 15.6 and 16.5), a loop's chapter
names COEF_LOCKED instead (R313), and a skein's share is no region or window (Table 4.4). -/
def CfgUnit.tellsLocked : CfgUnit → Bool
  | .loop | .skeinShare | .cap | .ds | .eth | .can => false
  | _ => true

/-- A write outside CONFIG of a loop's register sets COEF_LOCKED (R313). -/
def State.reportLocked (s : State) (r : Reg) (i : Nat) : State :=
  if r.unit = .loop then
    (s.set Fld.FLYER_LOOP_STATE_LAST_STATUS (r.outer i) 0x0306).raise Flg.FLYER_LOOP_EVT_COEF_LOCKED (r.outer i)
  else s

/-! ## Writes of plain fields -/

/-- What a write does: the state, whether a value was refused, and whether a field was locked. -/
structure Written where
  state : State
  refused : Bool
  locked : Bool

/-- A field takes its bits of the written value under its access code (R9, R14, R600). -/
def Written.field (w : Written) (cfg : Bool) (i v : Nat) (f : Field) : Written :=
  let x := bitsOf v f.lo f.width
  let s := w.state
  match f.acc with
  | .ro | .wo | .rc => w
  | .rw1c => { w with state := s.set f i (s.get f i &&& (2 ^ f.width - 1 - x)) }
  | .rw1s => { w with state := s.set f i (s.get f i ||| x) }
  | .rw => if f.legal.allows x then { w with state := s.set f i x } else { w with refused := true }
  | .rwo =>
    if s.get f i = x then w
    else if !f.legal.allows x then { w with refused := true }
    else if cfg then { w with state := s.set f i x }
    else { w with locked := true }

/-- The reports of a write: it sets the refusal flag once, whatever it holds that is refused (R600). -/
def Written.report (w : Written) (r : Reg) (i : Nat) : State :=
  let s := w.state.doIf (w.refused || (w.locked && r.unit.tellsLocked)) fun s => s.reportRefused r i
  s.doIf w.locked fun s => s.reportLocked r i

/-- What a write of fields of a register does, `bad` where one of its other fields is refused. -/
def State.writing (s : State) (r : Reg) (i v : Nat) (bad : Bool) (fs : List Field) : Written :=
  fs.foldl (fun (w : Written) f => w.field (s.inConfig r i) i v f) (⟨s, bad, false⟩ : Written)

/-- A write of fields of a register. -/
def State.writeFields (s : State) (r : Reg) (i v : Nat) (fs : List Field) : State := (s.writing r i v false fs).report r i

/-- The fields of a register but for some. -/
def Reg.others (r : Reg) (acting : List Field) : List Field := r.fields.filter (fun f => !acting.contains f)

/-- A write of every field of a register but the ones that act. -/
def State.writePlain (s : State) (r : Reg) (i v : Nat) (acting : List Field) : State :=
  s.writeFields r i v (r.others acting)

/-- A write of which some fields are refused: they keep their values, and the others are written. -/
def State.writeBut (s : State) (r : Reg) (i v : Nat) (refused : List Field) : State :=
  (s.writing r i v (!refused.isEmpty) (r.others refused)).report r i

/-- A write of an EN field beside the register's plain fields, which it follows; both together set the refusal flag once. -/
def State.writeEn (s : State) (r : Reg) (i v : Nat) (en : Field) (on off : State → State) : State :=
  let w := s.writing r i v false (r.others [en])
  let t := if bitsOf v en.lo 1 = 1 then on w.state else off w.state
  if t.refusals r i = w.state.refusals r i then ({ w with state := t }).report r i else t

/-! ## Registers whose writes act -/

/-- HUB_STATE_REQ (Table 1.11): each request, or a refused one. -/
def State.writeStateReq (s : State) (v : Nat) : State :=
  match v % 16 with
  | 1 => nextOr s (execStateReqRun s)
  | 2 => nextOr s (execStateReqStandby s)
  | 3 => nextOr s (execStateReqSleep s)
  | 4 =>
    let t := { s with freeCount := s.freeCount + 1 }
    nextOr t (execStateReqReleaseSafe (Config.freeBit s.freeCount 0) t)
  | 15 => nextOr s (execStateReqReset s)
  | _ => s.hostReq false fun s => s

/-- RING_PROTO_SEL (R383). -/
def State.writeProto (s : State) (c v : Nat) : State :=
  let x := v % 65536
  if s.get Fld.RING_PROTO_SEL_VERSION c = x then s
  else if x < s.get Fld.RING_PROTO_MIN c ∨ s.get Fld.RING_PROTO_MAX c < x ∨ !s.ringsOff c then s.ringRefused c
  else s.set Fld.RING_PROTO_SEL_VERSION c x

/-- RING_JOB: a client whose function is not enabled owns no jobs, so its number is refused (R360, R600).  Assignment of the
job to a client clears its nondeterminism counter, TIMING_STATUS and base record (R501, R514). -/
def State.writeJob (s : State) (r : Reg) (i v : Nat) : State :=
  let c := bitsOf v 0 4
  let t := s.writeBut r i v
    (if s.rings.functions / 2 ^ c % 2 = 0 ∧ s.get Fld.RING_JOB_CLIENT i ≠ c then [Fld.RING_JOB_CLIENT] else [])
  let owner (u : State) : Option Nat := if u.isSet Fld.RING_JOB_VALID i then some (u.get Fld.RING_JOB_CLIENT i) else none
  if (owner t).isSome ∧ owner t ≠ owner s then (t.clearNdc i).set Fld.HEDDLE_DET_BASE_REC_ADDR i 0 else t

/-- Registers of the ring windows (R381, R386, R387, R87). -/
def State.writeWindowReg (s : State) (r : Reg) (i v : Nat) : State :=
  let c := i / 256
  let q := i % 256
  if r.base = Reg.RING_PROTO_SEL.base then s.writeProto i v
  else if r.base = Reg.RING_SQ_CFG.base then
    s.writeEn r i v Fld.RING_SQ_CFG_EN (fun t => t.sqEnable c q) (fun t => t.set Fld.RING_SQ_CFG_EN i 0)
  else if r.base = Reg.RING_CQ_CFG.base then
    let fresh := !s.isSet Fld.RING_CQ_CFG_IEN i && bitsOf v Fld.RING_CQ_CFG_IEN.lo 1 == 1
    let t := s.writeEn r i v Fld.RING_CQ_CFG_EN (fun t => t.cqEnable c q) (fun t => t.cqDisable c q)
    if fresh then { t with rings := { t.rings with coal := Sparse.erase t.rings.coal i } } else t
  else if r.base = Reg.RING_JOB.base then
    (s.writeJob r i v).doIf (bitsOf v 30 1 == 1) fun t => t.releaseJob i
  else if r.base = Reg.MSIX_CTRL.base then
    if v % 2 = 1 then s.set Fld.MSIX_CTRL_MASK i 1 else if s.isSet Fld.MSIX_CTRL_MASK i then s.unmask c q else s
  else s.writePlain r i v []

/-- Registers of the Heddle and of the determinism block (R393, R394, R499). -/
def State.writeHeddle (s : State) (r : Reg) (i v : Nat) : State :=
  if r.base = Reg.HEDDLE_TBL_CMD.base then
    (s.doIf (bitsOf v 0 1 == 1) State.loadTable).doIf (bitsOf v 1 1 == 1) State.armTable
  else if r.base = Reg.HEDDLE_DETJ_CTRL.base then s.doIf (v % 2 == 1) fun t => t.clearNdc i
  else s.writePlain r i v []

/-- Registers of the time base (R44, R45, R471, R472). -/
def State.writeWhorl (s : State) (r : Reg) (i v : Nat) : State :=
  if r.base = Reg.WHORL_CTRL.base then s.writeDomain (v % 16)
  else if r.base = Reg.WHORL_STEP.base then nextOr s (execWhorlStepWrite (BitVec.ofNat 64 v) s)
  else if r.base = Reg.WHORL_DOMSET_OFS.base then s.writeOfs i v
  else if r.base = Reg.WHORL_DOMSET_RATE.base then s.writeRate i v
  else s.writePlain r i v []

/-- A write of a register of the selected window: its RWO fields take it while the window is IDLE. -/
def State.writeWindow (s : State) (k : Nat) (f : Window → Window) : State :=
  let w := s.shownWindow k
  if f w = w then s
  else if w.state = .idle then s.putWindow k (s.get Fld.SKEIN_WIN_SEL_INDEX k) (f w)
  else s.raise Flg.SKEIN_BOB_EVT_CONFIG_REFUSED k

/-- SKEIN_WIN_CTRL (R125, R131): OPEN and CLOSE together are refused. -/
def State.writeWinCtrl (s : State) (k v : Nat) : State :=
  if v % 4 = 3 then s.raise Flg.SKEIN_BOB_EVT_CONFIG_REFUSED k else
  let n := s.get Fld.SKEIN_WIN_SEL_INDEX k
  let f (w : Window) : Window :=
    { w with job := bitsOf v 24 8, permitRead := bitsOf v 5 1 == 1, permitWrite := bitsOf v 4 1 == 1 }
  let w := s.shownWindow k
  let t := s.doIf (decide (w.state = .idle)) fun s => s.writeWindow k f
  match v % 4 with
  | 1 => nextOr t (execWinOpen k n t)
  | 2 => (t.windowDrain k n).doIf (decide (w.state ≠ .idle ∧ f w ≠ w)) fun t => t.raise Flg.SKEIN_BOB_EVT_CONFIG_REFUSED k
  | _ => s.writeWindow k f

/-- SKEIN_TOKEN_CMD (Table 3.13, R86, R87). -/
def State.writeTokenCmd (s : State) (k v : Nat) : State :=
  match bitsOf v 30 2 with
  | 1 => (s.assignToken k (bitsOf v 0 10) (bitsOf v 16 8) (bitsOf v 48 16) (bitsOf v 32 16) (bitsOf v 29 1 == 1)).settle
  | 2 => s.releaseToken k (bitsOf v 0 10)
  | _ => s.tokenRefused k

/-- The bytes of 32 bits of a window's package mask replaced. -/
def maskWord (mask n v : Nat) : Nat := mask - bitsOf mask (32 * n) 32 * 2 ^ (32 * n) + v % 2 ^ 32 * 2 ^ (32 * n)

/-- Registers of a skein. -/
def State.writeSkein (s : State) (r : Reg) (i v : Nat) : State :=
  if r.base = Reg.SKEIN_TOKEN_CMD.base then s.writeTokenCmd i v
  else if r.base = Reg.SKEIN_BOB_REGION.base then s.regionWrite (i / 256) (i % 256) v
  else if r.base = Reg.SKEIN_WIN_CTRL.base then s.writeWinCtrl i v
  else if r.base = Reg.SKEIN_WIN_KEY.base then s.writeWindow i (fun w => { w with key := v % 2 ^ 32 })
  else if r.base = Reg.SKEIN_WIN_ROWS.base then
    s.writeWindow i (fun w => { w with count := bitsOf v 16 14, first := bitsOf v 0 14 })
  else if r.base = Reg.SKEIN_WIN_SRC.base then
    s.writeWindow (i / 256) (fun w => { w with mask := maskWord w.mask (i % 256) v })
  else if r.base = Reg.SKEIN_LOOM_CTRL.base then s.noteHeads.writePlain r i v []
  else s.writePlain r i v []

/-- Which bits of a byte of page 0 of a stream context the host writes (Table 8.1). -/
def contextMask (b : Nat) : Nat :=
  if b < 21 then 0xFF else if b = 21 then 0x0F else if b < 26 then 0 else if b = 26 then 0xFF else if b = 27 then 1
  else if b < 36 then 0xFF else 0

/-- Which bits of a byte of a range entry the host writes (Table 9.2). -/
def rangeMask (b : Nat) : Nat :=
  if b < 4 then 0x1F else if b = 4 then 0xFF else if b = 5 then 1 else if b < 8 then 0xFF else 0

/-- Bytes of a word of a table with masked bits replaced by a value's. -/
def maskedBytes (mask : Nat → Nat) (place : Nat) (v : Nat) : Nat → List Byte → List Byte
  | _, [] => []
  | j, b :: rest =>
    let m := BitVec.ofNat 8 (mask (place + j))
    let x := BitVec.ofNat 8 (v / 256 ^ j)
    ((b &&& ~~~m) ||| (x &&& m)) :: maskedBytes mask place v (j + 1) rest

/-- Whether a value of word n of page 0 changes its LIST_ADDR, LIST_CAP or LOG2_D to one outside its range (Table 8.1,
R600). -/
def contextBad (n v old : Nat) : Bool :=
  match n with
  | 0 => v % 64 != 0
  | 2 => v != old && (decide (v < 1) || decide (2 ^ 24 < v))
  | 5 => bitsOf v 8 4 != bitsOf old 8 4 && (decide (bitsOf v 8 4 < 4) || decide (8 < bitsOf v 8 4))
  | _ => false

/-- MEMC_CTX_DATAn (R221, R222). -/
def State.writeContext (s : State) (n v : Nat) : State :=
  let t := s.shownContext.1
  let a := s.shownContext.2 + 4 * n
  if s.get Fld.MEMC_CTX_SEL_PAGE 0 ≠ 0 then s.storeNat a 4 v
  else
    let old := s.load a 4
    let bad := contextBad n v (fieldOf old 0 4)
    let keep (b : Nat) : Nat := if (n = 0 ∨ n = 2 ∨ b = 21) ∧ bad = true then 0 else contextMask b
    let new := maskedBytes keep (4 * n) v 0 old
    let u := s.doIf bad fun s => s.raise Flg.MEMC_KV_EVT_CFG_REFUSED 0
    if new = old then u
    else if s.ctxConfig t then u.store a new
    else u.doIf (!bad) fun u => u.raise Flg.MEMC_KV_EVT_CFG_REFUSED 0

/-- PLY_RANGE_DATAn (R269). -/
def State.writeRange (s : State) (h n v : Nat) : State :=
  let a := s.shownRange h + 4 * n
  let old := s.load a 4
  let new := maskedBytes rangeMask (4 * n) v 0 old
  if new = old then s
  else if s.rangeConfig h (s.get Fld.PLY_RANGE_SEL_ENTRY h) then s.store a new
  else s.raise Flg.PLY_EVT_CFG_REFUSED h

/-- Registers of the KV pool and of the ply engines (R235, R236, R258). -/
def State.writePool (s : State) (r : Reg) (i v : Nat) : State :=
  if r.base = Reg.MEMC_KV_CTRL.base then
    s.writeEn r i v Fld.MEMC_KV_CTRL_ENABLE (fun t => nextOr t (execKvEnableWrite true t))
      (fun t => if t.isSet Fld.MEMC_KV_CTRL_ENABLE 0 then nextOr t (execKvEnableWrite false t) else t)
  else if r.base = Reg.MEMC_KV_FREE_TAIL.base then nextOr s (execFreeTailWrite v s)
  else if r.base = Reg.MEMC_CTX_CMD.base then
    if v % 4 = 1 then nextOr s (execDropStage s.shownContext.1 s) else s.raise Flg.MEMC_KV_EVT_CFG_REFUSED 0
  else if r.base = Reg.MEMC_CTX_DATA.base then s.writeContext i v
  else if r.base = Reg.PLY_RANGE_DATA.base then s.writeRange (i / 256) (i % 256) v
  else s.writePlain r i v []

/-- Registers of the Flyer (Tables 10.9 and 10.10). -/
def State.writeFlyer (s : State) (r : Reg) (i v : Nat) : State :=
  if r.base = Reg.FLYER_LOOP_CMD.base then
    match v % 16 with
    | 1 => nextOr s (execLoopClose i s)
    | 2 => s.loopOpenReq i
    | 3 => nextOr s (execLoopRelease i s)
    | _ => s.loopRefuse i
  else if r.base = Reg.FLYER_OPEN_ALL.base then s.doIf (v % 2 == 1) fun s => nextOr s (execOpenAll s)
  else s.writePlain r i v []

/-- Registers of the carding block (R333, R337, R351, R356). -/
def State.writeCard (s : State) (r : Reg) (i v : Nat) : State :=
  if r.base = Reg.CARD_CAP_CTRL.base then
    s.writeEn r i v Fld.CARD_CAP_CTRL_EN (fun t => nextOr t (execCapEnable i t))
      (fun t => if t.isSet Fld.CARD_CAP_CTRL_EN i then nextOr t (execCapDisable i t) else t)
  else if r.base = Reg.CARD_DS_CTRL.base then
    s.writeEn r i v Fld.CARD_DS_CTRL_EN (fun t => nextOr t (execDsEnable i t))
      (fun t => if t.isSet Fld.CARD_DS_CTRL_EN i then nextOr t (execDsDisable i t) else t)
  else s.writePlain r i v []

/-- The value that a field of a register holds once a value has been written in CONFIG (R600). -/
def State.willHold (s : State) (f : Field) (i v : Nat) : Nat :=
  if f.legal.allows (bitsOf v f.lo f.width) then bitsOf v f.lo f.width else s.get f i

/-- ETH_SLOTs_CFG (R466, R478): a write that would leave a VALID slot whose payload passes its template is refused; a slot
that is VALID already keeps its length and its place of payload. -/
def State.writeEthSlot (s : State) (r : Reg) (i v : Nat) : State :=
  let fits := decide (s.willHold Fld.ETH_SLOT_CFG_PAYLOAD_OFS i v + 4 ≤ s.willHold Fld.ETH_SLOT_CFG_LEN_M1 i v + 1)
  if s.inConfig r i ∧ bitsOf v 31 1 = 1 ∧ fits = false then
    s.writeBut r i v (if s.isSet Fld.ETH_SLOT_CFG_VALID i then
      [Fld.ETH_SLOT_CFG_VALID, Fld.ETH_SLOT_CFG_LEN_M1, Fld.ETH_SLOT_CFG_PAYLOAD_OFS] else [Fld.ETH_SLOT_CFG_VALID])
  else s.writePlain r i v []

/-- CAN_SLOTs_CFG (R491, Table 16.5): LEN stays legal for the format.  A LEN that is not is refused, and FD with it where
the LEN held is not legal for it either. -/
def State.writeCanSlot (s : State) (r : Reg) (i v : Nat) : State :=
  let fd := bitsOf v 29 1
  if !s.inConfig r i || lenLegal fd (bitsOf v 0 7) then s.writePlain r i v []
  else s.writeBut r i v
    (if lenLegal fd (s.get Fld.CAN_SLOT_CFG_LEN i) then [Fld.CAN_SLOT_CFG_LEN] else [Fld.CAN_SLOT_CFG_LEN, Fld.CAN_SLOT_CFG_FD])

/-- Registers of the MACs and the CAN controllers (R459, R478, R486, R496). -/
def State.writeNet (s : State) (r : Reg) (i v : Nat) : State :=
  if r.base = Reg.ETH_CTRL.base then
    s.writeEn r i v Fld.ETH_CTRL_EN (fun t => t.ethEnable i true) (fun t => t.ethEnable i false)
  else if r.base = Reg.ETH_TX_KICK.base then s.txNext i
  else if r.base = Reg.ETH_SLOT_CFG.base then s.writeEthSlot r i v
  else if r.base = Reg.CAN_CTRL.base then
    s.writeEn r i v Fld.CAN_CTRL_EN (fun t => t.canEnable i)
      (fun t => if t.isSet Fld.CAN_CTRL_EN i then t.canDisable i else t)
  else if r.base = Reg.CAN_TX_TAIL.base then nextOr s (execCanTxTailWrite i v s)
  else if r.base = Reg.CAN_TX_ACK.base then nextOr s (execCanTxAckWrite i v s)
  else if r.base = Reg.CAN_RX_ACK.base then nextOr s (execCanRxAckWrite i v s)
  else if r.base = Reg.CAN_SLOT_CFG.base then s.writeCanSlot r i v
  else s.writePlain r i v []

/-- The fields of a value of IWL_CTRL that lie outside Table 14.4 or R437: each is judged with the others as the write
leaves them, in the order MODE, DIM_X, DIM_Y, PKG_ID (R600). -/
def State.topologyBad (s : State) (v : Nat) : List Field :=
  let mode := if bitsOf v 22 2 = 3 then s.get Fld.IWL_CTRL_MODE 0 else bitsOf v 22 2
  let x := bitsOf v 8 8
  let okX := decide (2 ≤ x) && decide (x ≤ if mode = 0 then 128 else if mode = 1 then 64 else 7)
  let x' := if okX then x else s.get Fld.IWL_CTRL_DIM_X 0
  let y := bitsOf v 0 8
  let okY := (if mode = 1 then decide (2 ≤ y) && decide (y ≤ 64) else y == 1) && decide (x' * y ≤ 128)
  let y' := if okY then y else s.get Fld.IWL_CTRL_DIM_Y 0
  (if bitsOf v 22 2 = 3 then [Fld.IWL_CTRL_MODE] else []) ++ (if okX then [] else [Fld.IWL_CTRL_DIM_X]) ++
  (if okY then [] else [Fld.IWL_CTRL_DIM_Y]) ++ (if bitsOf v 24 7 < x' * y' then [] else [Fld.IWL_CTRL_PKG_ID])

/-- IWL_CTRL (R437, R453, R600): a field outside its range keeps its value, and the others take theirs. -/
def State.writeTopology (s : State) (r : Reg) (i v : Nat) : State := s.writeBut r i v (s.topologyBad v)

/-- IWL_CTRL, and IWL_Pp_CTRL (R429). -/
def State.writePort (s : State) (r : Reg) (i v : Nat) : State :=
  if r.base = Reg.IWL_CTRL.base then s.writeTopology r i v
  else if r.base = Reg.IWL_P_CTRL.base then
    s.writeEn r i v Fld.IWL_P_CTRL_EN (fun t => t.portOn i)
      (fun t => if t.isSet Fld.IWL_P_CTRL_EN i then t.portOff i else t)
  else s.writePlain r i v []

/-! ## Pairs (R527) -/

/-- A pair write: main and checker's job and hank, and VALID. -/
structure PairCfg where
  mainJob : Nat
  checkJob : Nat
  mainHank : Nat
  checkHank : Nat
  valid : Bool
  deriving DecidableEq, Repr

/-- The pair that a value of SELV_PAIRp_CFG defines. -/
def PairCfg.ofValue (v : Nat) : PairCfg :=
  ⟨bitsOf v 8 8, bitsOf v 16 8, bitsOf v 27 3, bitsOf v 24 3, bitsOf v 31 1 == 1⟩

/-- The pair that SELV_PAIRp_CFG defines now. -/
def State.pairCfg (s : State) (p : Nat) : PairCfg :=
  ⟨s.get Fld.SELV_PAIR_CFG_MAIN_JOB p, s.get Fld.SELV_PAIR_CFG_CHECK_JOB p, s.get Fld.SELV_PAIR_CFG_MAIN_HANK p,
   s.get Fld.SELV_PAIR_CFG_CHECK_HANK p, s.isSet Fld.SELV_PAIR_CFG_VALID p⟩

/-- Whether a job has CLASS SAFETY, TWIST 1 and STEAL_EN 0. -/
def State.pairJob (s : State) (job : Nat) : Bool :=
  s.jobClass job == 0 && s.fixedTwist job && !s.isSet Fld.HEDDLE_JOB_CFG_STEAL_EN job

/-- Whether a hank holds no retired skein and is in no other VALID pair. -/
def State.pairHank (s : State) (p h : Nat) : Bool :=
  !s.hankRetired h && (List.range 4).all (fun q => q == p || !s.isSet Fld.SELV_PAIR_CFG_VALID q ||
    (s.get Fld.SELV_PAIR_CFG_MAIN_HANK q != h && s.get Fld.SELV_PAIR_CFG_CHECK_HANK q != h))

/-- Whether no job other than the checker's holds a region on the checker's hank. -/
def State.checkHankClear (s : State) (h job : Nat) : Bool :=
  (List.range 8).all (fun i => (List.range 8).all (fun n => !s.isSet Fld.SKEIN_BOB_REGION_VALID (ix (8 * h + i) n) ||
    s.get Fld.SKEIN_BOB_REGION_JOB (ix (8 * h + i) n) == job))

/-- The conditions of R527 for VALID 1. -/
def State.pairOk (s : State) (p : Nat) (c : PairCfg) : Bool :=
  c.mainJob != c.checkJob && s.jobConfig c.mainJob && s.jobConfig c.checkJob && s.pairJob c.mainJob && s.pairJob c.checkJob &&
  c.mainHank != c.checkHank && s.pairHank p c.mainHank && s.pairHank p c.checkHank && s.checkHankClear c.checkHank c.checkJob

/-- A pair takes a definition and starts afresh; its taint goes when the pair is cleared (R541). -/
def State.setPair (s : State) (p : Nat) (c : PairCfg) : State :=
  (s.setAll [(Fld.SELV_PAIR_CFG_MAIN_JOB, p, c.mainJob), (Fld.SELV_PAIR_CFG_CHECK_JOB, p, c.checkJob),
    (Fld.SELV_PAIR_CFG_MAIN_HANK, p, c.mainHank), (Fld.SELV_PAIR_CFG_CHECK_HANK, p, c.checkHank),
    (Fld.SELV_PAIR_CFG_VALID, p, bit c.valid), 
    (Fld.SELV_PAIR_CFG_DEBUG_TAINT, p, if c.valid then s.get Fld.SELV_PAIR_CFG_DEBUG_TAINT p else 0)]).putPair p Pair.reset

/-- A write of SELV_PAIRp_CFG. -/
def State.writePair (s : State) (p v : Nat) : State :=
  let c := PairCfg.ofValue v
  if c = s.pairCfg p then s
  else if !s.pairConfig p || (c.valid && !s.pairOk p c) then
    s.raise Flg.SELV_EVT_CFG_REFUSED 0
  else s.setPair p c

/-- PAIR_VALID_WRITE (R527). -/
def execPairValidWrite (pair value : Nat) (s : State) : Host.Outcome State Fault Refusal :=
  .next (s.host fun s => s.writePair pair value)

/-- Registers of the Selvedge, the enclave and the PWR block (R527, R574, R581). -/
def State.writeSafe (s : State) (r : Reg) (i v : Nat) : State :=
  if r.base = Reg.SELV_PAIR_CFG.base then s.writePair i v
  else if r.base = Reg.SEC_CMD.base then s.secCmd v
  else if r.base = Reg.PWR_VSET.base then nextOr s (execVsetWrite (v % 65536) s)
  else s.writePlain r i v []

/-! ## REG_WRITE -/

/-- A write of a whole register takes effect. -/
def State.writeReg (s : State) (r : Reg) (i v : Nat) : State :=
  let block := r.base / 0x100000
  if r.base = Reg.HUB_STATE_REQ.base then s.writeStateReq v
  else if block = 1 then s.writeWindowReg r i v
  else if block = 2 then s.writeHeddle r i v
  else if block = 3 then s.writeWhorl r i v
  else if block = 4 then s.writeFlyer r i v
  else if block = 5 then s.writeCard r i v
  else if block = 6 ∨ block = 7 then s.writeNet r i v
  else if block = 8 then s.writePort r i v
  else if block = 9 ∨ 32 ≤ block then s.writePool r i v
  else if 10 ≤ block ∧ block < 16 then s.writeSafe r i v
  else if 16 ≤ block then s.writeSkein r i v
  else s.writePlain r i v []

/-- The low half that a write of the high half takes without a staged one: the present RW and RWO fields, 0 elsewhere
(R7). -/
def State.presentLow (s : State) (r : Reg) (i : Nat) : Nat :=
  ((r.fields.filter (fun f => decide (f.acc = .rw) || decide (f.acc = .rwo))).map
    (fun f => s.readField f i * 2 ^ f.lo)).sum % 2 ^ 32

/-- A write of a BAR0 address. -/
def State.writeBar (s : State) (addr size value : Nat) : State :=
  let v := value % 2 ^ 32
  if !s.answersAt addr || !accessFits addr size then s
  else match Reg.lookup allRegs addr with
    | none => s
    | some (r, i, true) =>
      let low := match Sparse.find s.staging (addr - 4) with
        | some x => x
        | none => s.presentLow r i
      ({ s with staging := Sparse.erase s.staging (addr - 4) }).writeReg r i (low + 2 ^ 32 * v)
    | some (r, i, false) =>
      if r.wide then { s with staging := Sparse.insert s.staging addr v } else s.writeReg r i v

/-- REG_WRITE (R9): a host write of a set-up register. -/
def execRegWrite (fn offset size value : Nat) (s : State) : Host.Outcome State Fault Refusal :=
  .next (match s.busAddress fn offset with
    | some addr => s.writeBar addr size value
    | none => s)

end Sys2Proof.Machine
end

