-- ==== Sys2Proof/Machine/Dispatch.lean ====
section
/-! DEFINITION. One arm per command: the meaning that its family gives it. -/

namespace Sys2Proof.Machine

/-- The effect of a command on everything but the queue. -/
def exec (i : Instr) (s : State) : Host.Outcome State Fault Refusal :=
  match i with
  | .regWrite fn offset size value => Sys2Proof.Machine.execRegWrite fn offset size value s
  | .lowHalfRead fn offset => Sys2Proof.Machine.execLowHalfRead fn offset s
  | .rcCounterRead fn offset => Sys2Proof.Machine.execRcCounterRead fn offset s
  | .railsUp => Sys2Proof.Machine.execRailsUp s
  | .railLoss aonHolds => Sys2Proof.Machine.execRailLoss aonHolds s
  | .resetNAssert lowNs => Sys2Proof.Machine.execResetNAssert lowNs s
  | .resetNRelease => Sys2Proof.Machine.execResetNRelease s
  | .internalResetEnd => Sys2Proof.Machine.execInternalResetEnd s
  | .bootSequence inputs => Sys2Proof.Machine.execBootSequence inputs s
  | .stateReqRun => Sys2Proof.Machine.execStateReqRun s
  | .runStart => Sys2Proof.Machine.execRunStart s
  | .stateReqStandby => Sys2Proof.Machine.execStateReqStandby s
  | .runExit => Sys2Proof.Machine.execRunExit s
  | .stateReqSleep => Sys2Proof.Machine.execStateReqSleep s
  | .sleepEntry => Sys2Proof.Machine.execSleepEntry s
  | .stateReqReleaseSafe selfCheck => Sys2Proof.Machine.execStateReqReleaseSafe selfCheck s
  | .stateReqReset => Sys2Proof.Machine.execStateReqReset s
  | .wakeNEvent lowUs => Sys2Proof.Machine.execWakeNEvent lowUs s
  | .canWakeDominant channel us => Sys2Proof.Machine.execCanWakeDominant channel us s
  | .canWakeFrame channel id ide data => Sys2Proof.Machine.execCanWakeFrame channel id ide data s
  | .wakeBootStart => Sys2Proof.Machine.execWakeBootStart s
  | .wakeTimeout => Sys2Proof.Machine.execWakeTimeout s
  | .refclkLost => Sys2Proof.Machine.execRefclkLost s
  | .refclkRestored => Sys2Proof.Machine.execRefclkRestored s
  | .whorlStepWrite step => Sys2Proof.Machine.execWhorlStepWrite step s
  | .domainWrite domain => Sys2Proof.Machine.execDomainWrite domain s
  | .holdEnd => Sys2Proof.Machine.execHoldEnd s
  | .timeWaveFrame bad => Sys2Proof.Machine.execTimeWaveFrame bad s
  | .beatmonUpdate beats => Sys2Proof.Machine.execBeatmonUpdate beats s
  | .launchGuard uid => Sys2Proof.Machine.execLaunchGuard uid s
  | .launchStart uid => Sys2Proof.Machine.execLaunchStart uid s
  | .launchLate uid => Sys2Proof.Machine.execLaunchLate uid s
  | .bundle skein core => Sys2Proof.Machine.execBundle skein core s
  | .bundleResume skein core => Sys2Proof.Machine.execBundleResume skein core s
  | .tokenWaitRegister waiter => Sys2Proof.Machine.execTokenWaitRegister waiter s
  | .tokenSignalArrive token => Sys2Proof.Machine.execTokenSignalArrive token s
  | .tokenAssign skein index job count target level => Sys2Proof.Machine.execTokenAssign skein index job count target level s
  | .tokenRelease skein index => Sys2Proof.Machine.execTokenRelease skein index s
  | .releaseTokens job => Sys2Proof.Machine.execReleaseTokens job s
  | .matmul uid beats => Sys2Proof.Machine.execMatmul uid beats s
  | .vec uid beats => Sys2Proof.Machine.execVec uid beats s
  | .conv uid beats => Sys2Proof.Machine.execConv uid beats s
  | .pool uid beats => Sys2Proof.Machine.execPool uid beats s
  | .attn uid beats vecBeats => Sys2Proof.Machine.execAttn uid beats vecBeats s
  | .kvappend uid beats => Sys2Proof.Machine.execKvappend uid beats s
  | .kvappendWaitEnd uid => Sys2Proof.Machine.execKvappendWaitEnd uid s
  | .kvappendTimeout uid => Sys2Proof.Machine.execKvappendTimeout uid s
  | .kvappendCommit uid => Sys2Proof.Machine.execKvappendCommit uid s
  | .slotFlush stream => Sys2Proof.Machine.execSlotFlush stream s
  | .flushDeadline uid => Sys2Proof.Machine.execFlushDeadline uid s
  | .dropStage stream => Sys2Proof.Machine.execDropStage stream s
  | .kvEnableWrite enable => Sys2Proof.Machine.execKvEnableWrite enable s
  | .freeTailWrite tail => Sys2Proof.Machine.execFreeTailWrite tail s
  | .solve uid beats => Sys2Proof.Machine.execSolve uid beats s
  | .dyn uid beats => Sys2Proof.Machine.execDyn uid beats s
  | .move uid beats => Sys2Proof.Machine.execMove uid beats s
  | .prog uid => Sys2Proof.Machine.execProg uid s
  | .wait uid => Sys2Proof.Machine.execWait uid s
  | .waitDeadline uid => Sys2Proof.Machine.execWaitDeadline uid s
  | .signal uid => Sys2Proof.Machine.execSignal uid s
  | .fenceDescriptor uid => Sys2Proof.Machine.execFenceDescriptor uid s
  | .digest uid beats => Sys2Proof.Machine.execDigest uid beats s
  | .commandComplete uid => Sys2Proof.Machine.execCommandComplete uid s
  | .abortTokenReset => Sys2Proof.Machine.execAbortTokenReset s
  | .abortRecoveryEnd => Sys2Proof.Machine.execAbortRecoveryEnd s
  | .loomYield skein => Sys2Proof.Machine.execLoomYield skein s
  | .plyYield hank => Sys2Proof.Machine.execPlyYield hank s
  | .regionWrite skein region value => Sys2Proof.Machine.execRegionWrite skein region value s
  | .winOpen skein window => Sys2Proof.Machine.execWinOpen skein window s
  | .winClose skein window => Sys2Proof.Machine.execWinClose skein window s
  | .winDrained skein window => Sys2Proof.Machine.execWinDrained skein window s
  | .winAlarmPeriod skein => Sys2Proof.Machine.execWinAlarmPeriod skein s
  | .apertureRead offset size => Sys2Proof.Machine.execApertureRead offset size s
  | .apertureWrite offset size value => Sys2Proof.Machine.execApertureWrite offset size value s
  | .loopSample loop => Sys2Proof.Machine.execLoopSample loop s
  | .loopClose loop => Sys2Proof.Machine.execLoopClose loop s
  | .loopOpen loop => Sys2Proof.Machine.execLoopOpen loop s
  | .loopRelease loop => Sys2Proof.Machine.execLoopRelease loop s
  | .openAll => Sys2Proof.Machine.execOpenAll s
  | .encEdge channel edge => Sys2Proof.Machine.execEncEdge channel edge s
  | .ssiFrameStart channel => Sys2Proof.Machine.execSsiFrameStart channel s
  | .ssiFrameEnd channel value parity => Sys2Proof.Machine.execSsiFrameEnd channel value parity s
  | .ssiTimeout channel => Sys2Proof.Machine.execSsiTimeout channel s
  | .sdOutput channel bits => Sys2Proof.Machine.execSdOutput channel bits s
  | .sdClkLost channel => Sys2Proof.Machine.execSdClkLost channel s
  | .adcTrigger channel => Sys2Proof.Machine.execAdcTrigger channel s
  | .adcEndOfConversion channel code => Sys2Proof.Machine.execAdcEndOfConversion channel code s
  | .pwmCounterZero group => Sys2Proof.Machine.execPwmCounterZero group s
  | .pwmCentreLoad group => Sys2Proof.Machine.execPwmCentreLoad group s
  | .frameStartPacket stream vc csiFrame corrected => Sys2Proof.Machine.execFrameStartPacket stream vc csiFrame corrected s
  | .linePacket stream vc dt header checksumOk pixels => Sys2Proof.Machine.execLinePacket stream vc dt header checksumOk pixels s
  | .frameEndPacket stream vc corrected => Sys2Proof.Machine.execFrameEndPacket stream vc corrected s
  | .publicationDecision stream => Sys2Proof.Machine.execPublicationDecision stream s
  | .capEnable stream => Sys2Proof.Machine.execCapEnable stream s
  | .capDisable stream => Sys2Proof.Machine.execCapDisable stream s
  | .dsEnable stream => Sys2Proof.Machine.execDsEnable stream s
  | .dsDisable stream => Sys2Proof.Machine.execDsDisable stream s
  | .dsSampleStart stream position => Sys2Proof.Machine.execDsSampleStart stream position s
  | .dsSampleEnd stream position epoch => Sys2Proof.Machine.execDsSampleEnd stream position epoch s
  | .decodeBudget stream position => Sys2Proof.Machine.execDecodeBudget stream position s
  | .batchPublish stream => Sys2Proof.Machine.execBatchPublish stream s
  | .sqDoorbell client sq offset size value => Sys2Proof.Machine.execSqDoorbell client sq offset size value s
  | .cqDoorbell client cq offset size value => Sys2Proof.Machine.execCqDoorbell client cq offset size value s
  | .descriptorFetch readFails => Sys2Proof.Machine.execDescriptorFetch readFails s
  | .completionRecordWrite client cq => Sys2Proof.Machine.execCompletionRecordWrite client cq s
  | .coalTimer client cq => Sys2Proof.Machine.execCoalTimer client cq s
  | .msixUnmask client vector => Sys2Proof.Machine.execMsixUnmask client vector s
  | .sqEnable client sq => Sys2Proof.Machine.execSqEnable client sq s
  | .sqDisable client sq => Sys2Proof.Machine.execSqDisable client sq s
  | .cqEnable client cq => Sys2Proof.Machine.execCqEnable client cq s
  | .cqDisable client cq => Sys2Proof.Machine.execCqDisable client cq s
  | .functionLevelReset client => Sys2Proof.Machine.execFunctionLevelReset client s
  | .flrTimeout client => Sys2Proof.Machine.execFlrTimeout client s
  | .tableLoad => Sys2Proof.Machine.execTableLoad s
  | .tableArm => Sys2Proof.Machine.execTableArm s
  | .cycleBoundary => Sys2Proof.Machine.execCycleBoundary s
  | .slotOpen slot => Sys2Proof.Machine.execSlotOpen slot s
  | .slotClose slot => Sys2Proof.Machine.execSlotClose slot s
  | .quiesceStart slot => Sys2Proof.Machine.execQuiesceStart slot s
  | .goldenRunEnd skein equal beats vecBeats => Sys2Proof.Machine.execGoldenRunEnd skein equal beats vecBeats s
  | .goldenTimeout skein => Sys2Proof.Machine.execGoldenTimeout skein s
  | .steal uid thief => Sys2Proof.Machine.execSteal uid thief s
  | .stealCopyBackEnd uid => Sys2Proof.Machine.execStealCopyBackEnd uid s
  | .drainEnd => Sys2Proof.Machine.execDrainEnd s
  | .drainTimeout => Sys2Proof.Machine.execDrainTimeout s
  | .sliceEnd pass plyFails beats => Sys2Proof.Machine.execSliceEnd pass plyFails beats s
  | .accountingInterval => Sys2Proof.Machine.execAccountingInterval s
  | .portEnable port => Sys2Proof.Machine.execPortEnable port s
  | .portDisable port => Sys2Proof.Machine.execPortDisable port s
  | .portTrained port lanes fec neighbour => Sys2Proof.Machine.execPortTrained port lanes fec neighbour s
  | .linkDown port => Sys2Proof.Machine.execLinkDown port s
  | .dataFlit port flit corrected failed => Sys2Proof.Machine.execDataFlit port flit corrected failed s
  | .idleFlit port flit corrected failed => Sys2Proof.Machine.execIdleFlit port flit corrected failed s
  | .nakFlit port flit corrected failed => Sys2Proof.Machine.execNakFlit port flit corrected failed s
  | .syncFlit port flit corrected failed => Sys2Proof.Machine.execSyncFlit port flit corrected failed s
  | .replayTimeout port => Sys2Proof.Machine.execReplayTimeout port s
  | .syncSend port => Sys2Proof.Machine.execSyncSend port s
  | .tsLost => Sys2Proof.Machine.execTsLost s
  | .rowWrite port vc => Sys2Proof.Machine.execRowWrite port vc s
  | .rowRead port vc => Sys2Proof.Machine.execRowRead port vc s
  | .tokenSignal port vc => Sys2Proof.Machine.execTokenSignal port vc s
  | .barrierArrive port vc => Sys2Proof.Machine.execBarrierArrive port vc s
  | .barrierRelease port vc => Sys2Proof.Machine.execBarrierRelease port vc s
  | .parcel port vc => Sys2Proof.Machine.execParcel port vc s
  | .parcelUnblock port vc => Sys2Proof.Machine.execParcelUnblock port vc s
  | .ack port vc => Sys2Proof.Machine.execAck port vc s
  | .readData port vc => Sys2Proof.Machine.execReadData port vc s
  | .refuse port vc => Sys2Proof.Machine.execRefuse port vc s
  | .parcelAck port vc => Sys2Proof.Machine.execParcelAck port vc s
  | .remoteTimeout xid => Sys2Proof.Machine.execRemoteTimeout xid s
  | .relaySignal skein index => Sys2Proof.Machine.execRelaySignal skein index s
  | .ethEnable mac enable => Sys2Proof.Machine.execEthEnable mac enable s
  | .ethTxKick mac => Sys2Proof.Machine.execEthTxKick mac s
  | .ethTxStart mac => Sys2Proof.Machine.execEthTxStart mac s
  | .ethTxDone mac => Sys2Proof.Machine.execEthTxDone mac s
  | .ethTxLate mac => Sys2Proof.Machine.execEthTxLate mac s
  | .ethRxFrame mac frame fcsOk sfd => Sys2Proof.Machine.execEthRxFrame mac frame fcsOk sfd s
  | .ethLinkChange mac up rate => Sys2Proof.Machine.execEthLinkChange mac up rate s
  | .domOfsWrite set ofs => Sys2Proof.Machine.execDomOfsWrite set ofs s
  | .domRateWrite set rate => Sys2Proof.Machine.execDomRateWrite set rate s
  | .domainLost set => Sys2Proof.Machine.execDomainLost set s
  | .timeInEdge pin rising ticks => Sys2Proof.Machine.execTimeInEdge pin rising ticks s
  | .tinStampHighRead pin => Sys2Proof.Machine.execTinStampHighRead pin s
  | .canEnable ctrl => Sys2Proof.Machine.execCanEnable ctrl s
  | .canDisable ctrl => Sys2Proof.Machine.execCanDisable ctrl s
  | .canTxTailWrite ctrl value => Sys2Proof.Machine.execCanTxTailWrite ctrl value s
  | .canTxAckWrite ctrl value => Sys2Proof.Machine.execCanTxAckWrite ctrl value s
  | .canRxAckWrite ctrl value => Sys2Proof.Machine.execCanRxAckWrite ctrl value s
  | .canTxAttempt ctrl => Sys2Proof.Machine.execCanTxAttempt ctrl s
  | .canArbLost ctrl => Sys2Proof.Machine.execCanArbLost ctrl s
  | .canTxDone ctrl => Sys2Proof.Machine.execCanTxDone ctrl s
  | .canTxLate ctrl => Sys2Proof.Machine.execCanTxLate ctrl s
  | .canRxFrame ctrl frame sof => Sys2Proof.Machine.execCanRxFrame ctrl frame sof s
  | .canProtocolError ctrl tec rxc => Sys2Proof.Machine.execCanProtocolError ctrl tec rxc s
  | .canBusOffRecovery ctrl => Sys2Proof.Machine.execCanBusOffRecovery ctrl s
  | .ndcClear job => Sys2Proof.Machine.execNdcClear job s
  | .lockstepMismatch => Sys2Proof.Machine.execLockstepMismatch s
  | .pairDecision pair => Sys2Proof.Machine.execPairDecision pair s
  | .pairTimeout pair => Sys2Proof.Machine.execPairTimeout pair s
  | .pairFrameEnd pair => Sys2Proof.Machine.execPairFrameEnd pair s
  | .pairValidWrite pair value => Sys2Proof.Machine.execPairValidWrite pair value s
  | .engineHang uid => Sys2Proof.Machine.execEngineHang uid s
  | .dtiExceeded skein => Sys2Proof.Machine.execDtiExceeded skein s
  | .dtiFault skein => Sys2Proof.Machine.execDtiFault skein s
  | .refHoldExpire => Sys2Proof.Machine.execRefHoldExpire s
  | .jnlRead => Sys2Proof.Machine.execJnlRead s
  | .jnlWrite => Sys2Proof.Machine.execJnlWrite s
  | .jnlDelete => Sys2Proof.Machine.execJnlDelete s
  | .ctrInc => Sys2Proof.Machine.execCtrInc s
  | .update => Sys2Proof.Machine.execUpdate s
  | .activate => Sys2Proof.Machine.execActivate s
  | .commitVersion => Sys2Proof.Machine.execCommitVersion s
  | .attest => Sys2Proof.Machine.execAttest s
  | .debugChallenge => Sys2Proof.Machine.execDebugChallenge s
  | .debugUnlock => Sys2Proof.Machine.execDebugUnlock s
  | .debugLock => Sys2Proof.Machine.execDebugLock s
  | .secCommandDone => Sys2Proof.Machine.execSecCommandDone s
  | .compactionEnd => Sys2Proof.Machine.execCompactionEnd s
  | .tamperTrip sensors => Sys2Proof.Machine.execTamperTrip sensors s
  | .zeroisationComplete => Sys2Proof.Machine.execZeroisationComplete s
  | .vsetWrite mv => Sys2Proof.Machine.execVsetWrite mv s
  | .rampStep => Sys2Proof.Machine.execRampStep s
  | .avsTransactionFail => Sys2Proof.Machine.execAvsTransactionFail s
  | .telemetrySample coreMv coreCurrent sramMv sramCurrent tj status => Sys2Proof.Machine.execTelemetrySample coreMv coreCurrent sramMv sramCurrent tj status s
  | .powerWindow => Sys2Proof.Machine.execPowerWindow s
  | .canBusIntegrated ctrl => Sys2Proof.Machine.execCanBusIntegrated ctrl s
  | .debuggerHaltStep target action => Sys2Proof.Machine.execDebuggerHaltStep target action s

end Sys2Proof.Machine
end

