-- ==== Sys2Proof/Machine/Pins.lean ====
section
/-! DEFINITION. The behaviour of the pins by device state (R594, R595, Table 21.3). -/

namespace Sys2Proof.Machine

/-- The input pins whose units have an enable, and those of the always-on domain. -/
inductive InPin where
  | enc (channel : Nat) | ssi (channel : Nat) | sd (channel : Nat) | time (pin : Nat) | canRxd (ctrl : Nat)
  | wakeN | resetN
  deriving DecidableEq, Repr

/-- The lanes of Table 21.3: PCIe, a port of Idward, a MAC, and the MIPI port of a capture stream. -/
inductive Lanes where
  | pcie | idward (port : Nat) | eth (mac : Nat) | mipi (stream : Nat)
  deriving DecidableEq, Repr

/-- The pin groups of Table 21.3. -/
inductive PinGroup where
  | pwm (group pin : Nat)
  | canTxd (ctrl : Nat)
  | faultN | safeState | mainEn
  | ssiClock | flashClock | flashCsN | avsBus | lpCommand | lpData | tdo
  | lanes (l : Lanes)
  | input (p : InPin)
  deriving DecidableEq, Repr

/-- What a pin shows: a level, a drive by its unit, high impedance, a lane with no load, or an enabled input. -/
inductive PinLevel where
  | low | high | driven | highZ | noLoad | listens
  deriving DecidableEq, Repr

/-- A known level, or high impedance. -/
def pinOf : Option Bool → PinLevel
  | some true => .high
  | some false => .low
  | none => .highZ

/-- Whether an input pin is enabled: by its unit from BOOT onward, and as a listener's input in SLEEP (R493, R591). -/
def State.inputOn (s : State) : InPin → Bool
  | .enc e => s.powered && decide (s.get Fld.FLYER_ENC_CFG_MODE e ≤ 2)
  | .ssi n => s.powered && decide (8 ≤ s.get Fld.FLYER_SSI_CFG_BITS n)
  | .sd n => s.powered && s.isSet Fld.FLYER_SD_CFG_EN n
  | .time n => s.powered && s.isSet Fld.WHORL_TINPIN_CFG_EN n
  | .canRxd n => (s.powered && (s.isSet Fld.CAN_CTRL_EN n || (s.can n).ending.isSome)) ||
      (decide (s.dev = .sleep) && decide (n < 4) && s.get Fld.CAN_WAKE_CFG_MODE n != 0)
  | .wakeN => decide (s.dev = .sleep)
  | .resetN => s.aon.up

/-- Whether lanes have been trained or enabled: PCIe in BOOT, the others on enable; ALARM has no link (Table 1.7). -/
def State.lanesOn (s : State) : Lanes → Bool
  | .pcie => s.linked
  | .idward p => s.ioOn && s.isSet Fld.IWL_P_CTRL_EN p
  | .eth m => s.ioOn && s.isSet Fld.ETH_CTRL_EN m && s.get Fld.ETH_CTRL_MODE m != 0
  | .mipi n => s.ioOn && s.isSet Fld.CARD_CAP_CTRL_EN n

/-- Whether the flash is at work: the boot reads it, and a compaction writes it (R558, R566). -/
def State.flashBusy (s : State) : Bool := decide (s.dev = .boot) || s.isSet Fld.SEC_STATUS_COMPACTING 0

/-- The level of a pin of each group in the present state (R594, R595). -/
def State.pinLevel (s : State) : PinGroup → PinLevel
  | .pwm g p => match s.pwmLevel g p with
    | .low => .low
    | .high => .high
    | .highZ => .highZ
    | .carrier _ => .driven
  | .canTxd n =>
    if !s.powered then .highZ
    else if s.isSet Fld.CAN_CTRL_EN n || (s.can n).attempt.isSome then .driven else .high
  | .faultN => pinOf s.faultN
  | .safeState => pinOf s.safeState
  | .mainEn => pinOf s.mainEn
  | .ssiClock | .flashClock | .avsBus | .lpData => if s.powered then .driven else .highZ
  | .flashCsN => if !s.powered then .highZ else if s.flashBusy then .driven else .high
  | .lpCommand => if s.powered then .driven else if s.dev = DevState.reset then .low else .highZ
  | .lanes l => if s.lanesOn l then .driven else .noLoad
  | .input p => if s.inputOn p then .listens else .highZ
  | .tdo => if s.powered && !s.isSet Fld.SEC_STATUS_DEBUG_LOCKED 0 then .driven else .highZ

end Sys2Proof.Machine
end

