-- ==== Sys2Proof/Laws/Memory.lean ====
section
/-! SUPPORT. Sparse maps and memory: the canonical form, which every operation keeps, and what a read finds after a
write. -/

namespace Sys2Proof.Machine

variable {α : Type}

/-! ## Sparse maps -/

/-- Sortedness, said of the list of keys. -/
theorem Sparse.sorted_iff (m : List (Nat × α)) :
    Sparse.sorted m = true ↔ m.Pairwise (fun p q => p.1 < q.1) := by
  induction m with
  | nil => simp [Sparse.sorted]
  | cons p rest ih => simp [Sparse.sorted, ih, List.pairwise_cons]

/-- Taking entries out keeps the order. -/
theorem Sparse.sorted_filter {m : List (Nat × α)} (p : Nat × α → Bool) (h : Sparse.sorted m = true) :
    Sparse.sorted (m.filter p) = true := by
  rw [Sparse.sorted_iff] at *
  exact h.filter p

/-- Two sorted runs, all of the first below all of the second, are sorted together. -/
theorem Sparse.sorted_append {m n : List (Nat × α)} (hm : Sparse.sorted m = true) (hn : Sparse.sorted n = true)
    (h : ∀ p ∈ m, ∀ q ∈ n, p.1 < q.1) : Sparse.sorted (m ++ n) = true := by
  rw [Sparse.sorted_iff] at *
  exact List.pairwise_append.mpr ⟨hm, hn, h⟩

theorem Sparse.mem_below {m : List (Nat × α)} {a : Nat} {p : Nat × α} :
    p ∈ Sparse.below m a ↔ p ∈ m ∧ p.1 < a := by
  simp [Sparse.below]

theorem Sparse.mem_above {m : List (Nat × α)} {a : Nat} {p : Nat × α} :
    p ∈ Sparse.above m a ↔ p ∈ m ∧ a ≤ p.1 := by
  simp [Sparse.above]

theorem Sparse.sorted_below {m : List (Nat × α)} (a : Nat) (h : Sparse.sorted m = true) :
    Sparse.sorted (Sparse.below m a) = true := Sparse.sorted_filter _ h

theorem Sparse.sorted_above {m : List (Nat × α)} (a : Nat) (h : Sparse.sorted m = true) :
    Sparse.sorted (Sparse.above m a) = true := Sparse.sorted_filter _ h

/-- A run of entries from `a` on in place of those from `a` to `b` keeps the order. -/
theorem Sparse.sorted_splice {m mid : List (Nat × α)} {a b : Nat} (h : Sparse.sorted m = true)
    (hmid : Sparse.sorted mid = true) (hr : ∀ p ∈ mid, a ≤ p.1 ∧ p.1 < b) (hab : a ≤ b) :
    Sparse.sorted (Sparse.below m a ++ (mid ++ Sparse.above m b)) = true := by
  refine Sparse.sorted_append (Sparse.sorted_below a h)
    (Sparse.sorted_append hmid (Sparse.sorted_above b h) ?_) ?_
  · intro p hp q hq
    have := hr p hp
    have := (Sparse.mem_above.mp hq).2
    omega
  · intro p hp q hq
    have hp' := (Sparse.mem_below.mp hp).2
    rcases List.mem_append.mp hq with hq | hq
    · have := hr q hq
      omega
    · have := (Sparse.mem_above.mp hq).2
      omega

/-- Erasing a key keeps the order. -/
theorem Sparse.sorted_erase {m : List (Nat × α)} (a : Nat) (h : Sparse.sorted m = true) :
    Sparse.sorted (Sparse.erase m a) = true := by
  have := Sparse.sorted_splice (mid := []) (a := a) (b := a + 1) h (by simp [Sparse.sorted]) (by simp) (by omega)
  simpa [Sparse.erase] using this

/-- Inserting a key keeps the order. -/
theorem Sparse.sorted_insert {m : List (Nat × α)} (a : Nat) (v : α) (h : Sparse.sorted m = true) :
    Sparse.sorted (Sparse.insert m a v) = true := by
  have := Sparse.sorted_splice (mid := [(a, v)]) (a := a) (b := a + 1) h (by simp [Sparse.sorted]) (by simp) (by omega)
  simpa [Sparse.insert] using this

/-- A write keeps the order. -/
theorem Sparse.sorted_put [DecidableEq α] (d : α) {m : List (Nat × α)} (a : Nat) (v : α) (h : Sparse.sorted m = true) :
    Sparse.sorted (Sparse.put d m a v) = true := by
  unfold Sparse.put
  split
  · exact Sparse.sorted_erase a h
  · exact Sparse.sorted_insert a v h

/-! ## What a lookup finds -/

theorem Sparse.find_append (m n : List (Nat × α)) (a : Nat) :
    Sparse.find (m ++ n) a = (Sparse.find m a).or (Sparse.find n a) := by
  induction m with
  | nil => simp [Sparse.find]
  | cons p rest ih =>
    obtain ⟨k, v⟩ := p
    by_cases h : k = a <;> simp [Sparse.find, h, ih]

theorem Sparse.find_filter_true {m : List (Nat × α)} {p : Nat × α → Bool} {a : Nat}
    (h : ∀ v, p (a, v) = true) : Sparse.find (m.filter p) a = Sparse.find m a := by
  induction m with
  | nil => simp [Sparse.find]
  | cons q rest ih =>
    obtain ⟨k, v⟩ := q
    by_cases hk : k = a
    · subst hk
      simp [h, Sparse.find]
    · by_cases hp : p (k, v) = true <;> simp [hp, Sparse.find, hk, ih]

theorem Sparse.find_filter_false {m : List (Nat × α)} {p : Nat × α → Bool} {a : Nat}
    (h : ∀ v, p (a, v) = false) : Sparse.find (m.filter p) a = none := by
  induction m with
  | nil => simp [Sparse.find]
  | cons q rest ih =>
    obtain ⟨k, v⟩ := q
    by_cases hk : k = a
    · subst hk
      simp [h, ih]
    · by_cases hp : p (k, v) = true <;> simp [hp, Sparse.find, hk, ih]

theorem Sparse.find_below (m : List (Nat × α)) (a b : Nat) :
    Sparse.find (Sparse.below m b) a = if a < b then Sparse.find m a else none := by
  by_cases h : a < b
  · rw [if_pos h]
    exact Sparse.find_filter_true (fun v => by simp [h])
  · rw [if_neg h]
    exact Sparse.find_filter_false (fun v => by simp [h])

theorem Sparse.find_above (m : List (Nat × α)) (a b : Nat) :
    Sparse.find (Sparse.above m b) a = if b ≤ a then Sparse.find m a else none := by
  by_cases h : b ≤ a
  · rw [if_pos h]
    exact Sparse.find_filter_true (fun v => by simp [h])
  · rw [if_neg h]
    exact Sparse.find_filter_false (fun v => by simp [h])

/-- What a lookup finds after an erasure. -/
theorem Sparse.find_erase (m : List (Nat × α)) (a b : Nat) :
    Sparse.find (Sparse.erase m a) b = if b = a then none else Sparse.find m b := by
  unfold Sparse.erase
  rw [Sparse.find_append, Sparse.find_below, Sparse.find_above]
  by_cases h : b = a
  · subst h
    have h2 : ¬ b + 1 ≤ b := by omega
    simp [h2]
  · by_cases h1 : b < a
    · have h2 : ¬ a + 1 ≤ b := by omega
      simp [h1, h2, h]
    · have h2 : a + 1 ≤ b := by omega
      simp [h1, h2, h]

/-- What a lookup finds after an insertion. -/
theorem Sparse.find_insert (m : List (Nat × α)) (a b : Nat) (v : α) :
    Sparse.find (Sparse.insert m a v) b = if b = a then some v else Sparse.find m b := by
  unfold Sparse.insert
  rw [Sparse.find_append, Sparse.find_below]
  by_cases h : b = a
  · subst h; simp [Sparse.find]
  · have h' : ¬ a = b := fun e => h e.symm
    by_cases h1 : b < a
    · have h2 : ¬ a + 1 ≤ b := by omega
      simp [Sparse.find, Sparse.find_above, h1, h2, h, h']
    · have h2 : a + 1 ≤ b := by omega
      simp [Sparse.find, Sparse.find_above, h1, h2, h, h']

/-- What a key holds after a write. -/
theorem Sparse.get_put [DecidableEq α] (d : α) (m : List (Nat × α)) (a b : Nat) (v : α) :
    Sparse.get d (Sparse.put d m a v) b = if b = a then v else Sparse.get d m b := by
  unfold Sparse.put Sparse.get
  by_cases hv : v = d
  · rw [if_pos hv, Sparse.find_erase]
    by_cases h : b = a <;> simp [h, hv]
  · rw [if_neg hv, Sparse.find_insert]
    by_cases h : b = a <;> simp [h]

/-! ## Memory -/

theorem Memory.wf_iff (m : List Host.Cell) :
    Memory.wf m = true ↔ Sparse.sorted m = true ∧ ∀ p ∈ m, p.2 ≠ Mem.default p.1 := by
  simp [Memory.wf, Mem.noDefault]

/-- Taking entries out keeps the canonical form. -/
theorem Memory.wf_filter {m : List Host.Cell} (p : Host.Cell → Bool) (h : Memory.wf m = true) :
    Memory.wf (m.filter p) = true := by
  rw [Memory.wf_iff] at *
  exact ⟨Sparse.sorted_filter p h.1, fun q hq => h.2 q (List.mem_filter.mp hq).1⟩

/-- The cells of a run lie in it, rise, and hold no default. -/
theorem Mem.cells_spec (bs : List Byte) (a : Nat) :
    Sparse.sorted (Mem.cells a bs) = true ∧
      ∀ p ∈ Mem.cells a bs, (a ≤ p.1 ∧ p.1 < a + bs.length) ∧ p.2 ≠ Mem.default p.1 := by
  induction bs generalizing a with
  | nil => simp [Mem.cells, Sparse.sorted]
  | cons b rest ih =>
    have := ih (a + 1)
    unfold Mem.cells
    split
    · refine ⟨this.1, fun p hp => ?_⟩
      have hp' := this.2 p hp
      simp only [List.length_cons]
      exact ⟨by omega, hp'.2⟩
    · rename_i hb
      refine ⟨?_, fun p hp => ?_⟩
      · simp only [Sparse.sorted, Bool.and_eq_true, List.all_eq_true, decide_eq_true_eq]
        refine ⟨fun p hp => ?_, this.1⟩
        have := (this.2 p hp).1
        omega
      · simp only [List.length_cons]
        rcases List.mem_cons.mp hp with rfl | hp
        · exact ⟨by simp, hb⟩
        · have hp' := this.2 p hp
          exact ⟨by omega, hp'.2⟩

/-- Writing a run keeps the canonical form. -/
theorem Memory.wf_write {m : List Host.Cell} (a : Nat) (bs : List Byte) (h : Memory.wf m = true) :
    Memory.wf (Mem.write m a bs) = true := by
  rw [Memory.wf_iff] at *
  have hc := Mem.cells_spec bs a
  refine ⟨Sparse.sorted_splice h.1 hc.1 (fun p hp => (hc.2 p hp).1) (by omega), fun p hp => ?_⟩
  rcases List.mem_append.mp hp with hp | hp
  · exact h.2 p (Sparse.mem_below.mp hp).1
  · rcases List.mem_append.mp hp with hp | hp
    · exact (hc.2 p hp).2
    · exact h.2 p (Sparse.mem_above.mp hp).1

/-- Clearing a run keeps the canonical form. -/
theorem Memory.wf_clear {m : List Host.Cell} (a n : Nat) (h : Memory.wf m = true) :
    Memory.wf (Mem.clear m a n) = true := by
  rw [Memory.wf_iff] at *
  have hs := Sparse.sorted_splice (mid := []) (a := a) (b := a + n) h.1 (by simp [Sparse.sorted]) (by simp) (by omega)
  refine ⟨by simpa [Mem.clear] using hs, fun p hp => ?_⟩
  rcases List.mem_append.mp hp with hp | hp
  · exact h.2 p (Sparse.mem_below.mp hp).1
  · exact h.2 p (Sparse.mem_above.mp hp).1

theorem Mem.find_cells (bs : List Byte) (a b : Nat) :
    (Sparse.find (Mem.cells a bs) b).getD (Mem.default b) =
      if a ≤ b ∧ b < a + bs.length then bs.getD (b - a) 0 else Mem.default b := by
  induction bs generalizing a with
  | nil =>
    have : ¬ (a ≤ b ∧ b < a + ([] : List Byte).length) := by simp
    rw [if_neg this]
    simp [Mem.cells, Sparse.find]
  | cons c rest ih =>
    have ih' := ih (a + 1)
    by_cases hab : a = b
    · subst hab
      have hn : ¬ (a + 1 ≤ a ∧ a < a + 1 + rest.length) := by omega
      rw [if_neg hn] at ih'
      unfold Mem.cells
      split
      · rename_i hc
        simp [ih', hc]
      · simp [Sparse.find]
    · have e : (a ≤ b ∧ b < a + (c :: rest).length) ↔ (a + 1 ≤ b ∧ b < a + 1 + rest.length) := by
        simp only [List.length_cons]; omega
      have hget : (a + 1 ≤ b ∧ b < a + 1 + rest.length) → (c :: rest).getD (b - a) 0 = rest.getD (b - (a + 1)) 0 := by
        intro h
        obtain ⟨k, hk⟩ : ∃ k, b - a = k + 1 := ⟨b - a - 1, by omega⟩
        have : b - (a + 1) = k := by omega
        rw [hk, this]; simp
      unfold Mem.cells
      split
      · rw [ih']
        by_cases h : a + 1 ≤ b ∧ b < a + 1 + rest.length
        · rw [if_pos h, if_pos (e.mpr h), hget h]
        · rw [if_neg h, if_neg (fun x => h (e.mp x))]
      · simp only [Sparse.find, hab, if_false]
        rw [ih']
        by_cases h : a + 1 ≤ b ∧ b < a + 1 + rest.length
        · rw [if_pos h, if_pos (e.mpr h), hget h]
        · rw [if_neg h, if_neg (fun x => h (e.mp x))]

theorem Mem.find_cells_none {bs : List Byte} {a b : Nat} (h : ¬ (a ≤ b ∧ b < a + bs.length)) :
    Sparse.find (Mem.cells a bs) b = none := by
  induction bs generalizing a with
  | nil => simp [Mem.cells, Sparse.find]
  | cons c rest ih =>
    simp only [List.length_cons] at h
    have ih' := ih (a := a + 1) (by omega)
    unfold Mem.cells
    split
    · exact ih'
    · have : ¬ a = b := by omega
      simp [Sparse.find, this, ih']

/-- What a byte reads after a run is written: the run's byte inside it, what it read before outside it. -/
theorem Mem.read_write (m : List Host.Cell) (a b : Nat) (bs : List Byte) :
    Mem.read (Mem.write m a bs) b =
      if a ≤ b ∧ b < a + bs.length then bs.getD (b - a) 0 else Mem.read m b := by
  unfold Mem.read Mem.write Sparse.get
  rw [Sparse.find_append, Sparse.find_append, Sparse.find_below, Sparse.find_above]
  by_cases h : a ≤ b ∧ b < a + bs.length
  · have h1 : ¬ b < a := by omega
    have h2 : ¬ a + bs.length ≤ b := by omega
    have hc := Mem.find_cells bs a b
    rw [if_pos h] at hc
    rw [if_pos h, if_neg h1, if_neg h2]
    cases hf : Sparse.find (Mem.cells a bs) b <;> simp_all
  · rw [if_neg h, Mem.find_cells_none h]
    by_cases h1 : b < a
    · have h2 : ¬ a + bs.length ≤ b := by omega
      simp [h1, h2]
    · have h2 : a + bs.length ≤ b := by omega
      simp [h1, h2]

/-- What a byte reads after a run is cleared. -/
theorem Mem.read_clear (m : List Host.Cell) (a n b : Nat) :
    Mem.read (Mem.clear m a n) b = if a ≤ b ∧ b < a + n then Mem.default b else Mem.read m b := by
  unfold Mem.read Mem.clear Sparse.get
  rw [Sparse.find_append, Sparse.find_below, Sparse.find_above]
  by_cases h : a ≤ b ∧ b < a + n
  · have h1 : ¬ b < a := by omega
    have h2 : ¬ a + n ≤ b := by omega
    simp [h, h1, h2]
  · rw [if_neg h]
    by_cases h1 : b < a
    · have h2 : ¬ a + n ≤ b := by omega
      simp [h1, h2]
    · have h2 : a + n ≤ b := by omega
      simp [h1, h2]

end Sys2Proof.Machine
end

