-- ==== Sys2Proof/Laws/Keeps.lean ====
section
/-! SUPPORT. What no operation of the model does: it leaves the queue of waiting commands alone, keeps memory and the
register map in canonical form, and never takes back time, command numbers or free values.  One lemma per operation
says so, in the files that follow. -/

namespace Sys2Proof.Machine

/-- A state that an operation may reach from another one. -/
structure Keeps (r t : State) : Prop where
  pending : t.pending = r.pending
  mem : Memory.wf r.mem = true → Memory.wf t.mem = true
  regs : Sparse.sorted r.regs = true → Sparse.sorted t.regs = true
  time : r.refTime ≤ t.refTime
  uid : r.nextUid ≤ t.nextUid
  free : r.freeCount ≤ t.freeCount

theorem Keeps.refl (s : State) : Keeps s s := ⟨rfl, id, id, Nat.le_refl _, Nat.le_refl _, Nat.le_refl _⟩

/-- A change of parts of the state that Keeps does not speak of. -/
theorem keeps_same {r s t : State} (h : Keeps r s) (h1 : t.pending = s.pending) (h2 : t.mem = s.mem)
    (h3 : t.regs = s.regs) (h4 : s.refTime ≤ t.refTime) (h5 : s.nextUid ≤ t.nextUid)
    (h6 : s.freeCount ≤ t.freeCount) : Keeps r t :=
  ⟨h1.trans h.pending, fun x => h2 ▸ h.mem x, fun x => h3 ▸ h.regs x, Nat.le_trans h.time h4, Nat.le_trans h.uid h5,
   Nat.le_trans h.free h6⟩

/-- A change of parts of the state that Keeps does not speak of, as a record update makes it; command numbers, free
values and time may be used up. -/
theorem keeps_mk {r s : State} (h : Keeps r s) {refTime dev whorl shadows staging hostRead cmds
    nextUid freeCount tokens signals cores residents windows apertures winAlarm badParity pathFaults stores tiles kv caps datasets flyer iwl macs
    net cans selv sec aon pwr heddle rings} (h4 : s.refTime ≤ refTime) (h5 : s.nextUid ≤ nextUid)
    (h6 : s.freeCount ≤ freeCount) :
    Keeps r (State.mk s.pending refTime dev whorl s.regs shadows staging hostRead s.mem cmds nextUid freeCount tokens
      signals cores residents windows apertures winAlarm badParity pathFaults stores tiles kv caps datasets flyer iwl macs net cans selv sec aon
      pwr heddle rings) :=
  keeps_same h rfl rfl rfl h4 h5 h6

/-- The same where memory changes too. -/
theorem keeps_mem {r s : State} (h : Keeps r s) {mem refTime dev whorl shadows staging hostRead cmds
    nextUid freeCount tokens signals cores residents windows apertures winAlarm badParity pathFaults stores tiles kv caps datasets flyer iwl macs
    net cans selv sec aon pwr heddle rings} (hm : Memory.wf s.mem = true → Memory.wf mem = true)
    (h4 : s.refTime ≤ refTime) (h5 : s.nextUid ≤ nextUid) (h6 : s.freeCount ≤ freeCount) :
    Keeps r (State.mk s.pending refTime dev whorl s.regs shadows staging hostRead mem cmds nextUid freeCount tokens
      signals cores residents windows apertures winAlarm badParity pathFaults stores tiles kv caps datasets flyer iwl macs net cans selv sec aon
      pwr heddle rings) :=
  ⟨h.pending, fun x => hm (h.mem x), h.regs, Nat.le_trans h.time h4, Nat.le_trans h.uid h5, Nat.le_trans h.free h6⟩

theorem keeps_ite {r a b : State} {c : Prop} [Decidable c] (ha : Keeps r a) (hb : Keeps r b) :
    Keeps r (if c then a else b) := by
  split <;> assumption

theorem keeps_ite_fst {α : Type} {r : State} {a b : State × α} {c : Prop} [Decidable c] (ha : Keeps r a.1)
    (hb : Keeps r b.1) : Keeps r (if c then a else b).1 := by
  split <;> assumption

theorem keeps_fst {α : Type} {r t : State} {x : α} {p : State × α} (e : p = (t, x)) (h : Keeps r p.1) : Keeps r t := by
  subst e; exact h

theorem keeps_next {r a : State} (h : Keeps r a) :
    ∀ t, (Host.Outcome.next a : Host.Outcome State Fault Refusal) = .next t → Keeps r t := by
  intro t e; cases e; exact h

theorem keeps_opt {r t : State} {o : Option State} (e : o = some t) (h : ∀ t, o = some t → Keeps r t) : Keeps r t :=
  h t e

theorem keeps_opt_fst {α : Type} {r t : State} {x : α} {o : Option (State × α)} (e : o = some (t, x))
    (h : ∀ y, o = some y → Keeps r y.1) : Keeps r t :=
  h _ e

theorem keeps_omap {r : State} {o : Option State} {f : State → State} (h : ∀ t, o = some t → Keeps r t)
    (hf : ∀ t, Keeps r t → Keeps r (f t)) : ∀ t, o.map f = some t → Keeps r t := by
  cases o with
  | none => intro t e; cases e
  | some x => intro t e; cases e; exact hf _ (h _ rfl)

theorem keeps_opt_snd {α : Type} {r t : State} {x : α} {o : Option (α × State)} (e : o = some (x, t))
    (h : ∀ y, o = some y → Keeps r y.2) : Keeps r t :=
  h _ e

theorem keeps_none {α : Type} {r : State} {g : α → State} : ∀ y, (none : Option α) = some y → Keeps r (g y) := by
  intro y e; cases e

theorem keeps_some {α : Type} {r : State} {g : α → State} {x : α} (h : Keeps r (g x)) :
    ∀ y, some x = some y → Keeps r (g y) := by
  intro y e; cases e; exact h

theorem keeps_ite_opt {α : Type} {r : State} {g : α → State} {a b : Option α} {c : Prop} [Decidable c]
    (ha : ∀ y, a = some y → Keeps r (g y)) (hb : ∀ y, b = some y → Keeps r (g y)) :
    ∀ y, (if c then a else b) = some y → Keeps r (g y) := by
  split <;> assumption

theorem keeps_getD {r d : State} {o : Option State} (h : ∀ t, o = some t → Keeps r t) (hd : Keeps r d) :
    Keeps r (o.getD d) := by
  cases o with
  | none => exact hd
  | some t => exact h t rfl

theorem State.set_keeps {r s : State} (f : Field) (i v : Nat) (h : Keeps r s) : Keeps r (s.set f i v) :=
  ⟨h.pending, h.mem, fun x => Sparse.sorted_put _ _ _ (h.regs x), h.time, h.uid, h.free⟩

theorem State.store_keeps {r s : State} (a : Nat) (bs : List Byte) (h : Keeps r s) : Keeps r (s.store a bs) :=
  ⟨h.pending, fun x => Memory.wf_write _ _ (h.mem x), h.regs, h.time, h.uid, h.free⟩

theorem State.forEach_keeps {α : Type} {r s : State} (l : List α) (f : State → α → State) (h : Keeps r s)
    (hf : ∀ t a, Keeps r t → Keeps r (f t a)) : Keeps r (s.forEach l f) := by
  induction l generalizing s with
  | nil => exact h
  | cons a rest ih => exact ih (hf _ _ h)

theorem foldl_keeps {α : Type} {r s : State} (l : List α) (f : State → α → State) (h : Keeps r s)
    (hf : ∀ t a, Keeps r t → Keeps r (f t a)) : Keeps r (l.foldl f s) := by
  induction l generalizing s with
  | nil => exact h
  | cons a rest ih => exact ih (hf _ _ h)

end Sys2Proof.Machine
end

