-- ==== Sys2Proof/Laws/KeepsOps.lean ====
section
/-! SUPPORT. Keeps for the operations of Machine/Ops.lean. -/

namespace Sys2Proof.Machine

theorem State.setBit_keeps {r0 : State} {s : State} (f : Field) (i : Nat) (b : Bool) (hk : Keeps r0 s)  :
    Keeps r0 (State.setBit s f i b) := by
  unfold State.setBit
  with_reducible repeat' (first | assumption | apply State.set_keeps)

theorem State.count_keeps {r0 : State} {s : State} (f : Field) (i : Nat) (n : Nat) (hk : Keeps r0 s)  :
    Keeps r0 (State.count s f i n) := by
  unfold State.count
  with_reducible repeat' (first | assumption | apply State.set_keeps)

theorem State.accum_keeps {r0 : State} {s : State} (f : Field) (i : Nat) (n : Nat) (hk : Keeps r0 s)  :
    Keeps r0 (State.accum s f i n) := by
  unfold State.accum
  with_reducible repeat' (first | assumption | apply State.set_keeps)

theorem State.storeNat_keeps {r0 : State} {s : State} (a : Nat) (n : Nat) (v : Nat) (hk : Keeps r0 s)  :
    Keeps r0 (State.storeNat s a n v) := by
  unfold State.storeNat
  with_reducible repeat' (first | assumption | apply State.store_keeps)

theorem State.sendVector_keeps {r0 : State} {s : State} (client : Nat) (vector : Nat) (hk : Keeps r0 s)  :
    Keeps r0 (State.sendVector s client vector) := by
  unfold State.sendVector
  with_reducible repeat' (first
    | assumption | apply State.set_keeps | apply State.storeNat_keeps | refine keeps_ite ?_ ?_ | (extract_lets)
    | refine keeps_mk ?_ ?_ ?_ ?_ | exact Nat.le_refl _)

theorem State.raiseSource_keeps {r0 : State} {s : State} (source : Nat) (hk : Keeps r0 s)  :
    Keeps r0 (State.raiseSource s source) := by
  unfold State.raiseSource
  with_reducible repeat' (first | assumption | apply State.sendVector_keeps | refine keeps_ite ?_ ?_)

theorem State.raiseSources_keeps {r0 : State} {s : State} (source : Nat) (y0 : Nat) (hk : Keeps r0 s)  :
    Keeps r0 (State.raiseSources s source y0) := by
  induction y0 generalizing s source with
  | zero =>
    unfold State.raiseSources
    with_reducible repeat' assumption
  | succ fuel ih =>
    unfold State.raiseSources
    with_reducible repeat' (first | assumption | apply ih | apply State.raiseSource_keeps)

theorem State.raiseN_keeps {r0 : State} {s : State} (f : Flag) (i : Nat) (n : Nat) (hk : Keeps r0 s)  :
    Keeps r0 (State.raiseN s f i n) := by
  unfold State.raiseN
  with_reducible repeat' (first
    | assumption | apply State.set_keeps | apply State.count_keeps | apply State.raiseSources_keeps
    | refine keeps_ite ?_ ?_ | split)

theorem State.raise_keeps {r0 : State} {s : State} (f : Flag) (i : Nat) (hk : Keeps r0 s)  :
    Keeps r0 (State.raise s f i) := by
  unfold State.raise
  with_reducible repeat' (first | assumption | apply State.raiseN_keeps)

theorem State.doIf_keeps {r0 : State} {s : State} (c : Bool) (f : State → State) (hk : Keeps r0 s) (hf : ∀ (t : State), Keeps r0 t → Keeps r0 (f t)) :
    Keeps r0 (State.doIf s c f) := by
  unfold State.doIf
  with_reducible repeat' (first | assumption | apply hf | refine keeps_ite ?_ ?_)

theorem State.host_keeps {r0 : State} {s : State} (f : State → State) (hk : Keeps r0 s) (hf : ∀ (t : State), Keeps r0 t → Keeps r0 (f t)) :
    Keeps r0 (State.host s f) := by
  unfold State.host
  with_reducible repeat' (first | assumption | apply hf | refine keeps_ite ?_ ?_)

theorem State.modCmd_keeps {r0 : State} {s : State} (uid : Nat) (f : Cmd → Cmd) (hk : Keeps r0 s)  :
    Keeps r0 (State.modCmd s uid f) := by
  unfold State.modCmd
  with_reducible repeat' (first | assumption | (extract_lets) | refine keeps_mk ?_ ?_ ?_ ?_ | exact Nat.le_refl _)

theorem State.dropCmd_keeps {r0 : State} {s : State} (uid : Nat) (hk : Keeps r0 s)  :
    Keeps r0 (State.dropCmd s uid) := by
  unfold State.dropCmd
  with_reducible repeat' (first | assumption | (extract_lets) | refine keeps_mk ?_ ?_ ?_ ?_ | exact Nat.le_refl _)

theorem State.finish_keeps {r0 : State} {s : State} (uid : Nat) (status : Nat) (result : Nat) (hk : Keeps r0 s)  :
    Keeps r0 (State.finish s uid status result) := by
  unfold State.finish
  with_reducible repeat' (first | assumption | apply State.modCmd_keeps)

theorem State.ndc_keeps {r0 : State} {s : State} (job : Nat) (hk : Keeps r0 s)  :
    Keeps r0 (State.ndc s job) := by
  unfold State.ndc
  with_reducible repeat' (first
    | assumption | apply State.count_keeps | apply State.raise_keeps | refine keeps_ite ?_ ?_)

end Sys2Proof.Machine
end

