-- ==== Sys2Proof/Laws/KeepsBobbin.lean ====
section
/-! SUPPORT. Keeps for the operations of Machine/Bobbin.lean. -/

namespace Sys2Proof.Machine

theorem State.bobPut_keeps {r0 : State} {s : State} (k : Nat) (off : Nat) (b : Byte) (hk : Keeps r0 s)  :
    Keeps r0 (State.bobPut s k off b) := by
  unfold State.bobPut
  with_reducible repeat' (first | assumption | apply State.store_keeps)

theorem State.pathMet_keeps {r0 : State} {s : State} (k : Nat) (row : Nat) (hk : Keeps r0 s)  :
    Keeps r0 (State.pathMet s k row) := by
  unfold State.pathMet
  with_reducible repeat' (first | assumption | (extract_lets) | refine keeps_mk ?_ ?_ ?_ ?_ | exact Nat.le_refl _)

theorem State.parityWritten_keeps {r0 : State} {s : State} (place : Nat) (hk : Keeps r0 s)  :
    Keeps r0 (State.parityWritten s place) := by
  unfold State.parityWritten
  with_reducible repeat' (first | assumption | (extract_lets) | refine keeps_mk ?_ ?_ ?_ ?_ | exact Nat.le_refl _)

theorem State.writeRow_keeps {r0 : State} {s : State} (k : Nat) (row : Nat) (bs : List Byte) (hk : Keeps r0 s)  :
    Keeps r0 (State.writeRow s k row bs) := by
  unfold State.writeRow
  with_reducible repeat' (first | assumption | apply State.store_keeps | apply State.parityWritten_keeps)

theorem State.chargeBeats_keeps {r0 : State} {s : State} (row : Nat) (kind : Nat) (beats : Nat) (hk : Keeps r0 s)  :
    Keeps r0 (State.chargeBeats s row kind beats) := by
  unfold State.chargeBeats
  with_reducible repeat' (first
    | assumption | apply State.accum_keeps | split | (extract_lets) | refine keeps_mk ?_ ?_ ?_ ?_
    | exact Nat.le_refl _)

theorem State.countBeats_keeps {r0 : State} {s : State} (unit : Nat) (beats : Nat) (hk : Keeps r0 s)  :
    Keeps r0 (State.countBeats s unit beats) := by
  unfold State.countBeats
  with_reducible repeat' (first
    | assumption | apply Append.put_keeps | refine keeps_ite ?_ ?_ | refine keeps_ite_fst ?_ ?_
    | refine keeps_fst (by assumption) ?_ | split | (extract_lets) | refine keeps_mk ?_ ?_ ?_ ?_ | exact Nat.le_refl _
    | exact Nat.le_add_right _ _ | (intro))

theorem State.spend_keeps {r0 : State} {s : State} (e : Engine) (work : Option Cmd) (row : Nat) (beats : Nat) (hk : Keeps r0 s)  :
    Keeps r0 (State.spend s e work row beats) := by
  unfold State.spend
  with_reducible repeat' (first
    | assumption | apply State.chargeBeats_keeps | apply State.countBeats_keeps | apply Append.put_keeps
    | refine keeps_ite ?_ ?_ | refine keeps_ite_fst ?_ ?_ | refine keeps_fst (by assumption) ?_ | split
    | (extract_lets) | refine keeps_mk ?_ ?_ ?_ ?_ | exact Nat.le_refl _ | exact Nat.le_add_right _ _ | (intro))

theorem State.chargeCmd_keeps {r0 : State} {s : State} (c : Cmd) (beats : Nat) (hk : Keeps r0 s)  :
    Keeps r0 (State.chargeCmd s c beats) := by
  unfold State.chargeCmd
  with_reducible repeat' (first | assumption | apply State.spend_keeps | apply State.accum_keeps | split)

theorem State.chargeCut_keeps {r0 : State} {s : State} (c : Cmd) (hk : Keeps r0 s)  :
    Keeps r0 (State.chargeCut s c) := by
  unfold State.chargeCut
  with_reducible repeat' (first
    | assumption | apply State.chargeCmd_keeps | split | (extract_lets) | refine keeps_mk ?_ ?_ ?_ ?_
    | exact Nat.le_refl _ | exact Nat.le_add_right _ _)

theorem State.cutShort_keeps {r0 : State} {s : State} (c : Cmd) (status : Nat) (hk : Keeps r0 s)  :
    Keeps r0 (State.cutShort s c status) := by
  unfold State.cutShort
  with_reducible repeat' (first
    | assumption | apply State.finish_keeps | apply State.chargeCut_keeps | apply State.modCmd_keeps
    | refine keeps_ite ?_ ?_)

theorem State.noteRace_keeps {r0 : State} {s : State} (k : Nat) (row : Nat) (src : Nat) (met : Cmd) (first : Nat) (hk : Keeps r0 s)  :
    Keeps r0 (State.noteRace s k row src met first) := by
  unfold State.noteRace
  with_reducible repeat' (first
    | assumption | apply State.set_keeps | apply State.doIf_keeps | apply State.raise_keeps | apply State.ndc_keeps
    | (extract_lets) | (intro))

theorem State.accessRow_keeps {r0 : State} {s : State} (k : Nat) (row : Nat) (write : Bool) (src : Nat) (uid : Option Nat) (hk : Keeps r0 s)  :
    Keeps r0 (State.accessRow s k row write src uid).1 := by
  unfold State.accessRow
  with_reducible repeat' (first
    | assumption | apply State.noteRace_keeps | apply State.cutShort_keeps | refine keeps_ite_fst ?_ ?_ | split)

theorem State.makeSuspect_keeps {r0 : State} {s : State} (k : Nat) (hk : Keeps r0 s)  :
    Keeps r0 (State.makeSuspect s k) := by
  unfold State.makeSuspect
  with_reducible repeat' (first
    | assumption | split | (extract_lets) | refine keeps_mk ?_ ?_ ?_ ?_ | exact Nat.le_refl _)

theorem State.parityReport_keeps {r0 : State} {s : State} (k : Nat) (hk : Keeps r0 s)  :
    Keeps r0 (State.parityReport s k) := by
  unfold State.parityReport
  with_reducible repeat' (first
    | assumption | apply State.raise_keeps | apply State.makeSuspect_keeps | refine keeps_ite ?_ ?_ | (extract_lets)
    | refine keeps_mk ?_ ?_ ?_ ?_ | exact Nat.le_refl _)

theorem State.readRows_keeps {r0 : State} {s : State} (k : Nat) (src : Nat) (uid : Nat) (y0 : List Nat) (hk : Keeps r0 s)  :
    Keeps r0 (State.readRows s k src uid y0).1 := by
  induction y0 generalizing s k src uid with
  | nil =>
    unfold State.readRows
    with_reducible repeat' (first
      | assumption | apply State.pathMet_keeps | apply State.parityReport_keeps | apply State.accessRow_keeps
      | refine keeps_ite ?_ ?_ | refine keeps_ite_fst ?_ ?_ | refine keeps_fst (by assumption) ?_ | split
      | (extract_lets) | refine keeps_mk ?_ ?_ ?_ ?_ | exact Nat.le_refl _ | exact Nat.le_add_right _ _ | (intro))
  | cons a rest ih =>
    unfold State.readRows
    with_reducible repeat' (first
      | assumption | apply ih | apply State.pathMet_keeps | apply State.parityReport_keeps
      | apply State.accessRow_keeps | refine keeps_ite ?_ ?_ | refine keeps_ite_fst ?_ ?_
      | refine keeps_fst (by assumption) ?_ | split | (extract_lets) | refine keeps_mk ?_ ?_ ?_ ?_
      | exact Nat.le_refl _ | exact Nat.le_add_right _ _ | (intro))

theorem State.writeRows_keeps {r0 : State} {s : State} (k : Nat) (src : Nat) (uid : Nat) (y0 : List (Nat × List Byte)) (hk : Keeps r0 s)  :
    Keeps r0 (State.writeRows s k src uid y0).1 := by
  induction y0 generalizing s k src uid with
  | nil =>
    unfold State.writeRows
    with_reducible repeat' assumption
  | cons a rest ih =>
    unfold State.writeRows
    with_reducible repeat' (first
      | assumption | apply ih | apply State.accessRow_keeps | apply State.writeRow_keeps | refine keeps_ite_fst ?_ ?_)

theorem State.meetRows_keeps {r0 : State} {s : State} (k : Nat) (src : Nat) (uid : Nat) (y0 : List Nat) (hk : Keeps r0 s)  :
    Keeps r0 (State.meetRows s k src uid y0).1 := by
  induction y0 generalizing s k src uid with
  | nil =>
    unfold State.meetRows
    with_reducible repeat' assumption
  | cons a rest ih =>
    unfold State.meetRows
    with_reducible repeat' (first | assumption | apply ih | apply State.accessRow_keeps | refine keeps_ite_fst ?_ ?_)

theorem State.noteWritten_keeps {r0 : State} {s : State} (c : Cmd) (hk : Keeps r0 s)  :
    Keeps r0 (State.noteWritten s c) := by
  unfold State.noteWritten
  with_reducible repeat' (first
    | assumption | apply State.modCmd_keeps | refine keeps_ite ?_ ?_ | refine keeps_ite_fst ?_ ?_
    | refine keeps_fst (by assumption) ?_ | split | (extract_lets) | refine keeps_mk ?_ ?_ ?_ ?_ | exact Nat.le_refl _
    | exact Nat.le_add_right _ _ | (intro))

theorem State.commitRows_keeps {r0 : State} {s : State} (c : Cmd) (k : Nat) (formed : State) (hk : Keeps r0 s)  :
    Keeps r0 (State.commitRows s c k formed).1 := by
  unfold State.commitRows
  with_reducible repeat' (first
    | assumption | apply State.readRows_keeps | apply State.writeRows_keeps | apply State.forEach_keeps
    | apply State.writeRow_keeps | refine keeps_ite_fst ?_ ?_ | (extract_lets) | refine keeps_mk ?_ ?_ ?_ ?_
    | exact Nat.le_refl _ | exact Nat.le_add_right _ _ | (intro))

end Sys2Proof.Machine
end

