-- ==== Sys2Proof/Laws/KeepsQuant.lean ====
section
/-! SUPPORT. Keeps for the operations of Machine/Quant.lean. -/

namespace Sys2Proof.Machine

theorem State.goldenTies_keeps {r0 : State} {s : State} (k : Nat) (hk : Keeps r0 s)  :
    Keeps r0 (State.goldenTies s k) := by
  unfold State.goldenTies
  with_reducible repeat' (first
    | assumption | apply State.count_keeps | refine keeps_ite ?_ ?_ | refine keeps_ite_fst ?_ ?_
    | refine keeps_fst (by assumption) ?_ | split | (extract_lets) | refine keeps_mk ?_ ?_ ?_ ?_ | exact Nat.le_refl _
    | exact Nat.le_add_right _ _ | (intro))

theorem State.testRun_keeps {r0 : State} {s : State} (k : Nat) (hk : Keeps r0 s)  :
    Keeps r0 (State.testRun s k) := by
  unfold State.testRun
  with_reducible repeat' (first
    | assumption | apply State.count_keeps | (extract_lets) | refine keeps_mk ?_ ?_ ?_ ?_ | exact Nat.le_refl _
    | exact Nat.le_add_right _ _)

end Sys2Proof.Machine
end

