-- ==== Sys2Proof/Laws/KeepsLoom.lean ====
section
/-! SUPPORT. Keeps for the operations of Machine/Loom.lean. -/

namespace Sys2Proof.Machine

theorem bobSetBits_keeps {r0 : State} {s : State} (k : Nat) (byte : Nat) (bit : Nat) (w : Nat) (v : Nat) (hk : Keeps r0 s)  :
    Keeps r0 (bobSetBits s k byte bit w v) := by
  unfold bobSetBits
  with_reducible repeat' (first
    | assumption | apply State.forEach_keeps | apply State.bobPut_keeps | refine keeps_ite ?_ ?_ | (extract_lets)
    | (intro))

theorem formOutputs_keeps {r0 : State} {s : State} (k : Nat) (y0 : List Output) (hk : Keeps r0 s)  :
    Keeps r0 (formOutputs s k y0) := by
  induction y0 generalizing s k with
  | nil =>
    unfold formOutputs
    with_reducible repeat' assumption
  | cons a rest ih =>
    unfold formOutputs
    with_reducible repeat' (first | assumption | apply ih | apply bobSetBits_keeps)

theorem State.loomFlags_keeps {r0 : State} {s : State} (k : Nat) (os : List Output) (hk : Keeps r0 s)  :
    Keeps r0 (State.loomFlags s k os) := by
  unfold State.loomFlags
  with_reducible repeat' (first
    | assumption | apply State.doIf_keeps | apply State.raise_keeps | apply State.count_keeps | (extract_lets)
    | (intro))

theorem State.mergeRow_keeps {r0 : State} {s : State} (c : Cmd) (k : Nat) (os : List Output) (row : Nat) (hk : Keeps r0 s)  :
    Keeps r0 (State.mergeRow s c k os row).1 := by
  unfold State.mergeRow
  with_reducible repeat' (first
    | assumption | apply State.readRows_keeps | apply State.writeRows_keeps | refine keeps_ite_fst ?_ ?_)

theorem State.mergeRows_keeps {r0 : State} {s : State} (c : Cmd) (k : Nat) (os : List Output) (y0 : List Nat) (hk : Keeps r0 s)  :
    Keeps r0 (State.mergeRows s c k os y0).1 := by
  induction y0 generalizing s c k os with
  | nil =>
    unfold State.mergeRows
    with_reducible repeat' assumption
  | cons a rest ih =>
    unfold State.mergeRows
    with_reducible repeat' (first | assumption | apply ih | apply State.mergeRow_keeps | refine keeps_ite_fst ?_ ?_)

theorem State.commitTiles_keeps {r0 : State} {s : State} (c : Cmd) (k : Nat) (y0 : List (List Output)) (hk : Keeps r0 s)  :
    Keeps r0 (State.commitTiles s c k y0).1 := by
  induction y0 generalizing s c k with
  | nil =>
    unfold State.commitTiles
    with_reducible repeat' assumption
  | cons a rest ih =>
    unfold State.commitTiles
    with_reducible repeat' (first | assumption | apply ih | apply State.mergeRows_keeps | refine keeps_ite_fst ?_ ?_)

theorem State.cutTiles_keeps {r0 : State} {s : State} (c : Cmd) (k : Nat) (tiles : List (List Output)) (hk : Keeps r0 s)  :
    Keeps r0 (State.cutTiles s c k tiles).1 := by
  unfold State.cutTiles
  with_reducible repeat' (first
    | assumption | apply State.commitTiles_keeps | apply State.mergeRows_keeps | refine keeps_ite ?_ ?_
    | refine keeps_ite_fst ?_ ?_ | refine keeps_fst (by assumption) ?_ | split | (extract_lets)
    | refine keeps_mk ?_ ?_ ?_ ?_ | exact Nat.le_refl _ | exact Nat.le_add_right _ _ | (intro))

theorem State.commitOutputs_keeps {r0 : State} {s : State} (c : Cmd) (k : Nat) (reads : List RowRange) (tiles : List (List Output)) (hk : Keeps r0 s)  :
    Keeps r0 (State.commitOutputs s c k reads tiles).1 := by
  unfold State.commitOutputs
  with_reducible repeat' (first
    | assumption | apply State.readRows_keeps | apply State.commitTiles_keeps | apply State.cutTiles_keeps
    | refine keeps_ite_fst ?_ ?_)

theorem State.leaveAccs_keeps {r0 : State} {s : State} (c : Cmd) (accs : List (Nat × BitVec 80)) (hk : Keeps r0 s)  :
    Keeps r0 (State.leaveAccs s c accs) := by
  unfold State.leaveAccs
  with_reducible repeat' (first
    | assumption | apply Append.put_keeps | apply State.store_keeps | refine keeps_ite ?_ ?_
    | refine keeps_ite_fst ?_ ?_ | refine keeps_fst (by assumption) ?_ | split | (extract_lets)
    | refine keeps_mk ?_ ?_ ?_ ?_ | exact Nat.le_refl _ | exact Nat.le_add_right _ _ | (intro))

theorem State.endFormed_keeps {r0 : State} {s : State} (c : Cmd) (satReport : Bool) (reads : List RowRange) (tiles : List (List Output)) (hk : Keeps r0 s)  :
    Keeps r0 (State.endFormed s c satReport reads tiles) := by
  unfold State.endFormed
  with_reducible repeat' (first
    | assumption | apply State.commitOutputs_keeps | apply State.loomFlags_keeps | apply State.noteWritten_keeps
    | apply State.finish_keeps | refine keeps_ite ?_ ?_ | refine keeps_ite_fst ?_ ?_
    | refine keeps_fst (by assumption) ?_ | split | (extract_lets) | refine keeps_mk ?_ ?_ ?_ ?_ | exact Nat.le_refl _
    | exact Nat.le_add_right _ _ | (intro))

theorem State.runMatmul_keeps {r0 : State} {s : State} (c : Cmd) (x : Matmul) (hk : Keeps r0 s)  :
    Keeps r0 (State.runMatmul s c x) := by
  unfold State.runMatmul
  with_reducible repeat' (first
    | assumption | apply State.endFormed_keeps | apply State.leaveAccs_keeps | apply State.finish_keeps
    | refine keeps_ite ?_ ?_)

theorem execMatmul_keeps {r0 : State} (uid : Nat) (beats : Nat) {s : State} (hk : Keeps r0 s)  :
    ∀ t, execMatmul uid beats s = .next t → Keeps r0 t := by
  unfold execMatmul
  refine keeps_next ?_
  with_reducible repeat' (first
    | assumption | apply State.chargeCmd_keeps | apply State.runMatmul_keeps | apply State.finish_keeps | split)

end Sys2Proof.Machine
end

