-- ==== Sys2Proof/Laws/KeepsKv.lean ====
section
/-! SUPPORT. Keeps for the operations of Machine/Kv.lean. -/

namespace Sys2Proof.Machine

theorem State.ctxPut_keeps {r0 : State} {s : State} (stream : Nat) (off : Nat) (n : Nat) (v : Nat) (hk : Keeps r0 s)  :
    Keeps r0 (State.ctxPut s stream off n v) := by
  unfold State.ctxPut
  with_reducible repeat' (first | assumption | apply State.storeNat_keeps)

theorem State.takeSlot_keeps {r0 : State} {s : State} (t : Nat) (hk : Keeps r0 s)  :
    Keeps r0 (State.takeSlot s t).1 := by
  unfold State.takeSlot
  with_reducible repeat' (first
    | assumption | apply State.set_keeps | split | (extract_lets) | refine keeps_mk ?_ ?_ ?_ ?_ | exact Nat.le_refl _
    | exact Nat.le_add_right _ _)

theorem State.pendStream_keeps {r0 : State} {s : State} (t : Nat) (count : Nat) (hk : Keeps r0 s)  :
    Keeps r0 (State.pendStream s t count) := by
  unfold State.pendStream
  with_reducible repeat' (first | assumption | apply State.ctxPut_keeps | apply State.set_keeps)

theorem State.pendWanted_keeps {r0 : State} {s : State} (t : Nat) (hk : Keeps r0 s)  :
    Keeps r0 (State.pendWanted s t) := by
  unfold State.pendWanted
  with_reducible repeat' (first
    | assumption | apply State.pendStream_keeps | refine keeps_ite ?_ ?_ | (extract_lets)
    | refine keeps_mk ?_ ?_ ?_ ?_ | exact Nat.le_refl _)

theorem State.kvSweep_keeps {r0 : State} {s : State} (hk : Keeps r0 s)  :
    Keeps r0 (State.kvSweep s) := by
  unfold State.kvSweep
  with_reducible repeat' (first
    | assumption | apply State.forEach_keeps | apply State.pendWanted_keeps | apply State.set_keeps | (extract_lets)
    | refine keeps_mk ?_ ?_ ?_ ?_ | exact Nat.le_refl _)

theorem State.kvJoin_keeps {r0 : State} {s : State} (uid : Nat) (hk : Keeps r0 s)  :
    Keeps r0 (State.kvJoin s uid) := by
  unfold State.kvJoin
  with_reducible repeat' (first | assumption | (extract_lets) | refine keeps_mk ?_ ?_ ?_ ?_ | exact Nat.le_refl _)

theorem State.appendProceed_keeps {r0 : State} {s : State} (c : Cmd) (b : Nat) (x : Append) (hk : Keeps r0 s)  :
    Keeps r0 (State.appendProceed s c b x) := by
  unfold State.appendProceed
  with_reducible repeat' (first
    | assumption | apply State.takeSlot_keeps | apply State.modCmd_keeps | refine keeps_ite ?_ ?_)

theorem State.appendStart_keeps {r0 : State} {s : State} (c : Cmd) (hk : Keeps r0 s)  :
    Keeps r0 (State.appendStart s c) := by
  unfold State.appendStart
  with_reducible repeat' (first
    | assumption | apply State.finish_keeps | apply State.appendProceed_keeps | apply State.modCmd_keeps
    | refine keeps_ite ?_ ?_ | split)

theorem execKvappend_keeps {r0 : State} (uid : Nat) (beats : Nat) {s : State} (hk : Keeps r0 s)  :
    ∀ t, execKvappend uid beats s = .next t → Keeps r0 t := by
  unfold execKvappend
  refine keeps_next ?_
  with_reducible repeat' (first
    | assumption | apply State.chargeCmd_keeps | apply State.appendStart_keeps | refine keeps_ite ?_ ?_ | split)

theorem execKvappendWaitEnd_keeps {r0 : State} (uid : Nat) {s : State} (hk : Keeps r0 s)  :
    ∀ t, execKvappendWaitEnd uid s = .next t → Keeps r0 t := by
  unfold execKvappendWaitEnd
  refine keeps_next ?_
  with_reducible repeat' (first | assumption | apply State.appendProceed_keeps | refine keeps_ite ?_ ?_ | split)

theorem execKvappendTimeout_keeps {r0 : State} (uid : Nat) {s : State} (hk : Keeps r0 s)  :
    ∀ t, execKvappendTimeout uid s = .next t → Keeps r0 t := by
  unfold execKvappendTimeout
  refine keeps_next ?_
  with_reducible repeat' (first
    | assumption | apply State.finish_keeps | apply State.raise_keeps | refine keeps_ite ?_ ?_ | split)

theorem Append.put_keeps {r0 : State} (x : Append) (src : State) (len : Nat) (slot : Nat) (place : Nat) (i : Nat) {s : State} (hk : Keeps r0 s)  :
    Keeps r0 (Append.put x src len slot place i s) := by
  unfold Append.put
  with_reducible repeat' (first | assumption | apply State.store_keeps)

theorem State.appendLand_keeps {r0 : State} {s : State} (c : Cmd) (b : Nat) (new : Option Nat) (hk : Keeps r0 s)  :
    Keeps r0 (State.appendLand s c b new) := by
  unfold State.appendLand
  with_reducible repeat' (first
    | assumption | apply State.forEach_keeps | apply Append.put_keeps | apply State.ctxPut_keeps
    | apply State.pendStream_keeps | refine keeps_ite ?_ ?_ | split | (extract_lets) | (intro))

theorem State.appendFlush_keeps {r0 : State} {s : State} (t : Nat) (hk : Keeps r0 s)  :
    Keeps r0 (State.appendFlush s t) := by
  unfold State.appendFlush
  with_reducible repeat' (first
    | assumption | apply State.pendStream_keeps | refine keeps_ite ?_ ?_ | (extract_lets)
    | refine keeps_mk ?_ ?_ ?_ ?_ | exact Nat.le_refl _)

theorem State.chargeAppend_keeps {r0 : State} {s : State} (c : Cmd) (x : Append) (b : Nat) (hk : Keeps r0 s)  :
    Keeps r0 (State.chargeAppend s c x b) := by
  unfold State.chargeAppend
  with_reducible repeat' (first | assumption | apply State.accum_keeps | refine keeps_ite ?_ ?_)

theorem execKvappendCommit_keeps {r0 : State} (uid : Nat) {s : State} (hk : Keeps r0 s)  :
    ∀ t, execKvappendCommit uid s = .next t → Keeps r0 t := by
  unfold execKvappendCommit
  refine keeps_next ?_
  with_reducible repeat' (first
    | assumption | apply State.readRows_keeps | apply State.chargeAppend_keeps | apply State.appendLand_keeps
    | apply State.modCmd_keeps | apply State.appendFlush_keeps | apply State.kvSweep_keeps | apply State.finish_keeps
    | refine keeps_ite ?_ ?_ | split)

theorem State.takeEntry_keeps {r0 : State} {s : State} (hk : Keeps r0 s)  :
    Keeps r0 (State.takeEntry s).1 := by
  unfold State.takeEntry
  with_reducible repeat' (first
    | assumption | apply State.set_keeps | apply State.doIf_keeps | apply State.raise_keeps | (extract_lets)
    | (intro))

theorem State.takePage_keeps {r0 : State} {s : State} (y0 : Nat) (hk : Keeps r0 s)  :
    Keeps r0 (State.takePage s y0).1 := by
  induction y0 generalizing s with
  | zero =>
    unfold State.takePage
    with_reducible repeat' assumption
  | succ fuel ih =>
    unfold State.takePage
    with_reducible repeat' (first
      | assumption | apply ih | apply State.takeEntry_keeps | apply State.raise_keeps | refine keeps_ite_fst ?_ ?_)

theorem State.flushInto_keeps {r0 : State} {s : State} (t : Nat) (page : Nat) (hk : Keeps r0 s)  :
    Keeps r0 (State.flushInto s t page) := by
  unfold State.flushInto
  with_reducible repeat' (first
    | assumption | apply State.accum_keeps | apply State.store_keeps | apply State.storeNat_keeps
    | apply State.ctxPut_keeps | apply State.set_keeps)

theorem State.flushDone_keeps {r0 : State} {s : State} (t : Nat) (hk : Keeps r0 s)  :
    Keeps r0 (State.flushDone s t) := by
  unfold State.flushDone
  with_reducible repeat' (first
    | assumption | refine keeps_ite ?_ ?_ | (extract_lets) | refine keeps_mk ?_ ?_ ?_ ?_ | exact Nat.le_refl _)

theorem execSlotFlush_keeps {r0 : State} (stream : Nat) {s : State} (hk : Keeps r0 s)  :
    ∀ t, execSlotFlush stream s = .next t → Keeps r0 t := by
  unfold execSlotFlush
  refine keeps_next ?_
  with_reducible repeat' (first
    | assumption | apply State.takePage_keeps | apply State.raise_keeps | apply State.flushInto_keeps
    | apply State.count_keeps | apply State.flushDone_keeps | apply State.kvSweep_keeps | refine keeps_ite ?_ ?_
    | refine keeps_fst (by assumption) ?_ | split | (extract_lets) | refine keeps_mk ?_ ?_ ?_ ?_
    | exact Nat.le_refl _)

theorem execFlushDeadline_keeps {r0 : State} (uid : Nat) {s : State} (hk : Keeps r0 s)  :
    ∀ t, execFlushDeadline uid s = .next t → Keeps r0 t := by
  unfold execFlushDeadline
  refine keeps_next ?_
  with_reducible repeat' (first
    | assumption | apply State.modCmd_keeps | apply State.finish_keeps | apply State.raise_keeps
    | refine keeps_ite ?_ ?_ | split)

theorem execDropStage_keeps {r0 : State} (stream : Nat) {s : State} (hk : Keeps r0 s)  :
    ∀ t, execDropStage stream s = .next t → Keeps r0 t := by
  unfold execDropStage
  refine keeps_next ?_
  with_reducible repeat' (first
    | assumption | apply State.host_keeps | apply State.raise_keeps | apply State.ctxPut_keeps
    | apply State.kvSweep_keeps | split | (extract_lets) | (intro))

theorem execKvEnableWrite_keeps {r0 : State} (enable : Bool) {s : State} (hk : Keeps r0 s)  :
    ∀ t, execKvEnableWrite enable s = .next t → Keeps r0 t := by
  unfold execKvEnableWrite
  refine keeps_next ?_
  with_reducible repeat' (first
    | assumption | apply State.host_keeps | apply State.set_keeps | apply State.raise_keeps | split | (intro))

theorem execFreeTailWrite_keeps {r0 : State} (tail : Nat) {s : State} (hk : Keeps r0 s)  :
    ∀ t, execFreeTailWrite tail s = .next t → Keeps r0 t := by
  unfold execFreeTailWrite
  refine keeps_next ?_
  with_reducible repeat' (first
    | assumption | apply State.host_keeps | apply State.set_keeps | split | (extract_lets)
    | refine keeps_mk ?_ ?_ ?_ ?_ | exact Nat.le_refl _ | (intro))

end Sys2Proof.Machine
end

