-- ==== Sys2Proof/Laws/KeepsVector.lean ====
section
/-! SUPPORT. Keeps for the operations of Machine/Vector.lean. -/

namespace Sys2Proof.Machine

theorem State.endVector_keeps {r0 : State} {s : State} (c : Cmd) (satReport : Bool) (reads : List RowRange) (os : List Output) (hk : Keeps r0 s)  :
    Keeps r0 (State.endVector s c satReport reads os) := by
  unfold State.endVector
  with_reducible repeat' (first
    | assumption | apply State.endFormed_keeps | refine keeps_ite ?_ ?_ | refine keeps_ite_fst ?_ ?_
    | refine keeps_mk ?_ ?_ ?_ ?_ | exact Nat.le_refl _ | exact Nat.le_add_right _ _ | (intro))

theorem State.runVec_keeps {r0 : State} {s : State} (c : Cmd) (x : Vec) (hk : Keeps r0 s)  :
    Keeps r0 (State.runVec s c x) := by
  unfold State.runVec
  with_reducible repeat' (first
    | assumption | apply State.endVector_keeps | apply State.finish_keeps | refine keeps_ite ?_ ?_)

theorem execVec_keeps {r0 : State} (uid : Nat) (beats : Nat) {s : State} (hk : Keeps r0 s)  :
    ∀ t, execVec uid beats s = .next t → Keeps r0 t := by
  unfold execVec
  refine keeps_next ?_
  with_reducible repeat' (first
    | assumption | apply State.chargeCmd_keeps | apply State.runVec_keeps | apply State.finish_keeps | split)

theorem State.runPool_keeps {r0 : State} {s : State} (c : Cmd) (x : Pool) (hk : Keeps r0 s)  :
    Keeps r0 (State.runPool s c x) := by
  unfold State.runPool
  with_reducible repeat' (first
    | assumption | apply State.endVector_keeps | apply State.count_keeps | apply State.finish_keeps
    | refine keeps_ite ?_ ?_)

theorem execPool_keeps {r0 : State} (uid : Nat) (beats : Nat) {s : State} (hk : Keeps r0 s)  :
    ∀ t, execPool uid beats s = .next t → Keeps r0 t := by
  unfold execPool
  refine keeps_next ?_
  with_reducible repeat' (first
    | assumption | apply State.chargeCmd_keeps | apply State.runPool_keeps | apply State.finish_keeps | split)

end Sys2Proof.Machine
end

