-- ==== Sys2Proof/Laws/KeepsAttn.lean ====
section
/-! SUPPORT. Keeps for the operations of Machine/Attn.lean. -/

namespace Sys2Proof.Machine

theorem State.takeSnapshot_keeps {r0 : State} {s : State} (c : Cmd) (hk : Keeps r0 s)  :
    Keeps r0 (State.takeSnapshot s c) := by
  unfold State.takeSnapshot
  with_reducible repeat' (first
    | assumption | apply State.modCmd_keeps | apply State.raise_keeps | apply State.ndc_keeps
    | apply State.finish_keeps | refine keeps_ite ?_ ?_)

theorem State.chargePages_keeps {r0 : State} {s : State} (c : Cmd) (x : Attn) (v : Snap) (hk : Keeps r0 s)  :
    Keeps r0 (State.chargePages s c x v) := by
  unfold State.chargePages
  with_reducible repeat' (first | assumption | apply State.accum_keeps | refine keeps_ite ?_ ?_)

theorem State.scribble_keeps {r0 : State} {s : State} (rs : List RowRange) (hk : Keeps r0 s)  :
    Keeps r0 (State.scribble s rs) := by
  unfold State.scribble
  with_reducible repeat' (first
    | assumption | apply State.forEach_keeps | apply State.writeRow_keeps | split | (extract_lets)
    | refine keeps_mk ?_ ?_ ?_ ?_ | exact Nat.le_refl _ | exact Nat.le_add_right _ _ | (intro))

theorem State.attnCut_keeps {r0 : State} {s : State} (c : Cmd) (x : Attn) (os : Option (List Output)) (hk : Keeps r0 s)  :
    Keeps r0 (State.attnCut s c x os) := by
  unfold State.attnCut
  with_reducible repeat' (first
    | assumption | apply State.scribble_keeps | apply State.doIf_keeps | apply State.raise_keeps | (extract_lets)
    | (intro))

theorem State.attnStop_keeps {r0 : State} {s : State} (c : Cmd) (x : Attn) (os : Option (List Output)) (status : Nat) (hk : Keeps r0 s)  :
    Keeps r0 (State.attnStop s c x os status) := by
  unfold State.attnStop
  with_reducible repeat' (first | assumption | apply State.attnCut_keeps | apply State.finish_keeps)

theorem State.cutAttn_keeps {r0 : State} {s : State} (c : Cmd) (x : Attn) (hk : Keeps r0 s)  :
    Keeps r0 (State.cutAttn s c x) := by
  unfold State.cutAttn
  with_reducible repeat' (first
    | assumption | apply State.attnCut_keeps | refine keeps_ite ?_ ?_ | refine keeps_ite_fst ?_ ?_
    | refine keeps_fst (by assumption) ?_ | split | (extract_lets) | refine keeps_mk ?_ ?_ ?_ ?_ | exact Nat.le_refl _
    | exact Nat.le_add_right _ _ | (intro))

theorem State.attnHold_keeps {r0 : State} {s : State} (c : Cmd) (v : Snap) (rows : List (Nat × List Byte)) (hk : Keeps r0 s)  :
    Keeps r0 (State.attnHold s c v rows) := by
  unfold State.attnHold
  with_reducible repeat' (first
    | assumption | apply State.modCmd_keeps | refine keeps_ite ?_ ?_ | refine keeps_ite_fst ?_ ?_
    | refine keeps_fst (by assumption) ?_ | split | (extract_lets) | refine keeps_mk ?_ ?_ ?_ ?_ | exact Nat.le_refl _
    | exact Nat.le_add_right _ _ | (intro))

theorem State.runAttn_keeps {r0 : State} {s : State} (c : Cmd) (x : Attn) (v : Snap) (hk : Keeps r0 s)  :
    Keeps r0 (State.runAttn s c x v) := by
  unfold State.runAttn
  with_reducible repeat' (first
    | assumption | apply State.finish_keeps | apply State.attnStop_keeps | apply State.doIf_keeps
    | apply State.raise_keeps | apply State.chargePages_keeps | apply State.readRows_keeps | apply formOutputs_keeps
    | apply State.meetRows_keeps | apply State.scribble_keeps | apply State.loomFlags_keeps
    | apply State.attnHold_keeps | refine keeps_ite ?_ ?_ | refine keeps_ite_fst ?_ ?_
    | refine keeps_fst (by assumption) ?_ | split | (extract_lets) | refine keeps_mk ?_ ?_ ?_ ?_ | exact Nat.le_refl _
    | exact Nat.le_add_right _ _ | (intro))

theorem State.attnWrite_keeps {r0 : State} {s : State} (c : Cmd) (status : Nat) (hk : Keeps r0 s)  :
    Keeps r0 (State.attnWrite s c status) := by
  unfold State.attnWrite
  with_reducible repeat' (first
    | assumption | apply Append.put_keeps | apply State.forEach_keeps | apply State.writeRow_keeps
    | apply State.doIf_keeps | refine keeps_ite ?_ ?_ | refine keeps_ite_fst ?_ ?_
    | refine keeps_fst (by assumption) ?_ | split | (extract_lets) | refine keeps_mk ?_ ?_ ?_ ?_ | exact Nat.le_refl _
    | exact Nat.le_add_right _ _ | (intro))

theorem execAttn_keeps {r0 : State} (uid : Nat) (beats : Nat) (vecBeats : Nat) {s : State} (hk : Keeps r0 s)  :
    ∀ t, execAttn uid beats vecBeats s = .next t → Keeps r0 t := by
  unfold execAttn
  refine keeps_next ?_
  with_reducible repeat' (first
    | assumption | apply State.chargeCmd_keeps | apply State.spend_keeps | apply State.runAttn_keeps
    | apply State.finish_keeps | split)

end Sys2Proof.Machine
end

