-- ==== Sys2Proof/Laws/KeepsConv.lean ====
section
/-! SUPPORT. Keeps for the operations of Machine/Conv.lean. -/

namespace Sys2Proof.Machine

theorem State.runConv_keeps {r0 : State} {s : State} (c : Cmd) (x : Conv) (hk : Keeps r0 s)  :
    Keeps r0 (State.runConv s c x) := by
  unfold State.runConv
  with_reducible repeat' (first
    | assumption | apply State.set_keeps | apply State.endFormed_keeps | apply State.leaveAccs_keeps
    | apply State.count_keeps | apply State.finish_keeps | refine keeps_ite ?_ ?_)

theorem execConv_keeps {r0 : State} (uid : Nat) (beats : Nat) {s : State} (hk : Keeps r0 s)  :
    ∀ t, execConv uid beats s = .next t → Keeps r0 t := by
  unfold execConv
  refine keeps_next ?_
  with_reducible repeat' (first
    | assumption | apply State.chargeCmd_keeps | apply State.runConv_keeps | apply State.finish_keeps | split)

theorem State.noteGroup_keeps {r0 : State} {s : State} (c : Cmd) (hk : Keeps r0 s)  :
    Keeps r0 (State.noteGroup s c) := by
  unfold State.noteGroup
  with_reducible repeat' (first
    | assumption | apply State.set_keeps | apply State.modCmd_keeps | refine keeps_ite ?_ ?_
    | refine keeps_ite_fst ?_ ?_ | refine keeps_fst (by assumption) ?_ | split | (extract_lets)
    | refine keeps_mk ?_ ?_ ?_ ?_ | exact Nat.le_refl _ | exact Nat.le_add_right _ _ | (intro))

end Sys2Proof.Machine
end

