-- ==== Sys2Proof/Laws/KeepsFlyer.lean ====
section
/-! SUPPORT. Keeps for the operations of Machine/Flyer.lean. -/

namespace Sys2Proof.Machine

theorem State.putLoop_keeps {r0 : State} {s : State} (n : Nat) (x : Loop) (hk : Keeps r0 s)  :
    Keeps r0 (State.putLoop s n x) := by
  unfold State.putLoop
  with_reducible repeat' (first | assumption | (extract_lets) | refine keeps_mk ?_ ?_ ?_ ?_ | exact Nat.le_refl _)

theorem State.modLoop_keeps {r0 : State} {s : State} (n : Nat) (f : Loop → Loop) (hk : Keeps r0 s)  :
    Keeps r0 (State.modLoop s n f) := by
  unfold State.modLoop
  with_reducible repeat' (first | assumption | apply State.putLoop_keeps)

theorem State.inputFault_keeps {r0 : State} {s : State} (base : Nat) (hk : Keeps r0 s)  :
    Keeps r0 (State.inputFault s base) := by
  unfold State.inputFault
  with_reducible repeat' (first
    | assumption | apply State.forEach_keeps | apply State.modLoop_keeps | split | (extract_lets) | (intro))

theorem State.profileStep_keeps {r0 : State} {s : State} (n : Nat) (hk : Keeps r0 s)  :
    Keeps r0 (State.profileStep s n) := by
  unfold State.profileStep
  with_reducible repeat' (first
    | assumption | apply State.modLoop_keeps | apply State.doIf_keeps | apply State.raise_keeps | (extract_lets)
    | (intro))

theorem State.mailboxStage_keeps {r0 : State} {s : State} (n : Nat) (row : List Byte) (await : Option Nat) (hk : Keeps r0 s)  :
    Keeps r0 (State.mailboxStage s n row await) := by
  unfold State.mailboxStage
  with_reducible repeat' (first
    | assumption | apply State.raise_keeps | apply State.doIf_keeps | apply State.modLoop_keeps
    | refine keeps_ite ?_ ?_ | (extract_lets) | (intro))

theorem State.mailboxWithhold_keeps {r0 : State} {s : State} (n : Nat) (hk : Keeps r0 s)  :
    Keeps r0 (State.mailboxWithhold s n) := by
  unfold State.mailboxWithhold
  with_reducible repeat' (first
    | assumption | apply State.modLoop_keeps | apply State.raise_keeps | apply State.modCmd_keeps | split)

theorem State.mailboxTake_keeps {r0 : State} {s : State} (n : Nat) (stamp : Nat) (hk : Keeps r0 s)  :
    Keeps r0 (State.mailboxTake s n stamp) := by
  unfold State.mailboxTake
  with_reducible repeat' (first
    | assumption | apply State.mailboxWithhold_keeps | apply State.modLoop_keeps | apply State.set_keeps
    | refine keeps_ite ?_ ?_ | split | (extract_lets) | refine keeps_mk ?_ ?_ ?_ ?_ | exact Nat.le_refl _
    | exact Nat.le_add_right _ _)

theorem State.drivePhase_keeps {r0 : State} {s : State} (g : Nat) (ph : Nat) (v : Int) (hk : Keeps r0 s)  :
    Keeps r0 (State.drivePhase s g ph v) := by
  unfold State.drivePhase
  with_reducible repeat' (first
    | assumption | apply State.doIf_keeps | apply State.raise_keeps | (extract_lets) | refine keeps_mk ?_ ?_ ?_ ?_
    | exact Nat.le_refl _ | (intro))

theorem State.drive_keeps {r0 : State} {s : State} (n : Nat) (u : Int) (hk : Keeps r0 s)  :
    Keeps r0 (State.drive s n u).1 := by
  unfold State.drive
  with_reducible repeat' (first | assumption | apply State.drivePhase_keeps | split)

theorem State.putMac_keeps {r0 : State} {s : State} (m : Nat) (x : Mac) (hk : Keeps r0 s)  :
    Keeps r0 (State.putMac s m x) := by
  unfold State.putMac
  with_reducible repeat' (first | assumption | (extract_lets) | refine keeps_mk ?_ ?_ ?_ ?_ | exact Nat.le_refl _)

theorem State.slotRefuse_keeps {r0 : State} {s : State} (target : Nat) (hk : Keeps r0 s)  :
    Keeps r0 (State.slotRefuse s target) := by
  unfold State.slotRefuse
  with_reducible repeat' (first | assumption | apply State.raise_keeps | refine keeps_ite ?_ ?_)

theorem State.freshReq_keeps {r0 : State} {s : State} (m : Nat) (slot : Nat) (hk : Keeps r0 s)  :
    Keeps r0 (State.freshReq s m slot) := by
  unfold State.freshReq
  with_reducible repeat' (first
    | assumption | apply State.putMac_keeps | refine keeps_ite ?_ ?_ | refine keeps_ite_fst ?_ ?_
    | refine keeps_fst (by assumption) ?_ | split | (extract_lets) | refine keeps_mk ?_ ?_ ?_ ?_ | exact Nat.le_refl _
    | exact Nat.le_add_right _ _ | (intro))

theorem State.transmit_keeps {r0 : State} {s : State} (n : Nat) (stamp : Nat) (u : Int) (hk : Keeps r0 s)  :
    Keeps r0 (State.transmit s n stamp u) := by
  unfold State.transmit
  with_reducible repeat' (first
    | assumption | apply State.raise_keeps | apply State.slotRefuse_keeps | apply State.doIf_keeps
    | apply State.freshReq_keeps | refine keeps_ite ?_ ?_ | refine keeps_ite_fst ?_ ?_
    | refine keeps_fst (by assumption) ?_ | split | (extract_lets) | refine keeps_mk ?_ ?_ ?_ ?_ | exact Nat.le_refl _
    | exact Nat.le_add_right _ _ | (intro))

theorem State.loopRefuse_keeps {r0 : State} {s : State} (n : Nat) (hk : Keeps r0 s)  :
    Keeps r0 (State.loopRefuse s n) := by
  unfold State.loopRefuse
  with_reducible repeat' (first | assumption | apply State.raise_keeps)

theorem State.loopTake_keeps {r0 : State} {s : State} (n : Nat) (rank : Nat) (hk : Keeps r0 s)  :
    Keeps r0 (State.loopTake s n rank) := by
  unfold State.loopTake
  with_reducible repeat' (first
    | assumption | apply State.doIf_keeps | apply State.set_keeps | apply State.loopRefuse_keeps
    | apply State.modLoop_keeps | refine keeps_ite ?_ ?_ | refine keeps_ite_fst ?_ ?_
    | refine keeps_fst (by assumption) ?_ | split | (extract_lets) | refine keeps_mk ?_ ?_ ?_ ?_ | exact Nat.le_refl _
    | exact Nat.le_add_right _ _ | (intro))

theorem State.loopLeave_keeps {r0 : State} {s : State} (n : Nat) (hk : Keeps r0 s)  :
    Keeps r0 (State.loopLeave s n) := by
  unfold State.loopLeave
  with_reducible repeat' (first
    | assumption | apply State.forEach_keeps | apply State.raise_keeps | refine keeps_ite ?_ ?_ | (extract_lets)
    | refine keeps_mk ?_ ?_ ?_ ?_ | exact Nat.le_refl _ | (intro))

theorem State.loopToOpen_keeps {r0 : State} {s : State} (n : Nat) (hk : Keeps r0 s)  :
    Keeps r0 (State.loopToOpen s n) := by
  unfold State.loopToOpen
  with_reducible repeat' (first
    | assumption | apply State.loopLeave_keeps | apply State.set_keeps | apply State.modLoop_keeps
    | refine keeps_ite ?_ ?_ | refine keeps_ite_fst ?_ ?_ | refine keeps_fst (by assumption) ?_ | split
    | (extract_lets) | refine keeps_mk ?_ ?_ ?_ ?_ | exact Nat.le_refl _ | exact Nat.le_add_right _ _ | (intro))

theorem State.loopToSafe_keeps {r0 : State} {s : State} (n : Nat) (cause : Nat) (hk : Keeps r0 s)  :
    Keeps r0 (State.loopToSafe s n cause) := by
  unfold State.loopToSafe
  with_reducible repeat' (first
    | assumption | apply State.doIf_keeps | apply State.set_keeps | apply State.loopTake_keeps
    | apply State.loopLeave_keeps | apply State.raise_keeps | refine keeps_ite ?_ ?_ | refine keeps_ite_fst ?_ ?_
    | refine keeps_fst (by assumption) ?_ | split | (extract_lets) | refine keeps_mk ?_ ?_ ?_ ?_ | exact Nat.le_refl _
    | exact Nat.le_add_right _ _ | (intro))

theorem State.loopsSafe_keeps {r0 : State} {s : State} (hk : Keeps r0 s)  :
    Keeps r0 (State.loopsSafe s) := by
  unfold State.loopsSafe
  with_reducible repeat' (first
    | assumption | apply State.forEach_keeps | apply State.loopToSafe_keeps | (extract_lets) | (intro))

theorem State.loopsOpen_keeps {r0 : State} {s : State} (hk : Keeps r0 s)  :
    Keeps r0 (State.loopsOpen s) := by
  unfold State.loopsOpen
  with_reducible repeat' (first
    | assumption | apply State.forEach_keeps | apply State.loopToOpen_keeps | split | (extract_lets) | (intro))

theorem State.closeInit_keeps {r0 : State} {s : State} (n : Nat) (hk : Keeps r0 s)  :
    Keeps r0 (State.closeInit s n) := by
  unfold State.closeInit
  with_reducible repeat' (first
    | assumption | apply State.modLoop_keeps | apply State.forEach_keeps | apply State.set_keeps | (extract_lets)
    | (intro))

theorem State.ctlStep_keeps {r0 : State} {s : State} (n : Nat) (k : Nat) (sp : Nat) (ffv : Int) (ffa : Int) (outer : Int) (hk : Keeps r0 s)  :
    Keeps r0 (State.ctlStep s n k sp ffv ffa outer).1 := by
  unfold State.ctlStep
  with_reducible repeat' (first | assumption | apply State.modLoop_keeps | apply State.set_keeps)

theorem State.runCtls_keeps {r0 : State} {s : State} (n : Nat) (sp : Nat) (ffv : Int) (ffa : Int) (outer : Int) (y0 : List Nat) (hk : Keeps r0 s)  :
    Keeps r0 (State.runCtls s n sp ffv ffa outer y0).1 := by
  induction y0 generalizing s n sp ffv ffa outer with
  | nil =>
    unfold State.runCtls
    with_reducible repeat' assumption
  | cons a rest ih =>
    unfold State.runCtls
    with_reducible repeat' (first | assumption | apply ih | apply State.ctlStep_keeps | refine keeps_ite_fst ?_ ?_)

theorem State.closedSample_keeps {r0 : State} {s : State} (n : Nat) (stamp : Nat) (good : Bool) (moved : Bool) (hk : Keeps r0 s)  :
    Keeps r0 (State.closedSample s n stamp good moved) := by
  unfold State.closedSample
  with_reducible repeat' (first
    | assumption | apply State.runCtls_keeps | apply State.set_keeps | apply State.drive_keeps
    | apply State.doIf_keeps | apply State.raise_keeps | apply State.transmit_keeps | apply State.modLoop_keeps
    | (extract_lets) | (intro))

theorem State.openSample_keeps {r0 : State} {s : State} (n : Nat) (hk : Keeps r0 s)  :
    Keeps r0 (State.openSample s n) := by
  unfold State.openSample
  with_reducible repeat' (first
    | assumption | apply State.doIf_keeps | apply State.profileStep_keeps | apply State.modLoop_keeps
    | apply State.raise_keeps | (extract_lets) | (intro))

theorem State.runSample_keeps {r0 : State} {s : State} (n : Nat) (stamp : Nat) (good : Bool) (hk : Keeps r0 s)  :
    Keeps r0 (State.runSample s n stamp good) := by
  unfold State.runSample
  with_reducible repeat' (first | assumption | apply State.profileStep_keeps | apply State.closedSample_keeps)

theorem State.sampleBody_keeps {r0 : State} {s : State} (n : Nat) (stamp : Nat) (hk : Keeps r0 s)  :
    Keeps r0 (State.sampleBody s n stamp) := by
  unfold State.sampleBody
  with_reducible repeat' (first
    | assumption | apply State.loopToSafe_keeps | apply State.openSample_keeps | apply State.closeInit_keeps
    | apply State.set_keeps | apply State.runSample_keeps | apply State.loopToOpen_keeps | apply State.raise_keeps
    | apply State.doIf_keeps | refine keeps_ite ?_ ?_ | split | (extract_lets) | (intro))

theorem State.loopSample_keeps {r0 : State} {s : State} (n : Nat) (stamp : Nat) (hk : Keeps r0 s)  :
    Keeps r0 (State.loopSample s n stamp) := by
  unfold State.loopSample
  with_reducible repeat' (first
    | assumption | apply State.mailboxTake_keeps | apply State.sampleBody_keeps | apply State.modLoop_keeps
    | apply State.set_keeps | apply State.accum_keeps)

theorem State.sampleDropped_keeps {r0 : State} {s : State} (n : Nat) (hk : Keeps r0 s)  :
    Keeps r0 (State.sampleDropped s n) := by
  unfold State.sampleDropped
  with_reducible repeat' (first
    | assumption | apply State.doIf_keeps | apply State.raise_keeps | apply State.loopToSafe_keeps
    | refine keeps_ite ?_ ?_ | refine keeps_ite_fst ?_ ?_ | refine keeps_fst (by assumption) ?_ | split
    | (extract_lets) | refine keeps_mk ?_ ?_ ?_ ?_ | exact Nat.le_refl _ | exact Nat.le_add_right _ _ | (intro))

theorem execLoopSample_keeps {r0 : State} (loop : Nat) {s : State} (hk : Keeps r0 s)  :
    ∀ t, execLoopSample loop s = .next t → Keeps r0 t := by
  unfold execLoopSample
  refine keeps_next ?_
  with_reducible repeat' (first
    | assumption | apply State.modLoop_keeps | apply State.sampleDropped_keeps | apply State.raise_keeps
    | apply State.loopSample_keeps | refine keeps_ite ?_ ?_ | refine keeps_ite_fst ?_ ?_
    | refine keeps_fst (by assumption) ?_ | split | (extract_lets) | refine keeps_mk ?_ ?_ ?_ ?_ | exact Nat.le_refl _
    | exact Nat.le_add_right _ _ | (intro))

theorem execLoopClose_keeps {r0 : State} (loop : Nat) {s : State} (hk : Keeps r0 s)  :
    ∀ t, execLoopClose loop s = .next t → Keeps r0 t := by
  unfold execLoopClose
  refine keeps_next ?_
  with_reducible repeat' (first
    | assumption | apply State.host_keeps | apply State.loopTake_keeps | apply State.modLoop_keeps
    | apply State.set_keeps | apply State.loopRefuse_keeps | refine keeps_ite ?_ ?_ | refine keeps_ite_fst ?_ ?_
    | refine keeps_fst (by assumption) ?_ | split | (extract_lets) | refine keeps_mk ?_ ?_ ?_ ?_ | exact Nat.le_refl _
    | exact Nat.le_add_right _ _ | (intro))

theorem State.loopOpenReq_keeps {r0 : State} {s : State} (n : Nat) (hk : Keeps r0 s)  :
    Keeps r0 (State.loopOpenReq s n) := by
  unfold State.loopOpenReq
  with_reducible repeat' (first
    | assumption | apply State.loopRefuse_keeps | apply State.loopTake_keeps | apply State.loopToOpen_keeps
    | refine keeps_ite ?_ ?_ | refine keeps_ite_fst ?_ ?_ | refine keeps_fst (by assumption) ?_ | split
    | (extract_lets) | refine keeps_mk ?_ ?_ ?_ ?_ | exact Nat.le_refl _ | exact Nat.le_add_right _ _ | (intro))

theorem execLoopOpen_keeps {r0 : State} (loop : Nat) {s : State} (hk : Keeps r0 s)  :
    ∀ t, execLoopOpen loop s = .next t → Keeps r0 t := by
  unfold execLoopOpen
  refine keeps_next ?_
  with_reducible repeat' (first
    | assumption | apply State.host_keeps | apply State.loopOpenReq_keeps | (extract_lets) | (intro))

theorem execLoopRelease_keeps {r0 : State} (loop : Nat) {s : State} (hk : Keeps r0 s)  :
    ∀ t, execLoopRelease loop s = .next t → Keeps r0 t := by
  unfold execLoopRelease
  refine keeps_next ?_
  with_reducible repeat' (first
    | assumption | apply State.host_keeps | apply State.loopTake_keeps | apply State.loopToOpen_keeps
    | apply State.loopRefuse_keeps | refine keeps_ite ?_ ?_ | refine keeps_ite_fst ?_ ?_
    | refine keeps_fst (by assumption) ?_ | split | (extract_lets) | refine keeps_mk ?_ ?_ ?_ ?_ | exact Nat.le_refl _
    | exact Nat.le_add_right _ _ | (intro))

theorem execOpenAll_keeps {r0 : State} {s : State} (hk : Keeps r0 s)  :
    ∀ t, execOpenAll s = .next t → Keeps r0 t := by
  unfold execOpenAll
  refine keeps_next ?_
  with_reducible repeat' (first
    | assumption | apply State.host_keeps | apply State.forEach_keeps | apply State.loopOpenReq_keeps | (extract_lets)
    | (intro))

theorem State.putEnc_keeps {r0 : State} {s : State} (e : Nat) (x : Enc) (hk : Keeps r0 s)  :
    Keeps r0 (State.putEnc s e x) := by
  unfold State.putEnc
  with_reducible repeat' (first | assumption | (extract_lets) | refine keeps_mk ?_ ?_ ?_ ?_ | exact Nat.le_refl _)

theorem State.encCount_keeps {r0 : State} {s : State} (e : Nat) (up : Bool) (hk : Keeps r0 s)  :
    Keeps r0 (State.encCount s e up) := by
  unfold State.encCount
  with_reducible repeat' (first | assumption | apply State.set_keeps)

theorem State.encMode_keeps {r0 : State} {s : State} (e : Nat) (x : Enc) (y : Enc) (hk : Keeps r0 s)  :
    Keeps r0 (State.encMode s e x y) := by
  unfold State.encMode
  with_reducible repeat' (first
    | assumption | apply State.raise_keeps | apply State.inputFault_keeps | apply State.encCount_keeps
    | apply State.putEnc_keeps | apply State.set_keeps | refine keeps_ite ?_ ?_ | split)

theorem execEncEdge_keeps {r0 : State} (channel : Nat) (edge : EncEdge) {s : State} (hk : Keeps r0 s)  :
    ∀ t, execEncEdge channel edge s = .next t → Keeps r0 t := by
  unfold execEncEdge
  refine keeps_next ?_
  with_reducible repeat' (first
    | assumption | apply State.putEnc_keeps | apply State.encMode_keeps | apply State.set_keeps
    | apply State.raise_keeps | refine keeps_ite ?_ ?_)

theorem State.putSsi_keeps {r0 : State} {s : State} (n : Nat) (v : Option (Nat × Nat)) (hk : Keeps r0 s)  :
    Keeps r0 (State.putSsi s n v) := by
  unfold State.putSsi
  with_reducible repeat' (first
    | assumption | split | (extract_lets) | refine keeps_mk ?_ ?_ ?_ ?_ | exact Nat.le_refl _)

theorem execSsiFrameStart_keeps {r0 : State} (channel : Nat) {s : State} (hk : Keeps r0 s)  :
    ∀ t, execSsiFrameStart channel s = .next t → Keeps r0 t := by
  unfold execSsiFrameStart
  refine keeps_next ?_
  with_reducible repeat' (first | assumption | apply State.putSsi_keeps | refine keeps_ite ?_ ?_)

theorem State.ssiLost_keeps {r0 : State} {s : State} (n : Nat) (hk : Keeps r0 s)  :
    Keeps r0 (State.ssiLost s n) := by
  unfold State.ssiLost
  with_reducible repeat' (first
    | assumption | apply State.putSsi_keeps | apply State.raise_keeps | apply State.inputFault_keeps
    | refine keeps_ite ?_ ?_ | refine keeps_ite_fst ?_ ?_ | refine keeps_fst (by assumption) ?_ | split
    | (extract_lets) | refine keeps_mk ?_ ?_ ?_ ?_ | exact Nat.le_refl _ | exact Nat.le_add_right _ _ | (intro))

theorem execSsiFrameEnd_keeps {r0 : State} (channel : Nat) (value : Nat) (parity : Bool) {s : State} (hk : Keeps r0 s)  :
    ∀ t, execSsiFrameEnd channel value parity s = .next t → Keeps r0 t := by
  unfold execSsiFrameEnd
  refine keeps_next ?_
  with_reducible repeat' (first
    | assumption | apply State.ssiLost_keeps | apply State.putSsi_keeps | apply State.raise_keeps
    | apply State.inputFault_keeps | apply State.set_keeps | refine keeps_ite ?_ ?_ | refine keeps_ite_fst ?_ ?_
    | refine keeps_fst (by assumption) ?_ | split | (extract_lets) | refine keeps_mk ?_ ?_ ?_ ?_ | exact Nat.le_refl _
    | exact Nat.le_add_right _ _ | (intro))

theorem execSsiTimeout_keeps {r0 : State} (channel : Nat) {s : State} (hk : Keeps r0 s)  :
    ∀ t, execSsiTimeout channel s = .next t → Keeps r0 t := by
  unfold execSsiTimeout
  refine keeps_next ?_
  with_reducible repeat' (first
    | assumption | apply State.ssiLost_keeps | refine keeps_ite ?_ ?_ | refine keeps_ite_fst ?_ ?_
    | refine keeps_fst (by assumption) ?_ | split | (extract_lets) | refine keeps_mk ?_ ?_ ?_ ?_ | exact Nat.le_refl _
    | exact Nat.le_add_right _ _ | (intro))

theorem execSdOutput_keeps {r0 : State} (channel : Nat) (bits : Nat) {s : State} (hk : Keeps r0 s)  :
    ∀ t, execSdOutput channel bits s = .next t → Keeps r0 t := by
  unfold execSdOutput
  refine keeps_next ?_
  with_reducible repeat' (first
    | assumption | apply State.set_keeps | refine keeps_ite ?_ ?_ | (extract_lets) | refine keeps_mk ?_ ?_ ?_ ?_
    | exact Nat.le_refl _)

theorem execSdClkLost_keeps {r0 : State} (channel : Nat) {s : State} (hk : Keeps r0 s)  :
    ∀ t, execSdClkLost channel s = .next t → Keeps r0 t := by
  unfold execSdClkLost
  refine keeps_next ?_
  with_reducible repeat' (first
    | assumption | apply State.raise_keeps | apply State.inputFault_keeps | refine keeps_ite ?_ ?_)

theorem execAdcTrigger_keeps {r0 : State} (channel : Nat) {s : State} (hk : Keeps r0 s)  :
    ∀ t, execAdcTrigger channel s = .next t → Keeps r0 t := by
  unfold execAdcTrigger
  refine keeps_next ?_
  with_reducible repeat' (first
    | assumption | refine keeps_ite ?_ ?_ | (extract_lets) | refine keeps_mk ?_ ?_ ?_ ?_ | exact Nat.le_refl _)

theorem execAdcEndOfConversion_keeps {r0 : State} (channel : Nat) (code : Nat) {s : State} (hk : Keeps r0 s)  :
    ∀ t, execAdcEndOfConversion channel code s = .next t → Keeps r0 t := by
  unfold execAdcEndOfConversion
  refine keeps_next ?_
  with_reducible repeat' (first
    | assumption | apply State.set_keeps | apply State.doIf_keeps | apply State.raise_keeps
    | apply State.inputFault_keeps | apply State.forEach_keeps | apply State.modLoop_keeps | refine keeps_ite ?_ ?_
    | split | (extract_lets) | refine keeps_mk ?_ ?_ ?_ ?_ | exact Nat.le_refl _ | (intro))

theorem State.pwmLoad_keeps {r0 : State} {s : State} (g : Nat) (hk : Keeps r0 s)  :
    Keeps r0 (State.pwmLoad s g) := by
  unfold State.pwmLoad
  with_reducible repeat' (first | assumption | (extract_lets) | refine keeps_mk ?_ ?_ ?_ ?_ | exact Nat.le_refl _)

theorem execPwmCounterZero_keeps {r0 : State} (group : Nat) {s : State} (hk : Keeps r0 s)  :
    ∀ t, execPwmCounterZero group s = .next t → Keeps r0 t := by
  unfold execPwmCounterZero
  refine keeps_next ?_
  with_reducible repeat' (first | assumption | apply State.pwmLoad_keeps | refine keeps_ite ?_ ?_)

theorem execPwmCentreLoad_keeps {r0 : State} (group : Nat) {s : State} (hk : Keeps r0 s)  :
    ∀ t, execPwmCentreLoad group s = .next t → Keeps r0 t := by
  unfold execPwmCentreLoad
  refine keeps_next ?_
  with_reducible repeat' (first | assumption | apply State.pwmLoad_keeps | refine keeps_ite ?_ ?_)

end Sys2Proof.Machine
end

