-- ==== Sys2Proof/Laws/KeepsTokens.lean ====
section
/-! SUPPORT. Keeps for the operations of Machine/Tokens.lean. -/

namespace Sys2Proof.Machine

theorem State.jobFault_keeps {r0 : State} {s : State} (status : Nat) (job : Nat) (source : Nat) (hk : Keeps r0 s)  :
    Keeps r0 (State.jobFault s status job source) := by
  unfold State.jobFault
  with_reducible repeat' (first
    | assumption | apply State.raise_keeps | apply State.set_keeps | refine keeps_ite ?_ ?_ | (extract_lets)
    | refine keeps_mk ?_ ?_ ?_ ?_ | exact Nat.le_refl _)

theorem State.trap_keeps {r0 : State} {s : State} (k : Nat) (core : Nat) (cause : Nat) (code : Nat) (job : Nat) (hk : Keeps r0 s)  :
    Keeps r0 (State.trap s k core cause code job) := by
  unfold State.trap
  with_reducible repeat' (first
    | assumption | apply State.set_keeps | apply State.doIf_keeps | apply State.raise_keeps
    | apply State.jobFault_keeps | (extract_lets) | (intro))

theorem State.putToken_keeps {r0 : State} {s : State} (id : Nat) (t : Token) (hk : Keeps r0 s)  :
    Keeps r0 (State.putToken s id t) := by
  unfold State.putToken
  with_reducible repeat' (first | assumption | (extract_lets) | refine keeps_mk ?_ ?_ ?_ ?_ | exact Nat.le_refl _)

theorem State.signal_keeps {r0 : State} {s : State} (id : Nat) (amount : Nat) (hk : Keeps r0 s)  :
    Keeps r0 (State.signal s id amount) := by
  unfold State.signal
  with_reducible repeat' (first
    | assumption | refine keeps_ite ?_ ?_ | (extract_lets) | refine keeps_mk ?_ ?_ ?_ ?_ | exact Nat.le_refl _)

theorem State.putCap_keeps {r0 : State} {s : State} (n : Nat) (c : CapStream) (hk : Keeps r0 s)  :
    Keeps r0 (State.putCap s n c) := by
  unfold State.putCap
  with_reducible repeat' (first | assumption | (extract_lets) | refine keeps_mk ?_ ?_ ?_ ?_ | exact Nat.le_refl _)

theorem State.putDs_keeps {r0 : State} {s : State} (d : Nat) (x : DsStream) (hk : Keeps r0 s)  :
    Keeps r0 (State.putDs s d x) := by
  unfold State.putDs
  with_reducible repeat' (first | assumption | (extract_lets) | refine keeps_mk ?_ ?_ ?_ ?_ | exact Nat.le_refl _)

theorem State.capSync_keeps {r0 : State} {s : State} (n : Nat) (hk : Keeps r0 s)  :
    Keeps r0 (State.capSync s n) := by
  unfold State.capSync
  with_reducible repeat' (first | assumption | apply State.set_keeps)

theorem State.dsSync_keeps {r0 : State} {s : State} (d : Nat) (hk : Keeps r0 s)  :
    Keeps r0 (State.dsSync s d) := by
  unfold State.dsSync
  with_reducible repeat' (first | assumption | apply State.set_keeps)

theorem State.capGrant_keeps {r0 : State} {s : State} (n : Nat) (hk : Keeps r0 s)  :
    Keeps r0 (State.capGrant s n) := by
  unfold State.capGrant
  with_reducible repeat' (first | assumption | apply State.set_keeps | apply State.capSync_keeps)

theorem State.dsGrant_keeps {r0 : State} {s : State} (d : Nat) (hk : Keeps r0 s)  :
    Keeps r0 (State.dsGrant s d) := by
  unfold State.dsGrant
  with_reducible repeat' (first
    | assumption | apply State.putDs_keeps | apply State.set_keeps | apply State.dsSync_keeps
    | apply State.raise_keeps | refine keeps_ite ?_ ?_)

theorem State.grantTo_keeps {r0 : State} {s : State} (w : Waiter) (hk : Keeps r0 s)  :
    Keeps r0 (State.grantTo s w) := by
  unfold State.grantTo
  with_reducible repeat' (first
    | assumption | apply State.modCmd_keeps | apply State.capGrant_keeps | apply State.dsGrant_keeps | split
    | (extract_lets) | refine keeps_mk ?_ ?_ ?_ ?_ | exact Nat.le_refl _)

theorem State.testWaiters_keeps {r0 : State} {s : State} (id : Nat) (y0 : Nat) (hk : Keeps r0 s)  :
    Keeps r0 (State.testWaiters s id y0) := by
  induction y0 generalizing s id with
  | zero =>
    unfold State.testWaiters
    with_reducible repeat' assumption
  | succ fuel ih =>
    unfold State.testWaiters
    with_reducible repeat' (first
      | assumption | apply ih | apply State.putToken_keeps | apply State.grantTo_keeps | apply State.doIf_keeps
      | apply State.ndc_keeps | refine keeps_ite ?_ ?_ | split | (extract_lets) | (intro))

theorem State.serve_keeps {r0 : State} {s : State} (id : Nat) (hk : Keeps r0 s)  :
    Keeps r0 (State.serve s id) := by
  unfold State.serve
  with_reducible repeat' (first
    | assumption | apply State.trap_keeps | apply State.testWaiters_keeps | refine keeps_ite ?_ ?_)

theorem State.ndcs_keeps {r0 : State} {s : State} (job : Nat) (y0 : Nat) (hk : Keeps r0 s)  :
    Keeps r0 (State.ndcs s job y0) := by
  induction y0 generalizing s job with
  | zero =>
    unfold State.ndcs
    with_reducible repeat' (first
      | assumption | apply State.ndc_keeps | refine keeps_ite ?_ ?_ | refine keeps_ite_fst ?_ ?_
      | refine keeps_fst (by assumption) ?_ | split | (extract_lets) | refine keeps_mk ?_ ?_ ?_ ?_
      | exact Nat.le_refl _ | exact Nat.le_add_right _ _ | (intro))
  | succ fuel ih =>
    unfold State.ndcs
    with_reducible repeat' (first
      | assumption | apply ih | apply State.ndc_keeps | refine keeps_ite ?_ ?_ | refine keeps_ite_fst ?_ ?_
      | refine keeps_fst (by assumption) ?_ | split | (extract_lets) | refine keeps_mk ?_ ?_ ?_ ?_
      | exact Nat.le_refl _ | exact Nat.le_add_right _ _ | (intro))

theorem State.register_keeps {r0 : State} {s : State} (id : Nat) (w : Waiter) (hk : Keeps r0 s)  :
    Keeps r0 (State.register s id w) := by
  unfold State.register
  with_reducible repeat' (first
    | assumption | apply State.grantTo_keeps | apply State.putToken_keeps | apply State.trap_keeps
    | apply State.ndcs_keeps | apply State.serve_keeps | refine keeps_ite ?_ ?_)

theorem State.lateWait_keeps {r0 : State} {s : State} (id : Nat) (w : Waiter) (hk : Keeps r0 s)  :
    Keeps r0 (State.lateWait s id w) := by
  unfold State.lateWait
  with_reducible repeat' (first
    | assumption | apply State.putToken_keeps | apply State.trap_keeps | refine keeps_ite ?_ ?_
    | refine keeps_ite_fst ?_ ?_ | refine keeps_fst (by assumption) ?_ | split | (extract_lets)
    | refine keeps_mk ?_ ?_ ?_ ?_ | exact Nat.le_refl _ | exact Nat.le_add_right _ _ | (intro))

theorem State.arrive_keeps {r0 : State} {s : State} (id : Nat) (amount : Nat) (hk : Keeps r0 s)  :
    Keeps r0 (State.arrive s id amount) := by
  unfold State.arrive
  with_reducible repeat' (first
    | assumption | apply State.putToken_keeps | apply State.doIf_keeps | apply State.raise_keeps
    | apply State.serve_keeps | refine keeps_ite ?_ ?_ | (extract_lets) | refine keeps_mk ?_ ?_ ?_ ?_
    | exact Nat.le_refl _ | (intro))

theorem State.withdraw_keeps {r0 : State} {s : State} (w : Waiter) (hk : Keeps r0 s)  :
    Keeps r0 (State.withdraw s w) := by
  unfold State.withdraw
  with_reducible repeat' (first | assumption | (extract_lets) | refine keeps_mk ?_ ?_ ?_ ?_ | exact Nat.le_refl _)

end Sys2Proof.Machine
end

