-- ==== Sys2Proof/Laws/KeepsWindow.lean ====
section
/-! SUPPORT. Keeps for the operations of Machine/Window.lean. -/

namespace Sys2Proof.Machine

theorem State.putWindow_keeps {r0 : State} {s : State} (k : Nat) (n : Nat) (w : Window) (hk : Keeps r0 s)  :
    Keeps r0 (State.putWindow s k n w) := by
  unfold State.putWindow
  with_reducible repeat' (first | assumption | (extract_lets) | refine keeps_mk ?_ ?_ ?_ ?_ | exact Nat.le_refl _)

theorem State.setAll_keeps {r0 : State} {s : State} (y0 : List (Field × Nat × Nat)) (hk : Keeps r0 s)  :
    Keeps r0 (State.setAll s y0) := by
  induction y0 generalizing s with
  | nil =>
    unfold State.setAll
    with_reducible repeat' assumption
  | cons a rest ih =>
    unfold State.setAll
    with_reducible repeat' (first | assumption | apply ih | apply State.set_keeps)

theorem State.regionWrite_keeps {r0 : State} {s : State} (k : Nat) (n : Nat) (value : Nat) (hk : Keeps r0 s)  :
    Keeps r0 (State.regionWrite s k n value) := by
  unfold State.regionWrite
  with_reducible repeat' (first
    | assumption | apply State.raise_keeps | apply State.setAll_keeps | refine keeps_ite ?_ ?_)

theorem execRegionWrite_keeps {r0 : State} (skein : Nat) (region : Nat) (value : BitVec 64) {s : State} (hk : Keeps r0 s)  :
    ∀ t, execRegionWrite skein region value s = .next t → Keeps r0 t := by
  unfold execRegionWrite
  refine keeps_next ?_
  with_reducible repeat' (first
    | assumption | apply State.host_keeps | apply State.regionWrite_keeps | (extract_lets) | (intro))

theorem execWinOpen_keeps {r0 : State} (skein : Nat) (window : Nat) {s : State} (hk : Keeps r0 s)  :
    ∀ t, execWinOpen skein window s = .next t → Keeps r0 t := by
  unfold execWinOpen
  refine keeps_next ?_
  with_reducible repeat' (first
    | assumption | apply State.host_keeps | apply State.putWindow_keeps | apply State.raise_keeps | split
    | (extract_lets) | (intro))

theorem State.windowDrain_keeps {r0 : State} {s : State} (k : Nat) (n : Nat) (hk : Keeps r0 s)  :
    Keeps r0 (State.windowDrain s k n) := by
  unfold State.windowDrain
  with_reducible repeat' (first | assumption | apply State.putWindow_keeps | refine keeps_ite ?_ ?_)

theorem execWinClose_keeps {r0 : State} (skein : Nat) (window : Nat) {s : State} (hk : Keeps r0 s)  :
    ∀ t, execWinClose skein window s = .next t → Keeps r0 t := by
  unfold execWinClose
  refine keeps_next ?_
  with_reducible repeat' (first
    | assumption | apply State.host_keeps | apply State.windowDrain_keeps | (extract_lets) | (intro))

theorem execWinDrained_keeps {r0 : State} (skein : Nat) (window : Nat) {s : State} (hk : Keeps r0 s)  :
    ∀ t, execWinDrained skein window s = .next t → Keeps r0 t := by
  unfold execWinDrained
  refine keeps_next ?_
  with_reducible repeat' (first | assumption | apply State.putWindow_keeps | refine keeps_ite ?_ ?_)

theorem State.drainWindows_keeps {r0 : State} {s : State} (job : Option Nat) (hk : Keeps r0 s)  :
    Keeps r0 (State.drainWindows s job) := by
  unfold State.drainWindows
  with_reducible repeat' (first | assumption | (extract_lets) | refine keeps_mk ?_ ?_ ?_ ?_ | exact Nat.le_refl _)

theorem State.dropAccess_keeps {r0 : State} {s : State} (k : Nat) (key : Nat) (src : Nat) (reason : Nat) (row : Nat) (hk : Keeps r0 s)  :
    Keeps r0 (State.dropAccess s k key src reason row).1 := by
  unfold State.dropAccess
  with_reducible repeat' (first
    | assumption | apply State.set_keeps | apply State.doIf_keeps | apply State.raise_keeps | (extract_lets)
    | refine keeps_mk ?_ ?_ ?_ ?_ | exact Nat.le_refl _ | (intro))

theorem execWinAlarmPeriod_keeps {r0 : State} (skein : Nat) {s : State} (hk : Keeps r0 s)  :
    ∀ t, execWinAlarmPeriod skein s = .next t → Keeps r0 t := by
  unfold execWinAlarmPeriod
  refine keeps_next ?_
  with_reducible repeat' (first | assumption | (extract_lets) | refine keeps_mk ?_ ?_ ?_ ?_ | exact Nat.le_refl _)

end Sys2Proof.Machine
end

