-- ==== Sys2Proof/Laws/KeepsLink.lean ====
section
/-! SUPPORT. Keeps for the operations of Machine/Link.lean. -/

namespace Sys2Proof.Machine

theorem State.putPort_keeps {r0 : State} {s : State} (p : Nat) (x : Port) (hk : Keeps r0 s)  :
    Keeps r0 (State.putPort s p x) := by
  unfold State.putPort
  with_reducible repeat' (first | assumption | (extract_lets) | refine keeps_mk ?_ ?_ ?_ ?_ | exact Nat.le_refl _)

theorem State.modPort_keeps {r0 : State} {s : State} (p : Nat) (f : Port → Port) (hk : Keeps r0 s)  :
    Keeps r0 (State.modPort s p f) := by
  unfold State.modPort
  with_reducible repeat' (first | assumption | apply State.putPort_keeps)

theorem State.raiseIwl_keeps {r0 : State} {s : State} (f : Flag) (p : Nat) (hk : Keeps r0 s)  :
    Keeps r0 (State.raiseIwl s f p) := by
  unfold State.raiseIwl
  with_reducible repeat' (first
    | assumption | apply State.set_keeps | apply State.count_keeps | apply State.raiseSource_keeps
    | apply State.forEach_keeps | refine keeps_ite ?_ ?_ | (extract_lets) | (intro))

theorem State.chargeBody_keeps {r0 : State} {s : State} (p : Nat) (row : Nat) (n : Nat) (hk : Keeps r0 s)  :
    Keeps r0 (State.chargeBody s p row n) := by
  unfold State.chargeBody
  with_reducible repeat' (first | assumption | apply State.accum_keeps)

theorem State.sendData_keeps {r0 : State} {s : State} (p : Nat) (f : Sent) (hk : Keeps r0 s)  :
    Keeps r0 (State.sendData s p f) := by
  unfold State.sendData
  with_reducible repeat' (first
    | assumption | apply State.modPort_keeps | apply State.forEach_keeps | apply State.chargeBody_keeps
    | (extract_lets) | (intro))

theorem State.pumpData_keeps {r0 : State} {s : State} (p : Nat) (y0 : Nat) (hk : Keeps r0 s)  :
    Keeps r0 (State.pumpData s p y0) := by
  induction y0 generalizing s p with
  | zero =>
    unfold State.pumpData
    with_reducible repeat' assumption
  | succ fuel ih =>
    unfold State.pumpData
    with_reducible repeat' (first
      | assumption | apply ih | apply State.putPort_keeps | apply State.sendData_keeps | refine keeps_ite ?_ ?_
      | (extract_lets) | refine keeps_mk ?_ ?_ ?_ ?_ | exact Nat.le_refl _ | exact Nat.le_add_right _ _)

theorem State.pump_keeps {r0 : State} {s : State} (p : Nat) (hk : Keeps r0 s)  :
    Keeps r0 (State.pump s p) := by
  unfold State.pump
  with_reducible repeat' (first
    | assumption | apply State.pumpData_keeps | apply State.modPort_keeps | refine keeps_ite ?_ ?_)

theorem State.enqueue_keeps {r0 : State} {s : State} (p : Nat) (vc : Nat) (row : Nat) (job : Option Nat) (tx : List Byte) (hk : Keeps r0 s)  :
    Keeps r0 (State.enqueue s p vc row job tx) := by
  unfold State.enqueue
  with_reducible repeat' (first | assumption | apply State.modPort_keeps | apply State.pump_keeps)

theorem State.loopBack_keeps {r0 : State} {s : State} (tx : List Byte) (hk : Keeps r0 s)  :
    Keeps r0 (State.loopBack s tx) := by
  unfold State.loopBack
  with_reducible repeat' (first | assumption | (extract_lets) | refine keeps_mk ?_ ?_ ?_ ?_ | exact Nat.le_refl _)

theorem State.route_keeps {r0 : State} {s : State} (row : Nat) (job : Option Nat) (tx : List Byte) (from_ : Option (Nat × Bool)) (y0 : Nat) (hk : Keeps r0 s)  :
    Keeps r0 (State.route s row job tx from_ y0) := by
  induction y0 generalizing s row job tx from_ with
  | zero =>
    unfold State.route
    with_reducible repeat' assumption
  | succ fuel ih =>
    unfold State.route
    with_reducible repeat' (first
      | assumption | apply ih | apply State.loopBack_keeps | apply State.enqueue_keeps | apply State.raiseIwl_keeps
      | refine keeps_ite ?_ ?_ | split)

theorem State.sendTx_keeps {r0 : State} {s : State} (row : Nat) (tx : List Byte) (hk : Keeps r0 s)  :
    Keeps r0 (State.sendTx s row tx) := by
  unfold State.sendTx
  with_reducible repeat' (first | assumption | apply State.route_keeps)

theorem State.request_keeps {r0 : State} {s : State} (row : Nat) (tt : Nat) (dst : Nat) (arg : Nat) (key : Nat) (target : Nat) (body : List Byte) (e : Expect) (hk : Keeps r0 s)  :
    Keeps r0 (State.request s row tt dst arg key target body e) := by
  unfold State.request
  with_reducible repeat' (first
    | assumption | apply State.sendTx_keeps | split | (extract_lets) | refine keeps_mk ?_ ?_ ?_ ?_
    | exact Nat.le_refl _)

theorem State.dropReq_keeps {r0 : State} {s : State} (xid : Nat) (hk : Keeps r0 s)  :
    Keeps r0 (State.dropReq s xid) := by
  unfold State.dropReq
  with_reducible repeat' (first | assumption | (extract_lets) | refine keeps_mk ?_ ?_ ?_ ?_ | exact Nat.le_refl _)

end Sys2Proof.Machine
end

