-- ==== Sys2Proof/Laws/KeepsMove.lean ====
section
/-! SUPPORT. Keeps for the operations of Machine/Move.lean. -/

namespace Sys2Proof.Machine

theorem State.storeKind0_keeps {r0 : State} {s : State} (c : Cmd) (host : Bool) (a : Nat) (bs : List Byte) (hk : Keeps r0 s)  :
    Keeps r0 (State.storeKind0 s c host a bs) := by
  unfold State.storeKind0
  with_reducible repeat' (first
    | assumption | apply State.accum_keeps | apply State.store_keeps | refine keeps_ite ?_ ?_)

theorem State.chargeRead_keeps {r0 : State} {s : State} (c : Cmd) (host : Bool) (n : Nat) (hk : Keeps r0 s)  :
    Keeps r0 (State.chargeRead s c host n) := by
  unfold State.chargeRead
  with_reducible repeat' (first | assumption | apply State.accum_keeps)

theorem State.exitCheck_keeps {r0 : State} {s : State} (e : Engine) (hk : Keeps r0 s)  :
    Keeps r0 (State.exitCheck s e).1 := by
  unfold State.exitCheck
  with_reducible repeat' (first
    | assumption | apply State.parityReport_keeps | refine keeps_ite ?_ ?_ | refine keeps_ite_fst ?_ ?_
    | refine keeps_fst (by assumption) ?_ | split | (extract_lets) | refine keeps_mk ?_ ?_ ?_ ?_ | exact Nat.le_refl _
    | exact Nat.le_add_right _ _ | (intro))

theorem State.srcRow_keeps {r0 : State} {s : State} (c : Cmd) (x : RowMove) (p : Nat) (hk : Keeps r0 s)  :
    Keeps r0 (State.srcRow s c x p).1 := by
  unfold State.srcRow
  with_reducible repeat' (first | assumption | apply State.chargeRead_keeps | apply State.readRows_keeps | split)

theorem State.srcStream_keeps {r0 : State} {s : State} (c : Cmd) (x : RowMove) (g : Progress) (hk : Keeps r0 s)  :
    Keeps r0 (State.srcStream s c x g).1 := by
  unfold State.srcStream
  with_reducible repeat' (first
    | assumption | apply State.chargeRead_keeps | apply State.readRows_keeps | refine keeps_ite_fst ?_ ?_)

theorem State.dstRows_keeps {r0 : State} {s : State} (c : Cmd) (row : Nat) (bs : List Byte) (hk : Keeps r0 s)  :
    Keeps r0 (State.dstRows s c row bs).1 := by
  unfold State.dstRows
  with_reducible repeat' (first | assumption | apply State.writeRows_keeps)

theorem State.mailboxRow_keeps {r0 : State} {s : State} (c : Cmd) (loop : Nat) (bs : List Byte) (hk : Keeps r0 s)  :
    Keeps r0 (State.mailboxRow s c loop bs) := by
  unfold State.mailboxRow
  with_reducible repeat' (first
    | assumption | apply State.mailboxStage_keeps | apply State.modCmd_keeps | refine keeps_ite ?_ ?_ | split)

theorem State.landRow_keeps {r0 : State} {s : State} (c : Cmd) (x : RowMove) (g : Progress) (p : Nat) (bs : List Byte) (hk : Keeps r0 s)  :
    Keeps r0 (State.landRow s c x g p bs).1 := by
  unfold State.landRow
  with_reducible repeat' (first
    | assumption | apply State.storeKind0_keeps | apply State.dstRows_keeps | apply State.request_keeps
    | apply State.modCmd_keeps | apply State.mailboxRow_keeps | apply State.store_keeps | refine keeps_ite_fst ?_ ?_
    | split)

theorem State.noteMoved_keeps {r0 : State} {s : State} (uid : Nat) (i : Option Nat) (compress : Bool) (bs : List Byte) (hk : Keeps r0 s)  :
    Keeps r0 (State.noteMoved s uid i compress bs) := by
  unfold State.noteMoved
  with_reducible repeat' (first
    | assumption | apply State.modCmd_keeps | refine keeps_ite ?_ ?_ | refine keeps_ite_fst ?_ ?_
    | refine keeps_fst (by assumption) ?_ | split | (extract_lets) | refine keeps_mk ?_ ?_ ?_ ?_ | exact Nat.le_refl _
    | exact Nat.le_add_right _ _ | (intro))

theorem State.moveRows_keeps {r0 : State} {s : State} (c : Cmd) (x : RowMove) (g : Progress) (y0 : List (Int × Int)) (hk : Keeps r0 s)  :
    Keeps r0 (State.moveRows s c x g y0).1 := by
  induction y0 generalizing s c x g with
  | nil =>
    unfold State.moveRows
    with_reducible repeat' (first
      | assumption | apply State.srcStream_keeps | apply State.srcRow_keeps | apply State.exitCheck_keeps
      | apply State.noteMoved_keeps | apply State.landRow_keeps | refine keeps_ite ?_ ?_ | refine keeps_ite_fst ?_ ?_
      | refine keeps_fst (by assumption) ?_ | split | (extract_lets) | refine keeps_mk ?_ ?_ ?_ ?_
      | exact Nat.le_refl _ | exact Nat.le_add_right _ _ | (intro))
  | cons a rest ih =>
    unfold State.moveRows
    with_reducible repeat' (first
      | assumption | apply ih | apply State.srcStream_keeps | apply State.srcRow_keeps | apply State.exitCheck_keeps
      | apply State.noteMoved_keeps | apply State.landRow_keeps | refine keeps_ite ?_ ?_ | refine keeps_ite_fst ?_ ?_
      | refine keeps_fst (by assumption) ?_ | split | (extract_lets) | refine keeps_mk ?_ ?_ ?_ ?_
      | exact Nat.le_refl _ | exact Nat.le_add_right _ _ | (intro))

theorem State.putPair_keeps {r0 : State} {s : State} (p : Nat) (x : Pair) (hk : Keeps r0 s)  :
    Keeps r0 (State.putPair s p x) := by
  unfold State.putPair
  with_reducible repeat' (first | assumption | (extract_lets) | refine keeps_mk ?_ ?_ ?_ ?_ | exact Nat.le_refl _)

theorem State.modPair_keeps {r0 : State} {s : State} (p : Nat) (f : Pair → Pair) (hk : Keeps r0 s)  :
    Keeps r0 (State.modPair s p f) := by
  unfold State.modPair
  with_reducible repeat' (first | assumption | apply State.putPair_keeps)

theorem State.mailboxRelease_keeps {r0 : State} {s : State} (p : Nat) (frame : Nat) (c : Cmd) (hk : Keeps r0 s)  :
    Keeps r0 (State.mailboxRelease s p frame c) := by
  unfold State.mailboxRelease
  with_reducible repeat' (first | assumption | apply State.modCmd_keeps | apply State.modLoop_keeps | split)

theorem State.mailboxDeny_keeps {r0 : State} {s : State} (c : Cmd) (hk : Keeps r0 s)  :
    Keeps r0 (State.mailboxDeny s c) := by
  unfold State.mailboxDeny
  with_reducible repeat' (first
    | assumption | apply State.modCmd_keeps | apply State.mailboxWithhold_keeps | refine keeps_ite ?_ ?_ | split)

theorem State.judgeHeld_keeps {r0 : State} {s : State} (p : Nat) (t : Tile) (hk : Keeps r0 s)  :
    Keeps r0 (State.judgeHeld s p t) := by
  unfold State.judgeHeld
  with_reducible repeat' (first
    | assumption | apply State.mailboxDeny_keeps | apply State.mailboxRelease_keeps | refine keeps_ite ?_ ?_ | split)

theorem State.judgePair_keeps {r0 : State} {s : State} (p : Nat) (hk : Keeps r0 s)  :
    Keeps r0 (State.judgePair s p) := by
  unfold State.judgePair
  with_reducible repeat' (first
    | assumption | apply State.forEach_keeps | apply State.judgeHeld_keeps | (extract_lets) | (intro))

theorem State.moveTail_keeps {r0 : State} {s : State} (c : Cmd) (x : RowMove) (g : Progress) (hk : Keeps r0 s)  :
    Keeps r0 (State.moveTail s c x g).1 := by
  unfold State.moveTail
  with_reducible repeat' (first | assumption | apply State.dstRows_keeps | refine keeps_ite_fst ?_ ?_)

theorem State.moveEnd_keeps {r0 : State} {s : State} (c : Cmd) (x : RowMove) (g : Progress) (hk : Keeps r0 s)  :
    Keeps r0 (State.moveEnd s c x g) := by
  unfold State.moveEnd
  with_reducible repeat' (first
    | assumption | apply State.moveTail_keeps | apply State.finish_keeps | apply State.modCmd_keeps
    | apply State.judgePair_keeps | refine keeps_ite ?_ ?_ | refine keeps_ite_fst ?_ ?_
    | refine keeps_fst (by assumption) ?_ | split | (extract_lets) | refine keeps_mk ?_ ?_ ?_ ?_ | exact Nat.le_refl _
    | exact Nat.le_add_right _ _ | (intro))

theorem State.askRows_keeps {r0 : State} {s : State} (c : Cmd) (x : RowMove) (y0 : List (Nat × Int)) (hk : Keeps r0 s)  :
    Keeps r0 (State.askRows s c x y0) := by
  induction y0 generalizing s c x with
  | nil =>
    unfold State.askRows
    with_reducible repeat' assumption
  | cons a rest ih =>
    unfold State.askRows
    with_reducible repeat' (first | assumption | apply ih | apply State.request_keeps | apply State.modCmd_keeps)

theorem State.askMore_keeps {r0 : State} {s : State} (c : Cmd) (hk : Keeps r0 s)  :
    Keeps r0 (State.askMore s c) := by
  unfold State.askMore
  with_reducible repeat' (first
    | assumption | apply State.modCmd_keeps | apply State.askRows_keeps | refine keeps_ite ?_ ?_ | split
    | (extract_lets) | refine keeps_mk ?_ ?_ ?_ ?_ | exact Nat.le_refl _ | exact Nat.le_add_right _ _)

theorem State.askOn_keeps {r0 : State} {s : State} (uid : Nat) (hk : Keeps r0 s)  :
    Keeps r0 (State.askOn s uid) := by
  unfold State.askOn
  with_reducible repeat' (first | assumption | apply State.askMore_keeps | split)

theorem State.runMove_keeps {r0 : State} {s : State} (c : Cmd) (x : RowMove) (hk : Keeps r0 s)  :
    Keeps r0 (State.runMove s c x) := by
  unfold State.runMove
  with_reducible repeat' (first
    | assumption | apply State.finish_keeps | apply State.modCmd_keeps | apply State.askOn_keeps
    | apply State.moveRows_keeps | apply State.moveEnd_keeps | refine keeps_ite ?_ ?_)

theorem execMove_keeps {r0 : State} (uid : Nat) (beats : Nat) {s : State} (hk : Keeps r0 s)  :
    ∀ t, execMove uid beats s = .next t → Keeps r0 t := by
  unfold execMove
  refine keeps_next ?_
  with_reducible repeat' (first
    | assumption | apply State.chargeCmd_keeps | apply State.finish_keeps | apply State.runMove_keeps
    | refine keeps_ite ?_ ?_ | split)

theorem State.moveAnswered_keeps {r0 : State} {s : State} (uid : Nat) (hk : Keeps r0 s)  :
    Keeps r0 (State.moveAnswered s uid) := by
  unfold State.moveAnswered
  with_reducible repeat' (first
    | assumption | apply State.modCmd_keeps | apply State.askOn_keeps | apply State.finish_keeps
    | apply State.moveEnd_keeps | refine keeps_ite ?_ ?_ | split)

theorem State.moveArrived_keeps {r0 : State} {s : State} (uid : Nat) (i : Nat) (bs : List Byte) (hk : Keeps r0 s)  :
    Keeps r0 (State.moveArrived s uid i bs) := by
  unfold State.moveArrived
  with_reducible repeat' (first
    | assumption | apply State.noteMoved_keeps | apply State.landRow_keeps | apply State.modCmd_keeps
    | apply State.finish_keeps | apply State.moveAnswered_keeps | refine keeps_ite ?_ ?_ | refine keeps_ite_fst ?_ ?_
    | refine keeps_fst (by assumption) ?_ | split | (extract_lets) | refine keeps_mk ?_ ?_ ?_ ?_ | exact Nat.le_refl _
    | exact Nat.le_add_right _ _ | (intro))

theorem State.moveRefused_keeps {r0 : State} {s : State} (uid : Nat) (status : Nat) (hk : Keeps r0 s)  :
    Keeps r0 (State.moveRefused s uid status) := by
  unfold State.moveRefused
  with_reducible repeat' (first
    | assumption | apply State.modCmd_keeps | apply State.moveAnswered_keeps | apply State.finish_keeps
    | refine keeps_ite ?_ ?_ | split)

end Sys2Proof.Machine
end

