-- ==== Sys2Proof/Laws/KeepsPairs.lean ====
section
/-! SUPPORT. Keeps for the operations of Machine/Pairs.lean. -/

namespace Sys2Proof.Machine

theorem State.enrol_keeps {r0 : State} {s : State} (c : Cmd) (hk : Keeps r0 s)  :
    Keeps r0 (State.enrol s c) := by
  unfold State.enrol
  with_reducible repeat' (first
    | assumption | apply State.modPair_keeps | apply Append.put_keeps | refine keeps_ite ?_ ?_
    | refine keeps_ite_fst ?_ ?_ | refine keeps_fst (by assumption) ?_ | split | (extract_lets)
    | refine keeps_mk ?_ ?_ ?_ ?_ | exact Nat.le_refl _ | exact Nat.le_add_right _ _ | (intro))

theorem State.tileStart_keeps {r0 : State} {s : State} (c : Cmd) (hk : Keeps r0 s)  :
    Keeps r0 (State.tileStart s c) := by
  unfold State.tileStart
  with_reducible repeat' (first
    | assumption | apply State.enrol_keeps | refine keeps_ite ?_ ?_ | refine keeps_ite_fst ?_ ?_
    | refine keeps_fst (by assumption) ?_ | split | (extract_lets) | refine keeps_mk ?_ ?_ ?_ ?_ | exact Nat.le_refl _
    | exact Nat.le_add_right _ _ | (intro))

theorem State.withholdFreed_keeps {r0 : State} {s : State} (p : Nat) (frame : Nat) (hk : Keeps r0 s)  :
    Keeps r0 (State.withholdFreed s p frame) := by
  unfold State.withholdFreed
  with_reducible repeat' (first
    | assumption | apply State.forEach_keeps | apply State.mailboxWithhold_keeps | split | (extract_lets) | (intro))

theorem State.mismatch_keeps {r0 : State} {s : State} (p : Nat) (frame : Nat) (main : Nat) (check : Nat) (hk : Keeps r0 s)  :
    Keeps r0 (State.mismatch s p frame main check) := by
  unfold State.mismatch
  with_reducible repeat' (first
    | assumption | apply State.withholdFreed_keeps | apply State.modPair_keeps | apply State.set_keeps
    | apply State.count_keeps | apply State.raise_keeps | apply State.makeSuspect_keeps | refine keeps_ite ?_ ?_
    | split)

theorem State.recordsDue_keeps {r0 : State} {s : State} (x : Pair) (t : Tile) (hk : Keeps r0 s)  :
    Keeps r0 (State.recordsDue s x t) := by
  unfold State.recordsDue
  with_reducible repeat' (first
    | assumption | refine keeps_ite ?_ ?_ | refine keeps_ite_fst ?_ ?_ | refine keeps_fst (by assumption) ?_ | split
    | (extract_lets) | refine keeps_mk ?_ ?_ ?_ ?_ | exact Nat.le_refl _ | exact Nat.le_add_right _ _ | (intro))

theorem State.verdictOn_keeps {r0 : State} {s : State} (p : Nat) (t : Tile) (equal : Bool) (hk : Keeps r0 s)  :
    Keeps r0 (State.verdictOn s p t equal) := by
  unfold State.verdictOn
  with_reducible repeat' (first
    | assumption | apply State.modPair_keeps | apply State.recordsDue_keeps | apply State.mismatch_keeps
    | apply State.judgePair_keeps | refine keeps_ite ?_ ?_ | refine keeps_ite_fst ?_ ?_
    | refine keeps_fst (by assumption) ?_ | split | (extract_lets) | refine keeps_mk ?_ ?_ ?_ ?_ | exact Nat.le_refl _
    | exact Nat.le_add_right _ _ | (intro))

theorem execPairDecision_keeps {r0 : State} (pair : Nat) {s : State} (hk : Keeps r0 s)  :
    ∀ t, execPairDecision pair s = .next t → Keeps r0 t := by
  unfold execPairDecision
  refine keeps_next ?_
  with_reducible repeat' (first | assumption | apply State.verdictOn_keeps | split | (extract_lets))

theorem execPairTimeout_keeps {r0 : State} (pair : Nat) {s : State} (hk : Keeps r0 s)  :
    ∀ t, execPairTimeout pair s = .next t → Keeps r0 t := by
  unfold execPairTimeout
  refine keeps_next ?_
  with_reducible repeat' (first | assumption | apply State.verdictOn_keeps | refine keeps_ite ?_ ?_ | split)

theorem execPairFrameEnd_keeps {r0 : State} (pair : Nat) {s : State} (hk : Keeps r0 s)  :
    ∀ t, execPairFrameEnd pair s = .next t → Keeps r0 t := by
  unfold execPairFrameEnd
  refine keeps_next ?_
  with_reducible repeat' (first
    | assumption | apply State.modPair_keeps | apply State.set_keeps | apply State.raise_keeps
    | apply State.count_keeps | refine keeps_ite ?_ ?_ | split | (extract_lets))

theorem State.tileDone_keeps {r0 : State} {s : State} (c : Cmd) (hk : Keeps r0 s)  :
    Keeps r0 (State.tileDone s c) := by
  unfold State.tileDone
  with_reducible repeat' (first | assumption | apply State.modPair_keeps | split)

end Sys2Proof.Machine
end

