-- ==== Sys2Proof/Laws/KeepsPly.lean ====
section
/-! SUPPORT. Keeps for the operations of Machine/Ply.lean. -/

namespace Sys2Proof.Machine

theorem State.dropRanges_keeps {r0 : State} {s : State} (job : Nat) (hk : Keeps r0 s)  :
    Keeps r0 (State.dropRanges s job) := by
  unfold State.dropRanges
  with_reducible repeat' (first
    | assumption | apply State.forEach_keeps | apply State.storeNat_keeps | split | (extract_lets) | (intro))

theorem State.plyFlags_keeps {r0 : State} {s : State} (h : Nat) (ts : List Item) (hk : Keeps r0 s)  :
    Keeps r0 (State.plyFlags s h ts) := by
  unfold State.plyFlags
  with_reducible repeat' (first | assumption | apply State.raiseN_keeps)

theorem State.leaveTiles_keeps {r0 : State} {s : State} (c : Cmd) (ts : List Item) (hk : Keeps r0 s)  :
    Keeps r0 (State.leaveTiles s c ts) := by
  unfold State.leaveTiles
  with_reducible repeat' (first
    | assumption | split | (extract_lets) | refine keeps_mk ?_ ?_ ?_ ?_ | exact Nat.le_refl _)

theorem State.endPly_keeps {r0 : State} {s : State} (c : Cmd) (k : Nat) (outs : List (List Output)) (ts : List Item) (hk : Keeps r0 s)  :
    Keeps r0 (State.endPly s c k outs ts) := by
  unfold State.endPly
  with_reducible repeat' (first
    | assumption | apply State.leaveTiles_keeps | apply State.commitOutputs_keeps | apply State.plyFlags_keeps
    | apply State.noteWritten_keeps | apply State.finish_keeps | refine keeps_ite ?_ ?_ | refine keeps_ite_fst ?_ ?_
    | refine keeps_fst (by assumption) ?_ | split | (extract_lets) | refine keeps_mk ?_ ?_ ?_ ?_ | exact Nat.le_refl _
    | exact Nat.le_add_right _ _ | (intro))

theorem State.stopPly_keeps {r0 : State} {s : State} (c : Cmd) (k : Nat) (outs : List (List Output)) (ts : List Item) (hk : Keeps r0 s)  :
    Keeps r0 (State.stopPly s c k outs ts) := by
  unfold State.stopPly
  with_reducible repeat' (first
    | assumption | apply State.cutTiles_keeps | apply State.plyFlags_keeps | refine keeps_ite ?_ ?_
    | refine keeps_ite_fst ?_ ?_ | refine keeps_fst (by assumption) ?_ | split | (extract_lets)
    | refine keeps_mk ?_ ?_ ?_ ?_ | exact Nat.le_refl _ | exact Nat.le_add_right _ _ | (intro))

theorem execSolve_keeps {r0 : State} (uid : Nat) (beats : Nat) {s : State} (hk : Keeps r0 s)  :
    ∀ t, execSolve uid beats s = .next t → Keeps r0 t := by
  unfold execSolve
  refine keeps_next ?_
  with_reducible repeat' (first
    | assumption | apply State.chargeCmd_keeps | apply State.endPly_keeps | apply State.finish_keeps
    | refine keeps_ite ?_ ?_ | split | (extract_lets))

theorem execDyn_keeps {r0 : State} (uid : Nat) (beats : Nat) {s : State} (hk : Keeps r0 s)  :
    ∀ t, execDyn uid beats s = .next t → Keeps r0 t := by
  unfold execDyn
  refine keeps_next ?_
  with_reducible repeat' (first
    | assumption | apply State.chargeCmd_keeps | apply State.endPly_keeps | apply State.finish_keeps
    | refine keeps_ite ?_ ?_ | split | (extract_lets))

theorem State.cutDyn_keeps {r0 : State} {s : State} (c : Cmd) (d : Option Dyn) (hk : Keeps r0 s)  :
    Keeps r0 (State.cutDyn s c d) := by
  unfold State.cutDyn
  with_reducible repeat' (first | assumption | apply State.stopPly_keeps | refine keeps_ite ?_ ?_ | split)

theorem State.setBank_keeps {r0 : State} {s : State} (h : Nat) (b : Nat) (st : Nat) (job : Nat) (hk : Keeps r0 s)  :
    Keeps r0 (State.setBank s h b st job) := by
  unfold State.setBank
  with_reducible repeat' (first
    | assumption | apply State.set_keeps | apply State.setBit_keeps | refine keeps_ite ?_ ?_)

theorem State.freeBankOf_keeps {r0 : State} {s : State} (c : Cmd) (hk : Keeps r0 s)  :
    Keeps r0 (State.freeBankOf s c) := by
  unfold State.freeBankOf
  with_reducible repeat' (first | assumption | apply State.setBank_keeps | split)

theorem State.cutPly_keeps {r0 : State} {s : State} (c : Cmd) (hk : Keeps r0 s)  :
    Keeps r0 (State.cutPly s c) := by
  unfold State.cutPly
  with_reducible repeat' (first
    | assumption | apply State.stopPly_keeps | apply State.cutDyn_keeps | refine keeps_ite ?_ ?_ | split)

theorem execPlyYield_keeps {r0 : State} (hank : Nat) {s : State} (hk : Keeps r0 s)  :
    ∀ t, execPlyYield hank s = .next t → Keeps r0 t := by
  unfold execPlyYield
  refine keeps_next ?_
  with_reducible repeat' (first
    | assumption | apply State.modCmd_keeps | apply State.setBank_keeps | apply State.count_keeps | split)

end Sys2Proof.Machine
end

