-- ==== Sys2Proof/Laws/KeepsAbort.lean ====
section
/-! SUPPORT. Keeps for the operations of Machine/Abort.lean. -/

namespace Sys2Proof.Machine

theorem State.movePrefix_keeps {r0 : State} {s : State} (c : Cmd) (hk : Keeps r0 s)  :
    Keeps r0 (State.movePrefix s c) := by
  unfold State.movePrefix
  with_reducible repeat' (first
    | assumption | apply State.moveRows_keeps | refine keeps_ite ?_ ?_ | (extract_lets) | refine keeps_mk ?_ ?_ ?_ ?_
    | exact Nat.le_refl _ | exact Nat.le_add_right _ _)

theorem State.cutFormed_keeps {r0 : State} {s : State} (c : Cmd) (hk : Keeps r0 s)  :
    Keeps r0 (State.cutFormed s c) := by
  unfold State.cutFormed
  with_reducible repeat' (first
    | assumption | apply State.cutTiles_keeps | apply State.loomFlags_keeps | apply State.noteGroup_keeps
    | refine keeps_ite ?_ ?_ | refine keeps_ite_fst ?_ ?_ | refine keeps_fst (by assumption) ?_ | split
    | (extract_lets) | refine keeps_mk ?_ ?_ ?_ ?_ | exact Nat.le_refl _ | exact Nat.le_add_right _ _ | (intro))

theorem State.cutWork_keeps {r0 : State} {s : State} (c : Cmd) (hk : Keeps r0 s)  :
    Keeps r0 (State.cutWork s c) := by
  unfold State.cutWork
  with_reducible repeat' (first
    | assumption | apply State.cutAttn_keeps | apply State.cutPly_keeps | apply State.movePrefix_keeps
    | apply State.cutFormed_keeps | split)

theorem State.cutCopy_keeps {r0 : State} {s : State} (c : Cmd) (hk : Keeps r0 s)  :
    Keeps r0 (State.cutCopy s c) := by
  unfold State.cutCopy
  with_reducible repeat' (first
    | assumption | apply State.forEach_keeps | apply State.pathMet_keeps | apply State.parityReport_keeps
    | apply State.writeRow_keeps | refine keeps_ite ?_ ?_ | refine keeps_ite_fst ?_ ?_
    | refine keeps_fst (by assumption) ?_ | split | (extract_lets) | refine keeps_mk ?_ ?_ ?_ ?_ | exact Nat.le_refl _
    | exact Nat.le_add_right _ _ | (intro))

theorem State.stopCmd_keeps {r0 : State} {s : State} (c : Cmd) (hk : Keeps r0 s)  :
    Keeps r0 (State.stopCmd s c) := by
  unfold State.stopCmd
  with_reducible repeat' (first
    | assumption | apply State.chargeCut_keeps | apply State.cutWork_keeps | apply State.cutCopy_keeps
    | refine keeps_ite ?_ ?_ | split)

theorem State.stopAll_keeps {r0 : State} {s : State} (hk : Keeps r0 s)  :
    Keeps r0 (State.stopAll s) := by
  unfold State.stopAll
  with_reducible repeat' (first
    | assumption | apply State.forEach_keeps | apply State.stopCmd_keeps | apply State.freeBankOf_keeps
    | (extract_lets) | refine keeps_mk ?_ ?_ ?_ ?_ | exact Nat.le_refl _ | (intro))

theorem State.stopStreams_keeps {r0 : State} {s : State} (hk : Keeps r0 s)  :
    Keeps r0 (State.stopStreams s) := by
  unfold State.stopStreams
  with_reducible repeat' (first
    | assumption | apply State.forEach_keeps | apply State.set_keeps | apply State.putCap_keeps
    | apply State.putDs_keeps | (extract_lets) | (intro))

theorem State.dropAllRanges_keeps {r0 : State} {s : State} (hk : Keeps r0 s)  :
    Keeps r0 (State.dropAllRanges s) := by
  unfold State.dropAllRanges
  with_reducible repeat' (first
    | assumption | apply State.forEach_keeps | apply State.storeNat_keeps | split | (extract_lets) | (intro))

theorem State.stopLinks_keeps {r0 : State} {s : State} (hk : Keeps r0 s)  :
    Keeps r0 (State.stopLinks s) := by
  unfold State.stopLinks
  with_reducible repeat' (first
    | assumption | apply State.forEach_keeps | apply State.set_keeps | (extract_lets) | refine keeps_mk ?_ ?_ ?_ ?_
    | exact Nat.le_refl _ | (intro))

theorem State.abortAll_keeps {r0 : State} {s : State} (hk : Keeps r0 s)  :
    Keeps r0 (State.abortAll s) := by
  unfold State.abortAll
  with_reducible repeat' (first
    | assumption | apply State.stopAll_keeps | apply State.drainWindows_keeps | apply State.dropAllRanges_keeps
    | apply State.stopStreams_keeps | apply State.stopLinks_keeps | apply State.kvSweep_keeps | (extract_lets)
    | refine keeps_mk ?_ ?_ ?_ ?_ | exact Nat.le_refl _)

theorem State.settle_keeps {r0 : State} {s : State} (hk : Keeps r0 s)  :
    Keeps r0 (State.settle s) := by
  unfold State.settle
  with_reducible repeat' (first
    | assumption | apply State.abortAll_keeps | split | (extract_lets) | refine keeps_mk ?_ ?_ ?_ ?_
    | exact Nat.le_refl _)

theorem execAbortTokenReset_keeps {r0 : State} {s : State} (hk : Keeps r0 s)  :
    ∀ t, execAbortTokenReset s = .next t → Keeps r0 t := by
  unfold execAbortTokenReset
  refine keeps_next ?_
  with_reducible repeat' (first
    | assumption | refine keeps_ite ?_ ?_ | (extract_lets) | refine keeps_mk ?_ ?_ ?_ ?_ | exact Nat.le_refl _)

theorem execAbortRecoveryEnd_keeps {r0 : State} {s : State} (hk : Keeps r0 s)  :
    ∀ t, execAbortRecoveryEnd s = .next t → Keeps r0 t := by
  unfold execAbortRecoveryEnd
  refine keeps_next ?_
  with_reducible repeat' (first | assumption | apply State.set_keeps | refine keeps_ite ?_ ?_)

end Sys2Proof.Machine
end

