-- ==== Sys2Proof/Laws/KeepsJournal.lean ====
section
/-! SUPPORT. Keeps for the operations of Machine/Journal.lean. -/

namespace Sys2Proof.Machine

theorem State.jnlEffect_keeps {r0 : State} {s : State} (r : JRecord) (hk : Keeps r0 s)  :
    Keeps r0 (State.jnlEffect s r) := by
  unfold State.jnlEffect
  with_reducible repeat' (first | assumption | apply State.set_keeps | refine keeps_ite ?_ ?_)

theorem State.jnlWrite_keeps {r0 : State} {s : State} (type : Nat) (id : Nat) (payload : List Byte) (hk : Keeps r0 s)  :
    Keeps r0 (State.jnlWrite s type id payload) := by
  unfold State.jnlWrite
  with_reducible repeat' (first
    | assumption | apply State.store_keeps | apply State.set_keeps | apply State.jnlEffect_keeps
    | refine keeps_ite ?_ ?_ | refine keeps_ite_fst ?_ ?_ | refine keeps_fst (by assumption) ?_ | split
    | (extract_lets) | refine keeps_mk ?_ ?_ ?_ ?_ | exact Nat.le_refl _ | exact Nat.le_add_right _ _ | (intro))

theorem State.jnlResult_keeps {r0 : State} {s : State} (a : JnlAppend) (hk : Keeps r0 s)  :
    Keeps r0 (State.jnlResult s a) := by
  unfold State.jnlResult
  with_reducible repeat' (first
    | assumption | refine keeps_ite ?_ ?_ | split | (extract_lets) | refine keeps_mk ?_ ?_ ?_ ?_
    | exact Nat.le_refl _)

theorem State.compact_keeps {r0 : State} {s : State} (hk : Keeps r0 s)  :
    Keeps r0 (State.compact s) := by
  unfold State.compact
  with_reducible repeat' (first | assumption | apply State.set_keeps)

theorem State.jnlFill_keeps {r0 : State} {s : State} (hk : Keeps r0 s)  :
    Keeps r0 (State.jnlFill s) := by
  unfold State.jnlFill
  with_reducible repeat' (first
    | assumption | apply State.compact_keeps | refine keeps_ite ?_ ?_ | refine keeps_ite_fst ?_ ?_
    | refine keeps_fst (by assumption) ?_ | split | (extract_lets) | refine keeps_mk ?_ ?_ ?_ ?_ | exact Nat.le_refl _
    | exact Nat.le_add_right _ _ | (intro))

theorem State.tearAppend_keeps {r0 : State} {s : State} (hk : Keeps r0 s)  :
    Keeps r0 (State.tearAppend s) := by
  unfold State.tearAppend
  with_reducible repeat' (first
    | assumption | refine keeps_ite ?_ ?_ | refine keeps_ite_fst ?_ ?_ | refine keeps_fst (by assumption) ?_ | split
    | (extract_lets) | refine keeps_mk ?_ ?_ ?_ ?_ | exact Nat.le_refl _ | exact Nat.le_add_right _ _
    | refine keeps_mem ?_ ?_ ?_ ?_ ?_ | exact (fun x => Memory.wf_clear _ _ x) | (intro))

theorem State.jnlAppend_keeps {r0 : State} {s : State} (a : JnlAppend) (hk : Keeps r0 s)  :
    Keeps r0 (State.jnlAppend s a) := by
  unfold State.jnlAppend
  with_reducible repeat' (first
    | assumption | apply State.compact_keeps | apply State.jnlWrite_keeps | apply State.jnlResult_keeps
    | apply State.jnlFill_keeps | refine keeps_ite ?_ ?_ | refine keeps_ite_fst ?_ ?_
    | refine keeps_fst (by assumption) ?_ | split | (extract_lets) | refine keeps_mk ?_ ?_ ?_ ?_ | exact Nat.le_refl _
    | exact Nat.le_add_right _ _ | (intro))

theorem State.compactEnd_keeps {r0 : State} {s : State} (hk : Keeps r0 s)  :
    Keeps r0 (State.compactEnd s) := by
  unfold State.compactEnd
  with_reducible repeat' (first
    | assumption | apply State.set_keeps | apply State.raise_keeps | (extract_lets) | exact Nat.le_refl _
    | refine keeps_mem ?_ ?_ ?_ ?_ ?_
    | exact (fun x => Memory.wf_clear _ _ (Memory.wf_write _ _ (Memory.wf_clear _ _ x))))

theorem execCompactionEnd_keeps {r0 : State} {s : State} (hk : Keeps r0 s)  :
    ∀ t, execCompactionEnd s = .next t → Keeps r0 t := by
  unfold execCompactionEnd
  refine keeps_next ?_
  with_reducible repeat' (first
    | assumption | apply State.compactEnd_keeps | apply State.forEach_keeps | apply State.jnlAppend_keeps
    | refine keeps_ite ?_ ?_ | (extract_lets) | refine keeps_mk ?_ ?_ ?_ ?_ | exact Nat.le_refl _)

end Sys2Proof.Machine
end

