-- ==== Sys2Proof/Laws/KeepsDevice.lean ====
section
/-! SUPPORT. Keeps for the operations of Machine/Device.lean. -/

namespace Sys2Proof.Machine

theorem State.turn_keeps {r0 : State} {s : State} (d : DevState) (left : DevState) (cause : Nat) (decided : Option (Nat × Nat × DevState)) (hk : Keeps r0 s)  :
    Keeps r0 (State.turn s d left cause decided) := by
  unfold State.turn
  with_reducible repeat' (first
    | assumption | apply State.raise_keeps | refine keeps_ite ?_ ?_ | refine keeps_ite_fst ?_ ?_
    | refine keeps_fst (by assumption) ?_ | split | (extract_lets) | refine keeps_mk ?_ ?_ ?_ ?_ | exact Nat.le_refl _
    | exact Nat.le_add_right _ _ | (intro))

theorem State.go_keeps {r0 : State} {s : State} (d : DevState) (cause : Nat) (hk : Keeps r0 s)  :
    Keeps r0 (State.go s d cause) := by
  unfold State.go
  with_reducible repeat' (first
    | assumption | apply State.turn_keeps | (extract_lets) | refine keeps_mk ?_ ?_ ?_ ?_ | exact Nat.le_refl _)

theorem State.goBy_keeps {r0 : State} {s : State} (d : DevState) (cause : Nat) (rank : Nat) (hk : Keeps r0 s)  :
    Keeps r0 (State.goBy s d cause rank) := by
  unfold State.goBy
  with_reducible repeat' (first
    | assumption | apply State.turn_keeps | (extract_lets) | refine keeps_mk ?_ ?_ ?_ ?_ | exact Nat.le_refl _)

/-- What a loss of the main domain leaves of memory is in canonical form. -/
theorem Memory.wf_kept {m : List Host.Cell} (lpddr : Bool) (h : Memory.wf m = true) : Memory.wf (Mem.kept m lpddr) = true := by
  have hs (a b : Nat) : Memory.wf (Sparse.within m a b) = true := Memory.wf_filter _ h
  have hb (a b : Nat) (p : Host.Cell) (hp : p ∈ Sparse.within m a b) : a ≤ p.1 ∧ p.1 < b := by
    simpa using (List.mem_filter.mp hp).2
  have app {x y : List Host.Cell} (hx : Memory.wf x = true) (hy : Memory.wf y = true)
      (hxy : ∀ p ∈ x, ∀ q ∈ y, p.1 < q.1) : Memory.wf (x ++ y) = true := by
    rw [Memory.wf_iff] at *
    exact ⟨Sparse.sorted_append hx.1 hy.1 hxy, fun p hp => (List.mem_append.mp hp).elim (hx.2 p) (hy.2 p)⟩
  unfold Mem.kept
  refine app ?_ (app (hs _ _) (hs _ _) ?_) ?_
  · split
    · exact hs _ _
    · rfl
  · intro p hp q hq
    have := hb _ _ p hp; have := hb _ _ q hq; omega
  · intro p hp q hq
    split at hp
    · have := hb _ _ p hp
      rcases List.mem_append.mp hq with hq | hq <;> · have := hb _ _ q hq; omega
    · cases hp

theorem State.mainLost_keeps {r0 s : State} (keep : List Field) (lpddr : Bool) (hk : Keeps r0 s) :
    Keeps r0 (State.mainLost s keep lpddr) :=
  ⟨hk.pending, fun x => Memory.wf_kept _ (hk.mem x), fun x => Sparse.sorted_filter _ (hk.regs x), hk.time, hk.uid,
    hk.free⟩


theorem State.enterReset_keeps {r0 : State} {s : State} (cause : Nat) (rank : Nat) (internal : Bool) (hk : Keeps r0 s)  :
    Keeps r0 (State.enterReset s cause rank internal) := by
  unfold State.enterReset
  with_reducible repeat' (first
    | assumption | apply State.mainLost_keeps | split | (extract_lets) | refine keeps_mk ?_ ?_ ?_ ?_
    | exact Nat.le_refl _)

theorem State.resetBy_keeps {r0 : State} {s : State} (cause : Nat) (internal : Bool) (hk : Keeps r0 s)  :
    Keeps r0 (State.resetBy s cause internal) := by
  unfold State.resetBy
  with_reducible repeat' (first | assumption | apply State.enterReset_keeps | refine keeps_ite ?_ ?_)

theorem State.beginBoot_keeps {r0 : State} {s : State} (hk : Keeps r0 s)  :
    Keeps r0 (State.beginBoot s) := by
  unfold State.beginBoot
  with_reducible repeat' (first | assumption | apply State.go_keeps)

theorem State.enterSleep_keeps {r0 : State} {s : State} (hk : Keeps r0 s)  :
    Keeps r0 (State.enterSleep s) := by
  unfold State.enterSleep
  with_reducible repeat' (first
    | assumption | apply State.goBy_keeps | refine keeps_mk ?_ ?_ ?_ ?_ | exact Nat.le_refl _
    | exact Nat.le_add_right _ _)

theorem State.settleSleep_keeps {r0 : State} {s : State} (hk : Keeps r0 s)  :
    Keeps r0 (State.settleSleep s) := by
  unfold State.settleSleep
  with_reducible repeat' (first
    | assumption | apply State.mainLost_keeps | apply State.count_keeps | refine keeps_ite ?_ ?_
    | refine keeps_ite_fst ?_ ?_ | refine keeps_fst (by assumption) ?_ | split | (extract_lets)
    | refine keeps_mk ?_ ?_ ?_ ?_ | exact Nat.le_refl _ | exact Nat.le_add_right _ _ | (intro))

theorem State.stopCycle_keeps {r0 : State} {s : State} (hk : Keeps r0 s)  :
    Keeps r0 (State.stopCycle s) := by
  unfold State.stopCycle
  with_reducible repeat' (first
    | assumption | apply State.set_keeps | split | (extract_lets) | refine keeps_mk ?_ ?_ ?_ ?_ | exact Nat.le_refl _)

theorem State.startSlice_keeps {r0 : State} {s : State} (k : Nat) (slice : Nat) (suspect : Bool) (hk : Keeps r0 s)  :
    Keeps r0 (State.startSlice s k slice suspect) := by
  unfold State.startSlice
  with_reducible repeat' (first
    | assumption | apply State.set_keeps | apply Append.put_keeps | refine keeps_ite ?_ ?_
    | refine keeps_ite_fst ?_ ?_ | refine keeps_fst (by assumption) ?_ | split | (extract_lets)
    | refine keeps_mk ?_ ?_ ?_ ?_ | exact Nat.le_refl _ | exact Nat.le_add_right _ _ | (intro))

theorem State.startOverdue_keeps {r0 : State} {s : State} (hk : Keeps r0 s)  :
    Keeps r0 (State.startOverdue s) := by
  unfold State.startOverdue
  with_reducible repeat' (first | assumption | apply State.startSlice_keeps | refine keeps_ite ?_ ?_ | split)

theorem State.enterSafe_keeps {r0 : State} {s : State} (status : Nat) (source : Nat) (hk : Keeps r0 s)  :
    Keeps r0 (State.enterSafe s status source) := by
  unfold State.enterSafe
  with_reducible repeat' (first
    | assumption | apply State.jobFault_keeps | apply State.settle_keeps | apply State.stopCycle_keeps
    | apply State.goBy_keeps | apply State.loopsSafe_keeps | apply State.startOverdue_keeps | (extract_lets)
    | refine keeps_mk ?_ ?_ ?_ ?_ | exact Nat.le_refl _ | exact Nat.le_add_right _ _)

theorem State.selvFault_keeps {r0 : State} {s : State} (kind : Nat) (status : Nat) (source : Nat) (hk : Keeps r0 s)  :
    Keeps r0 (State.selvFault s kind status source) := by
  unfold State.selvFault
  with_reducible repeat' (first
    | assumption | apply State.set_keeps | apply State.enterSafe_keeps | refine keeps_ite ?_ ?_)

theorem State.timeFault_keeps {r0 : State} {s : State} (escalates : Bool) (hk : Keeps r0 s)  :
    Keeps r0 (State.timeFault s escalates) := by
  unfold State.timeFault
  with_reducible repeat' (first
    | assumption | apply State.raise_keeps | apply State.selvFault_keeps | refine keeps_ite ?_ ?_)

theorem execLockstepMismatch_keeps {r0 : State} {s : State} (hk : Keeps r0 s)  :
    ∀ t, execLockstepMismatch s = .next t → Keeps r0 t := by
  unfold execLockstepMismatch
  refine keeps_next ?_
  with_reducible repeat' (first
    | assumption | apply State.raise_keeps | apply State.selvFault_keeps | refine keeps_ite ?_ ?_)

theorem execDtiExceeded_keeps {r0 : State} (skein : Nat) {s : State} (hk : Keeps r0 s)  :
    ∀ t, execDtiExceeded skein s = .next t → Keeps r0 t := by
  unfold execDtiExceeded
  refine keeps_next ?_
  with_reducible repeat' (first
    | assumption | apply State.raise_keeps | apply State.startOverdue_keeps | refine keeps_ite ?_ ?_ | (extract_lets)
    | refine keeps_mk ?_ ?_ ?_ ?_ | exact Nat.le_refl _)

theorem execDtiFault_keeps {r0 : State} (skein : Nat) {s : State} (hk : Keeps r0 s)  :
    ∀ t, execDtiFault skein s = .next t → Keeps r0 t := by
  unfold execDtiFault
  refine keeps_next ?_
  with_reducible repeat' (first
    | assumption | apply State.selvFault_keeps | refine keeps_ite ?_ ?_ | (extract_lets) | refine keeps_mk ?_ ?_ ?_ ?_
    | exact Nat.le_refl _)

theorem execEngineHang_keeps {r0 : State} (uid : Nat) {s : State} (hk : Keeps r0 s)  :
    ∀ t, execEngineHang uid s = .next t → Keeps r0 t := by
  unfold execEngineHang
  refine keeps_next ?_
  with_reducible repeat' (first
    | assumption | apply State.raise_keeps | apply State.selvFault_keeps | apply State.cutShort_keeps
    | apply State.makeSuspect_keeps | apply State.jobFault_keeps | apply State.settle_keeps | refine keeps_ite ?_ ?_
    | split)

theorem State.zeroise_keeps {r0 : State} {s : State} (hk : Keeps r0 s)  :
    Keeps r0 (State.zeroise s) := by
  unfold State.zeroise
  with_reducible repeat' (first | assumption | (extract_lets) | refine keeps_mk ?_ ?_ ?_ ?_ | exact Nat.le_refl _)

theorem State.alarmLog_keeps {r0 : State} {s : State} (l : AlarmLog) (hk : Keeps r0 s)  :
    Keeps r0 (State.alarmLog s l) := by
  unfold State.alarmLog
  with_reducible repeat' (first
    | assumption | apply State.jnlAppend_keeps | refine keeps_ite ?_ ?_ | (extract_lets) | refine keeps_mk ?_ ?_ ?_ ?_
    | exact Nat.le_refl _)

theorem State.haltWork_keeps {r0 : State} {s : State} (hk : Keeps r0 s)  :
    Keeps r0 (State.haltWork s) := by
  unfold State.haltWork
  with_reducible repeat' (first
    | assumption | apply State.forEach_keeps | apply State.set_keeps | (extract_lets) | refine keeps_mk ?_ ?_ ?_ ?_
    | exact Nat.le_refl _ | (intro))

theorem State.enterAlarm_keeps {r0 : State} {s : State} (hk : Keeps r0 s)  :
    Keeps r0 (State.enterAlarm s) := by
  unfold State.enterAlarm
  with_reducible repeat' (first
    | assumption | apply State.stopCycle_keeps | apply State.haltWork_keeps | apply State.goBy_keeps
    | apply State.loopsSafe_keeps | refine keeps_ite ?_ ?_)

theorem State.alarmC_keeps {r0 : State} {s : State} (hk : Keeps r0 s)  :
    Keeps r0 (State.alarmC s) := by
  unfold State.alarmC
  with_reducible repeat' (first
    | assumption | apply State.jnlWrite_keeps | apply State.set_keeps | apply State.jnlFill_keeps
    | apply State.zeroise_keeps | apply State.enterAlarm_keeps | refine keeps_ite ?_ ?_ | refine keeps_ite_fst ?_ ?_
    | refine keeps_fst (by assumption) ?_ | split | (extract_lets) | refine keeps_mk ?_ ?_ ?_ ?_ | exact Nat.le_refl _
    | exact Nat.le_add_right _ _ | (intro))

theorem State.tamper_keeps {r0 : State} {s : State} (sensors : List Nat) (hk : Keeps r0 s)  :
    Keeps r0 (State.tamper s sensors) := by
  unfold State.tamper
  with_reducible repeat' (first
    | assumption | apply State.set_keeps | apply State.doIf_keeps | apply State.raiseN_keeps
    | apply State.forEach_keeps | apply State.alarmLog_keeps | apply State.alarmC_keeps | apply State.resetBy_keeps
    | refine keeps_ite ?_ ?_ | split | (extract_lets) | refine keeps_mk ?_ ?_ ?_ ?_ | exact Nat.le_refl _
    | exact Nat.le_add_right _ _ | (intro))

theorem execTamperTrip_keeps {r0 : State} (sensors : List Nat) {s : State} (hk : Keeps r0 s)  :
    ∀ t, execTamperTrip sensors s = .next t → Keeps r0 t := by
  unfold execTamperTrip
  refine keeps_next ?_
  with_reducible repeat' (first | assumption | apply State.tamper_keeps)

theorem execZeroisationComplete_keeps {r0 : State} {s : State} (hk : Keeps r0 s)  :
    ∀ t, execZeroisationComplete s = .next t → Keeps r0 t := by
  unfold execZeroisationComplete
  refine keeps_next ?_
  with_reducible repeat' (first | assumption | apply State.enterReset_keeps | refine keeps_ite ?_ ?_)

theorem execRailsUp_keeps {r0 : State} {s : State} (hk : Keeps r0 s)  :
    ∀ t, execRailsUp s = .next t → Keeps r0 t := by
  unfold execRailsUp
  refine keeps_next ?_
  with_reducible repeat' (first
    | assumption | apply State.enterReset_keeps | refine keeps_ite ?_ ?_ | (extract_lets)
    | refine keeps_mk ?_ ?_ ?_ ?_ | exact Nat.le_refl _)

theorem State.enterOff_keeps {r0 : State} {s : State} (aonHolds : Bool) (hk : Keeps r0 s)  :
    Keeps r0 (State.enterOff s aonHolds) := by
  unfold State.enterOff
  with_reducible repeat' (first
    | assumption | apply State.mainLost_keeps | refine keeps_ite ?_ ?_ | (extract_lets) | refine keeps_mk ?_ ?_ ?_ ?_
    | exact Nat.le_refl _)

theorem execRailLoss_keeps {r0 : State} (aonHolds : Bool) {s : State} (hk : Keeps r0 s)  :
    ∀ t, execRailLoss aonHolds s = .next t → Keeps r0 t := by
  unfold execRailLoss
  refine keeps_next ?_
  with_reducible repeat' (first
    | assumption | apply State.tearAppend_keeps | apply State.enterOff_keeps | refine keeps_ite ?_ ?_
    | refine keeps_ite_fst ?_ ?_ | refine keeps_fst (by assumption) ?_ | split | (extract_lets)
    | refine keeps_mk ?_ ?_ ?_ ?_ | exact Nat.le_refl _ | exact Nat.le_add_right _ _ | (intro))

theorem State.wakeBy_keeps {r0 : State} {s : State} (source : Nat) (hk : Keeps r0 s)  :
    Keeps r0 (State.wakeBy s source) := by
  unfold State.wakeBy
  with_reducible repeat' (first
    | assumption | apply State.set_keeps | refine keeps_ite ?_ ?_ | (extract_lets) | refine keeps_mk ?_ ?_ ?_ ?_
    | exact Nat.le_refl _)

theorem execResetNAssert_keeps {r0 : State} (lowNs : Nat) {s : State} (hk : Keeps r0 s)  :
    ∀ t, execResetNAssert lowNs s = .next t → Keeps r0 t := by
  unfold execResetNAssert
  refine keeps_next ?_
  with_reducible repeat' (first
    | assumption | apply State.resetBy_keeps | apply State.wakeBy_keeps | refine keeps_ite ?_ ?_ | split
    | (extract_lets) | refine keeps_mk ?_ ?_ ?_ ?_ | exact Nat.le_refl _ | exact Nat.le_add_right _ _)

theorem execResetNRelease_keeps {r0 : State} {s : State} (hk : Keeps r0 s)  :
    ∀ t, execResetNRelease s = .next t → Keeps r0 t := by
  unfold execResetNRelease
  refine keeps_next ?_
  with_reducible repeat' (first
    | assumption | apply State.beginBoot_keeps | refine keeps_ite ?_ ?_ | (extract_lets) | refine keeps_mk ?_ ?_ ?_ ?_
    | exact Nat.le_refl _)

theorem execInternalResetEnd_keeps {r0 : State} {s : State} (hk : Keeps r0 s)  :
    ∀ t, execInternalResetEnd s = .next t → Keeps r0 t := by
  unfold execInternalResetEnd
  refine keeps_next ?_
  with_reducible repeat' (first
    | assumption | apply State.beginBoot_keeps | refine keeps_ite ?_ ?_ | (extract_lets) | refine keeps_mk ?_ ?_ ?_ ?_
    | exact Nat.le_refl _)

theorem State.refuseReq_keeps {r0 : State} {s : State} (hk : Keeps r0 s)  :
    Keeps r0 (State.refuseReq s) := by
  unfold State.refuseReq
  with_reducible repeat' (first | assumption | apply State.raise_keeps)

theorem State.rankedReq_keeps {r0 : State} {s : State} (rank : Nat) (allowed : Bool) (f : State → State) (hk : Keeps r0 s) (hf : ∀ (t : State), Keeps r0 t → Keeps r0 (f t)) :
    Keeps r0 (State.rankedReq s rank allowed f) := by
  unfold State.rankedReq
  with_reducible repeat' (first
    | assumption | apply hf | apply State.refuseReq_keeps | refine keeps_ite ?_ ?_ | refine keeps_ite_fst ?_ ?_
    | refine keeps_fst (by assumption) ?_ | split | (extract_lets) | refine keeps_mk ?_ ?_ ?_ ?_ | exact Nat.le_refl _
    | exact Nat.le_add_right _ _ | (intro))

theorem State.hostReq_keeps {r0 : State} {s : State} (allowed : Bool) (f : State → State) (hk : Keeps r0 s) (hf : ∀ (t : State), Keeps r0 t → Keeps r0 (f t)) :
    Keeps r0 (State.hostReq s allowed f) := by
  unfold State.hostReq
  with_reducible repeat' (first | assumption | apply hf | apply State.rankedReq_keeps | refine keeps_ite ?_ ?_)

theorem execStateReqReset_keeps {r0 : State} {s : State} (hk : Keeps r0 s)  :
    ∀ t, execStateReqReset s = .next t → Keeps r0 t := by
  unfold execStateReqReset
  refine keeps_next ?_
  with_reducible repeat' (first
    | assumption | apply State.rankedReq_keeps | apply State.resetBy_keeps | (extract_lets) | (intro))

theorem execStateReqSleep_keeps {r0 : State} {s : State} (hk : Keeps r0 s)  :
    ∀ t, execStateReqSleep s = .next t → Keeps r0 t := by
  unfold execStateReqSleep
  refine keeps_next ?_
  with_reducible repeat' (first
    | assumption | apply State.hostReq_keeps | (extract_lets) | refine keeps_mk ?_ ?_ ?_ ?_ | exact Nat.le_refl _
    | (intro))

theorem execSleepEntry_keeps {r0 : State} {s : State} (hk : Keeps r0 s)  :
    ∀ t, execSleepEntry s = .next t → Keeps r0 t := by
  unfold execSleepEntry
  refine keeps_next ?_
  with_reducible repeat' (first | assumption | apply State.enterSleep_keeps | refine keeps_ite ?_ ?_)

theorem State.enterStandby_keeps {r0 : State} {s : State} (cause : Nat) (hk : Keeps r0 s)  :
    Keeps r0 (State.enterStandby s cause) := by
  unfold State.enterStandby
  with_reducible repeat' (first
    | assumption | apply State.stopCycle_keeps | apply State.goBy_keeps | apply State.loopsOpen_keeps)

theorem execStateReqReleaseSafe_keeps {r0 : State} (selfCheck : Bool) {s : State} (hk : Keeps r0 s)  :
    ∀ t, execStateReqReleaseSafe selfCheck s = .next t → Keeps r0 t := by
  unfold execStateReqReleaseSafe
  refine keeps_next ?_
  with_reducible repeat' (first
    | assumption | apply State.doIf_keeps | apply State.setBit_keeps | apply State.hostReq_keeps
    | apply State.set_keeps | apply State.enterStandby_keeps | (extract_lets) | (intro))

theorem execWakeNEvent_keeps {r0 : State} (lowUs : Nat) {s : State} (hk : Keeps r0 s)  :
    ∀ t, execWakeNEvent lowUs s = .next t → Keeps r0 t := by
  unfold execWakeNEvent
  refine keeps_next ?_
  with_reducible repeat' (first | assumption | apply State.wakeBy_keeps | refine keeps_ite ?_ ?_)

theorem State.listenerWake_keeps {r0 : State} {s : State} (channel : Nat) (kind : Nat) (filter : Nat) (id : Nat) (hk : Keeps r0 s)  :
    Keeps r0 (State.listenerWake s channel kind filter id) := by
  unfold State.listenerWake
  with_reducible repeat' (first
    | assumption | apply State.set_keeps | apply State.count_keeps | apply State.wakeBy_keeps | refine keeps_ite ?_ ?_
    | split)

theorem execCanWakeDominant_keeps {r0 : State} (channel : Nat) (us : Nat) {s : State} (hk : Keeps r0 s)  :
    ∀ t, execCanWakeDominant channel us s = .next t → Keeps r0 t := by
  unfold execCanWakeDominant
  refine keeps_next ?_
  with_reducible repeat' (first | assumption | apply State.listenerWake_keeps | refine keeps_ite ?_ ?_)

theorem execCanWakeFrame_keeps {r0 : State} (channel : Nat) (id : Nat) (ide : Bool) (data : List Byte) {s : State} (hk : Keeps r0 s)  :
    ∀ t, execCanWakeFrame channel id ide data s = .next t → Keeps r0 t := by
  unfold execCanWakeFrame
  refine keeps_next ?_
  with_reducible repeat' (first | assumption | apply State.listenerWake_keeps | refine keeps_ite ?_ ?_ | split)

theorem execWakeBootStart_keeps {r0 : State} {s : State} (hk : Keeps r0 s)  :
    ∀ t, execWakeBootStart s = .next t → Keeps r0 t := by
  unfold execWakeBootStart
  refine keeps_next ?_
  with_reducible repeat' (first
    | assumption | apply State.enterReset_keeps | apply State.go_keeps | refine keeps_ite ?_ ?_ | split
    | (extract_lets) | refine keeps_mk ?_ ?_ ?_ ?_ | exact Nat.le_refl _)

theorem execWakeTimeout_keeps {r0 : State} {s : State} (hk : Keeps r0 s)  :
    ∀ t, execWakeTimeout s = .next t → Keeps r0 t := by
  unfold execWakeTimeout
  refine keeps_next ?_
  with_reducible repeat' (first
    | assumption | apply State.count_keeps | refine keeps_ite ?_ ?_ | split | (extract_lets)
    | refine keeps_mk ?_ ?_ ?_ ?_ | exact Nat.le_refl _)

end Sys2Proof.Machine
end

