-- ==== Sys2Proof/Laws/State.lean ====
section
/-! SUPPORT. What each plain update of the state leaves: one lemma for every field that it does not touch. -/

namespace Sys2Proof.Machine

/-! ## A register field is given a value -/

@[simp] theorem State.set_pending (s : State) (f : Field) (i : Nat) (v : Nat) : (s.set f i v).pending = s.pending := rfl
@[simp] theorem State.set_refTime (s : State) (f : Field) (i : Nat) (v : Nat) : (s.set f i v).refTime = s.refTime := rfl
@[simp] theorem State.set_dev (s : State) (f : Field) (i : Nat) (v : Nat) : (s.set f i v).dev = s.dev := rfl
@[simp] theorem State.set_whorl (s : State) (f : Field) (i : Nat) (v : Nat) : (s.set f i v).whorl = s.whorl := rfl
@[simp] theorem State.set_shadows (s : State) (f : Field) (i : Nat) (v : Nat) : (s.set f i v).shadows = s.shadows := rfl
@[simp] theorem State.set_staging (s : State) (f : Field) (i : Nat) (v : Nat) : (s.set f i v).staging = s.staging := rfl
@[simp] theorem State.set_hostRead (s : State) (f : Field) (i : Nat) (v : Nat) : (s.set f i v).hostRead = s.hostRead := rfl
@[simp] theorem State.set_mem (s : State) (f : Field) (i : Nat) (v : Nat) : (s.set f i v).mem = s.mem := rfl
@[simp] theorem State.set_cmds (s : State) (f : Field) (i : Nat) (v : Nat) : (s.set f i v).cmds = s.cmds := rfl
@[simp] theorem State.set_nextUid (s : State) (f : Field) (i : Nat) (v : Nat) : (s.set f i v).nextUid = s.nextUid := rfl
@[simp] theorem State.set_freeCount (s : State) (f : Field) (i : Nat) (v : Nat) : (s.set f i v).freeCount = s.freeCount := rfl
@[simp] theorem State.set_tokens (s : State) (f : Field) (i : Nat) (v : Nat) : (s.set f i v).tokens = s.tokens := rfl
@[simp] theorem State.set_signals (s : State) (f : Field) (i : Nat) (v : Nat) : (s.set f i v).signals = s.signals := rfl
@[simp] theorem State.set_cores (s : State) (f : Field) (i : Nat) (v : Nat) : (s.set f i v).cores = s.cores := rfl
@[simp] theorem State.set_residents (s : State) (f : Field) (i : Nat) (v : Nat) : (s.set f i v).residents = s.residents := rfl
@[simp] theorem State.set_windows (s : State) (f : Field) (i : Nat) (v : Nat) : (s.set f i v).windows = s.windows := rfl
@[simp] theorem State.set_apertures (s : State) (f : Field) (i : Nat) (v : Nat) : (s.set f i v).apertures = s.apertures := rfl
@[simp] theorem State.set_winAlarm (s : State) (f : Field) (i : Nat) (v : Nat) : (s.set f i v).winAlarm = s.winAlarm := rfl
@[simp] theorem State.set_badParity (s : State) (f : Field) (i : Nat) (v : Nat) : (s.set f i v).badParity = s.badParity := rfl
@[simp] theorem State.set_pathFaults (s : State) (f : Field) (i : Nat) (v : Nat) : (s.set f i v).pathFaults = s.pathFaults := rfl
@[simp] theorem State.set_stores (s : State) (f : Field) (i : Nat) (v : Nat) : (s.set f i v).stores = s.stores := rfl
@[simp] theorem State.set_tiles (s : State) (f : Field) (i : Nat) (v : Nat) : (s.set f i v).tiles = s.tiles := rfl
@[simp] theorem State.set_kv (s : State) (f : Field) (i : Nat) (v : Nat) : (s.set f i v).kv = s.kv := rfl
@[simp] theorem State.set_caps (s : State) (f : Field) (i : Nat) (v : Nat) : (s.set f i v).caps = s.caps := rfl
@[simp] theorem State.set_datasets (s : State) (f : Field) (i : Nat) (v : Nat) : (s.set f i v).datasets = s.datasets := rfl
@[simp] theorem State.set_flyer (s : State) (f : Field) (i : Nat) (v : Nat) : (s.set f i v).flyer = s.flyer := rfl
@[simp] theorem State.set_iwl (s : State) (f : Field) (i : Nat) (v : Nat) : (s.set f i v).iwl = s.iwl := rfl
@[simp] theorem State.set_macs (s : State) (f : Field) (i : Nat) (v : Nat) : (s.set f i v).macs = s.macs := rfl
@[simp] theorem State.set_net (s : State) (f : Field) (i : Nat) (v : Nat) : (s.set f i v).net = s.net := rfl
@[simp] theorem State.set_cans (s : State) (f : Field) (i : Nat) (v : Nat) : (s.set f i v).cans = s.cans := rfl
@[simp] theorem State.set_selv (s : State) (f : Field) (i : Nat) (v : Nat) : (s.set f i v).selv = s.selv := rfl
@[simp] theorem State.set_sec (s : State) (f : Field) (i : Nat) (v : Nat) : (s.set f i v).sec = s.sec := rfl
@[simp] theorem State.set_aon (s : State) (f : Field) (i : Nat) (v : Nat) : (s.set f i v).aon = s.aon := rfl
@[simp] theorem State.set_pwr (s : State) (f : Field) (i : Nat) (v : Nat) : (s.set f i v).pwr = s.pwr := rfl
@[simp] theorem State.set_heddle (s : State) (f : Field) (i : Nat) (v : Nat) : (s.set f i v).heddle = s.heddle := rfl
@[simp] theorem State.set_rings (s : State) (f : Field) (i : Nat) (v : Nat) : (s.set f i v).rings = s.rings := rfl

/-! ## Bytes are stored -/

@[simp] theorem State.store_pending (s : State) (a : Nat) (bs : List Byte) : (s.store a bs).pending = s.pending := rfl
@[simp] theorem State.store_refTime (s : State) (a : Nat) (bs : List Byte) : (s.store a bs).refTime = s.refTime := rfl
@[simp] theorem State.store_dev (s : State) (a : Nat) (bs : List Byte) : (s.store a bs).dev = s.dev := rfl
@[simp] theorem State.store_whorl (s : State) (a : Nat) (bs : List Byte) : (s.store a bs).whorl = s.whorl := rfl
@[simp] theorem State.store_regs (s : State) (a : Nat) (bs : List Byte) : (s.store a bs).regs = s.regs := rfl
@[simp] theorem State.store_shadows (s : State) (a : Nat) (bs : List Byte) : (s.store a bs).shadows = s.shadows := rfl
@[simp] theorem State.store_staging (s : State) (a : Nat) (bs : List Byte) : (s.store a bs).staging = s.staging := rfl
@[simp] theorem State.store_hostRead (s : State) (a : Nat) (bs : List Byte) : (s.store a bs).hostRead = s.hostRead := rfl
@[simp] theorem State.store_cmds (s : State) (a : Nat) (bs : List Byte) : (s.store a bs).cmds = s.cmds := rfl
@[simp] theorem State.store_nextUid (s : State) (a : Nat) (bs : List Byte) : (s.store a bs).nextUid = s.nextUid := rfl
@[simp] theorem State.store_freeCount (s : State) (a : Nat) (bs : List Byte) : (s.store a bs).freeCount = s.freeCount := rfl
@[simp] theorem State.store_tokens (s : State) (a : Nat) (bs : List Byte) : (s.store a bs).tokens = s.tokens := rfl
@[simp] theorem State.store_signals (s : State) (a : Nat) (bs : List Byte) : (s.store a bs).signals = s.signals := rfl
@[simp] theorem State.store_cores (s : State) (a : Nat) (bs : List Byte) : (s.store a bs).cores = s.cores := rfl
@[simp] theorem State.store_residents (s : State) (a : Nat) (bs : List Byte) : (s.store a bs).residents = s.residents := rfl
@[simp] theorem State.store_windows (s : State) (a : Nat) (bs : List Byte) : (s.store a bs).windows = s.windows := rfl
@[simp] theorem State.store_apertures (s : State) (a : Nat) (bs : List Byte) : (s.store a bs).apertures = s.apertures := rfl
@[simp] theorem State.store_winAlarm (s : State) (a : Nat) (bs : List Byte) : (s.store a bs).winAlarm = s.winAlarm := rfl
@[simp] theorem State.store_badParity (s : State) (a : Nat) (bs : List Byte) : (s.store a bs).badParity = s.badParity := rfl
@[simp] theorem State.store_pathFaults (s : State) (a : Nat) (bs : List Byte) : (s.store a bs).pathFaults = s.pathFaults := rfl
@[simp] theorem State.store_stores (s : State) (a : Nat) (bs : List Byte) : (s.store a bs).stores = s.stores := rfl
@[simp] theorem State.store_tiles (s : State) (a : Nat) (bs : List Byte) : (s.store a bs).tiles = s.tiles := rfl
@[simp] theorem State.store_kv (s : State) (a : Nat) (bs : List Byte) : (s.store a bs).kv = s.kv := rfl
@[simp] theorem State.store_caps (s : State) (a : Nat) (bs : List Byte) : (s.store a bs).caps = s.caps := rfl
@[simp] theorem State.store_datasets (s : State) (a : Nat) (bs : List Byte) : (s.store a bs).datasets = s.datasets := rfl
@[simp] theorem State.store_flyer (s : State) (a : Nat) (bs : List Byte) : (s.store a bs).flyer = s.flyer := rfl
@[simp] theorem State.store_iwl (s : State) (a : Nat) (bs : List Byte) : (s.store a bs).iwl = s.iwl := rfl
@[simp] theorem State.store_macs (s : State) (a : Nat) (bs : List Byte) : (s.store a bs).macs = s.macs := rfl
@[simp] theorem State.store_net (s : State) (a : Nat) (bs : List Byte) : (s.store a bs).net = s.net := rfl
@[simp] theorem State.store_cans (s : State) (a : Nat) (bs : List Byte) : (s.store a bs).cans = s.cans := rfl
@[simp] theorem State.store_selv (s : State) (a : Nat) (bs : List Byte) : (s.store a bs).selv = s.selv := rfl
@[simp] theorem State.store_sec (s : State) (a : Nat) (bs : List Byte) : (s.store a bs).sec = s.sec := rfl
@[simp] theorem State.store_aon (s : State) (a : Nat) (bs : List Byte) : (s.store a bs).aon = s.aon := rfl
@[simp] theorem State.store_pwr (s : State) (a : Nat) (bs : List Byte) : (s.store a bs).pwr = s.pwr := rfl
@[simp] theorem State.store_heddle (s : State) (a : Nat) (bs : List Byte) : (s.store a bs).heddle = s.heddle := rfl
@[simp] theorem State.store_rings (s : State) (a : Nat) (bs : List Byte) : (s.store a bs).rings = s.rings := rfl

/-! ## A command is changed -/

@[simp] theorem State.modCmd_pending (s : State) (uid : Nat) (f : Cmd → Cmd) : (s.modCmd uid f).pending = s.pending := rfl
@[simp] theorem State.modCmd_refTime (s : State) (uid : Nat) (f : Cmd → Cmd) : (s.modCmd uid f).refTime = s.refTime := rfl
@[simp] theorem State.modCmd_dev (s : State) (uid : Nat) (f : Cmd → Cmd) : (s.modCmd uid f).dev = s.dev := rfl
@[simp] theorem State.modCmd_whorl (s : State) (uid : Nat) (f : Cmd → Cmd) : (s.modCmd uid f).whorl = s.whorl := rfl
@[simp] theorem State.modCmd_regs (s : State) (uid : Nat) (f : Cmd → Cmd) : (s.modCmd uid f).regs = s.regs := rfl
@[simp] theorem State.modCmd_shadows (s : State) (uid : Nat) (f : Cmd → Cmd) : (s.modCmd uid f).shadows = s.shadows := rfl
@[simp] theorem State.modCmd_staging (s : State) (uid : Nat) (f : Cmd → Cmd) : (s.modCmd uid f).staging = s.staging := rfl
@[simp] theorem State.modCmd_hostRead (s : State) (uid : Nat) (f : Cmd → Cmd) : (s.modCmd uid f).hostRead = s.hostRead := rfl
@[simp] theorem State.modCmd_mem (s : State) (uid : Nat) (f : Cmd → Cmd) : (s.modCmd uid f).mem = s.mem := rfl
@[simp] theorem State.modCmd_nextUid (s : State) (uid : Nat) (f : Cmd → Cmd) : (s.modCmd uid f).nextUid = s.nextUid := rfl
@[simp] theorem State.modCmd_freeCount (s : State) (uid : Nat) (f : Cmd → Cmd) : (s.modCmd uid f).freeCount = s.freeCount := rfl
@[simp] theorem State.modCmd_tokens (s : State) (uid : Nat) (f : Cmd → Cmd) : (s.modCmd uid f).tokens = s.tokens := rfl
@[simp] theorem State.modCmd_signals (s : State) (uid : Nat) (f : Cmd → Cmd) : (s.modCmd uid f).signals = s.signals := rfl
@[simp] theorem State.modCmd_cores (s : State) (uid : Nat) (f : Cmd → Cmd) : (s.modCmd uid f).cores = s.cores := rfl
@[simp] theorem State.modCmd_residents (s : State) (uid : Nat) (f : Cmd → Cmd) : (s.modCmd uid f).residents = s.residents := rfl
@[simp] theorem State.modCmd_windows (s : State) (uid : Nat) (f : Cmd → Cmd) : (s.modCmd uid f).windows = s.windows := rfl
@[simp] theorem State.modCmd_apertures (s : State) (uid : Nat) (f : Cmd → Cmd) : (s.modCmd uid f).apertures = s.apertures := rfl
@[simp] theorem State.modCmd_winAlarm (s : State) (uid : Nat) (f : Cmd → Cmd) : (s.modCmd uid f).winAlarm = s.winAlarm := rfl
@[simp] theorem State.modCmd_badParity (s : State) (uid : Nat) (f : Cmd → Cmd) : (s.modCmd uid f).badParity = s.badParity := rfl
@[simp] theorem State.modCmd_pathFaults (s : State) (uid : Nat) (f : Cmd → Cmd) : (s.modCmd uid f).pathFaults = s.pathFaults := rfl
@[simp] theorem State.modCmd_stores (s : State) (uid : Nat) (f : Cmd → Cmd) : (s.modCmd uid f).stores = s.stores := rfl
@[simp] theorem State.modCmd_tiles (s : State) (uid : Nat) (f : Cmd → Cmd) : (s.modCmd uid f).tiles = s.tiles := rfl
@[simp] theorem State.modCmd_kv (s : State) (uid : Nat) (f : Cmd → Cmd) : (s.modCmd uid f).kv = s.kv := rfl
@[simp] theorem State.modCmd_caps (s : State) (uid : Nat) (f : Cmd → Cmd) : (s.modCmd uid f).caps = s.caps := rfl
@[simp] theorem State.modCmd_datasets (s : State) (uid : Nat) (f : Cmd → Cmd) : (s.modCmd uid f).datasets = s.datasets := rfl
@[simp] theorem State.modCmd_flyer (s : State) (uid : Nat) (f : Cmd → Cmd) : (s.modCmd uid f).flyer = s.flyer := rfl
@[simp] theorem State.modCmd_iwl (s : State) (uid : Nat) (f : Cmd → Cmd) : (s.modCmd uid f).iwl = s.iwl := rfl
@[simp] theorem State.modCmd_macs (s : State) (uid : Nat) (f : Cmd → Cmd) : (s.modCmd uid f).macs = s.macs := rfl
@[simp] theorem State.modCmd_net (s : State) (uid : Nat) (f : Cmd → Cmd) : (s.modCmd uid f).net = s.net := rfl
@[simp] theorem State.modCmd_cans (s : State) (uid : Nat) (f : Cmd → Cmd) : (s.modCmd uid f).cans = s.cans := rfl
@[simp] theorem State.modCmd_selv (s : State) (uid : Nat) (f : Cmd → Cmd) : (s.modCmd uid f).selv = s.selv := rfl
@[simp] theorem State.modCmd_sec (s : State) (uid : Nat) (f : Cmd → Cmd) : (s.modCmd uid f).sec = s.sec := rfl
@[simp] theorem State.modCmd_aon (s : State) (uid : Nat) (f : Cmd → Cmd) : (s.modCmd uid f).aon = s.aon := rfl
@[simp] theorem State.modCmd_pwr (s : State) (uid : Nat) (f : Cmd → Cmd) : (s.modCmd uid f).pwr = s.pwr := rfl
@[simp] theorem State.modCmd_heddle (s : State) (uid : Nat) (f : Cmd → Cmd) : (s.modCmd uid f).heddle = s.heddle := rfl
@[simp] theorem State.modCmd_rings (s : State) (uid : Nat) (f : Cmd → Cmd) : (s.modCmd uid f).rings = s.rings := rfl

/-! ## A command goes -/

@[simp] theorem State.dropCmd_pending (s : State) (uid : Nat) : (s.dropCmd uid).pending = s.pending := rfl
@[simp] theorem State.dropCmd_refTime (s : State) (uid : Nat) : (s.dropCmd uid).refTime = s.refTime := rfl
@[simp] theorem State.dropCmd_dev (s : State) (uid : Nat) : (s.dropCmd uid).dev = s.dev := rfl
@[simp] theorem State.dropCmd_whorl (s : State) (uid : Nat) : (s.dropCmd uid).whorl = s.whorl := rfl
@[simp] theorem State.dropCmd_regs (s : State) (uid : Nat) : (s.dropCmd uid).regs = s.regs := rfl
@[simp] theorem State.dropCmd_shadows (s : State) (uid : Nat) : (s.dropCmd uid).shadows = s.shadows := rfl
@[simp] theorem State.dropCmd_staging (s : State) (uid : Nat) : (s.dropCmd uid).staging = s.staging := rfl
@[simp] theorem State.dropCmd_hostRead (s : State) (uid : Nat) : (s.dropCmd uid).hostRead = s.hostRead := rfl
@[simp] theorem State.dropCmd_mem (s : State) (uid : Nat) : (s.dropCmd uid).mem = s.mem := rfl
@[simp] theorem State.dropCmd_nextUid (s : State) (uid : Nat) : (s.dropCmd uid).nextUid = s.nextUid := rfl
@[simp] theorem State.dropCmd_freeCount (s : State) (uid : Nat) : (s.dropCmd uid).freeCount = s.freeCount := rfl
@[simp] theorem State.dropCmd_tokens (s : State) (uid : Nat) : (s.dropCmd uid).tokens = s.tokens := rfl
@[simp] theorem State.dropCmd_signals (s : State) (uid : Nat) : (s.dropCmd uid).signals = s.signals := rfl
@[simp] theorem State.dropCmd_cores (s : State) (uid : Nat) : (s.dropCmd uid).cores = s.cores := rfl
@[simp] theorem State.dropCmd_residents (s : State) (uid : Nat) : (s.dropCmd uid).residents = s.residents := rfl
@[simp] theorem State.dropCmd_windows (s : State) (uid : Nat) : (s.dropCmd uid).windows = s.windows := rfl
@[simp] theorem State.dropCmd_apertures (s : State) (uid : Nat) : (s.dropCmd uid).apertures = s.apertures := rfl
@[simp] theorem State.dropCmd_winAlarm (s : State) (uid : Nat) : (s.dropCmd uid).winAlarm = s.winAlarm := rfl
@[simp] theorem State.dropCmd_badParity (s : State) (uid : Nat) : (s.dropCmd uid).badParity = s.badParity := rfl
@[simp] theorem State.dropCmd_pathFaults (s : State) (uid : Nat) : (s.dropCmd uid).pathFaults = s.pathFaults := rfl
@[simp] theorem State.dropCmd_stores (s : State) (uid : Nat) : (s.dropCmd uid).stores = s.stores := rfl
@[simp] theorem State.dropCmd_tiles (s : State) (uid : Nat) : (s.dropCmd uid).tiles = s.tiles := rfl
@[simp] theorem State.dropCmd_kv (s : State) (uid : Nat) : (s.dropCmd uid).kv = s.kv := rfl
@[simp] theorem State.dropCmd_caps (s : State) (uid : Nat) : (s.dropCmd uid).caps = s.caps := rfl
@[simp] theorem State.dropCmd_datasets (s : State) (uid : Nat) : (s.dropCmd uid).datasets = s.datasets := rfl
@[simp] theorem State.dropCmd_flyer (s : State) (uid : Nat) : (s.dropCmd uid).flyer = s.flyer := rfl
@[simp] theorem State.dropCmd_iwl (s : State) (uid : Nat) : (s.dropCmd uid).iwl = s.iwl := rfl
@[simp] theorem State.dropCmd_macs (s : State) (uid : Nat) : (s.dropCmd uid).macs = s.macs := rfl
@[simp] theorem State.dropCmd_net (s : State) (uid : Nat) : (s.dropCmd uid).net = s.net := rfl
@[simp] theorem State.dropCmd_cans (s : State) (uid : Nat) : (s.dropCmd uid).cans = s.cans := rfl
@[simp] theorem State.dropCmd_selv (s : State) (uid : Nat) : (s.dropCmd uid).selv = s.selv := rfl
@[simp] theorem State.dropCmd_sec (s : State) (uid : Nat) : (s.dropCmd uid).sec = s.sec := rfl
@[simp] theorem State.dropCmd_aon (s : State) (uid : Nat) : (s.dropCmd uid).aon = s.aon := rfl
@[simp] theorem State.dropCmd_pwr (s : State) (uid : Nat) : (s.dropCmd uid).pwr = s.pwr := rfl
@[simp] theorem State.dropCmd_heddle (s : State) (uid : Nat) : (s.dropCmd uid).heddle = s.heddle := rfl
@[simp] theorem State.dropCmd_rings (s : State) (uid : Nat) : (s.dropCmd uid).rings = s.rings := rfl

/-! ## Operations that are one of these -/

@[simp] theorem State.setBit_eq (s : State) (f : Field) (i : Nat) (b : Bool) :
    s.setBit f i b = s.set f i (if b then 1 else 0) := rfl
@[simp] theorem State.count_eq (s : State) (f : Field) (i n : Nat) :
    s.count f i n = s.set f i (min (s.get f i + n) (2 ^ f.width - 1)) := rfl
@[simp] theorem State.accum_eq (s : State) (f : Field) (i n : Nat) : s.accum f i n = s.set f i (s.get f i + n) := rfl
@[simp] theorem State.storeNat_eq (s : State) (a n v : Nat) : s.storeNat a n v = s.store a (leBytes n v) := rfl
@[simp] theorem State.finish_eq (s : State) (uid status result : Nat) :
    s.finish uid status result = s.modCmd uid (fun c => s.ending c status result) := rfl

end Sys2Proof.Machine
end

