-- ==== Sys2Proof/Safety.lean ====
section
/-! DEFINITION. What counts as a safe run: no step of it stops, and every state of it holds its tables in their one
canonical form. -/

namespace Sys2Proof.Machine

/-- An outcome goes on. -/
def goesOn : Host.Outcome State Fault Refusal → Bool
  | .next _ => true
  | _ => false

/-- Every register field and every byte of memory is held in canonical form. -/
def State.canonical (s : State) : Bool := Memory.wf s.mem && Sparse.sorted s.regs

/-- t is s with the listed register fields at the listed values, and with nothing else changed: every other field of every
register reads as in s, and memory and all other parts of the state are those of s. -/
def SetsOnly (s t : State) (w : List (Field × Nat × Nat)) : Prop :=
  t = { s with regs := t.regs } ∧ (∀ p ∈ w, t.get p.1 p.2.1 = p.2.2) ∧
    ∀ (f : Field) (j : Nat), (∀ p ∈ w, f.key j ≠ p.1.key p.2.1) → t.get f j = s.get f j

/-- t stands as a loss of the main domain leaves s: every register field reads its reset value but for the fields of
`keep`; host memory and the flash hold what they held, LPDDR too where `lpddr` says so, and every other byte reads as
unwritten; and every queue, table, core and engine stands as after reset.  What the device state, the time base, the
security store and the always-on domain hold then is said beside it. -/
def MainLost (s t : State) (keep : List Field) (lpddr : Bool) : Prop :=
  (∀ (f : Field) (i : Nat), i < 0x100000000 →
    t.get f i = if keep.any (fun g => g.code == f.code) then s.get f i else f.reset % 2 ^ f.width) ∧
  (∀ a, Mem.read t.mem a =
    if (2 ^ 64 ≤ a ∧ a < 2 ^ 65) ∨ (2 ^ 70 ≤ a ∧ a < 2 ^ 71) ∨ (lpddr = true ∧ a < 2 ^ 64) then Mem.read s.mem a
    else Mem.default a) ∧
  t = { State.reset with
    pending := s.pending, refTime := s.refTime, freeCount := s.freeCount, nextUid := s.nextUid
    dev := t.dev, whorl := t.whorl, regs := t.regs, mem := t.mem, sec := t.sec, aon := t.aon }

/-- No cause of a transition has decided the device state at the present reference time (R30). -/
def State.freshBeat (s : State) : Bool :=
  match s.aon.decided with
  | some d => d.1 != s.refTime
  | none => true

/-- The first n steps go on, and every state they reach is canonical. -/
def safeRun : Nat → State → Bool
  | 0, s => s.canonical
  | n + 1, s => s.canonical && (match step s with
    | .next t => safeRun n t
    | _ => false)

end Sys2Proof.Machine
end

