-- ==== Sys2Proof/Laws/Ops.lean ====
section
/-! SUPPORT. What the shared operations do, said once: what a register field reads after a write, what a raised flag
changes, what a host access does, and what a byte of memory reads after a store. -/

namespace Sys2Proof.Machine

/-! ## Register fields -/

/-- What a field reads after a write of any field. -/
theorem State.get_set_key (s : State) (f g : Field) (i j v : Nat) (h : g.key j ≠ f.key i) :
    (s.set f i v).get g j = s.get g j := by
  simp only [State.get, State.set]
  unfold Sparse.put
  split
  · unfold Sparse.get; rw [Sparse.find_erase, if_neg h]
  · unfold Sparse.get; rw [Sparse.find_insert, if_neg h]

/-- A field reads back what was written to it, cut to its width. -/
@[simp] theorem State.get_set_same (s : State) (f : Field) (i v : Nat) : (s.set f i v).get f i = v % 2 ^ f.width := by
  simp only [State.get, State.set]
  rw [Sparse.get_put, if_pos rfl, Nat.mod_mod]

/-- A field never reads beyond its width. -/
theorem State.get_lt (s : State) (f : Field) (i : Nat) : s.get f i < 2 ^ f.width :=
  Nat.mod_lt _ (Nat.pow_pos (by decide))

/-- Two fields with different codes do not share storage, at any index a register has. -/
theorem Field.key_ne {f g : Field} {i j : Nat} (hf : f.code ≠ g.code) (hi : i < 0x100000000) (hj : j < 0x100000000) :
    f.key i ≠ g.key j := by
  unfold Field.key; omega

/-- One field of two registers of a group does not share storage. -/
theorem Field.key_ne_index {f : Field} {i j : Nat} (h : i ≠ j) : f.key i ≠ f.key j := by
  unfold Field.key; omega

/-- A write of one field leaves another one of the same register. -/
@[simp] theorem State.get_set_code (s : State) (f g : Field) (i v : Nat) (h : g.code ≠ f.code) :
    (s.set f i v).get g i = s.get g i :=
  s.get_set_key f g i i v (by unfold Field.key; omega)

@[simp] theorem State.get_store (s : State) (a : Nat) (bs : List Byte) (f : Field) (i : Nat) :
    (s.store a bs).get f i = s.get f i := rfl
@[simp] theorem State.get_modCmd (s : State) (uid : Nat) (c : Cmd → Cmd) (f : Field) (i : Nat) :
    (s.modCmd uid c).get f i = s.get f i := rfl

theorem SetsOnly.none (s : State) : SetsOnly s s [] := ⟨rfl, by simp, fun _ _ _ => rfl⟩

/-- One more field written. -/
theorem SetsOnly.set {s t : State} {w : List (Field × Nat × Nat)} (h : SetsOnly s t w) (f : Field) (i v : Nat)
    (hv : v < 2 ^ f.width) (hk : ∀ p ∈ w, p.1.key p.2.1 ≠ f.key i) : SetsOnly s (t.set f i v) (w ++ [(f, i, v)]) := by
  obtain ⟨h1, h2, h3⟩ := h
  refine ⟨?_, ?_, ?_⟩
  · rw [h1]; rfl
  · intro p hp
    rcases List.mem_append.mp hp with hp | hp
    · rw [State.get_set_key _ _ _ _ _ _ (hk p hp)]; exact h2 p hp
    · obtain rfl := List.mem_singleton.mp hp
      rw [State.get_set_same, Nat.mod_eq_of_lt hv]
  · intro g j hg
    rw [State.get_set_key _ _ _ _ _ _ (hg (f, i, v) (by simp))]
    exact h3 g j (fun p hp => hg p (List.mem_append_left _ hp))

/-- One more field written, of a code that none of the others has. -/
theorem SetsOnly.more {s t : State} {w : List (Field × Nat × Nat)} {i : Nat} (h : SetsOnly s t w) (f : Field) (v : Nat)
    (hv : v < 2 ^ f.width) (hc : w.all (fun p => p.1.code != f.code) = true) (hi : ∀ p ∈ w, p.2.1 = i) :
    SetsOnly s (t.set f i v) (w ++ [(f, i, v)]) := by
  refine h.set f i v hv (fun p hp => ?_)
  have := List.all_eq_true.mp hc p hp
  rw [hi p hp]
  unfold Field.key
  have : p.1.code ≠ f.code := by simpa using this
  omega

theorem State.set_mod (s : State) (f : Field) (i v : Nat) : s.set f i (v % 2 ^ f.width) = s.set f i v := by
  simp [State.set]

theorem SetsOnly.one (s : State) (f : Field) (i v : Nat) (hv : v < 2 ^ f.width) : SetsOnly s (s.set f i v) [(f, i, v)] :=
  (SetsOnly.none s).set f i v hv (by simp)

/-! ## Memory -/

/-- What a byte reads after a store. -/
theorem State.read_store (s : State) (a b : Nat) (bs : List Byte) :
    Mem.read (s.store a bs).mem b = if a ≤ b ∧ b < a + bs.length then bs.getD (b - a) 0 else Mem.read s.mem b :=
  Mem.read_write s.mem a b bs

/-! ## Flags and interrupts -/

theorem State.sendVector_frame (s : State) (client vector : Nat) :
    ∃ regs mem rings, s.sendVector client vector = { s with regs := regs, mem := mem, rings := rings } := by
  unfold State.sendVector; split
  · exact ⟨s.regs, s.mem, s.rings, rfl⟩
  · split
    · exact ⟨_, s.mem, s.rings, rfl⟩
    · exact ⟨s.regs, _, _, rfl⟩

theorem State.raiseSource_frame (s : State) (source : Nat) :
    ∃ regs mem rings, s.raiseSource source = { s with regs := regs, mem := mem, rings := rings } := by
  unfold State.raiseSource; split
  · exact State.sendVector_frame _ _ _
  · exact ⟨s.regs, s.mem, s.rings, rfl⟩

/-- One set of a flag raises its source once. -/
@[simp] theorem State.raiseSources_one (s : State) (source : Nat) : s.raiseSources source 1 = s.raiseSource source := rfl

/-- A hardware set of a flag changes registers, host memory and the ring engine, and nothing else. -/
theorem State.raise_frame (s : State) (f : Flag) (i : Nat) :
    ∃ regs mem rings, s.raise f i = { s with regs := regs, mem := mem, rings := rings } := by
  unfold State.raise State.raiseN
  rw [if_neg (by decide)]
  cases f.source with
  | none => exact ⟨_, s.mem, s.rings, rfl⟩
  | some b =>
    obtain ⟨r, m, g, h⟩ := State.raiseSource_frame ((s.set f.fld i 1).count f.cnt (f.cntIx i) 1) (b + i)
    exact ⟨r, m, g, by simpa using h⟩

/-- An interrupt message changes no byte outside host memory. -/
theorem State.sendVector_read (s : State) (client vector a : Nat) (h : a < 2 ^ 64 ∨ 2 ^ 65 ≤ a) :
    Mem.read (s.sendVector client vector).mem a = Mem.read s.mem a := by
  unfold State.sendVector
  split
  · rfl
  split
  · rfl
  · have h1 := s.get_lt Fld.MSIX_ADDR_LO_ADDR (ix client vector)
    have h2 := s.get_lt Fld.MSIX_ADDR_HI_ADDR (ix client vector)
    show Mem.read (s.store _ _).mem a = _
    rw [State.read_store, if_neg]
    have h3 : Fld.MSIX_ADDR_LO_ADDR.width = 32 := rfl
    have h4 : Fld.MSIX_ADDR_HI_ADDR.width = 32 := rfl
    rw [h3] at h1
    rw [h4] at h2
    have : (leBytes 4 (s.get Fld.MSIX_DATA_DATA (ix client vector))).length = 4 := rfl
    unfold Mem.host
    omega

/-- Nor does a hardware set of a flag. -/
theorem State.raise_read (s : State) (f : Flag) (i a : Nat) (h : a < 2 ^ 64 ∨ 2 ^ 65 ≤ a) :
    Mem.read (s.raise f i).mem a = Mem.read s.mem a := by
  unfold State.raise State.raiseN
  rw [if_neg (by decide)]
  cases f.source with
  | none => rfl
  | some b =>
    show Mem.read (State.raiseSource _ _).mem a = _
    unfold State.raiseSource
    split
    · rw [State.sendVector_read _ _ _ _ h]; rfl
    · rfl

/-! ## Host accesses -/

theorem State.host_up {s : State} (f : State → State) (h : s.setUp = true) : s.host f = f s := if_pos h

theorem State.host_down {s : State} (f : State → State) (h : s.setUp = false) : s.host f = s := by
  simp [State.host, h]

@[simp] theorem State.doIf_true (s : State) (f : State → State) : s.doIf true f = f s := rfl
@[simp] theorem State.doIf_false (s : State) (f : State → State) : s.doIf false f = s := rfl

end Sys2Proof.Machine
end

