-- ==== Sys2Proof/Laws/Device.lean ====
section
/-! SUPPORT. What a loss of the main domain leaves, said once for RESET, SLEEP and OFF. -/

namespace Sys2Proof.Machine

/-- Where no cause has decided the beat, the state before its causes is the present one. -/
theorem State.before_fresh {s : State} (h : s.freshBeat = true) : s.before = s.dev := by
  unfold State.freshBeat at h
  unfold State.before
  cases hd : s.aon.decided with
  | none => rfl
  | some d => rw [hd] at h; exact if_neg (by simpa using h)

/-- Nor is any cause outranked then. -/
theorem State.outranked_fresh {s : State} (h : s.freshBeat = true) (rank : Nat) : s.outranked rank = false := by
  unfold State.freshBeat at h
  unfold State.outranked
  cases hd : s.aon.decided with
  | none => rfl
  | some d => rw [hd] at h; simp_all

/-- A field that a loss of the main domain keeps, or its reset value. -/
theorem State.get_keepFields (s : State) (keep : List Field) (f : Field) (i : Nat) (hi : i < 0x100000000) :
    Sparse.get f.reset (s.keepFields keep) (f.key i) % 2 ^ f.width =
      if keep.any (fun g => g.code == f.code) then s.get f i else f.reset % 2 ^ f.width := by
  have hk : f.key i / 0x100000000 = f.code := by unfold Field.key; omega
  unfold State.keepFields State.get Sparse.get
  by_cases h : keep.any (fun g => g.code == f.code) = true
  · rw [if_pos h, Sparse.find_filter_true (fun v => by simpa [hk] using h)]
  · rw [if_neg h, Sparse.find_filter_false (fun v => by simpa [hk] using h)]

theorem Sparse.find_within {α : Type} (m : List (Nat × α)) (lo hi a : Nat) :
    Sparse.find (Sparse.within m lo hi) a = if lo ≤ a ∧ a < hi then Sparse.find m a else none := by
  unfold Sparse.within
  by_cases h : lo ≤ a ∧ a < hi
  · rw [if_pos h, Sparse.find_filter_true (fun v => by simp [h])]
  · rw [if_neg h, Sparse.find_filter_false (fun v => by simp only [Bool.and_eq_false_iff, decide_eq_false_iff_not]; omega)]

/-- A byte of memory that a loss of the main domain keeps, or its default. -/
theorem Mem.read_kept (m : List Host.Cell) (lpddr : Bool) (a : Nat) :
    Mem.read (Mem.kept m lpddr) a =
      if (2 ^ 64 ≤ a ∧ a < 2 ^ 65) ∨ (2 ^ 70 ≤ a ∧ a < 2 ^ 71) ∨ (lpddr = true ∧ a < 2 ^ 64) then Mem.read m a
      else Mem.default a := by
  unfold Mem.read Mem.kept Sparse.get
  rw [Sparse.find_append, Sparse.find_append, Sparse.find_within, Sparse.find_within]
  have h0 : Sparse.find (if lpddr then Sparse.within m 0 (2 ^ 64) else []) a =
      if lpddr = true ∧ a < 2 ^ 64 then Sparse.find m a else none := by
    cases lpddr <;> simp [Sparse.find_within, Sparse.find]
  rw [h0]
  by_cases h1 : lpddr = true ∧ a < 2 ^ 64 <;> by_cases h2 : 2 ^ 64 ≤ a ∧ a < 2 ^ 65 <;>
    by_cases h3 : 2 ^ 70 ≤ a ∧ a < 2 ^ 71 <;> simp only [h1, h2, h3, if_true, if_false, or_true, or_false, and_self] <;>
    cases Sparse.find m a <;> rfl

/-- What a loss of the main domain leaves. -/
theorem State.mainLost_spec (s : State) (keep : List Field) (lpddr : Bool) :
    MainLost s (s.mainLost keep lpddr) keep lpddr :=
  ⟨fun f i hi => s.get_keepFields keep f i hi, fun a => Mem.read_kept s.mem lpddr a, rfl⟩

/-- The same where the device state, the time base, the security store and the always-on domain are then given. -/
theorem MainLost.with {s t : State} {keep : List Field} {lpddr : Bool} (h : MainLost s t keep lpddr) (d : DevState)
    (w : Whorl) (e : Sec) (a : Aon) :
    MainLost s { t with dev := d, whorl := w, sec := e, aon := a } keep lpddr := by
  obtain ⟨h1, h2, h3⟩ := h
  refine ⟨h1, h2, ?_⟩
  rw [h3]

end Sys2Proof.Machine
end

