-- ==== Sys2Proof/Laws/KeepsPower.lean ====
section
/-! SUPPORT. Keeps for the operations of Machine/Power.lean. -/

namespace Sys2Proof.Machine

theorem State.pwrSync_keeps {r0 : State} {s : State} (hk : Keeps r0 s)  :
    Keeps r0 (State.pwrSync s) := by
  unfold State.pwrSync
  with_reducible repeat' (first | assumption | apply State.setBit_keeps)

theorem execVsetWrite_keeps {r0 : State} (mv : Nat) {s : State} (hk : Keeps r0 s)  :
    ∀ t, execVsetWrite mv s = .next t → Keeps r0 t := by
  unfold execVsetWrite
  refine keeps_next ?_
  with_reducible repeat' (first
    | assumption | apply State.host_keeps | apply State.raise_keeps | apply State.set_keeps
    | apply State.pwrSync_keeps | split | (intro))

theorem execRampStep_keeps {r0 : State} {s : State} (hk : Keeps r0 s)  :
    ∀ t, execRampStep s = .next t → Keeps r0 t := by
  unfold execRampStep
  refine keeps_next ?_
  with_reducible repeat' (first
    | assumption | apply State.set_keeps | apply State.pwrSync_keeps | refine keeps_ite ?_ ?_ | (extract_lets)
    | refine keeps_mk ?_ ?_ ?_ ?_ | exact Nat.le_refl _)

theorem execAvsTransactionFail_keeps {r0 : State} {s : State} (hk : Keeps r0 s)  :
    ∀ t, execAvsTransactionFail s = .next t → Keeps r0 t := by
  unfold execAvsTransactionFail
  refine keeps_next ?_
  with_reducible repeat' (first
    | assumption | apply State.set_keeps | apply State.raise_keeps | refine keeps_ite ?_ ?_ | (extract_lets)
    | refine keeps_mk ?_ ?_ ?_ ?_ | exact Nat.le_refl _)

theorem State.railSample_keeps {r0 : State} {s : State} (rail : Nat) (mv : Nat) (want : Nat) (hk : Keeps r0 s)  :
    Keeps r0 (State.railSample s rail mv want) := by
  unfold State.railSample
  with_reducible repeat' (first
    | assumption | apply State.raise_keeps | refine keeps_ite ?_ ?_ | split | (extract_lets)
    | refine keeps_mk ?_ ?_ ?_ ?_ | exact Nat.le_refl _)

theorem execTelemetrySample_keeps {r0 : State} (coreMv : Nat) (coreCurrent : Nat) (sramMv : Nat) (sramCurrent : Nat) (tj : List Int) (status : Bool) {s : State} (hk : Keeps r0 s)  :
    ∀ t, execTelemetrySample coreMv coreCurrent sramMv sramCurrent tj status s = .next t → Keeps r0 t := by
  unfold execTelemetrySample
  refine keeps_next ?_
  with_reducible repeat' (first
    | assumption | apply State.forEach_keeps | apply State.set_keeps | apply State.railSample_keeps
    | apply State.doIf_keeps | apply State.raise_keeps | apply State.pwrSync_keeps | refine keeps_ite ?_ ?_ | split
    | (extract_lets) | refine keeps_mk ?_ ?_ ?_ ?_ | exact Nat.le_refl _ | (intro))

theorem State.setCeiling_keeps {r0 : State} {s : State} (mv : Nat) (hk : Keeps r0 s)  :
    Keeps r0 (State.setCeiling s mv) := by
  unfold State.setCeiling
  with_reducible repeat' (first | assumption | apply State.set_keeps)

theorem State.capWindow_keeps {r0 : State} {s : State} (mw : Nat) (hk : Keeps r0 s)  :
    Keeps r0 (State.capWindow s mw) := by
  unfold State.capWindow
  with_reducible repeat' (first
    | assumption | apply State.doIf_keeps | apply State.raise_keeps | apply State.setCeiling_keeps
    | apply State.set_keeps | refine keeps_ite ?_ ?_ | (extract_lets) | refine keeps_mk ?_ ?_ ?_ ?_
    | exact Nat.le_refl _ | (intro))

theorem execPowerWindow_keeps {r0 : State} {s : State} (hk : Keeps r0 s)  :
    ∀ t, execPowerWindow s = .next t → Keeps r0 t := by
  unfold execPowerWindow
  refine keeps_next ?_
  with_reducible repeat' (first
    | assumption | apply State.set_keeps | apply State.accum_keeps | apply State.capWindow_keeps
    | apply State.pwrSync_keeps | refine keeps_ite ?_ ?_ | (extract_lets) | refine keeps_mk ?_ ?_ ?_ ?_
    | exact Nat.le_refl _)

end Sys2Proof.Machine
end

