-- ==== Sys2Proof/Laws/KeepsSecurity.lean ====
section
/-! SUPPORT. Keeps for the operations of Machine/Security.lean. -/

namespace Sys2Proof.Machine

theorem State.setPub_keeps {r0 : State} {s : State} (f : Field) (key : List Byte) (hk : Keeps r0 s)  :
    Keeps r0 (State.setPub s f key) := by
  unfold State.setPub
  with_reducible repeat' (first
    | assumption | apply State.forEach_keeps | apply State.set_keeps | (extract_lets) | (intro))

theorem State.bootRecovery_keeps {r0 : State} {s : State} (cause : Nat) (status : Nat) (hk : Keeps r0 s)  :
    Keeps r0 (State.bootRecovery s cause status) := by
  unfold State.bootRecovery
  with_reducible repeat' (first
    | assumption | apply State.go_keeps | (extract_lets) | refine keeps_mk ?_ ?_ ?_ ?_ | exact Nat.le_refl _)

theorem State.bootRom_keeps {r0 : State} {s : State} (hk : Keeps r0 s)  :
    Keeps r0 (State.bootRom s) := by
  unfold State.bootRom
  with_reducible repeat' (first | assumption | apply State.set_keeps | apply State.bootRecovery_keeps)

theorem State.bootBegin_keeps {r0 : State} {s : State} (x : BootInputs) (hk : Keeps r0 s)  :
    Keeps r0 (State.bootBegin s x) := by
  unfold State.bootBegin
  with_reducible repeat' (first
    | assumption | apply State.setAll_keeps | apply State.forEach_keeps | apply State.set_keeps
    | apply State.pwrSync_keeps | split | (extract_lets) | refine keeps_mk ?_ ?_ ?_ ?_ | exact Nat.le_refl _
    | (intro))

theorem State.bootReplay_keeps {r0 : State} {s : State} (hk : Keeps r0 s)  :
    Keeps r0 (State.bootReplay s) := by
  unfold State.bootReplay
  with_reducible repeat' (first
    | assumption | apply State.raise_keeps | apply State.set_keeps | apply State.doIf_keeps | apply State.setAll_keeps
    | split | (extract_lets) | refine keeps_mk ?_ ?_ ?_ ?_ | exact Nat.le_refl _ | (intro))

theorem State.bootAppend_keeps {r0 : State} {s : State} (type : Nat) (id : Nat) (payload : List Byte) (hk : Keeps r0 s)  :
    Keeps r0 (State.bootAppend s type id payload) := by
  unfold State.bootAppend
  with_reducible repeat' (first
    | assumption | apply State.doIf_keeps | apply State.compactEnd_keeps | apply State.jnlWrite_keeps
    | apply State.jnlFill_keeps | refine keeps_ite ?_ ?_ | refine keeps_ite_fst ?_ ?_
    | refine keeps_fst (by assumption) ?_ | split | (extract_lets) | refine keeps_mk ?_ ?_ ?_ ?_ | exact Nat.le_refl _
    | exact Nat.le_add_right _ _ | (intro))

theorem State.bootWrites_keeps {r0 : State} {s : State} (hk : Keeps r0 s)  :
    Keeps r0 (State.bootWrites s) := by
  unfold State.bootWrites
  with_reducible repeat' (first
    | assumption | apply State.bootAppend_keeps | apply State.set_keeps | apply State.forEach_keeps
    | apply State.doIf_keeps | apply State.raise_keeps | split | (extract_lets) | refine keeps_mk ?_ ?_ ?_ ?_
    | exact Nat.le_refl _ | (intro))

theorem State.bootKeys_keeps {r0 : State} {s : State} (root : List Byte) (hk : Keeps r0 s)  :
    Keeps r0 (State.bootKeys s root) := by
  unfold State.bootKeys
  with_reducible repeat' (first
    | assumption | apply State.raiseN_keeps | apply State.setPub_keeps | apply State.set_keeps | (extract_lets)
    | refine keeps_mk ?_ ?_ ?_ ?_ | exact Nat.le_refl _)

theorem State.retire_keeps {r0 : State} {s : State} (k : Nat) (hk : Keeps r0 s)  :
    Keeps r0 (State.retire s k) := by
  unfold State.retire
  with_reducible repeat' (first
    | assumption | apply State.set_keeps | apply State.raise_keeps | refine keeps_ite ?_ ?_)

theorem State.bootSelvedge_keeps {r0 : State} {s : State} (x : BootInputs) (hk : Keeps r0 s)  :
    Keeps r0 (State.bootSelvedge s x) := by
  unfold State.bootSelvedge
  with_reducible repeat' (first
    | assumption | apply State.setAll_keeps | apply State.forEach_keeps | apply State.testRun_keeps
    | apply State.retire_keeps | (extract_lets) | refine keeps_mk ?_ ?_ ?_ ?_ | exact Nat.le_refl _)

theorem State.bootSafe_keeps {r0 : State} {s : State} (checker : Nat) (source : Nat) (hk : Keeps r0 s)  :
    Keeps r0 (State.bootSafe s checker source) := by
  unfold State.bootSafe
  with_reducible repeat' (first
    | assumption | apply State.setAll_keeps | apply State.selvFault_keeps | apply State.go_keeps | (extract_lets)
    | refine keeps_mk ?_ ?_ ?_ ?_ | exact Nat.le_refl _)

theorem State.loadCtlWord_keeps {r0 : State} {s : State} (addr : Nat) (v : Nat) (hk : Keeps r0 s)  :
    Keeps r0 (State.loadCtlWord s addr v) := by
  unfold State.loadCtlWord
  with_reducible repeat' (first | assumption | apply State.setAll_keeps | split)

theorem State.autoload_keeps {r0 : State} {s : State} (hk : Keeps r0 s)  :
    Keeps r0 (State.autoload s) := by
  unfold State.autoload
  with_reducible repeat' (first
    | assumption | apply State.forEach_keeps | apply State.loadCtlWord_keeps | (extract_lets) | (intro))

theorem State.bootLate_keeps {r0 : State} {s : State} (x : BootInputs) (root : List Byte) (hub : List Byte) (selv : List Byte) (hk : Keeps r0 s)  :
    Keeps r0 (State.bootLate s x root hub selv) := by
  unfold State.bootLate
  with_reducible repeat' (first
    | assumption | apply State.bootRecovery_keeps | apply State.set_keeps | apply State.bootKeys_keeps
    | apply State.bootSelvedge_keeps | apply State.bootSafe_keeps | apply State.autoload_keeps | apply State.go_keeps
    | refine keeps_ite ?_ ?_ | split | (extract_lets) | refine keeps_mk ?_ ?_ ?_ ?_ | exact Nat.le_refl _)

theorem State.loadSelvedge_keeps {r0 : State} {s : State} (slot : Nat) (hk : Keeps r0 s)  :
    Keeps r0 (State.loadSelvedge s slot) := by
  unfold State.loadSelvedge
  with_reducible repeat' (first
    | assumption | apply State.store_keeps | refine keeps_ite ?_ ?_ | refine keeps_ite_fst ?_ ?_
    | refine keeps_fst (by assumption) ?_ | split | (extract_lets) | refine keeps_mk ?_ ?_ ?_ ?_ | exact Nat.le_refl _
    | exact Nat.le_add_right _ _ | (intro))

theorem State.bootImages_keeps {r0 : State} {s : State} (x : BootInputs) (root : List Byte) (hk : Keeps r0 s)  :
    Keeps r0 (State.bootImages s x root) := by
  unfold State.bootImages
  with_reducible repeat' (first
    | assumption | apply State.bootRom_keeps | apply State.set_keeps | apply State.bootRecovery_keeps
    | apply State.loadSelvedge_keeps | apply State.bootLate_keeps | refine keeps_ite ?_ ?_
    | refine keeps_ite_fst ?_ ?_ | refine keeps_fst (by assumption) ?_ | split | (extract_lets)
    | refine keeps_mk ?_ ?_ ?_ ?_ | exact Nat.le_refl _ | exact Nat.le_add_right _ _ | (intro))

theorem State.bootJournal_keeps {r0 : State} {s : State} (x : BootInputs) (root : List Byte) (hk : Keeps r0 s)  :
    Keeps r0 (State.bootJournal s x root) := by
  unfold State.bootJournal
  with_reducible repeat' (first
    | assumption | apply State.bootRom_keeps | apply State.setAll_keeps | apply State.bootReplay_keeps
    | apply State.set_keeps | apply State.bootRecovery_keeps | apply State.bootWrites_keeps
    | apply State.bootImages_keeps | refine keeps_ite ?_ ?_ | refine keeps_ite_fst ?_ ?_
    | refine keeps_fst (by assumption) ?_ | split | (extract_lets) | refine keeps_mk ?_ ?_ ?_ ?_ | exact Nat.le_refl _
    | exact Nat.le_add_right _ _ | (intro))

theorem execBootSequence_keeps {r0 : State} (inputs : BootInputs) {s : State} (hk : Keeps r0 s)  :
    ∀ t, execBootSequence inputs s = .next t → Keeps r0 t := by
  unfold execBootSequence
  refine keeps_next ?_
  with_reducible repeat' (first
    | assumption | apply State.bootBegin_keeps | apply State.bootRom_keeps | apply State.setPub_keeps
    | apply State.bootJournal_keeps | refine keeps_ite ?_ ?_ | split | (extract_lets) | refine keeps_mk ?_ ?_ ?_ ?_
    | exact Nat.le_refl _)

theorem State.secEnd_keeps {r0 : State} {s : State} (status : Nat) (value : Nat) (hk : Keeps r0 s)  :
    Keeps r0 (State.secEnd s status value) := by
  unfold State.secEnd
  with_reducible repeat' (first
    | assumption | split | (extract_lets) | refine keeps_mk ?_ ?_ ?_ ?_ | exact Nat.le_refl _)

theorem State.secRun_keeps {r0 : State} {s : State} (op : Nat) (f : State → State) (hk : Keeps r0 s) (hf : ∀ (t : State), Keeps r0 t → Keeps r0 (f t)) :
    Keeps r0 (State.secRun s op f) := by
  unfold State.secRun
  with_reducible repeat' (first
    | assumption | apply hf | refine keeps_ite ?_ ?_ | refine keeps_ite_fst ?_ ?_
    | refine keeps_fst (by assumption) ?_ | split | (extract_lets) | refine keeps_mk ?_ ?_ ?_ ?_ | exact Nat.le_refl _
    | exact Nat.le_add_right _ _ | (intro))

theorem State.secCmd_keeps {r0 : State} {s : State} (value : Nat) (hk : Keeps r0 s)  :
    Keeps r0 (State.secCmd s value) := by
  unfold State.secCmd
  with_reducible repeat' (first
    | assumption | apply State.raise_keeps | apply State.setAll_keeps | refine keeps_ite ?_ ?_ | (extract_lets)
    | refine keeps_mk ?_ ?_ ?_ ?_ | exact Nat.le_refl _ | exact Nat.le_add_right _ _)

theorem execSecCommandDone_keeps {r0 : State} {s : State} (hk : Keeps r0 s)  :
    ∀ t, execSecCommandDone s = .next t → Keeps r0 t := by
  unfold execSecCommandDone
  refine keeps_next ?_
  with_reducible repeat' (first
    | assumption | apply State.setAll_keeps | apply State.raise_keeps | split | (extract_lets)
    | refine keeps_mk ?_ ?_ ?_ ?_ | exact Nat.le_refl _)

theorem execJnlRead_keeps {r0 : State} {s : State} (hk : Keeps r0 s)  :
    ∀ t, execJnlRead s = .next t → Keeps r0 t := by
  unfold execJnlRead
  refine keeps_next ?_
  with_reducible repeat' (first
    | assumption | apply State.secRun_keeps | apply State.secEnd_keeps | apply State.store_keeps | split
    | (extract_lets) | (intro))

theorem execJnlWrite_keeps {r0 : State} {s : State} (hk : Keeps r0 s)  :
    ∀ t, execJnlWrite s = .next t → Keeps r0 t := by
  unfold execJnlWrite
  refine keeps_next ?_
  with_reducible repeat' (first
    | assumption | apply State.secRun_keeps | apply State.secEnd_keeps | apply State.jnlAppend_keeps | split
    | (extract_lets) | (intro))

theorem execJnlDelete_keeps {r0 : State} {s : State} (hk : Keeps r0 s)  :
    ∀ t, execJnlDelete s = .next t → Keeps r0 t := by
  unfold execJnlDelete
  refine keeps_next ?_
  with_reducible repeat' (first
    | assumption | apply State.secRun_keeps | apply State.secEnd_keeps | apply State.jnlAppend_keeps | split
    | (extract_lets) | (intro))

theorem execCtrInc_keeps {r0 : State} {s : State} (hk : Keeps r0 s)  :
    ∀ t, execCtrInc s = .next t → Keeps r0 t := by
  unfold execCtrInc
  refine keeps_next ?_
  with_reducible repeat' (first
    | assumption | apply State.secRun_keeps | apply State.secEnd_keeps | apply State.jnlAppend_keeps | split
    | (extract_lets) | (intro))

theorem execUpdate_keeps {r0 : State} {s : State} (hk : Keeps r0 s)  :
    ∀ t, execUpdate s = .next t → Keeps r0 t := by
  unfold execUpdate
  refine keeps_next ?_
  with_reducible repeat' (first
    | assumption | apply State.secRun_keeps | apply State.secEnd_keeps | split | (extract_lets) | exact Nat.le_refl _
    | refine keeps_mem ?_ ?_ ?_ ?_ ?_ | exact (fun x => Memory.wf_write _ _ (Memory.wf_clear _ _ x)) | (intro))

theorem execActivate_keeps {r0 : State} {s : State} (hk : Keeps r0 s)  :
    ∀ t, execActivate s = .next t → Keeps r0 t := by
  unfold execActivate
  refine keeps_next ?_
  with_reducible repeat' (first
    | assumption | apply State.secRun_keeps | apply State.secEnd_keeps | split | (extract_lets) | exact Nat.le_refl _
    | refine keeps_mem ?_ ?_ ?_ ?_ ?_ | exact (fun x => Memory.wf_write _ _ (Memory.wf_clear _ _ x)) | (intro))

theorem execCommitVersion_keeps {r0 : State} {s : State} (hk : Keeps r0 s)  :
    ∀ t, execCommitVersion s = .next t → Keeps r0 t := by
  unfold execCommitVersion
  refine keeps_next ?_
  with_reducible repeat' (first
    | assumption | apply State.secRun_keeps | apply State.secEnd_keeps | apply State.forEach_keeps
    | apply State.jnlAppend_keeps | split | (extract_lets) | (intro))

theorem execAttest_keeps {r0 : State} {s : State} (hk : Keeps r0 s)  :
    ∀ t, execAttest s = .next t → Keeps r0 t := by
  unfold execAttest
  refine keeps_next ?_
  with_reducible repeat' (first
    | assumption | apply State.secRun_keeps | apply State.secEnd_keeps | apply State.store_keeps | split
    | (extract_lets) | (intro))

theorem execDebugChallenge_keeps {r0 : State} {s : State} (hk : Keeps r0 s)  :
    ∀ t, execDebugChallenge s = .next t → Keeps r0 t := by
  unfold execDebugChallenge
  refine keeps_next ?_
  with_reducible repeat' (first
    | assumption | apply State.secRun_keeps | apply State.secEnd_keeps | (extract_lets) | refine keeps_mk ?_ ?_ ?_ ?_
    | exact Nat.le_refl _ | exact Nat.le_add_right _ _ | (intro))

theorem execDebugUnlock_keeps {r0 : State} {s : State} (hk : Keeps r0 s)  :
    ∀ t, execDebugUnlock s = .next t → Keeps r0 t := by
  unfold execDebugUnlock
  refine keeps_next ?_
  with_reducible repeat' (first
    | assumption | apply State.secRun_keeps | apply State.set_keeps | apply State.secEnd_keeps
    | apply State.raise_keeps | apply State.tamper_keeps | split | (extract_lets) | refine keeps_mk ?_ ?_ ?_ ?_
    | exact Nat.le_refl _ | (intro))

theorem execDebugLock_keeps {r0 : State} {s : State} (hk : Keeps r0 s)  :
    ∀ t, execDebugLock s = .next t → Keeps r0 t := by
  unfold execDebugLock
  refine keeps_next ?_
  with_reducible repeat' (first
    | assumption | apply State.secRun_keeps | apply State.set_keeps | apply State.secEnd_keeps | (extract_lets)
    | (intro))

end Sys2Proof.Machine
end

