-- ==== Sys2Proof/Laws/KeepsHeddle.lean ====
section
/-! SUPPORT. Keeps for the operations of Machine/Heddle.lean. -/

namespace Sys2Proof.Machine

theorem State.tableRefused_keeps {r0 : State} {s : State} (reason : Nat) (hk : Keeps r0 s)  :
    Keeps r0 (State.tableRefused s reason) := by
  unfold State.tableRefused
  with_reducible repeat' (first | assumption | apply State.set_keeps | apply State.raise_keeps)

theorem State.loadTable_keeps {r0 : State} {s : State} (hk : Keeps r0 s)  :
    Keeps r0 (State.loadTable s) := by
  unfold State.loadTable
  with_reducible repeat' (first
    | assumption | apply State.tableRefused_keeps | refine keeps_ite ?_ ?_ | split | (extract_lets)
    | refine keeps_mk ?_ ?_ ?_ ?_ | exact Nat.le_refl _)

theorem State.armTable_keeps {r0 : State} {s : State} (hk : Keeps r0 s)  :
    Keeps r0 (State.armTable s) := by
  unfold State.armTable
  with_reducible repeat' (first
    | assumption | apply State.tableRefused_keeps | apply State.set_keeps | refine keeps_ite ?_ ?_ | (extract_lets)
    | refine keeps_mk ?_ ?_ ?_ ?_ | exact Nat.le_refl _)

theorem execTableLoad_keeps {r0 : State} {s : State} (hk : Keeps r0 s)  :
    ∀ t, execTableLoad s = .next t → Keeps r0 t := by
  unfold execTableLoad
  refine keeps_next ?_
  with_reducible repeat' (first | assumption | apply State.host_keeps | apply State.loadTable_keeps)

theorem execTableArm_keeps {r0 : State} {s : State} (hk : Keeps r0 s)  :
    ∀ t, execTableArm s = .next t → Keeps r0 t := by
  unfold execTableArm
  refine keeps_next ?_
  with_reducible repeat' (first | assumption | apply State.host_keeps | apply State.armTable_keeps)

theorem State.countPreempt_keeps {r0 : State} {s : State} (hk : Keeps r0 s)  :
    Keeps r0 (State.countPreempt s) := by
  unfold State.countPreempt
  with_reducible repeat' (first | assumption | apply State.count_keeps)

theorem State.putCore_keeps {r0 : State} {s : State} (k : Nat) (c : Nat) (x : Core) (hk : Keeps r0 s)  :
    Keeps r0 (State.putCore s k c x) := by
  unfold State.putCore
  with_reducible repeat' (first | assumption | (extract_lets) | refine keeps_mk ?_ ?_ ?_ ?_ | exact Nat.le_refl _)

theorem State.saveCore_keeps {r0 : State} {s : State} (uid : Nat) (k : Nat) (c : Nat) (hk : Keeps r0 s)  :
    Keeps r0 (State.saveCore s uid k c) := by
  unfold State.saveCore
  with_reducible repeat' (first
    | assumption | apply State.modCmd_keeps | apply State.countPreempt_keeps | apply State.withdraw_keeps
    | apply State.accum_keeps | apply State.store_keeps | apply State.putCore_keeps | refine keeps_ite ?_ ?_
    | (extract_lets) | refine keeps_mk ?_ ?_ ?_ ?_ | exact Nat.le_refl _ | exact Nat.le_add_right _ _)

theorem State.preempt_keeps {r0 : State} {s : State} (c : Cmd) (hk : Keeps r0 s)  :
    Keeps r0 (State.preempt s c) := by
  unfold State.preempt
  with_reducible repeat' (first
    | assumption | apply State.modCmd_keeps | apply State.countPreempt_keeps | apply State.saveCore_keeps
    | refine keeps_ite ?_ ?_ | split)

theorem State.preemptFor_keeps {r0 : State} {s : State} (x : Slot) (hk : Keeps r0 s)  :
    Keeps r0 (State.preemptFor s x) := by
  unfold State.preemptFor
  with_reducible repeat' (first
    | assumption | apply State.forEach_keeps | apply State.preempt_keeps | apply State.raiseN_keeps)

theorem State.startGolden_keeps {r0 : State} {s : State} (x : Slot) (hk : Keeps r0 s)  :
    Keeps r0 (State.startGolden s x) := by
  unfold State.startGolden
  with_reducible repeat' (first
    | assumption | apply State.forEach_keeps | (extract_lets) | refine keeps_mk ?_ ?_ ?_ ?_ | exact Nat.le_refl _
    | (intro))

theorem State.goldenFail_keeps {r0 : State} {s : State} (k : Nat) (hk : Keeps r0 s)  :
    Keeps r0 (State.goldenFail s k) := by
  unfold State.goldenFail
  with_reducible repeat' (first
    | assumption | apply State.raise_keeps | apply State.jobFault_keeps | apply State.settle_keeps
    | apply State.makeSuspect_keeps)

theorem State.dropGolden_keeps {r0 : State} {s : State} (k : Nat) (hk : Keeps r0 s)  :
    Keeps r0 (State.dropGolden s k) := by
  unfold State.dropGolden
  with_reducible repeat' (first | assumption | (extract_lets) | refine keeps_mk ?_ ?_ ?_ ?_ | exact Nat.le_refl _)

theorem execGoldenRunEnd_keeps {r0 : State} (skein : Nat) (equal : Bool) (beats : Nat) (vecBeats : Nat) {s : State} (hk : Keeps r0 s)  :
    ∀ t, execGoldenRunEnd skein equal beats vecBeats s = .next t → Keeps r0 t := by
  unfold execGoldenRunEnd
  refine keeps_next ?_
  with_reducible repeat' (first
    | assumption | apply State.spend_keeps | apply State.goldenTies_keeps | apply State.dropGolden_keeps
    | apply State.goldenFail_keeps | refine keeps_ite ?_ ?_ | refine keeps_ite_fst ?_ ?_
    | refine keeps_fst (by assumption) ?_ | split | (extract_lets) | refine keeps_mk ?_ ?_ ?_ ?_ | exact Nat.le_refl _
    | exact Nat.le_add_right _ _ | (intro))

theorem execGoldenTimeout_keeps {r0 : State} (skein : Nat) {s : State} (hk : Keeps r0 s)  :
    ∀ t, execGoldenTimeout skein s = .next t → Keeps r0 t := by
  unfold execGoldenTimeout
  refine keeps_next ?_
  with_reducible repeat' (first
    | assumption | apply State.goldenTies_keeps | apply State.dropGolden_keeps | apply State.goldenFail_keeps
    | refine keeps_ite ?_ ?_ | refine keeps_ite_fst ?_ ?_ | refine keeps_fst (by assumption) ?_ | split
    | (extract_lets) | refine keeps_mk ?_ ?_ ?_ ?_ | exact Nat.le_refl _ | exact Nat.le_add_right _ _ | (intro))

theorem State.deferTest_keeps {r0 : State} {s : State} (k : Nat) (f : Flag) (hk : Keeps r0 s)  :
    Keeps r0 (State.deferTest s k f) := by
  unfold State.deferTest
  with_reducible repeat' (first
    | assumption | apply State.set_keeps | apply State.raise_keeps | (extract_lets) | refine keeps_mk ?_ ?_ ?_ ?_
    | exact Nat.le_refl _)

theorem State.startDrain_keeps {r0 : State} {s : State} (k : Nat) (hk : Keeps r0 s)  :
    Keeps r0 (State.startDrain s k) := by
  unfold State.startDrain
  with_reducible repeat' (first
    | assumption | apply State.set_keeps | apply State.forEach_keeps | apply State.preempt_keeps | (extract_lets)
    | refine keeps_mk ?_ ?_ ?_ ?_ | exact Nat.le_refl _)

theorem State.startTest_keeps {r0 : State} {s : State} (y0 : List Nat) (hk : Keeps r0 s)  :
    Keeps r0 (State.startTest s y0) := by
  induction y0 generalizing s with
  | nil =>
    unfold State.startTest
    with_reducible repeat' (first
      | assumption | apply State.startDrain_keeps | apply State.deferTest_keeps | refine keeps_ite ?_ ?_
      | refine keeps_ite_fst ?_ ?_ | refine keeps_fst (by assumption) ?_ | split | (extract_lets)
      | refine keeps_mk ?_ ?_ ?_ ?_ | exact Nat.le_refl _ | exact Nat.le_add_right _ _ | (intro))
  | cons a rest ih =>
    unfold State.startTest
    with_reducible repeat' (first
      | assumption | apply ih | apply State.startDrain_keeps | apply State.deferTest_keeps | refine keeps_ite ?_ ?_
      | refine keeps_ite_fst ?_ ?_ | refine keeps_fst (by assumption) ?_ | split | (extract_lets)
      | refine keeps_mk ?_ ?_ ?_ ?_ | exact Nat.le_refl _ | exact Nat.le_add_right _ _ | (intro))

theorem State.openTest_keeps {r0 : State} {s : State} (x : Slot) (hk : Keeps r0 s)  :
    Keeps r0 (State.openTest s x) := by
  unfold State.openTest
  with_reducible repeat' (first
    | assumption | apply State.startTest_keeps | refine keeps_ite ?_ ?_ | refine keeps_ite_fst ?_ ?_
    | refine keeps_fst (by assumption) ?_ | split | (extract_lets) | refine keeps_mk ?_ ?_ ?_ ?_ | exact Nat.le_refl _
    | exact Nat.le_add_right _ _ | (intro))

theorem State.afterSuspect_keeps {r0 : State} {s : State} (k : Nat) (hk : Keeps r0 s)  :
    Keeps r0 (State.afterSuspect s k) := by
  unfold State.afterSuspect
  with_reducible repeat' (first
    | assumption | apply State.startTest_keeps | refine keeps_ite ?_ ?_ | refine keeps_ite_fst ?_ ?_
    | refine keeps_fst (by assumption) ?_ | split | (extract_lets) | refine keeps_mk ?_ ?_ ?_ ?_ | exact Nat.le_refl _
    | exact Nat.le_add_right _ _ | (intro))

theorem State.giveUpTest_keeps {r0 : State} {s : State} (k : Nat) (f : Flag) (hk : Keeps r0 s)  :
    Keeps r0 (State.giveUpTest s k f) := by
  unfold State.giveUpTest
  with_reducible repeat' (first
    | assumption | apply State.deferTest_keeps | apply State.doIf_keeps | apply State.afterSuspect_keeps
    | refine keeps_ite ?_ ?_ | refine keeps_ite_fst ?_ ?_ | refine keeps_fst (by assumption) ?_ | split
    | (extract_lets) | refine keeps_mk ?_ ?_ ?_ ?_ | exact Nat.le_refl _ | exact Nat.le_add_right _ _ | (intro))

theorem State.trySlice_keeps {r0 : State} {s : State} (k : Nat) (hk : Keeps r0 s)  :
    Keeps r0 (State.trySlice s k) := by
  unfold State.trySlice
  with_reducible repeat' (first
    | assumption | apply State.startSlice_keeps | apply State.giveUpTest_keeps | refine keeps_ite ?_ ?_)

theorem execDrainEnd_keeps {r0 : State} {s : State} (hk : Keeps r0 s)  :
    ∀ t, execDrainEnd s = .next t → Keeps r0 t := by
  unfold execDrainEnd
  refine keeps_next ?_
  with_reducible repeat' (first | assumption | apply State.trySlice_keeps | refine keeps_ite ?_ ?_)

theorem execDrainTimeout_keeps {r0 : State} {s : State} (hk : Keeps r0 s)  :
    ∀ t, execDrainTimeout s = .next t → Keeps r0 t := by
  unfold execDrainTimeout
  refine keeps_next ?_
  with_reducible repeat' (first | assumption | apply State.giveUpTest_keeps | refine keeps_ite ?_ ?_)

theorem State.retireFaulty_keeps {r0 : State} {s : State} (k : Nat) (hk : Keeps r0 s)  :
    Keeps r0 (State.retireFaulty s k) := by
  unfold State.retireFaulty
  with_reducible repeat' (first
    | assumption | apply State.retire_keeps | apply State.jobFault_keeps | apply State.settle_keeps
    | apply State.selvFault_keeps | refine keeps_ite ?_ ?_ | (extract_lets) | refine keeps_mk ?_ ?_ ?_ ?_
    | exact Nat.le_refl _)

theorem State.coverage_keeps {r0 : State} {s : State} (k : Nat) (hk : Keeps r0 s)  :
    Keeps r0 (State.coverage s k) := by
  unfold State.coverage
  with_reducible repeat' (first
    | assumption | apply Append.put_keeps | refine keeps_ite ?_ ?_ | refine keeps_ite_fst ?_ ?_
    | refine keeps_fst (by assumption) ?_ | split | (extract_lets) | refine keeps_mk ?_ ?_ ?_ ?_ | exact Nat.le_refl _
    | exact Nat.le_add_right _ _ | (intro))

theorem State.rotationPass_keeps {r0 : State} {s : State} (x : Slice) (hk : Keeps r0 s)  :
    Keeps r0 (State.rotationPass s x) := by
  unfold State.rotationPass
  with_reducible repeat' (first
    | assumption | apply State.coverage_keeps | refine keeps_ite ?_ ?_ | (extract_lets) | refine keeps_mk ?_ ?_ ?_ ?_
    | exact Nat.le_refl _)

theorem State.suspectPass_keeps {r0 : State} {s : State} (x : Slice) (hk : Keeps r0 s)  :
    Keeps r0 (State.suspectPass s x) := by
  unfold State.suspectPass
  with_reducible repeat' (first
    | assumption | apply State.afterSuspect_keeps | apply State.trySlice_keeps | apply Append.put_keeps
    | apply State.coverage_keeps | refine keeps_ite ?_ ?_ | refine keeps_ite_fst ?_ ?_
    | refine keeps_fst (by assumption) ?_ | split | (extract_lets) | refine keeps_mk ?_ ?_ ?_ ?_ | exact Nat.le_refl _
    | exact Nat.le_add_right _ _ | (intro))

theorem execSliceEnd_keeps {r0 : State} (pass : Bool) (plyFails : Bool) (beats : List Nat) {s : State} (hk : Keeps r0 s)  :
    ∀ t, execSliceEnd pass plyFails beats s = .next t → Keeps r0 t := by
  unfold execSliceEnd
  refine keeps_next ?_
  with_reducible repeat' (first
    | assumption | apply State.set_keeps | apply State.forEach_keeps | apply State.spend_keeps
    | apply State.testRun_keeps | apply State.retireFaulty_keeps | apply State.doIf_keeps
    | apply State.afterSuspect_keeps | apply State.suspectPass_keeps | apply State.rotationPass_keeps
    | apply State.startOverdue_keeps | refine keeps_ite ?_ ?_ | refine keeps_ite_fst ?_ ?_
    | refine keeps_fst (by assumption) ?_ | split | (extract_lets) | refine keeps_mk ?_ ?_ ?_ ?_ | exact Nat.le_refl _
    | exact Nat.le_add_right _ _ | (intro))

theorem State.closeSlots_keeps {r0 : State} {s : State} (hk : Keeps r0 s)  :
    Keeps r0 (State.closeSlots s) := by
  unfold State.closeSlots
  with_reducible repeat' (first
    | assumption | split | (extract_lets) | refine keeps_mk ?_ ?_ ?_ ?_ | exact Nat.le_refl _)

theorem State.openSlot_keeps {r0 : State} {s : State} (i : Nat) (hk : Keeps r0 s)  :
    Keeps r0 (State.openSlot s i) := by
  unfold State.openSlot
  with_reducible repeat' (first
    | assumption | apply State.closeSlots_keeps | apply State.preemptFor_keeps | apply State.startGolden_keeps
    | apply State.openTest_keeps | refine keeps_ite ?_ ?_ | split | (extract_lets) | refine keeps_mk ?_ ?_ ?_ ?_
    | exact Nat.le_refl _)

theorem execSlotOpen_keeps {r0 : State} (slot : Nat) {s : State} (hk : Keeps r0 s)  :
    ∀ t, execSlotOpen slot s = .next t → Keeps r0 t := by
  unfold execSlotOpen
  refine keeps_next ?_
  with_reducible repeat' (first | assumption | apply State.openSlot_keeps)

theorem execSlotClose_keeps {r0 : State} (slot : Nat) {s : State} (hk : Keeps r0 s)  :
    ∀ t, execSlotClose slot s = .next t → Keeps r0 t := by
  unfold execSlotClose
  refine keeps_next ?_
  with_reducible repeat' (first
    | assumption | refine keeps_ite ?_ ?_ | split | (extract_lets) | refine keeps_mk ?_ ?_ ?_ ?_
    | exact Nat.le_refl _)

theorem execQuiesceStart_keeps {r0 : State} (slot : Nat) {s : State} (hk : Keeps r0 s)  :
    ∀ t, execQuiesceStart slot s = .next t → Keeps r0 t := by
  unfold execQuiesceStart
  refine keeps_next ?_
  with_reducible repeat' (first
    | assumption | refine keeps_ite ?_ ?_ | split | (extract_lets) | refine keeps_mk ?_ ?_ ?_ ?_
    | exact Nat.le_refl _)

theorem State.advanceCycle_keeps {r0 : State} {s : State} (c : Nat) (n : Nat) (hk : Keeps r0 s)  :
    Keeps r0 (State.advanceCycle s c n) := by
  unfold State.advanceCycle
  with_reducible repeat' (first | assumption | apply State.set_keeps | apply State.accum_keeps)

theorem State.swapTable_keeps {r0 : State} {s : State} (hk : Keeps r0 s)  :
    Keeps r0 (State.swapTable s) := by
  unfold State.swapTable
  with_reducible repeat' (first
    | assumption | apply State.set_keeps | apply State.raise_keeps | (extract_lets) | refine keeps_mk ?_ ?_ ?_ ?_
    | exact Nat.le_refl _)

theorem State.crossCycles_keeps {r0 : State} {s : State} (hk : Keeps r0 s)  :
    Keeps r0 (State.crossCycles s) := by
  unfold State.crossCycles
  with_reducible repeat' (first
    | assumption | apply State.advanceCycle_keeps | apply State.swapTable_keeps | refine keeps_ite ?_ ?_ | split
    | (extract_lets) | refine keeps_mk ?_ ?_ ?_ ?_ | exact Nat.le_refl _)

theorem execCycleBoundary_keeps {r0 : State} {s : State} (hk : Keeps r0 s)  :
    ∀ t, execCycleBoundary s = .next t → Keeps r0 t := by
  unfold execCycleBoundary
  refine keeps_next ?_
  with_reducible repeat' (first | assumption | apply State.crossCycles_keeps | refine keeps_ite ?_ ?_)

theorem execStateReqRun_keeps {r0 : State} {s : State} (hk : Keeps r0 s)  :
    ∀ t, execStateReqRun s = .next t → Keeps r0 t := by
  unfold execStateReqRun
  refine keeps_next ?_
  with_reducible repeat' (first
    | assumption | apply State.hostReq_keeps | split | (extract_lets) | refine keeps_mk ?_ ?_ ?_ ?_
    | exact Nat.le_refl _ | (intro))

theorem execRunStart_keeps {r0 : State} {s : State} (hk : Keeps r0 s)  :
    ∀ t, execRunStart s = .next t → Keeps r0 t := by
  unfold execRunStart
  refine keeps_next ?_
  with_reducible repeat' (first
    | assumption | apply State.set_keeps | apply State.accum_keeps | apply State.goBy_keeps | refine keeps_ite ?_ ?_
    | split | (extract_lets) | refine keeps_mk ?_ ?_ ?_ ?_ | exact Nat.le_refl _)

theorem execStateReqStandby_keeps {r0 : State} {s : State} (hk : Keeps r0 s)  :
    ∀ t, execStateReqStandby s = .next t → Keeps r0 t := by
  unfold execStateReqStandby
  refine keeps_next ?_
  with_reducible repeat' (first
    | assumption | apply State.hostReq_keeps | (extract_lets) | refine keeps_mk ?_ ?_ ?_ ?_ | exact Nat.le_refl _
    | (intro))

theorem execRunExit_keeps {r0 : State} {s : State} (hk : Keeps r0 s)  :
    ∀ t, execRunExit s = .next t → Keeps r0 t := by
  unfold execRunExit
  refine keeps_next ?_
  with_reducible repeat' (first
    | assumption | apply State.crossCycles_keeps | apply State.enterStandby_keeps | refine keeps_ite ?_ ?_ | split)

theorem State.skipGolden_keeps {r0 : State} {s : State} (p : Slot × Nat) (hk : Keeps r0 s)  :
    Keeps r0 (State.skipGolden s p) := by
  unfold State.skipGolden
  with_reducible repeat' (first
    | assumption | apply State.raiseN_keeps | apply State.forEach_keeps | (extract_lets) | refine keeps_mk ?_ ?_ ?_ ?_
    | exact Nat.le_refl _ | (intro))

theorem State.stepCycle_keeps {r0 : State} {s : State} (lo : Nat) (hk : Keeps r0 s)  :
    Keeps r0 (State.stepCycle s lo) := by
  unfold State.stepCycle
  with_reducible repeat' (first
    | assumption | apply State.forEach_keeps | apply State.skipGolden_keeps | apply State.selvFault_keeps
    | apply State.crossCycles_keeps | apply State.closeSlots_keeps | apply State.openSlot_keeps
    | refine keeps_ite ?_ ?_ | split | (extract_lets))

theorem execAccountingInterval_keeps {r0 : State} {s : State} (hk : Keeps r0 s)  :
    ∀ t, execAccountingInterval s = .next t → Keeps r0 t := by
  unfold execAccountingInterval
  refine keeps_next ?_
  with_reducible repeat' (first
    | assumption | apply State.forEach_keeps | apply State.accum_keeps | refine keeps_ite ?_ ?_ | (extract_lets)
    | refine keeps_mk ?_ ?_ ?_ ?_ | exact Nat.le_refl _ | (intro))

end Sys2Proof.Machine
end

