-- ==== Sys2Proof/Laws/KeepsWhorl.lean ====
section
/-! SUPPORT. Keeps for the operations of Machine/Whorl.lean. -/

namespace Sys2Proof.Machine

theorem State.tickCount_keeps {r0 : State} {s : State} (hk : Keeps r0 s)  :
    Keeps r0 (State.tickCount s) := by
  unfold State.tickCount
  with_reducible repeat' (first
    | assumption | apply State.setBit_keeps | refine keeps_ite ?_ ?_ | split | (extract_lets)
    | refine keeps_mk ?_ ?_ ?_ ?_ | exact Nat.le_refl _)

theorem State.passTick_keeps {r0 : State} {s : State} (hk : Keeps r0 s)  :
    Keeps r0 (State.passTick s) := by
  unfold State.passTick
  with_reducible repeat' (first
    | assumption | apply State.settleSleep_keeps | apply State.tickCount_keeps | refine keeps_ite ?_ ?_
    | refine keeps_ite_fst ?_ ?_ | refine keeps_fst (by assumption) ?_ | split | (extract_lets)
    | refine keeps_mk ?_ ?_ ?_ ?_ | exact Nat.le_refl _ | exact Nat.le_add_right _ _ | (intro))

theorem State.setHold_keeps {r0 : State} {s : State} (n : Nat) (hk : Keeps r0 s)  :
    Keeps r0 (State.setHold s n) := by
  unfold State.setHold
  with_reducible repeat' (first
    | assumption | apply State.setBit_keeps | (extract_lets) | refine keeps_mk ?_ ?_ ?_ ?_ | exact Nat.le_refl _)

theorem State.stepTo_keeps {r0 : State} {s : State} (count : Nat) (hk : Keeps r0 s)  :
    Keeps r0 (State.stepTo s count) := by
  unfold State.stepTo
  with_reducible repeat' (first
    | assumption | apply State.raise_keeps | apply State.stepCycle_keeps | refine keeps_ite ?_ ?_ | (extract_lets)
    | refine keeps_mk ?_ ?_ ?_ ?_ | exact Nat.le_refl _)

theorem State.stepBy_keeps {r0 : State} {s : State} (d : Int) (hk : Keeps r0 s)  :
    ∀ t, State.stepBy s d = some t → Keeps r0 t := by
  unfold State.stepBy
  with_reducible repeat' (first
    | exact keeps_none | refine keeps_some ?_ | refine keeps_ite_opt ?_ ?_ | assumption | apply State.setHold_keeps
    | apply State.stepTo_keeps)

theorem State.stepRefused_keeps {r0 : State} {s : State} (hk : Keeps r0 s)  :
    Keeps r0 (State.stepRefused s) := by
  unfold State.stepRefused
  with_reducible repeat' (first | assumption | apply State.raise_keeps)

theorem execWhorlStepWrite_keeps {r0 : State} (step : BitVec 64) {s : State} (hk : Keeps r0 s)  :
    ∀ t, execWhorlStepWrite step s = .next t → Keeps r0 t := by
  unfold execWhorlStepWrite
  refine keeps_next ?_
  with_reducible repeat' (first
    | assumption | apply State.host_keeps | apply State.stepRefused_keeps
    | refine keeps_opt (by assumption) (State.stepBy_keeps _ ?_) | split | (extract_lets) | (intro))

theorem execHoldEnd_keeps {r0 : State} {s : State} (hk : Keeps r0 s)  :
    ∀ t, execHoldEnd s = .next t → Keeps r0 t := by
  unfold execHoldEnd
  refine keeps_next ?_
  with_reducible repeat' (first
    | assumption | apply State.setHold_keeps | refine keeps_ite ?_ ?_ | split | (extract_lets)
    | refine keeps_mk ?_ ?_ ?_ ?_ | exact Nat.le_refl _ | exact Nat.le_add_right _ _)

theorem State.setDomain_keeps {r0 : State} {s : State} (d : Nat) (hk : Keeps r0 s)  :
    Keeps r0 (State.setDomain s d) := by
  unfold State.setDomain
  with_reducible repeat' (first | assumption | apply State.set_keeps | apply State.setBit_keeps)

theorem State.lessOfs_keeps {r0 : State} {s : State} (set : Nat) (d : Int) (hk : Keeps r0 s)  :
    Keeps r0 (State.lessOfs s set d) := by
  unfold State.lessOfs
  with_reducible repeat' (first | assumption | apply State.set_keeps)

theorem State.joinSet_keeps {r0 : State} {s : State} (set : Nat) (hk : Keeps r0 s)  :
    ∀ t, State.joinSet s set = some t → Keeps r0 t := by
  unfold State.joinSet
  with_reducible repeat' (first
    | exact keeps_none | refine keeps_some ?_ | assumption | apply State.lessOfs_keeps | apply State.setDomain_keeps
    | refine keeps_opt (by assumption) (State.stepBy_keeps _ ?_) | split | (extract_lets))

theorem State.switchSet_keeps {r0 : State} {s : State} (set : Nat) (hk : Keeps r0 s)  :
    ∀ t, State.switchSet s set = some t → Keeps r0 t := by
  unfold State.switchSet
  with_reducible repeat' (first
    | exact keeps_none | refine keeps_ite_opt ?_ ?_ | assumption | apply State.set_keeps
    | refine keeps_omap (State.joinSet_keeps _ ?_) ?_ | (extract_lets) | (intro))

theorem State.writeDomain_keeps {r0 : State} {s : State} (d : Nat) (hk : Keeps r0 s)  :
    Keeps r0 (State.writeDomain s d) := by
  unfold State.writeDomain
  with_reducible repeat' (first
    | assumption | apply State.stepRefused_keeps | apply State.setDomain_keeps
    | refine keeps_getD (State.switchSet_keeps _ ?_) ?_ | refine keeps_getD (State.joinSet_keeps _ ?_) ?_
    | refine keeps_ite ?_ ?_)

theorem execDomainWrite_keeps {r0 : State} (domain : Nat) {s : State} (hk : Keeps r0 s)  :
    ∀ t, execDomainWrite domain s = .next t → Keeps r0 t := by
  unfold execDomainWrite
  refine keeps_next ?_
  with_reducible repeat' (first
    | assumption | apply State.host_keeps | apply State.writeDomain_keeps | (extract_lets) | (intro))

theorem State.writeOfs_keeps {r0 : State} {s : State} (set : Nat) (v : Nat) (hk : Keeps r0 s)  :
    Keeps r0 (State.writeOfs s set v) := by
  unfold State.writeOfs
  with_reducible repeat' (first
    | assumption | apply State.set_keeps | apply State.lessOfs_keeps | apply State.raise_keeps
    | apply State.stepRefused_keeps | refine keeps_opt (by assumption) (State.stepBy_keeps _ ?_)
    | refine keeps_ite ?_ ?_ | split | (extract_lets) | refine keeps_mk ?_ ?_ ?_ ?_ | exact Nat.le_refl _)

theorem State.writeRate_keeps {r0 : State} {s : State} (set : Nat) (v : Nat) (hk : Keeps r0 s)  :
    Keeps r0 (State.writeRate s set v) := by
  unfold State.writeRate
  with_reducible repeat' (first | assumption | apply State.set_keeps | refine keeps_ite ?_ ?_)

theorem execDomOfsWrite_keeps {r0 : State} (set : Nat) (ofs : BitVec 64) {s : State} (hk : Keeps r0 s)  :
    ∀ t, execDomOfsWrite set ofs s = .next t → Keeps r0 t := by
  unfold execDomOfsWrite
  refine keeps_next ?_
  with_reducible repeat' (first
    | assumption | apply State.host_keeps | apply State.writeOfs_keeps | (extract_lets) | (intro))

theorem execDomRateWrite_keeps {r0 : State} (set : Nat) (rate : BitVec 32) {s : State} (hk : Keeps r0 s)  :
    ∀ t, execDomRateWrite set rate s = .next t → Keeps r0 t := by
  unfold execDomRateWrite
  refine keeps_next ?_
  with_reducible repeat' (first
    | assumption | apply State.host_keeps | apply State.writeRate_keeps | (extract_lets) | (intro))

theorem State.domainFault_keeps {r0 : State} {s : State} (hk : Keeps r0 s)  :
    Keeps r0 (State.domainFault s) := by
  unfold State.domainFault
  with_reducible repeat' (first | assumption | apply State.timeFault_keeps)

theorem execDomainLost_keeps {r0 : State} (set : Nat) {s : State} (hk : Keeps r0 s)  :
    ∀ t, execDomainLost set s = .next t → Keeps r0 t := by
  unfold execDomainLost
  refine keeps_next ?_
  with_reducible repeat' (first
    | assumption | apply State.set_keeps | apply State.raise_keeps | apply State.stepRefused_keeps
    | apply State.domainFault_keeps | refine keeps_opt (by assumption) (State.switchSet_keeps _ ?_)
    | refine keeps_ite ?_ ?_ | split)

theorem execRefclkLost_keeps {r0 : State} {s : State} (hk : Keeps r0 s)  :
    ∀ t, execRefclkLost s = .next t → Keeps r0 t := by
  unfold execRefclkLost
  refine keeps_next ?_
  with_reducible repeat' (first
    | assumption | apply State.set_keeps | apply State.raise_keeps | apply State.timeFault_keeps
    | refine keeps_ite ?_ ?_ | (extract_lets) | refine keeps_mk ?_ ?_ ?_ ?_ | exact Nat.le_refl _)

theorem execRefclkRestored_keeps {r0 : State} {s : State} (hk : Keeps r0 s)  :
    ∀ t, execRefclkRestored s = .next t → Keeps r0 t := by
  unfold execRefclkRestored
  refine keeps_next ?_
  with_reducible repeat' (first
    | assumption | apply State.set_keeps | refine keeps_ite ?_ ?_ | (extract_lets) | refine keeps_mk ?_ ?_ ?_ ?_
    | exact Nat.le_refl _)

theorem execRefHoldExpire_keeps {r0 : State} {s : State} (hk : Keeps r0 s)  :
    ∀ t, execRefHoldExpire s = .next t → Keeps r0 t := by
  unfold execRefHoldExpire
  refine keeps_next ?_
  with_reducible repeat' (first
    | assumption | apply State.selvFault_keeps | refine keeps_ite ?_ ?_ | (extract_lets) | refine keeps_mk ?_ ?_ ?_ ?_
    | exact Nat.le_refl _)

theorem State.resync_keeps {r0 : State} {s : State} (source : Nat) (hk : Keeps r0 s)  :
    Keeps r0 (State.resync s source) := by
  unfold State.resync
  with_reducible repeat' (first
    | assumption | apply State.set_keeps | apply State.raise_keeps | apply State.timeFault_keeps | (extract_lets)
    | refine keeps_mk ?_ ?_ ?_ ?_ | exact Nat.le_refl _)

theorem execTimeWaveFrame_keeps {r0 : State} (bad : List Nat) {s : State} (hk : Keeps r0 s)  :
    ∀ t, execTimeWaveFrame bad s = .next t → Keeps r0 t := by
  unfold execTimeWaveFrame
  refine keeps_next ?_
  with_reducible repeat' (first
    | assumption | apply State.setBit_keeps | apply State.forEach_keeps | apply State.resync_keeps
    | refine keeps_ite ?_ ?_ | (extract_lets) | refine keeps_mk ?_ ?_ ?_ ?_ | exact Nat.le_refl _)

theorem execBeatmonUpdate_keeps {r0 : State} (beats : Nat) {s : State} (hk : Keeps r0 s)  :
    ∀ t, execBeatmonUpdate beats s = .next t → Keeps r0 t := by
  unfold execBeatmonUpdate
  refine keeps_next ?_
  with_reducible repeat' (first
    | assumption | apply State.set_keeps | apply State.countBeats_keeps | apply Append.put_keeps
    | refine keeps_ite ?_ ?_ | refine keeps_ite_fst ?_ ?_ | refine keeps_fst (by assumption) ?_ | split
    | (extract_lets) | refine keeps_mk ?_ ?_ ?_ ?_ | exact Nat.le_refl _ | exact Nat.le_add_right _ _ | (intro))

theorem State.tinStamp_keeps {r0 : State} {s : State} (pin : Nat) (rising : Bool) (hk : Keeps r0 s)  :
    Keeps r0 (State.tinStamp s pin rising) := by
  unfold State.tinStamp
  with_reducible repeat' (first
    | assumption | apply State.set_keeps | apply State.count_keeps | apply State.raiseSource_keeps
    | refine keeps_ite ?_ ?_ | refine keeps_ite_fst ?_ ?_ | refine keeps_fst (by assumption) ?_ | split
    | (extract_lets) | refine keeps_mk ?_ ?_ ?_ ?_ | exact Nat.le_refl _ | exact Nat.le_add_right _ _ | (intro))

theorem State.tinLevel_keeps {r0 : State} {s : State} (pin : Nat) (high : Bool) (hk : Keeps r0 s)  :
    Keeps r0 (State.tinLevel s pin high) := by
  unfold State.tinLevel
  with_reducible repeat' (first
    | assumption | refine keeps_ite ?_ ?_ | refine keeps_ite_fst ?_ ?_ | refine keeps_fst (by assumption) ?_ | split
    | (extract_lets) | refine keeps_mk ?_ ?_ ?_ ?_ | exact Nat.le_refl _ | exact Nat.le_add_right _ _ | (intro))

theorem execTimeInEdge_keeps {r0 : State} (pin : Nat) (rising : Bool) (ticks : Nat) {s : State} (hk : Keeps r0 s)  :
    ∀ t, execTimeInEdge pin rising ticks s = .next t → Keeps r0 t := by
  unfold execTimeInEdge
  refine keeps_next ?_
  with_reducible repeat' (first
    | assumption | apply State.tinLevel_keeps | apply State.doIf_keeps | apply State.tinStamp_keeps
    | refine keeps_ite ?_ ?_ | refine keeps_ite_fst ?_ ?_ | refine keeps_fst (by assumption) ?_ | split
    | (extract_lets) | refine keeps_mk ?_ ?_ ?_ ?_ | exact Nat.le_refl _ | exact Nat.le_add_right _ _ | (intro))

theorem execTinStampHighRead_keeps {r0 : State} (pin : Nat) {s : State} (hk : Keeps r0 s)  :
    ∀ t, execTinStampHighRead pin s = .next t → Keeps r0 t := by
  unfold execTinStampHighRead
  refine keeps_next ?_
  with_reducible repeat' (first
    | assumption | apply State.host_keeps | split | (extract_lets) | refine keeps_mk ?_ ?_ ?_ ?_ | exact Nat.le_refl _
    | (intro))

end Sys2Proof.Machine
end

