-- ==== Sys2Proof/Laws/KeepsLaunch.lean ====
section
/-! SUPPORT. Keeps for the operations of Machine/Launch.lean. -/

namespace Sys2Proof.Machine

theorem State.enterQueue_keeps {r0 : State} {s : State} (c : Cmd) (hk : Keeps r0 s)  :
    Keeps r0 (State.enterQueue s c) := by
  unfold State.enterQueue
  with_reducible repeat' (first | assumption | (extract_lets) | refine keeps_mk ?_ ?_ ?_ ?_ | exact Nat.le_refl _)

theorem State.noteHeads_keeps {r0 : State} {s : State} (hk : Keeps r0 s)  :
    Keeps r0 (State.noteHeads s) := by
  unfold State.noteHeads
  with_reducible repeat' (first
    | assumption | refine keeps_ite ?_ ?_ | refine keeps_ite_fst ?_ ?_ | refine keeps_fst (by assumption) ?_ | split
    | (extract_lets) | refine keeps_mk ?_ ?_ ?_ ?_ | exact Nat.le_refl _ | exact Nat.le_add_right _ _ | (intro))

theorem State.fillQueues_keeps {r0 : State} {s : State} (hk : Keeps r0 s)  :
    Keeps r0 (State.fillQueues s) := by
  unfold State.fillQueues
  with_reducible repeat' (first
    | assumption | apply State.forEach_keeps | apply State.enterQueue_keeps | apply State.noteHeads_keeps
    | refine keeps_ite ?_ ?_ | refine keeps_ite_fst ?_ ?_ | refine keeps_fst (by assumption) ?_ | split
    | (extract_lets) | refine keeps_mk ?_ ?_ ?_ ?_ | exact Nat.le_refl _ | exact Nat.le_add_right _ _ | (intro))

theorem State.countEven_keeps {r0 : State} {s : State} (e : Engine) (even : Bool) (hk : Keeps r0 s)  :
    Keeps r0 (State.countEven s e even) := by
  unfold State.countEven
  with_reducible repeat' (first | assumption | apply State.count_keeps | refine keeps_ite ?_ ?_ | split)

theorem State.restoreCore_keeps {r0 : State} {s : State} (k : Nat) (q : Nat) (job : Nat) (hk : Keeps r0 s)  :
    Keeps r0 (State.restoreCore s k q job) := by
  unfold State.restoreCore
  with_reducible repeat' (first
    | assumption | apply State.accum_keeps | apply State.putCore_keeps | split | (extract_lets)
    | refine keeps_mk ?_ ?_ ?_ ?_ | exact Nat.le_refl _)

theorem State.resume_keeps {r0 : State} {s : State} (c : Cmd) (hk : Keeps r0 s)  :
    Keeps r0 (State.resume s c) := by
  unfold State.resume
  with_reducible repeat' (first
    | assumption | apply State.modCmd_keeps | apply State.setBank_keeps | apply State.set_keeps
    | apply State.restoreCore_keeps | apply State.askOn_keeps | refine keeps_ite ?_ ?_ | refine keeps_ite_fst ?_ ?_
    | refine keeps_fst (by assumption) ?_ | split | (extract_lets) | refine keeps_mk ?_ ?_ ?_ ?_ | exact Nat.le_refl _
    | exact Nat.le_add_right _ _ | (intro))

theorem State.startWork_keeps {r0 : State} {s : State} (c : Cmd) (hk : Keeps r0 s)  :
    Keeps r0 (State.startWork s c) := by
  unfold State.startWork
  with_reducible repeat' (first
    | assumption | apply State.modCmd_keeps | apply State.setBank_keeps | apply State.takeSnapshot_keeps
    | apply State.kvJoin_keeps | apply State.set_keeps | refine keeps_ite ?_ ?_ | split)

theorem State.begin_keeps {r0 : State} {s : State} (c : Cmd) (e : Engine) (hk : Keeps r0 s)  :
    Keeps r0 (State.begin s c e) := by
  unfold State.begin
  with_reducible repeat' (first
    | assumption | apply State.modCmd_keeps | apply State.countEven_keeps | apply State.count_keeps
    | apply State.finish_keeps | apply State.startWork_keeps | apply State.tileStart_keeps | refine keeps_ite ?_ ?_)

theorem State.noteJob_keeps {r0 : State} {s : State} (e : Engine) (job : Nat) (hk : Keeps r0 s)  :
    Keeps r0 (State.noteJob s e job) := by
  unfold State.noteJob
  with_reducible repeat' (first
    | assumption | split | (extract_lets) | refine keeps_mk ?_ ?_ ?_ ?_ | exact Nat.le_refl _)

theorem execLaunchStart_keeps {r0 : State} (uid : Nat) {s : State} (hk : Keeps r0 s)  :
    ∀ t, execLaunchStart uid s = .next t → Keeps r0 t := by
  unfold execLaunchStart
  refine keeps_next ?_
  with_reducible repeat' (first
    | assumption | apply State.resume_keeps | apply State.begin_keeps | apply State.noteJob_keeps
    | refine keeps_ite ?_ ?_ | split)

theorem execLaunchGuard_keeps {r0 : State} (uid : Nat) {s : State} (hk : Keeps r0 s)  :
    ∀ t, execLaunchGuard uid s = .next t → Keeps r0 t := by
  unfold execLaunchGuard
  refine keeps_next ?_
  with_reducible repeat' (first | assumption | apply State.modCmd_keeps | refine keeps_ite ?_ ?_ | split)

theorem execLaunchLate_keeps {r0 : State} (uid : Nat) {s : State} (hk : Keeps r0 s)  :
    ∀ t, execLaunchLate uid s = .next t → Keeps r0 t := by
  unfold execLaunchLate
  refine keeps_next ?_
  with_reducible repeat' (first
    | assumption | apply State.raise_keeps | apply State.withdraw_keeps | apply State.finish_keeps
    | apply State.modCmd_keeps | apply State.fillQueues_keeps | refine keeps_ite ?_ ?_ | split)

theorem execLoomYield_keeps {r0 : State} (skein : Nat) {s : State} (hk : Keeps r0 s)  :
    ∀ t, execLoomYield skein s = .next t → Keeps r0 t := by
  unfold execLoomYield
  refine keeps_next ?_
  with_reducible repeat' (first
    | assumption | apply State.noteGroup_keeps | apply State.modCmd_keeps | apply State.count_keeps
    | refine keeps_ite ?_ ?_ | split)

end Sys2Proof.Machine
end

