-- ==== Sys2Proof/Laws/KeepsDigest.lean ====
section
/-! SUPPORT. Keeps for the operations of Machine/Digest.lean. -/

namespace Sys2Proof.Machine

theorem State.writeGulec_keeps {r0 : State} {s : State} (c : Cmd) (addr : Nat) (x : GulecParts) (hk : Keeps r0 s)  :
    Keeps r0 (State.writeGulec s c addr x) := by
  unfold State.writeGulec
  with_reducible repeat' (first
    | assumption | apply State.storeKind0_keeps | apply State.doIf_keeps | apply State.raise_keeps | (extract_lets)
    | (intro))

theorem State.writeRing_keeps {r0 : State} {s : State} (c : Cmd) (x : GulecParts) (hk : Keeps r0 s)  :
    Keeps r0 (State.writeRing s c x).1 := by
  unfold State.writeRing
  with_reducible repeat' (first | assumption | apply State.writeGulec_keeps | apply State.accum_keeps)

theorem State.flagRecord_keeps {r0 : State} {s : State} (c : Cmd) (hk : Keeps r0 s)  :
    Keeps r0 (State.flagRecord s c).1 := by
  unfold State.flagRecord
  with_reducible repeat' (first
    | assumption | apply State.readRows_keeps | apply State.writeRing_keeps | refine keeps_ite ?_ ?_
    | refine keeps_ite_fst ?_ ?_ | refine keeps_fst (by assumption) ?_ | split | (extract_lets)
    | refine keeps_mk ?_ ?_ ?_ ?_ | exact Nat.le_refl _ | exact Nat.le_add_right _ _ | (intro))

theorem State.digestRecord_keeps {r0 : State} {s : State} (c : Cmd) (digests : List Byte) (hk : Keeps r0 s)  :
    Keeps r0 (State.digestRecord s c digests).1 := by
  unfold State.digestRecord
  with_reducible repeat' (first
    | assumption | apply State.writeRing_keeps | apply State.writeGulec_keeps | apply State.doIf_keeps
    | apply State.set_keeps | refine keeps_ite ?_ ?_ | refine keeps_ite_fst ?_ ?_
    | refine keeps_fst (by assumption) ?_ | split | (extract_lets) | refine keeps_mk ?_ ?_ ?_ ?_ | exact Nat.le_refl _
    | exact Nat.le_add_right _ _ | (intro))

theorem State.record_keeps {r0 : State} {s : State} (c : Cmd) (hk : Keeps r0 s)  :
    Keeps r0 (State.record s c).1 := by
  unfold State.record
  with_reducible repeat' (first
    | assumption | apply State.digestRecord_keeps | apply State.flagRecord_keeps | refine keeps_ite ?_ ?_
    | refine keeps_ite_fst ?_ ?_ | refine keeps_fst (by assumption) ?_ | split | (extract_lets)
    | refine keeps_mk ?_ ?_ ?_ ?_ | exact Nat.le_refl _ | exact Nat.le_add_right _ _ | (intro))

theorem State.readExtent_keeps {r0 : State} {s : State} (c : Cmd) (x : Extent) (hk : Keeps r0 s)  :
    Keeps r0 (State.readExtent s c x).1 := by
  unfold State.readExtent
  with_reducible repeat' (first
    | assumption | apply State.readRows_keeps | apply State.chargeRead_keeps | refine keeps_ite_fst ?_ ?_)

theorem State.readExtents_keeps {r0 : State} {s : State} (c : Cmd) (y0 : List Extent) (hk : Keeps r0 s)  :
    Keeps r0 (State.readExtents s c y0).1 := by
  induction y0 generalizing s c with
  | nil =>
    unfold State.readExtents
    with_reducible repeat' assumption
  | cons a rest ih =>
    unfold State.readExtents
    with_reducible repeat' (first | assumption | apply ih | apply State.readExtent_keeps | refine keeps_ite_fst ?_ ?_)

theorem State.runDigest_keeps {r0 : State} {s : State} (c : Cmd) (hk : Keeps r0 s)  :
    Keeps r0 (State.runDigest s c) := by
  unfold State.runDigest
  with_reducible repeat' (first
    | assumption | apply State.record_keeps | apply State.finish_keeps | apply State.chargeRead_keeps
    | apply State.readExtents_keeps | apply State.modCmd_keeps | refine keeps_ite ?_ ?_ | refine keeps_ite_fst ?_ ?_
    | refine keeps_fst (by assumption) ?_ | refine keeps_mk ?_ ?_ ?_ ?_)

theorem execDigest_keeps {r0 : State} (uid : Nat) (beats : Nat) {s : State} (hk : Keeps r0 s)  :
    ∀ t, execDigest uid beats s = .next t → Keeps r0 t := by
  unfold execDigest
  refine keeps_next ?_
  with_reducible repeat' (first
    | assumption | apply State.chargeCmd_keeps | apply State.finish_keeps | apply State.runDigest_keeps | split
    | (extract_lets))

theorem State.clearNdc_keeps {r0 : State} {s : State} (job : Nat) (hk : Keeps r0 s)  :
    Keeps r0 (State.clearNdc s job) := by
  unfold State.clearNdc
  with_reducible repeat' (first | assumption | apply State.set_keeps)

theorem execNdcClear_keeps {r0 : State} (job : Nat) {s : State} (hk : Keeps r0 s)  :
    ∀ t, execNdcClear job s = .next t → Keeps r0 t := by
  unfold execNdcClear
  refine keeps_next ?_
  with_reducible repeat' (first
    | assumption | apply State.host_keeps | apply State.clearNdc_keeps | (extract_lets) | (intro))

end Sys2Proof.Machine
end

