-- ==== Sys2Proof/Laws/KeepsAdmit.lean ====
section
/-! SUPPORT. Keeps for the operations of Machine/Admit.lean. -/

namespace Sys2Proof.Machine

theorem State.addCmd_keeps {r0 : State} {s : State} (c : Cmd) (hk : Keeps r0 s)  :
    Keeps r0 (State.addCmd s c) := by
  unfold State.addCmd
  with_reducible repeat' (first
    | assumption | (extract_lets) | refine keeps_mk ?_ ?_ ?_ ?_ | exact Nat.le_refl _ | exact Nat.le_add_right _ _)

end Sys2Proof.Machine
end

