-- ==== Sys2Proof/Laws/KeepsComplete.lean ====
section
/-! SUPPORT. Keeps for the operations of Machine/Complete.lean. -/

namespace Sys2Proof.Machine

theorem State.coreStatus_keeps {r0 : State} {s : State} (k : Nat) (q : Nat) (job : Nat) (status : Nat) (hk : Keeps r0 s)  :
    Keeps r0 (State.coreStatus s k q job status) := by
  unfold State.coreStatus
  with_reducible repeat' (first
    | assumption | apply State.putCore_keeps | refine keeps_ite ?_ ?_ | (extract_lets) | refine keeps_mk ?_ ?_ ?_ ?_
    | exact Nat.le_refl _)

theorem State.report_keeps {r0 : State} {s : State} (c : Cmd) (status : Nat) (result : Nat) (hk : Keeps r0 s)  :
    Keeps r0 (State.report s c status result) := by
  unfold State.report
  with_reducible repeat' (first
    | assumption | apply State.coreStatus_keeps | refine keeps_ite ?_ ?_ | split | (extract_lets)
    | refine keeps_mk ?_ ?_ ?_ ?_ | exact Nat.le_refl _)

theorem State.raiseFault_keeps {r0 : State} {s : State} (c : Cmd) (status : Nat) (hk : Keeps r0 s)  :
    Keeps r0 (State.raiseFault s c status) := by
  unfold State.raiseFault
  with_reducible repeat' (first
    | assumption | apply State.jobFault_keeps | apply State.settle_keeps | refine keeps_ite ?_ ?_
    | refine keeps_ite_fst ?_ ?_ | refine keeps_fst (by assumption) ?_ | exact Nat.le_refl _)

theorem State.endJob_keeps {r0 : State} {s : State} (c : Cmd) (hk : Keeps r0 s)  :
    Keeps r0 (State.endJob s c) := by
  unfold State.endJob
  with_reducible repeat' (first
    | assumption | apply State.dropRanges_keeps | apply State.drainWindows_keeps | refine keeps_ite ?_ ?_)

theorem State.settleCut_keeps {r0 : State} {s : State} (c : Cmd) (hk : Keeps r0 s)  :
    Keeps r0 (State.settleCut s c).1 := by
  unfold State.settleCut
  with_reducible repeat' (first
    | assumption | apply State.cutWork_keeps | refine keeps_ite ?_ ?_ | refine keeps_ite_fst ?_ ?_
    | refine keeps_fst (by assumption) ?_ | split | (extract_lets) | refine keeps_mk ?_ ?_ ?_ ?_ | exact Nat.le_refl _
    | exact Nat.le_add_right _ _ | (intro))

theorem State.complete_keeps {r0 : State} {s : State} (c : Cmd) (hk : Keeps r0 s)  :
    Keeps r0 (State.complete s c) := by
  unfold State.complete
  with_reducible repeat' (first
    | assumption | apply State.settleCut_keeps | apply State.attnWrite_keeps | apply State.record_keeps
    | apply State.tileDone_keeps | apply State.freeBankOf_keeps | apply State.dropCmd_keeps | apply State.doIf_keeps
    | apply State.set_keeps | apply State.report_keeps | apply Written.report_keeps | apply State.signal_keeps
    | apply State.raiseFault_keeps | apply State.endJob_keeps | apply State.kvSweep_keeps
    | apply State.fillQueues_keeps | refine keeps_ite ?_ ?_ | refine keeps_ite_fst ?_ ?_
    | refine keeps_fst (by assumption) ?_ | split | (extract_lets) | refine keeps_mk ?_ ?_ ?_ ?_ | exact Nat.le_refl _
    | exact Nat.le_add_right _ _ | (intro))

theorem execCommandComplete_keeps {r0 : State} (uid : Nat) {s : State} (hk : Keeps r0 s)  :
    ∀ t, execCommandComplete uid s = .next t → Keeps r0 t := by
  unfold execCommandComplete
  refine keeps_next ?_
  with_reducible repeat' (first | assumption | apply State.complete_keeps | refine keeps_ite ?_ ?_ | split)

theorem execWait_keeps {r0 : State} (uid : Nat) {s : State} (hk : Keeps r0 s)  :
    ∀ t, execWait uid s = .next t → Keeps r0 t := by
  unfold execWait
  refine keeps_next ?_
  with_reducible repeat' (first
    | assumption | apply State.finish_keeps | apply State.modCmd_keeps | apply State.register_keeps
    | apply State.settle_keeps | refine keeps_ite ?_ ?_ | split)

theorem execWaitDeadline_keeps {r0 : State} (uid : Nat) {s : State} (hk : Keeps r0 s)  :
    ∀ t, execWaitDeadline uid s = .next t → Keeps r0 t := by
  unfold execWaitDeadline
  refine keeps_next ?_
  with_reducible repeat' (first
    | assumption | apply State.withdraw_keeps | apply State.finish_keeps | refine keeps_ite ?_ ?_ | split)

theorem execSignal_keeps {r0 : State} (uid : Nat) {s : State} (hk : Keeps r0 s)  :
    ∀ t, execSignal uid s = .next t → Keeps r0 t := by
  unfold execSignal
  refine keeps_next ?_
  with_reducible repeat' (first | assumption | apply State.signal_keeps | apply State.finish_keeps | split)

theorem execFenceDescriptor_keeps {r0 : State} (uid : Nat) {s : State} (hk : Keeps r0 s)  :
    ∀ t, execFenceDescriptor uid s = .next t → Keeps r0 t := by
  unfold execFenceDescriptor
  refine keeps_next ?_
  with_reducible repeat' (first | assumption | apply State.finish_keeps | refine keeps_ite ?_ ?_ | split)

theorem State.cmdWaitLate_keeps {r0 : State} {s : State} (c : Cmd) (hk : Keeps r0 s)  :
    Keeps r0 (State.cmdWaitLate s c) := by
  unfold State.cmdWaitLate
  with_reducible repeat' (first
    | assumption | apply State.lateWait_keeps | refine keeps_ite ?_ ?_ | refine keeps_ite_fst ?_ ?_
    | refine keeps_fst (by assumption) ?_ | split | (extract_lets) | refine keeps_mk ?_ ?_ ?_ ?_ | exact Nat.le_refl _
    | exact Nat.le_add_right _ _ | (intro))

theorem State.coreWaitLate_keeps {r0 : State} {s : State} (k : Nat) (q : Nat) (hk : Keeps r0 s)  :
    Keeps r0 (State.coreWaitLate s k q) := by
  unfold State.coreWaitLate
  with_reducible repeat' (first
    | assumption | apply State.putCore_keeps | apply State.lateWait_keeps | refine keeps_ite ?_ ?_
    | refine keeps_ite_fst ?_ ?_ | refine keeps_fst (by assumption) ?_ | split | (extract_lets)
    | refine keeps_mk ?_ ?_ ?_ ?_ | exact Nat.le_refl _ | exact Nat.le_add_right _ _ | (intro))

theorem execTokenWaitRegister_keeps {r0 : State} (waiter : Wait) {s : State} (hk : Keeps r0 s)  :
    ∀ t, execTokenWaitRegister waiter s = .next t → Keeps r0 t := by
  unfold execTokenWaitRegister
  refine keeps_next ?_
  with_reducible repeat' (first
    | assumption | apply State.settle_keeps | apply State.cmdWaitLate_keeps | apply State.modCmd_keeps
    | apply State.register_keeps | apply State.coreWaitLate_keeps | apply State.putCore_keeps | refine keeps_ite ?_ ?_
    | refine keeps_ite_fst ?_ ?_ | refine keeps_fst (by assumption) ?_ | split | (extract_lets)
    | refine keeps_mk ?_ ?_ ?_ ?_ | exact Nat.le_refl _ | exact Nat.le_add_right _ _ | (intro))

theorem execTokenSignalArrive_keeps {r0 : State} (token : Nat) {s : State} (hk : Keeps r0 s)  :
    ∀ t, execTokenSignalArrive token s = .next t → Keeps r0 t := by
  unfold execTokenSignalArrive
  refine keeps_next ?_
  with_reducible repeat' (first
    | assumption | apply State.arrive_keeps | apply State.settle_keeps | split | (extract_lets)
    | refine keeps_mk ?_ ?_ ?_ ?_ | exact Nat.le_refl _)

theorem State.armToken_keeps {r0 : State} {s : State} (id : Nat) (job : Nat) (count : Nat) (target : Nat) (level : Bool) (hk : Keeps r0 s)  :
    Keeps r0 (State.armToken s id job count target level) := by
  unfold State.armToken
  with_reducible repeat' (first | assumption | apply State.putToken_keeps | apply State.serve_keeps)

theorem State.tokenRefused_keeps {r0 : State} {s : State} (skein : Nat) (hk : Keeps r0 s)  :
    Keeps r0 (State.tokenRefused s skein) := by
  unfold State.tokenRefused
  with_reducible repeat' (first | assumption | apply State.raise_keeps)

theorem State.assignToken_keeps {r0 : State} {s : State} (skein : Nat) (index : Nat) (job : Nat) (count : Nat) (target : Nat) (level : Bool) (hk : Keeps r0 s)  :
    Keeps r0 (State.assignToken s skein index job count target level) := by
  unfold State.assignToken
  with_reducible repeat' (first
    | assumption | apply State.tokenRefused_keeps | apply State.armToken_keeps | refine keeps_ite ?_ ?_)

theorem State.releaseToken_keeps {r0 : State} {s : State} (skein : Nat) (index : Nat) (hk : Keeps r0 s)  :
    Keeps r0 (State.releaseToken s skein index) := by
  unfold State.releaseToken
  with_reducible repeat' (first
    | assumption | apply State.putToken_keeps | apply State.tokenRefused_keeps | refine keeps_ite ?_ ?_ | split
    | (extract_lets))

theorem State.releaseJob_keeps {r0 : State} {s : State} (job : Nat) (hk : Keeps r0 s)  :
    Keeps r0 (State.releaseJob s job) := by
  unfold State.releaseJob
  with_reducible repeat' (first
    | assumption | apply State.forEach_keeps | apply State.putToken_keeps | apply State.raise_keeps
    | refine keeps_ite ?_ ?_ | (extract_lets) | (intro))

theorem execTokenAssign_keeps {r0 : State} (skein : Nat) (index : Nat) (job : Nat) (count : Nat) (target : Nat) (level : Bool) {s : State} (hk : Keeps r0 s)  :
    ∀ t, execTokenAssign skein index job count target level s = .next t → Keeps r0 t := by
  unfold execTokenAssign
  refine keeps_next ?_
  with_reducible repeat' (first
    | assumption | apply State.host_keeps | apply State.assignToken_keeps | apply State.settle_keeps | (extract_lets)
    | (intro))

theorem execTokenRelease_keeps {r0 : State} (skein : Nat) (index : Nat) {s : State} (hk : Keeps r0 s)  :
    ∀ t, execTokenRelease skein index s = .next t → Keeps r0 t := by
  unfold execTokenRelease
  refine keeps_next ?_
  with_reducible repeat' (first
    | assumption | apply State.host_keeps | apply State.releaseToken_keeps | (extract_lets) | (intro))

theorem execReleaseTokens_keeps {r0 : State} (job : Nat) {s : State} (hk : Keeps r0 s)  :
    ∀ t, execReleaseTokens job s = .next t → Keeps r0 t := by
  unfold execReleaseTokens
  refine keeps_next ?_
  with_reducible repeat' (first
    | assumption | apply State.host_keeps | apply State.releaseJob_keeps | (extract_lets) | (intro))

theorem execSteal_keeps {r0 : State} (uid : Nat) (thief : Nat) {s : State} (hk : Keeps r0 s)  :
    ∀ t, execSteal uid thief s = .next t → Keeps r0 t := by
  unfold execSteal
  refine keeps_next ?_
  with_reducible repeat' (first
    | assumption | apply State.count_keeps | apply State.ndc_keeps | apply State.begin_keeps
    | apply State.noteJob_keeps | apply State.fillQueues_keeps | refine keeps_ite ?_ ?_ | split)

theorem execStealCopyBackEnd_keeps {r0 : State} (uid : Nat) {s : State} (hk : Keeps r0 s)  :
    ∀ t, execStealCopyBackEnd uid s = .next t → Keeps r0 t := by
  unfold execStealCopyBackEnd
  refine keeps_next ?_
  with_reducible repeat' (first
    | assumption | apply State.readRows_keeps | apply State.finish_keeps | apply State.writeRows_keeps
    | apply State.meetRows_keeps | apply State.modCmd_keeps | refine keeps_ite ?_ ?_ | refine keeps_ite_fst ?_ ?_
    | refine keeps_fst (by assumption) ?_ | split | (extract_lets) | refine keeps_mk ?_ ?_ ?_ ?_ | exact Nat.le_refl _
    | exact Nat.le_add_right _ _ | (intro))

end Sys2Proof.Machine
end

