-- ==== Sys2Proof/Laws/KeepsPort.lean ====
section
/-! SUPPORT. Keeps for the operations of Machine/Port.lean. -/

namespace Sys2Proof.Machine

theorem State.endReq_keeps {r0 : State} {s : State} (r : Req) (status : Nat) (hk : Keeps r0 s)  :
    Keeps r0 (State.endReq s r status) := by
  unfold State.endReq
  with_reducible repeat' (first | assumption | apply State.moveRefused_keeps | apply State.jobFault_keeps | split)

theorem State.noteParcels_keeps {r0 : State} {s : State} (hk : Keeps r0 s)  :
    Keeps r0 (State.noteParcels s) := by
  unfold State.noteParcels
  with_reducible repeat' (first
    | assumption | refine keeps_ite ?_ ?_ | refine keeps_ite_fst ?_ ?_ | refine keeps_fst (by assumption) ?_ | split
    | (extract_lets) | refine keeps_mk ?_ ?_ ?_ ?_ | exact Nat.le_refl _ | exact Nat.le_add_right _ _ | (intro))

theorem State.dropHeld_keeps {r0 : State} {s : State} (p : Nat) (h : Held) (hk : Keeps r0 s)  :
    Keeps r0 (State.dropHeld s p h) := by
  unfold State.dropHeld
  with_reducible repeat' (first
    | assumption | apply State.raiseIwl_keeps | apply State.jobFault_keeps | apply State.route_keeps
    | refine keeps_ite ?_ ?_ | split)

theorem State.emptyPort_keeps {r0 : State} {s : State} (p : Nat) (state : Nat) (hk : Keeps r0 s)  :
    Keeps r0 (State.emptyPort s p state) := by
  unfold State.emptyPort
  with_reducible repeat' (first | assumption | apply State.putPort_keeps | apply State.set_keeps)

theorem State.forgetSent_keeps {r0 : State} {s : State} (p : Nat) (hk : Keeps r0 s)  :
    Keeps r0 (State.forgetSent s p) := by
  unfold State.forgetSent
  with_reducible repeat' (first | assumption | (extract_lets) | refine keeps_mk ?_ ?_ ?_ ?_ | exact Nat.le_refl _)

theorem State.portLost_keeps {r0 : State} {s : State} (p : Nat) (state : Nat) (hk : Keeps r0 s)  :
    Keeps r0 (State.portLost s p state) := by
  unfold State.portLost
  with_reducible repeat' (first
    | assumption | apply State.emptyPort_keeps | apply State.raiseIwl_keeps | apply State.forgetSent_keeps
    | apply State.forEach_keeps | apply State.dropReq_keeps | apply State.endReq_keeps | apply State.dropHeld_keeps
    | apply State.route_keeps | apply State.settle_keeps | refine keeps_ite ?_ ?_ | refine keeps_ite_fst ?_ ?_
    | refine keeps_fst (by assumption) ?_ | split | (extract_lets) | refine keeps_mk ?_ ?_ ?_ ?_ | exact Nat.le_refl _
    | exact Nat.le_add_right _ _ | (intro))

theorem State.portOn_keeps {r0 : State} {s : State} (p : Nat) (hk : Keeps r0 s)  :
    Keeps r0 (State.portOn s p) := by
  unfold State.portOn
  with_reducible repeat' (first
    | assumption | apply State.set_keeps | apply State.emptyPort_keeps | refine keeps_ite ?_ ?_)

theorem State.portOff_keeps {r0 : State} {s : State} (p : Nat) (hk : Keeps r0 s)  :
    Keeps r0 (State.portOff s p) := by
  unfold State.portOff
  with_reducible repeat' (first
    | assumption | apply State.set_keeps | apply State.portLost_keeps | apply State.emptyPort_keeps
    | refine keeps_ite ?_ ?_)

theorem execPortEnable_keeps {r0 : State} (port : Nat) {s : State} (hk : Keeps r0 s)  :
    ∀ t, execPortEnable port s = .next t → Keeps r0 t := by
  unfold execPortEnable
  refine keeps_next ?_
  with_reducible repeat' (first | assumption | apply State.host_keeps | apply State.portOn_keeps | split | (intro))

theorem execPortDisable_keeps {r0 : State} (port : Nat) {s : State} (hk : Keeps r0 s)  :
    ∀ t, execPortDisable port s = .next t → Keeps r0 t := by
  unfold execPortDisable
  refine keeps_next ?_
  with_reducible repeat' (first | assumption | apply State.host_keeps | apply State.portOff_keeps | split | (intro))

theorem execPortTrained_keeps {r0 : State} (port : Nat) (lanes : Nat) (fec : Bool) (neighbour : Nat) {s : State} (hk : Keeps r0 s)  :
    ∀ t, execPortTrained port lanes fec neighbour s = .next t → Keeps r0 t := by
  unfold execPortTrained
  refine keeps_next ?_
  with_reducible repeat' (first
    | assumption | apply State.set_keeps | apply State.putPort_keeps | apply State.raiseIwl_keeps
    | refine keeps_ite ?_ ?_)

theorem execLinkDown_keeps {r0 : State} (port : Nat) {s : State} (hk : Keeps r0 s)  :
    ∀ t, execLinkDown port s = .next t → Keeps r0 t := by
  unfold execLinkDown
  refine keeps_next ?_
  with_reducible repeat' (first | assumption | apply State.portLost_keeps | refine keeps_ite ?_ ?_)

theorem State.consume_keeps {r0 : State} {s : State} (p : Nat) (vc : Nat) (tx : List Byte) (hk : Keeps r0 s)  :
    Keeps r0 (State.consume s p vc tx) := by
  unfold State.consume
  with_reducible repeat' (first
    | assumption | apply State.modPort_keeps | apply State.pump_keeps | refine keeps_ite ?_ ?_ | (extract_lets)
    | refine keeps_mk ?_ ?_ ?_ ?_ | exact Nat.le_refl _)

theorem State.noteTransit_keeps {r0 : State} {s : State} (tx : List Byte) (hk : Keeps r0 s)  :
    Keeps r0 (State.noteTransit s tx) := by
  unfold State.noteTransit
  with_reducible repeat' (first
    | assumption | refine keeps_ite ?_ ?_ | refine keeps_ite_fst ?_ ?_ | refine keeps_fst (by assumption) ?_ | split
    | (extract_lets) | refine keeps_mk ?_ ?_ ?_ ?_ | exact Nat.le_refl _ | exact Nat.le_add_right _ _ | (intro))

theorem State.passOn_keeps {r0 : State} {s : State} (p : Nat) (vc : Nat) (y0 : Nat) (hk : Keeps r0 s)  :
    Keeps r0 (State.passOn s p vc y0) := by
  induction y0 generalizing s p vc with
  | zero =>
    unfold State.passOn
    with_reducible repeat' (first
      | assumption | apply State.consume_keeps | apply State.noteTransit_keeps | apply State.route_keeps
      | refine keeps_ite ?_ ?_ | refine keeps_ite_fst ?_ ?_ | refine keeps_fst (by assumption) ?_ | split
      | (extract_lets) | refine keeps_mk ?_ ?_ ?_ ?_ | exact Nat.le_refl _ | exact Nat.le_add_right _ _ | (intro))
  | succ fuel ih =>
    unfold State.passOn
    with_reducible repeat' (first
      | assumption | apply ih | apply State.consume_keeps | apply State.noteTransit_keeps | apply State.route_keeps
      | refine keeps_ite ?_ ?_ | refine keeps_ite_fst ?_ ?_ | refine keeps_fst (by assumption) ?_ | split
      | (extract_lets) | refine keeps_mk ?_ ?_ ?_ ?_ | exact Nat.le_refl _ | exact Nat.le_add_right _ _ | (intro))

theorem State.takeTx_keeps {r0 : State} {s : State} (p : Nat) (vc : Nat) (tt : Nat) (hk : Keeps r0 s)  :
    ∀ x, State.takeTx s p vc tt = some x → Keeps r0 x.2 := by
  unfold State.takeTx
  with_reducible repeat' (first
    | exact keeps_none | refine keeps_some ?_ | refine keeps_ite_opt ?_ ?_ | assumption | apply State.consume_keeps
    | apply State.passOn_keeps | refine keeps_ite ?_ ?_ | split)

theorem State.nak_keeps {r0 : State} {s : State} (p : Nat) (hk : Keeps r0 s)  :
    Keeps r0 (State.nak s p) := by
  unfold State.nak
  with_reducible repeat' (first | assumption | apply State.modPort_keeps)

theorem State.flitControl_keeps {r0 : State} {s : State} (p : Nat) (b : List Byte) (hk : Keeps r0 s)  :
    Keeps r0 (State.flitControl s p b) := by
  unfold State.flitControl
  with_reducible repeat' (first | assumption | apply State.accum_keeps | apply State.modPort_keeps)

theorem State.fecCounts_keeps {r0 : State} {s : State} (p : Nat) (corrected : Nat) (failed : Bool) (hk : Keeps r0 s)  :
    Keeps r0 (State.fecCounts s p corrected failed) := by
  unfold State.fecCounts
  with_reducible repeat' (first
    | assumption | apply State.putPort_keeps | apply State.count_keeps | apply State.modPort_keeps
    | refine keeps_ite ?_ ?_ | split | (extract_lets))

theorem State.flitArrives_keeps {r0 : State} {s : State} (p : Nat) (b : List Byte) (corrected : Nat) (failed : Bool) (type : Nat) (f : State → State) (hk : Keeps r0 s) (hf : ∀ (t : State), Keeps r0 t → Keeps r0 (f t)) :
    Keeps r0 (State.flitArrives s p b corrected failed type f) := by
  unfold State.flitArrives
  with_reducible repeat' (first
    | assumption | apply hf | apply State.fecCounts_keeps | apply State.count_keeps | apply State.nak_keeps
    | apply State.pump_keeps | refine keeps_ite ?_ ?_)

theorem State.acceptData_keeps {r0 : State} {s : State} (p : Nat) (flit : List Byte) (hk : Keeps r0 s)  :
    Keeps r0 (State.acceptData s p flit) := by
  unfold State.acceptData
  with_reducible repeat' (first | assumption | apply State.modPort_keeps)

theorem execDataFlit_keeps {r0 : State} (port : Nat) (flit : List Byte) (corrected : Nat) (failed : Bool) {s : State} (hk : Keeps r0 s)  :
    ∀ t, execDataFlit port flit corrected failed s = .next t → Keeps r0 t := by
  unfold execDataFlit
  refine keeps_next ?_
  with_reducible repeat' (first
    | assumption | apply State.flitArrives_keeps | apply State.nak_keeps | apply State.flitControl_keeps
    | apply State.acceptData_keeps | apply State.passOn_keeps | apply State.noteParcels_keeps | refine keeps_ite ?_ ?_
    | refine keeps_ite_fst ?_ ?_ | refine keeps_fst (by assumption) ?_ | split | (extract_lets)
    | refine keeps_mk ?_ ?_ ?_ ?_ | exact Nat.le_refl _ | exact Nat.le_add_right _ _ | (intro))

theorem execIdleFlit_keeps {r0 : State} (port : Nat) (flit : List Byte) (corrected : Nat) (failed : Bool) {s : State} (hk : Keeps r0 s)  :
    ∀ t, execIdleFlit port flit corrected failed s = .next t → Keeps r0 t := by
  unfold execIdleFlit
  refine keeps_next ?_
  with_reducible repeat' (first
    | assumption | apply State.flitArrives_keeps | apply State.flitControl_keeps | (extract_lets) | (intro))

theorem State.replay_keeps {r0 : State} {s : State} (p : Nat) (hk : Keeps r0 s)  :
    Keeps r0 (State.replay s p) := by
  unfold State.replay
  with_reducible repeat' (first
    | assumption | apply State.raiseIwl_keeps | apply State.portLost_keeps | apply State.putPort_keeps
    | apply State.count_keeps | apply State.forEach_keeps | apply State.sendData_keeps | refine keeps_ite ?_ ?_
    | (extract_lets) | (intro))

theorem execNakFlit_keeps {r0 : State} (port : Nat) (flit : List Byte) (corrected : Nat) (failed : Bool) {s : State} (hk : Keeps r0 s)  :
    ∀ t, execNakFlit port flit corrected failed s = .next t → Keeps r0 t := by
  unfold execNakFlit
  refine keeps_next ?_
  with_reducible repeat' (first
    | assumption | apply State.flitArrives_keeps | apply State.flitControl_keeps | apply State.replay_keeps | split
    | (extract_lets) | (intro))

theorem execReplayTimeout_keeps {r0 : State} (port : Nat) {s : State} (hk : Keeps r0 s)  :
    ∀ t, execReplayTimeout port s = .next t → Keeps r0 t := by
  unfold execReplayTimeout
  refine keeps_next ?_
  with_reducible repeat' (first | assumption | apply State.replay_keeps | refine keeps_ite ?_ ?_)

theorem execSyncSend_keeps {r0 : State} (port : Nat) {s : State} (hk : Keeps r0 s)  :
    ∀ t, execSyncSend port s = .next t → Keeps r0 t := by
  unfold execSyncSend
  refine keeps_next ?_
  with_reducible repeat' (first
    | assumption | apply State.putPort_keeps | apply State.chargeBody_keeps | refine keeps_ite ?_ ?_)

theorem State.servo_keeps {r0 : State} {s : State} (offset : Int) (hk : Keeps r0 s)  :
    Keeps r0 (State.servo s offset) := by
  unfold State.servo
  with_reducible repeat' (first
    | assumption | apply State.set_keeps | apply State.setBit_keeps | apply State.stepRefused_keeps
    | apply State.raiseIwl_keeps | refine keeps_getD (State.stepBy_keeps _ ?_) ?_ | refine keeps_ite ?_ ?_ | split
    | (extract_lets) | refine keeps_mk ?_ ?_ ?_ ?_ | exact Nat.le_refl _ | exact Nat.le_add_right _ _)

theorem execSyncFlit_keeps {r0 : State} (port : Nat) (flit : List Byte) (corrected : Nat) (failed : Bool) {s : State} (hk : Keeps r0 s)  :
    ∀ t, execSyncFlit port flit corrected failed s = .next t → Keeps r0 t := by
  unfold execSyncFlit
  refine keeps_next ?_
  with_reducible repeat' (first
    | assumption | apply State.flitArrives_keeps | apply State.flitControl_keeps | apply State.modPort_keeps
    | apply State.doIf_keeps | apply State.set_keeps | apply State.servo_keeps | split | (extract_lets) | (intro))

theorem execTsLost_keeps {r0 : State} {s : State} (hk : Keeps r0 s)  :
    ∀ t, execTsLost s = .next t → Keeps r0 t := by
  unfold execTsLost
  refine keeps_next ?_
  with_reducible repeat' (first
    | assumption | apply State.set_keeps | apply State.raiseIwl_keeps | apply State.timeFault_keeps
    | refine keeps_ite ?_ ?_ | (extract_lets) | refine keeps_mk ?_ ?_ ?_ ?_ | exact Nat.le_refl _)

end Sys2Proof.Machine
end

