-- ==== Sys2Proof/Laws/KeepsIdward.lean ====
section
/-! SUPPORT. Keeps for the operations of Machine/Idward.lean. -/

namespace Sys2Proof.Machine

theorem State.reply_keeps {r0 : State} {s : State} (row : Nat) (tx : List Byte) (tt : Nat) (body : List Byte) (hk : Keeps r0 s)  :
    Keeps r0 (State.reply s row tx tt body) := by
  unfold State.reply
  with_reducible repeat' (first | assumption | apply State.sendTx_keeps)

theorem State.refuse_keeps {r0 : State} {s : State} (tx : List Byte) (reason : Nat) (hk : Keeps r0 s)  :
    Keeps r0 (State.refuse s tx reason) := by
  unfold State.refuse
  with_reducible repeat' (first | assumption | apply State.sendTx_keeps)

theorem State.dropTx_keeps {r0 : State} {s : State} (k : Nat) (tx : List Byte) (reason : Nat) (row : Nat) (hk : Keeps r0 s)  :
    Keeps r0 (State.dropTx s k tx reason row) := by
  unfold State.dropTx
  with_reducible repeat' (first
    | assumption | apply State.dropAccess_keeps | apply State.tamper_keeps | apply State.refuse_keeps
    | refine keeps_ite ?_ ?_)

theorem State.parityOwner_keeps {r0 : State} {s : State} (k : Nat) (row : Nat) (job : Nat) (hk : Keeps r0 s)  :
    Keeps r0 (State.parityOwner s k row job) := by
  unfold State.parityOwner
  with_reducible repeat' (first
    | assumption | apply State.parityReport_keeps | apply State.jobFault_keeps | apply State.settle_keeps)

theorem State.portCheck_keeps {r0 : State} {s : State} (port : Nat) (hk : Keeps r0 s)  :
    Keeps r0 (State.portCheck s port).1 := by
  unfold State.portCheck
  with_reducible repeat' (first
    | assumption | refine keeps_ite ?_ ?_ | refine keeps_ite_fst ?_ ?_ | refine keeps_fst (by assumption) ?_ | split
    | (extract_lets) | refine keeps_mk ?_ ?_ ?_ ?_ | exact Nat.le_refl _ | exact Nat.le_add_right _ _ | (intro))

theorem execRowWrite_keeps {r0 : State} (port : Nat) (vc : Nat) {s : State} (hk : Keeps r0 s)  :
    ∀ t, execRowWrite port vc s = .next t → Keeps r0 t := by
  unfold execRowWrite
  refine keeps_next ?_
  with_reducible repeat' (first
    | assumption | apply State.dropTx_keeps | apply State.portCheck_keeps | apply State.parityOwner_keeps
    | apply State.accessRow_keeps | apply State.writeRow_keeps | apply State.reply_keeps
    | refine keeps_opt_snd (by assumption) (State.takeTx_keeps _ _ _ ?_) | refine keeps_ite ?_ ?_
    | refine keeps_ite_fst ?_ ?_ | refine keeps_fst (by assumption) ?_ | split | (extract_lets)
    | refine keeps_mk ?_ ?_ ?_ ?_ | exact Nat.le_refl _ | exact Nat.le_add_right _ _ | (intro))

theorem execRowRead_keeps {r0 : State} (port : Nat) (vc : Nat) {s : State} (hk : Keeps r0 s)  :
    ∀ t, execRowRead port vc s = .next t → Keeps r0 t := by
  unfold execRowRead
  refine keeps_next ?_
  with_reducible repeat' (first
    | assumption | apply State.dropTx_keeps | apply State.portCheck_keeps | apply State.pathMet_keeps
    | apply State.parityOwner_keeps | apply State.accessRow_keeps | apply State.reply_keeps
    | refine keeps_opt_snd (by assumption) (State.takeTx_keeps _ _ _ ?_) | refine keeps_ite ?_ ?_
    | refine keeps_ite_fst ?_ ?_ | refine keeps_fst (by assumption) ?_ | split | (extract_lets)
    | refine keeps_mk ?_ ?_ ?_ ?_ | exact Nat.le_refl _ | exact Nat.le_add_right _ _ | (intro))

theorem execTokenSignal_keeps {r0 : State} (port : Nat) (vc : Nat) {s : State} (hk : Keeps r0 s)  :
    ∀ t, execTokenSignal port vc s = .next t → Keeps r0 t := by
  unfold execTokenSignal
  refine keeps_next ?_
  with_reducible repeat' (first
    | assumption | apply State.dropTx_keeps | apply State.arrive_keeps | apply State.reply_keeps
    | refine keeps_opt_snd (by assumption) (State.takeTx_keeps _ _ _ ?_) | split | (extract_lets))

theorem State.sendBarrier_keeps {r0 : State} {s : State} (row : Nat) (job : Option Nat) (dst : Nat) (arg : Nat) (n : Nat) (gen : Nat) (hk : Keeps r0 s)  :
    Keeps r0 (State.sendBarrier s row job dst arg n gen) := by
  unfold State.sendBarrier
  with_reducible repeat' (first | assumption | apply State.route_keeps)

theorem State.releaseBarrier_keeps {r0 : State} {s : State} (n : Nat) (y0 : Nat) (hk : Keeps r0 s)  :
    Keeps r0 (State.releaseBarrier s n y0) := by
  induction y0 generalizing s n with
  | zero =>
    unfold State.releaseBarrier
    with_reducible repeat' assumption
  | succ fuel ih =>
    unfold State.releaseBarrier
    with_reducible repeat' (first
      | assumption | apply ih | apply State.forEach_keeps | apply State.sendBarrier_keeps | refine keeps_ite ?_ ?_
      | (extract_lets) | refine keeps_mk ?_ ?_ ?_ ?_ | exact Nat.le_refl _ | (intro))

theorem execBarrierArrive_keeps {r0 : State} (port : Nat) (vc : Nat) {s : State} (hk : Keeps r0 s)  :
    ∀ t, execBarrierArrive port vc s = .next t → Keeps r0 t := by
  unfold execBarrierArrive
  refine keeps_next ?_
  with_reducible repeat' (first
    | assumption | apply State.releaseBarrier_keeps
    | refine keeps_opt_snd (by assumption) (State.takeTx_keeps _ _ _ ?_) | refine keeps_ite ?_ ?_ | split
    | (extract_lets) | refine keeps_mk ?_ ?_ ?_ ?_ | exact Nat.le_refl _)

theorem execBarrierRelease_keeps {r0 : State} (port : Nat) (vc : Nat) {s : State} (hk : Keeps r0 s)  :
    ∀ t, execBarrierRelease port vc s = .next t → Keeps r0 t := by
  unfold execBarrierRelease
  refine keeps_next ?_
  with_reducible repeat' (first
    | assumption | apply State.signal_keeps | refine keeps_opt_snd (by assumption) (State.takeTx_keeps _ _ _ ?_)
    | refine keeps_ite ?_ ?_ | split | (extract_lets) | refine keeps_mk ?_ ?_ ?_ ?_ | exact Nat.le_refl _)

theorem State.putInbox_keeps {r0 : State} {s : State} (n : Nat) (x : Inbox) (hk : Keeps r0 s)  :
    Keeps r0 (State.putInbox s n x) := by
  unfold State.putInbox
  with_reducible repeat' (first | assumption | (extract_lets) | refine keeps_mk ?_ ?_ ?_ ?_ | exact Nat.le_refl _)

theorem State.landSlot_keeps {r0 : State} {s : State} (n : Nat) (tag : Nat) (row : List Byte) (hk : Keeps r0 s)  :
    Keeps r0 (State.landSlot s n tag row) := by
  unfold State.landSlot
  with_reducible repeat' (first
    | assumption | apply State.accessRow_keeps | apply State.writeRow_keeps | apply State.putInbox_keeps
    | apply State.set_keeps | refine keeps_ite ?_ ?_ | refine keeps_ite_fst ?_ ?_
    | refine keeps_fst (by assumption) ?_ | split | (extract_lets) | refine keeps_mk ?_ ?_ ?_ ?_ | exact Nat.le_refl _
    | exact Nat.le_add_right _ _ | (intro))

theorem State.ovfSync_keeps {r0 : State} {s : State} (n : Nat) (hk : Keeps r0 s)  :
    Keeps r0 (State.ovfSync s n) := by
  unfold State.ovfSync
  with_reducible repeat' (first | assumption | apply State.set_keeps)

theorem State.ovfPut_keeps {r0 : State} {s : State} (n : Nat) (tag : Nat) (expert : Nat) (src : Nat) (row : List Byte) (hk : Keeps r0 s)  :
    Keeps r0 (State.ovfPut s n tag expert src row) := by
  unfold State.ovfPut
  with_reducible repeat' (first
    | assumption | apply State.accum_keeps | apply State.store_keeps | apply State.putInbox_keeps
    | apply State.count_keeps | apply State.ovfSync_keeps)

theorem State.parcelRow_keeps {r0 : State} {s : State} (n : Nat) (tag : Nat) (expert : Nat) (src : Nat) (row : List Byte) (hk : Keeps r0 s)  :
    Keeps r0 (State.parcelRow s n tag expert src row) := by
  unfold State.parcelRow
  with_reducible repeat' (first
    | assumption | apply State.landSlot_keeps | apply State.ovfPut_keeps | refine keeps_ite ?_ ?_)

theorem State.signalInbox_keeps {r0 : State} {s : State} (n : Nat) (rows : Nat) (hk : Keeps r0 s)  :
    Keeps r0 (State.signalInbox s n rows) := by
  unfold State.signalInbox
  with_reducible repeat' (first | assumption | apply State.signal_keeps | refine keeps_ite ?_ ?_)

theorem State.drainOvf_keeps {r0 : State} {s : State} (n : Nat) (y0 : Nat) (hk : Keeps r0 s)  :
    Keeps r0 (State.drainOvf s n y0) := by
  induction y0 generalizing s n with
  | zero =>
    unfold State.drainOvf
    with_reducible repeat' assumption
  | succ fuel ih =>
    unfold State.drainOvf
    with_reducible repeat' (first
      | assumption | apply ih | apply State.accum_keeps | apply State.landSlot_keeps | apply State.putInbox_keeps
      | apply State.ovfSync_keeps | refine keeps_ite ?_ ?_)

theorem State.releaseSlots_keeps {r0 : State} {s : State} (n : Nat) (k : Nat) (hk : Keeps r0 s)  :
    Keeps r0 (State.releaseSlots s n k) := by
  unfold State.releaseSlots
  with_reducible repeat' (first
    | assumption | apply State.set_keeps | apply State.drainOvf_keeps | apply State.signalInbox_keeps)

theorem State.landParcel_keeps {r0 : State} {s : State} (n : Nat) (tx : List Byte) (hk : Keeps r0 s)  :
    Keeps r0 (State.landParcel s n tx) := by
  unfold State.landParcel
  with_reducible repeat' (first
    | assumption | apply State.forEach_keeps | apply State.parcelRow_keeps | apply State.signalInbox_keeps
    | apply State.doIf_keeps | apply State.ndc_keeps | apply State.reply_keeps | (extract_lets) | (intro))

theorem State.blockParcel_keeps {r0 : State} {s : State} (p : Nat) (vc : Nat) (hk : Keeps r0 s)  :
    Keeps r0 (State.blockParcel s p vc) := by
  unfold State.blockParcel
  with_reducible repeat' (first
    | assumption | apply State.modPort_keeps | apply State.raiseIwl_keeps | refine keeps_ite ?_ ?_)

theorem State.parcelAt_keeps {r0 : State} {s : State} (p : Nat) (vc : Nat) (hk : Keeps r0 s)  :
    Keeps r0 (State.parcelAt s p vc) := by
  unfold State.parcelAt
  with_reducible repeat' (first
    | assumption | apply State.refuse_keeps | apply State.dropTx_keeps | apply State.blockParcel_keeps
    | apply State.portCheck_keeps | apply State.parityOwner_keeps | apply State.landParcel_keeps
    | refine keeps_opt_snd (by assumption) (State.takeTx_keeps _ _ _ ?_) | refine keeps_ite ?_ ?_
    | refine keeps_ite_fst ?_ ?_ | refine keeps_fst (by assumption) ?_ | split | (extract_lets)
    | refine keeps_mk ?_ ?_ ?_ ?_ | exact Nat.le_refl _ | exact Nat.le_add_right _ _ | (intro))

theorem execParcel_keeps {r0 : State} (port : Nat) (vc : Nat) {s : State} (hk : Keeps r0 s)  :
    ∀ t, execParcel port vc s = .next t → Keeps r0 t := by
  unfold execParcel
  refine keeps_next ?_
  with_reducible repeat' (first | assumption | apply State.parcelAt_keeps | refine keeps_ite ?_ ?_)

theorem execParcelUnblock_keeps {r0 : State} (port : Nat) (vc : Nat) {s : State} (hk : Keeps r0 s)  :
    ∀ t, execParcelUnblock port vc s = .next t → Keeps r0 t := by
  unfold execParcelUnblock
  refine keeps_next ?_
  with_reducible repeat' (first | assumption | apply State.parcelAt_keeps | refine keeps_ite ?_ ?_)

theorem State.batchAnswered_keeps {r0 : State} {s : State} (id : Nat) (hk : Keeps r0 s)  :
    Keeps r0 (State.batchAnswered s id) := by
  unfold State.batchAnswered
  with_reducible repeat' (first
    | assumption | apply State.signal_keeps | refine keeps_ite ?_ ?_ | split | (extract_lets)
    | refine keeps_mk ?_ ?_ ?_ ?_ | exact Nat.le_refl _)

theorem State.entryRow_keeps {r0 : State} {s : State} (job : Nat) (x : DispEntry) (hk : Keeps r0 s)  :
    Keeps r0 (State.entryRow s job x).1 := by
  unfold State.entryRow
  with_reducible repeat' (first
    | assumption | apply State.accessRow_keeps | apply State.accum_keeps | refine keeps_ite_fst ?_ ?_)

theorem State.entryRows_keeps {r0 : State} {s : State} (job : Nat) (y0 : List DispEntry) (hk : Keeps r0 s)  :
    Keeps r0 (State.entryRows s job y0).1 := by
  induction y0 generalizing s job with
  | nil =>
    unfold State.entryRows
    with_reducible repeat' assumption
  | cons a rest ih =>
    unfold State.entryRows
    with_reducible repeat' (first | assumption | apply ih | apply State.entryRow_keeps | refine keeps_ite_fst ?_ ?_)

theorem State.sendGroup_keeps {r0 : State} {s : State} (disp : Nat) (id : Nat) (g : List DispEntry) (hk : Keeps r0 s)  :
    Keeps r0 (State.sendGroup s disp id g).1 := by
  unfold State.sendGroup
  with_reducible repeat' (first
    | assumption | apply State.entryRows_keeps | apply State.request_keeps | refine keeps_ite ?_ ?_ | split
    | (extract_lets) | refine keeps_mk ?_ ?_ ?_ ?_ | exact Nat.le_refl _)

theorem State.sendGroups_keeps {r0 : State} {s : State} (disp : Nat) (id : Nat) (y0 : List (List DispEntry)) (hk : Keeps r0 s)  :
    Keeps r0 (State.sendGroups s disp id y0).1 := by
  induction y0 generalizing s disp id with
  | nil =>
    unfold State.sendGroups
    with_reducible repeat' assumption
  | cons a rest ih =>
    unfold State.sendGroups
    with_reducible repeat' (first
      | assumption | apply ih | apply State.sendGroup_keeps | refine keeps_fst (by assumption) ?_ | split)

theorem State.dispatch_keeps {r0 : State} {s : State} (disp : Nat) (k : Nat) (hk : Keeps r0 s)  :
    Keeps r0 (State.dispatch s disp k) := by
  unfold State.dispatch
  with_reducible repeat' (first
    | assumption | apply State.set_keeps | apply State.accum_keeps | apply State.sendGroups_keeps
    | apply State.pathMet_keeps | apply State.parityOwner_keeps | apply State.batchAnswered_keeps
    | apply State.jobFault_keeps | apply State.settle_keeps | refine keeps_ite ?_ ?_
    | refine keeps_fst (by assumption) ?_ | split | (extract_lets) | refine keeps_mk ?_ ?_ ?_ ?_
    | exact Nat.le_refl _)

theorem State.relayAct_keeps {r0 : State} {s : State} (r : Relay) (amount : Nat) (hk : Keeps r0 s)  :
    Keeps r0 (State.relayAct s r amount) := by
  unfold State.relayAct
  with_reducible repeat' (first
    | assumption | apply State.request_keeps | apply State.sendBarrier_keeps | apply State.dispatch_keeps
    | apply State.releaseSlots_keeps | split)

theorem execRelaySignal_keeps {r0 : State} (skein : Nat) (index : Nat) {s : State} (hk : Keeps r0 s)  :
    ∀ t, execRelaySignal skein index s = .next t → Keeps r0 t := by
  unfold execRelaySignal
  refine keeps_next ?_
  with_reducible repeat' (first
    | assumption | apply State.relayAct_keeps | apply State.raiseIwl_keeps | apply State.jobFault_keeps
    | apply State.settle_keeps | refine keeps_ite ?_ ?_ | split | (extract_lets) | refine keeps_mk ?_ ?_ ?_ ?_
    | exact Nat.le_refl _)

theorem State.answer_keeps {r0 : State} {s : State} (p : Nat) (vc : Nat) (tt : Nat) (f : State → List Byte → Req → State) (hk : Keeps r0 s) (hf : ∀ (t : State) (x1 : List Byte) (x2 : Req), Keeps r0 t → Keeps r0 (f t x1 x2)) :
    Keeps r0 (State.answer s p vc tt f) := by
  unfold State.answer
  with_reducible repeat' (first
    | assumption | apply hf | apply State.raiseIwl_keeps | apply State.dropReq_keeps
    | refine keeps_opt_snd (by assumption) (State.takeTx_keeps _ _ _ ?_) | split)

theorem execAck_keeps {r0 : State} (port : Nat) (vc : Nat) {s : State} (hk : Keeps r0 s)  :
    ∀ t, execAck port vc s = .next t → Keeps r0 t := by
  unfold execAck
  refine keeps_next ?_
  with_reducible repeat' (first
    | assumption | apply State.answer_keeps | apply State.moveAnswered_keeps | apply State.batchAnswered_keeps | split
    | (extract_lets) | (intro))

theorem execReadData_keeps {r0 : State} (port : Nat) (vc : Nat) {s : State} (hk : Keeps r0 s)  :
    ∀ t, execReadData port vc s = .next t → Keeps r0 t := by
  unfold execReadData
  refine keeps_next ?_
  with_reducible repeat' (first
    | assumption | apply State.answer_keeps | apply State.moveArrived_keeps | split | (extract_lets) | (intro))

theorem execRefuse_keeps {r0 : State} (port : Nat) (vc : Nat) {s : State} (hk : Keeps r0 s)  :
    ∀ t, execRefuse port vc s = .next t → Keeps r0 t := by
  unfold execRefuse
  refine keeps_next ?_
  with_reducible repeat' (first
    | assumption | apply State.answer_keeps | apply State.endReq_keeps | apply State.settle_keeps | (extract_lets)
    | (intro))

theorem execParcelAck_keeps {r0 : State} (port : Nat) (vc : Nat) {s : State} (hk : Keeps r0 s)  :
    ∀ t, execParcelAck port vc s = .next t → Keeps r0 t := by
  unfold execParcelAck
  refine keeps_next ?_
  with_reducible repeat' (first
    | assumption | apply State.answer_keeps | apply State.batchAnswered_keeps | split | (extract_lets) | (intro))

theorem execRemoteTimeout_keeps {r0 : State} (xid : Nat) {s : State} (hk : Keeps r0 s)  :
    ∀ t, execRemoteTimeout xid s = .next t → Keeps r0 t := by
  unfold execRemoteTimeout
  refine keeps_next ?_
  with_reducible repeat' (first
    | assumption | apply State.raiseIwl_keeps | apply State.dropReq_keeps | apply State.endReq_keeps
    | apply State.settle_keeps | refine keeps_ite ?_ ?_ | split)

end Sys2Proof.Machine
end

