-- ==== Sys2Proof/Laws/KeepsSpindle.lean ====
section
/-! SUPPORT. Keeps for the operations of Machine/Spindle.lean. -/

namespace Sys2Proof.Machine

theorem State.issue_keeps {r0 : State} {s : State} (k : Nat) (q : Nat) (job : Nat) (x : IssueSlot) (hk : Keeps r0 s)  :
    Keeps r0 (State.issue s k q job x) := by
  unfold State.issue
  with_reducible repeat' (first
    | assumption | apply State.forEach_keeps | apply State.addCmd_keeps | apply State.fillQueues_keeps
    | (extract_lets) | (intro))

theorem State.landDmem_keeps {r0 : State} {s : State} (k : Nat) (q : Nat) (l : List (Nat × List Byte)) (hk : Keeps r0 s)  :
    Keeps r0 (State.landDmem s k q l) := by
  unfold State.landDmem
  with_reducible repeat' (first
    | assumption | apply State.forEach_keeps | apply State.store_keeps | (extract_lets) | (intro))

theorem State.coreTrap_keeps {r0 : State} {s : State} (k : Nat) (q : Nat) (cause : Nat) (code : Nat) (hk : Keeps r0 s)  :
    Keeps r0 (State.coreTrap s k q cause code) := by
  unfold State.coreTrap
  with_reducible repeat' (first
    | assumption | apply State.putCore_keeps | apply State.trap_keeps | apply State.settle_keeps)

theorem State.drainProgram_keeps {r0 : State} {s : State} (k : Nat) (q : Nat) (x : Core) (hk : Keeps r0 s)  :
    Keeps r0 (State.drainProgram s k q x) := by
  unfold State.drainProgram
  with_reducible repeat' (first
    | assumption | apply State.forEach_keeps | apply State.windowDrain_keeps | split | (extract_lets) | (intro))

theorem State.endProgram_keeps {r0 : State} {s : State} (k : Nat) (q : Nat) (uid : Nat) (status : Nat) (result : Nat) (hk : Keeps r0 s)  :
    Keeps r0 (State.endProgram s k q uid status result) := by
  unfold State.endProgram
  with_reducible repeat' (first
    | assumption | apply State.putCore_keeps | apply State.drainProgram_keeps | apply State.finish_keeps)

theorem State.rowAccess_keeps {r0 : State} {s : State} (k : Nat) (q : Nat) (uid : Nat) (y0 : Option RowUse) (hk : Keeps r0 s)  :
    Keeps r0 (State.rowAccess s k q uid y0).1 := by
  unfold State.rowAccess
  with_reducible repeat' (first | assumption | apply State.readRows_keeps | apply State.writeRows_keeps | split)

theorem State.landBundle_keeps {r0 : State} {s : State} (k : Nat) (q : Nat) (uid : Nat) (a : Writes) (use : Option RowUse) (b : Branch) (is : List IssueSlot) (hk : Keeps r0 s)  :
    Keeps r0 (State.landBundle s k q uid a use b is) := by
  unfold State.landBundle
  with_reducible repeat' (first
    | assumption | apply State.rowAccess_keeps | apply State.endProgram_keeps | apply State.landDmem_keeps
    | apply State.putCore_keeps | apply State.forEach_keeps | apply State.armToken_keeps | apply State.signal_keeps
    | apply State.issue_keeps | apply State.spend_keeps | refine keeps_ite ?_ ?_ | (extract_lets)
    | refine keeps_mk ?_ ?_ ?_ ?_ | exact Nat.le_refl _ | exact Nat.le_add_right _ _ | (intro))

theorem State.runBundle_keeps {r0 : State} {s : State} (k : Nat) (q : Nat) (uid : Nat) (hk : Keeps r0 s)  :
    Keeps r0 (State.runBundle s k q uid) := by
  unfold State.runBundle
  with_reducible repeat' (first
    | assumption | apply State.coreTrap_keeps | apply State.putCore_keeps | apply State.landBundle_keeps
    | apply State.settle_keeps | refine keeps_ite ?_ ?_ | split)

theorem State.takeBundle_keeps {r0 : State} {s : State} (k : Nat) (q : Nat) (hk : Keeps r0 s)  :
    Keeps r0 (State.takeBundle s k q) := by
  unfold State.takeBundle
  with_reducible repeat' (first
    | assumption | apply State.runBundle_keeps | apply State.coreTrap_keeps | refine keeps_ite ?_ ?_ | split)

theorem execBundle_keeps {r0 : State} (skein : Nat) (core : Nat) {s : State} (hk : Keeps r0 s)  :
    ∀ t, execBundle skein core s = .next t → Keeps r0 t := by
  unfold execBundle
  refine keeps_next ?_
  with_reducible repeat' (first | assumption | apply State.takeBundle_keeps | refine keeps_ite ?_ ?_)

theorem execBundleResume_keeps {r0 : State} (skein : Nat) (core : Nat) {s : State} (hk : Keeps r0 s)  :
    ∀ t, execBundleResume skein core s = .next t → Keeps r0 t := by
  unfold execBundleResume
  refine keeps_next ?_
  with_reducible repeat' (first | assumption | apply State.takeBundle_keeps | refine keeps_ite ?_ ?_)

theorem State.openWindows_keeps {r0 : State} {s : State} (k : Nat) (idle : Bool) (y0 : List (Nat × Window)) (hk : Keeps r0 s)  :
    ∀ t, State.openWindows s k idle y0 = some t → Keeps r0 t := by
  induction y0 generalizing s with
  | nil => exact keeps_some (g := fun t => t) hk
  | cons p rest ih =>
    exact keeps_ite_opt (g := fun t => t) (ih (State.putWindow_keeps _ _ _ hk)) (keeps_none (g := fun t => t))


theorem State.putResidents_keeps {r0 : State} {s : State} (k : Nat) (q : Nat) (l : List Resident) (hk : Keeps r0 s)  :
    Keeps r0 (State.putResidents s k q l) := by
  unfold State.putResidents
  with_reducible repeat' (first | assumption | (extract_lets) | refine keeps_mk ?_ ?_ ?_ ?_ | exact Nat.le_refl _)

theorem State.loadSection_keeps {r0 : State} {s : State} (k : Nat) (q : Nat) (uid : Nat) (job : Nat) (x : Image) (t : Section) (hk : Keeps r0 s)  :
    Keeps r0 (State.loadSection s k q uid job x t).1 := by
  unfold State.loadSection
  with_reducible repeat' (first
    | assumption | apply State.store_keeps | apply State.forEach_keeps | apply State.armToken_keeps
    | apply State.writeRows_keeps | split | (extract_lets) | (intro))

theorem State.loadSections_keeps {r0 : State} {s : State} (k : Nat) (q : Nat) (uid : Nat) (job : Nat) (x : Image) (y0 : List Section) (hk : Keeps r0 s)  :
    Keeps r0 (State.loadSections s k q uid job x y0).1 := by
  induction y0 generalizing s k q uid job x with
  | nil =>
    unfold State.loadSections
    with_reducible repeat' (first
      | assumption | apply State.loadSection_keeps | refine keeps_ite ?_ ?_ | refine keeps_ite_fst ?_ ?_
      | refine keeps_fst (by assumption) ?_ | split | (extract_lets) | refine keeps_mk ?_ ?_ ?_ ?_
      | exact Nat.le_refl _ | exact Nat.le_add_right _ _ | (intro))
  | cons a rest ih =>
    unfold State.loadSections
    with_reducible repeat' (first
      | assumption | apply ih | apply State.loadSection_keeps | refine keeps_ite ?_ ?_ | refine keeps_ite_fst ?_ ?_
      | refine keeps_fst (by assumption) ?_ | split | (extract_lets) | refine keeps_mk ?_ ?_ ?_ ?_
      | exact Nat.le_refl _ | exact Nat.le_add_right _ _ | (intro))

theorem State.startProgram_keeps {r0 : State} {s : State} (c : Cmd) (k : Nat) (q : Nat) (p : Prog) (r : Resident) (hk : Keeps r0 s)  :
    Keeps r0 (State.startProgram s c k q p r) := by
  unfold State.startProgram
  with_reducible repeat' (first
    | assumption | apply State.putResidents_keeps | apply State.finish_keeps | apply State.raise_keeps
    | apply State.putCore_keeps | refine keeps_opt (by assumption) (State.openWindows_keeps _ _ _ ?_) | split)

theorem State.placeImage_keeps {r0 : State} {s : State} (c : Cmd) (k : Nat) (q : Nat) (x : Image) (hk : Keeps r0 s)  :
    Keeps r0 (State.placeImage s c k q x).1 := by
  unfold State.placeImage
  with_reducible repeat' (first
    | assumption | apply State.chargeRead_keeps | apply State.putResidents_keeps | apply State.loadSections_keeps)

theorem State.tileLoad_keeps {r0 : State} {s : State} (c : Cmd) (x : Image) (hk : Keeps r0 s)  :
    Keeps r0 (State.tileLoad s c x) := by
  unfold State.tileLoad
  with_reducible repeat' (first
    | assumption | apply State.doIf_keeps | apply State.enrol_keeps | apply State.modCmd_keeps
    | refine keeps_ite ?_ ?_ | refine keeps_ite_fst ?_ ?_ | refine keeps_fst (by assumption) ?_ | split
    | (extract_lets) | refine keeps_mk ?_ ?_ ?_ ?_ | exact Nat.le_refl _ | exact Nat.le_add_right _ _ | (intro))

theorem State.loadProgram_keeps {r0 : State} {s : State} (c : Cmd) (k : Nat) (q : Nat) (p : Prog) (hk : Keeps r0 s)  :
    Keeps r0 (State.loadProgram s c k q p) := by
  unfold State.loadProgram
  with_reducible repeat' (first
    | assumption | apply State.finish_keeps | apply State.tileLoad_keeps | apply State.placeImage_keeps
    | apply State.startProgram_keeps | refine keeps_ite ?_ ?_ | refine keeps_ite_fst ?_ ?_
    | refine keeps_fst (by assumption) ?_ | split | (extract_lets) | refine keeps_mk ?_ ?_ ?_ ?_ | exact Nat.le_refl _
    | exact Nat.le_add_right _ _ | (intro))

theorem State.runResident_keeps {r0 : State} {s : State} (c : Cmd) (k : Nat) (q : Nat) (p : Prog) (hk : Keeps r0 s)  :
    Keeps r0 (State.runResident s c k q p) := by
  unfold State.runResident
  with_reducible repeat' (first
    | assumption | apply State.finish_keeps | apply State.startProgram_keeps | refine keeps_ite ?_ ?_ | split)

theorem execProg_keeps {r0 : State} (uid : Nat) {s : State} (hk : Keeps r0 s)  :
    ∀ t, execProg uid s = .next t → Keeps r0 t := by
  unfold execProg
  refine keeps_next ?_
  with_reducible repeat' (first
    | assumption | apply State.loadProgram_keeps | apply State.runResident_keeps | apply State.settle_keeps
    | refine keeps_ite ?_ ?_ | split)

theorem State.debugAct_keeps {r0 : State} {s : State} (cores : List (Nat × Nat)) (a : DebugAction) (hk : Keeps r0 s)  :
    Keeps r0 (State.debugAct s cores a) := by
  unfold State.debugAct
  with_reducible repeat' (first
    | assumption | apply State.forEach_keeps | apply State.takeBundle_keeps | split | (extract_lets)
    | refine keeps_mk ?_ ?_ ?_ ?_ | exact Nat.le_refl _ | (intro))

theorem State.selvedgeWrite_keeps {r0 : State} {s : State} (a : Nat) (bs : List Byte) (hk : Keeps r0 s)  :
    Keeps r0 (State.selvedgeWrite s a bs) := by
  unfold State.selvedgeWrite
  with_reducible repeat' (first
    | assumption | apply State.store_keeps | refine keeps_ite ?_ ?_ | refine keeps_ite_fst ?_ ?_
    | refine keeps_fst (by assumption) ?_ | split | (extract_lets) | refine keeps_mk ?_ ?_ ?_ ?_ | exact Nat.le_refl _
    | exact Nat.le_add_right _ _ | (intro))

theorem State.selvedgeAct_keeps {r0 : State} {s : State} (a : DebugAction) (hk : Keeps r0 s)  :
    Keeps r0 (State.selvedgeAct s a) := by
  unfold State.selvedgeAct
  with_reducible repeat' (first
    | assumption | apply State.resume_keeps | apply State.selvedgeWrite_keeps | refine keeps_nextOr (step_keeps ?_) ?_
    | refine keeps_ite ?_ ?_ | refine keeps_ite_fst ?_ ?_ | refine keeps_fst (by assumption) ?_ | split
    | (extract_lets) | refine keeps_mk ?_ ?_ ?_ ?_ | exact Nat.le_refl _ | exact Nat.le_add_right _ _ | (intro))

theorem State.stopWaits_keeps {r0 : State} (old : State) {s : State} (p : Nat) (hk : Keeps r0 s)  :
    Keeps r0 (State.stopWaits old s p) := by
  unfold State.stopWaits
  with_reducible repeat' (first
    | assumption | apply State.modPair_keeps | apply State.forEach_keeps | apply State.modCmd_keeps
    | refine keeps_ite ?_ ?_ | (extract_lets) | (intro))

theorem execDebuggerHaltStep_keeps {r0 : State} (target : Option (Nat × Nat)) (action : DebugAction) {s : State} (hk : Keeps r0 s)  :
    ∀ t, execDebuggerHaltStep target action s = .next t → Keeps r0 t := by
  unfold execDebuggerHaltStep
  refine keeps_next ?_
  with_reducible repeat' (first
    | assumption | apply State.tamper_keeps | apply State.selvedgeAct_keeps | apply State.set_keeps
    | apply State.debugAct_keeps | apply State.forEach_keeps | apply State.stopWaits_keeps | refine keeps_ite ?_ ?_
    | refine keeps_ite_fst ?_ ?_ | refine keeps_fst (by assumption) ?_ | split | (extract_lets)
    | refine keeps_mk ?_ ?_ ?_ ?_ | exact Nat.le_refl _ | exact Nat.le_add_right _ _ | (intro))

end Sys2Proof.Machine
end

