-- ==== Sys2Proof/Laws/KeepsAperture.lean ====
section
/-! SUPPORT. Keeps for the operations of Machine/Aperture.lean. -/

namespace Sys2Proof.Machine

theorem State.putAperture_keeps {r0 : State} {s : State} (k : Nat) (x : Aperture) (hk : Keeps r0 s)  :
    Keeps r0 (State.putAperture s k x) := by
  unfold State.putAperture
  with_reducible repeat' (first | assumption | (extract_lets) | refine keeps_mk ?_ ?_ ?_ ?_ | exact Nat.le_refl _)

theorem State.captureRow_keeps {r0 : State} {s : State} (k : Nat) (row : Nat) (hk : Keeps r0 s)  :
    Keeps r0 (State.captureRow s k row) := by
  unfold State.captureRow
  with_reducible repeat' (first
    | assumption | apply State.accessRow_keeps | apply State.doIf_keeps | apply State.pathMet_keeps
    | apply State.parityOwner_keeps | apply State.putAperture_keeps | (extract_lets) | (intro))

theorem State.holdRow_keeps {r0 : State} {s : State} (k : Nat) (row : Nat) (hk : Keeps r0 s)  :
    Keeps r0 (State.holdRow s k row) := by
  unfold State.holdRow
  with_reducible repeat' (first
    | assumption | apply State.doIf_keeps | apply State.raise_keeps | apply State.captureRow_keeps
    | refine keeps_ite ?_ ?_ | split | (extract_lets) | (intro))

theorem State.replayRow_keeps {r0 : State} {s : State} (p : Nat) (k : Nat) (row : Nat) (bs : List Byte) (hk : Keeps r0 s)  :
    Keeps r0 (State.replayRow s p k row bs) := by
  unfold State.replayRow
  with_reducible repeat' (first
    | assumption | apply State.store_keeps | apply State.parityWritten_keeps | apply State.set_keeps)

theorem State.commitAperture_keeps {r0 : State} {s : State} (k : Nat) (hk : Keeps r0 s)  :
    Keeps r0 (State.commitAperture s k) := by
  unfold State.commitAperture
  with_reducible repeat' (first
    | assumption | apply State.accessRow_keeps | apply State.writeRow_keeps | apply State.putAperture_keeps
    | apply State.replayRow_keeps | split | (extract_lets))

theorem execApertureRead_keeps {r0 : State} (offset : Nat) (size : Nat) {s : State} (hk : Keeps r0 s)  :
    ∀ t, execApertureRead offset size s = .next t → Keeps r0 t := by
  unfold execApertureRead
  refine keeps_next ?_
  with_reducible repeat' (first
    | assumption | apply State.host_keeps | apply State.holdRow_keeps | apply State.settle_keeps | split
    | (extract_lets) | refine keeps_mk ?_ ?_ ?_ ?_ | exact Nat.le_refl _ | (intro))

theorem execApertureWrite_keeps {r0 : State} (offset : Nat) (size : Nat) (value : Nat) {s : State} (hk : Keeps r0 s)  :
    ∀ t, execApertureWrite offset size value s = .next t → Keeps r0 t := by
  unfold execApertureWrite
  refine keeps_next ?_
  with_reducible repeat' (first
    | assumption | apply State.host_keeps | apply State.holdRow_keeps | apply State.putAperture_keeps
    | apply State.doIf_keeps | apply State.commitAperture_keeps | apply State.settle_keeps | split | (extract_lets)
    | (intro))

end Sys2Proof.Machine
end

