-- ==== Sys2Proof/Laws/KeepsEther.lean ====
section
/-! SUPPORT. Keeps for the operations of Machine/Ether.lean. -/

namespace Sys2Proof.Machine

theorem State.txBack_keeps {r0 : State} {s : State} (m : Nat) (a : Nat) (status : Nat) (stamp : Nat) (hk : Keeps r0 s)  :
    Keeps r0 (State.txBack s m a status stamp) := by
  unfold State.txBack
  with_reducible repeat' (first
    | assumption | apply State.doIf_keeps | apply State.store_keeps | apply State.putMac_keeps | apply State.set_keeps
    | (extract_lets) | (intro))

theorem State.txRead_keeps {r0 : State} {s : State} (m : Nat) (y0 : Nat) (hk : Keeps r0 s)  :
    Keeps r0 (State.txRead s m y0) := by
  induction y0 generalizing s m with
  | zero =>
    unfold State.txRead
    with_reducible repeat' assumption
  | succ fuel ih =>
    unfold State.txRead
    with_reducible repeat' (first
      | assumption | apply ih | apply State.putMac_keeps | apply State.txBack_keeps | apply State.raise_keeps
      | refine keeps_ite ?_ ?_)

theorem State.txNext_keeps {r0 : State} {s : State} (m : Nat) (hk : Keeps r0 s)  :
    Keeps r0 (State.txNext s m) := by
  unfold State.txNext
  with_reducible repeat' (first | assumption | apply State.txRead_keeps | refine keeps_ite ?_ ?_)

theorem State.ethEnable_keeps {r0 : State} {s : State} (m : Nat) (on : Bool) (hk : Keeps r0 s)  :
    Keeps r0 (State.ethEnable s m on) := by
  unfold State.ethEnable
  with_reducible repeat' (first
    | assumption | apply State.raise_keeps | apply State.setBit_keeps | apply State.putMac_keeps
    | refine keeps_ite ?_ ?_)

theorem execEthEnable_keeps {r0 : State} (mac : Nat) (enable : Bool) {s : State} (hk : Keeps r0 s)  :
    ∀ t, execEthEnable mac enable s = .next t → Keeps r0 t := by
  unfold execEthEnable
  refine keeps_next ?_
  with_reducible repeat' (first
    | assumption | apply State.host_keeps | apply State.ethEnable_keeps | (extract_lets) | (intro))

theorem execEthTxKick_keeps {r0 : State} (mac : Nat) {s : State} (hk : Keeps r0 s)  :
    ∀ t, execEthTxKick mac s = .next t → Keeps r0 t := by
  unfold execEthTxKick
  refine keeps_next ?_
  with_reducible repeat' (first
    | assumption | apply State.host_keeps | apply State.txNext_keeps | (extract_lets) | (intro))

theorem execEthLinkChange_keeps {r0 : State} (mac : Nat) (up : Bool) (rate : Nat) {s : State} (hk : Keeps r0 s)  :
    ∀ t, execEthLinkChange mac up rate s = .next t → Keeps r0 t := by
  unfold execEthLinkChange
  refine keeps_next ?_
  with_reducible repeat' (first
    | assumption | apply State.doIf_keeps | apply State.set_keeps | apply State.setBit_keeps | apply State.raise_keeps
    | refine keeps_ite ?_ ?_ | (extract_lets) | (intro))

theorem State.dropSlot_keeps {r0 : State} {s : State} (target : Nat) (slot : Nat) (hk : Keeps r0 s)  :
    Keeps r0 (State.dropSlot s target slot) := by
  unfold State.dropSlot
  with_reducible repeat' (first | assumption | (extract_lets) | refine keeps_mk ?_ ?_ ?_ ?_ | exact Nat.le_refl _)

theorem State.ethJudge_keeps {r0 : State} {s : State} (m : Nat) (q : TxReq) (hk : Keeps r0 s)  :
    Keeps r0 (State.ethJudge s m q) := by
  unfold State.ethJudge
  with_reducible repeat' (first
    | assumption | apply State.raise_keeps | apply State.putMac_keeps | apply State.dropSlot_keeps
    | apply State.txBack_keeps | apply State.txNext_keeps | refine keeps_ite ?_ ?_)

theorem State.ethJudgeAll_keeps {r0 : State} {s : State} (m : Nat) (after : Nat) (y0 : Nat) (hk : Keeps r0 s)  :
    Keeps r0 (State.ethJudgeAll s m after y0) := by
  induction y0 generalizing s m after with
  | zero =>
    unfold State.ethJudgeAll
    with_reducible repeat' (first
      | assumption | apply State.ethJudge_keeps | refine keeps_ite ?_ ?_ | refine keeps_ite_fst ?_ ?_
      | refine keeps_fst (by assumption) ?_ | split | (extract_lets) | refine keeps_mk ?_ ?_ ?_ ?_
      | exact Nat.le_refl _ | exact Nat.le_add_right _ _ | (intro))
  | succ fuel ih =>
    unfold State.ethJudgeAll
    with_reducible repeat' (first
      | assumption | apply ih | apply State.ethJudge_keeps | refine keeps_ite ?_ ?_ | refine keeps_ite_fst ?_ ?_
      | refine keeps_fst (by assumption) ?_ | split | (extract_lets) | refine keeps_mk ?_ ?_ ?_ ?_
      | exact Nat.le_refl _ | exact Nat.le_add_right _ _ | (intro))

theorem State.ethSafeBack_keeps {r0 : State} {s : State} (m : Nat) (y0 : Nat) (hk : Keeps r0 s)  :
    Keeps r0 (State.ethSafeBack s m y0) := by
  induction y0 generalizing s m with
  | zero =>
    unfold State.ethSafeBack
    with_reducible repeat' (first
      | assumption | apply State.txBack_keeps | apply State.txNext_keeps | refine keeps_ite ?_ ?_
      | refine keeps_ite_fst ?_ ?_ | refine keeps_fst (by assumption) ?_ | split | (extract_lets)
      | refine keeps_mk ?_ ?_ ?_ ?_ | exact Nat.le_refl _ | exact Nat.le_add_right _ _ | (intro))
  | succ fuel ih =>
    unfold State.ethSafeBack
    with_reducible repeat' (first
      | assumption | apply ih | apply State.txBack_keeps | apply State.txNext_keeps | refine keeps_ite ?_ ?_
      | refine keeps_ite_fst ?_ ?_ | refine keeps_fst (by assumption) ?_ | split | (extract_lets)
      | refine keeps_mk ?_ ?_ ?_ ?_ | exact Nat.le_refl _ | exact Nat.le_add_right _ _ | (intro))

theorem State.ethLate_keeps {r0 : State} {s : State} (m : Nat) (after : Nat) (hk : Keeps r0 s)  :
    Keeps r0 (State.ethLate s m after) := by
  unfold State.ethLate
  with_reducible repeat' (first
    | assumption | apply State.ethJudgeAll_keeps | apply State.ethSafeBack_keeps | refine keeps_ite ?_ ?_
    | refine keeps_ite_fst ?_ ?_ | refine keeps_fst (by assumption) ?_ | refine keeps_mk ?_ ?_ ?_ ?_
    | exact Nat.le_refl _)

theorem execEthTxLate_keeps {r0 : State} (mac : Nat) {s : State} (hk : Keeps r0 s)  :
    ∀ t, execEthTxLate mac s = .next t → Keeps r0 t := by
  unfold execEthTxLate
  refine keeps_next ?_
  with_reducible repeat' (first | assumption | apply State.ethLate_keeps | refine keeps_ite ?_ ?_)

theorem State.ethStart_keeps {r0 : State} {s : State} (m : Nat) (q : TxReq) (hk : Keeps r0 s)  :
    Keeps r0 (State.ethStart s m q) := by
  unfold State.ethStart
  with_reducible repeat' (first
    | assumption | apply State.putMac_keeps | apply State.set_keeps | apply State.dropSlot_keeps
    | apply State.doIf_keeps | apply State.raise_keeps | refine keeps_ite ?_ ?_ | split | (extract_lets) | (intro))

theorem execEthTxStart_keeps {r0 : State} (mac : Nat) {s : State} (hk : Keeps r0 s)  :
    ∀ t, execEthTxStart mac s = .next t → Keeps r0 t := by
  unfold execEthTxStart
  refine keeps_next ?_
  with_reducible repeat' (first
    | assumption | apply State.ethLate_keeps | apply State.ethStart_keeps | refine keeps_ite ?_ ?_ | split
    | (extract_lets))

theorem execEthTxDone_keeps {r0 : State} (mac : Nat) {s : State} (hk : Keeps r0 s)  :
    ∀ t, execEthTxDone mac s = .next t → Keeps r0 t := by
  unfold execEthTxDone
  refine keeps_next ?_
  with_reducible repeat' (first
    | assumption | apply State.putMac_keeps | apply State.set_keeps | apply State.accum_keeps
    | apply State.txBack_keeps | apply State.txNext_keeps | refine keeps_ite ?_ ?_ | split)

theorem State.ethStore_keeps {r0 : State} {s : State} (m : Nat) (f : List Byte) (sfd : Nat) (hk : Keeps r0 s)  :
    Keeps r0 (State.ethStore s m f sfd) := by
  unfold State.ethStore
  with_reducible repeat' (first
    | assumption | apply State.raise_keeps | apply State.store_keeps | apply State.set_keeps | refine keeps_ite ?_ ?_)

theorem execEthRxFrame_keeps {r0 : State} (mac : Nat) (frame : List Byte) (fcsOk : Bool) (sfd : Nat) {s : State} (hk : Keeps r0 s)  :
    ∀ t, execEthRxFrame mac frame fcsOk sfd s = .next t → Keeps r0 t := by
  unfold execEthRxFrame
  refine keeps_next ?_
  with_reducible repeat' (first
    | assumption | apply State.raise_keeps | apply State.accum_keeps | apply State.ethStore_keeps
    | refine keeps_ite ?_ ?_)

end Sys2Proof.Machine
end

