-- ==== Sys2Proof/Laws/KeepsCan.lean ====
section
/-! SUPPORT. Keeps for the operations of Machine/Can.lean. -/

namespace Sys2Proof.Machine

theorem State.putCan_keeps {r0 : State} {s : State} (n : Nat) (x : CanCtl) (hk : Keeps r0 s)  :
    Keeps r0 (State.putCan s n x) := by
  unfold State.putCan
  with_reducible repeat' (first | assumption | (extract_lets) | refine keeps_mk ?_ ?_ ?_ ?_ | exact Nat.le_refl _)

theorem State.canBack_keeps {r0 : State} {s : State} (n : Nat) (a : Nat) (status : Nat) (stamp : Nat) (hk : Keeps r0 s)  :
    Keeps r0 (State.canBack s n a status stamp) := by
  unfold State.canBack
  with_reducible repeat' (first
    | assumption | apply State.store_keeps | apply State.set_keeps | apply State.raiseSource_keeps)

theorem State.canScan_keeps {r0 : State} {s : State} (n : Nat) (y0 : Nat) (hk : Keeps r0 s)  :
    Keeps r0 (State.canScan s n y0) := by
  induction y0 generalizing s n with
  | zero =>
    unfold State.canScan
    with_reducible repeat' assumption
  | succ fuel ih =>
    unfold State.canScan
    with_reducible repeat' (first
      | assumption | apply ih | apply State.canBack_keeps | apply State.raise_keeps | refine keeps_ite ?_ ?_ | split)

theorem State.canNext_keeps {r0 : State} {s : State} (n : Nat) (hk : Keeps r0 s)  :
    Keeps r0 (State.canNext s n) := by
  unfold State.canNext
  with_reducible repeat' (first | assumption | apply State.canScan_keeps | refine keeps_ite ?_ ?_)

theorem State.indexInvalid_keeps {r0 : State} {s : State} (n : Nat) (hk : Keeps r0 s)  :
    Keeps r0 (State.indexInvalid s n) := by
  unfold State.indexInvalid
  with_reducible repeat' (first | assumption | apply State.raise_keeps)

theorem execCanTxTailWrite_keeps {r0 : State} (ctrl : Nat) (value : Nat) {s : State} (hk : Keeps r0 s)  :
    ∀ t, execCanTxTailWrite ctrl value s = .next t → Keeps r0 t := by
  unfold execCanTxTailWrite
  refine keeps_next ?_
  with_reducible repeat' (first
    | assumption | apply State.host_keeps | apply State.set_keeps | apply State.canNext_keeps
    | apply State.indexInvalid_keeps | split | (extract_lets) | (intro))

theorem execCanTxAckWrite_keeps {r0 : State} (ctrl : Nat) (value : Nat) {s : State} (hk : Keeps r0 s)  :
    ∀ t, execCanTxAckWrite ctrl value s = .next t → Keeps r0 t := by
  unfold execCanTxAckWrite
  refine keeps_next ?_
  with_reducible repeat' (first
    | assumption | apply State.host_keeps | apply State.set_keeps | apply State.indexInvalid_keeps | split
    | (extract_lets) | (intro))

theorem execCanRxAckWrite_keeps {r0 : State} (ctrl : Nat) (value : Nat) {s : State} (hk : Keeps r0 s)  :
    ∀ t, execCanRxAckWrite ctrl value s = .next t → Keeps r0 t := by
  unfold execCanRxAckWrite
  refine keeps_next ?_
  with_reducible repeat' (first
    | assumption | apply State.host_keeps | apply State.set_keeps | apply State.indexInvalid_keeps | split
    | (extract_lets) | (intro))

theorem State.canEnable_keeps {r0 : State} {s : State} (n : Nat) (hk : Keeps r0 s)  :
    Keeps r0 (State.canEnable s n) := by
  unfold State.canEnable
  with_reducible repeat' (first
    | assumption | apply State.raise_keeps | apply State.forEach_keeps | apply State.set_keeps
    | apply State.putCan_keeps | refine keeps_ite ?_ ?_ | (extract_lets) | (intro))

theorem State.canStop_keeps {r0 : State} {s : State} (n : Nat) (hk : Keeps r0 s)  :
    Keeps r0 (State.canStop s n) := by
  unfold State.canStop
  with_reducible repeat' (first | assumption | apply State.set_keeps | refine keeps_ite ?_ ?_)

theorem State.canDisable_keeps {r0 : State} {s : State} (n : Nat) (hk : Keeps r0 s)  :
    Keeps r0 (State.canDisable s n) := by
  unfold State.canDisable
  with_reducible repeat' (first
    | assumption | apply State.doIf_keeps | apply State.putCan_keeps | apply State.set_keeps
    | apply State.canStop_keeps | refine keeps_ite ?_ ?_ | refine keeps_ite_fst ?_ ?_
    | refine keeps_fst (by assumption) ?_ | split | (extract_lets) | refine keeps_mk ?_ ?_ ?_ ?_ | exact Nat.le_refl _
    | exact Nat.le_add_right _ _ | (intro))

theorem State.canEnded_keeps {r0 : State} {s : State} (n : Nat) (hk : Keeps r0 s)  :
    Keeps r0 (State.canEnded s n) := by
  unfold State.canEnded
  with_reducible repeat' (first
    | assumption | apply State.putCan_keeps | refine keeps_ite ?_ ?_ | refine keeps_ite_fst ?_ ?_
    | refine keeps_fst (by assumption) ?_ | split | (extract_lets) | refine keeps_mk ?_ ?_ ?_ ?_ | exact Nat.le_refl _
    | exact Nat.le_add_right _ _ | (intro))

theorem execCanEnable_keeps {r0 : State} (ctrl : Nat) {s : State} (hk : Keeps r0 s)  :
    ∀ t, execCanEnable ctrl s = .next t → Keeps r0 t := by
  unfold execCanEnable
  refine keeps_next ?_
  with_reducible repeat' (first
    | assumption | apply State.host_keeps | apply State.canEnable_keeps | (extract_lets) | (intro))

theorem execCanDisable_keeps {r0 : State} (ctrl : Nat) {s : State} (hk : Keeps r0 s)  :
    ∀ t, execCanDisable ctrl s = .next t → Keeps r0 t := by
  unfold execCanDisable
  refine keeps_next ?_
  with_reducible repeat' (first
    | assumption | apply State.host_keeps | apply State.canDisable_keeps | (extract_lets) | (intro))

theorem execCanBusIntegrated_keeps {r0 : State} (ctrl : Nat) {s : State} (hk : Keeps r0 s)  :
    ∀ t, execCanBusIntegrated ctrl s = .next t → Keeps r0 t := by
  unfold execCanBusIntegrated
  refine keeps_next ?_
  with_reducible repeat' (first
    | assumption | apply State.set_keeps | apply State.canNext_keeps | refine keeps_ite ?_ ?_)

theorem State.canSkip_keeps {r0 : State} {s : State} (n : Nat) (q : TxReq) (hk : Keeps r0 s)  :
    Keeps r0 (State.canSkip s n q) := by
  unfold State.canSkip
  with_reducible repeat' (first
    | assumption | apply State.canBack_keeps | apply State.raise_keeps | apply State.canNext_keeps
    | apply State.putCan_keeps | apply State.dropSlot_keeps | refine keeps_ite ?_ ?_)

theorem State.canJudgeAll_keeps {r0 : State} {s : State} (n : Nat) (after : Nat) (y0 : Nat) (hk : Keeps r0 s)  :
    Keeps r0 (State.canJudgeAll s n after y0) := by
  induction y0 generalizing s n after with
  | zero =>
    unfold State.canJudgeAll
    with_reducible repeat' (first
      | assumption | apply State.canSkip_keeps | refine keeps_ite ?_ ?_ | refine keeps_ite_fst ?_ ?_
      | refine keeps_fst (by assumption) ?_ | split | (extract_lets) | refine keeps_mk ?_ ?_ ?_ ?_
      | exact Nat.le_refl _ | exact Nat.le_add_right _ _ | (intro))
  | succ fuel ih =>
    unfold State.canJudgeAll
    with_reducible repeat' (first
      | assumption | apply ih | apply State.canSkip_keeps | refine keeps_ite ?_ ?_ | refine keeps_ite_fst ?_ ?_
      | refine keeps_fst (by assumption) ?_ | split | (extract_lets) | refine keeps_mk ?_ ?_ ?_ ?_
      | exact Nat.le_refl _ | exact Nat.le_add_right _ _ | (intro))

theorem State.canSafeBack_keeps {r0 : State} {s : State} (n : Nat) (y0 : Nat) (hk : Keeps r0 s)  :
    Keeps r0 (State.canSafeBack s n y0) := by
  induction y0 generalizing s n with
  | zero =>
    unfold State.canSafeBack
    with_reducible repeat' (first
      | assumption | apply State.canBack_keeps | apply State.canNext_keeps | refine keeps_ite ?_ ?_
      | refine keeps_ite_fst ?_ ?_ | refine keeps_fst (by assumption) ?_ | split | (extract_lets)
      | refine keeps_mk ?_ ?_ ?_ ?_ | exact Nat.le_refl _ | exact Nat.le_add_right _ _ | (intro))
  | succ fuel ih =>
    unfold State.canSafeBack
    with_reducible repeat' (first
      | assumption | apply ih | apply State.canBack_keeps | apply State.canNext_keeps | refine keeps_ite ?_ ?_
      | refine keeps_ite_fst ?_ ?_ | refine keeps_fst (by assumption) ?_ | split | (extract_lets)
      | refine keeps_mk ?_ ?_ ?_ ?_ | exact Nat.le_refl _ | exact Nat.le_add_right _ _ | (intro))

theorem State.canLate_keeps {r0 : State} {s : State} (n : Nat) (after : Nat) (hk : Keeps r0 s)  :
    Keeps r0 (State.canLate s n after) := by
  unfold State.canLate
  with_reducible repeat' (first
    | assumption | apply State.canJudgeAll_keeps | apply State.canSafeBack_keeps | refine keeps_ite ?_ ?_
    | refine keeps_ite_fst ?_ ?_ | refine keeps_fst (by assumption) ?_ | refine keeps_mk ?_ ?_ ?_ ?_
    | exact Nat.le_refl _)

theorem execCanTxLate_keeps {r0 : State} (ctrl : Nat) {s : State} (hk : Keeps r0 s)  :
    ∀ t, execCanTxLate ctrl s = .next t → Keeps r0 t := by
  unfold execCanTxLate
  refine keeps_next ?_
  with_reducible repeat' (first | assumption | apply State.canLate_keeps | refine keeps_ite ?_ ?_)

theorem State.canStart_keeps {r0 : State} {s : State} (n : Nat) (q : TxReq) (hk : Keeps r0 s)  :
    Keeps r0 (State.canStart s n q) := by
  unfold State.canStart
  with_reducible repeat' (first
    | assumption | apply State.dropSlot_keeps | apply State.putCan_keeps | split | (extract_lets))

theorem execCanTxAttempt_keeps {r0 : State} (ctrl : Nat) {s : State} (hk : Keeps r0 s)  :
    ∀ t, execCanTxAttempt ctrl s = .next t → Keeps r0 t := by
  unfold execCanTxAttempt
  refine keeps_next ?_
  with_reducible repeat' (first
    | assumption | apply State.canLate_keeps | apply State.canStart_keeps | refine keeps_ite ?_ ?_ | split
    | (extract_lets))

theorem State.canFail_keeps {r0 : State} {s : State} (n : Nat) (hk : Keeps r0 s)  :
    Keeps r0 (State.canFail s n) := by
  unfold State.canFail
  with_reducible repeat' (first | assumption | apply State.putCan_keeps | apply State.canStop_keeps)

theorem execCanArbLost_keeps {r0 : State} (ctrl : Nat) {s : State} (hk : Keeps r0 s)  :
    ∀ t, execCanArbLost ctrl s = .next t → Keeps r0 t := by
  unfold execCanArbLost
  refine keeps_next ?_
  with_reducible repeat' (first
    | assumption | apply State.count_keeps | apply State.canFail_keeps | refine keeps_ite ?_ ?_)

theorem State.canErrors_keeps {r0 : State} {s : State} (n : Nat) (tec : Nat) (rxc : Nat) (hk : Keeps r0 s)  :
    Keeps r0 (State.canErrors s n tec rxc) := by
  unfold State.canErrors
  with_reducible repeat' (first
    | assumption | apply State.set_keeps | apply State.doIf_keeps | apply State.raise_keeps | (extract_lets)
    | (intro))

theorem State.canSentOk_keeps {r0 : State} {s : State} (n : Nat) (hk : Keeps r0 s)  :
    Keeps r0 (State.canSentOk s n) := by
  unfold State.canSentOk
  with_reducible repeat' (first | assumption | apply State.canErrors_keeps)

theorem State.canHeardOk_keeps {r0 : State} {s : State} (n : Nat) (hk : Keeps r0 s)  :
    Keeps r0 (State.canHeardOk s n) := by
  unfold State.canHeardOk
  with_reducible repeat' (first
    | assumption | apply State.canErrors_keeps | refine keeps_ite ?_ ?_ | (extract_lets) | refine keeps_mk ?_ ?_ ?_ ?_
    | exact Nat.le_refl _ | exact Nat.le_add_right _ _)

theorem execCanProtocolError_keeps {r0 : State} (ctrl : Nat) (tec : Nat) (rxc : Nat) {s : State} (hk : Keeps r0 s)  :
    ∀ t, execCanProtocolError ctrl tec rxc s = .next t → Keeps r0 t := by
  unfold execCanProtocolError
  refine keeps_next ?_
  with_reducible repeat' (first
    | assumption | apply State.raise_keeps | apply State.canErrors_keeps | apply State.canFail_keeps
    | apply State.canEnded_keeps | refine keeps_ite ?_ ?_ | refine keeps_ite_fst ?_ ?_
    | refine keeps_fst (by assumption) ?_ | split | (extract_lets) | refine keeps_mk ?_ ?_ ?_ ?_ | exact Nat.le_refl _
    | exact Nat.le_add_right _ _ | (intro))

theorem execCanBusOffRecovery_keeps {r0 : State} (ctrl : Nat) {s : State} (hk : Keeps r0 s)  :
    ∀ t, execCanBusOffRecovery ctrl s = .next t → Keeps r0 t := by
  unfold execCanBusOffRecovery
  refine keeps_next ?_
  with_reducible repeat' (first
    | assumption | apply State.canErrors_keeps | apply State.set_keeps | apply State.canNext_keeps
    | apply State.canLate_keeps | refine keeps_ite ?_ ?_)

theorem execCanTxDone_keeps {r0 : State} (ctrl : Nat) {s : State} (hk : Keeps r0 s)  :
    ∀ t, execCanTxDone ctrl s = .next t → Keeps r0 t := by
  unfold execCanTxDone
  refine keeps_next ?_
  with_reducible repeat' (first
    | assumption | apply State.putCan_keeps | apply State.canBack_keeps | apply State.doIf_keeps
    | apply State.raise_keeps | apply State.canSentOk_keeps | apply State.canNext_keeps | apply State.canStop_keeps
    | refine keeps_ite ?_ ?_ | split | (extract_lets) | (intro))

theorem State.canStore_keeps {r0 : State} {s : State} (n : Nat) (fr : CanFrame) (filter : Nat) (sof : Nat) (hk : Keeps r0 s)  :
    Keeps r0 (State.canStore s n fr filter sof) := by
  unfold State.canStore
  with_reducible repeat' (first
    | assumption | apply State.raise_keeps | apply State.store_keeps | apply State.set_keeps
    | apply State.raiseSource_keeps | refine keeps_ite ?_ ?_)

theorem execCanRxFrame_keeps {r0 : State} (ctrl : Nat) (frame : CanFrame) (sof : Nat) {s : State} (hk : Keeps r0 s)  :
    ∀ t, execCanRxFrame ctrl frame sof s = .next t → Keeps r0 t := by
  unfold execCanRxFrame
  refine keeps_next ?_
  with_reducible repeat' (first
    | assumption | apply State.canHeardOk_keeps | apply State.canEnded_keeps | apply State.canStore_keeps
    | refine keeps_ite ?_ ?_ | refine keeps_ite_fst ?_ ?_ | refine keeps_fst (by assumption) ?_ | split
    | (extract_lets) | refine keeps_mk ?_ ?_ ?_ ?_ | exact Nat.le_refl _ | exact Nat.le_add_right _ _ | (intro))

end Sys2Proof.Machine
end

