-- ==== Sys2Proof/Laws/KeepsCarding.lean ====
section
/-! SUPPORT. Keeps for the operations of Machine/Carding.lean. -/

namespace Sys2Proof.Machine

theorem execCapEnable_keeps {r0 : State} (stream : Nat) {s : State} (hk : Keeps r0 s)  :
    ∀ t, execCapEnable stream s = .next t → Keeps r0 t := by
  unfold execCapEnable
  refine keeps_next ?_
  with_reducible repeat' (first
    | assumption | apply State.host_keeps | apply State.set_keeps | apply State.putCap_keeps
    | apply State.capSync_keeps | apply State.register_keeps | apply State.settle_keeps | apply State.raise_keeps
    | split | (extract_lets) | (intro))

theorem State.capStop_keeps {r0 : State} {s : State} (n : Nat) (hk : Keeps r0 s)  :
    Keeps r0 (State.capStop s n) := by
  unfold State.capStop
  with_reducible repeat' (first
    | assumption | apply State.putCap_keeps | apply State.set_keeps | apply State.withdraw_keeps)

theorem execCapDisable_keeps {r0 : State} (stream : Nat) {s : State} (hk : Keeps r0 s)  :
    ∀ t, execCapDisable stream s = .next t → Keeps r0 t := by
  unfold execCapDisable
  refine keeps_next ?_
  with_reducible repeat' (first
    | assumption | apply State.host_keeps | apply State.set_keeps | apply State.capStop_keeps | split | (extract_lets)
    | (intro))

theorem State.streamStore_keeps {r0 : State} {s : State} (job : Nat) (addr : Nat) (bs : List Byte) (hk : Keeps r0 s)  :
    Keeps r0 (State.streamStore s job addr bs) := by
  unfold State.streamStore
  with_reducible repeat' (first
    | assumption | apply State.accum_keeps | apply State.store_keeps | refine keeps_ite ?_ ?_
    | refine keeps_ite_fst ?_ ?_ | refine keeps_fst (by assumption) ?_ | split | (extract_lets)
    | refine keeps_mk ?_ ?_ ?_ ?_ | exact Nat.le_refl _ | exact Nat.le_add_right _ _ | (intro))

theorem State.capRecord_keeps {r0 : State} {s : State} (n : Nat) (b : Nat) (f : Frame) (status : Nat) (ended : Nat) (publish : Nat) (hk : Keeps r0 s)  :
    Keeps r0 (State.capRecord s n b f status ended publish) := by
  unfold State.capRecord
  with_reducible repeat' (first | assumption | apply State.streamStore_keeps)

theorem State.capDrop_keeps {r0 : State} {s : State} (n : Nat) (f : Frame) (stale : Bool) (hk : Keeps r0 s)  :
    Keeps r0 (State.capDrop s n f stale) := by
  unfold State.capDrop
  with_reducible repeat' (first
    | assumption | apply State.capRecord_keeps | apply State.raise_keeps | apply State.putCap_keeps
    | apply State.set_keeps | apply State.capSync_keeps | split | (extract_lets) | refine keeps_mk ?_ ?_ ?_ ?_
    | exact Nat.le_refl _ | exact Nat.le_add_right _ _)

theorem State.capDecide_keeps {r0 : State} {s : State} (n : Nat) (f : Frame) (ended : Nat) (hk : Keeps r0 s)  :
    Keeps r0 (State.capDecide s n f ended) := by
  unfold State.capDecide
  with_reducible repeat' (first
    | assumption | apply State.capDrop_keeps | apply State.putCap_keeps | apply State.capRecord_keeps
    | apply State.signal_keeps | apply State.set_keeps | apply State.capSync_keeps | apply State.doIf_keeps
    | apply State.capStop_keeps | refine keeps_ite ?_ ?_ | split | (extract_lets) | (intro))

theorem State.capClose_keeps {r0 : State} {s : State} (n : Nat) (hk : Keeps r0 s)  :
    Keeps r0 (State.capClose s n) := by
  unfold State.capClose
  with_reducible repeat' (first | assumption | apply State.capDrop_keeps | apply State.capDecide_keeps | split)

theorem execFrameStartPacket_keeps {r0 : State} (stream : Nat) (vc : Nat) (csiFrame : Nat) (corrected : Bool) {s : State} (hk : Keeps r0 s)  :
    ∀ t, execFrameStartPacket stream vc csiFrame corrected s = .next t → Keeps r0 t := by
  unfold execFrameStartPacket
  refine keeps_next ?_
  with_reducible repeat' (first
    | assumption | apply State.raise_keeps | apply State.capClose_keeps | apply State.capStop_keeps
    | apply State.set_keeps | apply State.doIf_keeps | apply State.putCap_keeps | apply State.capSync_keeps
    | refine keeps_ite ?_ ?_ | split | (extract_lets) | (intro))

theorem execLinePacket_keeps {r0 : State} (stream : Nat) (vc : Nat) (dt : Nat) (header : CsiHeader) (checksumOk : Bool) (pixels : List Nat) {s : State} (hk : Keeps r0 s)  :
    ∀ t, execLinePacket stream vc dt header checksumOk pixels s = .next t → Keeps r0 t := by
  unfold execLinePacket
  refine keeps_next ?_
  with_reducible repeat' (first
    | assumption | apply State.raise_keeps | apply State.putCap_keeps | apply State.doIf_keeps
    | apply State.streamStore_keeps | refine keeps_ite ?_ ?_ | split | (extract_lets) | (intro))

theorem execFrameEndPacket_keeps {r0 : State} (stream : Nat) (vc : Nat) (corrected : Bool) {s : State} (hk : Keeps r0 s)  :
    ∀ t, execFrameEndPacket stream vc corrected s = .next t → Keeps r0 t := by
  unfold execFrameEndPacket
  refine keeps_next ?_
  with_reducible repeat' (first
    | assumption | apply State.raise_keeps | apply State.doIf_keeps | apply State.putCap_keeps
    | refine keeps_ite ?_ ?_ | split | (extract_lets) | (intro))

theorem execPublicationDecision_keeps {r0 : State} (stream : Nat) {s : State} (hk : Keeps r0 s)  :
    ∀ t, execPublicationDecision stream s = .next t → Keeps r0 t := by
  unfold execPublicationDecision
  refine keeps_next ?_
  with_reducible repeat' (first | assumption | apply State.capDecide_keeps | split)

theorem execDsEnable_keeps {r0 : State} (stream : Nat) {s : State} (hk : Keeps r0 s)  :
    ∀ t, execDsEnable stream s = .next t → Keeps r0 t := by
  unfold execDsEnable
  refine keeps_next ?_
  with_reducible repeat' (first
    | assumption | apply State.host_keeps | apply State.set_keeps | apply State.putDs_keeps | apply State.dsSync_keeps
    | apply State.register_keeps | apply State.settle_keeps | apply State.raise_keeps | split | (extract_lets)
    | (intro))

theorem State.dsStop_keeps {r0 : State} {s : State} (d : Nat) (hk : Keeps r0 s)  :
    Keeps r0 (State.dsStop s d) := by
  unfold State.dsStop
  with_reducible repeat' (first
    | assumption | apply State.putDs_keeps | apply State.dsSync_keeps | apply State.withdraw_keeps)

theorem execDsDisable_keeps {r0 : State} (stream : Nat) {s : State} (hk : Keeps r0 s)  :
    ∀ t, execDsDisable stream s = .next t → Keeps r0 t := by
  unfold execDsDisable
  refine keeps_next ?_
  with_reducible repeat' (first
    | assumption | apply State.host_keeps | apply State.set_keeps | apply State.putDs_keeps | apply State.dsStop_keeps
    | split | (extract_lets) | (intro))

theorem State.dsFail_keeps {r0 : State} {s : State} (d : Nat) (x : Sample) (beats : Nat) (status : Nat) (hk : Keeps r0 s)  :
    Keeps r0 (State.dsFail s d x beats status) := by
  unfold State.dsFail
  with_reducible repeat' (first
    | assumption | apply State.streamStore_keeps | apply State.set_keeps | apply State.raise_keeps)

theorem State.dsCharge_keeps {r0 : State} {s : State} (d : Nat) (v : Sample) (beats : Nat) (hk : Keeps r0 s)  :
    Keeps r0 (State.dsCharge s d v beats) := by
  unfold State.dsCharge
  with_reducible repeat' (first
    | assumption | apply State.chargeBeats_keeps | apply State.countBeats_keeps | apply State.accum_keeps
    | refine keeps_ite ?_ ?_ | refine keeps_ite_fst ?_ ?_ | refine keeps_fst (by assumption) ?_ | split
    | (extract_lets) | refine keeps_mk ?_ ?_ ?_ ?_ | exact Nat.le_refl _ | exact Nat.le_add_right _ _ | (intro))

theorem State.dsEnd_keeps {r0 : State} {s : State} (d : Nat) (serial : Nat) (beats : Nat) (status : Nat) (hk : Keeps r0 s)  :
    Keeps r0 (State.dsEnd s d serial beats status) := by
  unfold State.dsEnd
  with_reducible repeat' (first
    | assumption | apply State.dsCharge_keeps | apply State.doIf_keeps | apply State.dsFail_keeps
    | apply State.putDs_keeps | refine keeps_ite ?_ ?_ | refine keeps_ite_fst ?_ ?_
    | refine keeps_fst (by assumption) ?_ | split | (extract_lets) | refine keeps_mk ?_ ?_ ?_ ?_ | exact Nat.le_refl _
    | exact Nat.le_add_right _ _ | (intro))

theorem State.dsWrite_keeps {r0 : State} {s : State} (d : Nat) (b : Nat) (k : Nat) (x : Sample) (hk : Keeps r0 s)  :
    Keeps r0 (State.dsWrite s d b k x) := by
  unfold State.dsWrite
  with_reducible repeat' (first
    | assumption | apply State.forEach_keeps | apply State.streamStore_keeps | (extract_lets) | (intro))

theorem State.dsBuffer_keeps {r0 : State} {s : State} (d : Nat) (first : Sample) (hk : Keeps r0 s)  :
    ∀ x, State.dsBuffer s d first = some x → Keeps r0 x.1 := by
  unfold State.dsBuffer
  with_reducible repeat' (first
    | exact keeps_none | refine keeps_some ?_ | refine keeps_ite_opt ?_ ?_ | assumption | apply State.set_keeps
    | apply State.putDs_keeps | apply State.dsSync_keeps | split | (extract_lets))

theorem State.dsEpoch_keeps {r0 : State} {s : State} (d : Nat) (pos : Nat) (hk : Keeps r0 s)  :
    Keeps r0 (State.dsEpoch s d pos) := by
  unfold State.dsEpoch
  with_reducible repeat' (first
    | assumption | apply State.putDs_keeps | apply State.set_keeps | apply State.raise_keeps | refine keeps_ite ?_ ?_)

theorem State.dsTaken_keeps {r0 : State} {s : State} (d : Nat) (v : Sample) (m : Nat) (hk : Keeps r0 s)  :
    Keeps r0 (State.dsTaken s d v m) := by
  unfold State.dsTaken
  with_reducible repeat' (first
    | assumption | apply State.putDs_keeps | apply State.set_keeps | apply State.dsEpoch_keeps)

theorem State.dsPlace_keeps {r0 : State} {s : State} (d : Nat) (b : Batch) (v : Sample) (status : Nat) (hk : Keeps r0 s)  :
    Keeps r0 (State.dsPlace s d b v status) := by
  unfold State.dsPlace
  with_reducible repeat' (first
    | assumption | apply State.doIf_keeps | apply State.dsWrite_keeps | apply State.putDs_keeps | (extract_lets)
    | (intro))

theorem State.dsFold_keeps {r0 : State} {s : State} (d : Nat) (y0 : Nat) (hk : Keeps r0 s)  :
    Keeps r0 (State.dsFold s d y0) := by
  induction y0 generalizing s d with
  | zero =>
    unfold State.dsFold
    with_reducible repeat' assumption
  | succ fuel ih =>
    unfold State.dsFold
    with_reducible repeat' (first
      | assumption | apply ih | apply State.dsTaken_keeps | apply State.dsPlace_keeps
      | refine keeps_opt_fst (by assumption) (State.dsBuffer_keeps _ _ ?_) | refine keeps_ite ?_ ?_ | split
      | (extract_lets))

theorem State.dsAdvance_keeps {r0 : State} {s : State} (d : Nat) (hk : Keeps r0 s)  :
    Keeps r0 (State.dsAdvance s d) := by
  unfold State.dsAdvance
  with_reducible repeat' (first | assumption | apply State.dsFold_keeps)

theorem execDsSampleStart_keeps {r0 : State} (stream : Nat) (position : Nat) {s : State} (hk : Keeps r0 s)  :
    ∀ t, execDsSampleStart stream position s = .next t → Keeps r0 t := by
  unfold execDsSampleStart
  refine keeps_next ?_
  with_reducible repeat' (first
    | assumption | apply State.dsAdvance_keeps | apply State.putDs_keeps | apply State.set_keeps
    | apply State.dsEnd_keeps | refine keeps_ite ?_ ?_)

theorem execDsSampleEnd_keeps {r0 : State} (stream : Nat) (position : Nat) (epoch : Nat) {s : State} (hk : Keeps r0 s)  :
    ∀ t, execDsSampleEnd stream position epoch s = .next t → Keeps r0 t := by
  unfold execDsSampleEnd
  refine keeps_next ?_
  with_reducible repeat' (first
    | assumption | apply State.dsEnd_keeps | apply State.dsAdvance_keeps | refine keeps_ite ?_ ?_ | split)

theorem execDecodeBudget_keeps {r0 : State} (stream : Nat) (position : Nat) {s : State} (hk : Keeps r0 s)  :
    ∀ t, execDecodeBudget stream position s = .next t → Keeps r0 t := by
  unfold execDecodeBudget
  refine keeps_next ?_
  with_reducible repeat' (first
    | assumption | apply State.dsEnd_keeps | apply State.dsAdvance_keeps | refine keeps_ite ?_ ?_ | split)

theorem execBatchPublish_keeps {r0 : State} (stream : Nat) {s : State} (hk : Keeps r0 s)  :
    ∀ t, execBatchPublish stream s = .next t → Keeps r0 t := by
  unfold execBatchPublish
  refine keeps_next ?_
  with_reducible repeat' (first
    | assumption | apply State.dsAdvance_keeps | apply State.streamStore_keeps | apply State.putDs_keeps
    | apply State.dsSync_keeps | apply State.signal_keeps | apply State.dsStop_keeps | refine keeps_ite ?_ ?_ | split
    | (extract_lets))

end Sys2Proof.Machine
end

