-- ==== Sys2Proof/Laws/KeepsRings.lean ====
section
/-! SUPPORT. Keeps for the operations of Machine/Rings.lean. -/

namespace Sys2Proof.Machine

theorem State.doorbellInvalid_keeps {r0 : State} {s : State} (c : Nat) (ring : Nat) (value : Nat) (hk : Keeps r0 s)  :
    Keeps r0 (State.doorbellInvalid s c ring value) := by
  unfold State.doorbellInvalid
  with_reducible repeat' (first
    | assumption | apply State.set_keeps | apply State.doIf_keeps | apply State.raise_keeps | (extract_lets)
    | (intro))

theorem State.doorbell_keeps {r0 : State} {s : State} (c : Nat) (q : Nat) (offset : Nat) (size : Nat) (f : State → State) (hk : Keeps r0 s) (hf : ∀ (t : State), Keeps r0 t → Keeps r0 (f t)) :
    Keeps r0 (State.doorbell s c q offset size f) := by
  unfold State.doorbell
  with_reducible repeat' (first | assumption | apply hf | apply State.host_keeps | split | (extract_lets) | (intro))

theorem execSqDoorbell_keeps {r0 : State} (client : Nat) (sq : Nat) (offset : Nat) (size : Nat) (value : Nat) {s : State} (hk : Keeps r0 s)  :
    ∀ t, execSqDoorbell client sq offset size value s = .next t → Keeps r0 t := by
  unfold execSqDoorbell
  refine keeps_next ?_
  with_reducible repeat' (first
    | assumption | apply State.doorbell_keeps | apply State.set_keeps | apply State.doorbellInvalid_keeps | split
    | (extract_lets) | (intro))

theorem execCqDoorbell_keeps {r0 : State} (client : Nat) (cq : Nat) (offset : Nat) (size : Nat) (value : Nat) {s : State} (hk : Keeps r0 s)  :
    ∀ t, execCqDoorbell client cq offset size value s = .next t → Keeps r0 t := by
  unfold execCqDoorbell
  refine keeps_next ?_
  with_reducible repeat' (first
    | assumption | apply State.doorbell_keeps | apply State.set_keeps | apply State.doorbellInvalid_keeps | split
    | (extract_lets) | (intro))

theorem State.recordOnly_keeps {r0 : State} {s : State} (c : Nat) (q : Nat) (seq : Nat) (status : Nat) (d : List Byte) (hk : Keeps r0 s)  :
    Keeps r0 (State.recordOnly s c q seq status d) := by
  unfold State.recordOnly
  with_reducible repeat' (first | assumption | (extract_lets) | refine keeps_mk ?_ ?_ ?_ ?_ | exact Nat.le_refl _)

theorem State.admitDescriptor_keeps {r0 : State} {s : State} (c : Nat) (q : Nat) (seq : Nat) (d : List Byte) (hk : Keeps r0 s)  :
    Keeps r0 (State.admitDescriptor s c q seq d) := by
  unfold State.admitDescriptor
  with_reducible repeat' (first | assumption | apply State.addCmd_keeps | apply State.fillQueues_keeps)

theorem State.judge_keeps {r0 : State} {s : State} (c : Nat) (q : Nat) (seq : Nat) (d : List Byte) (hk : Keeps r0 s)  :
    Keeps r0 (State.judge s c q seq d) := by
  unfold State.judge
  with_reducible repeat' (first
    | assumption | apply State.recordOnly_keeps | apply State.raise_keeps | apply State.admitDescriptor_keeps
    | refine keeps_ite ?_ ?_ | split)

theorem State.fetch_keeps {r0 : State} {s : State} (c : Nat) (q : Nat) (hk : Keeps r0 s)  :
    Keeps r0 (State.fetch s c q) := by
  unfold State.fetch
  with_reducible repeat' (first | assumption | apply State.set_keeps | apply State.judge_keeps)

theorem execDescriptorFetch_keeps {r0 : State} (readFails : Bool) {s : State} (hk : Keeps r0 s)  :
    ∀ t, execDescriptorFetch readFails s = .next t → Keeps r0 t := by
  unfold execDescriptorFetch
  refine keeps_next ?_
  with_reducible repeat' (first
    | assumption | apply State.set_keeps | apply State.raise_keeps | apply State.fetch_keeps | refine keeps_ite ?_ ?_
    | split | (extract_lets) | refine keeps_mk ?_ ?_ ?_ ?_ | exact Nat.le_refl _)

theorem State.sendCq_keeps {r0 : State} {s : State} (c : Nat) (q : Nat) (hk : Keeps r0 s)  :
    Keeps r0 (State.sendCq s c q) := by
  unfold State.sendCq
  with_reducible repeat' (first
    | assumption | apply State.sendVector_keeps | (extract_lets) | refine keeps_mk ?_ ?_ ?_ ?_ | exact Nat.le_refl _)

theorem State.coalesce_keeps {r0 : State} {s : State} (c : Nat) (q : Nat) (irq : Bool) (hk : Keeps r0 s)  :
    Keeps r0 (State.coalesce s c q irq) := by
  unfold State.coalesce
  with_reducible repeat' (first
    | assumption | apply State.sendCq_keeps | refine keeps_ite ?_ ?_ | (extract_lets) | refine keeps_mk ?_ ?_ ?_ ?_
    | exact Nat.le_refl _)

theorem State.putRecord_keeps {r0 : State} {s : State} (r : Record) (hk : Keeps r0 s)  :
    Keeps r0 (State.putRecord s r) := by
  unfold State.putRecord
  with_reducible repeat' (first
    | assumption | apply State.store_keeps | apply State.set_keeps | apply State.coalesce_keeps)

theorem State.recordsWait_keeps {r0 : State} {s : State} (client : Nat) (cq : Nat) (hk : Keeps r0 s)  :
    Keeps r0 (State.recordsWait s client cq) := by
  unfold State.recordsWait
  with_reducible repeat' (first
    | assumption | apply State.raiseN_keeps | (extract_lets) | refine keeps_mk ?_ ?_ ?_ ?_ | exact Nat.le_refl _)

theorem execCompletionRecordWrite_keeps {r0 : State} (client : Nat) (cq : Nat) {s : State} (hk : Keeps r0 s)  :
    ∀ t, execCompletionRecordWrite client cq s = .next t → Keeps r0 t := by
  unfold execCompletionRecordWrite
  refine keeps_next ?_
  with_reducible repeat' (first
    | assumption | apply State.recordsWait_keeps | apply State.putRecord_keeps | refine keeps_ite ?_ ?_ | split
    | (extract_lets) | refine keeps_mk ?_ ?_ ?_ ?_ | exact Nat.le_refl _)

theorem execCoalTimer_keeps {r0 : State} (client : Nat) (cq : Nat) {s : State} (hk : Keeps r0 s)  :
    ∀ t, execCoalTimer client cq s = .next t → Keeps r0 t := by
  unfold execCoalTimer
  refine keeps_next ?_
  with_reducible repeat' (first
    | assumption | apply State.sendCq_keeps | refine keeps_ite ?_ ?_ | split | (extract_lets))

theorem State.unmask_keeps {r0 : State} {s : State} (c : Nat) (v : Nat) (hk : Keeps r0 s)  :
    Keeps r0 (State.unmask s c v) := by
  unfold State.unmask
  with_reducible repeat' (first
    | assumption | apply State.set_keeps | apply State.sendVector_keeps | refine keeps_ite ?_ ?_)

theorem execMsixUnmask_keeps {r0 : State} (client : Nat) (vector : Nat) {s : State} (hk : Keeps r0 s)  :
    ∀ t, execMsixUnmask client vector s = .next t → Keeps r0 t := by
  unfold execMsixUnmask
  refine keeps_next ?_
  with_reducible repeat' (first
    | assumption | apply State.host_keeps | apply State.unmask_keeps | split | (extract_lets) | (intro))

theorem State.ringRefused_keeps {r0 : State} {s : State} (c : Nat) (hk : Keeps r0 s)  :
    Keeps r0 (State.ringRefused s c) := by
  unfold State.ringRefused
  with_reducible repeat' (first | assumption | apply State.raise_keeps)

theorem State.sqEnable_keeps {r0 : State} {s : State} (c : Nat) (q : Nat) (hk : Keeps r0 s)  :
    Keeps r0 (State.sqEnable s c q) := by
  unfold State.sqEnable
  with_reducible repeat' (first
    | assumption | apply State.set_keeps | apply State.ringRefused_keeps | refine keeps_ite ?_ ?_)

theorem State.cqEnable_keeps {r0 : State} {s : State} (c : Nat) (q : Nat) (hk : Keeps r0 s)  :
    Keeps r0 (State.cqEnable s c q) := by
  unfold State.cqEnable
  with_reducible repeat' (first
    | assumption | apply State.set_keeps | apply State.ringRefused_keeps | refine keeps_ite ?_ ?_ | (extract_lets)
    | refine keeps_mk ?_ ?_ ?_ ?_ | exact Nat.le_refl _)

theorem State.cqDisable_keeps {r0 : State} {s : State} (c : Nat) (q : Nat) (hk : Keeps r0 s)  :
    Keeps r0 (State.cqDisable s c q) := by
  unfold State.cqDisable
  with_reducible repeat' (first
    | assumption | apply State.ringRefused_keeps | apply State.set_keeps | refine keeps_ite ?_ ?_)

theorem State.ringHost_keeps {r0 : State} {s : State} (c : Nat) (q : Nat) (f : State → State) (hk : Keeps r0 s) (hf : ∀ (t : State), Keeps r0 t → Keeps r0 (f t)) :
    Keeps r0 (State.ringHost s c q f) := by
  unfold State.ringHost
  with_reducible repeat' (first | assumption | apply hf | apply State.host_keeps | split | (extract_lets) | (intro))

theorem execSqEnable_keeps {r0 : State} (client : Nat) (sq : Nat) {s : State} (hk : Keeps r0 s)  :
    ∀ t, execSqEnable client sq s = .next t → Keeps r0 t := by
  unfold execSqEnable
  refine keeps_next ?_
  with_reducible repeat' (first
    | assumption | apply State.ringHost_keeps | apply State.sqEnable_keeps | (extract_lets) | (intro))

theorem execSqDisable_keeps {r0 : State} (client : Nat) (sq : Nat) {s : State} (hk : Keeps r0 s)  :
    ∀ t, execSqDisable client sq s = .next t → Keeps r0 t := by
  unfold execSqDisable
  refine keeps_next ?_
  with_reducible repeat' (first
    | assumption | apply State.ringHost_keeps | apply State.set_keeps | (extract_lets) | (intro))

theorem execCqEnable_keeps {r0 : State} (client : Nat) (cq : Nat) {s : State} (hk : Keeps r0 s)  :
    ∀ t, execCqEnable client cq s = .next t → Keeps r0 t := by
  unfold execCqEnable
  refine keeps_next ?_
  with_reducible repeat' (first
    | assumption | apply State.ringHost_keeps | apply State.cqEnable_keeps | (extract_lets) | (intro))

theorem execCqDisable_keeps {r0 : State} (client : Nat) (cq : Nat) {s : State} (hk : Keeps r0 s)  :
    ∀ t, execCqDisable client cq s = .next t → Keeps r0 t := by
  unfold execCqDisable
  refine keeps_next ?_
  with_reducible repeat' (first
    | assumption | apply State.ringHost_keeps | apply State.cqDisable_keeps | (extract_lets) | (intro))

theorem State.functionReset_keeps {r0 : State} {s : State} (c : Nat) (hk : Keeps r0 s)  :
    Keeps r0 (State.functionReset s c) := by
  unfold State.functionReset
  extract_lets gone t u
  apply State.fillQueues_keeps
  have ht : Keeps r0 t := State.forEach_keeps _ _ hk (fun t a h => State.dropCmd_keeps _ (State.withdraw_keeps _ h))
  exact ⟨ht.pending, ht.mem, fun x => Sparse.sorted_filter _ (ht.regs x), ht.time, ht.uid, ht.free⟩


theorem execFunctionLevelReset_keeps {r0 : State} (client : Nat) {s : State} (hk : Keeps r0 s)  :
    ∀ t, execFunctionLevelReset client s = .next t → Keeps r0 t := by
  unfold execFunctionLevelReset
  refine keeps_next ?_
  with_reducible repeat' (first
    | assumption | apply State.host_keeps | apply State.functionReset_keeps | split | (extract_lets) | (intro))

theorem State.disableFunction_keeps {r0 : State} {s : State} (c : Nat) (hk : Keeps r0 s)  :
    Keeps r0 (State.disableFunction s c) := by
  unfold State.disableFunction
  with_reducible repeat' (first
    | assumption | apply State.functionReset_keeps | apply State.forEach_keeps | apply State.set_keeps
    | refine keeps_ite ?_ ?_ | refine keeps_ite_fst ?_ ?_ | refine keeps_fst (by assumption) ?_ | split
    | (extract_lets) | refine keeps_mk ?_ ?_ ?_ ?_ | exact Nat.le_refl _ | exact Nat.le_add_right _ _ | (intro))

theorem State.setFunctions_keeps {r0 : State} {s : State} (n : Fin 16) (hk : Keeps r0 s)  :
    Keeps r0 (State.setFunctions s n) := by
  unfold State.setFunctions
  with_reducible repeat' (first
    | assumption | apply State.forEach_keeps | apply State.disableFunction_keeps | refine keeps_ite ?_ ?_
    | refine keeps_ite_fst ?_ ?_ | refine keeps_fst (by assumption) ?_ | split | (extract_lets)
    | refine keeps_mk ?_ ?_ ?_ ?_ | exact Nat.le_refl _ | exact Nat.le_add_right _ _ | (intro))

theorem State.sriovWrite_keeps {r0 : State} {s : State} (instant : Nat) (hk : Keeps r0 s)  :
    Keeps r0 (State.sriovWrite s instant) := by
  unfold State.sriovWrite
  with_reducible repeat' (first
    | assumption | apply State.setFunctions_keeps | refine keeps_ite ?_ ?_ | refine keeps_ite_fst ?_ ?_
    | refine keeps_fst (by assumption) ?_ | split | (extract_lets) | refine keeps_mk ?_ ?_ ?_ ?_ | exact Nat.le_refl _
    | exact Nat.le_add_right _ _ | (intro))

theorem State.tick_keeps {r0 : State} {s : State} (hk : Keeps r0 s)  :
    Keeps r0 (State.tick s) := by
  unfold State.tick
  with_reducible repeat' (first
    | assumption | apply State.passTick_keeps | apply State.sriovWrite_keeps | refine keeps_ite ?_ ?_
    | refine keeps_ite_fst ?_ ?_ | refine keeps_fst (by assumption) ?_ | split | (extract_lets)
    | refine keeps_mk ?_ ?_ ?_ ?_ | exact Nat.le_refl _ | exact Nat.le_add_right _ _ | (intro))

theorem execFlrTimeout_keeps {r0 : State} (client : Nat) {s : State} (hk : Keeps r0 s)  :
    ∀ t, execFlrTimeout client s = .next t → Keeps r0 t := by
  unfold execFlrTimeout
  refine keeps_next ?_
  with_reducible repeat' (first
    | assumption | apply State.jobFault_keeps | apply State.settle_keeps | refine keeps_ite ?_ ?_ | split
    | (extract_lets) | refine keeps_mk ?_ ?_ ?_ ?_ | exact Nat.le_refl _)

end Sys2Proof.Machine
end

