-- ==== Sys2Proof/Laws/KeepsRegisters.lean ====
section
/-! SUPPORT. Keeps for the operations of Machine/Registers.lean. -/

namespace Sys2Proof.Machine

theorem State.clearRc_keeps {r0 : State} {s : State} (r : Reg) (i : Nat) (hk : Keeps r0 s)  :
    Keeps r0 (State.clearRc s r i) := by
  unfold State.clearRc
  with_reducible repeat' (first
    | assumption | apply State.forEach_keeps | apply State.set_keeps | split | (extract_lets) | (intro))

theorem State.readLow_keeps {r0 : State} {s : State} (r : Reg) (i : Nat) (addr : Nat) (hk : Keeps r0 s)  :
    Keeps r0 (State.readLow s r i addr) := by
  unfold State.readLow
  with_reducible repeat' (first
    | assumption | refine keeps_ite ?_ ?_ | split | (extract_lets) | refine keeps_mk ?_ ?_ ?_ ?_
    | exact Nat.le_refl _)

theorem keeps_nextOr {r s : State} {o : Host.Outcome State Fault Refusal} (h : ∀ t, o = .next t → Keeps r t)
    (hs : Keeps r s) : Keeps r (nextOr s o) := by
  cases o with
  | next t => exact h t rfl
  | fault f => exact hs
  | refused f => exact hs


theorem State.readHigh_keeps {r0 : State} {s : State} (r : Reg) (i : Nat) (addr : Nat) (hk : Keeps r0 s)  :
    Keeps r0 (State.readHigh s r i addr) := by
  unfold State.readHigh
  with_reducible repeat' (first
    | assumption | refine keeps_nextOr (execTinStampHighRead_keeps _ ?_) ?_ | refine keeps_ite ?_ ?_ | (extract_lets)
    | refine keeps_mk ?_ ?_ ?_ ?_ | exact Nat.le_refl _)

theorem State.readBar_keeps {r0 : State} {s : State} (addr : Nat) (size : Nat) (hk : Keeps r0 s)  :
    Keeps r0 (State.readBar s addr size) := by
  unfold State.readBar
  with_reducible repeat' (first
    | assumption | apply State.readHigh_keeps | apply State.readLow_keeps | apply State.clearRc_keeps
    | refine keeps_ite ?_ ?_ | split | (extract_lets) | refine keeps_mk ?_ ?_ ?_ ?_ | exact Nat.le_refl _)

theorem State.readAt_keeps {r0 : State} {s : State} (fn : Nat) (offset : Nat) (size : Nat) (hk : Keeps r0 s)  :
    Keeps r0 (State.readAt s fn offset size) := by
  unfold State.readAt
  with_reducible repeat' (first
    | assumption | apply State.readBar_keeps | split | (extract_lets) | refine keeps_mk ?_ ?_ ?_ ?_
    | exact Nat.le_refl _)

theorem execLowHalfRead_keeps {r0 : State} (fn : Nat) (offset : Nat) {s : State} (hk : Keeps r0 s)  :
    ∀ t, execLowHalfRead fn offset s = .next t → Keeps r0 t := by
  unfold execLowHalfRead
  refine keeps_next ?_
  with_reducible repeat' (first | assumption | apply State.readAt_keeps)

theorem execRcCounterRead_keeps {r0 : State} (fn : Nat) (offset : Nat) {s : State} (hk : Keeps r0 s)  :
    ∀ t, execRcCounterRead fn offset s = .next t → Keeps r0 t := by
  unfold execRcCounterRead
  refine keeps_next ?_
  with_reducible repeat' (first | assumption | apply State.readAt_keeps)

theorem State.reportRefused_keeps {r0 : State} {s : State} (r : Reg) (i : Nat) (hk : Keeps r0 s)  :
    Keeps r0 (State.reportRefused s r i) := by
  unfold State.reportRefused
  with_reducible repeat' (first
    | assumption | apply State.raise_keeps | refine keeps_ite ?_ ?_ | refine keeps_ite_fst ?_ ?_
    | refine keeps_fst (by assumption) ?_ | split | (extract_lets) | refine keeps_mk ?_ ?_ ?_ ?_ | exact Nat.le_refl _
    | exact Nat.le_add_right _ _ | (intro))

theorem State.reportLocked_keeps {r0 : State} {s : State} (r : Reg) (i : Nat) (hk : Keeps r0 s)  :
    Keeps r0 (State.reportLocked s r i) := by
  unfold State.reportLocked
  with_reducible repeat' (first
    | assumption | apply State.set_keeps | apply State.raise_keeps | refine keeps_ite ?_ ?_ | (extract_lets))

theorem Written.field_keeps {r0 : State} {w : Written} (cfg : Bool) (i v : Nat) (f : Field) (hk : Keeps r0 w.state) :
    Keeps r0 (w.field cfg i v f).state := by
  unfold Written.field
  repeat' (first | with_reducible assumption | with_reducible apply State.set_keeps | split | extract_lets | dsimp only)

theorem Written.fields_keeps {r0 : State} {w : Written} (cfg : Bool) (i v : Nat) (fs : List Field)
    (hk : Keeps r0 w.state) : Keeps r0 (fs.foldl (fun (w : Written) f => w.field cfg i v f) w).state := by
  induction fs generalizing w with
  | nil => exact hk
  | cons f rest ih => exact ih (Written.field_keeps cfg i v f hk)

theorem Written.report_keeps {r0 : State} (w : Written) (r : Reg) (i : Nat) (hk : Keeps r0 w.state) :
    Keeps r0 (w.report r i) :=
  keeps_ite (State.reportLocked_keeps _ _ (keeps_ite (State.reportRefused_keeps _ _ hk) hk))
    (keeps_ite (State.reportRefused_keeps _ _ hk) hk)


theorem State.writeFields_keeps {r0 : State} {s : State} (r : Reg) (i : Nat) (v : Nat) (fs : List Field) (hk : Keeps r0 s)  :
    Keeps r0 (State.writeFields s r i v fs) := by
  exact Written.report_keeps _ _ _ (Written.fields_keeps _ _ _ _ hk)


theorem State.writePlain_keeps {r0 : State} {s : State} (r : Reg) (i : Nat) (v : Nat) (acting : List Field) (hk : Keeps r0 s)  :
    Keeps r0 (State.writePlain s r i v acting) := by
  unfold State.writePlain
  with_reducible repeat' (first | assumption | apply State.writeFields_keeps)

theorem State.writeBut_keeps {r0 : State} {s : State} (r : Reg) (i : Nat) (v : Nat) (refused : List Field) (hk : Keeps r0 s)  :
    Keeps r0 (State.writeBut s r i v refused) := by
  exact Written.report_keeps _ _ _ (Written.fields_keeps _ _ _ _ hk)


theorem State.writeEn_keeps {r0 : State} {s : State} (r : Reg) (i : Nat) (v : Nat) (en : Field) (on : State → State) (off : State → State) (hk : Keeps r0 s) (hon : ∀ (t : State), Keeps r0 t → Keeps r0 (on t)) (hoff : ∀ (t : State), Keeps r0 t → Keeps r0 (off t)) :
    Keeps r0 (State.writeEn s r i v en on off) := by
  unfold State.writeEn
  have hw : Keeps r0 (s.writing r i v false (r.others [en])).state := Written.fields_keeps _ _ _ _ hk
  generalize s.writing r i v false (r.others [en]) = w at hw
  have ht : Keeps r0 (if bitsOf v en.lo 1 = 1 then on w.state else off w.state) := keeps_ite (hon _ hw) (hoff _ hw)
  exact keeps_ite (Written.report_keeps _ _ _ ht) ht


theorem State.writeStateReq_keeps {r0 : State} {s : State} (v : Nat) (hk : Keeps r0 s)  :
    Keeps r0 (State.writeStateReq s v) := by
  unfold State.writeStateReq
  with_reducible repeat' (first
    | assumption | apply State.hostReq_keeps | refine keeps_nextOr (execStateReqRun_keeps ?_) ?_
    | refine keeps_nextOr (execStateReqStandby_keeps ?_) ?_ | refine keeps_nextOr (execStateReqSleep_keeps ?_) ?_
    | refine keeps_nextOr (execStateReqReleaseSafe_keeps _ ?_) ?_
    | refine keeps_nextOr (execStateReqReset_keeps ?_) ?_ | split | (extract_lets) | refine keeps_mk ?_ ?_ ?_ ?_
    | exact Nat.le_refl _ | exact Nat.le_add_right _ _ | (intro))

theorem State.writeProto_keeps {r0 : State} {s : State} (c : Nat) (v : Nat) (hk : Keeps r0 s)  :
    Keeps r0 (State.writeProto s c v) := by
  unfold State.writeProto
  with_reducible repeat' (first
    | assumption | apply State.ringRefused_keeps | apply State.set_keeps | refine keeps_ite ?_ ?_)

theorem State.writeJob_keeps {r0 : State} {s : State} (r : Reg) (i : Nat) (v : Nat) (hk : Keeps r0 s)  :
    Keeps r0 (State.writeJob s r i v) := by
  unfold State.writeJob
  with_reducible repeat' (first
    | assumption | apply State.writeBut_keeps | apply State.clearNdc_keeps | apply State.set_keeps
    | refine keeps_ite ?_ ?_ | refine keeps_ite_fst ?_ ?_)

theorem State.writeWindowReg_keeps {r0 : State} {s : State} (r : Reg) (i : Nat) (v : Nat) (hk : Keeps r0 s)  :
    Keeps r0 (State.writeWindowReg s r i v) := by
  unfold State.writeWindowReg
  with_reducible repeat' (first
    | assumption | apply State.writeProto_keeps | apply State.writeEn_keeps | apply State.sqEnable_keeps
    | apply State.set_keeps | apply State.cqEnable_keeps | apply State.cqDisable_keeps | apply State.writeJob_keeps
    | apply State.doIf_keeps | apply State.releaseJob_keeps | apply State.unmask_keeps | apply State.writePlain_keeps
    | refine keeps_ite ?_ ?_ | (extract_lets) | refine keeps_mk ?_ ?_ ?_ ?_ | exact Nat.le_refl _ | (intro))

theorem State.writeHeddle_keeps {r0 : State} {s : State} (r : Reg) (i : Nat) (v : Nat) (hk : Keeps r0 s)  :
    Keeps r0 (State.writeHeddle s r i v) := by
  unfold State.writeHeddle
  with_reducible repeat' (first
    | assumption | apply State.doIf_keeps | apply State.loadTable_keeps | apply State.armTable_keeps
    | apply State.clearNdc_keeps | apply State.writePlain_keeps | refine keeps_ite ?_ ?_ | (extract_lets) | (intro))

theorem State.writeWhorl_keeps {r0 : State} {s : State} (r : Reg) (i : Nat) (v : Nat) (hk : Keeps r0 s)  :
    Keeps r0 (State.writeWhorl s r i v) := by
  unfold State.writeWhorl
  with_reducible repeat' (first
    | assumption | apply State.writeDomain_keeps | apply State.writeOfs_keeps | apply State.writeRate_keeps
    | apply State.writePlain_keeps | refine keeps_nextOr (execWhorlStepWrite_keeps _ ?_) ?_ | refine keeps_ite ?_ ?_)

theorem State.writeWindow_keeps {r0 : State} {s : State} (k : Nat) (f : Window → Window) (hk : Keeps r0 s)  :
    Keeps r0 (State.writeWindow s k f) := by
  unfold State.writeWindow
  with_reducible repeat' (first
    | assumption | apply State.putWindow_keeps | apply State.raise_keeps | refine keeps_ite ?_ ?_)

theorem State.writeWinCtrl_keeps {r0 : State} {s : State} (k : Nat) (v : Nat) (hk : Keeps r0 s)  :
    Keeps r0 (State.writeWinCtrl s k v) := by
  unfold State.writeWinCtrl
  with_reducible repeat' (first
    | assumption | apply State.raise_keeps | apply State.doIf_keeps | apply State.writeWindow_keeps
    | apply State.windowDrain_keeps | refine keeps_nextOr (execWinOpen_keeps _ _ ?_) ?_ | refine keeps_ite ?_ ?_
    | refine keeps_ite_fst ?_ ?_ | refine keeps_fst (by assumption) ?_ | split | (extract_lets)
    | refine keeps_mk ?_ ?_ ?_ ?_ | exact Nat.le_refl _ | exact Nat.le_add_right _ _ | (intro))

theorem State.writeTokenCmd_keeps {r0 : State} {s : State} (k : Nat) (v : Nat) (hk : Keeps r0 s)  :
    Keeps r0 (State.writeTokenCmd s k v) := by
  unfold State.writeTokenCmd
  with_reducible repeat' (first
    | assumption | apply State.assignToken_keeps | apply State.settle_keeps | apply State.releaseToken_keeps
    | apply State.tokenRefused_keeps | split)

theorem State.writeSkein_keeps {r0 : State} {s : State} (r : Reg) (i : Nat) (v : Nat) (hk : Keeps r0 s)  :
    Keeps r0 (State.writeSkein s r i v) := by
  unfold State.writeSkein
  with_reducible repeat' (first
    | assumption | apply State.writeTokenCmd_keeps | apply State.regionWrite_keeps | apply State.writeWinCtrl_keeps
    | apply State.writeWindow_keeps | apply State.count_keeps | apply State.noteHeads_keeps
    | apply State.writePlain_keeps | refine keeps_ite ?_ ?_ | refine keeps_ite_fst ?_ ?_
    | refine keeps_fst (by assumption) ?_ | split | (extract_lets) | refine keeps_mk ?_ ?_ ?_ ?_ | exact Nat.le_refl _
    | exact Nat.le_add_right _ _ | (intro))

theorem State.writeContext_keeps {r0 : State} {s : State} (n : Nat) (v : Nat) (hk : Keeps r0 s)  :
    Keeps r0 (State.writeContext s n v) := by
  unfold State.writeContext
  with_reducible repeat' (first
    | assumption | apply State.storeNat_keeps | apply State.doIf_keeps | apply State.raise_keeps
    | apply State.store_keeps | refine keeps_ite ?_ ?_ | (extract_lets) | (intro))

theorem State.writeRange_keeps {r0 : State} {s : State} (h : Nat) (n : Nat) (v : Nat) (hk : Keeps r0 s)  :
    Keeps r0 (State.writeRange s h n v) := by
  unfold State.writeRange
  with_reducible repeat' (first
    | assumption | apply State.store_keeps | apply State.raise_keeps | refine keeps_ite ?_ ?_)

theorem State.writePool_keeps {r0 : State} {s : State} (r : Reg) (i : Nat) (v : Nat) (hk : Keeps r0 s)  :
    Keeps r0 (State.writePool s r i v) := by
  unfold State.writePool
  with_reducible repeat' (first
    | assumption | apply State.writeEn_keeps | apply State.raise_keeps | apply State.writeContext_keeps
    | apply State.writeRange_keeps | apply State.writePlain_keeps
    | refine keeps_nextOr (execKvEnableWrite_keeps _ ?_) ?_ | refine keeps_nextOr (execFreeTailWrite_keeps _ ?_) ?_
    | refine keeps_nextOr (execDropStage_keeps _ ?_) ?_ | refine keeps_ite ?_ ?_ | split | (extract_lets) | (intro))

theorem State.writeFlyer_keeps {r0 : State} {s : State} (r : Reg) (i : Nat) (v : Nat) (hk : Keeps r0 s)  :
    Keeps r0 (State.writeFlyer s r i v) := by
  unfold State.writeFlyer
  with_reducible repeat' (first
    | assumption | apply State.loopOpenReq_keeps | apply State.loopRefuse_keeps | apply State.doIf_keeps
    | apply State.writePlain_keeps | refine keeps_nextOr (execLoopClose_keeps _ ?_) ?_
    | refine keeps_nextOr (execLoopRelease_keeps _ ?_) ?_ | refine keeps_nextOr (execOpenAll_keeps ?_) ?_
    | refine keeps_ite ?_ ?_ | split | (extract_lets) | (intro))

theorem State.writeCard_keeps {r0 : State} {s : State} (r : Reg) (i : Nat) (v : Nat) (hk : Keeps r0 s)  :
    Keeps r0 (State.writeCard s r i v) := by
  unfold State.writeCard
  with_reducible repeat' (first
    | assumption | apply State.writeEn_keeps | apply State.writePlain_keeps
    | refine keeps_nextOr (execCapEnable_keeps _ ?_) ?_ | refine keeps_nextOr (execCapDisable_keeps _ ?_) ?_
    | refine keeps_nextOr (execDsEnable_keeps _ ?_) ?_ | refine keeps_nextOr (execDsDisable_keeps _ ?_) ?_
    | refine keeps_ite ?_ ?_ | split | (extract_lets) | (intro))

theorem State.writeEthSlot_keeps {r0 : State} {s : State} (r : Reg) (i : Nat) (v : Nat) (hk : Keeps r0 s)  :
    Keeps r0 (State.writeEthSlot s r i v) := by
  unfold State.writeEthSlot
  with_reducible repeat' (first
    | assumption | apply State.writeBut_keeps | apply State.writePlain_keeps | refine keeps_ite ?_ ?_)

theorem State.writeCanSlot_keeps {r0 : State} {s : State} (r : Reg) (i : Nat) (v : Nat) (hk : Keeps r0 s)  :
    Keeps r0 (State.writeCanSlot s r i v) := by
  unfold State.writeCanSlot
  with_reducible repeat' (first
    | assumption | apply State.writePlain_keeps | apply State.writeBut_keeps | refine keeps_ite ?_ ?_)

theorem State.writeNet_keeps {r0 : State} {s : State} (r : Reg) (i : Nat) (v : Nat) (hk : Keeps r0 s)  :
    Keeps r0 (State.writeNet s r i v) := by
  unfold State.writeNet
  with_reducible repeat' (first
    | assumption | apply State.writeEn_keeps | apply State.ethEnable_keeps | apply State.txNext_keeps
    | apply State.writeEthSlot_keeps | apply State.canEnable_keeps | apply State.canDisable_keeps
    | apply State.writeCanSlot_keeps | apply State.writePlain_keeps
    | refine keeps_nextOr (execCanTxTailWrite_keeps _ _ ?_) ?_
    | refine keeps_nextOr (execCanTxAckWrite_keeps _ _ ?_) ?_
    | refine keeps_nextOr (execCanRxAckWrite_keeps _ _ ?_) ?_ | refine keeps_ite ?_ ?_ | split | (extract_lets)
    | (intro))

theorem State.writeTopology_keeps {r0 : State} {s : State} (r : Reg) (i : Nat) (v : Nat) (hk : Keeps r0 s)  :
    Keeps r0 (State.writeTopology s r i v) := by
  unfold State.writeTopology
  with_reducible repeat' (first | assumption | apply State.writeBut_keeps)

theorem State.writePort_keeps {r0 : State} {s : State} (r : Reg) (i : Nat) (v : Nat) (hk : Keeps r0 s)  :
    Keeps r0 (State.writePort s r i v) := by
  unfold State.writePort
  with_reducible repeat' (first
    | assumption | apply State.writeTopology_keeps | apply State.writeEn_keeps | apply State.portOn_keeps
    | apply State.portOff_keeps | apply State.writePlain_keeps | refine keeps_ite ?_ ?_ | split | (extract_lets)
    | (intro))

theorem State.setPair_keeps {r0 : State} {s : State} (p : Nat) (c : PairCfg) (hk : Keeps r0 s)  :
    Keeps r0 (State.setPair s p c) := by
  unfold State.setPair
  with_reducible repeat' (first | assumption | apply State.setAll_keeps | apply State.putPair_keeps)

theorem State.writePair_keeps {r0 : State} {s : State} (p : Nat) (v : Nat) (hk : Keeps r0 s)  :
    Keeps r0 (State.writePair s p v) := by
  unfold State.writePair
  with_reducible repeat' (first
    | assumption | apply State.raise_keeps | apply State.setPair_keeps | refine keeps_ite ?_ ?_)

theorem execPairValidWrite_keeps {r0 : State} (pair : Nat) (value : Nat) {s : State} (hk : Keeps r0 s)  :
    ∀ t, execPairValidWrite pair value s = .next t → Keeps r0 t := by
  unfold execPairValidWrite
  refine keeps_next ?_
  with_reducible repeat' (first
    | assumption | apply State.host_keeps | apply State.writePair_keeps | (extract_lets) | (intro))

theorem State.writeSafe_keeps {r0 : State} {s : State} (r : Reg) (i : Nat) (v : Nat) (hk : Keeps r0 s)  :
    Keeps r0 (State.writeSafe s r i v) := by
  unfold State.writeSafe
  with_reducible repeat' (first
    | assumption | apply State.writePair_keeps | apply State.secCmd_keeps | apply State.writePlain_keeps
    | refine keeps_nextOr (execVsetWrite_keeps _ ?_) ?_ | refine keeps_ite ?_ ?_)

theorem State.writeReg_keeps {r0 : State} {s : State} (r : Reg) (i : Nat) (v : Nat) (hk : Keeps r0 s)  :
    Keeps r0 (State.writeReg s r i v) := by
  unfold State.writeReg
  with_reducible repeat' (first
    | assumption | apply State.writeStateReq_keeps | apply State.writeWindowReg_keeps | apply State.writeHeddle_keeps
    | apply State.writeWhorl_keeps | apply State.writeFlyer_keeps | apply State.writeCard_keeps
    | apply State.writeNet_keeps | apply State.writePort_keeps | apply State.writePool_keeps
    | apply State.writeSafe_keeps | apply State.writeSkein_keeps | apply State.writePlain_keeps
    | refine keeps_ite ?_ ?_)

theorem State.writeBar_keeps {r0 : State} {s : State} (addr : Nat) (size : Nat) (value : Nat) (hk : Keeps r0 s)  :
    Keeps r0 (State.writeBar s addr size value) := by
  unfold State.writeBar
  with_reducible repeat' (first
    | assumption | apply State.writeReg_keeps | refine keeps_ite ?_ ?_ | split | (extract_lets)
    | refine keeps_mk ?_ ?_ ?_ ?_ | exact Nat.le_refl _)

theorem execRegWrite_keeps {r0 : State} (fn : Nat) (offset : Nat) (size : Nat) (value : Nat) {s : State} (hk : Keeps r0 s)  :
    ∀ t, execRegWrite fn offset size value s = .next t → Keeps r0 t := by
  unfold execRegWrite
  refine keeps_next ?_
  with_reducible repeat' (first | assumption | apply State.writeBar_keeps | split)

end Sys2Proof.Machine
end

