-- ==== Sys2Proof/Laws/Rows.lean ====
section
/-! SUPPORT. What row accesses do where no other command's footprint meets them: reads change nothing, and writes change
the bytes of their rows. -/

namespace Sys2Proof.Machine

/-- Reads of good rows that meet no footprint change nothing. -/
theorem State.readRows_quiet (s : State) (k src uid : Nat) (rows : List Nat)
    (hp : ∀ row ∈ rows, s.parityBad k row = false)
    (hr : ∀ row ∈ rows, s.raceWith k row false src (some uid) = none) : s.readRows k src uid rows = (s, 0) := by
  induction rows with
  | nil => rfl
  | cons row rest ih =>
    have h1 := hp row (by simp)
    have h2 := hr row (by simp)
    unfold State.readRows State.accessRow
    rw [h1, h2]
    exact ih (fun r h => hp r (by simp [h])) (fun r h => hr r (by simp [h]))

/-- Writes of rows that meet no footprint change the bytes of those rows and their parity, and nothing else. -/
theorem State.writeRows_quiet (k src uid : Nat) (rows : List (Nat × List Byte)) (s : State)
    (hr : ∀ p ∈ rows, s.raceWith k p.1 true src (some uid) = none) :
    ∃ mem bad, s.writeRows k src uid rows = ({ s with mem := mem, badParity := bad }, 0) ∧
      ∀ a, (∀ p ∈ rows, ¬ (s.rowAddr k p.1 ≤ a ∧ a < s.rowAddr k p.1 + 512)) → Mem.read mem a = Mem.read s.mem a := by
  induction rows generalizing s with
  | nil => exact ⟨s.mem, s.badParity, rfl, fun _ _ => rfl⟩
  | cons p rest ih =>
    obtain ⟨row, bs⟩ := p
    have h1 := hr (row, bs) (by simp)
    have ha : s.accessRow k row true src (some uid) = (s, false) := by
      unfold State.accessRow; rw [h1]
    let t := s.writeRow k row bs
    obtain ⟨mem, bad, e, h⟩ := ih t (fun p hp => hr p (by simp [hp]))
    refine ⟨mem, bad, ?_, fun a hn => ?_⟩
    · unfold State.writeRows
      rw [ha]
      exact e
    · rw [h a (fun p hp => hn p (by simp [hp]))]
      show Mem.read (s.store _ _).mem a = _
      rw [State.read_store, if_neg]
      have := hn (row, bs) (by simp)
      have hl : (sliceOf bs 0 Config.rowBytes).length = 512 := by
        unfold sliceOf
        simp only [List.drop_zero, List.length_append, List.length_take, List.length_replicate]
        have : Config.rowBytes = 512 := rfl
        omega
      rw [hl]; exact this

end Sys2Proof.Machine
end

