-- ==== Sys2Proof/Certificates/Slice0/Obligations.lean ====
section
/-! DEFINITION. The statements for the provers. Each is a Prop over the model; its docstring says what it states and the
rules of the specification it follows. -/

open Sys2Proof Sys2Proof.Machine

/-- For every command c, queue rest and state s whose queue is c followed by rest, step s is exec c on s with the
queue rest. On an empty queue step answers s.tick, one 250 ps tick of reference time: that an empty queue lets time
pass is the model's own choice (assumption log). (R36, R39) -/
def Obligations.QueueFirstInFirstOut : Prop :=
  (∀ (c : Instr) (rest : List Instr) (s : State), s.pending = c :: rest → step s = exec c { s with pending := rest }) ∧
  (∀ s : State, s.pending = [] → step s = .next s.tick)

/-- For every state s that is in canonical form (memory lists its bytes at strictly rising addresses with no byte
equal to what an unlisted address reads as, and the register file lists its fields at strictly rising keys) and every
t with step s = next t, t is in canonical form. Canonical form is the model's own invariant. (R7, R9, R10) -/
def Obligations.StepsKeepCanonicalForm : Prop :=
  ∀ s t : State, s.canonical = true → step s = .next t → t.canonical = true

/-- For every command c and state s there is a next state t; and whenever exec c s answers next t, the waiting queue
is unchanged and reference time, the next command name and the free-value counter have not gone down. The queue, the
command names and the free-value counter are the model's own fields. (R29, R39, R113) -/
def Obligations.CommandsCompleteAndLeaveQueueAndTime : Prop :=
  (∀ (c : Instr) (s : State), ∃ t, exec c s = .next t) ∧
  (∀ (c : Instr) (s t : State), exec c s = .next t →
    t.pending = s.pending ∧ s.refTime ≤ t.refTime ∧ s.nextUid ≤ t.nextUid ∧ s.freeCount ≤ t.freeCount)

/-- State.reset is in canonical form, has an empty queue, is in RESET with the count 0, lists nothing in memory, has
no command, every token at its reset value and no active table, answers no set-up access, and every register field
reads its reset value (where the manual states none, the value the assumption log names). Every byte of memory reads
as the default of its space. (R9, R27, R39, R85) -/
def Obligations.ResetState : Prop :=
  State.reset.canonical = true ∧ State.reset.pending = [] ∧ State.reset.dev = .reset ∧ State.reset.mem = [] ∧
  (∀ (f : Field) (i : Nat), State.reset.get f i = f.reset % 2 ^ f.width) ∧
  (∀ a, Mem.read State.reset.mem a = Mem.default a) ∧ State.reset.now = 0 ∧ State.reset.cmds = [] ∧
  State.reset.tokens = [] ∧ State.reset.heddle.active = none ∧ State.reset.setUp = false

/-- Setting a field makes it read the value cut to its width; another field (another code, or another index of the
same field) reads as before. Storing bytes at an address makes exactly those bytes read back, and every byte outside
them reads as before. (R9, R36, R113) -/
def Obligations.FieldsAndMemoryReadBack : Prop :=
  (∀ (s : State) (f : Field) (i v : Nat), (s.set f i v).get f i = v % 2 ^ f.width) ∧
  (∀ (s : State) (f g : Field) (i j v : Nat), f.code ≠ g.code → i < 0x100000000 → j < 0x100000000 →
    (s.set f i v).get g j = s.get g j) ∧
  (∀ (s : State) (f : Field) (i j v : Nat), i ≠ j → (s.set f i v).get f j = s.get f j) ∧
  (∀ (s : State) (a b : Nat) (bs : List Byte), Mem.read (s.store a bs).mem b =
    if a ≤ b ∧ b < a + bs.length then bs.getD (b - a) 0 else Mem.read s.mem b) ∧
  (∀ (s : State) (a : Nat) (bs : List Byte), (s.store a bs).load a bs.length = bs)

/-- Raising a flag sets its bit and adds 1 to its saturating counter; where its event source is enabled the vector of
that source is sent to its client: a masked vector sets its pending bit, an unmasked one writes its data at its
address, and with no host link nothing is sent. Raising a flag changes registers, host memory and sent messages only.
(R11, R13, R382) -/
def Obligations.FlagsCountAndRaiseTheirSources : Prop :=
  (∀ (s t : State) (f : Flag) (i : Nat), t = (s.set f.fld i 1).count f.cnt (f.cntIx i) 1 →
    (f.source = none → s.raise f i = t) ∧
    (∀ b, f.source = some b → t.isSet Fld.RING_EVSRC_EN (b + i) = false → s.raise f i = t) ∧
    (∀ b c v, f.source = some b → t.isSet Fld.RING_EVSRC_EN (b + i) = true → c = t.get Fld.RING_EVSRC_CLIENT (b + i) →
      v = t.get Fld.RING_EVSRC_VECTOR (b + i) → s.raise f i = t.sendVector c v)) ∧
  (∀ (s : State) (f : Field) (i n : Nat), (s.count f i n).get f i = min (s.get f i + n) (2 ^ f.width - 1)) ∧
  (∀ (s : State) (c v : Nat),
    (s.linked = false → s.sendVector c v = s) ∧
    (s.linked = true → s.isSet Fld.MSIX_CTRL_MASK (ix c v) = true → s.sendVector c v =
      s.set Fld.MSIX_PBA_PENDING c (s.get Fld.MSIX_PBA_PENDING c ||| 2 ^ v)) ∧
    (s.linked = true → s.isSet Fld.MSIX_CTRL_MASK (ix c v) = false → ∃ t, t = s.store (Mem.host ((s.get Fld.MSIX_ADDR_LO_ADDR (ix c v) +
        2 ^ 32 * s.get Fld.MSIX_ADDR_HI_ADDR (ix c v)) / 4 * 4)) (leBytes 4 (s.get Fld.MSIX_DATA_DATA (ix c v))) ∧
      s.sendVector c v = { t with rings := { t.rings with messages := t.rings.messages ++ [(c, v)] } })) ∧
  (∀ (s : State) (f : Flag) (i : Nat), ∃ regs mem rings, s.raise f i = { s with regs := regs, mem := mem, rings := rings } ∧
    ∀ a, a < 2 ^ 64 ∨ 2 ^ 65 ≤ a → Mem.read mem a = Mem.read s.mem a)

/-- For every state in which the set-up blocks do not answer, each of the 46 commands named in the statement (requests
and writes through set-up registers, doorbells, ring and stream enables, the aperture) leaves the state as it was; and
in OFF, RESET, SLEEP and ALARM, where the HUB block does not answer, so does each of the five host state requests.
(R27, R29, R559) -/
def Obligations.HostAccessesNeedAnAnsweringBlock : Prop :=
  (∀ (c : Instr) (s : State), s.setUp = false →
    (match c with
      | .ndcClear _ | .ethEnable _ _ | .ethTxKick _ | .apertureRead _ _ | .apertureWrite _ _ _ | .whorlStepWrite _
      | .domainWrite _ | .domOfsWrite _ _ | .domRateWrite _ _ | .tinStampHighRead _ | .loopClose _ | .loopOpen _
      | .loopRelease _ | .openAll | .regionWrite _ _ _ | .winOpen _ _ | .winClose _ _ | .canTxTailWrite _ _
      | .canTxAckWrite _ _ | .canRxAckWrite _ _ | .canEnable _ | .canDisable _ | .capDisable _ | .dsDisable _ | .tableLoad
      | .tableArm | .dropStage _ | .kvEnableWrite _ | .freeTailWrite _ | .vsetWrite _ | .portEnable _ | .portDisable _
      | .pairValidWrite _ _ | .tokenAssign _ _ _ _ _ _ | .tokenRelease _ _ | .releaseTokens _ | .sqDoorbell _ _ _ _ _
      | .cqDoorbell _ _ _ _ _ | .msixUnmask _ _ | .sqEnable _ _ | .sqDisable _ _ | .cqEnable _ _ | .cqDisable _ _
      | .functionLevelReset _ | .capEnable _ | .dsEnable _ => True
      | _ => False) →
    exec c s = .next s) ∧
  (∀ (s : State) (check : Bool), s.dev = .off ∨ s.dev = .reset ∨ s.dev = .sleep ∨ s.dev = .alarm →
    exec .stateReqReset s = .next s ∧ exec .stateReqSleep s = .next s ∧ exec .stateReqRun s = .next s ∧
    exec .stateReqStandby s = .next s ∧ exec (.stateReqReleaseSafe check) s = .next s)

/-- For every state, function, offset, size and value where the size is not 4 or the offset is not a multiple of 4:
the write leaves the state as it was; and where the block at the address answers, the read leaves the state as it was
and returns 0, for a read of any size, and so for the two read commands. (R6) -/
def Obligations.OtherWidthsAndAlignmentsAnswerZero : Prop :=
  ∀ (s : State) (fn offset size v : Nat), size ≠ 4 ∨ offset % 4 ≠ 0 →
    exec (.regWrite fn offset size v) s = .next s ∧
    ((∀ a, s.busAddress fn offset = some a → s.answersAt a = true) →
      s.readAt fn offset size = { s with hostRead := 0 } ∧
      (size = 4 → exec (.lowHalfRead fn offset) s = .next { s with hostRead := 0 } ∧
        exec (.rcCounterRead fn offset) s = .next { s with hostRead := 0 }))

/-- A 32-bit aligned write reaches its register: at once where the register is 32 bits wide, into the staging for a
low half, and with the staged or present low half for a high half. Written out for an RW register, a flag register, a
read-only counter and an RWO register of a loop (taken in OPEN, unchanged when equal, otherwise reported as locked).
Reading a counter returns and clears it. Reading a low half captures the high half, which the next high-half read
returns. (R7, R9, R13, R14) -/
def Obligations.RegisterAccessCodes : Prop :=
  (∀ (s : State) (addr v : Nat) (r : Reg) (i : Nat) (high : Bool),
    s.answersAt addr = true → Reg.lookup allRegs addr = some (r, i, high) → addr % 4 = 0 →
    exec (.regWrite 0 addr 4 v) s = .next (match high, r.wide with
      | false, false => s.writeReg r i (v % 2 ^ 32)
      | false, true => { s with staging := Sparse.insert s.staging addr (v % 2 ^ 32) }
      | true, _ => ({ s with staging := Sparse.erase s.staging (addr - 4) }).writeReg r i
          ((Sparse.find s.staging (addr - 4)).getD (s.presentLow r i) + 2 ^ 32 * (v % 2 ^ 32)))) ∧
  (∀ (s : State) (v : Nat), s.setUp = true → v < 2 ^ 32 →
    (∃ t, exec (.regWrite 0 0x300010 4 v) s = .next t ∧ SetsOnly s t [(Fld.WHORL_RATE_ADJ_ADJ, 0, v)]) ∧
    (∃ t, exec (.regWrite 0 0x18 4 v) s = .next t ∧ SetsOnly s t
      [(Fld.HUB_EVT_SKEIN_RETIRED, 0, s.get Fld.HUB_EVT_SKEIN_RETIRED 0 &&& (1 - bitsOf v 2 1)),
       (Fld.HUB_EVT_REQ_REFUSED, 0, s.get Fld.HUB_EVT_REQ_REFUSED 0 &&& (1 - bitsOf v 1 1)),
       (Fld.HUB_EVT_STATE_CHANGED, 0, s.get Fld.HUB_EVT_STATE_CHANGED 0 &&& (1 - bitsOf v 0 1))]) ∧
    (∃ t, exec (.regWrite 0 0x1C 4 v) s = .next t ∧ t = s) ∧
    (∀ n, n < 32 →
      (s.loopConfig n = true → ∃ t, exec (.regWrite 0 (0x408018 + 0x400 * n) 4 v) s = .next t ∧
        SetsOnly s t [(Fld.FLYER_LOOP_GEAR_GEAR, n, v)]) ∧
      (s.loopConfig n = false → s.get Fld.FLYER_LOOP_GEAR_GEAR n = v →
        exec (.regWrite 0 (0x408018 + 0x400 * n) 4 v) s = .next s) ∧
      (s.loopConfig n = false → s.get Fld.FLYER_LOOP_GEAR_GEAR n ≠ v → ∃ t,
        exec (.regWrite 0 (0x408018 + 0x400 * n) 4 v) s = .next (t.raise Flg.FLYER_LOOP_EVT_COEF_LOCKED n) ∧
        SetsOnly s t [(Fld.FLYER_LOOP_STATE_LAST_STATUS, n, 0x0306)]))) ∧
  (∀ (s : State), s.setUp = true →
    ∃ t, exec (.rcCounterRead 0 0x1C) s = .next t ∧
      SetsOnly { s with hostRead := s.get Fld.HUB_EVT_CNT_STATE_COUNT 0 % 2 ^ 32 } t [(Fld.HUB_EVT_CNT_STATE_COUNT, 0, 0)]) ∧
  (∀ (s : State), s.setUp = true →
    exec (.lowHalfRead 0 0x300000) s =
      .next { s with hostRead := s.now % 2 ^ 32, shadows := Sparse.put 0 s.shadows 0x300000 s.now } ∧
    ∀ t, exec (.lowHalfRead 0 0x300000) s = .next t → ∀ u, u.setUp = true → u.shadows = t.shadows →
      exec (.lowHalfRead 0 0x300004) u = .next { u with hostRead := s.now / 2 ^ 32 })

/-- Power-up, a RESET_N pulse of 10 us or more, the host RESET request and the end of zeroisation enter RESET with its
cause; rail loss enters OFF; the SLEEP request completes in SLEEP (a pulse, a request and rail loss in a beat in which
nothing has decided a transition yet). In each, every field and memory of the main domain takes its reset value and
the always-on fields named keep theirs; with the always-on rails lost, the keys are lost too. (R27, R30, R549, R551,
R578, R589, R590) -/
def Obligations.MainDomainLost : Prop :=
  ((∀ s : State, s.dev = .off → ∃ t, exec .railsUp s = .next t ∧ MainLost s t aonFields true ∧
    t.dev = .reset ∧ t.aon.cause = 0 ∧ t.aon.prev = .off ∧ t.aon.resetLow = true) ∧
  (∀ (s : State) (lowNs : Nat), 10000 ≤ lowNs → s.dev ≠ .off → s.dev ≠ .sleep → s.freshBeat = true →
    ∃ t u, exec (.resetNAssert lowNs) s = .next t ∧ u = { s with freeCount := s.freeCount + 1 } ∧
      MainLost u t aonFields true ∧ t.dev = .reset ∧ t.aon.cause = 1 ∧ t.aon.prev = s.dev ∧ t.aon.resetLow = true ∧
      t.aon.causeStatus = 0) ∧
  (∀ s : State, s.hubAnswers = true → s.inTransition = false → s.freshBeat = true → ∃ t, exec .stateReqReset s = .next t ∧
    MainLost s t aonFields true ∧ t.dev = .reset ∧ t.aon.cause = 2 ∧ t.aon.prev = s.dev ∧ t.aon.internal = true ∧
    t.aon.resetAt = s.refTime) ∧
  (∀ s : State, s.dev = .alarm → ∃ t, exec .zeroisationComplete s = .next t ∧ MainLost s t aonFields true ∧
    t.dev = .reset ∧ t.aon.cause = 7 ∧ t.aon.prev = .alarm ∧ t.aon.fromAlarm = true)) ∧
  ((∀ s : State, s.dev ≠ .off → s.freshBeat = true → ∃ t, exec (.railLoss true) s = .next t ∧
    MainLost s.tearAppend t (aonFields ++ listenerFields) false ∧ t.dev = .off ∧ t.aon.prev = s.dev ∧
    t.whorl.count = s.whorl.count ∧ t.sec.keys = s.sec.keys ∧ t.sec.journalKey = s.sec.journalKey) ∧
  (∀ s : State, ∃ t, exec (.railLoss false) s = .next t ∧ MainLost s.tearAppend t [] false ∧ t.dev = .off ∧ t.sec = Sec.reset) ∧
  (∀ s : State, (s.sec.programming = none → s.tearAppend = s) ∧
    (∀ p, s.sec.programming = some p → s.refTime < p.since + 20 * Config.us + ceilDiv p.size 256 * 1000 * Config.us →
      ∃ n, n ≤ p.size ∧ s.tearAppend = { s with
        freeCount := s.freeCount + 1, mem := Mem.clear s.mem (p.addr + n) (p.size - n) })) ∧
  (∀ s : State, s.dev = .standby → s.aon.sleepReq = true → s.freshBeat = true → ∃ t u, exec .sleepEntry s = .next t ∧
    t.dev = .sleep ∧ t.aon.prev = .standby ∧ t.aon.cause = 2 ∧ u = t.settleSleep ∧
    MainLost t u (aonFields ++ listenerFields) false ∧ u.dev = .sleep ∧ u.aon.prev = .standby ∧ u.aon.cause = 2 ∧
    u.whorl.count = s.whorl.count ∧ u.sec.keys = s.sec.keys ∧ u.sec.journalKey = s.sec.journalKey))

/-- Releasing RESET_N, or the end of a 10 us internal reset, begins BOOT and sets STATE_CHANGED; while the internal
reset holds, releasing RESET_N only releases it. A pulse of 1 us or less is ignored; 10 us or more resets (in SLEEP it
wakes); between the two it does one or the other whole, as a free value decides. (R27, R589, R591) -/
def Obligations.ResetEnds : Prop :=
  ((∀ s : State, s.dev = .reset → s.aon.resetLow = true → s.aon.internal = false →
    exec .resetNRelease s = .next (({ s with
      dev := .boot, aon := { s.aon with resetLow := false, prev := .reset, decided := none } }).raise Flg.HUB_EVT_STATE_CHANGED 0)) ∧
  (∀ s : State, s.dev = .reset → s.aon.resetLow = false → s.aon.internal = true →
    s.aon.resetAt + 10 * Config.us ≤ s.refTime →
    exec .internalResetEnd s = .next (({ s with
      dev := .boot, aon := { s.aon with internal := false, prev := .reset, decided := none } }).raise Flg.HUB_EVT_STATE_CHANGED 0)) ∧
  (∀ s : State, s.aon.resetLow = true → s.aon.internal = true →
    exec .resetNRelease s = .next { s with aon := { s.aon with resetLow := false } })) ∧
  (∀ (s : State) (lowNs : Nat),
    (lowNs ≤ 1000 → exec (.resetNAssert lowNs) s = .next { s with freeCount := s.freeCount + 1 }) ∧
    (10000 ≤ lowNs → s.dev = .sleep → s.sleeping = false → s.aon.wake = none → ∃ t, exec (.resetNAssert lowNs) s = .next t ∧
      SetsOnly { s with freeCount := s.freeCount + 1, aon := { s.aon with resetLow := true, wake := some (3, s.refTime) } }
        t [(Fld.PWR_WAKE_LAST_SOURCE, 0, 3)]) ∧
    (1000 < lowNs → lowNs < 10000 → exec (.resetNAssert lowNs) s =
      if Config.freeBit s.freeCount 0 then exec (.resetNAssert 10000) s
      else .next { s with freeCount := s.freeCount + 1 }))

/-- RUN is granted in STANDBY with a valid pending table and begins at the next boundary; STANDBY in RUN, and RUN ends
at a boundary when no command is left; SLEEP in STANDBY with every CAN controller off; RELEASE_SAFE in SAFE when
releasable and the lockstep self-check passes; each is refused otherwise with REQ_REFUSED. Each next state is given
whole. Rail loss and a RESET_N pulse in one beat end in OFF in either order, with the state before both as PREV; a
host request in a beat that a higher cause has decided is refused. (R29, R30, R395, R519, R590) -/
def Obligations.StateRequests : Prop :=
  ((∀ (s : State) (t : Table), s.dev = .standby → s.inTransition = false → s.freshBeat = true →
    s.heddle.pending = some t →
    exec .stateReqRun s = .next { s with heddle := { s.heddle with runReq := true, runAt := s.now } } ∧
    s.runBoundary t.cycle =
      s.heddle.runAt + (((s.get Fld.HEDDLE_CYCLE_EPOCH_TIME 0 : Int) - s.heddle.runAt) % t.cycle).toNat) ∧
  (∀ s : State, s.dev = .run → s.inTransition = false → s.freshBeat = true →
    exec .stateReqStandby s = .next { s with heddle := { s.heddle with standbyReq := true } }) ∧
  (∀ s : State, s.dev = .standby → s.inTransition = false → s.freshBeat = true →
    (∀ n, n < 8 → s.isSet Fld.CAN_CTRL_EN n = false) →
    exec .stateReqSleep s = .next { s with aon := { s.aon with sleepReq := true } }) ∧
  (∀ s : State, s.dev = .safe → s.inTransition = false → s.freshBeat = true → s.releasable = true →
    exec (.stateReqReleaseSafe true) s = .next
      (((s.set Fld.SELV_STATUS_LOCKSTEP_OK 0 1).set Fld.SELV_STATUS_FAULT_ACTIVE 0 0).enterStandby 2))) ∧
  ((∀ (s : State), s.hubAnswers = true → (s.dev ≠ .standby ∨ s.inTransition = true ∨ s.heddle.pending = none) →
    exec .stateReqRun s = .next (s.raise Flg.HUB_EVT_REQ_REFUSED 0)) ∧
  (∀ (s : State), s.hubAnswers = true → (s.dev ≠ .run ∨ s.inTransition = true) →
    exec .stateReqStandby s = .next (s.raise Flg.HUB_EVT_REQ_REFUSED 0)) ∧
  (∀ (s : State), s.hubAnswers = true →
    (s.dev ≠ .standby ∨ s.inTransition = true ∨ ∃ n, n < 8 ∧ s.isSet Fld.CAN_CTRL_EN n = true) →
    exec .stateReqSleep s = .next (s.raise Flg.HUB_EVT_REQ_REFUSED 0)) ∧
  (∀ (s : State), s.hubAnswers = true → s.inTransition = true →
    exec .stateReqReset s = .next (s.raise Flg.HUB_EVT_REQ_REFUSED 0)) ∧
  (∀ (s : State) (ok : Bool), s.hubAnswers = true → s.dev ≠ .safe →
    exec (.stateReqReleaseSafe ok) s = .next (s.raise Flg.HUB_EVT_REQ_REFUSED 0)) ∧
  (∀ (s : State), s.dev = .safe → s.releasable = false → exec (.stateReqReleaseSafe true) s =
    .next ((s.set Fld.SELV_STATUS_LOCKSTEP_OK 0 1).raise Flg.HUB_EVT_REQ_REFUSED 0)) ∧
  (∀ (s : State), s.dev = .safe → exec (.stateReqReleaseSafe false) s =
    .next ((s.set Fld.SELV_STATUS_LOCKSTEP_OK 0 0).raise Flg.HUB_EVT_REQ_REFUSED 0))) ∧
  ((∀ (s : State) (x : Table), s.heddle.pending = some x → s.dev = .standby → s.freshBeat = true → s.heddle.runReq = true →
    s.runBoundary x.cycle ≤ s.now → ∀ u, u = ((s.set Fld.HEDDLE_CYCLE_START_TIME 0
        (s.runBoundary x.cycle + (s.now - s.runBoundary x.cycle) / x.cycle * x.cycle)).accum Fld.HEDDLE_CYCLE_COUNT_COUNT 0 1).set
        Fld.HEDDLE_TBL_CMD_ARM 0 0 →
      exec .runStart s = .next (({ u with
        dev := .run, aon := { s.aon with prev := .standby, cause := 2, decided := some (s.refTime, 5, .standby) }
        heddle := { s.heddle with active := some x, openSlots := [], quiesced := [], runReq := false } }).raise
          Flg.HUB_EVT_STATE_CHANGED 0)) ∧
  (∀ (s : State) (x : Table), s.heddle.active = some x → s.dev = .run → s.heddle.standbyReq = true →
    s.boundary + x.cycle ≤ s.now → (∀ c ∈ s.cmds, c.phase = .ended) →
    exec .runExit s = .next (s.crossCycles.enterStandby 2)) ∧
  (∀ (s : State) (x : Table), s.heddle.active = some x → s.dev = .run → (∃ c ∈ s.cmds, c.phase ≠ .ended) →
    exec .runExit s = .next s)) ∧
  ((∀ (s : State) (lowNs : Nat), 10000 ≤ lowNs → s.dev ≠ .off → s.dev ≠ .sleep → s.freshBeat = true →
    ∃ t u v w, exec (.resetNAssert lowNs) s = .next t ∧ exec (.railLoss true) t = .next u ∧
      exec (.railLoss true) s = .next v ∧ exec (.resetNAssert lowNs) v = .next w ∧
      u.dev = .off ∧ u.aon.prev = s.dev ∧ w.dev = .off ∧ w.aon.prev = s.dev) ∧
  (∀ s : State, s.hubAnswers = true → s.outranked 3 = true →
    exec .stateReqReset s = .next (s.raise Flg.HUB_EVT_REQ_REFUSED 0)) ∧
  (∀ s : State, s.hubAnswers = true → s.inTransition = false → s.outranked 3 = false →
    exec .stateReqReset s = .next (s.enterReset 2 3 true)) ∧
  (∀ s : State, s.hubAnswers = true → s.outranked 5 = true →
    exec .stateReqRun s = .next (s.raise Flg.HUB_EVT_REQ_REFUSED 0) ∧
    exec .stateReqStandby s = .next (s.raise Flg.HUB_EVT_REQ_REFUSED 0) ∧
    exec .stateReqSleep s = .next (s.raise Flg.HUB_EVT_REQ_REFUSED 0)))

/-- In SLEEP with no wake in progress, WAKE_N low for 10 us, a CAN dominant pulse or a matching CAN frame begins a
wake and records its source and capture; elsewhere or shorter they change nothing. After 50 us BOOT begins (RESET
while RESET_N is low); at PWR_WAKE.TIMEOUT the wake fails and the failure count rises. That the rails are within
limits is the event itself. (R493, R494, R495, R589, R591) -/
def Obligations.WakesAndTheirEnd : Prop :=
  ((∀ (s : State) (us : Nat), s.dev = .sleep → s.aon.wake = none → 10 ≤ us →
    exec (.wakeNEvent us) s = .next { s.set Fld.PWR_WAKE_LAST_SOURCE 0 1 with
      aon := { s.aon with wake := some (1, s.refTime) } }) ∧
  (∀ (s : State) (us : Nat), us < 10 → exec (.wakeNEvent us) s = .next s) ∧
  (∀ (s : State) (us : Nat), s.dev ≠ .sleep → exec (.wakeNEvent us) s = .next s) ∧
  (∀ (s : State) (ch us : Nat), s.dev = .sleep → s.aon.wake = none → s.get Fld.CAN_WAKE_CFG_MODE ch = 1 →
    s.get Fld.CAN_WAKE_CFG_FILTER ch ≤ us → exec (.canWakeDominant ch us) s = .next
      { (((((((s.count Fld.CAN_WAKE_CNT_COUNT 0 1).set Fld.CAN_WAKE_CAP_VALID 0 1).set
        Fld.CAN_WAKE_CAP_KIND 0 0).set Fld.CAN_WAKE_CAP_CHANNEL 0 ch).set Fld.CAN_WAKE_CAP_FILTER 0 0).set
        Fld.CAN_WAKE_ID_ID 0 0).set Fld.CAN_WAKE_STAMP_TIME 0 s.now).set Fld.PWR_WAKE_LAST_SOURCE 0 2 with
        aon := { s.aon with wake := some (2, s.refTime) } }) ∧
  (∀ (s : State) (ch id : Nat) (ide : Bool) (data : List Byte) (f : Nat), s.dev = .sleep → s.aon.wake = none →
    s.get Fld.CAN_WAKE_CFG_MODE ch = 2 →
    (List.range 8).find? (fun f => s.get Fld.CAN_WAKE_CFG_FLT_MASK ch / 2 ^ f % 2 == 1 &&
      s.wakeFilter f id ide data) = some f → exec (.canWakeFrame ch id ide data) s = .next
      { (((((((s.count Fld.CAN_WAKE_CNT_COUNT 0 1).set Fld.CAN_WAKE_CAP_VALID 0 1).set
        Fld.CAN_WAKE_CAP_KIND 0 1).set Fld.CAN_WAKE_CAP_CHANNEL 0 ch).set Fld.CAN_WAKE_CAP_FILTER 0 f).set
        Fld.CAN_WAKE_ID_ID 0 id).set Fld.CAN_WAKE_STAMP_TIME 0 s.now).set Fld.PWR_WAKE_LAST_SOURCE 0 2 with
        aon := { s.aon with wake := some (2, s.refTime) } })) ∧
  ((∀ (s : State) (src began : Nat), s.dev = .sleep → s.aon.wake = some (src, began) →
    began + 50 * Config.us ≤ s.refTime → s.aon.resetLow = false →
    exec .wakeBootStart s = .next (({ s with
      dev := .boot, aon := { s.aon with wake := none, prev := .sleep, cause := 8, decided := none } }).raise
        Flg.HUB_EVT_STATE_CHANGED 0)) ∧
  (∀ (s : State) (src began : Nat), s.dev = .sleep → s.aon.wake = some (src, began) →
    began + 50 * Config.us ≤ s.refTime → s.aon.resetLow = true → ∃ t, exec .wakeBootStart s = .next t ∧
      t.dev = .reset ∧ t.aon.cause = 1 ∧ t.aon.wake = none) ∧
  (∀ (s : State) (src began : Nat), s.dev = .sleep → s.aon.wake = some (src, began) →
    began + s.get Fld.PWR_WAKE_TIMEOUT 0 * 1000 * Config.us ≤ s.refTime →
    exec .wakeTimeout s = .next (({ s with aon := { s.aon with wake := none } }).set Fld.PWR_WAKE_WAKE_FAIL_COUNT 0
      (min (s.get Fld.PWR_WAKE_WAKE_FAIL_COUNT 0 + 1) (2 ^ Fld.PWR_WAKE_WAKE_FAIL_COUNT.width - 1)))))

/-- Outside RUN a step in range changes the count at once and sets STEPPED, a zero step changes nothing but the hold
bit, one out of range is refused. In RUN a backward step up to HOLD_MAX becomes a hold, a larger one is refused. A
hold counts down without moving the count. A step on an empty queue (the model's own tick) adds one to reference time
and, uncorrected, one to the count. (R39, R41, R44, R45) -/
def Obligations.WhorlStepsHoldsAndTicks : Prop :=
  (∀ (s : State) (step : BitVec 64), s.setUp = true → s.dev ≠ .run → s.whorl.hold = 0 →
    (step ≠ 0 → 0 ≤ (s.now : Int) + step.toInt → (s.now : Int) + step.toInt < 2 ^ 64 →
      exec (.whorlStepWrite step) s = .next
        (({ s.set Fld.WHORL_STATUS_HOLDING 0 0 with
          whorl := { s.whorl with count := s.whorl.count + step } }).raise Flg.WHORL_EVT_STEPPED 0)) ∧
    (step = 0 → exec (.whorlStepWrite step) s = .next (s.set Fld.WHORL_STATUS_HOLDING 0 0)) ∧
    ((s.now : Int) + step.toInt < 0 ∨ 2 ^ 64 ≤ (s.now : Int) + step.toInt →
      exec (.whorlStepWrite step) s = .next (s.raise Flg.WHORL_EVT_STEP_REFUSED 0))) ∧
  (∀ (s : State) (step : BitVec 64), s.dev = .run → s.whorl.hold = 0 → step.toInt < 0 →
    (step.toInt.natAbs ≤ s.get Fld.WHORL_HOLD_MAX_TICKS 0 →
      exec (.whorlStepWrite step) s = .next ({ s.set Fld.WHORL_STATUS_HOLDING 0 1 with
        whorl := { s.whorl with hold := step.toInt.natAbs } })) ∧
    (s.get Fld.WHORL_HOLD_MAX_TICKS 0 < step.toInt.natAbs →
      exec (.whorlStepWrite step) s = .next (s.raise Flg.WHORL_EVT_STEP_REFUSED 0))) ∧
  ((∀ s : State, s.whorl.hold = 0 → exec .holdEnd s = .next s) ∧
  (∀ s : State, s.sleeping = false → s.whorl.hold ≠ 0 → ∃ t, exec .holdEnd s = .next t ∧ t.whorl.hold = 0 ∧ t.now = s.now ∧
    t.refTime = s.refTime + s.whorl.hold ∧ t.isSet Fld.WHORL_STATUS_HOLDING 0 = false) ∧
  (∀ s : State, s.powered = true → s.whorl.hold ≠ 0 → s.pending = [] → ∃ t : State, step s = .next (t.sriovWrite s.refTime) ∧
    t.whorl.hold = s.whorl.hold - 1 ∧ t.now = s.now ∧ t.refTime = s.refTime + 1)) ∧
  (∀ (s : State), s.pending = [] → ∃ t : State, step s = .next (t.sriovWrite s.refTime) ∧ t.refTime = s.refTime + 1 ∧
    t.pending = [] ∧ t.dev = s.dev ∧ (s.sleeping = false → t.mem = s.mem ∧ t.cmds = s.cmds) ∧
    (t.sriovWrite s.refTime).rings.functions = (if t.powered = false then t.rings.functions else
      match Config.sriov s.refTime with
      | none => t.rings.functions
      | some n => 2 ^ (n.val + 1) - 1) ∧
    (s.dev = .reset → t.now = s.now) ∧
    (s.dev = .sleep → t.whorl.count = s.whorl.count + 1) ∧
    (s.powered = true → s.whorl.hold = 0 → s.whorl.rate = 0 → s.get Fld.WHORL_RATE_ADJ_ADJ 0 = 0 →
      s.whorl.fraction < 2 ^ 16 * 1000000000 →
      t.whorl.count = s.whorl.count + 1 ∧ t.whorl.fraction = s.whorl.fraction))

/-- With a hold in progress and sum = step minus the remaining hold: a negative sum up to WHORL_HOLD_MAX replaces the
hold; a larger negative sum is refused, STEP_REFUSED is set and nothing else changes; a zero sum ends the hold; a
positive sum ends it and the remainder is applied as a forward step (the count moves, STEPPED is set, and in RUN the
cycle follows). (R46) -/
def Obligations.StepDuringAHoldIsSummed : Prop :=
  ∀ (s : State) (step : BitVec 64) (sum : Int), s.setUp = true → s.whorl.hold ≠ 0 → sum = step.toInt - s.whorl.hold →
    (sum < 0 → sum.natAbs ≤ s.get Fld.WHORL_HOLD_MAX_TICKS 0 →
      exec (.whorlStepWrite step) s = .next { s.set Fld.WHORL_STATUS_HOLDING 0 1 with
        whorl := { s.whorl with hold := sum.natAbs } }) ∧
    (sum < 0 → s.get Fld.WHORL_HOLD_MAX_TICKS 0 < sum.natAbs →
      exec (.whorlStepWrite step) s = .next (s.raise Flg.WHORL_EVT_STEP_REFUSED 0)) ∧
    (sum = 0 → exec (.whorlStepWrite step) s = .next { s.set Fld.WHORL_STATUS_HOLDING 0 0 with
        whorl := { s.whorl with hold := 0 } }) ∧
    (0 < sum → s.now + sum < 2 ^ 64 → ∃ t, t = ({ s.set Fld.WHORL_STATUS_HOLDING 0 0 with
        whorl := { s.whorl with hold := 0, count := BitVec.ofNat 64 (s.now + sum).toNat } }).raise
          Flg.WHORL_EVT_STEPPED 0 ∧
      exec (.whorlStepWrite step) s = .next (t.stepCycle s.now))

/-- A domain write of the active domain changes nothing; to LOCAL or system time it changes only the domain; to a gPTP
set it applies OFS as a step (refused where the set is not valid or in RUN from another kind of domain), and a switch
between the sets copies RATE. OFS and RATE are written. A set not written for LOSS us becomes LOST: the active one
switches over automatically or is a time fault. (R44, R45, R470, R471, R472, R473, R536) -/
def Obligations.DomainsAndTheirRegisters : Prop :=
  (∀ (s : State), s.setUp = true →
    exec (.domainWrite s.domain) s = .next s ∧
    (∀ d, d = 1 ∨ d = 2 → s.domain ≠ d → ¬ (s.domain = 1 ∨ s.domain = 2) →
      (s.dev = .run ∨ s.isSet Fld.WHORL_DOMSET_CFG_VALID (d - 1) = false) →
      exec (.domainWrite d) s = .next (s.raise Flg.WHORL_EVT_STEP_REFUSED 0)) ∧
    (∀ d, d = 1 ∨ d = 2 → s.domain = 3 - d → s.isSet Fld.WHORL_DOMSET_CFG_VALID (d - 1) = false →
      exec (.domainWrite d) s = .next (s.raise Flg.WHORL_EVT_STEP_REFUSED 0)) ∧
    (∀ d, d = 0 ∨ d = 3 → s.domain ≠ d → s.dev ≠ .run →
      exec (.domainWrite d) s = .next (((s.set Fld.WHORL_CTRL_DOMAIN 0 d).set Fld.WHORL_DOMSET_STATUS_ACTIVE 0 0).set
        Fld.WHORL_DOMSET_STATUS_ACTIVE 1 0)) ∧
    (∀ d t, d = 1 ∨ d = 2 → s.domain ≠ d → ¬ (s.domain = 1 ∨ s.domain = 2) → s.dev ≠ .run →
      s.isSet Fld.WHORL_DOMSET_CFG_VALID (d - 1) = true → s.stepBy (s.ofs (d - 1)) = some t →
      exec (.domainWrite d) s = .next
        (((t.lessOfs 0 (s.ofs (d - 1))).lessOfs 1 (s.ofs (d - 1))).setDomain d)) ∧
    (∀ d t, d = 1 ∨ d = 2 → s.domain = 3 - d → s.isSet Fld.WHORL_DOMSET_CFG_VALID (d - 1) = true →
      s.stepBy (s.ofs (d - 1)) = some t →
      exec (.domainWrite d) s = .next
        ((((t.lessOfs 0 (s.ofs (d - 1))).lessOfs 1 (s.ofs (d - 1))).setDomain d).set Fld.WHORL_RATE_ADJ_ADJ 0
          (s.get Fld.WHORL_DOMSET_RATE_RATE (d - 1))))) ∧
  ((∀ (s : State) (set : Nat) (ofs : BitVec 64), s.setUp = true → set < 2 → s.domain ≠ set + 1 →
    exec (.domOfsWrite set ofs) s = .next { (s.set Fld.WHORL_DOMSET_OFS_OFS set ofs.toNat).set
        Fld.WHORL_DOMSET_STATUS_LOST set 0 with
      net := { s.net with written := Sparse.insert s.net.written set s.refTime } }) ∧
  (∀ (s : State) (set : Nat) (rate : BitVec 32), s.setUp = true → set < 2 → s.domain ≠ set + 1 →
    ∃ t, exec (.domRateWrite set rate) s = .next t ∧ SetsOnly s t [(Fld.WHORL_DOMSET_RATE_RATE, set, rate.toNat)]) ∧
  (∀ (s : State) (set : Nat) (rate : BitVec 32), s.setUp = true → set < 2 → s.domain = set + 1 →
    ∃ t, exec (.domRateWrite set rate) s = .next t ∧
      SetsOnly s t [(Fld.WHORL_DOMSET_RATE_RATE, set, rate.toNat), (Fld.WHORL_RATE_ADJ_ADJ, 0, rate.toNat)])) ∧
  (∀ (s : State) (set : Nat), set < 2 → s.powered = true → s.isSet Fld.WHORL_DOMSET_STATUS_LOST set = false →
    (s.refTime < Sparse.get 0 s.net.written set + s.get Fld.WHORL_DOMSET_LOSS_US set * Config.us →
      exec (.domainLost set) s = .next s) ∧
    (Sparse.get 0 s.net.written set + s.get Fld.WHORL_DOMSET_LOSS_US set * Config.us ≤ s.refTime →
      ∀ t, t = (s.set Fld.WHORL_DOMSET_STATUS_LOST set 1).raise Flg.WHORL_DOM_EVT_DOM_LOST 0 →
      (t.domain ≠ set + 1 → exec (.domainLost set) s = .next t) ∧
      (t.domain = set + 1 → t.isSet Fld.WHORL_DOMSET_CFG_AUTO_SWITCH 0 = false →
        exec (.domainLost set) s = .next (t.timeFault (t.isSet Fld.SELV_TIME_CFG_DOM_FAULT 0))) ∧
      (∀ u, t.domain = set + 1 → t.isSet Fld.WHORL_DOMSET_CFG_AUTO_SWITCH 0 = true →
        t.isSet Fld.WHORL_DOMSET_CFG_VALID (1 - set) = true → t.isSet Fld.WHORL_DOMSET_STATUS_LOST (1 - set) = false →
        t.switchSet (1 - set) = some u →
        exec (.domainLost set) s = .next (u.raise Flg.WHORL_DOM_EVT_AUTO_SWITCHED 0))))

/-- Losing the reference sets HOLDOVER and REF_LOST and is a Selvedge time fault by its configuration; its return
restores lock; holdover beyond REF_HOLD is a Selvedge fault. The beat monitor takes one count in each interval of
4,000 ticks, 0 for a loom that was idle. A frame that a replica disagrees with unsynchronises it and the next good
frame resynchronises it. A selected edge is stamped into its FIFO, or lost with OVERRUN when full; the first high-half
read after a capture removes the head. (R42, R49, R61, R475, R476, R536) -/
def Obligations.ReferenceWaveAndStamps : Prop :=
  ((∀ s : State, s.powered = true → s.whorl.refValid = true → s.timed = false →
    exec .refclkLost s = .next (((({ s with
      whorl := { s.whorl with refValid := false, lostAt := s.refTime, expired := false } }).set
        Fld.WHORL_STATUS_HOLDOVER 0 1).set Fld.WHORL_STATUS_REF_LOCK 0 0).raise Flg.WHORL_EVT_REF_LOST 0)) ∧
  (∀ s : State, s.timed = (s.selv.on && decide (s.dev = .standby ∨ s.dev = .run))) ∧
  (∀ s t : State, s.powered = true → s.whorl.refValid = true → s.timed = true →
    t = (((({ s with whorl := { s.whorl with refValid := false, lostAt := s.refTime, expired := false } }).set
        Fld.WHORL_STATUS_HOLDOVER 0 1).set Fld.WHORL_STATUS_REF_LOCK 0 0).raise Flg.WHORL_EVT_REF_LOST 0).raise
        Flg.SELV_EVT_TIME_FAULT 0 →
    exec .refclkLost s = .next (if s.isSet Fld.SELV_TIME_CFG_REF_FAULT 0 then t.selvFault 4 0 72 else t)) ∧
  (∀ s : State, s.powered = true → exec .refclkRestored s = .next
    (({ s with whorl := { s.whorl with refValid := true } }).set Fld.WHORL_STATUS_HOLDOVER 0 0 |>.set
      Fld.WHORL_STATUS_REF_LOCK 0 1)) ∧
  (∀ s : State, s.timed = true → s.isSet Fld.WHORL_STATUS_HOLDOVER 0 = true → s.whorl.refValid = false →
    s.whorl.expired = false → s.whorl.lostAt + s.get Fld.SELV_TIMING_REF_HOLD 0 * 1000 * Config.us ≤ s.refTime →
    exec .refHoldExpire s = .next (({ s with whorl := { s.whorl with expired := true } }).selvFault 4 0 72)) ∧
  (∀ s : State, s.refTime < s.whorl.lostAt + s.get Fld.SELV_TIMING_REF_HOLD 0 * 1000 * Config.us →
    exec .refHoldExpire s = .next s)) ∧
  ((∀ (s : State) (beats k : Nat), s.powered = true → s.now / 4000 ≠ s.heddle.beatAt →
    k = s.get Fld.WHORL_BEATMON_SEL_SKEIN 0 → ∃ t b, exec (.beatmonUpdate beats) s = .next t ∧
      t = { s.set Fld.WHORL_BEATMON_BEATS 0 b with heddle := t.heddle } ∧
      t.heddle.beatAt = s.now / 4000 ∧ t.heddle.beatBase = t.heddle.beats ∧
      (¬ k ∈ s.busyLooms → s.beatsMixed k = false → b = Sparse.get 0 s.heddle.beats k - Sparse.get 0 s.heddle.beatBase k) ∧
      (¬ k ∈ s.busyLooms → Sparse.get 0 s.heddle.beats k = Sparse.get 0 s.heddle.beatBase k → b = 0) ∧
      (k ∈ s.busyLooms → s.beatsMixed k = false →
        Sparse.get 0 s.heddle.beats k - Sparse.get 0 s.heddle.beatBase k ≤ b ∧
        Sparse.get 0 s.heddle.beats k ≤ Sparse.get 0 t.heddle.beats k ∧
        (Sparse.get 0 s.heddle.beatBase k ≤ Sparse.get 0 s.heddle.beats k →
          Sparse.get 0 t.heddle.beats k = Sparse.get 0 s.heddle.beatBase k + b))) ∧
  (∀ (s : State) (beats : Nat), s.now / 4000 = s.heddle.beatAt → exec (.beatmonUpdate beats) s = .next s) ∧
  (∀ s : State, s.powered = true → s.whorl.unsynced = [] →
    exec (.timeWaveFrame []) s = .next (s.set Fld.WHORL_STATUS_WAVE_OK 0 1)) ∧
  (∀ (s : State) (r : Nat), s.powered = true → s.whorl.unsynced = [] →
    exec (.timeWaveFrame [r]) s = .next (({ s with whorl := { s.whorl with unsynced := [r] } }).set
      Fld.WHORL_STATUS_WAVE_OK 0 0)) ∧
  (∀ (s : State) (r : Nat), s.powered = true → s.whorl.unsynced = [r] →
    exec (.timeWaveFrame []) s = .next ((({ s with whorl := { s.whorl with unsynced := [] } }).set
      Fld.WHORL_STATUS_WAVE_OK 0 1).resync r))) ∧
  ((∀ (s u : State) (pin : Nat) (rising : Bool) (ticks : Nat), s.powered = true →
    s.isSet Fld.WHORL_TINPIN_CFG_EN pin = true → s.tinSelects pin rising = true →
    Sparse.find s.net.levels pin ≠ some rising → 4 * s.get Fld.WHORL_TINPIN_CFG_FILTER pin ≤ ticks →
    u = { s with net := { s.net with levels := Sparse.insert s.net.levels pin rising } } →
    ((s.tinFifo pin).length < 16 → exec (.timeInEdge pin rising ticks) s = .next { u with
      net := { u.net with fifos := Sparse.insert s.net.fifos pin (s.tinFifo pin ++ [(s.now, !rising)]) } }) ∧
    (16 ≤ (s.tinFifo pin).length → exec (.timeInEdge pin rising ticks) s = .next
      (((u.set Fld.WHORL_TIN_EVT_OVERRUN 0 (s.get Fld.WHORL_TIN_EVT_OVERRUN 0 ||| 2 ^ pin)).count
        Fld.WHORL_TIN_EVT_CNT_COUNT pin 1).raiseSource 21))) ∧
  (∀ (s : State) (pin : Nat) (rising : Bool) (ticks : Nat), s.powered = true →
    ticks < 4 * s.get Fld.WHORL_TINPIN_CFG_FILTER pin →
    ∃ high, (∀ l, Sparse.find s.net.levels pin = some l → high = l) ∧ exec (.timeInEdge pin rising ticks) s = .next
      { s with net := { s.net with levels := Sparse.insert s.net.levels pin high } }) ∧
  (∀ (s : State) (pin : Nat) (rising : Bool) (ticks : Nat), s.powered = true →
    Sparse.find s.net.levels pin = some rising → 4 * s.get Fld.WHORL_TINPIN_CFG_FILTER pin ≤ ticks →
    exec (.timeInEdge pin rising ticks) s = .next s) ∧
  (∀ (s : State) (pin : Nat), s.setUp = true → pin ∈ s.net.captured → ∃ t,
    exec (.tinStampHighRead pin) s = .next t ∧
    t.hostRead = Sparse.get 0 s.shadows (Reg.WHORL_TINPIN_STAMP.base + 0x10 * pin) / 2 ^ 32 ∧
    t.tinFifo pin = (s.tinFifo pin).drop 1 ∧ ¬ pin ∈ t.net.captured ∧
    ∀ p, p ≠ pin → t.tinFifo p = s.tinFifo p ∧ (p ∈ t.net.captured ↔ p ∈ s.net.captured)) ∧
  (∀ (s : State) (pin : Nat), s.setUp = true → ¬ pin ∈ s.net.captured → exec (.tinStampHighRead pin) s = .next
    { s with hostRead := Sparse.get 0 s.shadows (Reg.WHORL_TINPIN_STAMP.base + 0x10 * pin) / 2 ^ 32 }))

/-- Outside BOOT the sequence changes nothing. In BOOT, no PUF root or no valid header leads to ROM service; a held
record that the flash cannot take leads to RECOVERY in ROM service; then, after the writes of step 4, the images: an
invalid hub manifest leads to ROM service, an invalid Selvedge manifest to RECOVERY with 0x0702, and with both valid
the Selvedge image is loaded and the rest runs on the two manifests of the slots that the header names: a
compatibility set that differs or a stepping that is not accepted, of either image, leads to RECOVERY with 0x0701, a
version below its floor, of either image, with 0x0702, and a recorded class B alarm with 0x0703; a missed start-up
test leads to SAFE; otherwise BOOT ends in STANDBY. The next state is given at each branch, and every RECOVERY holds
its cause, its status and the state before. (R27, R549, R550, R554, R556, R558, R559, R561) -/
def Obligations.BootStepsInOrder : Prop :=
  (∀ (s : State) (x : BootInputs), s.dev ≠ .boot → exec (.bootSequence x) s = .next s) ∧
  (∀ (s : State) (x : BootInputs), s.dev = .boot → ∃ t, exec (.bootSequence x) s = .next t ∧
    (t.dev = .standby ∨ t.dev = .recovery ∨ t.dev = .safe)) ∧
  (∀ (s : State) (x : BootInputs), s.dev = .boot → ∀ a, a = s.bootBegin x →
    a.sec.puf = sliceOf x.puf 0 8192 ∧
    exec (.bootSequence x) s = .next (match (Config.pufRoot a.sec.puf a.helperData).map (fun r => leBytes 32 r.toNat) with
      | none => ({ a with sec := { a.sec with journalKey := [], identity := [], attest := [], wrap := [], keys := [] } }).bootRom
      | some root => ((({ a with sec := { a.sec with
          journalKey := hmac512 root labelJournal, identity := (hmac512 root labelIdentity).take 32
          attest := [], wrap := [], keys := [] } }).setPub Fld.SEC_IDENT_PUB_KEY
            (edPublic ((hmac512 root labelIdentity).take 32))).bootJournal x root))) ∧
  (∀ (s : State) (x : BootInputs) (root : List Byte), s.headerNow s.sec.journalKey = none →
    s.bootJournal x root = s.bootRom) ∧
  (∀ (s t : State) (x : BootInputs) (root : List Byte), s.headerNow s.sec.journalKey ≠ none →
    t = (s.setAll [(Fld.SEC_STATUS_HUB_SLOT, 0, s.headerSlot 0), (Fld.SEC_STATUS_SELV_SLOT, 0, s.headerSlot 1)]).bootReplay →
    ((t.aon.pendingEpoch = true ∨ t.aon.held ≠ []) → x.flashWrites = false →
      s.bootJournal x root = (t.set Fld.SEC_STATUS_ROM_SERVICE 0 1).bootRecovery 9 0x0703) ∧
    (x.flashWrites = true → s.bootJournal x root =
      ({ t.bootWrites with sec := { t.bootWrites.sec with replayed := true } }).bootImages x root)) ∧
  (∀ (s t : State) (x : BootInputs) (root hub selv : List Byte), hub = s.slotManifest 0 (s.headerSlot 0) →
    selv = s.slotManifest 1 (s.headerSlot 1) →
    t = State.set { s with
        aon := { s.aon with policy := manifestPolicy hub }
        sec := { s.sec with hubManifest := hub } } Fld.SEC_HUB_VERSION_VERSION 0 (manifestVersion hub) →
    s.bootImages x root =
      if s.slotValid s.jnlNow 0 (s.headerSlot 0) = false then s.bootRom
      else if s.slotValid s.jnlNow 1 (s.headerSlot 1) = false then t.bootRecovery 4 0x0702
      else (State.loadSelvedge (State.set { t with
          sec := { t.sec with selvManifest := selv }
          selv := { t.selv with on := true } } Fld.SEC_SELV_VERSION_VERSION 0 (manifestVersion selv))
        (s.headerSlot 1)).bootLate x root hub selv) ∧
  (∀ (s : State) (x : BootInputs) (root hub selv : List Byte),
    manifestCompat hub ≠ manifestCompat selv ∨ manifestB1 hub = false ∨ manifestB1 selv = false →
    s.bootLate x root hub selv = s.bootRecovery 4 0x0701) ∧
  (∀ (s t : State) (x : BootInputs) (root hub selv : List Byte), manifestCompat hub = manifestCompat selv →
    manifestB1 hub = true → manifestB1 selv = true → t = s.set Fld.HUB_COMPAT_SET_SET_ID 0 (manifestCompat hub) →
    (manifestVersion hub < t.get Fld.SEC_HUB_FLOOR_FLOOR 0 ∨ manifestVersion selv < t.get Fld.SEC_SELV_FLOOR_FLOOR 0 →
      s.bootLate x root hub selv = t.bootRecovery 4 0x0702) ∧
    (t.get Fld.SEC_HUB_FLOOR_FLOOR 0 ≤ manifestVersion hub → t.get Fld.SEC_SELV_FLOOR_FLOOR 0 ≤ manifestVersion selv →
      (t.aon.pendingB = true → s.bootLate x root hub selv =
        ({ t with aon := { t.aon with pendingB := false } }).bootRecovery 6 0x0703) ∧
      (t.aon.pendingB = false → firstMissed x.missed = none → s.bootLate x root hub selv =
        (((t.bootKeys root).bootSelvedge x).autoload).go .standby 3) ∧
      (∀ k src, t.aon.pendingB = false → firstMissed x.missed = some (k, src) → s.bootLate x root hub selv =
        ((t.bootKeys root).bootSelvedge x).bootSafe k src))) ∧
  (∀ (s : State) (cause status : Nat), ∃ t, s.bootRecovery cause status = t ∧ t.dev = .recovery ∧ t.aon.cause = cause ∧
    t.aon.causeStatus = status ∧ t.aon.prev = s.dev)

/-- Inside WHORL_GUARD of its launch a waiting command guards its engine; a ready and chosen command starts (or
resumes), and none starts before its launch time, without its token or while nothing is served. A command late by its
tolerance sets LAUNCH_LATE and is skipped or runs late by policy. A loom that was asked to yields at most two commands
and counts it. (R53, R55, R56, R175) -/
def Obligations.LaunchAndYield : Prop :=
  (∀ (s : State) (uid : Nat) (c : Cmd), s.cmd? uid = some c →
    (c.launch ≠ 0 → c.launch ≤ s.now + c.guard → c.phase = .queued →
      exec (.launchGuard uid) s = .next (s.modCmd uid (fun c => { c with guarded := true }))) ∧
    (s.now + c.guard < c.launch → exec (.launchGuard uid) s = .next s) ∧
    (s.startable c = true → s.chooses c = true → c.phase = .queued →
      exec (.launchStart uid) s = .next ((s.begin c (s.target c)).noteJob (s.target c) c.job)) ∧
    (s.startable c = true → s.chooses c = true → c.phase = .yielded →
      exec (.launchStart uid) s = .next ((s.resume c).noteJob c.engine c.job)) ∧
    (s.now < c.launch → exec (.launchStart uid) s = .next s) ∧
    (c.tokenOk = false → exec (.launchStart uid) s = .next s) ∧
    (s.serving = false → exec (.launchStart uid) s = .next s)) ∧
  (∀ (s : State) (uid : Nat) (c : Cmd), s.cmd? uid = some c →
    (∀ t, t = s.raise Flg.WHORL_EVT_LAUNCH_LATE 0 →
      c.launch ≠ 0 → c.launch + c.tol ≤ s.now → c.late = false → (c.phase = .admitted ∨ c.phase = .queued) →
      s.synced c.home = true → s.isSet Fld.HEDDLE_STATUS_ABORTING 0 = false →
      (s.skipsLate c = false → exec (.launchLate uid) s = .next (t.modCmd uid (fun c => { c with late := true }))) ∧
      (s.skipsLate c = true → exec (.launchLate uid) s = .next
        (((t.withdraw (.cmd uid)).finish uid 0x0401 0).modCmd uid (fun c => { c with via := none })).fillQueues)) ∧
    (s.now < c.launch + c.tol → exec (.launchLate uid) s = .next s) ∧
    (c.launch = 0 → exec (.launchLate uid) s = .next s)) ∧
  ((∀ (s : State) (k : Nat) (c : Cmd),
    s.cmds.find? (fun c => decide (c.engine = .loom k) && decide (c.phase = .running) && c.yieldReq) = some c →
    (s.cmds.filter (fun d => decide (d.engine = .loom k) && decide (d.phase = .yielded))).length < 2 →
    exec (.loomYield k) s = .next (((s.noteGroup c).modCmd c.uid (fun c => { c with phase := .yielded, yieldReq := false })).count
      Fld.SKEIN_LOOM_CNT_YIELD_COUNT k 1)) ∧
  (∀ (s : State) (k : Nat), (s.cmds.filter (fun d => decide (d.engine = .loom k) && decide (d.phase = .yielded))).length = 2 →
    exec (.loomYield k) s = .next s) ∧
  (∀ (s : State) (k : Nat), (∀ c ∈ s.cmds, c.yieldReq = false) → exec (.loomYield k) s = .next s))

/-- For a core that runs (or resumes from a stall): a bundle with a static trap, or with a trap of a slot, branch or
issue, traps the core; one whose wait is not granted, fence is open or issue has no room stalls the core with nothing
else changed; otherwise every write of the bundle lands. A core in another state, halted or not served takes no
bundle; one whose program is cut short in this beat traps where its bundle has a trap, and otherwise does nothing.
(R65, R67, R68, R70, R71, R72, R73, R74) -/
def Obligations.SpindleBundles : Prop :=
  (∀ (s : State) (k q uid w : Nat) (a : Writes × Option RowUse) (b : Branch) (is : List IssueSlot),
    s.coreRuns k q = some uid → s.coreHalted k q = false → w = s.bundleAt k q →
    a = s.slotWrites k q (s.core k q).job (s.core k q).regs w → b = branchOf (s.core k q) (s.mayWait (s.core k q).job) w →
    is = (s.landDmem k q a.1.dmem).issueSlots k q (s.core k q).job (s.core k q).regs w →
    ∀ c, (c = .bundle k q ∧ (s.core k q).state = .run) ∨ (c = .bundleResume k q ∧ (s.core k q).state = .stalled) →
    (∀ cause, staticTrap w = some cause → exec c s = .next (s.coreTrap k q cause 0)) ∧
    (∀ cause code, staticTrap w = none → bundleTrap a.1.trap b.trap (is.findSome? (s.issueTrap (s.core k q).job)) = some (cause, code) →
      exec c s = .next (s.coreTrap k q cause code)) ∧
    (staticTrap w = none → bundleTrap a.1.trap b.trap (is.findSome? (s.issueTrap (s.core k q).job)) = none →
      ((∃ id, b.wait = some id ∧ tokenNull id = false ∧ (s.core k q).waitGranted = false) ∨ s.fenceOpen k q b.fence = true ∨
        (∃ x ∈ is, s.issueRoom (s.core k q).job x = false) →
        exec c s = .next (s.putCore k q { s.core k q with state := .stalled })) ∧
      ((∀ id, b.wait = some id → tokenNull id = true ∨ (s.core k q).waitGranted = true) → s.fenceOpen k q b.fence = false →
        (∀ x ∈ is, s.issueRoom (s.core k q).job x = true) →
        exec c s = .next (s.landBundle k q uid a.1 a.2 b is).settle))) ∧
  (∀ (s : State) (k q : Nat),
    ((s.core k q).state ≠ .run → s.coreCut k q = false → exec (.bundle k q) s = .next s) ∧
    ((s.core k q).state ≠ .stalled → exec (.bundleResume k q) s = .next s) ∧
    (s.coreHalted k q = true → exec (.bundle k q) s = .next s ∧ exec (.bundleResume k q) s = .next s) ∧
    (s.coreRuns k q = none → s.coreCut k q = false → exec (.bundle k q) s = .next s ∧ exec (.bundleResume k q) s = .next s) ∧
    (s.serving = false → s.coreRuns k q = none) ∧
    (s.coreRuns k q = none → s.coreCut k q = true → s.coreHalted k q = false →
      exec (.bundle k q) s = .next (match s.trapOf k q with
        | some p => s.coreTrap k q p.1 p.2
        | none => s)))

/-- For an integer slot with register operands and a destination other than g0, landing the slot writes the 64-bit
wrapped sum, difference and product, the bitwise and, or and exclusive or, the shifts by the low six bits, and for a
zero divisor all ones with DIVZ set and the dividend as remainder. (R67, R74) -/
def Obligations.IntegerSlotArithmetic : Prop :=
  ∀ (s : State) (k q job : Nat) (r : CoreRegs) (v : Nat) (a b : BitVec 64), bitsOf v 47 5 ≠ 0 → bitsOf v 36 1 = 0 →
    r.gr (bitsOf v 42 5) = a.toNat → r.gr (bitsOf v 37 5) = b.toNat →
    ((r.land (s.intSlot k q job r v .add) []).gr (bitsOf v 47 5) = (a + b).toNat) ∧
    ((r.land (s.intSlot k q job r v .sub) []).gr (bitsOf v 47 5) = (a - b).toNat) ∧
    ((r.land (s.intSlot k q job r v .mul) []).gr (bitsOf v 47 5) = (a * b).toNat) ∧
    ((r.land (s.intSlot k q job r v .and) []).gr (bitsOf v 47 5) = (a &&& b).toNat) ∧
    ((r.land (s.intSlot k q job r v .or) []).gr (bitsOf v 47 5) = (a ||| b).toNat) ∧
    ((r.land (s.intSlot k q job r v .xor) []).gr (bitsOf v 47 5) = (a ^^^ b).toNat) ∧
    ((r.land (s.intSlot k q job r v .shl) []).gr (bitsOf v 47 5) = (a <<< (b.toNat % 64)).toNat) ∧
    ((r.land (s.intSlot k q job r v .shr) []).gr (bitsOf v 47 5) = (a >>> (b.toNat % 64)).toNat) ∧
    (b = 0 → (r.land (s.intSlot k q job r v .div) []).gr (bitsOf v 47 5) = 2 ^ 64 - 1 ∧
      (r.land (s.intSlot k q job r v .div) []).divz = true ∧
      (r.land (s.intSlot k q job r v .rem) []).gr (bitsOf v 47 5) = a.toNat)

/-- PROG with LOAD checks the image and ends with BAD_FIELD, or places it and starts; without LOAD it enters the one
resident image of its job at an entry within it with g1 and g2 set, and ends with BAD_FIELD where none is resident.
While debug is locked a debugger action is a tamper trip of the debug sensor where that is active, and nothing else;
unlocked, halt and resume change one halted target, and step takes one bundle of a halted core (the waits of a command
it stops end too); a core of a pair's checking hank takes no action. A halted Selvedge takes a step on both its cores
at once, a read returns a word of its memory and a write changes it; whatever is written, both memories go on holding
the same bytes and nothing else in memory changes. That a step writes free bytes at a free place is the model's choice
(assumption log). (R98, R100, R101, R102, R515, R541, R573) -/
def Obligations.ProgramsAndDebugger : Prop :=
  (∀ (s : State) (uid k q : Nat) (c : Cmd), s.runningCmd uid 0x0A = some c → c.engine = .prog k q →
    (∀ x : Image, (x.bobbinRows = [] → s.tileLoad c x = s) ∧
      (x.bobbinRows ≠ [] → s.tileLoad c x = (s.enrol c).modCmd c.uid (fun c => { c with digest := rowsDigest x.bobbinRows }))) ∧
    ((s.core k q).prog ≠ none → exec (.prog uid) s = .next s) ∧
    ((s.core k q).prog = none → (Prog.ofBytes c.desc).load = true →
      exec (.prog uid) s = .next (match s.readImage (Prog.ofBytes c.desc).image with
        | none => (s.finish uid 0x0102 0).settle
        | some x =>
          if s.loadOk c k q (Prog.ofBytes c.desc) x = false then (s.finish uid 0x0102 0).settle
          else if ((s.tileLoad c x).placeImage c k q x).2 = 0 then
            (((s.tileLoad c x).placeImage c k q x).1.startProgram c k q (Prog.ofBytes c.desc) (x.resident c.job)).settle
          else (((s.tileLoad c x).placeImage c k q x).1.finish uid ((s.tileLoad c x).placeImage c k q x).2 0).settle)) ∧
    ((s.core k q).prog = none → (Prog.ofBytes c.desc).load = false → s.residentsOf k q = [] →
      exec (.prog uid) s = .next (s.finish uid 0x0102 0).settle) ∧
    (∀ r t, (s.core k q).prog = none → (Prog.ofBytes c.desc).load = false → s.residentsOf k q = [r] → r.job = c.job →
      r.imemBase ≤ (Prog.ofBytes c.desc).entry → (Prog.ofBytes c.desc).entry < r.imemBase + r.imemLen →
      (r.fixedOnly = true → s.fixedTwist c.job = true) → s.openWindows k true r.windows = some t →
      exec (.prog uid) s = .next (t.putCore k q { t.core k q with
        state := .run, pc := (Prog.ofBytes c.desc).entry, job := c.job
        regs := ((t.core k q).regs.setG 1 (Prog.ofBytes c.desc).arg1).setG 2 (Prog.ofBytes c.desc).arg2
        prog := some uid, imemBase := r.imemBase, imemLen := r.imemLen, waitReg := false, waitGranted := false, cut := none }).settle)) ∧
  ((∀ (s : State) (target : Option (Nat × Nat)) (a : DebugAction), s.isSet Fld.SEC_STATUS_DEBUG_LOCKED 0 = true →
    exec (.debuggerHaltStep target a) s = .next (s.tamper (if s.sensorActive 3 then [3] else []))) ∧
  (∀ (s : State), s.isSet Fld.SEC_STATUS_DEBUG_LOCKED 0 = false → ∃ t, exec (.debuggerHaltStep none .halt) s = .next t ∧
    t = { s with selv := { s.selv with halted := t.selv.halted } } ∧ 128 ∈ t.selv.halted ∧
    ∀ h, h ≠ 128 → (h ∈ t.selv.halted ↔ h ∈ s.selv.halted)) ∧
  (∀ (s : State), s.isSet Fld.SEC_STATUS_DEBUG_LOCKED 0 = false → ∃ t, exec (.debuggerHaltStep none .resume) s = .next t ∧
    t = { s with selv := { s.selv with halted := t.selv.halted } } ∧ ¬ 128 ∈ t.selv.halted ∧
    ∀ h, h ≠ 128 → (h ∈ t.selv.halted ↔ h ∈ s.selv.halted)) ∧
  (∀ (s : State), s.isSet Fld.SEC_STATUS_DEBUG_LOCKED 0 = false → s.selv.on = true → 128 ∈ s.selv.halted →
    ∃ a bs, a + bs.length ≤ 2 ^ 19 ∧ exec (.debuggerHaltStep none .step) s = .next
      (State.selvedgeWrite { s with
        freeCount := s.freeCount + 2
        selv := { s.selv with stepped := (s.selv.stepped.1 + 1, s.selv.stepped.2 + 1) } } a bs)) ∧
  (∀ (s : State) (a v : Nat), s.isSet Fld.SEC_STATUS_DEBUG_LOCKED 0 = false → a < 2 ^ 19 → a % 4 = 0 →
    exec (.debuggerHaltStep none (.read a)) s = .next
      { s with selv := { s.selv with debugRead := leNat (s.load (Mem.selvedge 0 a) 4) } } ∧
    exec (.debuggerHaltStep none (.write a v)) s = .next (s.selvedgeWrite a (leBytes 4 v))) ∧
  (∀ (s t : State) (a : Nat) (bs : List Byte), a + bs.length ≤ 2 ^ 19 → t = s.selvedgeWrite a bs →
    (∀ i < 2 ^ 19, Mem.read s.mem (Mem.selvedge 0 i) = Mem.read s.mem (Mem.selvedge 1 i)) →
    (∀ i < 2 ^ 19, Mem.read t.mem (Mem.selvedge 0 i) = Mem.read t.mem (Mem.selvedge 1 i)) ∧
    (∀ x, x < Mem.selvedge 0 0 ∨ Mem.selvedge 1 (2 ^ 19) ≤ x → Mem.read t.mem x = Mem.read s.mem x)) ∧
  (∀ (s : State) (k q : Nat), s.isSet Fld.SEC_STATUS_DEBUG_LOCKED 0 = false →
    (∀ p, p < 4 → s.isSet Fld.SELV_PAIR_CFG_VALID p = false) →
    (∃ t, exec (.debuggerHaltStep (some (k, q)) .halt) s = .next t ∧
      t = { s with selv := { s.selv with halted := t.selv.halted } } ∧ t.coreHalted k q = true ∧
      ∀ h, h ≠ 2 * k + q → (h ∈ t.selv.halted ↔ h ∈ s.selv.halted)) ∧
    (∃ t, exec (.debuggerHaltStep (some (k, q)) .resume) s = .next t ∧
      t = { s with selv := { s.selv with halted := t.selv.halted } } ∧ t.coreHalted k q = false ∧
      ∀ h, h ≠ 2 * k + q → (h ∈ t.selv.halted ↔ h ∈ s.selv.halted)) ∧
    (s.coreHalted k q = true → exec (.debuggerHaltStep (some (k, q)) .step) s =
      .next ((s.takeBundle k q).forEach (List.range 4) (State.stopWaits s))) ∧
    (s.coreHalted k q = false → exec (.debuggerHaltStep (some (k, q)) .step) s = .next s)) ∧
  (∀ (s : State) (k q : Nat) (a : DebugAction), s.isSet Fld.SEC_STATUS_DEBUG_LOCKED 0 = false →
    (s.pairOfHank Fld.SELV_PAIR_CFG_CHECK_HANK k).isSome = true → exec (.debuggerHaltStep (some (k, q)) a) s = .next s))

/-- A signal that arrives adds its amount to COUNT; with no waiter only that token changes, and with one waiter in
CONSUME mode whose TARGET is reached the command is granted, TARGET is taken off and the grant joins those of its
beat. A queued command, a core, a capture stream and a dataset stream register at their token; the null token grants
at once. A wait that meets grants of other sources in its beat adds one to its job's counter for each in away mode; in
fixed twist it traps with cause 0x08, as does a grant with waiters of two sources, and so does a wait that arrives in
a beat in which a trap has already cut its program short. Which waits count as one beat's is the model's reading
(assumption log). (R85, R88, R90, R91, R104, R499) -/
def Obligations.TokenSignalsAndWaits : Prop :=
  ((∀ (s : State) (id n : Nat) (rest : List (Nat × Nat)), s.signals = (id, n) :: rest → tokenNull id = false →
    s.heddle.tokenReset = false → s.relays id = false → s.heddle.fault = none → (s.token id).count + n ≤ 0xFFFF →
    ((s.token id).waiters = [] → ∃ t, exec (.tokenSignalArrive id) s = .next t ∧
      t = { s with signals := rest, tokens := t.tokens } ∧
      t.token id = { s.token id with count := (s.token id).count + n } ∧ ∀ j, j ≠ id → t.token j = s.token j) ∧
    (∀ uid c, (s.token id).waiters = [.cmd uid] → (s.token id).level = false → s.cmd? uid = some c → c.phase = .queued →
      (s.token id).target ≤ (s.token id).count + n → ∃ t, exec (.tokenSignalArrive id) s = .next t ∧
      t.token id = { s.token id with
        count := (s.token id).count + n - (s.token id).target, waiters := []
        grants := s.beatGrants (s.token id) ++ [(s.refTime, (Waiter.cmd uid).source s, false)] } ∧
      t.cmd? uid = some { c with granted := true } ∧ t.signals = rest ∧ t.regs = s.regs ∧ t.mem = s.mem)) ∧
  (∀ (s : State) (id : Nat), (∀ p ∈ s.signals, p.1 ≠ id) → exec (.tokenSignalArrive id) s = .next s)) ∧
  ((∀ (s : State) (uid : Nat) (c : Cmd), s.cmd? uid = some c → c.phase = .queued → s.isHead c = true →
    c.registered = false → c.tokenOk = false → (s.cutNow = false ∨ uid ∉ s.heddle.cutWaits) →
    exec (.tokenWaitRegister (.cmd uid)) s = .next ((s.modCmd uid (fun c => { c with registered := true })).register c.waitToken (.cmd uid)).settle) ∧
  (∀ (s : State) (k q id : Nat), s.coreWait k q = some id → (s.core k q).state = .stalled → (s.core k q).waitReg = false →
    (s.core k q).waitGranted = false → (s.cutNow = false ∨ (s.core k q).cutWait = false) →
    exec (.tokenWaitRegister (.core k q)) s = .next ((s.putCore k q { s.core k q with waitReg := true }).register id (.core k q)).settle) ∧
  (∀ (s : State) (uid : Nat) (c : Cmd), s.cmd? uid = some c → s.cutNow = true → uid ∈ s.heddle.cutWaits →
    exec (.tokenWaitRegister (.cmd uid)) s = .next (s.cmdWaitLate c).settle) ∧
  (∀ (s : State) (k q : Nat), s.cutNow = true → (s.core k q).cutWait = true →
    exec (.tokenWaitRegister (.core k q)) s = .next (s.coreWaitLate k q).settle) ∧
  (∀ (s : State) (id : Nat) (w : Waiter), (s.token id).level = false → s.fixedTwist ((s.token id).owner.getD 0) = true →
    s.contested ((s.token id).cut ++ [w]) = true → s.lateWait id w =
      (s.putToken id { s.token id with cut := (s.token id).cut ++ [w] }).trap (tokenHome id) 0 0x08 0
        ((s.token id).owner.getD 0)) ∧
  (∀ (s : State) (n : Nat), (s.cap n).live = true → exec (.tokenWaitRegister (.capture n)) s =
    .next (s.register (s.get Fld.CARD_CAP_TOKENS_FREE n) (.cap n)).settle) ∧
  (∀ (s : State) (d : Nat), (s.ds d).live = true → exec (.tokenWaitRegister (.dataset d)) s =
    .next (s.register (s.get Fld.CARD_DS_TOKENS_FREE d) (.ds d)).settle) ∧
  (∀ (s : State) (id : Nat) (w : Waiter), tokenNull id = true → s.register id w = s.grantTo w) ∧
  (∀ (s : State) (id : Nat) (w : Waiter), tokenNull id = false → (s.token id).waiters = [] →
    (s.token id).count < (s.token id).target → s.meetsGrant (s.token id) w = false →
    s.register id w = s.putToken id { s.token id with waiters := [w] }) ∧
  (∀ (s : State) (id : Nat) (w : Waiter), tokenNull id = false → w ∉ (s.token id).waiters → s.meetsGrant (s.token id) w = true →
    s.fixedTwist ((s.token id).owner.getD 0) = true →
    s.register id w = (s.putToken id (s.joined (s.token id) w)).trap (tokenHome id) 0 0x08 0
      ((s.token id).owner.getD 0)) ∧
  (∀ (s : State) (id : Nat) (w : Waiter), tokenNull id = false → w ∉ (s.token id).waiters → s.meetsGrant (s.token id) w = true →
    s.fixedTwist ((s.token id).owner.getD 0) = false →
    s.register id w = ((s.putToken id (s.joined (s.token id) w)).ndcs ((s.token id).owner.getD 0)
      (s.metGrants (s.token id) w)).serve id) ∧
  (∀ (s : State) (id : Nat), (s.token id).level = false → s.contested (s.token id).waiters = true →
    s.fixedTwist ((s.token id).owner.getD 0) = true →
    s.serve id = s.trap (tokenHome id) 0 0x08 0 ((s.token id).owner.getD 0)))

/-- ASSIGN of an unassigned token sets its owner, COUNT, TARGET and MODE; index 0, a token of another job or of a busy
job is refused with TOKEN_REFUSED. RELEASE resets an owned token where its job may release, and is refused otherwise
and for an unassigned token. RELEASE_TOKENS resets exactly the job's tokens, or is refused with CFG_REFUSED. (R86,
R87) -/
def Obligations.TokensAssignedAndReleased : Prop :=
  (∀ (s : State) (k i job n target : Nat) (level : Bool), s.setUp = true → s.heddle.fault = none → i ≠ 0 →
    (s.token (k * 1024 + i)).owner = none → (s.token (k * 1024 + i)).waiters = [] →
    exec (.tokenAssign k i job n target level) s =
      .next (s.putToken (k * 1024 + i) { s.token (k * 1024 + i) with
        count := n, target := target, level := level, owner := some job })) ∧
  (∀ (s : State) (k i job n target j : Nat) (level : Bool), s.setUp = true →
    (i = 0 ∨ ((s.token (k * 1024 + i)).owner = some j ∧ (j ≠ job ∨ s.jobBusy job = true))) →
    exec (.tokenAssign k i job n target level) s = .next (s.raise Flg.SKEIN_EVT_TOKEN_REFUSED k).settle) ∧
  (∀ (s : State) (k i job : Nat), s.setUp = true → i ≠ 0 → (s.token (k * 1024 + i)).owner = some job →
    exec (.tokenRelease k i) s = .next (if s.mayRelease job then s.putToken (k * 1024 + i) Token.reset
      else s.raise Flg.SKEIN_EVT_TOKEN_REFUSED k)) ∧
  (∀ (s : State) (k i : Nat), s.setUp = true → (s.token (k * 1024 + i)).owner = none →
    exec (.tokenRelease k i) s = .next (s.raise Flg.SKEIN_EVT_TOKEN_REFUSED k)) ∧
  (∀ (s : State) (job : Nat), s.setUp = true → s.mayRelease job = false →
    exec (.releaseTokens job) s = .next (s.raise Flg.RING_EVT_CFG_REFUSED 0)) ∧
  (∀ (s : State) (job : Nat), s.setUp = true → s.mayRelease job = true → ∃ t, exec (.releaseTokens job) s = .next t ∧
    t = { s with tokens := t.tokens } ∧ ∀ id, t.token id = if id ∈ s.ownedTokens job then Token.reset else s.token id)

/-- WAIT registers at its token or ends with DEADLINE_MISSED, at its start or when the deadline passes; SIGNAL sends
its amount and ends OK; FENCE ends OK exactly when every command it awaits is gone. Finishing a command sets its
status and result and leaves every other command as it was. (R88, R89, R98) -/
def Obligations.RingEngineCommands : Prop :=
  (∀ (s : State) (uid : Nat) (c : Cmd), s.runningCmd uid 0x0B = some c → c.registered = false →
    exec (.wait uid) s = .next (if c.field 32 8 ≠ 0 ∧ c.field 32 8 < s.now then s.finish uid 0x0402 0
      else ((s.modCmd uid (fun c => { c with registered := true })).register (c.field 24 2) (.cmd uid)).settle)) ∧
  (∀ (s : State) (uid : Nat) (c : Cmd), s.runningCmd uid 0x0B = some c → c.registered = true → c.field 32 8 ≠ 0 →
    (c.field 32 8 ≤ s.now → exec (.waitDeadline uid) s = .next ((s.withdraw (.cmd uid)).finish uid 0x0402 0)) ∧
    (s.now < c.field 32 8 → exec (.waitDeadline uid) s = .next s)) ∧
  (∀ (s : State) (uid : Nat) (c : Cmd), s.runningCmd uid 0x0C = some c → exec (.signal uid) s = .next
    ((if tokenNull (c.field 24 2) then s else { s with signals := s.signals ++ [(c.field 24 2, c.field 26 2)] }).finish
      uid 0 0)) ∧
  (∀ (s : State) (uid : Nat) (c : Cmd), s.runningCmd uid 0x0D = some c →
    ((∀ u ∈ c.awaits, s.cmd? u = none) → exec (.fenceDescriptor uid) s = .next (s.finish uid 0 0)) ∧
    ((∃ u ∈ c.awaits, s.cmd? u ≠ none) → exec (.fenceDescriptor uid) s = .next s)) ∧
  (∀ (s : State) (uid status result : Nat) (c : Cmd), s.cmd? uid = some c → ∃ t d, s.finish uid status result = t ∧
    t.cmd? uid = some d ∧ d.phase = .ended ∧ d.status = status ∧ d.result = result ∧
    t = { s with cmds := t.cmds } ∧ ∀ u, u ≠ uid → t.cmd? u = s.cmd? u)

/-- An ended command completes where its copy-back is done, its tile may and, if it owes a digest record, its record's
turn has come: a record that became due earlier goes first. After an abort the tokens are reset and trapped cores
become idle once no signal is in flight, and ABORTING clears once no command is left. A command that the thief may
steal and that ranks first begins on the thief and is counted; one that may not is left. The rows of a stolen command
are read on the thief and written back to its home skein, the rows it holds back are met there and not written, and
each access is reported like any other. (R89, R404, R405, R406, R417, R513) -/
def Obligations.CompletionRecoveryAndStealing : Prop :=
  ((∀ (s : State) (uid : Nat) (c : Cmd), s.cmd? uid = some c →
    (c.phase = .ended → s.tileReady c = true → c.copyDue = false → (s.recordDue c = true → s.recordTurn c = true) →
      exec (.commandComplete uid) s = .next (s.complete c)) ∧
    (s.recordDue c = true → (∃ d ∈ s.cmds, s.recordDue d = true ∧ d.dueAt < c.dueAt) →
      exec (.commandComplete uid) s = .next s) ∧
    (c.phase ≠ .ended → exec (.commandComplete uid) s = .next s) ∧
    (c.copyDue = true → exec (.commandComplete uid) s = .next s)) ∧
  (∀ s : State, s.heddle.tokenReset = true → s.signals = [] → exec .abortTokenReset s = .next
    { s with
      tokens := [], cores := s.cores.map (fun p => (p.1, if p.2.state = .trapped then { p.2 with state := .idle } else p.2))
      heddle := { s.heddle with tokenReset := false } }) ∧
  (∀ s : State, s.signals ≠ [] → exec .abortTokenReset s = .next s) ∧
  (∀ s : State, s.isSet Fld.HEDDLE_STATUS_ABORTING 0 = true → s.heddle.tokenReset = false → s.cmds = [] →
    ∃ t, exec .abortRecoveryEnd s = .next t ∧ SetsOnly s t [(Fld.HEDDLE_STATUS_ABORTING, 0, 0)]) ∧
  (∀ s : State, s.heddle.tokenReset = true ∨ s.cmds ≠ [] → exec .abortRecoveryEnd s = .next s)) ∧
  ((∀ (s : State) (uid thief : Nat) (c : Cmd) (e : Engine), s.cmd? uid = some c → c.thiefEngine thief = some e →
    s.stealable c thief = true → (∀ d ∈ s.cmds, d.thiefEngine thief = some e →
      stealRank thief c.home.skein ≤ stealRank thief d.home.skein ∨ s.stealable d thief = false) →
    exec (.steal uid thief) s = .next
      ((((s.count Fld.HEDDLE_CNT_STEAL_COUNT 0 1).ndc c.job).begin c e).noteJob e c.job).fillQueues) ∧
  (∀ (s : State) (uid thief : Nat) (c : Cmd), s.cmd? uid = some c →
    (c.launch ≠ 0 ∨ s.fixedTwist c.job = true ∨ s.isSet Fld.HEDDLE_JOB_CFG_STEAL_EN c.job = false ∨ c.phase ≠ .queued) →
    exec (.steal uid thief) s = .next s) ∧
  (∀ (s : State) (uid : Nat) (c : Cmd) (rows : List Nat) (r w : State × Nat), s.cmd? uid = some c → c.phase = .ended →
    c.copyDue = true → rows = (rowsOf c.writes).filter (fun row => !c.heldRows.contains row) →
    r = s.readRows c.engine.skein 6 uid rows →
    w = r.1.writeRows c.home.skein 6 uid (rows.map (fun row => (row, s.readRow c.engine.skein row))) →
    (r.2 ≠ 0 → exec (.stealCopyBackEnd uid) s = .next (r.1.finish uid r.2 0)) ∧
    (r.2 = 0 → w.2 ≠ 0 → exec (.stealCopyBackEnd uid) s = .next (w.1.finish uid w.2 0)) ∧
    (r.2 = 0 → w.2 = 0 → (w.1.meetRows c.home.skein 6 uid c.heldRows).2 = 0 → exec (.stealCopyBackEnd uid) s =
      .next ((w.1.meetRows c.home.skein 6 uid c.heldRows).1.modCmd uid
        (fun c => { c with copied := true, since := s.refTime })))) ∧
  (∀ (s : State) (uid : Nat) (c : Cmd), s.cmd? uid = some c → c.copyDue = false → exec (.stealCopyBackEnd uid) s = .next s))

/-- Each command with a bad field ends with BAD_FIELD; one whose rows lie outside its job's regions ends with a window
violation; otherwise its outputs are formed from the rows and constants its descriptor names, stored in its
destination rows, and it ends with its result; MATMUL and CONV leave the accumulators of every tile in the store of
that tile; CONV and POOL also count, and CONV reports its group. (R136, R153, R158, R168, R178, R199, R212) -/
def Obligations.LoomAndVectorCommandsRun : Prop :=
  ((∀ (s t : State) (uid beats : Nat) (c : Cmd), s.runningCmd uid 0x01 = some c → t = s.chargeCmd c beats →
    (matmulCheck c.desc ≠ none → exec (.matmul uid beats) s = .next (t.finish uid 0x0102 0)) ∧
    (∀ x, matmulCheck c.desc = none → Matmul.ofBytes c.desc = some x →
      (t.inRegions c.job (c.reads ++ c.writes) = true → exec (.matmul uid beats) s =
        .next ((t.endFormed c x.satReport c.reads (x.tiles t c.engine.skein (t.fixedTwist c.job) c.even c.routed)).leaveAccs c
          (tilesOf x.m x.n (placed ((x.gemm t c.engine.skein).acc (t.fixedTwist c.job)))).flatten)) ∧
      (t.inRegions c.job (c.reads ++ c.writes) = false → exec (.matmul uid beats) s = .next (t.finish uid 0x0204 0)))) ∧
  (∀ (s t : State) (uid beats : Nat) (c : Cmd), s.runningCmd uid 0x02 = some c → t = s.chargeCmd c beats →
    (convCheck c.desc ≠ none → exec (.conv uid beats) s = .next (t.finish uid 0x0102 0)) ∧
    (∀ x, convCheck c.desc = none → Conv.ofBytes c.desc = some x →
      (t.inRegions c.job (c.reads ++ c.writes) = true → exec (.conv uid beats) s =
        .next ((((t.set Fld.SKEIN_CONV_STATUS_GROUP c.engine.skein (x.groups - 1)).endFormed c x.satReport
            (x.touched c.engine.skein) (x.tiles t c.engine.skein (t.fixedTwist c.job) c.even)).leaveAccs c
          (x.tilesOf (fun g => placed ((x.gemm t c.engine.skein g).acc (t.fixedTwist c.job)))).flatten).count
            Fld.SKEIN_CONV_CNT_CONV_COUNT c.engine.skein 1)) ∧
      (t.inRegions c.job (c.reads ++ c.writes) = false → exec (.conv uid beats) s = .next (t.finish uid 0x0204 0))))) ∧
  ((∀ (s t : State) (uid beats : Nat) (c : Cmd), s.runningCmd uid 0x04 = some c → t = s.chargeCmd c beats →
    (vecCheck c.desc ≠ none → exec (.vec uid beats) s = .next (t.finish uid 0x0102 0)) ∧
    (∀ x os, vecCheck c.desc = none → Vec.ofBytes c.desc = some x →
      os = ((List.range x.r).map (x.outputs t c.engine.skein c.even)).flatten →
      (t.inRegions c.job (c.reads ++ c.writes) = true → exec (.vec uid beats) s =
        .next (t.endVector c x.satReport c.reads os)) ∧
      (t.inRegions c.job (c.reads ++ c.writes) = false → exec (.vec uid beats) s = .next (t.finish uid 0x0204 0)))) ∧
  (∀ (s t : State) (uid beats : Nat) (c : Cmd), s.runningCmd uid 0x03 = some c → t = s.chargeCmd c beats →
    (poolCheck c.desc ≠ none → exec (.pool uid beats) s = .next (t.finish uid 0x0102 0)) ∧
    (∀ x os, poolCheck c.desc = none → Pool.ofBytes c.desc = some x →
      os = x.outputs t c.engine.skein c.even →
      (t.inRegions c.job (c.reads ++ c.writes) = true → exec (.pool uid beats) s =
        .next ((t.endVector c false (x.touched c.engine.skein) os).count Fld.SKEIN_CONV_CNT_POOL_COUNT
          c.engine.skein 1)) ∧
      (t.inRegions c.job (c.reads ++ c.writes) = false → exec (.pool uid beats) s = .next (t.finish uid 0x0204 0)))))

/-- For each of the four commands, where no row read or merged has bad parity and no access races, the command ends,
every other command is as it was, and every byte outside host memory and outside the rows of the command's outputs
reads as before. (R113, R136, R168, R199, R212) -/
def Obligations.LoomAndVectorStoreOnlyTheirRows : Prop :=
  ∀ (s u v : State) (uid beats k : Nat) (c : Cmd) (i : Instr) (rd : List RowRange) (os : List Output),
    u = s.chargeCmd c beats → k = c.engine.skein →
    ((i = .matmul uid beats ∧ s.runningCmd uid 0x01 = some c ∧
        (∀ x, Matmul.ofBytes c.desc = some x → v = u ∧ rd = c.reads ∧
          os = (x.tiles u k (u.fixedTwist c.job) c.even c.routed).flatten)) ∨
      (i = .conv uid beats ∧ s.runningCmd uid 0x02 = some c ∧
        (∀ x, Conv.ofBytes c.desc = some x → v = u.set Fld.SKEIN_CONV_STATUS_GROUP k (x.groups - 1) ∧ rd = x.touched k ∧
          os = (x.tiles u k (u.fixedTwist c.job) c.even).flatten)) ∨
      (i = .pool uid beats ∧ s.runningCmd uid 0x03 = some c ∧
        (∀ x, Pool.ofBytes c.desc = some x → v = u ∧ rd = x.touched k ∧ os = x.outputs u k c.even)) ∨
      (i = .vec uid beats ∧ s.runningCmd uid 0x04 = some c ∧
        (∀ x, Vec.ofBytes c.desc = some x → v = u ∧ rd = c.reads ∧
          os = ((List.range x.r).map (x.outputs u k c.even)).flatten))) →
    (∀ row ∈ rowsOf rd, v.parityBad k row = false) → (∀ o ∈ os, v.parityBad k (outRow o) = false) →
    (∀ row w, v.raceWith k row w c.engine.source (some uid) = none) →
    ∃ t d, exec i s = .next t ∧ t.cmd? uid = some d ∧ d.phase = .ended ∧ (∀ v, v ≠ uid → t.cmd? v = s.cmd? v) ∧
      ∀ a, (a < 2 ^ 64 ∨ 2 ^ 65 ≤ a) →
        (∀ o ∈ os, ¬ (v.rowAddr k (outRow o) ≤ a ∧ a < v.rowAddr k (outRow o) + 512)) →
        Mem.read t.mem a = Mem.read s.mem a

/-- Accumulating a list is the exact sum with no saturation flag where every partial sum is in range; the accumulator
stays in the 32-bit range always; and an INT32 output without accumulation whose partial sums stay in range is the
two's complement of the exact sum of its chunk sums, with no flag. (R136, R153) -/
def Obligations.IntegerAccumulatorSaturatesOnly : Prop :=
  (∀ (a : Int) (l : List Int), (∀ n, n ≤ l.length → -2 ^ 31 ≤ a + (l.take n).sum ∧ a + (l.take n).sum < 2 ^ 31) →
    intAccumulate (a, false) l = (a + l.sum, false)) ∧
  (∀ (a : Int) (f : Bool) (l : List Int), -2 ^ 31 ≤ a → a < 2 ^ 31 →
    -2 ^ 31 ≤ (intAccumulate (a, f) l).1 ∧ (intAccumulate (a, f) l).1 < 2 ^ 31) ∧
  (∀ (x : Gemm) (even : Bool) (m n : Nat), x.out = .int32 → x.accum = false →
    (∀ j, j ≤ x.chunks → -2 ^ 31 ≤ ((List.range j).map (x.chunkSum m n)).sum ∧
      ((List.range j).map (x.chunkSum m n)).sum < 2 ^ 31) →
    x.intOut even m n =
      ⟨unsigned 32 ((List.range x.chunks).map (x.chunkSum m n)).sum, false, false, false, false, none, none⟩)

/-- The field check refuses with BAD_FIELD only, a stream that is not the job's and bytes that are no ATTN among the
causes. A command that passes takes its snapshot at its start, one that does not takes none and ends with BAD_FIELD.
With rows outside its regions it ends with a window violation. A FULL or PARTIAL run whose stream fails a check (a bad
page or format, a race) ends with that status and stores no output row; FORMAT is reported for a bad format.
Otherwise, in every phase: FULL forms the quotients of its accumulators over the blocks of the snapshot, PARTIAL their
records, MERGE the merged rows; where its rows and merged rows read clean the loom's flags are raised, the scratch
rows are written, the output rows are formed and held and the command ends with its result, or, met by a race at its
output rows, ends with that status and holds none. The completion with status OK, SATURATED or FRAME_MISMATCH writes
the held rows in order; with any other status it writes none. (R238, R239, R247, R249, R253, R254) -/
def Obligations.AttnRuns : Prop :=
  (∀ (s : State) (job stream : Nat) (b : List Byte), (∀ st, attnCheck s job stream b = some st → st = 0x0102) ∧
    (s.streamOk job stream = false ∨ Attn.ofBytes b = none → attnCheck s job stream b = some 0x0102)) ∧
  (∀ (s : State) (c : Cmd), c.opcode = 0x05 → (∀ h, c.engine ≠ .ply h) →
    (attnCheck s c.job c.stream c.desc = none → s.startWork c = s.takeSnapshot c) ∧
    (attnCheck s c.job c.stream c.desc ≠ none → s.startWork c = s)) ∧
  (∀ (s t : State) (uid beats vecBeats : Nat) (c : Cmd), s.runningCmd uid 0x05 = some c →
    t = (s.chargeCmd c beats).spend (.vec c.engine.skein) (some c) (s.accountRow c) vecBeats →
    (Attn.ofBytes c.desc = none ∨ (∀ v, c.work ≠ .snap v) →
      exec (.attn uid beats vecBeats) s = .next (t.finish uid 0x0102 0)) ∧
    (∀ x v, Attn.ofBytes c.desc = some x → c.work = .snap v →
      (t.inRegions c.job (c.reads ++ c.writes) = false → exec (.attn uid beats vecBeats) s = .next (t.finish uid 0x0204 0)) ∧
      (∀ st, st ≠ 0 → x.phase ≠ .merge → t.inRegions c.job (c.reads ++ c.writes) = true → (t.runsOf x c.stream v).2 = st →
        exec (.attn uid beats vecBeats) s = .next (if st = 0x0103 then
            ((t.attnCut c x none).finish uid st 0).raise Flg.MEMC_KV_EVT_FORMAT 0
          else (t.attnCut c x none).finish uid st 0)) ∧
      (∀ k dim blks os u w r, k = c.engine.skein → dim = t.ctxD c.stream → t.inRegions c.job (c.reads ++ c.writes) = true →
        (x.phase = .merge ∧ os = x.rowsOut ((List.range x.nq).map (x.mergeRow t k dim)) ∨
          x.phase ≠ .merge ∧ (t.runsOf x c.stream v).2 = 0 ∧
            blks = ((t.runsOf x c.stream v).1.map (fun q => q.blocks x)).flatten ∧
            (x.phase = .full → os = x.rowsOut ((List.range x.nq).map (fun i =>
              (x.rowAcc t k dim (t.fixedTwist c.job) blks i).o.map
                (fun o => quotient o (x.rowAcc t k dim (t.fixedTwist c.job) blks i).l)))) ∧
            (x.phase = .partialRec → os = x.recordOut dim ((List.range x.nq).map
              (x.rowAcc t k dim (t.fixedTwist c.job) blks)))) →
        u = t.chargePages c x v →
        u.readRows k c.engine.source c.uid (rowsOf c.reads) = (u, 0) →
        u.readRows k c.engine.source c.uid ((outRows os).filter (partlyCovered os)) = (u, 0) →
        u.meetRows k c.engine.source c.uid (rowsOf c.writes) = (w, r) →
        exec (.attn uid beats vecBeats) s = .next (if r = 0 then
          (((w.scribble (x.scratch k)).loomFlags k os).attnHold c v
              ((outRows os).map (fun row => (row, (formOutputs t k os).readRow k row)))).finish
            uid (if x.satReport && os.any (fun o => o.2.2.2.sat) then 0x0305 else 0) (satResult os)
          else ((w.scribble (x.scratch k)).loomFlags k os).finish uid r 0)))) ∧
  (∀ (s : State) (c : Cmd) (st : Nat) (v : Snap) (rows : List (Nat × List Byte)), c.work = .attnDone v rows →
    (st = 0 ∨ st = 0x0305 ∨ st = 0x0601 → c.stolen = false →
      s.attnWrite c st = s.forEach rows (fun t row => t.writeRow c.engine.skein row.1 row.2)) ∧
    (st ≠ 0 → st ≠ 0x0305 → st ≠ 0x0601 → s.attnWrite c st = s))

/-- SOLVE and DYN with a bad field end with BAD_FIELD and outside their regions with a window violation; otherwise
every item of the batch is solved from the rows and range entry named, stored, and the command ends with its result. A
ply engine asked to yield keeps the command's bank and counts it. (R272, R284, R288) -/
def Obligations.PlyCommandsRun : Prop :=
  (∀ (s t : State) (uid beats : Nat) (c : Cmd), s.runningCmd uid 0x07 = some c → t = s.chargeCmd c beats →
    (solveCheck t c.job c.issuer c.desc ≠ none → exec (.solve uid beats) s = .next (t.finish uid 0x0102 0)) ∧
    (∀ x e items, solveCheck t c.job c.issuer c.desc = none → Solve.ofBytes c.desc = some x →
      e = t.rangeEntry (x.skein / 8) x.rangeId → items = (List.range x.batch).map (x.item t e) →
      exec (.solve uid beats) s = .next (if t.inRegions c.job (c.reads ++ c.writes)
        then t.endPly c x.skein (x.outputs e items) items else t.finish uid 0x0204 0))) ∧
  (∀ (s t : State) (uid beats : Nat) (c : Cmd), s.runningCmd uid 0x08 = some c → t = s.chargeCmd c beats →
    (dynCheck t c.job c.issuer c.desc ≠ none → exec (.dyn uid beats) s = .next (t.finish uid 0x0102 0)) ∧
    (∀ x items, dynCheck t c.job c.issuer c.desc = none → Dyn.ofBytes c.desc = some x →
      items = (List.range x.batch).map (x.item t (t.rangeEntry (x.skein / 8) x.rangeId)) →
      exec (.dyn uid beats) s = .next (
        if t.inRegions c.job (c.reads ++ c.writes) = false then t.finish uid 0x0204 0
        else if x.modelOk t = false then t.finish uid 0x0102 0
        else t.endPly c x.skein (x.outputs items) items))) ∧
  (∀ (s : State) (h b : Nat) (c : Cmd),
    s.cmds.find? (fun c => decide (c.engine = .ply h) && decide (c.phase = .running) && c.yieldReq) = some c →
    c.work = .bank b → exec (.plyYield h) s = .next
      (((s.modCmd c.uid (fun c => { c with phase := .yielded, yieldReq := false })).setBank h b 2 c.job).count
        Fld.PLY_CNT_YIELD_COUNT h 1)) ∧
  (∀ (s : State) (h : Nat), (∀ c ∈ s.cmds, c.yieldReq = false) → exec (.plyYield h) s = .next s)

/-- A MOVE with a bad field or rows it may not reach ends with that status; a local one moves its rows and ends, one
from another package asks for its rows, one to another package sends them and waits for their answers. DIGEST waits
for its record's turn; with a bad field or a range beyond memory it ends with that status; an empty one takes the
digests of nothing and ends. Its record, written when it completes, goes to its address or the next ring entry, and
with the option set becomes the base of the job's chain. CLEAR sets the job's counter and its timing status to 0.
(R81, R501, R508, R509, R511, R513) -/
def Obligations.MoveDigestAndCounters : Prop :=
  (∀ (s t : State) (uid beats : Nat) (c : Cmd) (x : RowMove), s.runningCmd uid 0x09 = some c → t = s.chargeCmd c beats →
    x = RowMove.ofBytes c.desc →
    (c.work ≠ .plain → exec (.move uid beats) s = .next s) ∧
    (∀ st, c.work = .plain → moveCheck s c.job c.stream c.desc = some st →
      exec (.move uid beats) s = .next (t.finish uid st 0)) ∧
    (c.work = .plain → moveCheck s c.job c.stream c.desc = none →
      (t.moveFits c x = false ∨ t.inRegions c.job (x.reads c.engine.skein ++ x.writes c.engine.skein) = false) →
      exec (.move uid beats) s = .next (t.finish uid 0x0204 0)) ∧
    (c.work = .plain → moveCheck s c.job c.stream c.desc = none → t.moveFits c x = true →
      t.inRegions c.job (x.reads c.engine.skein ++ x.writes c.engine.skein) = true →
      (x.sk = 2 → exec (.move uid beats) s = .next
        ((t.modCmd uid (fun c => { c with work := .remote 0 0 [] })).askOn uid)) ∧
      (∀ r, x.sk ≠ 2 → x.dk = 2 → r = (t.modCmd uid (fun c => { c with work := .remote 0 0 [] })).moveRows c x ⟨0, 0, 0, []⟩ x.places →
        exec (.move uid beats) s = .next (if r.2.2 = 0 then r.1 else r.1.finish uid r.2.2 0)) ∧
      (∀ r, x.sk ≠ 2 → x.dk ≠ 2 → r = t.moveRows c x ⟨0, 0, 0, []⟩ x.places →
        exec (.move uid beats) s = .next (if r.2.2 = 0 then r.1.moveEnd c x r.2.1 else r.1.finish uid r.2.2 0)))) ∧
  ((∀ (s t : State) (uid beats : Nat) (c : Cmd), s.runningCmd uid 0x0E = some c → t = s.chargeCmd c beats →
    (s.recordTurn c = false → exec (.digest uid beats) s = .next s) ∧
    (∀ st, s.recordTurn c = true → digestCheck t c.job c.desc = some st →
      exec (.digest uid beats) s = .next (t.finish uid st 0)) ∧
    (s.recordTurn c = true → digestCheck t c.job c.desc = none →
      (t.lpddrBytes < c.field 32 8 + 16 * c.field 26 2 → exec (.digest uid beats) s = .next (t.finish uid 0x0204 0)) ∧
      (c.field 26 2 = 0 → c.field 32 8 ≤ t.lpddrBytes → t.recordFits c (c.field 40 8) = true →
        exec (.digest uid beats) s = .next (((t.chargeRead c false 0).modCmd uid
          (fun d => { d with work := .digested c.since (categoryDigests []) })).finish uid 0 0)))) ∧
  (∀ (s : State) (c : Cmd) (due : Nat) (ds : List Byte) (x : GulecParts) (v : State), c.work = .digested due ds → c.status = 0 →
    x = ⟨c.field 24 1 % 2 == 1, s.nextRecord c, c.capture, ds⟩ →
    v = (if c.field 40 8 = 0 then (s.writeRing c x).1 else s.writeGulec c (c.field 40 8) x) →
    (c.field 24 1 / 2 % 2 = 0 → s.record c = (v, s.nextRecord c, 0)) ∧
    (c.field 24 1 / 2 % 2 = 1 → s.record c = (v.set Fld.HEDDLE_DET_BASE_REC_ADDR c.job (s.nextRecord c), s.nextRecord c, 0))) ∧
  (∀ (s : State) (job : Nat), s.setUp = true → ∃ t, exec (.ndcClear job) s = .next t ∧
    SetsOnly s t [(Fld.HEDDLE_DETJ_NDC_COUNT, job, 0), (Fld.HEDDLE_DETJ_STATUS_TIMING_STATUS, job, 0)]))

/-- KVAPPEND with a bad field or no room for its rows ends with that status; it proceeds when its stream is ready and
waits otherwise, until ready or WAIT_MAX, which also ends a wait for its flush; a commit without a flush ends with the
new length. A flush with no free page starves with POOL_EMPTY, otherwise takes a page. ENABLE, FREE_TAIL and
DROP_STAGE are taken or refused. (R231, R232, R233, R234, R235, R236, R237, R258) -/
def Obligations.KvAppendsFlushesAndSetUp : Prop :=
  (∀ (s : State) (uid b : Nat) (c : Cmd) (x : Append), s.runningCmd uid 0x06 = some c → x = Append.ofBytes c.desc →
    (∀ beats t, c.work = .plain → t = s.chargeCmd c beats →
      (∀ st, appendCheck t c.job c.stream c.desc = some st → s.kvTurn c = true →
        exec (.kvappend uid beats) s = .next (t.finish uid st 0)) ∧
      (appendCheck t c.job c.stream c.desc = none → tagBytes (t.ctxTag c.stream) = some b →
        exec (.kvappend uid beats) s = .next (
          if s.kvTurn c = false then s
          else if t.inRegions c.job (x.reads (t.ctxD c.stream) b) = false ∨ t.appendFits c.stream b x = false then
            t.finish uid 0x0204 0
          else if t.appendReady c.stream b x = true then t.appendProceed c b x
          else t.modCmd uid (fun c => { c with work := .appendWait, since := s.refTime })))) ∧
    (∀ beats, c.work ≠ .plain → exec (.kvappend uid beats) s = .next s) ∧
    (c.work = .appendWait → tagBytes (s.ctxTag c.stream) = some b →
      (s.appendReady c.stream b x = true → s.kvTurn c = true →
        exec (.kvappendWaitEnd uid) s = .next (s.appendProceed c b x)) ∧
      (s.appendReady c.stream b x = false ∨ s.kvTurn c = false → exec (.kvappendWaitEnd uid) s = .next s)) ∧
    (c.work = .appendWait → tagBytes (s.ctxTag c.stream) = some b → s.appendReady c.stream b x = false →
      c.since + s.get Fld.MEMC_KV_CTRL_WAIT_MAX 0 * Config.us ≤ s.refTime →
      exec (.kvappendTimeout uid) s = .next ((s.finish uid 0x0402 0).raise Flg.MEMC_KV_EVT_APPEND_TIMEOUT 0)) ∧
    (s.refTime < c.since + s.get Fld.MEMC_KV_CTRL_WAIT_MAX 0 * Config.us →
      exec (.kvappendTimeout uid) s = .next s ∧ exec (.flushDeadline uid) s = .next s) ∧
    (c.work = .appendWait → tagBytes (s.ctxTag c.stream) = some b → s.appendReady c.stream b x = true →
      exec (.kvappendTimeout uid) s = .next s) ∧
    (∀ len, c.work = .appendFlush len → c.since + s.get Fld.MEMC_KV_CTRL_WAIT_MAX 0 * Config.us ≤ s.refTime →
      exec (.flushDeadline uid) s = .next (((s.modCmd uid (fun c => { c with work := .plain })).finish uid 0x0402 len).raise
        Flg.MEMC_KV_EVT_APPEND_TIMEOUT 0)) ∧
    (∀ new t, c.work = .appendWrite new → tagBytes (s.ctxTag c.stream) = some b →
      s.readRows x.skein c.engine.source uid (rowsOf (x.reads (s.ctxD c.stream) b)) = (s, 0) →
      t = ((s.chargeAppend c x b).appendLand c b new).modCmd uid (fun y => { y with digest := x.digest s c.stream }) →
      x.flush = false → exec (.kvappendCommit uid) s = .next (((t.modCmd uid (fun c => { c with work := .plain })).finish uid 0
        (t.ctxLen c.stream)).kvSweep))) ∧
  (∀ (s : State) (stream : Nat),
    (s.ctxPendSlot stream = 0xFF → exec (.slotFlush stream) s = .next s) ∧
    (s.ctxPendSlot stream ≠ 0xFF → ¬ stream ∈ s.kv.starved →
      (s.freeRing = 0 → exec (.slotFlush stream) s = .next
        (({ s with kv := { s.kv with starved := s.kv.starved ++ [stream] } }).raise Flg.MEMC_KV_EVT_POOL_EMPTY 0)) ∧
      (s.freeRing ≠ 0 → s.takeEntry.2 < s.get Fld.MEMC_KV_POOL_PAGES_PAGES 0 → exec (.slotFlush stream) s = .next
        (((s.takeEntry.1.flushInto stream s.takeEntry.2).count Fld.MEMC_KV_CNT_FLUSH_COUNT 0 1).flushDone stream).kvSweep))) ∧
  ((∀ (s : State), s.setUp = true → ∃ t, exec (.kvEnableWrite true) s = .next t ∧
    SetsOnly s t [(Fld.MEMC_KV_CTRL_ENABLE, 0, 1)]) ∧
  (∀ (s : State), s.setUp = true → s.get Fld.MEMC_KV_STATUS_SLOTS_USED 0 = 0 → (∀ c ∈ s.cmds, c.namesStream = false) →
    ∃ t, exec (.kvEnableWrite false) s = .next t ∧ SetsOnly s t [(Fld.MEMC_KV_CTRL_ENABLE, 0, 0)]) ∧
  (∀ (s : State), s.setUp = true → (s.get Fld.MEMC_KV_STATUS_SLOTS_USED 0 ≠ 0 ∨ ∃ c ∈ s.cmds, c.namesStream = true) →
    exec (.kvEnableWrite false) s = .next (s.raise Flg.MEMC_KV_EVT_CFG_REFUSED 0)) ∧
  (∀ (s : State) (tail : Nat), s.setUp = true → tail < 2 ^ 32 → ∃ t, exec (.freeTailWrite tail) s = .next t ∧
    t.get Fld.MEMC_KV_FREE_TAIL_TAIL 0 = tail ∧
    (tail ≠ s.get Fld.MEMC_KV_FREE_TAIL_TAIL 0 → t.kv = { s.kv with starved := [] }) ∧
    (tail = s.get Fld.MEMC_KV_FREE_TAIL_TAIL 0 → t.kv = s.kv) ∧
    SetsOnly { s with kv := t.kv } t [(Fld.MEMC_KV_FREE_TAIL_TAIL, 0, tail)]) ∧
  (∀ (s : State) (stream : Nat), s.setUp = true → (s.streamNamed stream = true ∨ s.ctxPendSlot stream ≠ 0xFF) →
    exec (.dropStage stream) s = .next (s.raise Flg.MEMC_KV_EVT_CFG_REFUSED 0)) ∧
  (∀ (s : State) (stream : Nat), s.setUp = true → s.streamNamed stream = false → s.ctxPendSlot stream = 0xFF →
    exec (.dropStage stream) s = .next ((((s.ctxPut stream 16 4
      (s.ctxLen stream + 2 ^ 32 - s.ctxStaged stream)).ctxPut stream 24 2 0).ctxPut stream 22 1 0xFF).kvSweep)))

/-- A region write outside CONFIG, with its limits reversed or overlapping a region of another job is refused;
otherwise it sets just that region. A window goes IDLE, ACTIVE, DRAINING, IDLE by its commands, and only it changes;
the alarm count of a skein is cleared at each end of its period and not before. An aperture access of another shape or
while debug is locked reads 0 or is discarded; an open one reads and patches the staged row, and its last word commits
the row. (R6, R110, R112, R129, R131, R134) -/
def Obligations.BobbinRegionsWindowsAndAperture : Prop :=
  (∀ (s : State) (k n : Nat) (v : BitVec 64), s.setUp = true → k < 64 → n < 8 →
    ((∀ p ∈ regionFields n k v.toNat, s.get p.1 p.2.1 = p.2.2) → exec (.regionWrite k n v) s = .next s) ∧
    ((∃ p ∈ regionFields n k v.toNat, s.get p.1 p.2.1 ≠ p.2.2) →
      (s.regionConfig k n = false → exec (.regionWrite k n v) s = .next (s.raise Flg.SKEIN_BOB_EVT_CONFIG_REFUSED k)) ∧
      (bitsOf v.toNat 63 1 = 1 → bitsOf v.toNat 16 14 < bitsOf v.toNat 0 14 →
        exec (.regionWrite k n v) s = .next (s.raise Flg.SKEIN_BOB_EVT_CONFIG_REFUSED k)) ∧
      (∀ m, bitsOf v.toNat 63 1 = 1 → m < 8 → m ≠ n → s.isSet Fld.SKEIN_BOB_REGION_VALID (ix k m) = true →
        s.get Fld.SKEIN_BOB_REGION_JOB (ix k m) ≠ bitsOf v.toNat 48 8 →
        s.get Fld.SKEIN_BOB_REGION_FIRST (ix k m) ≤ bitsOf v.toNat 16 14 →
        bitsOf v.toNat 0 14 ≤ s.get Fld.SKEIN_BOB_REGION_LAST (ix k m) →
        exec (.regionWrite k n v) s = .next (s.raise Flg.SKEIN_BOB_EVT_CONFIG_REFUSED k)) ∧
      (s.regionConfig k n = true → (bitsOf v.toNat 63 1 = 1 →
          s.regionBad k n (bitsOf v.toNat 48 8) (bitsOf v.toNat 0 14) (bitsOf v.toNat 16 14) = false) →
        ∃ t, exec (.regionWrite k n v) s = .next t ∧ SetsOnly s t (regionFields n k v.toNat)))) ∧
  (∀ (s : State) (k n : Nat),
    (s.setUp = true → (s.window k n).state = .idle → s.windowOk k n (s.window k n) = true →
      ∃ t, exec (.winOpen k n) s = .next t ∧ t = { s with windows := t.windows } ∧
        t.window k n = { s.window k n with state := .active } ∧
        ∀ j m, ix j m ≠ ix k n → t.window j m = s.window j m) ∧
    (s.setUp = true → ((s.window k n).state ≠ .idle ∨ s.windowOk k n (s.window k n) = false) →
      exec (.winOpen k n) s = .next (s.raise Flg.SKEIN_BOB_EVT_CONFIG_REFUSED k)) ∧
    ((s.window k n).key = 0 ∨ (s.window k n).count = 0 ∨ (s.window k n).mask = 0 →
      s.windowOk k n (s.window k n) = false) ∧
    (s.setUp = true → (s.window k n).state = .active → ∃ t, exec (.winClose k n) s = .next t ∧
      t = { s with windows := t.windows } ∧ t.window k n = { s.window k n with state := .draining } ∧
      ∀ j m, ix j m ≠ ix k n → t.window j m = s.window j m) ∧
    (s.setUp = true → (s.window k n).state ≠ .active → exec (.winClose k n) s = .next s) ∧
    ((s.window k n).state = .draining → ∃ t, exec (.winDrained k n) s = .next t ∧
      t = { s with windows := t.windows } ∧ t.window k n = { s.window k n with state := .idle } ∧
      ∀ j m, ix j m ≠ ix k n → t.window j m = s.window j m) ∧
    ((s.window k n).state ≠ .draining → exec (.winDrained k n) s = .next s) ∧
    (∃ t, exec (.winAlarmPeriod k) s = .next t ∧ t = { s with winAlarm := t.winAlarm } ∧
      (∀ j, j ≠ k → Sparse.get WinAlarm.reset t.winAlarm j = Sparse.get WinAlarm.reset s.winAlarm j) ∧
      (∀ x, x = Sparse.get WinAlarm.reset s.winAlarm k →
        (s.refTime < x.began + 4000 * s.get Fld.SKEIN_WIN_ALARM_PERIOD k → Sparse.get WinAlarm.reset t.winAlarm k = x) ∧
        (∀ n, 0 < s.get Fld.SKEIN_WIN_ALARM_PERIOD k → 0 < n →
          x.began + n * (4000 * s.get Fld.SKEIN_WIN_ALARM_PERIOD k) ≤ s.refTime →
          s.refTime < x.began + (n + 1) * (4000 * s.get Fld.SKEIN_WIN_ALARM_PERIOD k) →
          Sparse.get WinAlarm.reset t.winAlarm k = ⟨0, false, x.began + n * (4000 * s.get Fld.SKEIN_WIN_ALARM_PERIOD k)⟩)))) ∧
  ((∀ (s : State) (offset size value : Nat), s.setUp = true → s.apertureOpen offset size = false →
    exec (.apertureRead offset size) s = .next { s with hostRead := 0 } ∧
    exec (.apertureWrite offset size value) s = .next s) ∧
  (∀ (s : State) (offset size : Nat), s.isSet Fld.SEC_STATUS_DEBUG_LOCKED 0 = true ∨ size ≠ 4 ∨ offset % 4 ≠ 0 ∨
    64 * 0x800000 ≤ offset → s.apertureOpen offset size = false) ∧
  (∀ (s : State) (k row b value : Nat) (x : Aperture), s.setUp = true → k < 64 → row < 12288 → b < 512 → b % 4 = 0 →
    s.isSet Fld.SEC_STATUS_DEBUG_LOCKED 0 = false → s.checkHankPair k = none → s.heddle.fault = none →
    Sparse.find s.apertures k = some x → x.row = row →
    exec (.apertureRead (k * 0x800000 + row * 512 + b) 4) s = .next { s with hostRead := fieldOf x.data b 4 } ∧
    (b ≠ 508 → exec (.apertureWrite (k * 0x800000 + row * 512 + b) 4 value) s = .next { s with
      apertures := Sparse.insert s.apertures k { x with data := patch x.data b (leBytes 4 value), dirty := true } }) ∧
    (b = 508 → ∀ t, t = s.putAperture k { x with data := patch x.data b (leBytes 4 value), dirty := true } →
      exec (.apertureWrite (k * 0x800000 + row * 512 + b) 4 value) s = .next (t.commitAperture k).settle)))

/-- For an IDLE window: if its key is not 0, no other open window of the skein has it, its row range (of at least one
row) lies in a region of its job, its source mask is not 0 and it permits something, it becomes ACTIVE and no other
window changes; otherwise CONFIG_REFUSED is set and it stays IDLE. (R125) -/
def Obligations.WindowOpensOnlyUnderItsConditions : Prop :=
  ∀ (s : State) (k n : Nat) (w : Window), s.setUp = true → w = s.window k n → w.state = .idle → n < 16 → ∀ ok : Prop,
    (ok ↔ w.key ≠ 0 ∧ (∀ m, m < 16 → m ≠ n → (s.window k m).state ≠ .idle → (s.window k m).key ≠ w.key) ∧
      (1 ≤ w.count ∧ ∃ m, m < 8 ∧ s.isSet Fld.SKEIN_BOB_REGION_VALID (ix k m) = true ∧
        s.get Fld.SKEIN_BOB_REGION_JOB (ix k m) = w.job ∧ s.get Fld.SKEIN_BOB_REGION_FIRST (ix k m) ≤ w.first ∧
        w.first + w.count - 1 ≤ s.get Fld.SKEIN_BOB_REGION_LAST (ix k m)) ∧
      w.mask ≠ 0 ∧ (w.permitRead = true ∨ w.permitWrite = true)) →
    (ok → ∃ t, exec (.winOpen k n) s = .next t ∧ t = { s with windows := t.windows } ∧
      t.window k n = { w with state := .active } ∧ ∀ j m, ix j m ≠ ix k n → t.window j m = s.window j m) ∧
    (¬ ok → ∃ t, exec (.winOpen k n) s = .next t ∧ t = s.raise Flg.SKEIN_BOB_EVT_CONFIG_REFUSED k ∧
      (t.window k n).state = .idle)

/-- Where nothing has decided the loop in this beat: CLOSE is taken from OPEN in RUN, OPEN from CLOSING or CLOSED,
RELEASE from SAFE in STANDBY or RUN with no faulty input; every other is refused with REQ_REFUSED, and so is a request
that a higher cause of the beat outranks. OPEN after a CLOSE or RELEASE of its beat undoes that one, which is refused,
and is taken or refused itself by the state before. OPEN_ALL is OPEN of all 32. A loop samples on its Whorl phase or
its conversion, drops a trigger less than 4,000 ticks after the last, does not sample in a beat in which a request or
a fault has already decided it, and a closed or closing loop's sample with an input fault goes to SAFE where so
configured. The order of causes in one beat is R317's. (R294, R312, R314, R317, R327) -/
def Obligations.LoopRequestsAndSamples : Prop :=
  (∀ (s : State) (n : Nat), s.setUp = true →
    ((∀ d, (s.loop n).decided = some d → d.1 ≠ s.refTime) → s.loopState n = 0 → s.dev = .run →
      ∃ t, exec (.loopClose n) s = .next t ∧
        SetsOnly ((s.modLoop n (fun x => { x with decided := some (s.refTime, 5, 0) })).modLoop n
          (fun x => { x with faults := [] })) t [(Fld.FLYER_LOOP_STATE_STATE, n, 1)]) ∧
    (s.loopState n ≠ 0 ∨ s.dev ≠ .run ∨ s.loopRank n < 5 →
      exec (.loopClose n) s = .next (s.raise Flg.FLYER_LOOP_EVT_REQ_REFUSED n)) ∧
    (∀ t, (∀ d, (s.loop n).decided = some d → d.1 ≠ s.refTime) → t = s.modLoop n (fun x => { x with decided := some (s.refTime, 4, s.loopState n) }) →
      (s.loopState n = 1 ∨ s.loopState n = 2 → exec (.loopOpen n) s = .next (t.loopToOpen n)) ∧
      (s.loopState n = 0 ∨ s.loopState n = 3 → exec (.loopOpen n) s = .next (t.raise Flg.FLYER_LOOP_EVT_REQ_REFUSED n))) ∧
    (∀ t v, s.loopRank n = 5 → s.loopBefore n = v → s.loopState n ≠ v →
      t = ((s.set Fld.FLYER_LOOP_STATE_STATE n v).raise Flg.FLYER_LOOP_EVT_REQ_REFUSED n).modLoop n
        (fun x => { x with decided := some (s.refTime, 4, v) }) →
      exec (.loopOpen n) s = .next (if t.loopState n = 1 ∨ t.loopState n = 2 then t.loopToOpen n
        else t.raise Flg.FLYER_LOOP_EVT_REQ_REFUSED n)) ∧
    (s.loopRank n < 4 → exec (.loopOpen n) s = .next (s.raise Flg.FLYER_LOOP_EVT_REQ_REFUSED n)) ∧
    ((∀ d, (s.loop n).decided = some d → d.1 ≠ s.refTime) → s.loopState n = 3 → s.dev = .standby ∨ s.dev = .run →
      (∀ c ∈ s.loopInputs n, s.inputFaulty c = false) →
      exec (.loopRelease n) s = .next ((s.modLoop n (fun x => { x with decided := some (s.refTime, 5, 3) })).loopToOpen n)) ∧
    (s.loopState n ≠ 3 ∨ s.dev = .safe ∨ (∃ c ∈ s.loopInputs n, s.inputFaulty c = true) ∨ s.loopRank n < 5 →
      exec (.loopRelease n) s = .next (s.raise Flg.FLYER_LOOP_EVT_REQ_REFUSED n)) ∧
    exec (.loopOpen n) s = .next (s.loopOpenReq n) ∧
    exec .openAll s = .next (s.forEach (List.range 32) (fun t n => t.loopOpenReq n))) ∧
  (∀ (s : State) (n stamp : Nat), s.flyerOn = true →
    (s.loopTrigger n = false → exec (.loopSample n) s = .next s) ∧
    (∀ t, s.loopTrigger n = true → s.loopRank n < 5 → t = s.modLoop n (fun x => { x with seen := some s.now }) →
      exec (.loopSample n) s = .next (t.sampleDropped n) ∧
      ((s.loop n).faults = [] ∨ s.isSet Fld.FLYER_LOOP_CFG_FAULT_ACTION n = false ∨ s.loopRank n ≠ 4 →
        t.sampleDropped n = t)) ∧
    (∀ t, s.loopTrigger n = true → 5 ≤ s.loopRank n → t = s.modLoop n (fun x => { x with seen := some s.now }) →
      (∀ l, (t.loop n).last = some l → l ≤ s.now → s.now < l + 4000 →
        exec (.loopSample n) s = .next (t.raise Flg.FLYER_LOOP_EVT_TRIG_DROP n)) ∧
      ((∀ l, (t.loop n).last = some l → s.now < l ∨ l + 4000 ≤ s.now) →
        exec (.loopSample n) s = .next (t.loopSample n s.now))) ∧
    (s.isSet Fld.FLYER_LOOP_CFG_TRIG_MODE n = false → (s.loop n).seen ≠ some s.now →
      (s.now % s.get Fld.FLYER_LOOP_TRIG_PERIOD_TICKS n = s.get Fld.FLYER_LOOP_TRIG_PHASE_TICKS n →
        s.loopTrigger n = true) ∧
      (s.now % s.get Fld.FLYER_LOOP_TRIG_PERIOD_TICKS n ≠ s.get Fld.FLYER_LOOP_TRIG_PHASE_TICKS n →
        s.loopTrigger n = false)) ∧
    (s.isSet Fld.FLYER_LOOP_CFG_TRIG_MODE n = true → (s.loop n).seen ≠ some s.now →
      (s.loopTrigger n = true ↔ (s.loop n).due = some s.now)) ∧
    ((s.loop n).seen = some s.now → s.loopTrigger n = false) ∧
    (s.loopState n = 2 → (s.loop n).faults = [] →
      s.sampleBody n stamp = (s.profileStep n).closedSample n stamp false (s.profileSat n)) ∧
    (∀ f, s.loopState n = 2 → (s.loop n).faults = [f] → s.isSet Fld.FLYER_LOOP_CFG_FAULT_ACTION n = true →
      s.sampleBody n stamp = (((s.raise Flg.FLYER_LOOP_EVT_INPUT_FAULT n).loopToSafe n 2).openSample n)) ∧
    (∀ f, s.loopState n = 1 → (s.loop n).faults = [f] → s.isSet Fld.FLYER_LOOP_CFG_FAULT_ACTION n = true →
      s.sampleBody n stamp = ((s.loopToSafe n 2).openSample n)))

/-- An edge shorter than the filter changes nothing; a rising A edge counts up or down by B in step mode, a double
change in quadrature is ILLEGAL. An SSI frame starts on its phase and, where its line returns high within 20 us of its
end, stores its value and stamp or reports a parity fault; later, or with no return, it reports a timeout fault. The
bits of a decimation period give the scaled value of the sinc3 sum over three periods, which runs from 0 to OSR cubed;
a clock lost for 1 us is an input fault; a disabled input changes nothing. (R319, R320, R321) -/
def Obligations.EncodersSerialAndModulators : Prop :=
  ((∀ (s : State) (ch : Nat) (e : EncEdge), e.ticks < s.get Fld.FLYER_ENC_CFG_FILTER ch * 4 →
    exec (.encEdge ch e) s = .next s) ∧
  (∀ (s : State) (ch : Nat) (e : EncEdge), s.flyerOn = true → s.get Fld.FLYER_ENC_CFG_FILTER ch * 4 ≤ e.ticks →
    s.isSet Fld.FLYER_ENC_CFG_INDEX_ZERO ch = false → s.get Fld.FLYER_ENC_CFG_MODE ch = 1 → (s.enc ch).a = false → e.a = true →
    s.isSet Fld.FLYER_ENC_CFG_DIR_INV ch = false →
    exec (.encEdge ch e) s = .next ((s.putEnc ch { s.enc ch with a := e.a, b := e.b, i := e.i }).set
      Fld.FLYER_ENC_COUNT_COUNT ch ((s.get Fld.FLYER_ENC_COUNT_COUNT ch + (if e.b then 2 ^ 32 - 1 else 1)) % 2 ^ 32))) ∧
  (∀ (s t : State) (ch : Nat) (e : EncEdge), s.flyerOn = true → s.get Fld.FLYER_ENC_CFG_FILTER ch * 4 ≤ e.ticks →
    s.isSet Fld.FLYER_ENC_CFG_INDEX_ZERO ch = false → s.get Fld.FLYER_ENC_CFG_MODE ch = 0 → (s.enc ch).a ≠ e.a →
    (s.enc ch).b ≠ e.b → t = s.putEnc ch { s.enc ch with a := e.a, b := e.b, i := e.i } →
    exec (.encEdge ch e) s = .next ((t.raise Flg.FLYER_ENC_EVT_ILLEGAL ch).inputFault ch))) ∧
  ((∀ (s : State) (ch : Nat), s.flyerOn = true → 8 ≤ s.get Fld.FLYER_SSI_CFG_BITS ch → Sparse.find s.flyer.ssi ch = none →
    s.now % s.get Fld.FLYER_SSI_PERIOD_TICKS ch = s.get Fld.FLYER_SSI_PHASE_TICKS ch →
    exec (.ssiFrameStart ch) s = .next { s with flyer := { s.flyer with
      ssi := Sparse.insert s.flyer.ssi ch (s.now, s.refTime) } }) ∧
  (∀ (s t : State) (ch v start ref : Nat) (p : Bool), Sparse.find s.flyer.ssi ch = some (start, ref) →
    t = { s with flyer := { s.flyer with ssi := Sparse.erase s.flyer.ssi ch } } →
    (s.refTime < ref + s.ssiTicks ch → exec (.ssiFrameEnd ch v p) s = .next s) ∧
    (ref + s.ssiTicks ch + 20 * Config.us < s.refTime → exec (.ssiFrameEnd ch v p) s = .next
      ((t.raise Flg.FLYER_SSI_EVT_TIMEOUT ch).inputFault (0x30 + ch))) ∧
    (ref + s.ssiTicks ch ≤ s.refTime → s.refTime ≤ ref + s.ssiTicks ch + 20 * Config.us →
      s.get Fld.FLYER_SSI_CFG_PARITY ch = 0 →
      s.isSet Fld.FLYER_SSI_CFG_GRAY ch = false → exec (.ssiFrameEnd ch v p) s = .next ((t.set Fld.FLYER_SSI_VALUE_VALUE ch
        (v % 2 ^ s.get Fld.FLYER_SSI_CFG_BITS ch)).set Fld.FLYER_SSI_STAMP_TIME ch start)) ∧
    (ref + s.ssiTicks ch ≤ s.refTime → s.refTime ≤ ref + s.ssiTicks ch + 20 * Config.us →
      s.get Fld.FLYER_SSI_CFG_PARITY ch = 1 →
      (bitSum v (s.get Fld.FLYER_SSI_CFG_BITS ch) + (if p then 1 else 0)) % 2 = 1 → exec (.ssiFrameEnd ch v p) s = .next
        ((t.raise Flg.FLYER_SSI_EVT_PARITY_ERR ch).inputFault (0x30 + ch))) ∧
    (ref + s.ssiTicks ch + 20 * Config.us ≤ s.refTime → exec (.ssiTimeout ch) s = .next
      ((t.raise Flg.FLYER_SSI_EVT_TIMEOUT ch).inputFault (0x30 + ch)))) ∧
  (∀ (s : State) (ch l a b bits sum : Nat), s.flyerOn = true → s.isSet Fld.FLYER_SD_CFG_EN ch = true →
    l = s.get Fld.FLYER_SD_CFG_OSR_LOG2 ch → Sparse.get (0, 0) s.flyer.sdBits ch = (a, b) → sum = sincSum (2 ^ l) a b bits →
    exec (.sdOutput ch bits) s = .next (({ s with flyer := { s.flyer with
      sdAt := Sparse.put 0 s.flyer.sdAt ch s.refTime, sdBits := Sparse.put (0, 0) s.flyer.sdBits ch (b, bits) } }).set
      Fld.FLYER_SD_VALUE_VALUE ch (unsigned 32 ((2 * (sum : Int) - 2 ^ (3 * l)) * 2 ^ (30 - 3 * l))))) ∧
  (∀ l, 4 ≤ l → l ≤ 8 → sincSum (2 ^ l) 0 0 0 = 0 ∧
    sincSum (2 ^ l) (2 ^ 2 ^ l - 1) (2 ^ 2 ^ l - 1) (2 ^ 2 ^ l - 1) = 2 ^ (3 * l)) ∧
  (∀ (s : State) (ch : Nat), s.flyerOn = true → s.isSet Fld.FLYER_SD_CFG_EN ch = true →
    (s.refTime < Sparse.get 0 s.flyer.sdAt ch + Config.us → exec (.sdClkLost ch) s = .next s) ∧
    (Sparse.get 0 s.flyer.sdAt ch + Config.us ≤ s.refTime → exec (.sdClkLost ch) s = .next ((s.raise Flg.FLYER_SD_EVT_CLK_LOST ch).inputFault (0x40 + ch)))) ∧
  (∀ (s : State) (ch sum : Nat), s.isSet Fld.FLYER_SD_CFG_EN ch = false →
    exec (.sdClkLost ch) s = .next s ∧ exec (.sdOutput ch sum) s = .next s))

/-- A triggered idle channel starts a conversion and ignores triggers until it ends, at 200 ns or later, with its code
and stamp stored and each loop on that channel triggered (the two end codes are faults). At counter zero the group's
three compares load their shadows and no other changes; at the centre they do so with LOAD 1 only. (R322, R323) -/
def Obligations.ConversionsAndPwm : Prop :=
  (∀ (s : State) (ch : Nat), s.flyerOn = true → s.adcTriggered ch = true → Sparse.find s.flyer.adc ch = none →
    exec (.adcTrigger ch) s = .next { s with flyer := { s.flyer with
      adc := Sparse.insert s.flyer.adc ch (s.now, s.refTime) } }) ∧
  (∀ (s : State) (ch stamp ref code : Nat), Sparse.find s.flyer.adc ch = some (stamp, ref) →
    exec (.adcTrigger ch) s = .next s ∧
    (s.refTime < ref + 800 → exec (.adcEndOfConversion ch code) s = .next s) ∧
    (ref + 800 ≤ s.refTime → 0 < code → code < 4095 →
      (∀ t, t = ((({ s with flyer := { s.flyer with
            adc := Sparse.erase s.flyer.adc ch
            good := Sparse.put 0 s.flyer.good ch code } }).set Fld.FLYER_ADC_VALUE_CODE ch code).set
          Fld.FLYER_ADC_STAMP_TIME ch stamp) →
        exec (.adcEndOfConversion ch code) s = .next (t.forEach (List.range 32) (fun u n =>
          if u.isSet Fld.FLYER_LOOP_CFG_TRIG_MODE n && u.get Fld.FLYER_LOOP_CFG_TRIG_ADC n == ch then
            u.modLoop n (fun x => { x with due := some s.now })
          else u))))) ∧
  (∀ (s : State) (g : Nat), s.flyerOn = true →
    s.now % s.get Fld.FLYER_PWM_PERIOD_TICKS g = s.get Fld.FLYER_PWM_PHASE_TICKS g →
    ∃ t, exec (.pwmCounterZero g) s = .next t ∧
      t = { s with flyer := { s.flyer with compare := t.flyer.compare, edges := t.flyer.edges } } ∧
      ∀ p, Sparse.get 0 t.flyer.compare p = if p / 4 = g ∧ p % 4 < 3 then Sparse.get 0 s.flyer.shadow p
        else Sparse.get 0 s.flyer.compare p) ∧
  (∀ (s : State) (g : Nat), s.flyerOn = true → s.isSet Fld.FLYER_PWM_CFG_LOAD g = true →
    s.get Fld.FLYER_PWM_PHASE_TICKS g < s.get Fld.FLYER_PWM_PERIOD_TICKS g →
    s.now % s.get Fld.FLYER_PWM_PERIOD_TICKS g = (s.get Fld.FLYER_PWM_PHASE_TICKS g +
      s.get Fld.FLYER_PWM_PERIOD_TICKS g / 2) % s.get Fld.FLYER_PWM_PERIOD_TICKS g →
    exec (.pwmCentreLoad g) s = .next (s.pwmLoad g)) ∧
  (∀ (s : State) (g : Nat), s.isSet Fld.FLYER_PWM_CFG_LOAD g = false → exec (.pwmCentreLoad g) s = .next s)

/-- ENABLE is refused for a bad lane count, format, buffer count or token, otherwise the stream starts with its free
token's wait. A frame start takes a buffer or reports NO_BUFFER, another virtual channel is discarded; a clean line is
stored at its place, one too long corrupts the frame; a decided frame is published with its record and signal, or
dropped for age. (R332, R333, R334, R335, R336, R337) -/
def Obligations.CaptureStreams : Prop :=
  ∀ (s : State) (n job free full : Nat), s.get Fld.CARD_CAP_NBUF_JOB n = job →
    s.get Fld.CARD_CAP_TOKENS_FREE n = free → s.get Fld.CARD_CAP_TOKENS_FULL n = full →
    (s.setUp = true → s.isSet Fld.CARD_CAP_CTRL_EN n = false →
      (s.get Fld.CARD_CAP_CTRL_LANES n = 3 ∨ capDtOk (s.get Fld.CARD_CAP_FMT_DT n) = false ∨
        s.get Fld.CARD_CAP_NBUF_NBUF n = 0 ∨ 32 < s.get Fld.CARD_CAP_NBUF_NBUF n ∨
        s.streamTokens job free full (s.get Fld.CARD_CAP_NBUF_NBUF n) = false →
        exec (.capEnable n) s = .next (s.raise Flg.CARD_CAP_EVT_CFG_REFUSED n)) ∧
      (s.get Fld.CARD_CAP_CTRL_LANES n ≠ 3 → capDtOk (s.get Fld.CARD_CAP_FMT_DT n) = true →
        1 ≤ s.get Fld.CARD_CAP_NBUF_NBUF n → s.get Fld.CARD_CAP_NBUF_NBUF n ≤ 32 →
        s.streamTokens job free full (s.get Fld.CARD_CAP_NBUF_NBUF n) = true →
        exec (.capEnable n) s = .next (State.settle (State.register
          ((((((s.set Fld.CARD_CAP_CTRL_EN n 1).set Fld.CARD_CAP_STATUS_POOL n 0).set Fld.CARD_CAP_SEQ_SEQ n 0).set
            Fld.CARD_CAP_STATUS_IN_FRAME n 0).putCap n ⟨true, 0, none, none⟩).capSync n) free (.cap n))))) ∧
    (∀ k, s.streamTokens job free full k = true ↔
      tokenNull free = false ∧ tokenNull full = false ∧ (s.token free).level = false ∧ (s.token full).level = false ∧
      (s.token free).target = 1 ∧ (s.token full).target = 1 ∧ (s.token free).owner = some job ∧
      (s.token full).owner = some job ∧ (s.token free).count = k ∧ (s.token full).count = 0 ∧
      (s.token free).waiters = [] ∧ s.mayWait job free = true) ∧
    (s.setUp = true → ((s.cap n).frame = none →
        exec (.capDisable n) s = .next ((s.set Fld.CARD_CAP_CTRL_EN n 0).capStop n)) ∧
      (∀ f, (s.cap n).frame = some f → exec (.capDisable n) s = .next (s.set Fld.CARD_CAP_CTRL_EN n 0))) ∧
    (∀ k vc csi b, (s.cap n).live = true → (s.cap n).frame = none → s.isSet Fld.CARD_CAP_CTRL_EN n = true →
      (vc ≠ s.get Fld.CARD_CAP_FMT_VC n →
        exec (.frameStartPacket n vc csi b) s = .next (s.raise Flg.CARD_CAP_EVT_PKT_DISCARDED n)) ∧
      (vc = s.get Fld.CARD_CAP_FMT_VC n → (s.cap n).held = none → k = s.get Fld.CARD_CAP_STATUS_POOL n →
        ∃ u, u = ((s.set Fld.CARD_CAP_SEQ_SEQ n (s.get Fld.CARD_CAP_SEQ_SEQ n + 1)).set Fld.CARD_CAP_LAST_START_TIME n s.now) ∧
        exec (.frameStartPacket n vc csi false) s = .next (
          if k = 0 then (u.putCap n { s.cap n with
              frame := some ⟨s.now, vc, csi, u.get Fld.CARD_CAP_SEQ_SEQ n, false, false, 0, 0, none⟩ }).raise
            Flg.CARD_CAP_EVT_NO_BUFFER n
          else (((u.set Fld.CARD_CAP_STATUS_POOL n (k - 1)).putCap n { s.cap n with
              next := ((s.cap n).next + 1) % s.get Fld.CARD_CAP_NBUF_NBUF n
              held := some (s.cap n).next
              frame := some ⟨s.now, vc, csi, u.get Fld.CARD_CAP_SEQ_SEQ n, false, false, 0, 0, none⟩ }).set
            Fld.CARD_CAP_STATUS_IN_FRAME n 1).capSync n))) ∧
    (∀ f b vc px, (s.cap n).live = true → (s.cap n).frame = some f → (s.cap n).held = some b →
      f.ended = none → vc = s.get Fld.CARD_CAP_FMT_VC n →
      (px.length ≤ 8192 → 512 + f.lines * (ceilDiv (lineBytes (s.get Fld.CARD_CAP_FMT_DT n) px).length 64 * 64) +
          ceilDiv (lineBytes (s.get Fld.CARD_CAP_FMT_DT n) px).length 64 * 64 ≤ s.get Fld.CARD_CAP_BUF_STRIDE_BYTES n →
        exec (.linePacket n vc (s.get Fld.CARD_CAP_FMT_DT n) .clean true px) s = .next ((s.streamStore job
          (s.capBuffer n b + 512 + f.lines * (ceilDiv (lineBytes (s.get Fld.CARD_CAP_FMT_DT n) px).length 64 * 64))
          (lineBytes (s.get Fld.CARD_CAP_FMT_DT n) px)).putCap n { s.cap n with frame := some { f with
            lines := f.lines + 1, lineBytes := (lineBytes (s.get Fld.CARD_CAP_FMT_DT n) px).length } })) ∧
      (8192 < px.length → exec (.linePacket n vc (s.get Fld.CARD_CAP_FMT_DT n) .clean true px) s = .next
        (s.putCap n { s.cap n with frame := some { f with corrupt := true } })) ∧
      exec (.frameEndPacket n vc false) s = .next
        (s.putCap n { s.cap n with frame := some { f with ended := some s.now } })) ∧
    (∀ f e b, (s.cap n).frame = some f → f.ended = some e → (s.cap n).held = some b →
      s.isSet Fld.CARD_CAP_CTRL_EN n = true → f.corrupt = false →
      (s.get Fld.CARD_CAP_AGE_MAX_TICKS n = 0 ∨ s.now - f.start ≤ s.get Fld.CARD_CAP_AGE_MAX_TICKS n →
        ∃ t, t = ((((s.capRecord n b f 0 e s.now).signal full 1).putCap n
            { s.cap n with held := none, frame := none }).set Fld.CARD_CAP_STATUS_IN_FRAME n 0).capSync n ∧
          exec (.publicationDecision n) s = .next (t.doIf (!t.isSet Fld.CARD_CAP_CTRL_EN n) (fun u => u.capStop n))) ∧
      (s.get Fld.CARD_CAP_AGE_MAX_TICKS n ≠ 0 → s.get Fld.CARD_CAP_AGE_MAX_TICKS n < s.now - f.start →
        ∃ t, t = s.capDrop n f true ∧
          exec (.publicationDecision n) s = .next (t.doIf (!t.isSet Fld.CARD_CAP_CTRL_EN n) (fun u => u.capStop n))))

/-- ENABLE is taken exactly when every stated condition holds, otherwise CFG_REFUSED. A sample starts in order
(shuffled where asked) while a decoder and a place are free, and one whose entry or header fails ends at once unless
its budget ends first; a sample takes the beats of its bytes, and ends within its budget or at it with
BUDGET_EXCEEDED; a full batch writes its record and signals, a partial one is not published; DISABLE stops now or
after the batch in progress. (R343, R344, R351, R352, R356) -/
def Obligations.DatasetStreams : Prop :=
  (∀ (s : State) (n : Nat), s.setUp = true → s.isSet Fld.CARD_DS_CTRL_EN n = false → ∀ ok : Prop,
    (ok ↔ s.streamTokens (s.get Fld.CARD_DS_CTRL_JOB n) (s.get Fld.CARD_DS_TOKENS_FREE n)
        (s.get Fld.CARD_DS_TOKENS_FULL n) (s.get Fld.CARD_DS_BATCH_NBUF n) = true ∧
      (1 ≤ s.get Fld.CARD_DS_BATCH_NBUF n ∧ s.get Fld.CARD_DS_BATCH_NBUF n ≤ 32) ∧
      (1 ≤ s.get Fld.CARD_DS_BATCH_BATCH n ∧ s.get Fld.CARD_DS_BATCH_BATCH n ≤ 64) ∧
      (1 ≤ s.get Fld.CARD_DS_N_N n ∧ s.get Fld.CARD_DS_N_N n ≤ 2 ^ 31) ∧
      (1 ≤ s.get Fld.CARD_DS_CTRL_LEVELS n ∧ s.get Fld.CARD_DS_CTRL_LEVELS n ≤ 6) ∧
      (s.get Fld.CARD_DS_CTRL_OUT_C n = 1 ∨ s.get Fld.CARD_DS_CTRL_OUT_C n = 3) ∧
      (s.get Fld.CARD_DS_CTRL_PATH n = 0 ∨ s.get Fld.CARD_DS_CTRL_SHUFFLE n = 0) ∧
      s.dsSlotBytes n ≤ s.get Fld.CARD_DS_SLOT_STRIDE_BYTES n ∧
      512 + (s.get Fld.CARD_DS_BATCH_BATCH n - 1) * s.get Fld.CARD_DS_SLOT_STRIDE_BYTES n + s.dsSlotBytes n ≤
        s.get Fld.CARD_DS_BUF_STRIDE_BYTES n) →
    (ok → exec (.dsEnable n) s = .next (State.settle (State.register
      (((((((s.set Fld.CARD_DS_CTRL_EN n 1).set Fld.CARD_DS_POS_POS n 0).set Fld.CARD_DS_MEAN_MEAN n 0).set
        Fld.CARD_DS_LOG_WR_WR n 0).set Fld.CARD_DS_STATUS_POOL n 0).putDs n { DsStream.reset with
          live := true, epoch := s.get Fld.CARD_DS_EPOCH_EPOCH n, regs := dsFields.map (fun f => (f.code, s.get f n)) }).dsSync n)
      (s.get Fld.CARD_DS_TOKENS_FREE n) (.ds n)))) ∧
    (¬ ok → exec (.dsEnable n) s = .next (s.raise Flg.CARD_DS_EVT_CFG_REFUSED n))) ∧
  (∀ (s : State) (n : Nat), s.setUp = true →
    ((s.ds n).batch = none → exec (.dsDisable n) s = .next ((s.set Fld.CARD_DS_CTRL_EN n 0).dsStop n)) ∧
    (∀ b, (s.ds n).batch = some b → exec (.dsDisable n) s = .next ((s.set Fld.CARD_DS_CTRL_EN n 0).putDs n
      { s.ds n with stopping := true }))) ∧
  (∀ (s t : State) (n p k : Nat), t = s.dsAdvance n → p = t.get Fld.CARD_DS_POS_POS n →
    ((t.ds n).live = false ∨ k ≠ p ∨ t.dsN n ≤ p ∨ (t.ds n).taken + 16 ≤ (t.ds n).started ∨ 4 ≤ t.dsBusy →
      exec (.dsSampleStart n k) s = .next t) ∧
    ((t.ds n).live = true → p < t.dsN n → (t.ds n).started < (t.ds n).taken + 16 → t.dsBusy < 4 →
      ∃ u v, v = Sample.mk (t.ds n).started p (t.ds n).epoch
          (if t.dsIs Fld.CARD_DS_CTRL_SHUFFLE n = true then shuffled (t.dsGet Fld.CARD_DS_SEED_SEED n)
            (t.ds n).epoch (t.dsN n) p else p) (t.dsBudget n (t.ds n).started) none ∧
        u = (t.putDs n { t.ds n with
          samples := (t.ds n).samples ++ [v], started := (t.ds n).started + 1 }).set Fld.CARD_DS_POS_POS n (p + 1) ∧
        exec (.dsSampleStart n p) s = .next (
          if u.dsChecks n v.epoch v.index = 0 ∨ u.dsOver n v = true then u
          else (u.dsEnd n v.serial 64 (u.dsChecks n v.epoch v.index)).dsAdvance n))) ∧
  (∀ (s : State) (n pos e : Nat) (v : Sample), s.dsRunning n pos (fun v => v.epoch == e) = some v →
    (∀ b, v.budget = some b → b ≤ s.dsBeats n v → exec (.dsSampleEnd n pos e) s = .next s) ∧
    ((∀ b, v.budget = some b → s.dsBeats n v < b) →
      ((s.dsEntry n v.index).2.2 = 1 →
        exec (.dsSampleEnd n pos e) s = .next ((s.dsEnd n v.serial (s.dsBeats n v) 0).dsAdvance n)) ∧
      (∀ a len, s.dsEntry n v.index = (a, len, 0) → exec (.dsSampleEnd n pos e) s = .next ((s.dsEnd n v.serial
        (s.dsBeats n v) (if s.jpegOk n (s.load (Mem.lpddr a) len) = true then 0 else 0x0805)).dsAdvance n)))) ∧
  (∀ (s : State) (n pos : Nat),
    (s.dsRunning n pos (s.dsOver n) = none → exec (.decodeBudget n pos) s = .next s) ∧
    (∀ v b, s.dsRunning n pos (s.dsOver n) = some v → v.budget = some b →
      exec (.decodeBudget n pos) s = .next ((s.dsEnd n v.serial b 0x0802).dsAdvance n)) ∧
    (∀ v : Sample, (v.budget = none → s.dsOver n v = false) ∧
      (∀ b, v.budget = some b → (s.dsOver n v = true ↔ b ≤ s.dsBeats n v)))) ∧
  (∀ (s : State) (n : Nat) (b : Batch), (s.ds n).batch = some b →
    (b.full = false → exec (.batchPublish n) s = .next (s.dsAdvance n)) ∧
    (b.full = true → (s.ds n).stopping = false → exec (.batchPublish n) s = .next (State.dsAdvance (State.signal
      (((s.streamStore (s.get Fld.CARD_DS_CTRL_JOB n) (512 * s.dsGet Fld.CARD_DS_BUF_BASE_BASE n + b.buffer * s.dsGet Fld.CARD_DS_BUF_STRIDE_BYTES n)
        (leBytes 4 ((s.ds n).published + 1) ++ leBytes 4 b.epoch ++ leBytes 4 b.firstPos ++ leBytes 1 b.slots.length ++
         leBytes 1 n ++ leBytes 2 0 ++ leBytes 8 s.now ++ List.replicate 40 0 ++
         tableBytes 4 64 (b.slots.map Prod.fst) ++ tableBytes 2 64 (b.slots.map Prod.snd) ++ List.replicate 64 0)).putDs n
        { s.ds n with batch := none, published := (s.ds n).published + 1 }).dsSync n)
      (s.dsGet Fld.CARD_DS_TOKENS_FULL n) 1) n)))

/-- A CQ doorbell is valid when the ring is enabled, the value is below its size and (VALUE - HEAD) mod size is at
most (TAIL - HEAD) mod size, and then sets the head to VALUE and changes nothing else. The same is stated of an SQ
doorbell and the tail with its own bound. An invalid doorbell of either kind sets DB_INVALID and fills the capture if
it was clear; one of another width or place changes nothing. (R369) -/
def Obligations.DoorbellsMoveOrAreCaptured : Prop :=
  ∀ (s : State) (c q v : Nat), s.setUp = true → s.ringExists c q = true →
    (s.isSet Fld.RING_SQ_CFG_EN (ix c q) = true → v < 2 ^ s.get Fld.RING_SQ_CFG_LOG2_SIZE (ix c q) →
      ringGap (s.sqSize c q) v (s.get Fld.RING_SQ_TAIL_TAIL (ix c q)) + ringGap (s.sqSize c q)
        (s.get Fld.RING_SQ_TAIL_TAIL (ix c q)) (s.get Fld.RING_SQ_HEAD_HEAD (ix c q)) ≤ s.sqSize c q - 1 →
      exec (.sqDoorbell c q 0 4 v) s = .next (s.set Fld.RING_SQ_TAIL_TAIL (ix c q) v)) ∧
    (s.isSet Fld.RING_CQ_CFG_EN (ix c q) = true → v < 2 ^ s.get Fld.RING_CQ_CFG_LOG2_SIZE (ix c q) →
      ringGap (s.cqSize c q) v (s.get Fld.RING_CQ_HEAD_HEAD (ix c q)) ≤ ringGap (s.cqSize c q)
        (s.get Fld.RING_CQ_TAIL_TAIL (ix c q)) (s.get Fld.RING_CQ_HEAD_HEAD (ix c q)) →
      exec (.cqDoorbell c q 0 4 v) s = .next (s.set Fld.RING_CQ_HEAD_HEAD (ix c q) v)) ∧
    (s.isSet Fld.RING_SQ_CFG_EN (ix c q) = false ∨ 2 ^ s.get Fld.RING_SQ_CFG_LOG2_SIZE (ix c q) ≤ v ∨
        s.sqSize c q - 1 < ringGap (s.sqSize c q) v (s.get Fld.RING_SQ_TAIL_TAIL (ix c q)) + ringGap (s.sqSize c q)
          (s.get Fld.RING_SQ_TAIL_TAIL (ix c q)) (s.get Fld.RING_SQ_HEAD_HEAD (ix c q)) →
      (s.isSet Fld.RING_EVT_DB_INVALID c = false → exec (.sqDoorbell c q 0 4 v) s = .next
        (((s.set Fld.RING_DB_CAP_RING c q).set Fld.RING_DB_CAP_VALUE c v).raise Flg.RING_EVT_DB_INVALID c)) ∧
      (s.isSet Fld.RING_EVT_DB_INVALID c = true → exec (.sqDoorbell c q 0 4 v) s = .next
        (s.raise Flg.RING_EVT_DB_INVALID c))) ∧
    (s.isSet Fld.RING_CQ_CFG_EN (ix c q) = false ∨ 2 ^ s.get Fld.RING_CQ_CFG_LOG2_SIZE (ix c q) ≤ v ∨
        ringGap (s.cqSize c q) (s.get Fld.RING_CQ_TAIL_TAIL (ix c q)) (s.get Fld.RING_CQ_HEAD_HEAD (ix c q)) <
          ringGap (s.cqSize c q) v (s.get Fld.RING_CQ_HEAD_HEAD (ix c q)) →
      (s.isSet Fld.RING_EVT_DB_INVALID c = false → exec (.cqDoorbell c q 0 4 v) s = .next
        (((s.set Fld.RING_DB_CAP_RING c (64 + q)).set Fld.RING_DB_CAP_VALUE c v).raise Flg.RING_EVT_DB_INVALID c)) ∧
      (s.isSet Fld.RING_EVT_DB_INVALID c = true → exec (.cqDoorbell c q 0 4 v) s = .next
        (s.raise Flg.RING_EVT_DB_INVALID c))) ∧
    (∀ off size, off ≠ 0 ∨ size ≠ 4 → exec (.sqDoorbell c q off size v) s = .next s ∧
      exec (.cqDoorbell c q off size v) s = .next s)

/-- A failed fetch disables the ring with FETCH_ERR; a good one advances HEAD and SEQ and the descriptor is admitted,
rejected with its status and a record, or in RECOVERY only recorded. A bad opcode is UNKNOWN_OPCODE, a bad header or
token BAD_FIELD. A record is written at TAIL with its phase, or waits with CQ_FULL once for each waiting record.
Coalesced vectors are sent at their time, and unmasking sends a pending one. (R371, R372, R373, R375, R377, R380,
R381) -/
def Obligations.DescriptorsFetchedAndRecordsWritten : Prop :=
  (∀ (s : State) (b : Bool), (s.fetching = false ∨ s.nextFetch = none → exec (.descriptorFetch b) s = .next s)) ∧
  (∀ (s t : State) (c q n head : Nat) (d : List Byte), s.fetching = true → s.nextFetch = some (c, q, n) →
    t = { s with rings := { s.rings with
      turnClient := c, turnCount := n, turnRing := Sparse.insert s.rings.turnRing c q } } →
    head = s.get Fld.RING_SQ_HEAD_HEAD (ix c q) →
    d = s.load (Mem.host ((64 * s.get Fld.RING_SQ_BASE_BASE (ix c q) + 64 * head) % 2 ^ 64)) 64 →
    exec (.descriptorFetch true) s = .next ((t.set Fld.RING_SQ_CFG_EN (ix c q) 0).raise Flg.RING_EVT_FETCH_ERR c) ∧
    ∃ u, u = (t.set Fld.RING_SQ_HEAD_HEAD (ix c q) ((head + 1) % s.sqSize c q)).set Fld.RING_SQ_SEQ_SEQ (ix c q)
        (s.get Fld.RING_SQ_SEQ_SEQ (ix c q) + 1) ∧
      exec (.descriptorFetch false) s = .next (
        if s.dev = .recovery then u.recordOnly c q (s.get Fld.RING_SQ_SEQ_SEQ (ix c q)) s.aon.causeStatus d
        else match u.admitCheck c q d with
          | some st => (u.raise Flg.RING_EVT_ADMIT_REJECT c).recordOnly c q (s.get Fld.RING_SQ_SEQ_SEQ (ix c q)) st d
          | none => u.admitDescriptor c q (s.get Fld.RING_SQ_SEQ_SEQ (ix c q)) d)) ∧
  (∀ (s : State) (c q : Nat) (d : List Byte),
    (fieldOf d 0 1 = 0 ∨ 0x0E < fieldOf d 0 1 → s.admitCheck c q d = some 0x0101) ∧
    (1 ≤ fieldOf d 0 1 → fieldOf d 0 1 ≤ 0x0E → (s.headerOk c q d = false ∨ s.tokensOk d = false) →
      s.admitCheck c q d = some 0x0102)) ∧
  (∀ (s : State) (c q : Nat) (r : Record) (rest : List Record),
    takeFirst (fun r => r.client == c && r.cq == q) s.rings.records = (some r, rest) →
    (s.cqFull c q = true → ∃ t, t = s.raiseN Flg.RING_EVT_CQ_FULL c
        ((s.rings.records.filter (fun x => x.client == c && x.cq == q && !x.waited)).length) ∧
      exec (.completionRecordWrite c q) s = .next { t with rings := { t.rings with
        records := t.rings.records.map (fun x => if x.client == c && x.cq == q then { x with waited := true } else x) } }) ∧
    (s.cqFull c q = false → exec (.completionRecordWrite c q) s = .next
      (({ s with rings := { s.rings with records := rest } }).putRecord r))) ∧
  (∀ (s : State) (r : Record) (tail : Nat), tail = s.get Fld.RING_CQ_TAIL_TAIL (ix r.client r.cq) →
    s.isSet Fld.RING_CQ_CFG_IEN (ix r.client r.cq) = false →
    ∃ t, t = ((s.store (Mem.host ((32 * s.get Fld.RING_CQ_BASE_BASE (ix r.client r.cq) + 32 * tail) % 2 ^ 64))
        (s.recordBytes r (s.get Fld.RING_CQ_TAIL_PHASE (ix r.client r.cq)))).set Fld.RING_CQ_TAIL_TAIL (ix r.client r.cq)
          ((tail + 1) % s.cqSize r.client r.cq)).set Fld.RING_CQ_TAIL_PHASE (ix r.client r.cq)
          (if (tail + 1) % s.cqSize r.client r.cq = 0 then 1 - s.get Fld.RING_CQ_TAIL_PHASE (ix r.client r.cq)
           else s.get Fld.RING_CQ_TAIL_PHASE (ix r.client r.cq)) ∧ s.putRecord r = t) ∧
  (∀ (s : State) (c q n first : Nat), Sparse.find s.rings.coal (ix c q) = some (n, first) →
    s.isSet Fld.RING_CQ_CFG_IEN (ix c q) = true → s.get Fld.RING_CQ_CFG_COAL_TIME (ix c q) ≠ 0 →
    exec (.coalTimer c q) s = .next (if first + s.get Fld.RING_CQ_CFG_COAL_TIME (ix c q) * Config.us ≤ s.refTime then
      ({ s with rings := { s.rings with coal := Sparse.erase s.rings.coal (ix c q) } }).sendVector c
        (s.get Fld.RING_CQ_CFG_VECTOR (ix c q)) else s)) ∧
  (∀ (s : State) (c v : Nat), s.setUp = true → s.ringExists c v = true →
    exec (.msixUnmask c v) s = .next (
      if s.get Fld.MSIX_PBA_PENDING c / 2 ^ v % 2 = 1 then
        ((s.set Fld.MSIX_CTRL_MASK (ix c v) 0).set Fld.MSIX_PBA_PENDING c (s.get Fld.MSIX_PBA_PENDING c - 2 ^ v)).sendVector c v
      else s.set Fld.MSIX_CTRL_MASK (ix c v) 0))

/-- A ring enables with the protocol selected, a legal size and, for a submission ring, its completion ring enabled,
with its indices at 0; disabling a completion ring that is bound or awaited is refused; a ring of a function that is
not enabled takes nothing. A function-level reset gives every field of the client's window its reset value and no
other, removes every command of the client and of its jobs that has not started, orphans those in progress, drops the
client's records and keeps memory; at 50 ms such a command still left is a hang fault. (R360, R386, R387, R388) -/
def Obligations.RingSetUpAndReset : Prop :=
  (∀ (s : State) (c q n : Nat), s.setUp = true → s.ringExists c q = true →
    (s.isSet Fld.RING_SQ_CFG_EN (ix c q) = false → n = s.get Fld.RING_SQ_CFG_LOG2_SIZE (ix c q) →
      exec (.sqEnable c q) s = .next (
        if s.get Fld.RING_PROTO_SEL_VERSION c ≠ 0 ∧ 8 ≤ n ∧ n ≤ 16 ∧
          s.isSet Fld.RING_CQ_CFG_EN (ix c (s.get Fld.RING_SQ_CFG_CQ (ix c q))) then
          (((s.set Fld.RING_SQ_CFG_EN (ix c q) 1).set Fld.RING_SQ_HEAD_HEAD (ix c q) 0).set
            Fld.RING_SQ_TAIL_TAIL (ix c q) 0).set Fld.RING_SQ_SEQ_SEQ (ix c q) 0
        else s.raise Flg.RING_EVT_CFG_REFUSED c)) ∧
    (s.isSet Fld.RING_CQ_CFG_EN (ix c q) = false → n = s.get Fld.RING_CQ_CFG_LOG2_SIZE (ix c q) →
      ∃ t, t = (((s.set Fld.RING_CQ_CFG_EN (ix c q) 1).set Fld.RING_CQ_TAIL_TAIL (ix c q) 0).set
          Fld.RING_CQ_HEAD_HEAD (ix c q) 0).set Fld.RING_CQ_TAIL_PHASE (ix c q) 1 ∧
        exec (.cqEnable c q) s = .next (
          if s.get Fld.RING_PROTO_SEL_VERSION c ≠ 0 ∧ 8 ≤ n ∧ n ≤ 16 then
            { t with rings := { t.rings with coal := Sparse.erase t.rings.coal (ix c q) } }
          else s.raise Flg.RING_EVT_CFG_REFUSED c)) ∧
    exec (.sqDisable c q) s = .next (s.set Fld.RING_SQ_CFG_EN (ix c q) 0) ∧
    (s.isSet Fld.RING_CQ_CFG_EN (ix c q) = true →
      (∀ x, x < 64 → s.isSet Fld.RING_SQ_CFG_EN (ix c x) = true → s.get Fld.RING_SQ_CFG_CQ (ix c x) ≠ q) →
      s.cqAwaited c q = false → exec (.cqDisable c q) s = .next (s.set Fld.RING_CQ_CFG_EN (ix c q) 0)) ∧
    (s.isSet Fld.RING_CQ_CFG_EN (ix c q) = true →
      ((∃ x, x < 64 ∧ s.isSet Fld.RING_SQ_CFG_EN (ix c x) = true ∧ s.get Fld.RING_SQ_CFG_CQ (ix c x) = q) ∨
        s.cqAwaited c q = true) → exec (.cqDisable c q) s = .next (s.raise Flg.RING_EVT_CFG_REFUSED c))) ∧
  (∀ (s : State) (c q : Nat), s.setUp = false ∨ s.ringExists c q = false →
    exec (.sqEnable c q) s = .next s ∧ exec (.sqDisable c q) s = .next s ∧ exec (.cqEnable c q) s = .next s ∧
    exec (.cqDisable c q) s = .next s) ∧
  (∀ (s : State) (c : Nat), s.setUp = true → s.ringExists c 0 = true →
    ∃ u : State, exec (.functionLevelReset c) s = .next u.fillQueues ∧
      (∀ (f : Field) (i : Nat), u.get f i = if inWindow c (f.key i) = true then f.reset % 2 ^ f.width else s.get f i) ∧
      (∀ x ∈ u.cmds, x.ofClient c = true ∨ (s.isSet Fld.RING_JOB_VALID x.job = true ∧ s.get Fld.RING_JOB_CLIENT x.job = c) →
        x.inProgress = true ∧ x.orphan = true) ∧
      (∀ r ∈ u.rings.records, r.client ≠ c) ∧ Sparse.find u.rings.resets c = some s.refTime ∧ u.mem = s.mem) ∧
  (∀ (s : State) (c at_ : Nat), Sparse.find s.rings.resets c = some at_ →
    (s.refTime < at_ + 50000 * Config.us → exec (.flrTimeout c) s = .next s) ∧
    (at_ + 50000 * Config.us ≤ s.refTime → ∃ t, t = { s with rings := { s.rings with resets := Sparse.erase s.rings.resets c } } ∧
      exec (.flrTimeout c) s = .next (match s.cmds.find? (fun x => x.orphan && s.orphaned c x) with
        | none => t
        | some x => (t.jobFault 0 x.job x.engine.hangSource).settle)))

/-- LOAD reads a table that meets every check or is refused with its reason; ARM is taken with a pending table. At a
boundary cycles advance by the number passed, and an armed swap makes the pending table active at the first boundary
after the write. A slot that holds the count opens (with its golden runs or its test) and closes when it no longer
does; quiesce starts within HEDDLE_QUIESCE of a start. (R392, R393, R394, R395, R397, R402) -/
def Obligations.ScheduleTablesAndCycles : Prop :=
  (∀ s : State, s.setUp = true →
    (s.isSet Fld.HEDDLE_TBL_CMD_ARM 0 = true →
      exec .tableLoad s = .next ((s.set Fld.HEDDLE_STATUS_LOAD_REASON 0 8).raise Flg.HEDDLE_EVT_TBL_REFUSED 0) ∧
      exec .tableArm s = .next s) ∧
    (s.isSet Fld.HEDDLE_TBL_CMD_ARM 0 = false →
      (∀ t, s.readTable = .inl t → exec .tableLoad s = .next { s with heddle := { s.heddle with pending := some t } }) ∧
      (∀ r, s.readTable = .inr r → exec .tableLoad s = .next
        ((({ s with heddle := { s.heddle with pending := none } }).set Fld.HEDDLE_STATUS_LOAD_REASON 0 r).raise
          Flg.HEDDLE_EVT_TBL_REFUSED 0)) ∧
      (s.heddle.pending = none → exec .tableArm s = .next
        ((s.set Fld.HEDDLE_STATUS_LOAD_REASON 0 0).raise Flg.HEDDLE_EVT_TBL_REFUSED 0)) ∧
      (s.heddle.pending ≠ none → exec .tableArm s = .next
        { s.set Fld.HEDDLE_TBL_CMD_ARM 0 1 with heddle := { s.heddle with armAt := s.now } })) ∧
    (∀ t, s.readTable = .inl t → 400000 ≤ t.cycle ∧ t.cycle ≤ 400000000 ∧ slotsOrdered t.cycle 0 t.slots = true ∧
      slotsApart t.slots = true ∧ goldenOk t.slots = true ∧
      (∀ k ∈ s.liveSkeins, testable t.cycle (s.get Fld.HEDDLE_TEST_BOUND_TICKS 0) t.slots k = true))) ∧
  ((∀ (s : State) (t : Table) (n : Nat), s.heddle.active = some t → n = (s.now - s.boundary) / t.cycle →
    (s.dev ≠ .run → exec .cycleBoundary s = .next s) ∧
    (s.dev = .run → n = 0 → exec .cycleBoundary s = .next s) ∧
    (s.dev = .run → n ≠ 0 → s.isSet Fld.HEDDLE_TBL_CMD_ARM 0 = false →
      exec .cycleBoundary s = .next { s.advanceCycle t.cycle n with heddle := { s.heddle with openSlots := [], quiesced := [] } }) ∧
    (∀ u, s.dev = .run → n ≠ 0 → s.isSet Fld.HEDDLE_TBL_CMD_ARM 0 = true → s.swapAfter t.cycle ≤ n →
      s.heddle.pending = some u → ∃ v w, v = s.advanceCycle t.cycle (s.swapAfter t.cycle) ∧
        w = State.raise { (v.set Fld.HEDDLE_TBL_CMD_ARM 0 0).set Fld.HEDDLE_CYCLE_EPOCH_TIME 0 v.boundary with
          heddle := { s.heddle with active := some u } } Flg.HEDDLE_EVT_SWAPPED 0 ∧
        exec .cycleBoundary s = .next { w.advanceCycle u.cycle ((w.now - w.boundary) / u.cycle) with
          heddle := { s.heddle with active := some u, openSlots := [], quiesced := [] } })) ∧
  (∀ (s : State) (t : Table) (i : Nat) (x : Slot), s.heddle.active = some t → t.slots[i]? = some x →
    (s.dev ≠ .run ∨ i ∈ s.heddle.openSlots ∨ s.slotHolds x = false → exec (.slotOpen i) s = .next s) ∧
    (s.dev = .run → i ∉ s.heddle.openSlots → s.slotHolds x = true →
      ∃ v, v = State.preemptFor ({ s.closeSlots with heddle := { s.closeSlots.heddle with
            openSlots := s.closeSlots.heddle.openSlots ++ [i]
            quiesced := s.closeSlots.heddle.quiesced.filter (fun j => j != i) } }) x ∧
        exec (.slotOpen i) s = .next (if x.cls = 3 then (if x.golden then v.startGolden x else v).openTest x
          else if x.golden then v.startGolden x else v)) ∧
    (s.slotHolds x = true → exec (.slotClose i) s = .next s) ∧
    (s.slotHolds x = false → exec (.slotClose i) s = .next
      { s with heddle := { s.heddle with openSlots := s.heddle.openSlots.filter (fun j => j != i) } }) ∧
    (s.dev = .run → s.now < s.boundary + x.start → s.boundary + x.start ≤ s.now + s.get Fld.HEDDLE_QUIESCE_TICKS 0 →
      i ∉ s.heddle.quiesced → i ∉ s.heddle.openSlots →
      exec (.quiesceStart i) s = .next { s with heddle := { s.heddle with quiesced := s.heddle.quiesced ++ [i] } }) ∧
    (s.now < s.boundary + x.start → s.now + s.get Fld.HEDDLE_QUIESCE_TICKS 0 < s.boundary + x.start →
      exec (.quiesceStart i) s = .next s)))

/-- A golden run that ends charges its beats, adds its ties and a bad or late one fails its skein. A drained skein
that fits starts its next slice, otherwise the test is given up, as it is at the drain limit: deferred, and after a
suspect the next suspect starts in the same slot. A passed slice advances the skein's place, the sixteenth completes
its coverage, and a failed one retires the skein; a failed ply test retires the eight skeins of its hank. A slice
charges the beats of its engines. (R413, R415, R524, R525, R539) -/
def Obligations.GoldenRunsAndFieldTests : Prop :=
  (∀ (s t : State) (k a b : Nat), t = (((s.spend (.loom k) none 16 a).spend (.vec k) none 16 b).goldenTies k).dropGolden k →
    (s.inGolden k = true → exec (.goldenRunEnd k true a b) s = .next t ∧
      exec (.goldenRunEnd k false a b) s = .next (t.goldenFail k)) ∧
    (s.inGolden k = false → exec (.goldenRunEnd k true a b) s = .next s ∧ exec (.goldenRunEnd k false a b) s = .next s)) ∧
  (∀ (s : State) (k began : Nat), Sparse.find s.heddle.golden k = some began →
    exec (.goldenTimeout k) s = .next (if began + 20 * Config.us ≤ s.refTime then ((s.goldenTies k).dropGolden k).goldenFail k else s)) ∧
  (∀ (s : State) (k : Nat), k = s.get Fld.HEDDLE_TEST_STATE_SKEIN 0 →
    (s.get Fld.HEDDLE_TEST_STATE_PHASE 0 ≠ 1 ∨ (∃ c ∈ s.cmds, c.phase = .running ∧ c.engine.on k = true ∧ c.engine.kind ≠ 3) →
      exec .drainEnd s = .next s) ∧
    (s.get Fld.HEDDLE_TEST_STATE_PHASE 0 = 1 → (∀ c ∈ s.cmds, c.phase = .running → c.engine.on k = true → c.engine.kind = 3) →
      exec .drainEnd s = .next (
        if s.testFits k = true ∧ s.testOpen k = true then
          if s.suspect k = true then s.startSlice k (Sparse.get 0 s.selv.suspectNext k) true
          else s.startSlice k (Sparse.get 0 s.selv.next k) false
        else s.giveUpTest k Flg.HEDDLE_EVT_TEST_DEFER_FIT)) ∧
    exec .drainTimeout s = .next (
      if s.get Fld.HEDDLE_TEST_STATE_PHASE 0 = 1 ∧ s.heddle.drainStart + s.get Fld.HEDDLE_DRAIN_MAX_TICKS 0 ≤ s.now then
        s.giveUpTest k Flg.HEDDLE_EVT_TEST_DEFER_DRAIN else s)) ∧
  (∀ (s : State) (k : Nat) (f : Flag), (s.suspect k = false → s.giveUpTest k f = s.deferTest k f) ∧
    (s.suspect k = true → s.giveUpTest k f = (s.deferTest k f).afterSuspect k)) ∧
  (∀ (s : State) (x : Slice) (u : State) (beats : List Nat), s.selv.running = some x →
    u = ((({ s with selv := { s.selv with running := none } }).set Fld.HEDDLE_TEST_STATE_PHASE 0 0).forEach
      (x.engines.zip beats) (fun t p => t.spend p.1 none 16 p.2)).testRun x.skein →
    exec (.sliceEnd true false beats) s = .next
      (if x.suspect = true then u.suspectPass x else u.rotationPass x).startOverdue ∧
    exec (.sliceEnd false false beats) s = .next
      (if x.suspect = true then (u.retireFaulty x.skein).afterSuspect x.skein else u.retireFaulty x.skein).startOverdue ∧
    (∀ v, x.slice = 15 → x.skein % 8 = 0 → v = u.forEach ((List.range 8).map (fun i => x.skein + i)) State.retireFaulty →
      exec (.sliceEnd true true beats) s =
        .next (if x.suspect = true then v.afterSuspect x.skein else v).startOverdue) ∧
    (x.slice ≠ 15 ∨ x.skein % 8 ≠ 0 → ∀ pass, exec (.sliceEnd pass true beats) s = exec (.sliceEnd pass false beats) s)) ∧
  (∀ (s : State) (x : Slice), x.slice < 15 → s.rotationPass x =
    { s with selv := { s.selv with next := Sparse.put 0 s.selv.next x.skein (x.slice + 1) } }) ∧
  (∀ (s : State) (x : Slice), x.slice = 15 → s.rotationPass x =
    ({ s with selv := { s.selv with next := Sparse.put 0 s.selv.next x.skein 0 } }).coverage x.skein)

/-- Each interval charges idle energy and what its division leaves to the package, in the package's own row too,
shares the rest among 16 clients by weighted beats rounded down, and changes no other field. A set point outside 600
to 850 mV or off 5 mV is refused, any other is taken; once BOOT has read the voltage, the ramp moves one step toward
its target per step time, a failed transaction stops it, telemetry records rails and temperatures and raises TJ_LIMIT,
and the window adds power and energy and lowers the ceiling over the cap; before that read, none of the four does
anything. (R421, R580, R581, R583, R585, R586, R587) -/
def Obligations.EnergyAndPower : Prop :=
  (∀ (s : State) (e idle total : Nat),
    (s.powered = false ∨ (s.heddle.intervalAt ≤ s.now ∧ s.now < s.heddle.intervalAt + 4000000) →
      exec .accountingInterval s = .next s) ∧
    (s.powered = true → s.heddle.intervalAt + 4000000 ≤ s.now →
      e = (s.get Fld.PWR_ENERGY_ENERGY 0 + 2 ^ 64 - s.heddle.energyAt) % 2 ^ 64 →
      idle = min e (s.get Fld.HEDDLE_ACCT_IDLE_MW 0 * 65536 / 1000) → total = ((List.range 17).map s.weighted).sum →
      ∃ t, exec .accountingInterval s = .next t ∧
        t.heddle = { s.heddle with interval := [], intervalAt := s.now, energyAt := s.get Fld.PWR_ENERGY_ENERGY 0 } ∧
        (∀ c < 16, t.get Fld.HEDDLE_ACCT_ENERGY_COUNT c = (s.get Fld.HEDDLE_ACCT_ENERGY_COUNT c +
          (if total = 0 then 0 else (e - idle) * s.weighted c / total)) % 2 ^ Fld.HEDDLE_ACCT_ENERGY_COUNT.width) ∧
        t.get Fld.HEDDLE_ACCT_ENERGY_COUNT 16 = (s.get Fld.HEDDLE_ACCT_ENERGY_COUNT 16 +
          (e - ((List.range 16).map (fun c => if total = 0 then 0 else (e - idle) * s.weighted c / total)).sum)) %
            2 ^ Fld.HEDDLE_ACCT_ENERGY_COUNT.width ∧
        (∀ (f : Field) (i : Nat), f.code ≠ Fld.HEDDLE_ACCT_ENERGY_COUNT.code → i < 0x100000000 → t.get f i = s.get f i))) ∧
  ((∀ (s : State) (mv : Nat), s.setUp = true →
    (mv < 600 ∨ 850 < mv ∨ mv % 5 ≠ 0 → exec (.vsetWrite mv) s = .next (s.raise Flg.PWR_EVT_SET_REFUSED 0)) ∧
    (600 ≤ mv → mv ≤ 850 → mv % 5 = 0 → exec (.vsetWrite mv) s = .next (s.set Fld.PWR_VSET_MV 0 mv).pwrSync)) ∧
  (∀ (s : State), s.powered = true → s.pwr.ready = true →
    (s.pwr.waiting = true ∨ s.pwr.commanded = s.vTarget ∨ s.refTime < s.pwr.stepAt + s.get Fld.PWR_SLEW_STEP_US 0 * Config.us →
      exec .rampStep s = .next s) ∧
    (∀ v, s.pwr.waiting = false → s.pwr.commanded ≠ s.vTarget →
      s.pwr.stepAt + s.get Fld.PWR_SLEW_STEP_US 0 * Config.us ≤ s.refTime →
      v = (if s.pwr.commanded < s.vTarget then min (s.pwr.commanded + s.get Fld.PWR_SLEW_STEP_MV 0) s.vTarget
        else max (s.pwr.commanded - s.get Fld.PWR_SLEW_STEP_MV 0) s.vTarget) →
      exec .rampStep s = .next (((State.set { s with pwr := { s.pwr with commanded := v, stepAt := s.refTime } }
        Fld.PWR_VAPPLIED_MV 0 v).set Fld.PWR_STATUS_AVS_OK 0 1).pwrSync)) ∧
    exec .avsTransactionFail s = .next (((State.set { s with pwr := { s.pwr with waiting := true } }
      Fld.PWR_STATUS_AVS_OK 0 0).raise Flg.PWR_EVT_AVS_ERR 0))) ∧
  (∀ (s : State) (cm cc sm sc : Nat) (tj : List Int) (b : Bool), s.powered = true → s.pwr.ready = true →
    (s.refTime < s.pwr.sampleAt + 100 * Config.us → exec (.telemetrySample cm cc sm sc tj b) s = .next s) ∧
    (∀ top u v, s.pwr.sampleAt + 100 * Config.us ≤ s.refTime → top = tj.foldl max (tj.headD 0) →
      u = ((State.forEach { s with pwr := { s.pwr with
          rails := [(0, (cm, cc)), (1, (sm, sc))]
          core := s.pwr.core + cm * cc
          sram := s.pwr.sram + sm * sc
          waiting := s.pwr.waiting && !b
          sampleAt := s.refTime } } ((List.range 5).zip tj) (fun t p => t.set Fld.PWR_TJN_TJ p.1 (unsigned 16 p.2))).set
        Fld.PWR_TJ_MAX 0 (unsigned 16 top)).set Fld.PWR_TJ_PEAK 0 (unsigned 16
          (if s.getInt Fld.PWR_TJ_PEAK 0 < top then top else s.getInt Fld.PWR_TJ_PEAK 0)) →
      v = ((u.set Fld.PWR_STATUS_AVS_OK 0 1).railSample 0 cm s.pwr.commanded).railSample 1 sm 800 →
      (top < v.gradeMax → exec (.telemetrySample cm cc sm sc tj b) s = .next v) ∧
      (v.gradeMax ≤ top → v.isSet Fld.PWR_STATUS_TJ_LIMIT 0 = false → ∃ w, w = ((v.set Fld.PWR_VAPPLIED_CEIL_MV 0 600).set
          Fld.PWR_STATUS_TJ_LIMIT 0 1).raise Flg.PWR_EVT_TJ_LIMIT 0 ∧
        exec (.telemetrySample cm cc sm sc tj b) s = .next
          (State.pwrSync { w with pwr := { w.pwr with hot := some (w.gradeMax, true) } })))) ∧
  (∀ (s : State), s.powered = true → s.pwr.ready = true →
    (s.pwr.windowAt ≤ s.now → s.now < s.pwr.windowAt + 4000000 → exec .powerWindow s = .next s) ∧
    (∀ mw units, s.pwr.windowAt + 4000000 ≤ s.now → mw = (s.pwr.core + s.pwr.sram) / 1000 + s.get Fld.PWR_OTHER_MW 0 →
      units = s.pwr.core * 65536 + s.pwr.carry →
      ∃ t, t = ((s.set Fld.PWR_POWER_MW 0 (min mw (2 ^ 32 - 1))).accum Fld.PWR_ENERGY_ENERGY 0 (units / 1000000)).capWindow mw ∧
        exec .powerWindow s = .next (State.pwrSync { t with pwr := { t.pwr with
          core := 0, sram := 0, carry := units % 1000000, windowAt := s.now } }))) ∧
  (∀ (s : State) (cm cc sm sc : Nat) (tj : List Int) (b : Bool), s.pwr.ready = false → exec .rampStep s = .next s ∧
    exec .avsTransactionFail s = .next s ∧ exec .powerWindow s = .next s ∧ exec (.telemetrySample cm cc sm sc tj b) s = .next s) ∧
  (∀ (s : State) (mw : Nat), s.pwr.hot = none → s.getInt Fld.PWR_TJ_MAX 0 < s.gradeMax - 80 →
    s.get Fld.PWR_CAP_WATTS 0 * 1000 < mw → ∃ t, t = s.raise Flg.PWR_EVT_CAP_ACTIVE 0 ∧ s.capWindow mw =
      (State.set { t with pwr := { t.pwr with hot := none } } Fld.PWR_STATUS_TJ_LIMIT 0 0).setCeiling
        (max 600 (s.get Fld.PWR_VAPPLIED_CEIL_MV 0 - s.get Fld.PWR_SLEW_STEP_MV 0))))

/-- A port enables into training, comes UP with all lanes, FEC and the expected neighbour, reports MISWIRED otherwise;
the stamps of the last SYNC stay with it. A falling port ends every request of this package that must cross it with
LINK_DOWN, reports each barrier message it drops, and refuses the transit requests whose reply must cross it. A failed
codeword is counted once; a bad flit is counted and NAKed, one out of order NAKed, one in order taken where its
channel has room and passed on; a NAK replays; an unacknowledged replay buffer is sent again until the limit, where
the port falls. (R425, R426, R428, R429, R430) -/
def Obligations.PortsAndFlits : Prop :=
  ((∀ (s : State) (p : Nat), s.setUp = true → p < 6 →
    (s.get Fld.IWL_P_STATUS_STATE p = 0 →
      exec (.portEnable p) s = .next ((s.set Fld.IWL_P_CTRL_EN p 1).emptyPort p 1)) ∧
    (s.get Fld.IWL_P_STATUS_STATE p ≠ 0 → exec (.portEnable p) s = .next (s.set Fld.IWL_P_CTRL_EN p 1)) ∧
    (s.get Fld.IWL_P_STATUS_STATE p ≠ 2 →
      exec (.portDisable p) s = .next ((s.set Fld.IWL_P_CTRL_EN p 0).emptyPort p 0)) ∧
    (s.get Fld.IWL_P_STATUS_STATE p = 2 →
      exec (.portDisable p) s = .next ((s.set Fld.IWL_P_CTRL_EN p 0).portLost p 0))) ∧
  (∀ (s : State) (p lanes n : Nat) (fec : Bool), p < 6 →
    (s.get Fld.IWL_P_STATUS_STATE p ≠ 1 → exec (.portTrained p lanes fec n) s = .next s) ∧
    (s.get Fld.IWL_P_STATUS_STATE p = 1 → lanes % 16 ≠ 15 ∨ fec = false →
      exec (.portTrained p lanes fec n) s = .next (s.set Fld.IWL_P_STATUS_LANE_LOCK p lanes)) ∧
    (s.get Fld.IWL_P_STATUS_STATE p = 1 → lanes % 16 = 15 → s.neighbour p = some n →
      exec (.portTrained p lanes true n) s = .next ((((s.set Fld.IWL_P_STATUS_LANE_LOCK p lanes).set
        Fld.IWL_P_STATUS_NEIGHBOUR p n).set Fld.IWL_P_STATUS_STATE p 2).putPort p
        { Port.reset with
          ackAt := s.refTime, sentAt := s.refTime, peerTx := (s.port p).peerTx, peerRx := (s.port p).peerRx
          heardAt := (s.port p).heardAt })) ∧
    (s.get Fld.IWL_P_STATUS_STATE p = 1 → lanes % 16 = 15 → s.neighbour p ≠ some n →
      exec (.portTrained p lanes true n) s = .next ((((s.set Fld.IWL_P_STATUS_LANE_LOCK p lanes).set
        Fld.IWL_P_STATUS_NEIGHBOUR p n).set Fld.IWL_P_STATUS_STATE p 0).raiseIwl Flg.IWL_EVT_MISWIRED p))) ∧
  (∀ (s : State) (p : Nat), (s.portUp p = false → exec (.linkDown p) s = .next s) ∧
    (∀ t u v w, s.portUp p = true →
      t = ((s.emptyPort p (if s.isSet Fld.IWL_P_CTRL_AUTO_RETRAIN p then 1 else 0)).raiseIwl Flg.IWL_EVT_LINK_DOWN p).forgetSent p →
      u = t.forEach
        (s.iwl.reqs.filter (fun r => r.back == p || r.port == p && decide (Sparse.get 0 (s.port p).done r.vc < r.upto)))
        (fun u r => (u.dropReq r.xid).endReq r 0x0502) →
      v = (u.forEach (s.port p).held (fun u h => u.dropHeld p h)).forEach (List.range (s.port p).barriers)
        (fun u _ => u.raiseIwl Flg.IWL_EVT_BARRIER_FAIL p) →
      w = v.forEach (s.lostTransit p) (fun u tx => u.route 16 none (u.refusal tx 6) none 2) →
      exec (.linkDown p) s = .next
        { w with iwl := { w.iwl with transit := w.iwl.transit.filter (fun tx => !(s.lostTransit p).contains tx) } }.settle)) ∧
  (∀ (s : State) (p state : Nat), (s.emptyPort p state).port p = { Port.reset with
    peerTx := (s.port p).peerTx, peerRx := (s.port p).peerRx, heardAt := (s.port p).heardAt })) ∧
  ((∀ (s : State) (p n : Nat) (b : List Byte) (bad : Bool), s.portUp p = false →
    exec (.dataFlit p b n bad) s = .next s ∧ exec (.idleFlit p b n bad) s = .next s ∧
    exec (.nakFlit p b n bad) s = .next s ∧ exec (.syncFlit p b n bad) s = .next s ∧ exec (.replayTimeout p) s = .next s ∧
    exec (.syncSend p) s = .next s) ∧
  (∀ (s t : State) (p n : Nat), t = (s.putPort p { s.port p with flits := (s.port p).flits + 1 }).count
      Fld.IWL_P_FEC_CORR_COUNT p n →
    s.fecCounts p n false = t ∧
    (∀ j, wholeCodeword (s.port p).flits = some j → (s.port p).judged ≤ j → s.fecCounts p n true =
      (t.modPort p (fun x => { x with judged := j + 1 })).count Fld.IWL_P_FEC_UNCORR_COUNT p 1) ∧
    (∀ j, wholeCodeword (s.port p).flits = some j → j < (s.port p).judged → s.fecCounts p n true = t) ∧
    (wholeCodeword (s.port p).flits = none → s.fecCounts p n true = t)) ∧
  (∀ (s : State) (p n : Nat) (b : List Byte), s.portUp p = true →
    (exec (.dataFlit p b n true) s = .next (((s.fecCounts p n true).count Fld.IWL_P_CRC_ERR_COUNT p 1).nak p)) ∧
    (flitGood b = false → exec (.idleFlit p b n false) s = .next
      (((s.fecCounts p n false).count Fld.IWL_P_CRC_ERR_COUNT p 1).nak p))) ∧
  (∀ (s r t : State) (p n : Nat) (b : List Byte), s.portUp p = true → flitGood b = true →
    r = s.fecCounts p n false → t = r.flitControl p b →
    (flitType b = 0 → exec (.idleFlit p b n false) s = .next (t.pump p)) ∧
    (flitType b = 1 → fieldOf b 2 2 % 4096 ≠ (r.port p).rxSeq → exec (.dataFlit p b n false) s = .next ((r.nak p).pump p)) ∧
    (flitType b = 1 → fieldOf b 2 2 % 4096 = (r.port p).rxSeq →
      (∀ v, ((r.port p).rx.filter (fun f => f.1 == flitVc b)).length < 32 → v = t.modPort p (fun x => { x with
            rxSeq := (x.rxSeq + 1) % 4096, naked := false, got := true, ackDue := true
            rx := if (flitBody b).isEmpty then x.rx else x.rx ++ [(flitVc b, flitBody b)]
            owed := if (flitBody b).isEmpty then Sparse.put 0 x.owed (flitVc b) (Sparse.get 0 x.owed (flitVc b) + 1)
              else x.owed }) →
        exec (.dataFlit p b n false) s = .next ((v.passOn p (flitVc b) (v.port p).rx.length).noteParcels.pump p)) ∧
      (32 ≤ ((r.port p).rx.filter (fun f => f.1 == flitVc b)).length →
        exec (.dataFlit p b n false) s = .next (r.pump p))) ∧
    (flitType b = 2 → exec (.nakFlit p b n false) s = .next
      ((if (t.port p).replay = [] then t else t.replay p).pump p)) ∧
    (flitType b = 3 → t.isSet Fld.IWL_TS_CTRL_TS_EN 0 = false →
      exec (.syncFlit p b n false) s = .next (t.pump p))) ∧
  (∀ (s : State) (p : Nat), s.portUp p = true → (s.port p).replay ≠ [] →
    (s.refTime < (s.port p).ackAt + 4 * s.get Fld.IWL_P_REPLAY_CFG_REPLAY_TIMEOUT p → exec (.replayTimeout p) s = .next s) ∧
    ((s.port p).ackAt + 4 * s.get Fld.IWL_P_REPLAY_CFG_REPLAY_TIMEOUT p ≤ s.refTime →
      (s.get Fld.IWL_P_REPLAY_CFG_REPLAY_MAX p ≤ (s.port p).fruitless → exec (.replayTimeout p) s = .next
        ((s.raiseIwl Flg.IWL_EVT_REPLAY_LIMIT p).portLost p (s.fallState p))) ∧
      ((s.port p).fruitless < s.get Fld.IWL_P_REPLAY_CFG_REPLAY_MAX p → exec (.replayTimeout p) s = .next
        (((s.putPort p { s.port p with fruitless := (s.port p).fruitless + 1, ackAt := s.refTime }).count
          Fld.IWL_P_REPLAYS_COUNT p 1).forEach (s.port p).replay (fun t f => t.sendData p f))))))

/-- An UP port with time sync sends SYNC once per period with the count, the peer's two stamps and whether this
package's time is good. A SYNC from a port other than upstream sets the port's link delay from the four stamps. No
SYNC from upstream for four periods sets HOLDOVER, clears LOCKED and is reported to the Selvedge. (R444, R445, R536)
-/
def Obligations.SystemTimeSync : Prop :=
  (∀ (s : State) (p : Nat), s.isSet Fld.IWL_TS_CTRL_TS_EN 0 = true → s.portUp p = true →
    (s.refTime < (s.port p).sentAt + s.syncPeriod → exec (.syncSend p) s = .next s) ∧
    (∀ body, (s.port p).sentAt + s.syncPeriod ≤ s.refTime →
      body = leBytes 8 s.now ++ leBytes 8 (s.port p).peerTx ++ leBytes 8 (s.port p).peerRx ++
        leBytes 1 (if s.timeMaster = true ∨ s.isSet Fld.IWL_TS_STATUS_LOCKED 0 = true then 1 else 0) →
      exec (.syncSend p) s = .next ((s.putPort p { (s.port p).send 3 0 0 body with sentAt := s.refTime }).chargeBody p 16
        body.length))) ∧
  (∀ (s t u : State) (p : Nat) (b : List Byte), s.portUp p = true → flitGood b = true → flitType b = 3 →
    t = (s.fecCounts p 0 false).flitControl p b → t.isSet Fld.IWL_TS_CTRL_TS_EN 0 = true →
    u = t.modPort p (fun x => { x with peerTx := fieldOf b 10 8, peerRx := t.now, heardAt := t.refTime }) →
    p ≠ u.upstream → fieldOf b 34 1 % 2 = 1 → fieldOf b 18 8 ≠ 0 →
    exec (.syncFlit p b 0 false) s = .next ((u.set Fld.IWL_P_LINK_DELAY_TICKS p (unsigned 32
      ((((t.now : Int) - fieldOf b 18 8) - ((fieldOf b 10 8 : Int) - fieldOf b 26 8)) / 2))).pump p)) ∧
  (∀ (s : State) (p : Nat), p = s.upstream → p < 6 →
    (s.isSet Fld.IWL_TS_STATUS_HOLDOVER 0 = true ∨ s.refTime < (s.port p).heardAt + 4 * s.syncPeriod →
      exec .tsLost s = .next s) ∧
    (s.isSet Fld.IWL_TS_STATUS_HOLDOVER 0 = false → (s.port p).heardAt + 4 * s.syncPeriod ≤ s.refTime →
      ∃ t, t = ((s.set Fld.IWL_TS_STATUS_HOLDOVER 0 1).set Fld.IWL_TS_STATUS_LOCKED 0 0).raiseIwl Flg.IWL_EVT_TS_LOST p ∧
        exec .tsLost s = .next (State.timeFault { t with iwl := { t.iwl with steady := 0 } } (s.isSet Fld.SELV_TIME_CFG_TS_FAULT 0))))

/-- Where the window check passes, a row write stores its row and is acknowledged, a row read answers the row, a token
signal adds to its token and is acknowledged; a write whose data, or a read whose row, fails parity is reported to the
window's job and not answered; where the check does not pass, the access is dropped with its reason. A path fault of a
port is met once. With nothing waiting on the channel each of the eleven commands changes nothing. (R113, R127, R128,
R434, R436, R442, R449, R520, R521) -/
def Obligations.RequestsFromOtherPackages : Prop :=
  (∀ (s : State) (p vc : Nat), s.front p vc = none →
    exec (.rowWrite p vc) s = .next s ∧ exec (.rowRead p vc) s = .next s ∧ exec (.tokenSignal p vc) s = .next s ∧
    exec (.barrierArrive p vc) s = .next s ∧ exec (.barrierRelease p vc) s = .next s ∧ exec (.parcel p vc) s = .next s ∧
    exec (.parcelUnblock p vc) s = .next s ∧ exec (.ack p vc) s = .next s ∧ exec (.readData p vc) s = .next s ∧
    exec (.refuse p vc) s = .next s ∧ exec (.parcelAck p vc) s = .next s) ∧
  (∀ (s t : State) (p vc k row : Nat) (tx : List Byte), s.takeTx p vc 0x01 = some (tx, t) → txRow tx = (k, row) →
    (∀ w u bad, t.windowCheck k (txKey tx) (txSrc tx) (some row) 0 true = .inl w → t.portCheck p = (u, bad) →
      exec (.rowWrite p vc) s = .next (if bad = true then u.parityOwner k row w.job
        else (((u.accessRow k row true 6 none).1).writeRow k row (tx.drop 16)).reply (t.jobRow w.job) tx 0x81 [])) ∧
    (∀ r, t.windowCheck k (txKey tx) (txSrc tx) (some row) 0 true = .inr r →
      exec (.rowWrite p vc) s = .next (t.dropTx k tx r row))) ∧
  (∀ (s t : State) (p vc k row : Nat) (tx : List Byte), s.takeTx p vc 0x02 = some (tx, t) → txRow tx = (k, row) →
    (∀ w u bad, t.windowCheck k (txKey tx) (txSrc tx) (some row) 0 false = .inl w → t.portCheck p = (u, bad) →
      exec (.rowRead p vc) s = .next (if t.parityBad k row = true ∨ bad = true then (u.pathMet k row).parityOwner k row w.job
        else ((u.accessRow k row false 6 none).1).reply (t.jobRow w.job) tx 0x82 (t.readRow k row))) ∧
    (∀ r, t.windowCheck k (txKey tx) (txSrc tx) (some row) 0 false = .inr r →
      exec (.rowRead p vc) s = .next (t.dropTx k tx r row))) ∧
  (∀ (s t : State) (p vc id : Nat) (tx : List Byte), s.takeTx p vc 0x03 = some (tx, t) → id = bitsOf (txTarget tx) 0 16 →
    (∀ w, t.windowCheck (tokenHome id) (txKey tx) (txSrc tx) none id true = .inl w → exec (.tokenSignal p vc) s = .next
      ((t.arrive id (bitsOf (txTarget tx) 16 16)).reply (t.jobRow w.job) tx 0x81 [])) ∧
    (∀ r, t.windowCheck (tokenHome id) (txKey tx) (txSrc tx) none id true = .inr r →
      exec (.tokenSignal p vc) s = .next (t.dropTx (tokenHome id) tx r 0))) ∧
  (∀ (s : State) (p : Nat), (∀ x ∈ s.pathFaults, x ≠ 64 * Config.rows + 400 + p) → s.portCheck p = (s, false)) ∧
  (∀ (s : State) (p : Nat), 64 * Config.rows + 400 + p ∈ s.pathFaults →
    (s.portCheck p).2 = true ∧ 64 * Config.rows + 400 + p ∉ (s.portCheck p).1.pathFaults)

/-- An arrival at the master of a valid barrier from a member is recorded once and releases when complete; a release
of the current generation signals and advances it, another is ignored. A relay token's signal acts, or a bad one is a
job fault. A parcel lands where it fits, or is reported where its data fails parity, is dropped with a reason or
refused, or blocks its channel with BACKPRESSURE until it fits. (R440, R442, R449, R450) -/
def Obligations.BarriersRelaysAndParcels : Prop :=
  (∀ (s t : State) (p vc n : Nat) (f tx : List Byte) (a : Nat × (Nat × Nat)), s.front p vc = some f → txArg f = 0 →
    s.takeTx p vc 0x04 = some (tx, t) → n = bitsOf (txTarget tx) 0 4 → a = (n, (bitsOf (txTarget tx) 16 16, txSrc tx)) →
    exec (.barrierRelease p vc) s = .next s ∧
    ((t.barrier n).valid = false ∨ (t.barrier n).master ≠ t.pkg ∨ (t.barrier n).members / 2 ^ txSrc tx % 2 = 0 ∨
        a ∈ t.iwl.arrivals → exec (.barrierArrive p vc) s = .next t) ∧
    ((t.barrier n).valid = true → (t.barrier n).master = t.pkg → (t.barrier n).members / 2 ^ txSrc tx % 2 = 1 →
      a ∉ t.iwl.arrivals → exec (.barrierArrive p vc) s = .next
        (State.releaseBarrier { t with iwl := { t.iwl with arrivals := t.iwl.arrivals ++ [a] } } n (t.iwl.arrivals.length + 1)))) ∧
  (∀ (s t : State) (p vc n g : Nat) (f tx : List Byte), s.front p vc = some f → txArg f ≠ 0 →
    s.takeTx p vc 0x04 = some (tx, t) → n = bitsOf (txTarget tx) 0 4 → g = Sparse.get 0 t.iwl.gens n →
    exec (.barrierArrive p vc) s = .next s ∧
    (bitsOf (txTarget tx) 16 16 ≠ g → exec (.barrierRelease p vc) s = .next t) ∧
    (bitsOf (txTarget tx) 16 16 = g → (t.barrier n).valid = true → exec (.barrierRelease p vc) s = .next
      (State.signal { t with iwl := { t.iwl with gens := Sparse.put 0 t.iwl.gens n ((g + 1) % 65536) } }
        (t.barrier n).release 1))) ∧
  (∀ (s t : State) (k i id amount : Nat) (r : Relay) (e : Nat × Nat), id = k * 1024 + i → e = (id, amount) →
    s.iwl.relays.find? (fun p => p.1 == id) = some e → t = { s with iwl := { s.iwl with relays := s.iwl.relays.erase e } } →
    r = t.relayEntry (k * 16 + (i - 1008)) →
    (t.relayOk r (((t.token id).owner).getD 0) amount = true → exec (.relaySignal k i) s = .next (t.relayAct r amount)) ∧
    (t.relayOk r (((t.token id).owner).getD 0) amount = false → exec (.relaySignal k i) s = .next
      ((t.raiseIwl Flg.IWL_EVT_RELAY_BAD 6).jobFault 0x0204 (((t.token id).owner).getD 0) 72).settle)) ∧
  (∀ (s : State) (k i : Nat), s.iwl.relays.find? (fun p => p.1 == k * 1024 + i) = none →
    exec (.relaySignal k i) s = .next s) ∧
  (∀ (s t : State) (p vc : Nat) (f tx : List Byte), s.front p vc = some f → txType f = 0x05 → txDst f = s.pkg →
    s.takeTx p vc 0x05 = some (tx, t) →
    ∃ u, (vc ∉ (s.port p).blocked → exec (.parcel p vc) s = .next u ∧ exec (.parcelUnblock p vc) s = .next s) ∧
      (vc ∈ (s.port p).blocked → exec (.parcelUnblock p vc) s = .next u ∧ exec (.parcel p vc) s = .next s) ∧
      (s.parcelInbox f = none → u = t.refuse tx 7) ∧
      (∀ n, s.parcelInbox f = some n →
        (∀ r, s.parcelRefused n f = some r → u = t.dropTx (s.get Fld.IWL_INBOX_CFG_SKEIN n) tx r.1 r.2) ∧
        (∀ v bad, s.parcelRefused n f = none → s.parcelFits n (txArg f) = true → t.portCheck p = (v, bad) →
          u = if bad = true then v.parityOwner (s.get Fld.IWL_INBOX_CFG_SKEIN n)
              (s.get Fld.IWL_INBOX_CFG_FIRST_ROW n + (s.inbox n).tail % s.inboxCap n) (s.get Fld.IWL_INBOX_TOKENS_JOB n)
            else v.landParcel n tx) ∧
        (s.parcelRefused n f = none → s.parcelFits n (txArg f) = false →
          (vc ∈ (s.port p).blocked → u = s) ∧
          (vc ∉ (s.port p).blocked → u = (s.modPort p (fun x => { x with blocked := x.blocked ++ [vc] })).raiseIwl
            Flg.IWL_EVT_BACKPRESSURE p))))

/-- A reply that answers no request sets LATE_REPLY. An ACK or row data ends its request and advances the MOVE or
batch, a refusal ends it with LINK_DOWN or a window violation, a parcel ACK counts its batch down, whose last signals
DONE. A request not exempt times out with REMOTE_TIMEOUT after its limit and not before. (R128, R409, R431, R435,
R436, R449) -/
def Obligations.RepliesReachTheirRequests : Prop :=
  (∀ (s t : State) (p vc : Nat) (tx : List Byte), t.req? (txXid tx) = none →
    (s.takeTx p vc 0x81 = some (tx, t) → exec (.ack p vc) s = .next (t.raiseIwl Flg.IWL_EVT_LATE_REPLY p)) ∧
    (s.takeTx p vc 0x82 = some (tx, t) → exec (.readData p vc) s = .next (t.raiseIwl Flg.IWL_EVT_LATE_REPLY p)) ∧
    (s.takeTx p vc 0x83 = some (tx, t) → exec (.refuse p vc) s = .next (t.raiseIwl Flg.IWL_EVT_LATE_REPLY p)) ∧
    (s.takeTx p vc 0x84 = some (tx, t) → exec (.parcelAck p vc) s = .next (t.raiseIwl Flg.IWL_EVT_LATE_REPLY p))) ∧
  (∀ (s t : State) (p vc : Nat) (tx : List Byte) (r : Req), t.req? (txXid tx) = some r →
    (∀ uid, s.takeTx p vc 0x81 = some (tx, t) → r.expect = .write uid →
      exec (.ack p vc) s = .next ((t.dropReq r.xid).moveAnswered uid)) ∧
    (∀ id b, s.takeTx p vc 0x81 = some (tx, t) → r.expect = .batch id b →
      exec (.ack p vc) s = .next ((t.dropReq r.xid).batchAnswered id)) ∧
    (∀ uid i, s.takeTx p vc 0x82 = some (tx, t) → r.expect = .read uid i →
      exec (.readData p vc) s = .next ((t.dropReq r.xid).moveArrived uid i (tx.drop 16))) ∧
    (s.takeTx p vc 0x83 = some (tx, t) → exec (.refuse p vc) s = .next
      ((t.dropReq r.xid).endReq r (if txArg tx = 6 then 0x0502 else 0x0201)).settle) ∧
    (∀ id b, s.takeTx p vc 0x84 = some (tx, t) → r.expect = .batch id b →
      exec (.parcelAck p vc) s = .next ((t.dropReq r.xid).batchAnswered id))) ∧
  (∀ (s : State) (id : Nat) (b : DispBatch), s.iwl.batches.find? (fun b => b.id == id) = some b →
    (b.left ≤ 1 → s.batchAnswered id = State.signal { s with iwl := { s.iwl with
      batches := s.iwl.batches.filter (fun x => x.id != id) } } (s.get Fld.IWL_DISP_CFG_DONE_TOKEN b.disp) 1) ∧
    (1 < b.left → s.batchAnswered id = { s with iwl := { s.iwl with
      batches := s.iwl.batches.map (fun x => if x.id = id then { x with left := x.left - 1 } else x) } })) ∧
  (∀ (s : State) (xid : Nat), (s.req? xid = none → exec (.remoteTimeout xid) s = .next s) ∧
    (∀ r, s.req? xid = some r →
      (r.expect.exempt = true ∨ s.refTime < r.issued + s.get Fld.IWL_TIMEOUT_US 0 * Config.us →
        exec (.remoteTimeout xid) s = .next s) ∧
      (r.expect.exempt = false → r.issued + s.get Fld.IWL_TIMEOUT_US 0 * Config.us ≤ s.refTime →
        exec (.remoteTimeout xid) s = .next
          (((s.raiseIwl Flg.IWL_EVT_REMOTE_TIMEOUT r.port).dropReq xid).endReq r 0x0501).settle)))

/-- A bad mode is refused with CFG_REFUSED. A kick takes the head descriptor the MAC owns. A link change sets LINK_UP
and its flag. A free MAC starts the frame it chooses after the late ones are judged; a late one is noted and sent
late, or skipped with LAUNCH_LATE, and the entry behind it is judged in its turn; no lateness is judged while the
hub's time replica is unsynchronised; a sent one is written back with its stamp when its time has passed. A received
frame with an error, too long or of pause type sets its flag; one accepted is counted and stored. (R456, R458, R460,
R461, R463, R464, R478) -/
def Obligations.EthernetCommands : Prop :=
  (∀ (s : State) (m : Nat), s.setUp = true →
    (4 ≤ s.get Fld.ETH_CTRL_MODE m → s.isSet Fld.ETH_CTRL_EN m = false →
      exec (.ethEnable m true) s = .next (s.raise Flg.ETH_EVT_CFG_REFUSED m)) ∧
    (s.get Fld.ETH_CTRL_MODE m < 4 → exec (.ethEnable m true) s = .next (s.setBit Fld.ETH_CTRL_EN m true)) ∧
    exec (.ethEnable m false) s = .next ((s.setBit Fld.ETH_CTRL_EN m false).putMac m { s.mac m with head := none, late := [] }) ∧
    (s.macOn m = true → (s.mac m).sending = none → descOwn (s.load (s.txHead m) 32) = false →
      exec (.ethTxKick m) s = .next (s.putMac m { s.mac m with head := none })) ∧
    (s.macOn m = true → (s.mac m).sending = none → descOwn (s.load (s.txHead m) 32) = true →
      s.descBad m (s.load (s.txHead m) 32) = false →
      exec (.ethTxKick m) s = .next (s.putMac m { s.mac m with head := some (s.load (s.txHead m) 32) }))) ∧
  (∀ (s : State) (m rate : Nat) (up : Bool), s.macOn m = true → s.get Fld.ETH_CTRL_MODE m ≠ 3 →
    (s.isSet Fld.ETH_STATUS_LINK_UP m = up → exec (.ethLinkChange m up rate) s = .next s) ∧
    (s.isSet Fld.ETH_STATUS_LINK_UP m ≠ up → exec (.ethLinkChange m up rate) s = .next
      ((s.setBit Fld.ETH_STATUS_LINK_UP m up).raise Flg.ETH_EVT_LINK_CHANGE m))) ∧
  (∀ (s : State) (m : Nat), s.macOn m = true → s.macRate m ≠ 0 → (s.mac m).sending = none →
    (∃ t, t = s.ethLate m 1 ∧ (t.ethChoice m = none → exec (.ethTxStart m) s = .next t) ∧
      (∀ q, t.ethChoice m = some q → exec (.ethTxStart m) s = .next (t.ethStart m q))) ∧
    (s.macReqs m = [] → exec (.ethTxLate m) s = .next s ∧ exec (.ethTxStart m) s = .next s) ∧
    (s.hubSynced = false → exec (.ethTxLate m) s = .next s)) ∧
  (∀ (s : State) (m : Nat) (d : List Byte), s.macOn m = true → (s.mac m).head = some d → (s.mac m).sending = none →
    (∀ j < 4, Sparse.find s.flyer.slots (4 * (8 + m) + j) = none) → (s.mac m).late = [] → descLaunch d ≠ 0 → s.dev ≠ .safe →
    descLaunch d + s.get Fld.ETH_TX_CFG_LATE_TOL m ≤ s.now → s.hubSynced = true →
    (descSkip d = false → exec (.ethTxLate m) s = .next ((s.raise Flg.ETH_EVT_TX_LATE m).putMac m { s.mac m with late := [4] })) ∧
    (descSkip d = true → ∃ r t, r = s.raise Flg.ETH_EVT_TX_LATE m ∧ t = (r.txBack m (r.txHead m) 0x0401 0).txNext m ∧
      exec (.ethTxLate m) s = .next ((t.ethJudgeAll m 0 (2 ^ s.get Fld.ETH_TX_CFG_LOG2 m + 4)).ethSafeBack m
        (2 ^ s.get Fld.ETH_TX_CFG_LOG2 m + 5)) ∧
      ((t.macReqs m).find? (t.ethOverdue m 0) = none → t.ringHead m = none ∨ t.dev ≠ .safe →
        exec (.ethTxLate m) s = .next t))) ∧
  (∀ (s t : State) (m : Nat) (x : EthSend), (s.mac m).sending = some x →
    t = (((s.putMac m { s.mac m with sending := none }).set Fld.ETH_STATUS_TX_ACTIVE m 0).accum
        Fld.ETH_TX_BYTES_BYTES m x.frame.length) →
    (s.refTime < x.began + x.ticks → exec (.ethTxDone m) s = .next s) ∧
    (x.began + x.ticks ≤ s.refTime →
      (x.slot = none → exec (.ethTxDone m) s = .next
        ((t.txBack m x.entry (if x.late = true then 0x0401 else 0) x.stamp).txNext m)) ∧
      (x.slot ≠ none → exec (.ethTxDone m) s = .next t))) ∧
  (∀ (s : State) (m sfd : Nat) (f : List Byte), s.macOn m = true →
    exec (.ethRxFrame m f false sfd) s = .next (s.raise Flg.ETH_EVT_RX_ERR m) ∧
    (s.get Fld.ETH_CTRL_MAX_LEN m < f.length + 4 → exec (.ethRxFrame m f true sfd) s = .next (s.raise Flg.ETH_EVT_RX_ERR m)) ∧
    (f.length + 4 ≤ s.get Fld.ETH_CTRL_MAX_LEN m →
      (framePause f = true → exec (.ethRxFrame m f true sfd) s = .next (s.raise Flg.ETH_EVT_PAUSE_RX m)) ∧
      (framePause f = false → s.ethAccepts m f = false → exec (.ethRxFrame m f true sfd) s = .next s) ∧
      (framePause f = false → s.ethAccepts m f = true → exec (.ethRxFrame m f true sfd) s = .next
        ((s.accum Fld.ETH_RX_BYTES_BYTES m (f.length + 4)).ethStore m f sfd))))

/-- ENABLE with illegal rates is refused, otherwise it clears the indices, counters and state and enables; DISABLE
takes effect at once, with a frame that is being received allowed to end, or after the attempt. A tail or acknowledge
write within its bound moves the index, any other sets IDX_INVALID. Integration sets SYNCED of an enabled controller
that is not bus-off. (R483, R484, R486, R487) -/
def Obligations.CanSetUpAndIndices : Prop :=
  (∀ (s : State) (n v : Nat), s.setUp = true →
    (s.isSet Fld.CAN_CTRL_EN n = true → exec (.canEnable n) s = .next s) ∧
    (s.isSet Fld.CAN_CTRL_EN n = false → s.canRates n = false →
      exec (.canEnable n) s = .next (s.raise Flg.CAN_EVT_CFG_REFUSED n)) ∧
    (s.isSet Fld.CAN_CTRL_EN n = false → s.canRates n = true →
      ∃ t, t = s.forEach [Fld.CAN_TX_TAIL_INDEX, Fld.CAN_TX_DONE_INDEX, Fld.CAN_TX_ACK_INDEX, Fld.CAN_RX_TAIL_INDEX,
          Fld.CAN_RX_ACK_INDEX, Fld.CAN_STATUS_SYNCED, Fld.CAN_STATUS_TEC, Fld.CAN_STATUS_REC, Fld.CAN_STATUS_ERR_STATE]
          (fun t f => t.set f n 0) ∧
        exec (.canEnable n) s = .next ((t.putCan n { t.can n with
          attempt := (t.can n).attempt.map (fun a => { a with src := 5 }), ending := none }).set Fld.CAN_CTRL_EN n 1)) ∧
    ((s.can n).attempt = none →
      exec (.canDisable n) s = .next
        (((s.doIf (s.canLive n) fun s => s.putCan n { s.can n with ending := some s.now }).set Fld.CAN_CTRL_EN n 0).set
          Fld.CAN_STATUS_SYNCED n 0)) ∧
    ((s.can n).attempt ≠ none → exec (.canDisable n) s = .next (s.set Fld.CAN_CTRL_EN n 0)) ∧
    exec (.canTxTailWrite n v) s = .next (
      if indexGap v (s.get Fld.CAN_TX_TAIL_INDEX n) (s.canTxSize n) ≤
        s.canTxSize n - 1 - indexGap (s.get Fld.CAN_TX_TAIL_INDEX n) (s.get Fld.CAN_TX_ACK_INDEX n) (s.canTxSize n) then
        (s.set Fld.CAN_TX_TAIL_INDEX n (v % s.canTxSize n)).canNext n
      else s.raise Flg.CAN_EVT_IDX_INVALID n) ∧
    exec (.canTxAckWrite n v) s = .next (
      if indexGap v (s.get Fld.CAN_TX_ACK_INDEX n) (s.canTxSize n) ≤
        indexGap (s.get Fld.CAN_TX_DONE_INDEX n) (s.get Fld.CAN_TX_ACK_INDEX n) (s.canTxSize n) then
        s.set Fld.CAN_TX_ACK_INDEX n (v % s.canTxSize n)
      else s.raise Flg.CAN_EVT_IDX_INVALID n) ∧
    exec (.canRxAckWrite n v) s = .next (
      if indexGap v (s.get Fld.CAN_RX_ACK_INDEX n) (s.canRxSize n) ≤
        indexGap (s.get Fld.CAN_RX_TAIL_INDEX n) (s.get Fld.CAN_RX_ACK_INDEX n) (s.canRxSize n) then
        s.set Fld.CAN_RX_ACK_INDEX n (v % s.canRxSize n)
      else s.raise Flg.CAN_EVT_IDX_INVALID n)) ∧
  (∀ (s : State) (n : Nat), s.canOn n = true → s.isSet Fld.CAN_STATUS_SYNCED n = false →
    s.get Fld.CAN_STATUS_ERR_STATE n ≠ 2 →
    exec (.canBusIntegrated n) s = .next ((s.set Fld.CAN_STATUS_SYNCED n 1).canNext n)) ∧
  (∀ (s : State) (n : Nat), s.canHead n = none → s.canNext n = s) ∧
  (∀ (s : State) (n : Nat) (h : List Byte), s.canHead n = some h → s.canEntryBad n h = false → s.canNext n = s) ∧
  (∀ (s : State) (n : Nat), s.canOn n = false → exec (.canBusIntegrated n) s = .next s)

/-- A live controller that is not a monitor attempts the entry it chooses; lost arbitration is counted and tried
again; a late entry with SKIP is written back with LAUNCH_LATE and the entry behind it is judged in its turn (none is
judged while the hub's time replica is unsynchronised); a sent one with OK, its stamp and its whole frame. Protocol
errors move the counters by amounts that ISO 11898-1 allows, and no others, and the state at 128 and 256; recovery
clears them. A frame that matches a filter, of a live controller or one that was on the bus when EN was written 0, is
stored with its stamp, or lost with TOO_LONG or OVERRUN. (R480, R483, R484, R487, R489, R490, R491, R492) -/
def Obligations.CanTrafficAndErrors : Prop :=
  (∀ (s : State) (n : Nat), s.canLive n = true →
    (s.canReqs n = [] → exec (.canTxLate n) s = .next s ∧ exec (.canTxAttempt n) s = .next s) ∧
    (s.hubSynced = false → exec (.canTxLate n) s = .next s) ∧
    (s.isSet Fld.CAN_CTRL_MON n = true ∨ (s.can n).attempt ≠ none → exec (.canTxAttempt n) s = .next s) ∧
    (s.isSet Fld.CAN_CTRL_MON n = false → (s.can n).attempt = none → ∃ t, t = s.canLate n 1 ∧
      (t.canChoice n = none → exec (.canTxAttempt n) s = .next t) ∧
      (∀ q, t.canChoice n = some q → exec (.canTxAttempt n) s = .next (t.canStart n q)))) ∧
  (∀ (s : State) (n : Nat) (q : TxReq), s.canLive n = true → s.canReqs n = [q] → q.src = 4 → q.launch ≠ 0 → q.skip = true →
    q.launch + s.get Fld.CAN_TX_CFG_LATE_TOL n ≤ s.now → s.hubSynced = true → ∃ t, t = ((s.canBack n (s.canDoneAddr n) 0x0401 0).raise Flg.CAN_EVT_TX_LATE n).canNext n ∧
    exec (.canTxLate n) s = .next ((t.canJudgeAll n 0 (s.canTxSize n + 4)).canSafeBack n (s.canTxSize n + 5)) ∧
    ((t.canReqs n).find? (t.canOverdue n 0) = none → t.dev ≠ .safe → exec (.canTxLate n) s = .next t)) ∧
  (∀ (s : State) (n : Nat) (a : Attempt), s.ioOn = true → (s.can n).attempt = some a →
    exec (.canArbLost n) s = .next
      (((s.count Fld.CAN_CNT_ARB_LOST_COUNT n 1).putCan n { s.can n with attempt := none }).canStop n)) ∧
  (∀ (s : State) (n : Nat), (s.can n).attempt = none →
    exec (.canArbLost n) s = .next s ∧ exec (.canTxDone n) s = .next s) ∧
  (∀ (s : State) (n tec rxc : Nat), s.canLive n = true →
    (s.canRises n tec rxc = true → exec (.canProtocolError n tec rxc) s = .next
      ((((s.raise Flg.CAN_EVT_PROTO_ERR n).canErrors n tec rxc).canFail n).canEnded n)) ∧
    (s.canRises n tec rxc = false → exec (.canProtocolError n tec rxc) s = .next s)) ∧
  (∀ (s t : State) (n tec rxc : Nat), t = ((s.set Fld.CAN_STATUS_TEC n (min tec 255)).set Fld.CAN_STATUS_REC n (min rxc 255)) →
    (tec < 128 → rxc < 128 → s.canErrors n tec rxc = t.set Fld.CAN_STATUS_ERR_STATE n 0) ∧
    (tec < 256 → 128 ≤ tec ∨ 128 ≤ rxc → s.get Fld.CAN_STATUS_ERR_STATE n ≠ 1 → s.canErrors n tec rxc =
      (t.set Fld.CAN_STATUS_ERR_STATE n 1).raise Flg.CAN_EVT_ERR_PASSIVE n) ∧
    (256 ≤ tec → s.get Fld.CAN_STATUS_ERR_STATE n ≠ 2 → s.canErrors n tec rxc =
      ((t.set Fld.CAN_STATUS_ERR_STATE n 2).set Fld.CAN_STATUS_SYNCED n 0).raise Flg.CAN_EVT_BUS_OFF n)) ∧
  (∀ (s : State) (n : Nat), s.canOn n = true → s.isSet Fld.CAN_CTRL_AUTO_RECOVER n = true →
    s.get Fld.CAN_STATUS_ERR_STATE n = 2 → exec (.canBusOffRecovery n) s = .next
      ((((s.canErrors n 0 0).set Fld.CAN_STATUS_SYNCED n 1).canNext n).canLate n 0)) ∧
  (∀ (s : State) (n : Nat) (a : Attempt) (h : List Byte), s.ioOn = true → (s.can n).attempt = some a → a.src = 4 →
    h = s.load a.entry 32 → hdrLaunch h = 0 → exec (.canTxDone n) s = .next ((((((s.putCan n { s.can n with
      attempt := none, sent := some (txFrame h (s.load (a.entry + 32) (hdrLen h))) }).canBack n a.entry 0
      a.stamp).canSentOk n).canNext n).canStop n))) ∧
  (∀ (s t : State) (n sof : Nat) (f : CanFrame), s.canLive n = true ∨ s.canEnds n sof = true → s.canFormat n f.format = true →
    lenLegal f.format f.len = true → t = (s.canHeardOk n).canEnded n →
    (t.canMatch n f = none → exec (.canRxFrame n f sof) s = .next t) ∧
    (∀ i, t.canMatch n f = some i →
      ((if t.isSet Fld.CAN_RX_CFG_BIG n = true then 2048 else 64) < f.len →
        exec (.canRxFrame n f sof) s = .next (t.raise Flg.CAN_EVT_RX_TOO_LONG n)) ∧
      (f.len ≤ (if t.isSet Fld.CAN_RX_CFG_BIG n = true then 2048 else 64) →
        (t.get Fld.CAN_RX_TAIL_INDEX n + 1) % t.canRxSize n = t.get Fld.CAN_RX_ACK_INDEX n →
        exec (.canRxFrame n f sof) s = .next (t.raise Flg.CAN_EVT_RX_OVERRUN n)) ∧
      (f.len ≤ (if t.isSet Fld.CAN_RX_CFG_BIG n = true then 2048 else 64) →
        (t.get Fld.CAN_RX_TAIL_INDEX n + 1) % t.canRxSize n ≠ t.get Fld.CAN_RX_ACK_INDEX n →
        exec (.canRxFrame n f sof) s = .next (((t.store (t.canRxAddr n (t.get Fld.CAN_RX_TAIL_INDEX n))
          (canEntry f i ((sof + 2 ^ 64 - t.get Fld.CAN_PHY_LAT_RX n) % 2 ^ 64))).set Fld.CAN_RX_TAIL_INDEX n
          ((t.get Fld.CAN_RX_TAIL_INDEX n + 1) % t.canRxSize n)).raiseSource (24 + n)))))

/-- A mismatch is a Selvedge fault where the Selvedge runs. A Selvedge fault records its kind, status, source and time
and enters SAFE from STANDBY, RUN or the beat in which SLEEP was entered. A hang is taken only of a command that has
run for SELV_CTRL.HANG_US: of a package engine it is a Selvedge fault; of a skein engine it ends the command with
ENGINE_HANG, makes the skein suspect (for a ply engine the first of its hank) and is a job fault. A skein past DTI
warns once, past twice DTI is a Selvedge fault. (R30, R515, R518, R535, R540) -/
def Obligations.SelvedgeEvents : Prop :=
  (∀ s : State, (s.selv.on = false → exec .lockstepMismatch s = .next s) ∧
    (s.selv.on = true → exec .lockstepMismatch s = .next ((s.raise Flg.SELV_EVT_LOCKSTEP 0).selvFault 1 0 73))) ∧
  (∀ (s t : State) (kind status source : Nat), t = ((((s.set Fld.SELV_FAULT_CAP_STATUS 0 status).set
      Fld.SELV_FAULT_CAP_KIND 0 kind).set Fld.SELV_FAULT_CAP_SOURCE 0 source).set Fld.SELV_FAULT_TIME_TIME 0 s.now).set
      Fld.SELV_STATUS_FAULT_ACTIVE 0 1 →
    (s.dev = .standby ∨ s.dev = .run ∨ s.sleeping = true → s.selvFault kind status source = t.enterSafe status source) ∧
    (s.dev ≠ .standby → s.dev ≠ .run → s.sleeping = false → s.selvFault kind status source = t)) ∧
  (∀ (s : State) (uid : Nat) (c : Cmd), s.cmd? uid = some c →
    (c.phase ≠ .running ∨ s.refTime < c.since + s.get Fld.SELV_CTRL_HANG_US 0 * Config.us →
      exec (.engineHang uid) s = .next s) ∧
    (c.phase = .running → c.since + s.get Fld.SELV_CTRL_HANG_US 0 * Config.us ≤ s.refTime → s.dev = .standby ∨ s.dev = .run →
      (c.engine.hangSource = 72 → exec (.engineHang uid) s = .next ((s.raise Flg.SELV_EVT_HANG 0).selvFault 5 0x0605 72)) ∧
      (c.engine.hangSource < 64 → exec (.engineHang uid) s = .next ((((((s.raise Flg.SELV_EVT_HANG 0).cutShort c 0x0605).makeSuspect
        c.engine.hangSource).jobFault 0x0605 c.job c.engine.hangSource).settle))) ∧
      (64 ≤ c.engine.hangSource → c.engine.hangSource ≠ 72 → exec (.engineHang uid) s = .next
        ((((((s.raise Flg.SELV_EVT_HANG 0).cutShort c 0x0605).makeSuspect (8 * (c.engine.hangSource - 64))).jobFault
          0x0605 c.job c.engine.hangSource).settle))))) ∧
  (∀ (s : State) (k : Nat), (s.overdue k = false ∨ k ∈ s.selv.warned → exec (.dtiExceeded k) s = .next s) ∧
    (s.dev = .run ∨ s.dev = .safe → s.overdue k = true → k ∉ s.selv.warned → ∃ t, t = s.raise Flg.SELV_EVT_DTI_EXCEEDED 0 ∧
      exec (.dtiExceeded k) s = .next
        (State.startOverdue { t with selv := { t.selv with warned := t.selv.warned ++ [k] } })) ∧
    (s.uncovered k ≤ 2 * s.dti ∨ k ∈ s.selv.faulted → exec (.dtiFault k) s = .next s) ∧
    (s.dev = .run ∨ s.dev = .safe → s.live k = true → 2 * s.dti < s.uncovered k → k ∉ s.selv.faulted →
      exec (.dtiFault k) s = .next
        (State.selvFault { s with selv := { s.selv with faulted := s.selv.faulted ++ [k] } } 2 0x0603 k)))

/-- A pair write equal to what is held changes nothing, one while its jobs are not in CONFIG or not allowed is
refused, any other is taken. A tile over in both copies is judged by its digests, one alone at the time limit is a
mismatch. A first mismatch in a frame is recorded, counted and flagged, and within 100 frames of the last escalates
and makes both skeins suspect. A frame that ends is recorded, and the third good one after a mismatch is TRANSIENT.
(R527, R529, R530, R531, R533) -/
def Obligations.PairedExecution : Prop :=
  (∀ (s : State) (p v : Nat), s.setUp = true →
    (PairCfg.ofValue v = s.pairCfg p → exec (.pairValidWrite p v) s = .next s) ∧
    (PairCfg.ofValue v ≠ s.pairCfg p → s.pairConfig p = false ∨
        ((PairCfg.ofValue v).valid = true ∧ s.pairOk p (PairCfg.ofValue v) = false) →
      exec (.pairValidWrite p v) s = .next (s.raise Flg.SELV_EVT_CFG_REFUSED 0)) ∧
    (PairCfg.ofValue v ≠ s.pairCfg p → s.pairConfig p = true →
      ((PairCfg.ofValue v).valid = true → s.pairOk p (PairCfg.ofValue v) = true) →
      exec (.pairValidWrite p v) s = .next (s.setPair p (PairCfg.ofValue v)))) ∧
  (∀ (s : State) (p : Nat) (x : Pair), x = s.pair p →
    (x.tiles.find? (s.tileBoth x) = none → exec (.pairDecision p) s = .next s) ∧
    (∀ t u a b, x.tiles.find? (s.tileBoth x) = some t → s.tileOver t = some a → x.tile t.engine t.ordinal false = some u →
      s.tileOver u = some b →
      exec (.pairDecision p) s = .next (s.verdictOn p t (s.tileDigest a == s.tileDigest b)))) ∧
  (∀ (s : State) (p : Nat) (x : Pair), x = s.pair p →
    (s.pairHalted p = true ∨ x.tiles.find? (s.tileLone x) = none → exec (.pairTimeout p) s = .next s) ∧
    (∀ t, s.pairHalted p = false → x.tiles.find? (s.tileLone x) = some t → exec (.pairTimeout p) s = .next (s.verdictOn p t false))) ∧
  (∀ (s : State) (p frame main check : Nat), (frame ∈ (s.pair p).bad → s.mismatch p frame main check = s) ∧
    (frame ∉ (s.pair p).bad → ∃ t, t = ((((s.withholdFreed p frame).modPair p (fun x => { x with
          bad := x.bad ++ [frame], watch := some (frame, 0) })).set
        Fld.SELV_PAIR_MISMATCH_FRAME_FRAME p frame).count Fld.SELV_PAIR_CNT_MISMATCH_COUNT p 1).raise
        Flg.SELV_EVT_FRAME_MISMATCH 0 ∧
      ((s.pair p).watch = none → s.mismatch p frame main check = t) ∧
      (∀ f1 n, (s.pair p).watch = some (f1, n) → f1 + 100 < frame → s.mismatch p frame main check = t) ∧
      (∀ f1 n, (s.pair p).watch = some (f1, n) → frame ≤ f1 + 100 → s.mismatch p frame main check =
        (((t.raise Flg.SELV_EVT_ESCALATED 0).count Fld.SELV_PAIR_CNT_ESCALATE_COUNT p 1).makeSuspect main).makeSuspect
          check))) ∧
  (∀ (s : State) (p : Nat) (x : Pair), x = s.pair p →
    (x.frames.find? (s.frameOver x) = none → exec (.pairFrameEnd p) s = .next s) ∧
    (∀ f t, x.frames.find? (s.frameOver x) = some f → t = (s.modPair p (fun x => { x with frames := x.frames.filter (fun g => g != f) })).set
        Fld.SELV_PAIR_FRAME_FRAME p f →
      (f ∈ x.bad ∨ x.watch = none → exec (.pairFrameEnd p) s = .next t) ∧
      (∀ f1 n, f ∉ x.bad → x.watch = some (f1, n) → f1 < f → n < 2 → exec (.pairFrameEnd p) s = .next
        (t.modPair p (fun x => { x with watch := some (f1, n + 1) }))) ∧
      (∀ f1, f ∉ x.bad → x.watch = some (f1, 2) → f1 < f → exec (.pairFrameEnd p) s = .next
        (((t.modPair p (fun x => { x with watch := some (f1, 3) })).raise Flg.SELV_EVT_TRANSIENT 0).count
          Fld.SELV_PAIR_CNT_TRANSIENT_COUNT p 1))))

/-- A command that SEC_CMD issues in SAFE, or one of image, version or debug token in RUN, takes WRONG_STATE as its
result at its issue; the others are issued to run; while BUSY is set a write is refused. One with a result, and none
running, changes nothing; a finished one reports its status and value with CMD_DONE. The challenge is a fresh free
value, a bad token fails and the third raises tamper. UPDATE writes a valid image above its floor into the other slot;
ACTIVATE writes the next header, or either is rejected. (R560, R568, R573, R574) -/
def Obligations.SecurityCommandsRun : Prop :=
  ((∀ (s t : State) (op v : Nat), s.isSet Fld.SEC_STATUS_BUSY 0 = false → op = v % 256 → t = s.setAll
      [(Fld.SEC_CMD_OP, 0, op), (Fld.SEC_CMD_TYPE, 0, v / 256 % 256), (Fld.SEC_CMD_ID, 0, v / 65536 % 65536), (Fld.SEC_STATUS_BUSY, 0, 1)] →
    1 ≤ op → op ≤ 11 →
    (s.dev = .safe → op ≤ 10 → s.secCmd v = { t with sec := { t.sec with running := some ⟨op, some (0x0706, 0)⟩ } }) ∧
    (s.dev = .run → op = 5 ∨ op = 6 ∨ op = 7 ∨ op = 9 ∨ op = 10 →
      s.secCmd v = { t with sec := { t.sec with running := some ⟨op, some (0x0706, 0)⟩ } }) ∧
    (s.dev = .run → op = 1 ∨ op = 2 ∨ op = 3 ∨ op = 4 ∨ op = 8 →
      s.secCmd v = { t with sec := { t.sec with running := some ⟨op, none⟩ } }) ∧
    (s.dev = .standby → op ≤ 10 → s.secCmd v = { t with sec := { t.sec with running := some ⟨op, none⟩ } })) ∧
  (∀ (s : State) (v : Nat), s.isSet Fld.SEC_STATUS_BUSY 0 = true → s.secCmd v = s.raise Flg.SEC_EVT_CMD_REFUSED 0) ∧
  (∀ (s : State) (op : Nat) (x : Nat × Nat), s.sec.running = some ⟨op, some x⟩ → exec .jnlRead s = .next s ∧ exec .jnlWrite s = .next s ∧
    exec .jnlDelete s = .next s ∧ exec .ctrInc s = .next s ∧ exec .update s = .next s ∧ exec .activate s = .next s ∧
    exec .commitVersion s = .next s ∧ exec .attest s = .next s ∧ exec .debugChallenge s = .next s ∧
    exec .debugUnlock s = .next s ∧ exec .debugLock s = .next s) ∧
  (∀ s : State, s.sec.running = none → exec .jnlRead s = .next s ∧ exec .jnlWrite s = .next s ∧ exec .jnlDelete s = .next s ∧
    exec .ctrInc s = .next s ∧ exec .update s = .next s ∧ exec .activate s = .next s ∧ exec .commitVersion s = .next s ∧
    exec .attest s = .next s ∧ exec .debugChallenge s = .next s ∧ exec .debugUnlock s = .next s ∧ exec .debugLock s = .next s ∧
    exec .secCommandDone s = .next s) ∧
  (∀ (s : State) (op status value : Nat), s.sec.running = some ⟨op, some (status, value)⟩ →
    exec .secCommandDone s = .next (State.raise
      { s.setAll [(Fld.SEC_RESULT_STATUS, 0, status), (Fld.SEC_RESULT_OP, 0, op), (Fld.SEC_RESULT_VALUE_VALUE, 0, value),
          (Fld.SEC_STATUS_BUSY, 0, 0)] with sec := { s.sec with running := none, programming := none } } Flg.SEC_EVT_CMD_DONE 0)) ∧
  (∀ s : State, s.sec.running = some ⟨9, none⟩ → s.dev = .standby → exec .debugChallenge s = .next (State.secEnd
      { s with freeCount := s.freeCount + 1, sec := { s.sec with nonce := some (Config.freeWord s.freeCount).toNat } } 0
      (Config.freeWord s.freeCount).toNat)) ∧
  (∀ (s t : State) (n : Nat), s.sec.running = some ⟨10, none⟩ → s.dev = .standby →
    t = { s with sec := { s.sec with nonce := none } } → n = s.sec.failures + 1 →
    ∃ u, u = (State.raise { t with sec := { t.sec with failures := n } } Flg.SEC_EVT_DEBUG_FAIL 0).secEnd 0x0702 0 ∧
      exec .debugUnlock s = .next (
        if s.debugToken (s.load s.secAddr 128) = true then (t.set Fld.SEC_STATUS_DEBUG_LOCKED 0 0).secEnd 0 0
        else if n = 3 then u.tamper [3] else u)) ∧
  (∀ s : State, s.sec.running = some ⟨11, none⟩ → s.secWorks = true →
    exec .debugLock s = .next ((s.set Fld.SEC_STATUS_DEBUG_LOCKED 0 1).secEnd 0 0)) ∧
  (∀ s : State, s.sec.running = some ⟨8, none⟩ → s.dev = .run →
    (s.attestReady = false → exec .attest s = .next (s.secEnd 0x0707 0)) ∧
    (s.attestReady = true → exec .attest s = .next ((s.store (s.secAddr + 64) (s.quote (s.load s.secAddr 32))).secEnd 0 0)))) ∧
  ((∀ (s : State) (kind : Nat) (m image : List Byte), s.sec.running = some ⟨5, none⟩ → s.dev = .standby →
    m = s.load s.secAddr 256 → image = s.load s.secAddr (256 + manifestBody m) →
    (s.secType ≠ 1 → s.secType ≠ 2 → exec .update s = .next (s.secEnd 0x0702 0)) ∧
    (s.secType = kind + 1 → kind < 2 → exec .update s = .next (
      if s.secLen < 256 + manifestBody m ∨ manifestValid s.jnlNow kind m (image.drop 256) = false ∨
        manifestVersion m < s.secFloor kind then s.secEnd 0x0702 0
      else State.secEnd { s with
        mem := Mem.write (Mem.clear s.mem (slotAddr kind (1 - s.headerSlot kind)) (slotBytes kind))
          (slotAddr kind (1 - s.headerSlot kind)) image } 0 0))) ∧
  (∀ (s : State) (kind slot copy gen : Nat) (h : List Byte), s.sec.running = some ⟨6, none⟩ → s.dev = .standby →
    s.secType = kind + 1 → kind < 2 → slot = 1 - s.headerSlot kind →
    (s.headerNow s.sec.journalKey = none → copy = 0 ∧ gen = 1) →
    (∀ c, s.headerNow s.sec.journalKey = some c → copy = 1 - c ∧ gen = fieldOf (s.headerBytes c) 8 8 + 1) →
    h = headerOf s.sec.journalKey (if kind = 0 then slot else s.headerSlot 0) (if kind = 1 then slot else s.headerSlot 1) gen →
    exec .activate s = .next (
      if s.sec.journalKey = [] ∨ s.slotValid s.jnlNow kind slot = false ∨
        manifestVersion (s.slotManifest kind slot) < s.secFloor kind then s.secEnd 0x0702 0
      else State.secEnd { s with
        mem := Mem.write (Mem.clear s.mem (Mem.flash (copy * 0x4000)) 0x4000)
          (Mem.flash (copy * 0x4000)) (h ++ List.replicate (0x4000 - 128) 0) } 0 gen)))

/-- JNL_READ stores the latest payload or ends not found; JNL_WRITE with a bad type or length is BAD_FIELD, over the
live limit is full, otherwise appended; JNL_DELETE appends a DELETE record of a present object; CTR_INC appends the
next value of counters 4 to 15, which never falls; COMMIT_VERSION appends the floors it raises. Appends wait while
compaction runs and land when it ends; once the journal key is zeroised a compaction does not end. (R561, R563, R565,
R566, R567, R574) -/
def Obligations.JournalCommands : Prop :=
  (∀ s : State, s.sec.running = some ⟨1, none⟩ → s.dev = .run → exec .jnlRead s = .next (
    match jnlFind s.jnlNow s.secType s.secId with
    | none => s.secEnd 0x0705 0
    | some r => (s.store s.secAddr (r.payload.take s.secLen)).secEnd 0 (r.payload.take s.secLen).length)) ∧
  (∀ (s : State) (n : Nat) (r : JRecord), s.sec.running = some ⟨2, none⟩ → s.dev = .run → n = s.secLen →
    r = ⟨s.secType, 0, 0, s.secId, s.load s.secAddr n⟩ →
    (s.secType < 0x10 ∨ 0x12 < s.secType ∨ 65536 < n ∨ (s.secType = 0x12 ∧ n ≠ 388) →
      exec .jnlWrite s = .next (s.secEnd 0x0102 0)) ∧
    (0x10 ≤ s.secType → s.secType ≤ 0x12 → n ≤ 65536 → (s.secType = 0x12 → n = 388) → exec .jnlWrite s = .next (
      if 1572864 < jnlBytes (jnlApply s.jnlNow r) then s.secEnd 0x0704 0
      else s.jnlAppend ⟨r.type, r.id, r.payload, true⟩))) ∧
  (∀ s : State, s.sec.running = some ⟨3, none⟩ → s.dev = .run →
    (s.secType < 0x10 ∨ 0x12 < s.secType → exec .jnlDelete s = .next (s.secEnd 0x0705 0)) ∧
    (0x10 ≤ s.secType → s.secType ≤ 0x12 → exec .jnlDelete s = .next (
      if jnlFind s.jnlNow s.secType s.secId = none then s.secEnd 0x0705 0
      else s.jnlAppend ⟨0x3F, s.jnlId 0x3F, leBytes 4 s.secType ++ leBytes 4 s.secId, true⟩))) ∧
  (∀ s : State, s.sec.running = some ⟨4, none⟩ → s.dev = .run →
    (s.secId < 4 ∨ 15 < s.secId → exec .ctrInc s = .next (s.secEnd 0x0102 0)) ∧
    (4 ≤ s.secId → s.secId ≤ 15 → exec .ctrInc s = .next
      (s.jnlAppend ⟨0x21, s.secId, leBytes 8 (min (jnlCounter s.jnlNow s.secId + 1) (2 ^ 64 - 1)), true⟩))) ∧
  (∀ s : State, s.sec.running = some ⟨7, none⟩ → s.dev = .standby → exec .commitVersion s = .next (
    if s.commitRecords = [] then s.secEnd 0 0
    else s.forEach ((List.range s.commitRecords.length).zip s.commitRecords) (fun t p =>
      t.jnlAppend ⟨p.2.1, p.2.2.1, p.2.2.2, p.1 + 1 == s.commitRecords.length⟩))) ∧
  (∀ (s : State) (a : JnlAppend),
    (s.isSet Fld.SEC_STATUS_COMPACTING 0 = true ∨ s.aon.sleepReq = true →
      s.jnlAppend a = { s with sec := { s.sec with waiting := s.sec.waiting ++ [a] } }) ∧
    (s.isSet Fld.SEC_STATUS_COMPACTING 0 = false → s.aon.sleepReq = false → s.sec.torn = true → s.jnlAppend a =
      State.set { s with sec := { s.sec with waiting := s.sec.waiting ++ [a] } } Fld.SEC_STATUS_COMPACTING 0 1) ∧
    (s.isSet Fld.SEC_STATUS_COMPACTING 0 = false → s.aon.sleepReq = false → s.sec.torn = false →
      ∃ t, t = (s.jnlWrite a.type a.id a.payload).jnlResult a ∧ s.jnlAppend a =
        if 3145728 < t.get Fld.SEC_JNL_USED_BYTES 0 then t.set Fld.SEC_STATUS_COMPACTING 0 1 else t)) ∧
  (∀ s : State, (s.isSet Fld.SEC_STATUS_COMPACTING 0 = false ∨ s.sec.journalKey = [] → exec .compactionEnd s = .next s) ∧
    (s.isSet Fld.SEC_STATUS_COMPACTING 0 = true → s.sec.journalKey ≠ [] → exec .compactionEnd s = .next (State.forEach
      { s.compactEnd with sec := { s.compactEnd.sec with waiting := [] } } s.sec.waiting (fun t a => t.jnlAppend a))))

/-- In RUN a trip of one sensor of class A, B or C is captured with the time, flagged and logged; class A does no
more, class B resets (unless a higher cause has decided the beat) with its image pending, class C enters ALARM; and
zeroising clears every key. (R571, R572) -/
def Obligations.TamperReactions : Prop :=
  ∀ (s t : State) (k cls : Nat), s.aon.policy[k]? = some cls → k < 5 → s.dev = .run → 1 ≤ cls → cls ≤ 3 →
    t = State.alarmLog ((((State.set { s with freeCount := s.freeCount + 1 } Fld.SEC_ALARM_CAP_SENSOR 0 k).set
      Fld.SEC_ALARM_CAP_CLASS 0 cls).set Fld.SEC_ALARM_TIME_TIME 0 s.now).raise Flg.SEC_EVT_TAMPER 0) ⟨k, cls, s.now, false⟩ →
    (cls = 1 → exec (.tamperTrip [k]) s = .next t) ∧
    (cls = 2 → exec (.tamperTrip [k]) s = .next (State.resetBy { t with aon := { t.aon with pendingB := true } } 6 true)) ∧
    (cls = 3 → exec (.tamperTrip [k]) s = .next t.alarmC) ∧
    (∀ u : State, u.zeroise.sec.journalKey = [] ∧ u.zeroise.sec.identity = [] ∧ u.zeroise.sec.attest = [] ∧
      u.zeroise.sec.wrap = [] ∧ u.zeroise.sec.keys = [])
end

