-- ==== Sys2Proof/Laws/Bus.lean ====
section
/-! SUPPORT. Reading back a MAC or a CAN controller after it is replaced, and past a register field. -/

namespace Sys2Proof.Machine

@[simp] theorem State.mac_putMac (s : State) (m : Nat) (x : Mac) : (s.putMac m x).mac m = x := by
  simp [State.mac, State.putMac, Sparse.get_put]

@[simp] theorem State.can_putCan (s : State) (n : Nat) (x : CanCtl) : (s.putCan n x).can n = x := by
  simp [State.can, State.putCan, Sparse.get_put]

@[simp] theorem State.mac_set (s : State) (f : Field) (i v m : Nat) : (s.set f i v).mac m = s.mac m := rfl

@[simp] theorem State.can_set (s : State) (f : Field) (i v n : Nat) : (s.set f i v).can n = s.can n := rfl

end Sys2Proof.Machine
end

