-- ==== Sys2Proof/Laws/Port.lean ====
section
/-! SUPPORT. The flits that a port builds are good ones of their own TYPE and VC (R425). -/

namespace Sys2Proof.Machine

/-- Little-endian bytes are as many as asked for. -/
@[simp] theorem leBytes_length (n v : Nat) : (leBytes n v).length = n := by
  induction n generalizing v with
  | zero => rfl
  | succ n ih => simp [leBytes, ih]

/-- Reading little-endian bytes back gives the number cut to their width. -/
@[simp] theorem leNat_leBytes (n v : Nat) : leNat (leBytes n v) = v % 256 ^ n := by
  induction n generalizing v with
  | zero => simp [leBytes, leNat, Nat.mod_one]
  | succ n ih =>
    simp only [leBytes, leNat, ih, BitVec.toNat_ofNat]
    rw [Nat.pow_succ 256 n, Nat.mul_comm (256 ^ n) 256, Nat.mod_mul]

/-- A slice of n bytes has n bytes. -/
@[simp] theorem sliceOf_length (bs : List Byte) (a n : Nat) : (sliceOf bs a n).length = n := by
  simp only [sliceOf, List.length_append, List.length_replicate, List.length_take, List.length_drop]
  omega

/-- Every flit that a port builds is good and of the TYPE and VC that it was built with (Table 14.1, R425). -/
theorem flitGood_flitBytes (type vc seq : Nat) (ack : Option Nat) (credits : List (Nat × Nat)) (body : List Byte)
    (ht : type < 4) (hv : vc < 6) :
    let b := flitBytes type vc seq ack credits body
    flitGood b = true ∧ flitType b = type ∧ flitVc b = vc := by
  intro b
  have hc : ∀ bs : List Byte, crc32 bs < 256 ^ 4 := fun bs => BitVec.isLt _
  have h0 : fieldOf b 0 1 = 16 * vc + type := by
    have e : fieldOf b 0 1 = (BitVec.ofNat 8 (16 * vc + type) : Byte).toNat := by
      simp [b, fieldOf, flitBytes, sliceOf, leBytes, leNat]
    rw [e]; simp; omega
  have h2 : flitType b = type := by simp only [flitType, h0]; omega
  have h3 : flitVc b = vc := by simp only [flitVc, h0]; omega
  have hl : ∀ x : List Byte, x.length = 252 → ∀ y : List Byte, (x ++ y).take 252 = x ∧ (x ++ y).drop 252 = y :=
    fun x hx y => ⟨by rw [← hx, List.take_left], by rw [← hx, List.drop_left]⟩
  refine ⟨?_, h2, h3⟩
  unfold flitGood
  rw [h2, h3, decide_eq_true ht, decide_eq_true hv]
  show (b.length == 256 && crc32 (b.take 252) == fieldOf b 252 4 && true && true) = true
  simp only [b, flitBytes, fieldOf, hl _ (sliceOf_length _ 0 252), List.length_append, sliceOf_length, leBytes_length]
  rw [List.take_of_length_le (by simp), leNat_leBytes, Nat.mod_eq_of_lt (hc _)]
  simp

end Sys2Proof.Machine
end

