-- ==== Sys2Proof/WellFormed.lean ====
section
/-! DEFINITION. Which commands are well formed: every index names a unit that Table 1.1 gives the package, every value
fits its register, and every flit has its length.  The meanings say nothing of the part for the other ones. -/

namespace Sys2Proof

/-- A port or, as 6, the package itself (R431). -/
def portOk (port : Nat) : Bool := decide (port ≤ 6)

/-- A virtual channel (R426). -/
def vcOk (vc : Nat) : Bool := decide (vc < 8)

/-- A flit of 256 bytes (R425). -/
def flitOk (port : Nat) (flit : List (BitVec 8)) : Bool := decide (port < 6) && flit.length == 256

/-- A registered waiter names a core or a stream of the part. -/
def Wait.ok : Wait → Bool
  | .cmd _ => true
  | .core k c => decide (k < 64) && decide (c < 2)
  | .capture n => decide (n < 16)
  | .dataset d => decide (d < 4)

/-- A read or a write of the debugger is of an aligned word of the main Selvedge core's 512 KiB. -/
def DebugAction.ok (a : DebugAction) (selvedge : Bool) : Bool :=
  match a with
  | .read a => selvedge && a % 4 == 0 && decide (a < 2 ^ 19)
  | .write a v => selvedge && a % 4 == 0 && decide (a < 2 ^ 19) && decide (v < 2 ^ 32)
  | _ => true

/-- A CAN frame's fields fit (Table 16.2). -/
def CanFrame.ok (f : CanFrame) : Bool :=
  decide (f.id < 2 ^ 29) && decide (f.format < 3) && decide (f.len ≤ 2048) && decide (f.sdt < 256) &&
  decide (f.vcid < 256) && decide (f.af < 2 ^ 32) && f.data.length == f.len

/-- Whether a command is well formed. -/
def Instr.wellFormed : Instr → Bool
  | .regWrite fn offset _ value => decide (fn < 16) && decide (offset < 2 ^ 26) && decide (value < 2 ^ 32)
  | .lowHalfRead fn offset => decide (fn < 32) && decide (offset < 2 ^ 26)
  | .rcCounterRead fn offset => decide (fn < 16) && decide (offset < 2 ^ 26)
  | .railsUp => true
  | .railLoss _ => true
  | .resetNAssert _ => true
  | .resetNRelease => true
  | .internalResetEnd => true
  | .bootSequence x => x.puf.length == 8192
  | .stateReqRun => true
  | .runStart => true
  | .stateReqStandby => true
  | .runExit => true
  | .stateReqSleep => true
  | .sleepEntry => true
  | .stateReqReleaseSafe _ => true
  | .stateReqReset => true
  | .wakeNEvent _ => true
  | .canWakeDominant channel _ => decide (channel < 4)
  | .canWakeFrame channel id _ data => decide (channel < 4) && decide (id < 2 ^ 29) && decide (data.length ≤ 8)
  | .wakeBootStart => true
  | .wakeTimeout => true
  | .refclkLost => true
  | .refclkRestored => true
  | .whorlStepWrite _ => true
  | .domainWrite domain => decide (domain < 16)
  | .holdEnd => true
  | .timeWaveFrame bad => bad.all (fun k => decide (k < 256))
  | .beatmonUpdate _ => true
  | .launchGuard _ => true
  | .launchStart _ => true
  | .launchLate _ => true
  | .bundle skein core => decide (skein < 64) && decide (core < 2)
  | .bundleResume skein core => decide (skein < 64) && decide (core < 2)
  | .tokenWaitRegister waiter => waiter.ok
  | .tokenSignalArrive token => decide (token < 65536)
  | .tokenAssign skein index job count target _ =>
    decide (skein < 64) && decide (index < 1024) && decide (job < 256) && decide (count < 65536) && decide (target < 65536)
  | .tokenRelease skein index => decide (skein < 64) && decide (index < 1024)
  | .releaseTokens job => decide (job < 256)
  | .matmul _ _ => true
  | .vec _ _ => true
  | .conv _ _ => true
  | .pool _ _ => true
  | .attn _ _ _ => true
  | .kvappend _ _ => true
  | .kvappendWaitEnd _ => true
  | .kvappendTimeout _ => true
  | .kvappendCommit _ => true
  | .slotFlush stream => decide (stream < 65536)
  | .flushDeadline _ => true
  | .dropStage stream => decide (stream < 65536)
  | .kvEnableWrite _ => true
  | .freeTailWrite tail => decide (tail < 2 ^ 32)
  | .solve _ _ => true
  | .dyn _ _ => true
  | .move _ _ => true
  | .prog _ => true
  | .wait _ => true
  | .waitDeadline _ => true
  | .signal _ => true
  | .fenceDescriptor _ => true
  | .digest _ _ => true
  | .commandComplete _ => true
  | .abortTokenReset => true
  | .abortRecoveryEnd => true
  | .loomYield skein => decide (skein < 64)
  | .plyYield hank => decide (hank < 8)
  | .regionWrite skein region _ => decide (skein < 64) && decide (region < 8)
  | .winOpen skein window => decide (skein < 64) && decide (window < 16)
  | .winClose skein window => decide (skein < 64) && decide (window < 16)
  | .winDrained skein window => decide (skein < 64) && decide (window < 16)
  | .winAlarmPeriod skein => decide (skein < 64)
  | .apertureRead offset _ => decide (offset < 2 ^ 32)
  | .apertureWrite offset _ value => decide (offset < 2 ^ 32) && decide (value < 2 ^ 32)
  | .loopSample loop => decide (loop < 32)
  | .loopClose loop => decide (loop < 32)
  | .loopOpen loop => decide (loop < 32)
  | .loopRelease loop => decide (loop < 32)
  | .openAll => true
  | .encEdge channel _ => decide (channel < 16)
  | .ssiFrameStart channel => decide (channel < 8)
  | .ssiFrameEnd channel value _ => decide (channel < 8) && decide (value < 2 ^ 48)
  | .ssiTimeout channel => decide (channel < 8)
  | .sdOutput channel _ => decide (channel < 24)
  | .sdClkLost channel => decide (channel < 24)
  | .adcTrigger channel => decide (channel < 16)
  | .adcEndOfConversion channel code => decide (channel < 16) && decide (code < 4096)
  | .pwmCounterZero group => decide (group < 8)
  | .pwmCentreLoad group => decide (group < 8)
  | .frameStartPacket stream vc csiFrame _ => decide (stream < 16) && decide (vc < 16) && decide (csiFrame < 65536)
  | .linePacket stream vc dt _ _ _ => decide (stream < 16) && decide (vc < 16) && decide (dt < 64)
  | .frameEndPacket stream vc _ => decide (stream < 16) && decide (vc < 16)
  | .publicationDecision stream => decide (stream < 16)
  | .capEnable stream => decide (stream < 16)
  | .capDisable stream => decide (stream < 16)
  | .dsEnable stream => decide (stream < 4)
  | .dsDisable stream => decide (stream < 4)
  | .dsSampleStart stream _ => decide (stream < 4)
  | .dsSampleEnd stream _ _ => decide (stream < 4)
  | .decodeBudget stream _ => decide (stream < 4)
  | .batchPublish stream => decide (stream < 4)
  | .sqDoorbell client sq offset _ value =>
    decide (client < 16) && decide (sq < 64) && decide (offset < 4096) && decide (value < 2 ^ 32)
  | .cqDoorbell client cq offset _ value =>
    decide (client < 16) && decide (cq < 64) && decide (offset < 4096) && decide (value < 2 ^ 32)
  | .descriptorFetch _ => true
  | .completionRecordWrite client cq => decide (client < 16) && decide (cq < 64)
  | .coalTimer client cq => decide (client < 16) && decide (cq < 64)
  | .msixUnmask client vector => decide (client < 16) && decide (vector < 64)
  | .sqEnable client sq => decide (client < 16) && decide (sq < 64)
  | .sqDisable client sq => decide (client < 16) && decide (sq < 64)
  | .cqEnable client cq => decide (client < 16) && decide (cq < 64)
  | .cqDisable client cq => decide (client < 16) && decide (cq < 64)
  | .functionLevelReset client => decide (client < 16)
  | .flrTimeout client => decide (client < 16)
  | .tableLoad => true
  | .tableArm => true
  | .cycleBoundary => true
  | .slotOpen slot => decide (slot < 1024)
  | .slotClose slot => decide (slot < 1024)
  | .quiesceStart slot => decide (slot < 1024)
  | .goldenRunEnd skein _ _ _ => decide (skein < 64)
  | .goldenTimeout skein => decide (skein < 64)
  | .steal _ thief => decide (thief < 64)
  | .stealCopyBackEnd _ => true
  | .drainEnd => true
  | .drainTimeout => true
  | .sliceEnd _ _ _ => true
  | .accountingInterval => true
  | .portEnable port => decide (port < 6)
  | .portDisable port => decide (port < 6)
  | .portTrained port lanes _ neighbour => decide (port < 6) && decide (lanes < 16) && decide (neighbour < 128)
  | .linkDown port => decide (port < 6)
  | .dataFlit port flit _ _ => flitOk port flit
  | .idleFlit port flit _ _ => flitOk port flit
  | .nakFlit port flit _ _ => flitOk port flit
  | .syncFlit port flit _ _ => flitOk port flit
  | .replayTimeout port => decide (port < 6)
  | .syncSend port => decide (port < 6)
  | .tsLost => true
  | .rowWrite port vc => portOk port && vcOk vc
  | .rowRead port vc => portOk port && vcOk vc
  | .tokenSignal port vc => portOk port && vcOk vc
  | .barrierArrive port vc => portOk port && vcOk vc
  | .barrierRelease port vc => portOk port && vcOk vc
  | .parcel port vc => portOk port && vcOk vc
  | .parcelUnblock port vc => portOk port && vcOk vc
  | .ack port vc => portOk port && vcOk vc
  | .readData port vc => portOk port && vcOk vc
  | .refuse port vc => portOk port && vcOk vc
  | .parcelAck port vc => portOk port && vcOk vc
  | .remoteTimeout xid => decide (xid < 2 ^ 32)
  | .relaySignal skein index => decide (skein < 64) && decide (index < 1024)
  | .ethEnable mac _ => decide (mac < 4)
  | .ethTxKick mac => decide (mac < 4)
  | .ethTxStart mac => decide (mac < 4)
  | .ethTxDone mac => decide (mac < 4)
  | .ethTxLate mac => decide (mac < 4)
  | .ethRxFrame mac _ _ _ => decide (mac < 4)
  | .ethLinkChange mac _ rate => decide (mac < 4) && decide (rate < 4)
  | .domOfsWrite set _ => decide (set < 2)
  | .domRateWrite set _ => decide (set < 2)
  | .domainLost set => decide (set < 2)
  | .timeInEdge pin _ _ => decide (pin < 16)
  | .tinStampHighRead pin => decide (pin < 16)
  | .canEnable ctrl => decide (ctrl < 8)
  | .canDisable ctrl => decide (ctrl < 8)
  | .canTxTailWrite ctrl value => decide (ctrl < 8) && decide (value < 2 ^ 32)
  | .canTxAckWrite ctrl value => decide (ctrl < 8) && decide (value < 2 ^ 32)
  | .canRxAckWrite ctrl value => decide (ctrl < 8) && decide (value < 2 ^ 32)
  | .canTxAttempt ctrl => decide (ctrl < 8)
  | .canArbLost ctrl => decide (ctrl < 8)
  | .canTxDone ctrl => decide (ctrl < 8)
  | .canTxLate ctrl => decide (ctrl < 8)
  | .canRxFrame ctrl frame _ => decide (ctrl < 8) && frame.ok
  | .canProtocolError ctrl _ _ => decide (ctrl < 8)
  | .canBusOffRecovery ctrl => decide (ctrl < 8)
  | .ndcClear job => decide (job < 256)
  | .lockstepMismatch => true
  | .pairDecision pair => decide (pair < 4)
  | .pairTimeout pair => decide (pair < 4)
  | .pairFrameEnd pair => decide (pair < 4)
  | .pairValidWrite pair value => decide (pair < 4) && decide (value < 2 ^ 32)
  | .engineHang _ => true
  | .dtiExceeded skein => decide (skein < 64)
  | .dtiFault skein => decide (skein < 64)
  | .refHoldExpire => true
  | .jnlRead => true
  | .jnlWrite => true
  | .jnlDelete => true
  | .ctrInc => true
  | .update => true
  | .activate => true
  | .commitVersion => true
  | .attest => true
  | .debugChallenge => true
  | .debugUnlock => true
  | .debugLock => true
  | .secCommandDone => true
  | .compactionEnd => true
  | .tamperTrip sensors => sensors.all (fun k => decide (k < 5))
  | .zeroisationComplete => true
  | .vsetWrite mv => decide (mv < 65536)
  | .rampStep => true
  | .avsTransactionFail => true
  | .telemetrySample _ _ _ _ _ _ => true
  | .powerWindow => true
  | .canBusIntegrated ctrl => decide (ctrl < 8)
  | .debuggerHaltStep target action => action.ok target.isNone && target.all (fun c => decide (c.1 < 64) && decide (c.2 < 2))

end Sys2Proof
end

