-- ==== Sys2Proof/Tests/Slice0.lean ====
section
/-! SUPPORT. Tests: each operand check of WellFormed refuses a command, a witness that meets the hypotheses of each
obligation, and worked examples of the spec on its own numbers. -/

open Sys2Proof Sys2Proof.Machine

section
set_option Elab.async false

theorem test_ill_formed_1 : ([
    .regWrite 16 0 0 0,
    .regWrite 0 67108864 0 0,
    .regWrite 0 0 0 4294967296,
    .lowHalfRead 32 0,
    .lowHalfRead 0 67108864,
    .rcCounterRead 16 0,
    .rcCounterRead 0 67108864,
    .canWakeDominant 4 0,
    .canWakeFrame 4 0 false [],
    .canWakeFrame 0 536870912 false [],
    .canWakeFrame 0 0 false (List.replicate 9 0),
    .domainWrite 16,
    .timeWaveFrame [256],
    .bundle 64 0,
    .bundle 0 2,
    .bundleResume 64 0,
    .bundleResume 0 2,
    .tokenWaitRegister (.core 64 0),
    .tokenWaitRegister (.core 0 2),
    .tokenWaitRegister (.capture 16),
    .tokenWaitRegister (.dataset 4),
    .tokenSignalArrive 65536,
    .tokenAssign 64 0 0 0 0 false,
    .tokenAssign 0 1024 0 0 0 false,
    .tokenAssign 0 0 256 0 0 false,
    .tokenAssign 0 0 0 65536 0 false,
    .tokenAssign 0 0 0 0 65536 false,
    .tokenRelease 64 0,
    .tokenRelease 0 1024,
    .releaseTokens 256,
    .slotFlush 65536,
    .dropStage 65536,
    .freeTailWrite 4294967296,
    .loomYield 64,
    .plyYield 8,
    .regionWrite 64 0 0] : List Instr).all (fun c => !c.wellFormed) = true := by
  decide +kernel

theorem test_ill_formed_2 : ([
    .regionWrite 0 8 0,
    .winOpen 64 0,
    .winOpen 0 16,
    .winClose 64 0,
    .winClose 0 16,
    .winDrained 64 0,
    .winDrained 0 16,
    .winAlarmPeriod 64,
    .apertureRead 4294967296 0,
    .apertureWrite 4294967296 0 0,
    .apertureWrite 0 0 4294967296,
    .loopSample 32,
    .loopClose 32,
    .loopOpen 32,
    .loopRelease 32,
    .encEdge 16 ⟨false, false, false, 0⟩,
    .ssiFrameStart 8,
    .ssiFrameEnd 8 0 false,
    .ssiFrameEnd 0 281474976710656 false,
    .ssiTimeout 8,
    .sdOutput 24 0,
    .sdClkLost 24,
    .adcTrigger 16,
    .adcEndOfConversion 16 0,
    .adcEndOfConversion 0 4096,
    .pwmCounterZero 8,
    .pwmCentreLoad 8,
    .frameStartPacket 16 0 0 false,
    .frameStartPacket 0 16 0 false,
    .frameStartPacket 0 0 65536 false,
    .linePacket 16 0 0 .clean false [],
    .linePacket 0 16 0 .clean false [],
    .linePacket 0 0 64 .clean false [],
    .frameEndPacket 16 0 false,
    .frameEndPacket 0 16 false,
    .publicationDecision 16] : List Instr).all (fun c => !c.wellFormed) = true := by
  decide +kernel

theorem test_ill_formed_3 : ([
    .capEnable 16,
    .capDisable 16,
    .dsEnable 4,
    .dsDisable 4,
    .dsSampleStart 4 0,
    .dsSampleEnd 4 0 0,
    .decodeBudget 4 0,
    .batchPublish 4,
    .sqDoorbell 16 0 0 0 0,
    .sqDoorbell 0 64 0 0 0,
    .sqDoorbell 0 0 4096 0 0,
    .sqDoorbell 0 0 0 0 4294967296,
    .cqDoorbell 16 0 0 0 0,
    .cqDoorbell 0 64 0 0 0,
    .cqDoorbell 0 0 4096 0 0,
    .cqDoorbell 0 0 0 0 4294967296,
    .completionRecordWrite 16 0,
    .completionRecordWrite 0 64,
    .coalTimer 16 0,
    .coalTimer 0 64,
    .msixUnmask 16 0,
    .msixUnmask 0 64,
    .sqEnable 16 0,
    .sqEnable 0 64,
    .sqDisable 16 0,
    .sqDisable 0 64,
    .cqEnable 16 0,
    .cqEnable 0 64,
    .cqDisable 16 0,
    .cqDisable 0 64,
    .functionLevelReset 16,
    .flrTimeout 16,
    .slotOpen 1024,
    .slotClose 1024,
    .quiesceStart 1024,
    .goldenRunEnd 64 false 0 0] : List Instr).all (fun c => !c.wellFormed) = true := by
  decide +kernel

theorem test_ill_formed_4 : ([
    .goldenTimeout 64,
    .steal 0 64,
    .portEnable 6,
    .portDisable 6,
    .portTrained 6 0 false 0,
    .portTrained 0 16 false 0,
    .portTrained 0 0 false 128,
    .linkDown 6,
    .dataFlit 6 (List.replicate 256 0) 0 false,
    .dataFlit 0 (List.replicate 255 0) 0 false,
    .idleFlit 6 (List.replicate 256 0) 0 false,
    .idleFlit 0 (List.replicate 255 0) 0 false,
    .nakFlit 6 (List.replicate 256 0) 0 false,
    .nakFlit 0 (List.replicate 255 0) 0 false,
    .syncFlit 6 (List.replicate 256 0) 0 false,
    .syncFlit 0 (List.replicate 255 0) 0 false,
    .replayTimeout 6,
    .syncSend 6,
    .rowWrite 7 0,
    .rowWrite 0 8,
    .rowRead 7 0,
    .rowRead 0 8,
    .tokenSignal 7 0,
    .tokenSignal 0 8,
    .barrierArrive 7 0,
    .barrierArrive 0 8,
    .barrierRelease 7 0,
    .barrierRelease 0 8,
    .parcel 7 0,
    .parcel 0 8,
    .parcelUnblock 7 0,
    .parcelUnblock 0 8,
    .ack 7 0,
    .ack 0 8,
    .readData 7 0,
    .readData 0 8] : List Instr).all (fun c => !c.wellFormed) = true := by
  decide +kernel

theorem test_ill_formed_5 : ([
    .refuse 7 0,
    .refuse 0 8,
    .parcelAck 7 0,
    .parcelAck 0 8,
    .remoteTimeout 4294967296,
    .relaySignal 64 0,
    .relaySignal 0 1024,
    .ethEnable 4 false,
    .ethTxKick 4,
    .ethTxStart 4,
    .ethTxDone 4,
    .ethTxLate 4,
    .ethRxFrame 4 [] false 0,
    .ethLinkChange 4 false 0,
    .ethLinkChange 0 false 4,
    .domOfsWrite 2 0,
    .domRateWrite 2 0,
    .domainLost 2,
    .timeInEdge 16 false 0,
    .tinStampHighRead 16,
    .canEnable 8,
    .canDisable 8,
    .canTxTailWrite 8 0,
    .canTxTailWrite 0 4294967296,
    .canTxAckWrite 8 0,
    .canTxAckWrite 0 4294967296,
    .canRxAckWrite 8 0,
    .canRxAckWrite 0 4294967296,
    .canTxAttempt 8,
    .canArbLost 8,
    .canTxDone 8,
    .canTxLate 8,
    .canRxFrame 8 ⟨0, 0, false, false, false, false, 0, 0, 0, 0, []⟩ 0,
    .canRxFrame 0 ⟨536870912, 0, false, false, false, false, 0, 0, 0, 0, []⟩ 0,
    .canRxFrame 0 ⟨0, 3, false, false, false, false, 0, 0, 0, 0, []⟩ 0,
    .canRxFrame 0 ⟨0, 0, false, false, false, false, 2049, 0, 0, 0, (List.replicate 2049 0)⟩ 0] : List Instr).all (fun c => !c.wellFormed) = true := by
  decide +kernel

theorem test_ill_formed_6 : ([
    .canRxFrame 0 ⟨0, 0, false, false, false, false, 0, 256, 0, 0, []⟩ 0,
    .canRxFrame 0 ⟨0, 0, false, false, false, false, 0, 0, 256, 0, []⟩ 0,
    .canRxFrame 0 ⟨0, 0, false, false, false, false, 0, 0, 0, 4294967296, []⟩ 0,
    .canRxFrame 0 ⟨0, 0, false, false, false, false, 1, 0, 0, 0, []⟩ 0,
    .canProtocolError 8 0 0,
    .canBusOffRecovery 8,
    .ndcClear 256,
    .pairDecision 4,
    .pairTimeout 4,
    .pairFrameEnd 4,
    .pairValidWrite 4 0,
    .pairValidWrite 0 4294967296,
    .dtiExceeded 64,
    .dtiFault 64,
    .tamperTrip [5],
    .vsetWrite 65536,
    .canBusIntegrated 8,
    .debuggerHaltStep (some (64, 0)) .halt,
    .debuggerHaltStep (some (0, 2)) .halt,
    .bootSequence ⟨List.replicate 8191 0, true, [], [], 750, 16, 65535, 0, 192000, 1, 1⟩,
    .debuggerHaltStep (some (0, 0)) (.read 0),
    .debuggerHaltStep none (.read 524288),
    .debuggerHaltStep none (.read 2),
    .debuggerHaltStep none (.write 524288 0),
    .debuggerHaltStep none (.write 0 4294967296)] : List Instr).all (fun c => !c.wellFormed) = true := by
  decide +kernel

/-! ### Witnesses: states and operands that meet what each obligation asks -/

/-- A state in a device state, with the listed fields written. -/
def stateIn (d : DevState) (w : List (Field × Nat × Nat)) : State := ({ State.reset with dev := d }).setAll w

/-- A table of one slot of class SAFETY over every skein. -/
def oneSlot : Table := ⟨400000, [⟨100, 1000, 0, false, 0, 2 ^ 64 - 1⟩]⟩

theorem test_wit_QueueFirstInFirstOut :
    ({ State.reset with pending := [.tableArm, .holdEnd] } : State).pending = .tableArm :: [.holdEnd] ∧
    State.reset.pending = [] := by decide

theorem test_wit_StepsKeepCanonicalForm : State.reset.canonical = true ∧ ∃ t, step State.reset = .next t :=
  ⟨by decide, _, rfl⟩

theorem test_wit_CommandsCompleteAndLeaveQueueAndTime : ∃ t, exec .tableArm (stateIn .run []) = .next t := ⟨_, rfl⟩

theorem test_wit_FieldsAndMemoryReadBack :
    Fld.WHORL_CTRL_DOMAIN.code ≠ Fld.WHORL_RATE_ADJ_ADJ.code ∧ (0 : Nat) < 0x100000000 ∧ 0xFFFFFFFF < 0x100000000 ∧
    (0 : Nat) ≠ 1 := by decide

theorem test_wit_FlagsCountAndRaiseTheirSources :
    (∃ f : Flag, f.source = none) ∧
    (Flg.WHORL_EVT_STEPPED.source ≠ none ∧
      (stateIn .run [(Fld.RING_EVSRC_EN, 20, 1), (Fld.RING_EVSRC_EN, 21, 1)]).isSet Fld.RING_EVSRC_EN 21 = true ∧
      (stateIn .run []).isSet Fld.RING_EVSRC_EN 21 = false) ∧
    ((stateIn .sleep []).linked = false ∧ (stateIn .run []).linked = true) ∧
    (stateIn .run [(Fld.MSIX_CTRL_MASK, ix 15 63, 1)]).isSet Fld.MSIX_CTRL_MASK (ix 15 63) = true ∧
    (stateIn .run [(Fld.MSIX_CTRL_MASK, ix 15 63, 0)]).isSet Fld.MSIX_CTRL_MASK (ix 15 63) = false := by
  refine ⟨⟨⟨Fld.HUB_EVT_STATE_CHANGED, Fld.HUB_EVT_CNT_STATE_COUNT, none, none⟩, rfl⟩, ?_⟩
  decide +kernel

theorem test_wit_HostAccessesNeedAnAnsweringBlock : State.reset.setUp = false ∧ (stateIn .boot []).setUp = false ∧
    State.reset.dev = .reset ∧ (stateIn .off []).dev = .off ∧ (stateIn .sleep []).dev = .sleep ∧
    (stateIn .alarm []).dev = .alarm := by
  decide

theorem test_wit_OtherWidthsAndAlignmentsAnswerZero :
    (∀ a, (stateIn .run []).busAddress 0 0x300012 = some a → (stateIn .run []).answersAt a = true) ∧
    0x300012 % 4 ≠ 0 ∧ (8 : Nat) ≠ 4 := by
  exact ⟨fun a _ => rfl, by decide, by decide⟩

theorem test_wit_RegisterAccessCodes :
    ((stateIn .run []).answersAt 0x300010 = true ∧ Reg.lookup allRegs 0x300010 = some (Reg.WHORL_RATE_ADJ, 0, false) ∧
      0x300010 % 4 = 0) ∧
    Reg.lookup allRegs 0x30001C = some (Reg.WHORL_STEP, 0, true) ∧
    (stateIn .run []).setUp = true ∧ (2 ^ 32 - 1 : Nat) < 2 ^ 32 ∧
    (stateIn .run []).loopConfig 31 = true ∧
    ({ stateIn .run [] with flyer := { Flyer.reset with
      loops := [(31, { Loop.reset with opened := some 0 })] } } : State).loopConfig 31 = false ∧
    ((stateIn .run [(Fld.FLYER_LOOP_STATE_STATE, 31, 2)]).loopConfig 31 = false ∧
      (stateIn .run [(Fld.FLYER_LOOP_STATE_STATE, 31, 2)]).get Fld.FLYER_LOOP_GEAR_GEAR 31 ≠ 5) := by
  decide +kernel

theorem test_wit_MainDomainLost :
    (stateIn .off []).dev = .off ∧ (10000 ≤ 10000 ∧ (stateIn .run []).dev ≠ .off ∧ (stateIn .run []).dev ≠ .sleep ∧
      (stateIn .run []).freshBeat = true) ∧
    ((stateIn .recovery []).hubAnswers = true ∧ (stateIn .recovery []).inTransition = false ∧
      (stateIn .recovery []).freshBeat = true) ∧
    (stateIn .alarm []).dev = .alarm ∧
    ((stateIn .standby []).dev = .standby ∧
      ({ stateIn .standby [] with aon := { Aon.reset with sleepReq := true } } : State).aon.sleepReq = true ∧
      ({ stateIn .standby [] with aon := { Aon.reset with sleepReq := true } } : State).freshBeat = true) ∧
    State.reset.sec.programming = none ∧
    (∃ s : State, s.sec.programming = some ⟨Mem.flash 0, 64, 5⟩ ∧
      s.refTime + 1 = 5 + 20 * Config.us + ceilDiv 64 256 * 1000 * Config.us) := by
  iterate 5 refine And.intro (by decide) ?_
  exact ⟨by decide, { State.reset with
    refTime := 4 + 20 * Config.us + ceilDiv 64 256 * 1000 * Config.us
    sec := { Sec.reset with programming := some ⟨Mem.flash 0, 64, 5⟩ } }, rfl, by decide⟩

theorem test_wit_ResetEnds :
    (State.reset.dev = .reset ∧ State.reset.aon.resetLow = true ∧ State.reset.aon.internal = false) ∧
    (∃ s : State, s.dev = .reset ∧ s.aon.resetLow = false ∧ s.aon.internal = true ∧
      s.aon.resetAt + 10 * Config.us ≤ s.refTime) ∧
    (∃ s : State, s.aon.resetLow = true ∧ s.aon.internal = true) ∧
    ((stateIn .sleep []).dev = .sleep ∧ (stateIn .sleep []).sleeping = false ∧ (stateIn .sleep []).aon.wake = none) ∧
    ((1000 : Nat) < 1001 ∧ 9999 < 10000) := by
  refine ⟨by decide, ⟨{ State.reset with refTime := 40000, aon := { Aon.reset with resetLow := false, internal := true } }, ?_⟩,
    ⟨{ State.reset with aon := { Aon.reset with internal := true } }, ?_⟩, by decide, by decide⟩ <;> decide

/-- A state in RUN with one table active, another pending, and requests waiting. -/
def running (w : List (Field × Nat × Nat)) : State :=
  { stateIn .run w with heddle := { Heddle.reset with active := some oneSlot, pending := some oneSlot } }

theorem test_wit_StateRequests :
    (∃ s : State, s.dev = .standby ∧ s.inTransition = false ∧ s.freshBeat = true ∧ s.heddle.pending = some oneSlot ∧
      ∀ n, n < 8 → s.isSet Fld.CAN_CTRL_EN n = false) ∧
    ((running []).dev = .run ∧ (running []).inTransition = false ∧ (running []).freshBeat = true) ∧
    ((stateIn .safe []).dev = .safe ∧ (stateIn .safe []).inTransition = false ∧ (stateIn .safe []).freshBeat = true ∧
      (stateIn .safe []).releasable = true) ∧
    ((stateIn .standby [(Fld.CAN_CTRL_EN, 7, 1)]).hubAnswers = true ∧
      (stateIn .standby [(Fld.CAN_CTRL_EN, 7, 1)]).isSet Fld.CAN_CTRL_EN 7 = true ∧
      (stateIn .standby []).heddle.pending = none) ∧
    (∃ s : State, s.hubAnswers = true ∧ s.inTransition = true) ∧
    (∃ s : State, s.hubAnswers = true ∧ s.outranked 5 = true ∧ s.outranked 3 = false ∧ s.inTransition = false) ∧
    (∃ s : State, s.hubAnswers = true ∧ s.outranked 3 = true) ∧
    (∃ s : State, s.heddle.pending = some oneSlot ∧ s.dev = .standby ∧ s.freshBeat = true ∧
      s.heddle.runReq = true ∧ s.runBoundary oneSlot.cycle ≤ s.now) ∧
    (∃ s : State, s.heddle.active = some oneSlot ∧ s.dev = .run ∧ s.heddle.standbyReq = true ∧
      s.boundary + oneSlot.cycle ≤ s.now ∧ ∀ c ∈ s.cmds, c.phase = .ended) := by
  refine ⟨⟨{ stateIn .standby [] with heddle := { Heddle.reset with pending := some oneSlot } }, ?_⟩, ?_, ?_, ?_,
    ⟨{ stateIn .run [] with heddle := { Heddle.reset with standbyReq := true } }, ?_⟩,
    ⟨{ stateIn .run [] with aon := { Aon.reset with decided := some (0, 4, .standby) } }, ?_⟩,
    ⟨{ stateIn .run [] with aon := { Aon.reset with decided := some (0, 2, .standby) } }, ?_⟩,
    ⟨{ stateIn .standby [] with heddle := { Heddle.reset with pending := some oneSlot, runReq := true } }, ?_⟩,
    ⟨{ stateIn .run [] with
        whorl := { Whorl.reset with count := 400000 }
        heddle := { Heddle.reset with active := some oneSlot, standbyReq := true } }, ?_⟩⟩
  all_goals decide +kernel

/-- A state in SLEEP with a wake under way since the start. -/
def waking (refTime : Nat) (low : Bool) : State :=
  { stateIn .sleep [] with refTime := refTime, aon := { Aon.reset with resetLow := low, wake := some (1, 0) } }

theorem test_wit_WakesAndTheirEnd :
    ((stateIn .sleep []).aon.wake = none ∧ (10 ≤ 10) ∧ (9 < 10)) ∧
    ((stateIn .sleep [(Fld.CAN_WAKE_CFG_MODE, 3, 1)]).get Fld.CAN_WAKE_CFG_MODE 3 = 1 ∧
      (stateIn .sleep [(Fld.CAN_WAKE_CFG_MODE, 3, 1)]).get Fld.CAN_WAKE_CFG_FILTER 3 ≤ 200) ∧
    (∃ s : State, s.dev = .sleep ∧ s.aon.wake = none ∧ s.get Fld.CAN_WAKE_CFG_MODE 0 = 2 ∧
      (List.range 8).find? (fun f => s.get Fld.CAN_WAKE_CFG_FLT_MASK 0 / 2 ^ f % 2 == 1 && s.wakeFilter f 0 false []) = some 7) ∧
    (∃ s : State, s.dev = .sleep ∧ s.aon.wake = some (1, 0) ∧ 0 + 50 * Config.us ≤ s.refTime ∧ s.aon.resetLow = false) ∧
    (∃ s : State, s.dev = .sleep ∧ s.aon.wake = some (1, 0) ∧ 0 + 50 * Config.us ≤ s.refTime ∧ s.aon.resetLow = true) ∧
    (∃ s : State, s.dev = .sleep ∧ s.aon.wake = some (1, 0) ∧
      0 + s.get Fld.PWR_WAKE_TIMEOUT 0 * 1000 * Config.us ≤ s.refTime) := by
  refine ⟨by decide +kernel, by decide +kernel,
    ⟨stateIn .sleep [(Fld.CAN_WAKE_CFG_MODE, 0, 2), (Fld.CAN_WAKE_CFG_FLT_MASK, 0, 128),
      (Fld.CAN_WAKE_FLT_CFG_EN, 7, 1)], ?_⟩,
    ⟨waking 200000 false, ?_⟩, ⟨waking 200000 true, ?_⟩, ⟨waking 2000000000 false, ?_⟩⟩
  all_goals decide +kernel

/-- A state whose count and remaining hold are given. -/
def held (d : DevState) (count : Dword) (hold : Nat) : State :=
  { stateIn d [] with whorl := { Whorl.reset with count := count, hold := hold } }

theorem test_wit_WhorlStepsHoldsAndTicks :
    ((held .standby 5 0).setUp = true ∧ (held .standby 5 0).dev ≠ .run ∧ (held .standby 5 0).whorl.hold = 0 ∧
      (-5 : BitVec 64) ≠ 0 ∧ 0 ≤ ((held .standby 5 0).now : Int) + (-5 : BitVec 64).toInt ∧
      ((held .standby 5 0).now : Int) + (-5 : BitVec 64).toInt < 2 ^ 64) ∧
    ((held .standby 5 0).now : Int) + (-6 : BitVec 64).toInt < 0 ∧
    2 ^ 64 ≤ ((held .standby (-1) 0).now : Int) + (1 : BitVec 64).toInt ∧
    ((held .run 8000 0).dev = .run ∧ (held .run 8000 0).whorl.hold = 0 ∧ (-4000 : BitVec 64).toInt < 0 ∧
      (-4000 : BitVec 64).toInt.natAbs ≤ (held .run 8000 0).get Fld.WHORL_HOLD_MAX_TICKS 0) ∧
    (held .run 8000 0).get Fld.WHORL_HOLD_MAX_TICKS 0 < (-4001 : BitVec 64).toInt.natAbs ∧
    ((held .run 8000 1).powered = true ∧ (held .run 8000 1).sleeping = false ∧ (held .run 8000 1).whorl.hold ≠ 0 ∧
      (held .run 8000 1).pending = []) ∧
    ((held .reset 5 0).dev = .reset ∧ (held .sleep 5 0).dev = .sleep) ∧
    ((held .standby 5 0).powered = true ∧ (held .standby 5 0).whorl.rate = 0 ∧
      (held .standby 5 0).get Fld.WHORL_RATE_ADJ_ADJ 0 = 0 ∧ (held .standby 5 0).whorl.fraction < 2 ^ 16 * 1000000000) := by
  decide +kernel

theorem test_wit_StepDuringAHoldIsSummed :
    ((held .run 8000 1).setUp = true ∧ (held .run 8000 1).whorl.hold ≠ 0) ∧
    ((-3999 : BitVec 64).toInt - (1 : Nat) < 0 ∧
      ((-3999 : BitVec 64).toInt - (1 : Nat)).natAbs ≤ (held .run 8000 1).get Fld.WHORL_HOLD_MAX_TICKS 0) ∧
    ((-4000 : BitVec 64).toInt - (1 : Nat) < 0 ∧
      (held .run 8000 1).get Fld.WHORL_HOLD_MAX_TICKS 0 < ((-4000 : BitVec 64).toInt - (1 : Nat)).natAbs) ∧
    (1 : BitVec 64).toInt - (1 : Nat) = 0 ∧
    (0 < (2 : BitVec 64).toInt - (1 : Nat) ∧ (held .run 8000 1).now + ((2 : BitVec 64).toInt - (1 : Nat)) < 2 ^ 64) := by
  decide +kernel

/-- A state with both gPTP sets valid, their OFS 10, in a domain. -/
def domains (d : DevState) (domain : Nat) : State :=
  stateIn d [(Fld.WHORL_DOMSET_CFG_VALID, 0, 1), (Fld.WHORL_DOMSET_CFG_VALID, 1, 1), (Fld.WHORL_DOMSET_OFS_OFS, 0, 10),
    (Fld.WHORL_DOMSET_OFS_OFS, 1, 10), (Fld.WHORL_CTRL_DOMAIN, 0, domain), (Fld.WHORL_DOMSET_LOSS_US, 0, 0)]

theorem test_wit_DomainsAndTheirRegisters :
    ((domains .standby 0).setUp = true ∧ (domains .standby 0).domain ≠ 1 ∧
      ¬ ((domains .standby 0).domain = 1 ∨ (domains .standby 0).domain = 2)) ∧
    (stateIn .standby []).isSet Fld.WHORL_DOMSET_CFG_VALID 1 = false ∧
    (domains .run 0).dev = .run ∧
    ((stateIn .run [(Fld.WHORL_CTRL_DOMAIN, 0, 1)]).domain = 3 - 2 ∧
      (stateIn .run [(Fld.WHORL_CTRL_DOMAIN, 0, 1)]).isSet Fld.WHORL_DOMSET_CFG_VALID (2 - 1) = false) ∧
    ((domains .standby 1).domain ≠ 0 ∧ (domains .standby 1).dev ≠ .run) ∧
    ((domains .standby 0).isSet Fld.WHORL_DOMSET_CFG_VALID (2 - 1) = true ∧
      ((domains .standby 0).stepBy ((domains .standby 0).ofs (2 - 1))).isSome = true) ∧
    ((domains .run 1).domain = 3 - 2 ∧ ((domains .run 1).stepBy ((domains .run 1).ofs (2 - 1))).isSome = true) ∧
    ((domains .standby 1).domain = 0 + 1 ∧ (domains .standby 1).domain ≠ 1 + 1) ∧
    ((domains .run 2).powered = true ∧ (domains .run 2).isSet Fld.WHORL_DOMSET_STATUS_LOST 0 = false ∧
      Sparse.get 0 (domains .run 2).net.written 0 + (domains .run 2).get Fld.WHORL_DOMSET_LOSS_US 0 * Config.us ≤
        (domains .run 2).refTime ∧
      (((domains .run 2).set Fld.WHORL_DOMSET_STATUS_LOST 0 1).raise Flg.WHORL_DOM_EVT_DOM_LOST 0).domain ≠ 0 + 1) ∧
    (((domains .run 1).set Fld.WHORL_DOMSET_STATUS_LOST 0 1).raise Flg.WHORL_DOM_EVT_DOM_LOST 0).domain = 0 + 1 ∧
    ((((domains .run 1).set Fld.WHORL_DOMSET_CFG_AUTO_SWITCH 0 1).set Fld.WHORL_DOMSET_STATUS_LOST 0 1).raise
        Flg.WHORL_DOM_EVT_DOM_LOST 0).isSet Fld.WHORL_DOMSET_CFG_AUTO_SWITCH 0 = true ∧
    (((((domains .run 1).set Fld.WHORL_DOMSET_CFG_AUTO_SWITCH 0 1).set Fld.WHORL_DOMSET_STATUS_LOST 0 1).raise
        Flg.WHORL_DOM_EVT_DOM_LOST 0).switchSet (1 - 0)).isSome = true ∧
    (stateIn .run []).refTime < Sparse.get 0 (stateIn .run []).net.written 0 +
      (stateIn .run []).get Fld.WHORL_DOMSET_LOSS_US 0 * Config.us := by
  decide +kernel

/-- A state with a full TIME_IN FIFO on pin 15, or a captured head. -/
def stamped (n : Nat) (caps : List Nat) : State :=
  { stateIn .standby [(Fld.WHORL_TINPIN_CFG_EN, 15, 1), (Fld.WHORL_TINPIN_CFG_EDGE, 15, 2)] with
    net := ⟨[], [(15, List.replicate n (0, false))], caps, []⟩ }

/-- A state at count 4,000 whose loom 0 has completed b beats, 3 of them before the last sample, and is at work or not. -/
def beaten (b : Nat) (atWork : Bool) : State :=
  { stateIn .run [] with
    whorl := { Whorl.reset with count := 4000 }
    heddle := { Heddle.reset with beats := [(0, b)], beatBase := [(0, 3)] }
    selv := { Selv.reset with running := if atWork then some ⟨0, 0, false, 0⟩ else none } }

theorem test_wit_ReferenceWaveAndStamps :
    ((stateIn .run []).powered = true ∧ (stateIn .run []).whorl.refValid = true ∧ (stateIn .run []).timed = false) ∧
    ({ stateIn .run [] with selv := { Selv.reset with on := true } } : State).timed = true ∧
    (∃ s : State, s.timed = true ∧ s.isSet Fld.WHORL_STATUS_HOLDOVER 0 = true ∧ s.whorl.refValid = false ∧
      s.whorl.expired = false ∧ s.whorl.lostAt + s.get Fld.SELV_TIMING_REF_HOLD 0 * 1000 * Config.us ≤ s.refTime) ∧
    State.reset.refTime < State.reset.whorl.lostAt + State.reset.get Fld.SELV_TIMING_REF_HOLD 0 * 1000 * Config.us ∧
    ((stateIn .run []).whorl.unsynced = [] ∧ (held .run 4000 0).now / 4000 ≠ (held .run 4000 0).heddle.beatAt ∧
      (held .run 3999 0).now / 4000 = (held .run 3999 0).heddle.beatAt) ∧
    (0 ∉ (beaten 5 false).busyLooms ∧ (beaten 5 false).beatsMixed 0 = false ∧ 0 ∈ (beaten 5 true).busyLooms ∧
      (beaten 5 true).beatsMixed 0 = false ∧
      Sparse.get 0 (beaten 5 true).heddle.beatBase 0 ≤ Sparse.get 0 (beaten 5 true).heddle.beats 0 ∧
      Sparse.get 0 (beaten 3 false).heddle.beats 0 = Sparse.get 0 (beaten 3 false).heddle.beatBase 0) ∧
    ({ stateIn .run [] with whorl := { Whorl.reset with unsynced := [72] } } : State).whorl.unsynced = [72] ∧
    ((stamped 15 []).powered = true ∧ (stamped 15 []).isSet Fld.WHORL_TINPIN_CFG_EN 15 = true ∧
      (stamped 15 []).tinSelects 15 true = true ∧ Sparse.find (stamped 15 []).net.levels 15 ≠ some true ∧ 4 * (stamped 15 []).get Fld.WHORL_TINPIN_CFG_FILTER 15 ≤ 1000 ∧
      ((stamped 15 []).tinFifo 15).length < 16) ∧
    16 ≤ ((stamped 16 []).tinFifo 15).length ∧
    3 < 4 * (stateIn .run [(Fld.WHORL_TINPIN_CFG_FILTER, 0, 1)]).get Fld.WHORL_TINPIN_CFG_FILTER 0 ∧
    Sparse.find ({ stateIn .run [] with net := ⟨[], [], [], [(0, true)]⟩ } : State).net.levels 0 = some true ∧
    ((stamped 16 [15]).setUp = true ∧ 15 ∈ (stamped 16 [15]).net.captured) ∧ ¬ 15 ∈ (stamped 16 []).net.captured := by
  refine ⟨by decide +kernel, by decide +kernel, ⟨{ stateIn .run [(Fld.WHORL_STATUS_HOLDOVER, 0, 1)] with
    refTime := 2 ^ 60, selv := { Selv.reset with on := true }, whorl := { Whorl.reset with refValid := false } }, ?_⟩, ?_⟩
  all_goals decide +kernel

/-- A manifest with version v that accepts stepping B1. -/
def manifest (v : Nat) : List Byte := List.replicate 8 0 ++ [0x0B, 0x02, 0, 0] ++ leBytes 4 v ++ List.replicate 240 0

/-- What a BOOT finds, with checkers that miss their fault. -/
def inputs (missed : List (Nat × Nat)) : BootInputs := ⟨[], true, [], missed, 750, 16, 65535, 0, 192000, 1, 1⟩

/-- A state in BOOT whose flash holds a header in force, with an epoch advance held for the journal. -/
def booted : State :=
  { stateIn .boot [] with
    mem := Mem.write [] (Mem.flash 0) (headerOf [] 0 0 1), aon := { Aon.reset with pendingEpoch := true } }

theorem test_wit_BootStepsInOrder :
    (booted.headerNow booted.sec.journalKey ≠ none ∧
      ((booted.setAll [(Fld.SEC_STATUS_HUB_SLOT, 0, booted.headerSlot 0),
        (Fld.SEC_STATUS_SELV_SLOT, 0, booted.headerSlot 1)]).bootReplay).aon.pendingEpoch = true) ∧
    (stateIn .run []).dev ≠ .boot ∧ (stateIn .boot []).dev = .boot ∧
    (stateIn .boot []).headerNow (stateIn .boot []).sec.journalKey = none ∧
    manifestCompat (leBytes 4 0 ++ leBytes 4 1) ≠ manifestCompat (manifest 0) ∧ manifestB1 [] = false ∧
    (manifestCompat (manifest 5) = manifestCompat (manifest 6) ∧ manifestB1 (manifest 5) = true ∧
      manifestB1 (manifest 6) = true) ∧
    manifestVersion (manifest 5) < (stateIn .boot [(Fld.SEC_HUB_FLOOR_FLOOR, 0, 6)]).get Fld.SEC_HUB_FLOOR_FLOOR 0 ∧
    manifestVersion (manifest 5) < (stateIn .boot [(Fld.SEC_SELV_FLOOR_FLOOR, 0, 6)]).get Fld.SEC_SELV_FLOOR_FLOOR 0 ∧
    ((stateIn .boot [(Fld.SEC_HUB_FLOOR_FLOOR, 0, 5)]).get Fld.SEC_HUB_FLOOR_FLOOR 0 ≤ manifestVersion (manifest 5) ∧
      (stateIn .boot []).get Fld.SEC_SELV_FLOOR_FLOOR 0 ≤ manifestVersion (manifest 6)) ∧
    ({ State.reset with aon := { Aon.reset with pendingB := true } } : State).aon.pendingB = true ∧
    (State.reset.aon.pendingB = false ∧ firstMissed (inputs []).missed = none ∧
      firstMissed (inputs [(2, 7), (1, 9)]).missed = some (1, 9)) := by
  decide +kernel

/-- A command of job 0 with an opcode and a payload, on an engine. -/
def cmdOn (uid op : Nat) (e : Engine) (p : Phase) (payload : List Byte) : Cmd :=
  ⟨uid, .firmware, 0, (BitVec.ofNat 8 op :: List.replicate 23 0 ++ payload ++ List.replicate 40 0).take 64, 0, e, e, p, none,
    false, false, false, 0, 0, 0, false, 0, 0, 0, false, false, 0, [], [], 0, false, false, 0, [], .plain, none, 0,
    none, false, false, (0, 0, 0), 0, []⟩

/-- A state with every skein in service, the listed fields written, and the listed commands. -/
def withCmds (d : DevState) (w : List (Field × Nat × Nat)) (cs : List Cmd) : State :=
  { stateIn d ((Fld.HUB_SKEIN_LIVE_LIVE, 0, 2 ^ 64 - 1) :: w) with cmds := cs }

/-- A MATMUL that waits for its launch time on the loom of skein 63. -/
def timed (launch : Nat) : Cmd := { cmdOn 1 0x01 (.loom 63) .queued [] with launch := launch, guard := 400 }

/-- A state with one such command. -/
def timedAt (count launch : Nat) : State :=
  { withCmds .standby [] [timed launch] with whorl := { Whorl.reset with count := BitVec.ofNat 64 count } }

theorem test_wit_LaunchAndYield :
    ((timedAt 0 400).cmd? 1 = some (timed 400) ∧ (timed 400).launch ≠ 0 ∧ 400 ≤ (timedAt 0 400).now + (timed 400).guard ∧
      (timed 400).phase = .queued) ∧
    (timedAt 0 401).now + (timed 401).guard < 401 ∧
    ((timedAt 400 400).startable (timed 400) = true ∧ (timedAt 400 400).chooses (timed 400) = true) ∧
    (∃ s : State, ∃ c : Cmd, s.cmd? 1 = some c ∧ s.startable c = true ∧ s.chooses c = true ∧ c.phase = .yielded) ∧
    (timedAt 399 400).now < (timed 400).launch ∧
    ({ timed 400 with desc := [1, 0, 0, 0, 0, 0, 1] } : Cmd).tokenOk = false ∧
    (stateIn .safe []).serving = false ∧
    ((timed 400).launch + (timed 400).tol ≤ (timedAt 400 400).now ∧ (timed 400).late = false ∧
      (timedAt 400 400).synced (timed 400).home = true ∧
      (timedAt 400 400).isSet Fld.HEDDLE_STATUS_ABORTING 0 = false ∧ (timedAt 400 400).skipsLate (timed 400) = false) ∧
    ((timedAt 400 400).skipsLate { timed 400 with policy := 15 } = true ∧
      ({ timed 400 with policy := 15 } : Cmd).phase = .queued) ∧
    (timedAt 399 400).now < (timed 400).launch + (timed 400).tol ∧ (timed 0).launch = 0 ∧
    (∃ s : State, ∃ c : Cmd, s.cmds.find? (fun c => decide (c.engine = .loom 63) && decide (c.phase = .running) &&
        c.yieldReq) = some c ∧
      (s.cmds.filter (fun d => decide (d.engine = .loom 63) && decide (d.phase = .yielded))).length < 2) ∧
    (∃ s : State, (s.cmds.filter (fun d => decide (d.engine = .loom 63) && decide (d.phase = .yielded))).length = 2) ∧
    (∀ c ∈ (timedAt 0 400).cmds, c.yieldReq = false) := by
  iterate 3 refine And.intro (by decide +kernel) ?_
  refine ⟨⟨withCmds .standby [] [cmdOn 1 0x01 (.loom 63) .yielded []], cmdOn 1 0x01 (.loom 63) .yielded [], ?_⟩,
    ?_⟩
  rotate_left
  iterate 7 refine And.intro (by decide +kernel) ?_
  refine ⟨⟨withCmds .run [] [cmdOn 1 0x01 (.loom 63) .yielded [], { cmdOn 2 0x01 (.loom 63) .running [] with yieldReq := true }],
      { cmdOn 2 0x01 (.loom 63) .running [] with yieldReq := true }, ?_⟩,
    ⟨withCmds .run [] [cmdOn 1 0x01 (.loom 63) .yielded [], cmdOn 2 0x01 (.loom 63) .yielded []], ?_⟩, by decide +kernel⟩
  all_goals decide +kernel

/-- A state in which core 1 of skein 63 is in a core state with a bundle at its program counter, for PROG 1. -/
def coreAt (st : CoreState) (w : Nat) : State :=
  { withCmds .run [] [cmdOn 1 0x0A (.prog 63 1) .running []] with
    cores := [(127, { Core.reset with state := st, prog := some 1, imemLen := 1024, regs := CoreRegs.zero.setG 5 1 })]
    mem := Mem.write [] (Mem.imem 63 1) (leBytes 64 w) }

/-- A bundle whose BR slot has an OP, names g5 and has an immediate. -/
def brBundle (op imm : Nat) : Nat := 2 ^ 8 + 2 ^ 2 + 2 ^ 144 * (op * 2 ^ 40 + 5 * 2 ^ 31 + imm)

theorem test_wit_SpindleBundles :
    ((coreAt .run 0).coreRuns 63 1 = some 1 ∧ (coreAt .run 0).coreHalted 63 1 = false ∧
      ((coreAt .run 0).core 63 1).state = .run ∧ staticTrap ((coreAt .run 0).bundleAt 63 1) = some 1) ∧
    ((coreAt .stalled 0).coreRuns 63 1 = some 1 ∧ ((coreAt .stalled 0).core 63 1).state = .stalled) ∧
    (let s := coreAt .run (brBundle 0x0B 255);
      staticTrap (s.bundleAt 63 1) = none ∧
      (branchOf (s.core 63 1) (s.mayWait 0) (s.bundleAt 63 1)).trap = some (9, 255)) ∧
    (let s := { coreAt .run (brBundle 0x08 0) with tokens := [(1, ⟨0, 1, false, some 0, [], [], []⟩)] };
      staticTrap (s.bundleAt 63 1) = none ∧
      (branchOf (s.core 63 1) (s.mayWait 0) (s.bundleAt 63 1)).trap = none ∧
      (branchOf (s.core 63 1) (s.mayWait 0) (s.bundleAt 63 1)).wait = some 1 ∧ tokenNull 1 = false ∧
      (s.core 63 1).waitGranted = false) ∧
    (let s := coreAt .run (2 ^ 8);
      staticTrap (s.bundleAt 63 1) = none ∧
      (branchOf (s.core 63 1) (s.mayWait 0) (s.bundleAt 63 1)).trap = none ∧
      (branchOf (s.core 63 1) (s.mayWait 0) (s.bundleAt 63 1)).wait = none ∧ s.fenceOpen 63 1 0 = false ∧
      (s.slotWrites 63 1 0 (s.core 63 1).regs (s.bundleAt 63 1)).1.trap = none ∧
      s.issueSlots 63 1 0 (s.core 63 1).regs (s.bundleAt 63 1) = []) ∧
    ((coreAt .halted 0).core 63 1).state ≠ .run ∧ ((coreAt .run 0).core 63 1).state ≠ .stalled ∧
    ({ coreAt .run 0 with selv := { Selv.reset with halted := [127] } } : State).coreHalted 63 1 = true ∧
    (stateIn .alarm []).serving = false ∧
    (let s := { stateIn .run [] with
        cores := [(127, { Core.reset with cut := some 0 })]
        mem := Mem.write [] (Mem.imem 63 1) (leBytes 64 1) };
      s.coreRuns 63 1 = none ∧ s.coreCut 63 1 = true ∧ s.coreHalted 63 1 = false ∧ s.trapOf 63 1 = some (1, 0)) := by
  decide +kernel

theorem test_wit_IntegerSlotArithmetic :
    let v := 31 * 2 ^ 47 + 5 * 2 ^ 42 + 6 * 2 ^ 37;
    let r := (CoreRegs.zero.setG 5 (2 ^ 64 - 1)).setG 6 (2 ^ 63);
    bitsOf v 47 5 = 31 ∧ bitsOf v 36 1 = 0 ∧ r.gr (bitsOf v 42 5) = (-1 : BitVec 64).toNat ∧
    r.gr (bitsOf v 37 5) = (0x8000000000000000 : BitVec 64).toNat ∧
    CoreRegs.zero.gr (bitsOf v 37 5) = (0 : BitVec 64).toNat := by
  decide +kernel

/-- A PROG of job 0 for core 1 of skein 63, with LOAD or without. -/
def progCmd (load : Nat) : Cmd :=
  cmdOn 1 0x0A (.prog 63 1) .running (List.replicate 8 0 ++ [63, 1, 0, 0, BitVec.ofNat 8 load])

/-- A state with that PROG running and the listed residents. -/
def progState (load : Nat) (rs : List Resident) : State :=
  { withCmds .run [] [progCmd load] with residents := [(127, rs)] }

theorem test_wit_ProgramsAndDebugger :
    ((progState 1 []).runningCmd 1 0x0A = some (progCmd 1) ∧ (progCmd 1).engine = .prog 63 1 ∧
      ((progState 1 []).core 63 1).prog = none ∧ (Prog.ofBytes (progCmd 1).desc).load = true) ∧
    (∃ s : State, s.runningCmd 1 0x0A = some (progCmd 1) ∧ (s.core 63 1).prog ≠ none) ∧
    ((Prog.ofBytes (progCmd 0).desc).load = false ∧ (progState 0 []).residentsOf 63 1 = []) ∧
    (∃ t, (progState 0 [⟨0, 0, 1, 0, 0, 0, true, []⟩]).residentsOf 63 1 = [⟨0, 0, 1, 0, 0, 0, true, []⟩] ∧
      (Prog.ofBytes (progCmd 0).desc).entry < 0 + 1 ∧
      (stateIn .run [(Fld.HEDDLE_DETJ_CFG_TWIST, 0, 1)]).fixedTwist 0 = true ∧
      (progState 0 []).openWindows 63 true [] = some t) ∧
    (stateIn .run [(Fld.SEC_STATUS_DEBUG_LOCKED, 0, 1)]).isSet Fld.SEC_STATUS_DEBUG_LOCKED 0 = true ∧
    (let s := stateIn .run [(Fld.SEC_STATUS_DEBUG_LOCKED, 0, 0)];
      s.isSet Fld.SEC_STATUS_DEBUG_LOCKED 0 = false ∧ (∀ p, p < 4 → s.isSet Fld.SELV_PAIR_CFG_VALID p = false) ∧
      s.coreHalted 63 1 = false) ∧
    ({ stateIn .run [] with selv := { Selv.reset with halted := [127] } } : State).coreHalted 63 1 = true ∧
    (let s := stateIn .run [(Fld.SEC_STATUS_DEBUG_LOCKED, 0, 0), (Fld.SELV_PAIR_CFG_VALID, 3, 1),
        (Fld.SELV_PAIR_CFG_CHECK_HANK, 3, 7)];
      s.isSet Fld.SEC_STATUS_DEBUG_LOCKED 0 = false ∧ (s.pairOfHank Fld.SELV_PAIR_CFG_CHECK_HANK 63).isSome = true) ∧
    (let s := { stateIn .run [(Fld.SEC_STATUS_DEBUG_LOCKED, 0, 0)] with selv := { Selv.reset with on := true, halted := [128] } };
      s.isSet Fld.SEC_STATUS_DEBUG_LOCKED 0 = false ∧ s.selv.on = true ∧ 128 ∈ s.selv.halted) ∧
    (2 ^ 19 - 4 < 2 ^ 19 ∧ (2 ^ 19 - 4) % 4 = 0 ∧ 2 ^ 19 - 4 + (leBytes 4 1).length ≤ 2 ^ 19) ∧
    ∀ i < 2 ^ 19, Mem.read State.reset.mem (Mem.selvedge 0 i) = Mem.read State.reset.mem (Mem.selvedge 1 i) := by
  refine ⟨by decide +kernel, ⟨{ progState 1 [] with cores := [(127, { Core.reset with prog := some 1 })] }, ?_⟩,
    by decide +kernel, ⟨progState 0 [], by decide +kernel, by decide +kernel, by decide +kernel, rfl⟩, ?_, ?_, ?_, ?_, ?_, ?_, ?_⟩
  rotate_right
  · intro i hi
    have h0 : ∀ a, 2 ^ 72 ≤ a → Mem.read State.reset.mem a = 0 := fun a h => by
      show Mem.default a = 0
      unfold Mem.default; rw [if_neg (by omega)]
    rw [h0, h0] <;> simp [Mem.selvedge] <;> omega
  all_goals decide +kernel

/-- A state with a token's waiters, COUNT and TARGET, a signal of amount 3 in flight to it, and a queued command. -/
def tokenState (count target : Nat) (ws : List Waiter) : State :=
  { withCmds .run [] [cmdOn 1 0x01 (.loom 0) .queued []] with
    tokens := [(65535, ⟨count, target, false, some 0, ws, [], []⟩)], signals := [(65535, 3), (1, 1)] }

theorem test_wit_TokenSignalsAndWaits :
    (let s := tokenState 65532 1 [];
      s.signals = (65535, 3) :: [(1, 1)] ∧ tokenNull 65535 = false ∧ s.heddle.tokenReset = false ∧
      s.relays 65535 = false ∧ s.heddle.fault = none ∧ (s.token 65535).count + 3 ≤ 0xFFFF ∧
      (s.token 65535).waiters = []) ∧
    (let s := tokenState 4 7 [.cmd 1];
      (s.token 65535).waiters = [.cmd 1] ∧ (s.token 65535).level = false ∧
      s.cmd? 1 = some (cmdOn 1 0x01 (.loom 0) .queued []) ∧ (s.token 65535).target ≤ (s.token 65535).count + 3) ∧
    (∀ p ∈ (tokenState 0 1 []).signals, p.1 ≠ 2) ∧
    (let c := { cmdOn 1 0x01 (.loom 0) .queued [] with desc := [1, 0, 0, 0, 0, 0, 1] };
      let s := withCmds .run [] [c];
      s.cmd? 1 = some c ∧ c.phase = .queued ∧ s.isHead c = true ∧ c.registered = false ∧ c.tokenOk = false) ∧
    (let s := coreAt .stalled (brBundle 0x08 0);
      s.coreWait 63 1 = some 1 ∧ (s.core 63 1).state = .stalled ∧ (s.core 63 1).waitReg = false ∧
      (s.core 63 1).waitGranted = false) ∧
    tokenNull 64512 = true ∧ tokenNull 64513 = false ∧ (tokenState 6 7 []).token 65535 = ⟨6, 7, false, some 0, [], [], []⟩ ∧
    (6 : Nat) < 7 ∧
    (tokenState 6 7 []).meetsGrant ((tokenState 6 7 []).token 65535) (.cmd 1) = false ∧
    (let s := tokenState 6 7 [];
      s.cutNow = false ∧
      (.cmd 1 : Waiter) ∉ (s.token 65535).waiters ∧ s.fixedTwist (((s.token 65535).owner).getD 0) = false ∧
      ({ s with tokens := [(65535, ⟨6, 7, false, some 0, [], [(0, (13, 0), false)], []⟩)] } : State).meetsGrant
        ⟨6, 7, false, some 0, [], [(0, (13, 0), false)], []⟩ (.cmd 1) = true) ∧
    (let s := stateIn .run [(Fld.HEDDLE_STATUS_ABORTING, 0, 1), (Fld.HEDDLE_DETJ_CFG_TWIST, 0, 1)];
      let t := { s with
        cmds := [cmdOn 1 0x01 (.loom 0) .queued []]
        heddle := { s.heddle with cutWaits := [1] }
        cores := [(127, { Core.reset with cutWait := true })]
        tokens := [(65535, ⟨6, 7, false, some 0, [], [], [.core 0 0]⟩)] };
      t.cmd? 1 = some (cmdOn 1 0x01 (.loom 0) .queued []) ∧ t.cutNow = true ∧ 1 ∈ t.heddle.cutWaits ∧
      (t.core 63 1).cutWait = true ∧ (t.token 65535).level = false ∧ t.fixedTwist ((t.token 65535).owner.getD 0) = true ∧
      t.contested ((t.token 65535).cut ++ [.cmd 1]) = true) ∧
    (let s := { tokenState 6 7 [] with
        tokens := [(65535, ⟨6, 7, false, some 0, [], [(0, (13, 0), false)], []⟩)]
        regs := ((tokenState 6 7 []).set Fld.HEDDLE_DETJ_CFG_TWIST 0 1).regs };
      (.cmd 1 : Waiter) ∉ (s.token 65535).waiters ∧ s.meetsGrant (s.token 65535) (.cmd 1) = true ∧
      s.fixedTwist (((s.token 65535).owner).getD 0) = true) ∧
    ((tokenState 6 7 [.core 0 0, .cap 0]).token 65535).level = false ∧
    (tokenState 6 7 [.core 0 0, .cap 0]).contested ((tokenState 6 7 [.core 0 0, .cap 0]).token 65535).waiters = true := by
  decide +kernel

theorem test_wit_TokensAssignedAndReleased :
    ((stateIn .run []).setUp = true ∧ (1023 : Nat) ≠ 0 ∧ ((stateIn .run []).token (63 * 1024 + 1023)).owner = none ∧
      ((stateIn .run []).token (63 * 1024 + 1023)).waiters = []) ∧
    (let s := tokenState 0 1 [];
      (s.token 65535).owner = some 0 ∧ s.jobBusy 0 = true ∧ s.mayRelease 0 = false) ∧
    (stateIn .run []).mayRelease 255 = true := by
  decide +kernel

theorem test_wit_RingEngineCommands :
    (let c := cmdOn 1 0x0B .ring .running ([1, 0, 0, 0, 0, 0, 0, 0] ++ [5]);
      let s := { withCmds .run [] [c] with whorl := { Whorl.reset with count := 6 } };
      s.runningCmd 1 0x0B = some c ∧ c.registered = false ∧ c.field 32 8 ≠ 0 ∧ c.field 32 8 < s.now) ∧
    (let c := { cmdOn 1 0x0B .ring .running ([1, 0, 0, 0, 0, 0, 0, 0] ++ [5]) with registered := true };
      let s := { withCmds .run [] [c] with whorl := { Whorl.reset with count := 5 } };
      let u := { withCmds .run [] [c] with whorl := { Whorl.reset with count := 4 } };
      s.runningCmd 1 0x0B = some c ∧ c.registered = true ∧ c.field 32 8 ≠ 0 ∧ c.field 32 8 ≤ s.now ∧
      u.now < c.field 32 8) ∧
    (let c := cmdOn 1 0x0C .ring .running [1, 0, 1, 0];
      (withCmds .run [] [c]).runningCmd 1 0x0C = some c) ∧
    (let c := { cmdOn 1 0x0D .ring .running [] with awaits := [2] };
      (withCmds .run [] [c]).runningCmd 1 0x0D = some c ∧ (∀ u ∈ c.awaits, (withCmds .run [] [c]).cmd? u = none) ∧
      ∃ u ∈ c.awaits, (withCmds .run [] [c, cmdOn 2 0x01 (.loom 0) .queued []]).cmd? u ≠ none) := by
  iterate 5 refine And.intro (by decide +kernel) ?_
  refine ⟨2, ?_, ?_⟩
  all_goals decide +kernel

/-- A MATMUL of job 0 in the queue of skein 1, and a state whose skein 0 may steal it. -/
def stealing (cs : List Cmd) : State :=
  withCmds .run [(Fld.HEDDLE_JOB_CFG_STEAL_EN, 0, 1), (Fld.HEDDLE_JOB_STEAL_MASK, 0, 1),
    (Fld.HEDDLE_JOB_CFG_CLASS, 0, 2)] cs

theorem test_wit_CompletionRecoveryAndStealing :
    (let c := cmdOn 1 0x01 (.loom 1) .ended [];
      let s := withCmds .run [] [c];
      s.cmd? 1 = some c ∧ c.phase = .ended ∧ s.tileReady c = true ∧ c.copyDue = false ∧ s.recordDue c = false) ∧
    (let d (uid due : Nat) : Cmd := { cmdOn uid 0x0E .digest .ended [] with work := .digested due [] };
      let s := withCmds .run [] [d 1 5, d 2 4];
      s.cmd? 2 = some (d 2 4) ∧ s.recordDue (d 2 4) = true ∧ s.recordTurn (d 2 4) = true ∧ s.recordDue (d 1 5) = true ∧
      d 2 4 ∈ s.cmds ∧ (d 2 4).dueAt < (d 1 5).dueAt) ∧
    (cmdOn 1 0x01 (.loom 1) .running []).phase ≠ .ended ∧
    (let c := { cmdOn 1 0x01 (.loom 1) .ended [] with engine := .loom 0 };
      c.copyDue = true ∧ (withCmds .run [] [c]).cmd? 1 = some c ∧
      ((withCmds .run [] [c]).readRows c.engine.skein 6 1 (rowsOf c.writes)).2 = 0 ∧
      ((withCmds .run [] [c]).writeRows c.home.skein 6 1 []).2 = 0 ∧
      ((withCmds .run [] [c]).meetRows c.home.skein 6 1 c.heldRows).2 = 0) ∧
    (∃ s : State, s.heddle.tokenReset = true ∧ s.signals = []) ∧ (tokenState 0 1 []).signals ≠ [] ∧
    (∃ s : State, s.isSet Fld.HEDDLE_STATUS_ABORTING 0 = true ∧ s.heddle.tokenReset = false ∧ s.cmds = []) ∧
    (timedAt 0 0).cmds ≠ [] ∧
    (let c := cmdOn 1 0x09 (.drafter 1 0) .queued [0, 0, 0, 0, 0, 0, 0, 0, 0, 0, 0, 0, 0, 0, 0, 0, 1];
      let s := stealing [c];
      s.cmd? 1 = some c ∧ c.thiefEngine 0 = some (.drafter 0 0) ∧ s.stealable c 0 = true ∧
      ∀ d ∈ s.cmds, d.thiefEngine 0 = some (.drafter 0 0) →
        stealRank 0 c.home.skein ≤ stealRank 0 d.home.skein ∨ s.stealable d 0 = false) ∧
    (timed 1).launch ≠ 0 := by
  iterate 4 refine And.intro (by decide +kernel) ?_
  refine ⟨⟨{ stateIn .run [] with heddle := { Heddle.reset with tokenReset := true } }, ?_⟩, by decide +kernel,
    ⟨stateIn .run [(Fld.HEDDLE_STATUS_ABORTING, 0, 1)], ?_⟩, by decide +kernel, by decide +kernel, by decide +kernel⟩
  all_goals decide +kernel

/-- A state in RUN whose region 0 of skein 0 gives rows 0 to 100 to job 0, with the listed commands. -/
def worked (w : List (Field × Nat × Nat)) (cs : List Cmd) : State :=
  withCmds .run ((Fld.SKEIN_BOB_REGION_VALID, 0, 1) :: (Fld.SKEIN_BOB_REGION_LAST, 0, 100) :: w) cs

/-- A running command on skein 0 that reads rows 0 to 1 and writes row 2, or the row of region 0's end and one past. -/
def working (op : Nat) (e : Engine) (payload : List Byte) (last : Nat) : Cmd :=
  { cmdOn 1 op e .running payload with reads := [⟨0, 0, 1⟩], writes := [⟨0, 2, last⟩] }

/-- Payloads that pass their checks: MATMUL, CONV, POOL and VEC of one element. -/
def goodMatmul : List Byte := [0, 0, 0, 0, 1, 0, 1, 0, 1, 0, 0, 0, 1, 0, 2, 0]
def goodConv : List Byte := [0, 0, 0, 0, 1, 0, 1, 0, 1, 0, 1, 0, 0, 0, 0, 0, 0, 0, 1, 0, 0, 0, 1, 0, 2, 0, 1, 1]
def goodPool : List Byte := [0, 0, 0, 0, 1, 0, 1, 0, 1, 0, 0, 0, 0, 0, 1, 1, 0, 0, 2, 0]
def goodVec : List Byte := [1, 0, 0, 0, 1, 0, 1, 0, 0, 0, 1, 0, 0, 0, 2, 0]

theorem test_wit_LoomAndVectorCommandsRun :
    ((worked [] [working 1 (.loom 0) [0xFF] 2]).runningCmd 1 1 = some (working 1 (.loom 0) [0xFF] 2) ∧
      matmulCheck (working 1 (.loom 0) [0xFF] 2).desc ≠ none) ∧
    ((worked [] [working 1 (.loom 0) goodMatmul 100]).runningCmd 1 1 = some (working 1 (.loom 0) goodMatmul 100) ∧
      matmulCheck (working 1 (.loom 0) goodMatmul 2).desc = none ∧
      (Matmul.ofBytes (working 1 (.loom 0) goodMatmul 2).desc).isSome = true) ∧
    ((worked [] [working 2 (.loom 0) goodConv 2]).runningCmd 1 2 = some (working 2 (.loom 0) goodConv 2) ∧
      convCheck (working 2 (.loom 0) [0xFF] 2).desc ≠ none ∧ convCheck (working 2 (.loom 0) goodConv 2).desc = none ∧
      (Conv.ofBytes (working 2 (.loom 0) goodConv 2).desc).isSome = true) ∧
    ((worked [] [working 3 (.vec 0) goodPool 2]).runningCmd 1 3 = some (working 3 (.vec 0) goodPool 2) ∧
      poolCheck (working 3 (.vec 0) [0xFF] 2).desc ≠ none ∧ poolCheck (working 3 (.vec 0) goodPool 2).desc = none ∧
      (Pool.ofBytes (working 3 (.vec 0) goodPool 2).desc).isSome = true) ∧
    ((worked [] [working 4 (.vec 0) goodVec 2]).runningCmd 1 4 = some (working 4 (.vec 0) goodVec 2) ∧
      vecCheck (working 4 (.vec 0) [0xFF] 2).desc ≠ none ∧ vecCheck (working 4 (.vec 0) goodVec 2).desc = none ∧
      (Vec.ofBytes (working 4 (.vec 0) goodVec 2).desc).isSome = true) ∧
    (∀ e, e = Engine.loom 0 ∨ e = .vec 0 → (let c := working 1 e goodMatmul 100;
      ((worked [] [c]).chargeCmd c 7).inRegions 0 (c.reads ++ c.writes) = true)) ∧
    (∀ e, e = Engine.loom 0 ∨ e = .vec 0 → (let c := working 1 e goodMatmul 101;
      ((worked [] [c]).chargeCmd c 7).inRegions 0 (c.reads ++ c.writes) = false)) := by
  iterate 5 refine And.intro (by decide +kernel) ?_
  refine ⟨?_, ?_⟩
  all_goals
    intro e h
    rcases h with rfl | rfl <;> decide +kernel

theorem test_wit_LoomAndVectorStoreOnlyTheirRows :
    let c := working 1 (.loom 0) goodMatmul 2;
    let u := (worked [] [c]).chargeCmd c 7;
    (worked [] [c]).runningCmd 1 0x01 = some c ∧ (∀ row ∈ rowsOf c.reads, u.parityBad 0 row = false) ∧
    (∀ row, u.parityBad 0 row = false) ∧ ∀ row w, u.raceWith 0 row w c.engine.source (some 1) = none :=
  ⟨by decide +kernel, by decide +kernel, fun _ => rfl, fun _ _ => rfl⟩

theorem test_wit_IntegerAccumulatorSaturatesOnly :
    (∀ n, n ≤ [(-1 : Int), 0].length → -2 ^ 31 ≤ (2 ^ 31 - 1 : Int) + ([(-1 : Int), 0].take n).sum ∧
      (2 ^ 31 - 1 : Int) + ([(-1 : Int), 0].take n).sum < 2 ^ 31) ∧
    ((-2 ^ 31 : Int) ≤ -2 ^ 31 ∧ (2 ^ 31 - 1 : Int) < 2 ^ 31) ∧
    (∃ x : Gemm, x.out = .int32 ∧ x.accum = false ∧ ∀ j, j ≤ x.chunks →
      -2 ^ 31 ≤ ((List.range j).map (x.chunkSum 0 0)).sum ∧ ((List.range j).map (x.chunkSum 0 0)).sum < 2 ^ 31) := by
  refine ⟨by decide, by decide, ?_⟩
  refine ⟨((Matmul.ofBytes (working 1 (.loom 0) goodMatmul 2).desc).get (by decide +kernel)).gemm (worked [] []) 0,
    by decide +kernel, by decide +kernel, by decide +kernel⟩

/-- An ATTN of phase MERGE over two records of stream 0. -/
def attnCmd (first : Byte) : Cmd :=
  { cmdOn 1 0x05 (.loom 0) .running ([first, 2, 0, 0, 0, 1, 2, 0] ++ List.replicate 22 0 ++ [50]) with
    work := .snap ⟨0, 0xFF, 0, 0xFF, 0⟩, reads := [⟨0, 0, 5⟩], writes := [⟨0, 50, 50⟩] }

/-- The context of stream 0: valid, of job 0, with D = 4 and 8-bit elements. -/
def contexts (cs : List Cmd) (slot pend : Byte) (cap : Nat) : State :=
  { worked [(Fld.MEMC_KV_CTRL_ENABLE, 0, 1), (Fld.MEMC_CAPACITY_GIB, 0, 64)] cs with
    mem := Mem.write [] (Mem.context 0) (List.replicate 8 0 ++ leBytes 4 cap ++ List.replicate 8 0 ++
      [1, 2, slot, pend, 0, 0, 0, 1]) }

/-- An ATTN of phase FULL (ph 0) or PARTIAL over stream 0, with the snapshot of n pages. -/
def attnRun (ph : Byte) (n : Nat) : Cmd :=
  { cmdOn 1 0x05 (.loom 0) .running ([0x8B, ph, 0, 0, 0, 0, 0, 0] ++ List.replicate 20 1) with
    work := .snap ⟨n, 0xFF, 0, 0xFF, 0⟩, reads := [⟨0, 0, 5⟩], writes := [⟨0, 50, 50⟩] }

/-- A state with stream 0 and a command after its charges. -/
def attnCharged (c : Cmd) : State :=
  ((contexts [c] 0xFF 0xFF 1).chargeCmd c 3).spend (.vec 0) (some c) ((contexts [c] 0xFF 0xFF 1).accountRow c) 5

theorem test_wit_AttnRuns :
    (let c := attnCmd 0x80;
      let t := attnCharged c;
      (contexts [c] 0xFF 0xFF 1).runningCmd 1 0x05 = some c ∧ attnCheck t 0 0 c.desc = none ∧
      (∃ x, Attn.ofBytes c.desc = some x ∧ x.phase = .merge) ∧ c.work = .snap ⟨0, 0xFF, 0, 0xFF, 0⟩ ∧
      t.inRegions 0 (c.reads ++ c.writes) = true ∧ t.readRows 0 c.engine.source 1 (rowsOf c.reads) = (t, 0) ∧
      (∀ row, t.parityBad 0 row = false) ∧
      t.inRegions 0 [⟨0, 0, 101⟩] = false) ∧
    (let c := attnRun 0 1;
      (contexts [c] 0xFF 0xFF 1).runningCmd 1 0x05 = some c ∧ (attnCharged c).inRegions 0 (c.reads ++ c.writes) = true ∧
      ∃ x, Attn.ofBytes c.desc = some x ∧ x.phase ≠ .merge ∧ ((attnCharged c).runsOf x 0 ⟨1, 0xFF, 0, 0xFF, 0⟩).2 ≠ 0) ∧
    (∀ ph, ph = 0 ∨ ph = 1 → (let c := attnRun ph 0;
      (contexts [c] 0xFF 0xFF 1).runningCmd 1 0x05 = some c ∧ (attnCharged c).inRegions 0 (c.reads ++ c.writes) = true ∧
      (attnCharged c).readRows 0 c.engine.source 1 (rowsOf c.reads) = (attnCharged c, 0) ∧
      ∃ x, Attn.ofBytes c.desc = some x ∧ (x.phase = .full ∨ x.phase = .partialRec) ∧
        ((attnCharged c).runsOf x 0 ⟨0, 0xFF, 0, 0xFF, 0⟩).2 = 0)) ∧
    (stateIn .run []).streamOk 0 0 = false ∧ Attn.ofBytes (attnCmd 0x83).desc = none ∧ (attnCmd 0x80).opcode = 0x05 ∧
    (∃ c : Cmd, c.work = .attnDone ⟨0, 0xFF, 0, 0xFF, 0⟩ [(50, [])] ∧ c.stolen = false) := by
  refine ⟨⟨by decide +kernel, by decide +kernel, ⟨_, rfl, by decide +kernel⟩, by decide +kernel, by decide +kernel, ?_,
    fun _ => rfl, by decide +kernel⟩, ⟨by decide +kernel, by decide +kernel, ⟨_, rfl, by decide +kernel, by decide +kernel⟩⟩,
    ?_, by decide +kernel, by decide +kernel, by decide +kernel,
    ⟨{ attnCmd 0x80 with work := .attnDone ⟨0, 0xFF, 0, 0xFF, 0⟩ [(50, [])] }, by decide +kernel⟩⟩
  · decide +kernel
  · intro ph h
    rcases h with rfl | rfl <;>
      exact ⟨by decide +kernel, by decide +kernel, by decide +kernel, ⟨_, rfl, by decide +kernel, by decide +kernel⟩⟩

/-- A SOLVE and a DYN of batch 1 on hank 0 that read from row 0. -/
def solveCmd : Cmd :=
  { cmdOn 1 0x07 (.ply 0) .running ([0, 0, 0, 0, 0, 0, 0, 0, 1, 0, 0, 0, 0, 0, 0, 0, 1, 0, 2, 0, 0, 0, 1, 0, 1] ++
      [0, 0, 0, 1, 0, 0, 0]) with reads := [⟨0, 0, 0⟩], writes := [⟨0, 1, 2⟩] }
def dynCmd : Cmd :=
  { cmdOn 1 0x08 (.ply 0) .running ([0, 0, 0, 0, 0, 0, 0, 0, 1, 0, 0, 0, 1, 0, 2, 0, 3, 0, 1, 1] ++
      [0, 0, 0, 0, 1, 0, 0, 0]) with reads := [⟨0, 0, 1⟩], writes := [⟨0, 2, 3⟩] }

/-- A state whose range entry 0 of ply 0 is valid and job 0's, and whose row 0 holds a model of one joint or does not. -/
def plyState (c : Cmd) (magic : Nat) : State :=
  { worked [] [c] with
    mem := Mem.write (Mem.write [] (Mem.row 0 0) (leBytes 2 magic ++ [1] ++ List.replicate 61 0 ++ [0xFF]))
      (Mem.range 0 0) [0, 0, 0, 0, 0, 1] }

theorem test_wit_PlyCommandsRun :
    (let t := (plyState solveCmd 0).chargeCmd solveCmd 9;
      (plyState solveCmd 0).runningCmd 1 0x07 = some solveCmd ∧ solveCheck t 0 none solveCmd.desc = none ∧
      (Solve.ofBytes solveCmd.desc).isSome = true ∧ t.inRegions 0 (solveCmd.reads ++ solveCmd.writes) = true) ∧
    solveCheck (plyState solveCmd 0) 1 none solveCmd.desc ≠ none ∧
    (let t := (plyState dynCmd 0x4A59).chargeCmd dynCmd 9;
      (plyState dynCmd 0x4A59).runningCmd 1 0x08 = some dynCmd ∧ dynCheck t 0 none dynCmd.desc = none ∧
      (∃ x, Dyn.ofBytes dynCmd.desc = some x ∧ x.modelOk t = true ∧ x.modelOk (plyState dynCmd 0) = false) ∧
      t.inRegions 0 (dynCmd.reads ++ dynCmd.writes) = true ∧ t.inRegions 0 [⟨0, 100, 101⟩] = false) ∧
    dynCheck (plyState dynCmd 0) 1 none dynCmd.desc ≠ none ∧
    (∃ s : State, ∃ c : Cmd, s.cmds.find? (fun c => decide (c.engine = .ply 7) && decide (c.phase = .running) &&
      c.yieldReq) = some c ∧ c.work = .bank 1) ∧
    (∀ c ∈ (plyState dynCmd 0).cmds, c.yieldReq = false) := by
  refine ⟨by decide +kernel, by decide +kernel, ⟨by decide +kernel, by decide +kernel, ⟨_, rfl, ?_⟩, ?_⟩, by decide +kernel,
    ⟨stateIn .run [] |> fun s => { s with cmds := [{ cmdOn 1 0x07 (.ply 7) .running [] with yieldReq := true, work := .bank 1 }] },
      { cmdOn 1 0x07 (.ply 7) .running [] with yieldReq := true, work := .bank 1 }, ?_⟩, by decide +kernel⟩
  all_goals decide +kernel

/-- A MOVE of one row from row 0 to row 1 of skein 0, or of another source kind. -/
def moveCmd (kinds n0 : Byte) : Cmd :=
  cmdOn 1 0x09 (.drafter 0 0) .running (List.replicate 8 0 ++ [1, 0, 0, 0, 0, 0, 0, 0, kinds, 0, n0, 0, 1, 0, 1, 0])

/-- A DIGEST of n extents from LPDDR address 0, with its record at 64. -/
def digestCmd (flags n : Byte) : Cmd :=
  cmdOn 1 0x0E .digest .running ([flags, 0, n, 0, 0, 0, 0, 0] ++ List.replicate 8 0 ++ [64])

theorem test_wit_MoveDigestAndCounters :
    (let c := moveCmd 0x11 1;
      let s := worked [] [c];
      let x := RowMove.ofBytes c.desc;
      s.runningCmd 1 0x09 = some c ∧ c.work = .plain ∧ moveCheck s 0 0 c.desc = none ∧ x.sk ≠ 2 ∧ x.dk ≠ 2 ∧
      (s.chargeCmd c 4).moveFits c x = true ∧ (s.chargeCmd c 4).inRegions 0 (x.reads 0 ++ x.writes 0) = true ∧
      (stateIn .run []).inRegions 0 (x.reads 0 ++ x.writes 0) = false) ∧
    (let c := { moveCmd 0x11 1 with work := .remote 0 0 [] };
      (worked [] [c]).runningCmd 1 0x09 = some c ∧ c.work ≠ .plain) ∧
    moveCheck (worked [] []) 0 0 (moveCmd 0x11 0).desc = some 0x0102 ∧
    (let c := moveCmd 0x12 1;
      let s := worked [(Fld.IWL_CTRL_MODE, 0, 2), (Fld.IWL_CTRL_DIM_X, 0, 1)] [c];
      let x := RowMove.ofBytes c.desc;
      s.runningCmd 1 0x09 = some c ∧ moveCheck s 0 0 c.desc = none ∧ x.sk = 2 ∧
      (s.chargeCmd c 4).moveFits c x = true ∧ (s.chargeCmd c 4).inRegions 0 (x.reads 0 ++ x.writes 0) = true) ∧
    (let c := digestCmd 0 0;
      let s := worked [(Fld.MEMC_CAPACITY_GIB, 0, 64)] [c];
      s.runningCmd 1 0x0E = some c ∧ digestCheck (s.chargeCmd c 4) 0 c.desc = none ∧ c.field 26 2 = 0 ∧
      c.field 32 8 ≤ (s.chargeCmd c 4).lpddrBytes ∧ c.field 40 8 ≠ 0 ∧
      (s.chargeCmd c 4).recordFits c (c.field 40 8) = true ∧ c.field 24 1 / 2 % 2 = 0 ∧ s.recordTurn c = true) ∧
    (let c := { digestCmd 0 0 with since := 5 };
      let s := worked [] [c, { cmdOn 2 0x0E .digest .ended [] with work := .digested 4 [] }];
      s.runningCmd 1 0x0E = some c ∧ s.recordTurn c = false) ∧
    (let c := { digestCmd 2 0 with work := .digested 4 [] };
      c.work = .digested 4 [] ∧ c.status = 0 ∧ c.field 40 8 ≠ 0 ∧ c.field 24 1 / 2 % 2 = 1) ∧
    (cmdOn 1 0x0E .digest .running []).field 40 8 = 0 ∧
    digestCheck (worked [] []) 0 (digestCmd 4 0).desc = some 0x0102 ∧
    (∃ s : State, ∃ c : Cmd, s.runningCmd 1 0x0E = some c ∧ digestCheck (s.chargeCmd c 4) 0 c.desc = none ∧
      (s.chargeCmd c 4).lpddrBytes < c.field 32 8 + 16 * c.field 26 2) ∧
    (stateIn .run []).setUp = true := by
  iterate 9 refine And.intro (by decide +kernel) ?_
  refine ⟨⟨worked [(Fld.MEMC_CAPACITY_GIB, 0, 0)] [digestCmd 0 1], digestCmd 0 1, ?_⟩, by decide +kernel⟩
  decide +kernel

/-- A KVAPPEND of one position from bobbin rows 0 and 1, in a stage of its work, its FLUSH bit given. -/
def appendCmd (work : Work) (flush n : Byte) : Cmd :=
  { cmdOn 1 0x06 .kv .running ([flush * 16 + 1, 0, n, 0, 0, 0, 0, 0] ++ List.replicate 8 0 ++ [1]) with work := work }

theorem test_wit_KvAppendsFlushesAndSetUp :
    (let c := appendCmd .plain 0 1;
      let s := contexts [c] 0xFF 0xFF 1;
      s.runningCmd 1 0x06 = some c ∧ c.work = .plain ∧ appendCheck (s.chargeCmd c 5) 0 0 c.desc = none ∧
      tagBytes ((s.chargeCmd c 5).ctxTag 0) = some 1 ∧
      appendCheck s 0 0 (appendCmd .plain 0 0).desc = some 0x0102) ∧
    (let c := appendCmd .appendWait 0 1;
      let s := contexts [c] 0xFF 0xFF 1;
      s.runningCmd 1 0x06 = some c ∧ c.work ≠ .plain ∧ tagBytes (s.ctxTag c.stream) = some 1 ∧
      s.appendReady c.stream 1 (Append.ofBytes c.desc) = true ∧ s.kvTurn c = true) ∧
    (contexts [appendCmd (.appendWrite none) 0 1] 0xFF 0xFF 1).kvTurn (appendCmd .appendWait 0 1) = false ∧
    (let s := { contexts [appendCmd .appendWait 0 1] 0xFF 0xFF 1 with refTime := 2 ^ 60 };
      (appendCmd .appendWait 0 1).since + s.get Fld.MEMC_KV_CTRL_WAIT_MAX 0 * Config.us ≤ s.refTime ∧
      s.appendReady 0 1 (Append.ofBytes (appendCmd .appendWait 0 1).desc) = true) ∧
    ((contexts [] 3 3 1).ctxPut 0 24 2 65535).appendReady 0 1 (Append.ofBytes (appendCmd .appendWait 0 64).desc) = false ∧
    (∃ s : State, ∃ c : Cmd, s.runningCmd 1 0x06 = some c ∧
      s.refTime < c.since + s.get Fld.MEMC_KV_CTRL_WAIT_MAX 0 * Config.us) ∧
    (appendCmd (.appendFlush 4) 1 1).work = .appendFlush 4 ∧
    (let c := appendCmd (.appendWrite (some 5)) 0 1;
      let s := contexts [c] 0xFF 0xFF 1;
      s.runningCmd 1 0x06 = some c ∧ (Append.ofBytes c.desc).flush = false ∧
      s.readRows 0 c.engine.source 1 (rowsOf ((Append.ofBytes c.desc).reads (s.ctxD 0) 1)) = (s, 0)) ∧
    (contexts [] 0xFF 0xFF 1).ctxPendSlot 0 = 0xFF ∧
    ((contexts [] 0xFF 3 1).ctxPendSlot 0 ≠ 0xFF ∧ ¬ 0 ∈ (contexts [] 0xFF 3 1).kv.starved ∧
      (contexts [] 0xFF 3 1).freeRing = 0) ∧
    (let s := (contexts [] 0xFF 3 1).setAll [(Fld.MEMC_KV_FREE_TAIL_TAIL, 0, 1), (Fld.MEMC_KV_POOL_PAGES_PAGES, 0, 1)];
      s.freeRing ≠ 0 ∧ s.takeEntry.2 < s.get Fld.MEMC_KV_POOL_PAGES_PAGES 0) ∧
    ((stateIn .run []).setUp = true ∧ (stateIn .run []).get Fld.MEMC_KV_STATUS_SLOTS_USED 0 = 0) ∧
    (stateIn .run [(Fld.MEMC_KV_STATUS_SLOTS_USED, 0, 1)]).get Fld.MEMC_KV_STATUS_SLOTS_USED 0 ≠ 0 ∧
    (∃ c ∈ (contexts [appendCmd .plain 0 1] 0xFF 0xFF 1).cmds, c.namesStream = true) ∧
    ((2 ^ 32 - 1 : Nat) < 2 ^ 32 ∧ (contexts [] 0xFF 0xFF 1).streamNamed 0 = false ∧
      (contexts [appendCmd .plain 0 1] 0xFF 0xFF 1).streamNamed 0 = true) := by
  iterate 5 refine And.intro (by decide +kernel) ?_
  refine ⟨⟨(contexts [appendCmd .appendWait 0 1] 0xFF 0xFF 1).set Fld.MEMC_KV_CTRL_WAIT_MAX 0 1, appendCmd .appendWait 0 1, ?_⟩, ?_⟩
  all_goals decide +kernel

/-- A window of skein 63 in a state, with a key, a first row and a count, of job 0 for package 0. -/
def window (st : WinState) (key first count : Nat) : Window := ⟨st, 0, true, false, key, first, count, 1⟩

/-- A state in which rows 100 to 12287 of skein 63 are job 0's and window 15 is as given. -/
def windowed (w : Window) : State :=
  { stateIn .run [(Fld.SKEIN_BOB_REGION_VALID, ix 63 7, 1), (Fld.SKEIN_BOB_REGION_FIRST, ix 63 7, 100),
      (Fld.SKEIN_BOB_REGION_LAST, ix 63 7, 12287)] with
    windows := [(ix 63 15, w)] }

theorem test_wit_BobbinRegionsWindowsAndAperture :
    ((stateIn .run []).setUp = true ∧ (63 : Nat) < 64 ∧ (7 : Nat) < 8 ∧
      ∀ p ∈ regionFields 7 63 0, (stateIn .run []).get p.1 p.2.1 = p.2.2) ∧
    (∃ p ∈ regionFields 7 63 (2 ^ 63 + 2 ^ 16 * 12287), (stateIn .run []).get p.1 p.2.1 ≠ p.2.2) ∧
    (let v := 2 ^ 63 + 2 ^ 16 * 99 + 100;
      bitsOf v 63 1 = 1 ∧ bitsOf v 16 14 < bitsOf v 0 14) ∧
    (let s := windowed (window .idle 1 100 1);
      let v := 2 ^ 63 + 2 ^ 48 * 1 + 2 ^ 16 * 100 + 0;
      (∃ p ∈ regionFields 0 63 v, s.get p.1 p.2.1 ≠ p.2.2) ∧ bitsOf v 63 1 = 1 ∧
      s.isSet Fld.SKEIN_BOB_REGION_VALID (ix 63 7) = true ∧ s.get Fld.SKEIN_BOB_REGION_JOB (ix 63 7) ≠ bitsOf v 48 8 ∧
      s.get Fld.SKEIN_BOB_REGION_FIRST (ix 63 7) ≤ bitsOf v 16 14 ∧
      bitsOf v 0 14 ≤ s.get Fld.SKEIN_BOB_REGION_LAST (ix 63 7)) ∧
    (windowed (window .active 1 100 1)).regionConfig 63 7 = false ∧
    ((windowed (window .idle 1 100 1)).regionConfig 63 7 = true ∧
      (windowed (window .idle 1 100 1)).regionBad 63 7 0 100 12287 = false) ∧
    (((windowed (window .idle 1 12287 1)).window 63 15).state = .idle ∧
      (windowed (window .idle 1 12287 1)).windowOk 63 15 ((windowed (window .idle 1 12287 1)).window 63 15) = true) ∧
    (windowed (window .idle 1 12287 2)).windowOk 63 15 (window .idle 1 12287 2) = false ∧
    ((windowed (window .active 1 100 1)).window 63 15).state = .active ∧
    ((windowed (window .draining 1 100 1)).window 63 15).state = .draining ∧
    (window .idle 0 100 1).key = 0 ∧ (window .idle 1 100 0).count = 0 ∧ Window.reset.mask = 0 ∧
    ((stateIn .run []).apertureOpen 2 4 = false ∧
      (stateIn .run [(Fld.SEC_STATUS_DEBUG_LOCKED, 0, 1)]).isSet Fld.SEC_STATUS_DEBUG_LOCKED 0 = true ∧
      64 * 0x800000 ≤ 0x20000000) ∧
    (∃ s : State, ∃ x : Aperture, s.setUp = true ∧ s.isSet Fld.SEC_STATUS_DEBUG_LOCKED 0 = false ∧
      s.checkHankPair 63 = none ∧ s.heddle.fault = none ∧ Sparse.find s.apertures 63 = some x ∧ x.row = 12287) ∧
    ((12287 : Nat) < 12288 ∧ (508 : Nat) < 512 ∧ 508 % 4 = 0 ∧ (0 : Nat) ≠ 508) ∧
    (let s := { stateIn .run [(Fld.SKEIN_WIN_ALARM_PERIOD, 63, 1)] with refTime := 3999 };
      s.refTime < (Sparse.get WinAlarm.reset s.winAlarm 63).began + 4000 * s.get Fld.SKEIN_WIN_ALARM_PERIOD 63) ∧
    (let s := { stateIn .run [(Fld.SKEIN_WIN_ALARM_PERIOD, 63, 1)] with refTime := 4000 };
      0 < s.get Fld.SKEIN_WIN_ALARM_PERIOD 63 ∧ (0 : Nat) < 1 ∧
      (Sparse.get WinAlarm.reset s.winAlarm 63).began + 1 * (4000 * s.get Fld.SKEIN_WIN_ALARM_PERIOD 63) ≤ s.refTime ∧
      s.refTime < (Sparse.get WinAlarm.reset s.winAlarm 63).began + (1 + 1) * (4000 * s.get Fld.SKEIN_WIN_ALARM_PERIOD 63)) := by
  iterate 14 refine And.intro (by decide +kernel) ?_
  refine ⟨⟨{ stateIn .run [(Fld.SEC_STATUS_DEBUG_LOCKED, 0, 0)] with apertures := [(63, ⟨12287, [], false⟩)] },
      ⟨12287, [], false⟩, ?_⟩, ?_, ?_, ?_⟩
  all_goals decide +kernel

theorem test_wit_WindowOpensOnlyUnderItsConditions :
    (let s := windowed (window .idle 1 12287 1);
      let w := s.window 63 15;
      s.setUp = true ∧ w.state = .idle ∧ (15 : Nat) < 16 ∧ w.key ≠ 0 ∧
      (∀ m, m < 16 → m ≠ 15 → (s.window 63 m).state ≠ .idle → (s.window 63 m).key ≠ w.key) ∧
      (1 ≤ w.count ∧ ∃ m, m < 8 ∧ s.isSet Fld.SKEIN_BOB_REGION_VALID (ix 63 m) = true ∧
        s.get Fld.SKEIN_BOB_REGION_JOB (ix 63 m) = w.job ∧ s.get Fld.SKEIN_BOB_REGION_FIRST (ix 63 m) ≤ w.first ∧
        w.first + w.count - 1 ≤ s.get Fld.SKEIN_BOB_REGION_LAST (ix 63 m)) ∧
      w.mask ≠ 0 ∧ (w.permitRead = true ∨ w.permitWrite = true)) ∧
    (let s := windowed (window .idle 0 12287 1);
      s.setUp = true ∧ (s.window 63 15).state = .idle ∧ ¬ (s.window 63 15).key ≠ 0) := by
  refine ⟨⟨by decide +kernel, by decide +kernel, by decide, by decide +kernel, by decide +kernel,
    ⟨by decide +kernel, 7, ?_⟩, by decide +kernel, by decide +kernel⟩, ?_⟩
  all_goals decide +kernel

/-- A loop in ADC mode whose last sample was at 0, with a trigger due now. -/
def triggered (now : Nat) : State :=
  { (stateIn .run [(Fld.FLYER_LOOP_CFG_TRIG_MODE, 31, 1)]).modLoop 31 (fun x => { x with last := some 0, due := some now }) with
    whorl := { Whorl.reset with count := BitVec.ofNat 64 now } }

/-- A loop in a state with one faulty input. -/
def faultyLoop (st : Nat) : State :=
  (stateIn .run [(Fld.FLYER_LOOP_STATE_STATE, 31, st), (Fld.FLYER_LOOP_CFG_FAULT_ACTION, 31, 1)]).modLoop 31
    (fun x => { x with faults := [0x60] })

/-- A state whose loop 31 is in a state, decided in this beat by a cause of a rank from the state before. -/
def rankedLoop (rank before now : Nat) : State :=
  { stateIn .run [(Fld.FLYER_LOOP_STATE_STATE, 31, now)] with
    flyer := { Flyer.reset with loops := [(31, { Loop.reset with decided := some (0, rank, before) })] } }

theorem test_wit_LoopRequestsAndSamples :
    ((stateIn .run []).setUp = true ∧ (stateIn .run []).loopState 31 = 0 ∧ (stateIn .run []).dev = .run) ∧
    (∀ d, ((stateIn .run []).loop 31).decided = some d → d.1 ≠ (stateIn .run []).refTime) ∧
    ((rankedLoop 5 0 1).loopRank 31 = 5 ∧ (rankedLoop 5 0 1).loopBefore 31 = 0 ∧ (rankedLoop 5 0 1).loopState 31 ≠ 0 ∧
      (rankedLoop 4 0 1).loopRank 31 < 5 ∧ (rankedLoop 3 2 3).loopRank 31 < 4 ∧
      ((triggered 4000).modLoop 31 (fun x => { x with decided := some (0, 4, 0) })).loopTrigger 31 = true ∧
      ((triggered 4000).modLoop 31 (fun x => { x with decided := some (0, 4, 0) })).loopRank 31 < 5) ∧
    (stateIn .standby []).dev ≠ .run ∧
    (stateIn .run [(Fld.FLYER_LOOP_STATE_STATE, 31, 1)]).loopState 31 = 1 ∧
    (stateIn .run [(Fld.FLYER_LOOP_STATE_STATE, 31, 2)]).loopState 31 = 2 ∧
    (let s := stateIn .standby [(Fld.FLYER_LOOP_STATE_STATE, 31, 3)];
      s.loopState 31 = 3 ∧ s.dev = .standby ∧ ∀ c ∈ s.loopInputs 31, s.inputFaulty c = false) ∧
    (stateIn .safe []).dev = .safe ∧
    (let s := stateIn .run [(Fld.FLYER_LOOP_CFG_TRIG_MODE, 31, 1), (Fld.FLYER_ADC_EVT_OVERRANGE, 0, 1)];
      ∃ c ∈ s.loopInputs 31, s.inputFaulty c = true) ∧
    ((stateIn .run []).flyerOn = true ∧ (stateIn .run [(Fld.FLYER_LOOP_CFG_TRIG_MODE, 31, 1)]).loopTrigger 31 = false) ∧
    (let s := triggered 3999;
      s.flyerOn = true ∧ s.loopTrigger 31 = true ∧ (s.loop 31).due = some s.now ∧ (s.loop 31).seen ≠ some s.now ∧
      ((s.modLoop 31 (fun x => { x with seen := some s.now })).loop 31).last = some 0 ∧ 0 ≤ s.now ∧ s.now < 0 + 4000) ∧
    (let s := triggered 4000;
      s.loopTrigger 31 = true ∧ 5 ≤ s.loopRank 31 ∧
      ((s.modLoop 31 (fun x => { x with seen := some s.now })).loop 31).last = some 0 ∧ 0 + 4000 ≤ s.now) ∧
    ((stateIn .run [(Fld.FLYER_LOOP_TRIG_PERIOD_TICKS, 31, 8000)]).isSet Fld.FLYER_LOOP_CFG_TRIG_MODE 31 = false ∧
      (stateIn .run [(Fld.FLYER_LOOP_TRIG_PERIOD_TICKS, 31, 8000)]).now %
        (stateIn .run [(Fld.FLYER_LOOP_TRIG_PERIOD_TICKS, 31, 8000)]).get Fld.FLYER_LOOP_TRIG_PERIOD_TICKS 31 =
        (stateIn .run []).get Fld.FLYER_LOOP_TRIG_PHASE_TICKS 31) ∧
    (stateIn .run []).now % 8000 ≠
      (stateIn .run [(Fld.FLYER_LOOP_TRIG_PHASE_TICKS, 31, 1)]).get Fld.FLYER_LOOP_TRIG_PHASE_TICKS 31 ∧
    (((triggered 4000).modLoop 31 (fun x => { x with seen := some 4000 })).loop 31).seen = some 4000 ∧
    ((stateIn .run [(Fld.FLYER_LOOP_STATE_STATE, 31, 2)]).loop 31).faults = [] ∧
    ((faultyLoop 2).loopState 31 = 2 ∧ ((faultyLoop 2).loop 31).faults = [0x60] ∧
      (faultyLoop 2).isSet Fld.FLYER_LOOP_CFG_FAULT_ACTION 31 = true) ∧
    ((faultyLoop 1).loopState 31 = 1 ∧ ((faultyLoop 1).loop 31).faults = [0x60] ∧
      (faultyLoop 1).isSet Fld.FLYER_LOOP_CFG_FAULT_ACTION 31 = true) := by
  refine And.intro (by decide +kernel) (And.intro (fun d h => by simp [stateIn, State.loop, State.setAll, State.reset, Flyer.reset, Sparse.get, Sparse.find, Loop.reset] at h) (And.intro (by decide +kernel) ?_))
  iterate 5 refine And.intro (by decide +kernel) ?_
  refine ⟨⟨0x60, by decide +kernel, by decide +kernel⟩, ?_⟩
  decide +kernel

/-- A state with an SSI frame of channel 7 under way since reference time 0. -/
def ssiState (w : List (Field × Nat × Nat)) (t : Nat) : State :=
  { stateIn .run ((Fld.FLYER_SSI_CFG_BITS, 7, 32) :: (Fld.FLYER_SSI_CFG_CLK_DIV, 7, 0) :: w) with
    refTime := t, flyer := { Flyer.reset with ssi := [(7, (4, 0))] } }

theorem test_wit_EncodersSerialAndModulators :
    ((3 : Nat) < (stateIn .run [(Fld.FLYER_ENC_CFG_FILTER, 15, 1)]).get Fld.FLYER_ENC_CFG_FILTER 15 * 4 ∧
      (stateIn .run [(Fld.FLYER_ENC_CFG_FILTER, 15, 1)]).get Fld.FLYER_ENC_CFG_FILTER 15 * 4 ≤ 4) ∧
    (let s := stateIn .run [(Fld.FLYER_ENC_CFG_MODE, 15, 1)];
      s.flyerOn = true ∧ s.isSet Fld.FLYER_ENC_CFG_INDEX_ZERO 15 = false ∧ s.get Fld.FLYER_ENC_CFG_MODE 15 = 1 ∧
      (s.enc 15).a = false ∧ s.isSet Fld.FLYER_ENC_CFG_DIR_INV 15 = false) ∧
    ((stateIn .run [(Fld.FLYER_ENC_CFG_MODE, 15, 0)]).get Fld.FLYER_ENC_CFG_MODE 15 = 0 ∧ ((stateIn .run []).enc 15).a ≠ true ∧
      ((stateIn .run []).enc 15).b ≠ true) ∧
    (let s := stateIn .run [(Fld.FLYER_SSI_CFG_BITS, 7, 8), (Fld.FLYER_SSI_PERIOD_TICKS, 7, 4000)];
      s.flyerOn = true ∧ 8 ≤ s.get Fld.FLYER_SSI_CFG_BITS 7 ∧ Sparse.find s.flyer.ssi 7 = none ∧
      s.now % s.get Fld.FLYER_SSI_PERIOD_TICKS 7 = s.get Fld.FLYER_SSI_PHASE_TICKS 7) ∧
    (Sparse.find (ssiState [] 1279).flyer.ssi 7 = some (4, 0) ∧ (ssiState [] 1279).refTime < 0 + (ssiState [] 1279).ssiTicks 7) ∧
    (0 + (ssiState [] 1280).ssiTicks 7 ≤ (ssiState [] 1280).refTime ∧
      (ssiState [] 81280).refTime ≤ 0 + (ssiState [] 81280).ssiTicks 7 + 20 * Config.us ∧
      0 + (ssiState [] 81281).ssiTicks 7 + 20 * Config.us < (ssiState [] 81281).refTime ∧ (ssiState [] 1280).get Fld.FLYER_SSI_CFG_PARITY 7 = 0 ∧
      (ssiState [] 1280).isSet Fld.FLYER_SSI_CFG_GRAY 7 = false) ∧
    ((ssiState [(Fld.FLYER_SSI_CFG_PARITY, 7, 1)] 1280).get Fld.FLYER_SSI_CFG_PARITY 7 = 1 ∧
      (bitSum (2 ^ 32 - 1) 32 + (if true then 1 else 0)) % 2 = 1) ∧
    0 + (ssiState [] 81280).ssiTicks 7 + 20 * Config.us ≤ (ssiState [] 81280).refTime ∧
    (let s := stateIn .run [(Fld.FLYER_SD_CFG_EN, 23, 1), (Fld.FLYER_SD_CFG_OSR_LOG2, 23, 5)];
      s.flyerOn = true ∧ s.isSet Fld.FLYER_SD_CFG_EN 23 = true ∧ 5 = s.get Fld.FLYER_SD_CFG_OSR_LOG2 23 ∧
      Sparse.get (0, 0) s.flyer.sdBits 23 = (0, 0)) ∧ (4 : Nat) ≤ 8 ∧
    (Sparse.get 0 (stateIn .run []).flyer.sdAt 23 + Config.us ≤ (ssiState [] 4000).refTime ∧
      (ssiState [] 3999).refTime < Sparse.get 0 (ssiState [] 3999).flyer.sdAt 23 + Config.us) ∧
    (stateIn .run []).isSet Fld.FLYER_SD_CFG_EN 23 = false := by
  decide +kernel

theorem test_wit_ConversionsAndPwm :
    (let s := stateIn .run [(Fld.FLYER_ADC_CFG_TRIG, 15, 1)];
      s.flyerOn = true ∧ s.adcTriggered 15 = true ∧ Sparse.find s.flyer.adc 15 = none) ∧
    (∃ s : State, Sparse.find s.flyer.adc 15 = some (7, 0) ∧ s.refTime < 0 + 800) ∧
    (∃ s : State, Sparse.find s.flyer.adc 15 = some (7, 0) ∧ 0 + 800 ≤ s.refTime ∧ (0 : Nat) < 1 ∧ 4094 < 4095) ∧
    (let s := stateIn .run [(Fld.FLYER_PWM_PERIOD_TICKS, 7, 40000)];
      s.flyerOn = true ∧ s.now % s.get Fld.FLYER_PWM_PERIOD_TICKS 7 = s.get Fld.FLYER_PWM_PHASE_TICKS 7 ∧
      s.isSet Fld.FLYER_PWM_CFG_LOAD 7 = false) ∧
    (let s := { stateIn .run [(Fld.FLYER_PWM_PERIOD_TICKS, 7, 40000), (Fld.FLYER_PWM_CFG_LOAD, 7, 1)] with
        whorl := { Whorl.reset with count := 20000 } };
      s.flyerOn = true ∧ s.isSet Fld.FLYER_PWM_CFG_LOAD 7 = true ∧
      s.get Fld.FLYER_PWM_PHASE_TICKS 7 < s.get Fld.FLYER_PWM_PERIOD_TICKS 7 ∧
      s.now % s.get Fld.FLYER_PWM_PERIOD_TICKS 7 = (s.get Fld.FLYER_PWM_PHASE_TICKS 7 +
        s.get Fld.FLYER_PWM_PERIOD_TICKS 7 / 2) % s.get Fld.FLYER_PWM_PERIOD_TICKS 7) := by
  refine ⟨by decide +kernel,
    ⟨{ stateIn .run [] with refTime := 799, flyer := { Flyer.reset with adc := [(15, (7, 0))] } }, ?_⟩,
    ⟨{ stateIn .run [] with refTime := 800, flyer := { Flyer.reset with adc := [(15, (7, 0))] } }, ?_⟩, ?_, ?_⟩
  all_goals decide +kernel

/-- A state with capture stream 7 set up (RAW8, NBUF buffers, tokens 1 and 2 of job 0), and its progress. -/
def capState (nbuf : Nat) (w : List (Field × Nat × Nat)) (c : CapStream) : State :=
  { stateIn .run ([(Fld.CARD_CAP_FMT_DT, 7, 0x2A), (Fld.CARD_CAP_NBUF_NBUF, 7, nbuf), (Fld.CARD_CAP_TOKENS_FREE, 7, 1),
      (Fld.CARD_CAP_TOKENS_FULL, 7, 2), (Fld.CARD_CAP_CTRL_LANES, 7, 2), (Fld.CARD_CAP_BUF_STRIDE_BYTES, 7, 65536)] ++ w) with
    caps := [(7, c)], tokens := [(1, ⟨nbuf, 1, false, some 0, [], [], []⟩), (2, ⟨0, 1, false, some 0, [], [], []⟩)] }

/-- A frame that has ended or not. -/
def frame (ended : Option Nat) : Frame := ⟨0, 0, 0, 1, false, false, 0, 0, ended⟩

theorem test_wit_CaptureStreams :
    (let s := capState 0 [] CapStream.reset;
      s.setUp = true ∧ s.isSet Fld.CARD_CAP_CTRL_EN 7 = false ∧ s.get Fld.CARD_CAP_NBUF_NBUF 7 = 0) ∧
    32 < (capState 33 [] CapStream.reset).get Fld.CARD_CAP_NBUF_NBUF 7 ∧
    (stateIn .run [(Fld.CARD_CAP_CTRL_LANES, 7, 3)]).get Fld.CARD_CAP_CTRL_LANES 7 = 3 ∧ capDtOk 0 = false ∧
    (stateIn .run []).streamTokens 0 1 2 32 = false ∧
    (let s := capState 32 [] CapStream.reset;
      s.setUp = true ∧ s.isSet Fld.CARD_CAP_CTRL_EN 7 = false ∧ s.get Fld.CARD_CAP_CTRL_LANES 7 ≠ 3 ∧
      capDtOk (s.get Fld.CARD_CAP_FMT_DT 7) = true ∧ 1 ≤ s.get Fld.CARD_CAP_NBUF_NBUF 7 ∧
      s.get Fld.CARD_CAP_NBUF_NBUF 7 ≤ 32 ∧ s.streamTokens 0 1 2 32 = true ∧
      (s.cap 7).frame = none) ∧
    ((capState 32 [] ⟨true, 0, none, some (frame none)⟩).cap 7).frame = some (frame none) ∧
    (let s := capState 32 [(Fld.CARD_CAP_CTRL_EN, 7, 1), (Fld.CARD_CAP_STATUS_POOL, 7, 1)] ⟨true, 31, none, none⟩;
      (s.cap 7).live = true ∧ (s.cap 7).frame = none ∧ s.isSet Fld.CARD_CAP_CTRL_EN 7 = true ∧
      3 ≠ s.get Fld.CARD_CAP_FMT_VC 7 ∧ 0 = s.get Fld.CARD_CAP_FMT_VC 7 ∧ (s.cap 7).held = none ∧
      s.get Fld.CARD_CAP_STATUS_POOL 7 = 1) ∧
    (stateIn .run []).get Fld.CARD_CAP_STATUS_POOL 7 = 0 ∧
    (let s := capState 32 [] ⟨true, 0, some 31, some (frame none)⟩;
      (s.cap 7).live = true ∧ (s.cap 7).frame = some (frame none) ∧ (s.cap 7).held = some 31 ∧
      (0 : Nat) = s.get Fld.CARD_CAP_FMT_VC 7 ∧ (List.replicate 64 0).length ≤ 8192 ∧
      512 + (frame none).lines * (ceilDiv (lineBytes (s.get Fld.CARD_CAP_FMT_DT 7) (List.replicate 64 0)).length 64 * 64) +
        ceilDiv (lineBytes (s.get Fld.CARD_CAP_FMT_DT 7) (List.replicate 64 0)).length 64 * 64 ≤
        s.get Fld.CARD_CAP_BUF_STRIDE_BYTES 7) ∧
    8192 < (List.replicate 8193 0).length ∧
    (let s := capState 32 [(Fld.CARD_CAP_CTRL_EN, 7, 1), (Fld.CARD_CAP_AGE_MAX_TICKS, 7, 10)]
        ⟨true, 0, some 31, some (frame (some 1))⟩;
      (s.cap 7).frame = some (frame (some 1)) ∧ (frame (some 1)).ended = some 1 ∧ (s.cap 7).held = some 31 ∧
      s.isSet Fld.CARD_CAP_CTRL_EN 7 = true ∧ (frame (some 1)).corrupt = false ∧
      s.now - (frame (some 1)).start ≤ s.get Fld.CARD_CAP_AGE_MAX_TICKS 7 ∧ s.get Fld.CARD_CAP_AGE_MAX_TICKS 7 ≠ 0 ∧
      s.get Fld.CARD_CAP_AGE_MAX_TICKS 7 < 11 - (frame (some 1)).start) ∧
    (stateIn .run []).get Fld.CARD_CAP_AGE_MAX_TICKS 7 = 0 := by
  iterate 10 refine And.intro (by decide +kernel) ?_
  refine ⟨by rw [List.length_replicate]; decide, ?_, ?_⟩
  all_goals decide +kernel

/-- A state with dataset stream 3 set up (one level, one channel, tokens 1 and 2 of job 0), and its progress. -/
def dsState (nbuf : Nat) (w : List (Field × Nat × Nat)) (x : DsStream) : State :=
  { stateIn .run ([(Fld.CARD_DS_BATCH_NBUF, 3, nbuf), (Fld.CARD_DS_BATCH_BATCH, 3, 64), (Fld.CARD_DS_N_N, 3, 2 ^ 31),
      (Fld.CARD_DS_CTRL_LEVELS, 3, 1), (Fld.CARD_DS_CTRL_OUT_C, 3, 1), (Fld.CARD_DS_TOKENS_FREE, 3, 1),
      (Fld.CARD_DS_TOKENS_FULL, 3, 2), (Fld.CARD_DS_SLOT_STRIDE_BYTES, 3, 512), (Fld.CARD_DS_BUF_STRIDE_BYTES, 3, 33280),
      (Fld.CARD_DS_OUT_OUT_W, 3, 1), (Fld.CARD_DS_OUT_OUT_H, 3, 1)] ++ w) with
    datasets := [(3, x)], tokens := [(1, ⟨nbuf, 1, false, some 0, [], [], []⟩), (2, ⟨0, 1, false, some 0, [], [], []⟩)] }

/-- A dataset stream with one sample under way, with a budget and a table entry of a kind. -/
def sampled (budget : Nat) (kind : Byte) : State :=
  { dsState 32 [] { DsStream.reset with samples := [⟨0, 0, 0, 0, some budget, none⟩] } with
    mem := Mem.write [] (Mem.lpddr 12) [kind] }

theorem test_wit_DatasetStreams :
    (let s := dsState 32 [] DsStream.reset;
      s.setUp = true ∧ s.isSet Fld.CARD_DS_CTRL_EN 3 = false ∧
      s.streamTokens (s.get Fld.CARD_DS_CTRL_JOB 3) (s.get Fld.CARD_DS_TOKENS_FREE 3) (s.get Fld.CARD_DS_TOKENS_FULL 3)
        (s.get Fld.CARD_DS_BATCH_NBUF 3) = true ∧
      (1 ≤ s.get Fld.CARD_DS_BATCH_NBUF 3 ∧ s.get Fld.CARD_DS_BATCH_NBUF 3 ≤ 32) ∧
      (1 ≤ s.get Fld.CARD_DS_BATCH_BATCH 3 ∧ s.get Fld.CARD_DS_BATCH_BATCH 3 ≤ 64) ∧
      (1 ≤ s.get Fld.CARD_DS_N_N 3 ∧ s.get Fld.CARD_DS_N_N 3 ≤ 2 ^ 31) ∧
      (1 ≤ s.get Fld.CARD_DS_CTRL_LEVELS 3 ∧ s.get Fld.CARD_DS_CTRL_LEVELS 3 ≤ 6) ∧
      (s.get Fld.CARD_DS_CTRL_OUT_C 3 = 1 ∨ s.get Fld.CARD_DS_CTRL_OUT_C 3 = 3) ∧
      (s.get Fld.CARD_DS_CTRL_PATH 3 = 0 ∨ s.get Fld.CARD_DS_CTRL_SHUFFLE 3 = 0) ∧
      s.dsSlotBytes 3 ≤ s.get Fld.CARD_DS_SLOT_STRIDE_BYTES 3 ∧
      512 + (s.get Fld.CARD_DS_BATCH_BATCH 3 - 1) * s.get Fld.CARD_DS_SLOT_STRIDE_BYTES 3 + s.dsSlotBytes 3 ≤
        s.get Fld.CARD_DS_BUF_STRIDE_BYTES 3 ∧ (s.ds 3).batch = none) ∧
    ¬ 1 ≤ (dsState 0 [] DsStream.reset).get Fld.CARD_DS_BATCH_NBUF 3 ∧
    (let s := dsState 32 [] { DsStream.reset with live := true, batch := some ⟨31, 0, 0, [], false⟩ };
      (s.ds 3).batch = some ⟨31, 0, 0, [], false⟩) ∧
    (let s := dsState 32 [] { DsStream.reset with live := true, batch := some ⟨31, 0, 0, [], true⟩ };
      (s.ds 3).batch = some ⟨31, 0, 0, [], true⟩ ∧ (s.ds 3).stopping = false) ∧
    (((dsState 32 [] DsStream.reset).dsAdvance 3).ds 3).live = false ∧
    (let t := (dsState 32 [] { DsStream.reset with live := true, started := 15, regs := [(Fld.CARD_DS_N_N.code, 1)] }).dsAdvance 3;
      (t.ds 3).live = true ∧ t.get Fld.CARD_DS_POS_POS 3 < t.dsN 3 ∧
      (t.ds 3).started < (t.ds 3).taken + 16 ∧ t.dsBusy < 4) ∧
    (let s := sampled 0 1;
      s.dsRunning 3 0 (fun v => v.epoch == 0) = some ⟨0, 0, 0, 0, some 0, none⟩ ∧ 0 ≤ s.dsBeats 3 ⟨0, 0, 0, 0, some 0, none⟩) ∧
    ((sampled 0 1).dsRunning 3 0 ((sampled 0 1).dsOver 3) = some ⟨0, 0, 0, 0, some 0, none⟩ ∧
      (stateIn .run []).dsRunning 3 0 ((stateIn .run []).dsOver 3) = none) ∧
    (let s := sampled (2 ^ 32 + 64) 1;
      s.dsRunning 3 0 (fun v => v.epoch == 0) = some ⟨0, 0, 0, 0, some (2 ^ 32 + 64), none⟩ ∧
      s.dsBeats 3 ⟨0, 0, 0, 0, some (2 ^ 32 + 64), none⟩ < 2 ^ 32 + 64 ∧ (s.dsEntry 3 0).2.2 = 1) ∧
    (let s := sampled (2 ^ 32 + 64) 0;
      s.dsRunning 3 0 (fun v => v.epoch == 0) = some ⟨0, 0, 0, 0, some (2 ^ 32 + 64), none⟩ ∧
      s.dsBeats 3 ⟨0, 0, 0, 0, some (2 ^ 32 + 64), none⟩ < 2 ^ 32 + 64 ∧
      s.dsEntry 3 0 = (0, 0, 0)) := by
  iterate 6 refine And.intro (by decide +kernel) ?_
  have fits (s : State) (v : Sample) : s.dsBeats 3 v < 2 ^ 32 + 64 := by
    unfold State.dsBeats headerBeats
    split
    · have := (Config.sampleBeats (s.load (Mem.lpddr (s.dsEntry 3 v.index).1) (s.dsEntry 3 v.index).2.1)
        ((s.ds 3).regs.map Prod.snd)).isLt
      dsimp only; omega
    · decide
  refine ⟨⟨by decide +kernel, Nat.zero_le _⟩, ⟨rfl, rfl⟩, ⟨by decide +kernel, fits _ _, by decide +kernel⟩,
    ⟨by decide +kernel, fits _ _, by decide +kernel⟩⟩

/-- A state with submission and completion ring 63 of client 15 enabled, of 256 entries, and the listed fields. -/
def ringed (w : List (Field × Nat × Nat)) : State :=
  { stateIn .run ([(Fld.RING_SQ_CFG_EN, ix 15 63, 1), (Fld.RING_SQ_CFG_LOG2_SIZE, ix 15 63, 8),
      (Fld.RING_CQ_CFG_EN, ix 15 63, 1), (Fld.RING_CQ_CFG_LOG2_SIZE, ix 15 63, 8), (Fld.RING_SQ_CFG_CQ, ix 15 63, 63),
      (Fld.RING_PROTO_SEL_VERSION, 15, 1)] ++ w) with
    rings := { Rings.reset with functions := 65535 } }

theorem test_wit_DoorbellsMoveOrAreCaptured :
    ((ringed []).setUp = true ∧ (ringed []).ringExists 15 63 = true) ∧
    (let s := ringed [];
      s.isSet Fld.RING_SQ_CFG_EN (ix 15 63) = true ∧ 255 < 2 ^ s.get Fld.RING_SQ_CFG_LOG2_SIZE (ix 15 63) ∧
      ringGap (s.sqSize 15 63) 255 (s.get Fld.RING_SQ_TAIL_TAIL (ix 15 63)) + ringGap (s.sqSize 15 63)
        (s.get Fld.RING_SQ_TAIL_TAIL (ix 15 63)) (s.get Fld.RING_SQ_HEAD_HEAD (ix 15 63)) ≤ s.sqSize 15 63 - 1) ∧
    (let s := ringed [(Fld.RING_CQ_TAIL_TAIL, ix 15 63, 7)];
      s.isSet Fld.RING_CQ_CFG_EN (ix 15 63) = true ∧ 7 < 2 ^ s.get Fld.RING_CQ_CFG_LOG2_SIZE (ix 15 63) ∧
      ringGap (s.cqSize 15 63) 7 (s.get Fld.RING_CQ_HEAD_HEAD (ix 15 63)) ≤ ringGap (s.cqSize 15 63)
        (s.get Fld.RING_CQ_TAIL_TAIL (ix 15 63)) (s.get Fld.RING_CQ_HEAD_HEAD (ix 15 63)) ∧
      ringGap (s.cqSize 15 63) (s.get Fld.RING_CQ_TAIL_TAIL (ix 15 63)) (s.get Fld.RING_CQ_HEAD_HEAD (ix 15 63)) <
        ringGap (s.cqSize 15 63) 8 (s.get Fld.RING_CQ_HEAD_HEAD (ix 15 63))) ∧
    (let s := ringed [(Fld.RING_SQ_TAIL_TAIL, ix 15 63, 1)];
      s.sqSize 15 63 - 1 < ringGap (s.sqSize 15 63) 0 (s.get Fld.RING_SQ_TAIL_TAIL (ix 15 63)) + ringGap (s.sqSize 15 63)
        (s.get Fld.RING_SQ_TAIL_TAIL (ix 15 63)) (s.get Fld.RING_SQ_HEAD_HEAD (ix 15 63))) ∧
    2 ^ (ringed []).get Fld.RING_SQ_CFG_LOG2_SIZE (ix 15 63) ≤ 256 ∧
    (stateIn .run []).isSet Fld.RING_SQ_CFG_EN (ix 15 63) = false ∧
    (stateIn .run []).isSet Fld.RING_CQ_CFG_EN (ix 15 63) = false ∧
    (ringed []).isSet Fld.RING_EVT_DB_INVALID 15 = false ∧
    (ringed [(Fld.RING_EVT_DB_INVALID, 15, 1)]).isSet Fld.RING_EVT_DB_INVALID 15 = true ∧
    ((65536 : Nat) ≠ 0 ∧ (8 : Nat) ≠ 4) := by
  decide +kernel

/-- A record of completion ring 63 of client 15. -/
def record (waited : Bool) : Record := ⟨15, 63, 63, true, 0, 0, 1, 0, 0, 0, 0, waited⟩

/-- A state with that record waiting. -/
def recorded (w : List (Field × Nat × Nat)) : State :=
  { ringed w with rings := { Rings.reset with functions := 65535, records := [record false], coal := [(ix 15 63, (1, 0))] } }

theorem test_wit_DescriptorsFetchedAndRecordsWritten :
    (stateIn .standby []).fetching = false ∧ (stateIn .run []).nextFetch = none ∧
    (let s := ringed [(Fld.RING_SQ_TAIL_TAIL, ix 15 63, 1)];
      s.fetching = true ∧ s.nextFetch = some (15, 63, 1)) ∧
    (fieldOf [0x0F] 0 1 = 0x0F ∧ fieldOf [0] 0 1 = 0 ∧ (0x0E : Nat) < 0x0F) ∧
    (1 ≤ fieldOf [0x0E] 0 1 ∧ fieldOf [0x0E] 0 1 ≤ 0x0E ∧ (stateIn .run []).headerOk 15 63 [0x0E] = false) ∧
    takeFirst (fun r => r.client == 15 && r.cq == 63) (recorded []).rings.records = (some (record false), []) ∧
    (recorded []).cqFull 15 63 = false ∧ (recorded [(Fld.RING_CQ_TAIL_TAIL, ix 15 63, 255)]).cqFull 15 63 = true ∧
    (recorded []).isSet Fld.RING_CQ_CFG_IEN (ix 15 63) = false ∧
    (let s := recorded [(Fld.RING_CQ_CFG_IEN, ix 15 63, 1), (Fld.RING_CQ_CFG_COAL_TIME, ix 15 63, 1)];
      Sparse.find s.rings.coal (ix 15 63) = some (1, 0) ∧ s.isSet Fld.RING_CQ_CFG_IEN (ix 15 63) = true ∧
      s.get Fld.RING_CQ_CFG_COAL_TIME (ix 15 63) ≠ 0) ∧
    ((ringed []).setUp = true ∧ (ringed []).ringExists 15 63 = true) := by
  decide +kernel

theorem test_wit_RingSetUpAndReset :
    (let s := ringed [(Fld.RING_SQ_CFG_EN, ix 15 63, 0), (Fld.RING_CQ_CFG_EN, ix 15 63, 0)];
      s.setUp = true ∧ s.ringExists 15 63 = true ∧ s.ringExists 15 0 = true ∧
      s.isSet Fld.RING_SQ_CFG_EN (ix 15 63) = false ∧ s.isSet Fld.RING_CQ_CFG_EN (ix 15 63) = false) ∧
    (let s := ringed [(Fld.RING_SQ_CFG_EN, ix 15 63, 0)];
      s.isSet Fld.RING_CQ_CFG_EN (ix 15 63) = true ∧
      (∀ x, x < 64 → s.isSet Fld.RING_SQ_CFG_EN (ix 15 x) = true → s.get Fld.RING_SQ_CFG_CQ (ix 15 x) ≠ 63) ∧
      s.cqAwaited 15 63 = false) ∧
    (∃ x, x < 64 ∧ (ringed []).isSet Fld.RING_SQ_CFG_EN (ix 15 x) = true ∧ (ringed []).get Fld.RING_SQ_CFG_CQ (ix 15 x) = 63) ∧
    (recorded []).cqAwaited 15 63 = true ∧ (stateIn .off []).setUp = false ∧ (ringed []).ringExists 16 0 = false ∧
    (stateIn .run []).ringExists 1 0 = false ∧
    (∃ s : State, Sparse.find s.rings.resets 15 = some 0 ∧ s.refTime < 0 + 50000 * Config.us) ∧
    (∃ s : State, Sparse.find s.rings.resets 15 = some 0 ∧ 0 + 50000 * Config.us ≤ s.refTime) := by
  refine ⟨by decide +kernel, by decide +kernel, ⟨63, by decide +kernel⟩, by decide +kernel, by decide +kernel,
    by decide +kernel, by decide +kernel,
    ⟨{ stateIn .run [] with refTime := 199999999, rings := { Rings.reset with resets := [(15, 0)] } }, ?_⟩,
    ⟨{ stateIn .run [] with refTime := 200000000, rings := { Rings.reset with resets := [(15, 0)] } }, ?_⟩⟩
  all_goals decide +kernel

/-- A state in RUN at a count, with a table active and another pending. -/
def cycling (count : Nat) (w : List (Field × Nat × Nat)) : State :=
  { running w with whorl := { Whorl.reset with count := BitVec.ofNat 64 count } }

/-- A table of one slot over every skein, as memory holds it, and a state that points at it. -/
def tableState : State :=
  { stateIn .standby [(Fld.MEMC_CAPACITY_GIB, 0, 64), (Fld.HUB_SKEIN_LIVE_LIVE, 0, 0)] with
    mem := Mem.write [] (Mem.lpddr 0) (leBytes 2 0x4448 ++ [1, 0, 1, 0, 0, 0] ++ leBytes 4 400000 ++ List.replicate 52 0 ++
      leBytes 4 396000 ++ leBytes 4 4000) }

theorem test_wit_ScheduleTablesAndCycles :
    ((stateIn .standby []).setUp = true ∧
      (stateIn .standby [(Fld.HEDDLE_TBL_CMD_ARM, 0, 1)]).isSet Fld.HEDDLE_TBL_CMD_ARM 0 = true ∧
      (stateIn .standby []).isSet Fld.HEDDLE_TBL_CMD_ARM 0 = false ∧ (stateIn .standby []).heddle.pending = none ∧
      (running []).heddle.pending ≠ none) ∧
    (∃ r, (stateIn .standby []).readTable = .inr r) ∧
    tableState.readTable = .inl ⟨400000, [⟨396000, 4000, 0, false, 0, 0⟩]⟩ ∧
    ((running []).heddle.active = some oneSlot ∧ (stateIn .standby []).dev ≠ .run) ∧
    ((cycling 399999 []).dev = .run ∧ ((cycling 399999 []).now - (cycling 399999 []).boundary) / oneSlot.cycle = 0) ∧
    ((cycling 400000 []).now - (cycling 400000 []).boundary) / oneSlot.cycle ≠ 0 ∧
    (cycling 400000 []).isSet Fld.HEDDLE_TBL_CMD_ARM 0 = false ∧
    (let s := cycling 400000 [(Fld.HEDDLE_TBL_CMD_ARM, 0, 1)];
      s.isSet Fld.HEDDLE_TBL_CMD_ARM 0 = true ∧
      s.swapAfter oneSlot.cycle ≤ (s.now - s.boundary) / oneSlot.cycle ∧ s.heddle.pending = some oneSlot) ∧
    (let x : Slot := ⟨100, 1000, 0, false, 0, 2 ^ 64 - 1⟩;
      oneSlot.slots[0]? = some x ∧ (cycling 99 []).slotHolds x = false ∧ (cycling 100 []).slotHolds x = true ∧
      (cycling 1099 []).slotHolds x = true ∧ (cycling 1100 []).slotHolds x = false ∧
      ¬ 0 ∈ (cycling 100 []).heddle.openSlots ∧ ¬ 0 ∈ (cycling 99 []).heddle.quiesced ∧
      (cycling 99 []).now < (cycling 99 []).boundary + x.start ∧
      (cycling 99 []).boundary + x.start ≤ (cycling 99 []).now +
        (cycling 99 [(Fld.HEDDLE_QUIESCE_TICKS, 0, 1)]).get Fld.HEDDLE_QUIESCE_TICKS 0 ∧
      (cycling 99 []).now + (cycling 99 [(Fld.HEDDLE_QUIESCE_TICKS, 0, 0)]).get Fld.HEDDLE_QUIESCE_TICKS 0 <
        (cycling 99 []).boundary + x.start) := by
  refine ⟨by decide +kernel, ⟨_, rfl⟩, by decide +kernel, by decide +kernel, by decide +kernel, by decide +kernel,
    by decide +kernel, by decide +kernel, by decide +kernel⟩

theorem test_wit_GoldenRunsAndFieldTests :
    (∃ s : State, s.inGolden 63 = true ∧ Sparse.find s.heddle.golden 63 = some 0) ∧
    (stateIn .run []).inGolden 63 = false ∧
    ((stateIn .run []).get Fld.HEDDLE_TEST_STATE_PHASE 0 ≠ 1 ∧
      (stateIn .run [(Fld.HEDDLE_TEST_STATE_SKEIN, 0, 63)]).get Fld.HEDDLE_TEST_STATE_SKEIN 0 = 63) ∧
    (let s := withCmds .run [(Fld.HEDDLE_TEST_STATE_PHASE, 0, 1)] [cmdOn 1 0x01 (.loom 0) .running []];
      ∃ c ∈ s.cmds, c.phase = .running ∧ c.engine.on 0 = true ∧ c.engine.kind ≠ 3) ∧
    (let s := stateIn .run [(Fld.HEDDLE_TEST_STATE_PHASE, 0, 1)];
      s.get Fld.HEDDLE_TEST_STATE_PHASE 0 = 1 ∧
      ∀ c ∈ s.cmds, c.phase = .running → c.engine.on 0 = true → c.engine.kind = 3) ∧
    ((stateIn .run []).suspect 63 = false ∧
      ({ stateIn .run [] with selv := { Selv.reset with suspects := [63] } } : State).suspect 63 = true) ∧
    (∃ s : State, s.selv.running = some ⟨63, 15, true, 0⟩) ∧
    ((⟨63, 14, false, 0⟩ : Slice).slice < 15 ∧ (⟨63, 15, false, 0⟩ : Slice).slice = 15 ∧
      (⟨63, 15, false, 0⟩ : Slice).skein % 8 ≠ 0 ∧ (⟨56, 15, false, 0⟩ : Slice).skein % 8 = 0) := by
  refine ⟨⟨{ stateIn .run [] with heddle := { Heddle.reset with golden := [(63, 0)] } }, ?_⟩, ?_, ?_,
    ⟨cmdOn 1 0x01 (.loom 0) .running [], ?_⟩, ?_, ?_,
    ⟨{ stateIn .run [] with selv := { Selv.reset with running := some ⟨63, 15, true, 0⟩ } }, ?_⟩, ?_⟩
  all_goals decide +kernel

/-- A state with the PWR block as given at a count and reference time. -/
def powering (count refTime : Nat) (p : Pwr) (w : List (Field × Nat × Nat)) : State :=
  { stateIn .run w with whorl := { Whorl.reset with count := BitVec.ofNat 64 count }, refTime := refTime, pwr := p }

theorem test_wit_EnergyAndPower :
    ((stateIn .off []).powered = false ∧ (stateIn .run []).heddle.intervalAt ≤ (stateIn .run []).now ∧
      (powering 3999999 0 Pwr.reset []).now < (stateIn .run []).heddle.intervalAt + 4000000) ∧
    ((powering 4000000 0 Pwr.reset []).powered = true ∧
      (powering 4000000 0 Pwr.reset []).heddle.intervalAt + 4000000 ≤ (powering 4000000 0 Pwr.reset []).now) ∧
    ((stateIn .run []).setUp = true ∧ (599 : Nat) < 600 ∧ 850 < 851 ∧ 602 % 5 ≠ 0 ∧ 850 % 5 = 0 ∧ 600 % 5 = 0) ∧
    ((powering 0 0 { Pwr.reset with waiting := true, ready := true } []).pwr.waiting = true ∧
      (powering 0 0 { Pwr.reset with waiting := true, ready := true } []).pwr.ready = true ∧ Pwr.reset.ready = false) ∧
    (let s := powering 0 0 { Pwr.reset with commanded := 750, ready := true } [(Fld.PWR_VSET_MV, 0, 750), (Fld.PWR_VAPPLIED_CEIL_MV, 0, 850)];
      s.pwr.commanded = s.vTarget) ∧
    (let s := powering 0 (2 ^ 40) { Pwr.reset with commanded := 750, ready := true }
        [(Fld.PWR_VSET_MV, 0, 800), (Fld.PWR_VAPPLIED_CEIL_MV, 0, 850)];
      s.powered = true ∧ s.pwr.ready = true ∧ s.pwr.waiting = false ∧ s.pwr.commanded ≠ s.vTarget ∧
      s.pwr.stepAt + s.get Fld.PWR_SLEW_STEP_US 0 * Config.us ≤ s.refTime) ∧
    (powering 0 0 Pwr.reset [(Fld.PWR_SLEW_STEP_US, 0, 1)]).refTime <
      0 + (powering 0 0 Pwr.reset [(Fld.PWR_SLEW_STEP_US, 0, 1)]).get Fld.PWR_SLEW_STEP_US 0 * Config.us ∧
    ((powering 0 399999 Pwr.reset []).refTime < Pwr.reset.sampleAt + 100 * Config.us ∧
      Pwr.reset.sampleAt + 100 * Config.us ≤ (powering 0 400000 Pwr.reset []).refTime) ∧
    ((1679 : Int) < (stateIn .run [(Fld.HUB_ID_GRADE, 0, 2)]).gradeMax ∧
      (stateIn .run [(Fld.HUB_ID_GRADE, 0, 2)]).gradeMax ≤ 1680 ∧
      (stateIn .run []).isSet Fld.PWR_STATUS_TJ_LIMIT 0 = false) ∧
    (Pwr.reset.windowAt ≤ (powering 3999999 0 Pwr.reset []).now ∧
      (powering 3999999 0 Pwr.reset []).now < Pwr.reset.windowAt + 4000000 ∧
      Pwr.reset.windowAt + 4000000 ≤ (powering 4000000 0 Pwr.reset []).now) ∧
    ((stateIn .run []).pwr.hot = none ∧
      (stateIn .run []).getInt Fld.PWR_TJ_MAX 0 < (stateIn .run []).gradeMax - 80 ∧
      (stateIn .run [(Fld.PWR_CAP_WATTS, 0, 1)]).get Fld.PWR_CAP_WATTS 0 * 1000 < 1001) := by
  decide +kernel

/-- A state whose port 5 is in a state (0 DOWN, 1 TRAINING, 2 UP), in a mesh of 8 packages, with the port as given. -/
def ported (st : Nat) (x : Port) (w : List (Field × Nat × Nat)) : State :=
  { stateIn .run ([(Fld.IWL_P_STATUS_STATE, 5, st), (Fld.IWL_CTRL_MODE, 0, 2), (Fld.IWL_CTRL_DIM_X, 0, 8)] ++ w) with
    iwl := { Iwl.reset with ports := [(5, x)] } }

theorem test_wit_PortsAndFlits :
    ((stateIn .run []).setUp = true ∧ (ported 0 Port.reset []).get Fld.IWL_P_STATUS_STATE 5 = 0) ∧
    (ported 2 Port.reset []).get Fld.IWL_P_STATUS_STATE 5 = 2 ∧
    ((ported 1 Port.reset []).get Fld.IWL_P_STATUS_STATE 5 = 1 ∧ 14 % 16 ≠ 15 ∧ 15 % 16 = 15 ∧
      (ported 1 Port.reset []).neighbour 5 = some 6 ∧ (ported 1 Port.reset []).neighbour 5 ≠ some 7) ∧
    ((ported 1 Port.reset []).portUp 5 = false ∧ (ported 2 Port.reset []).portUp 5 = true) ∧
    flitGood [] = false := by
  decide +kernel

theorem test_wit_PortsAndFlitsGood :
    (flitGood (flitBytes 0 0 0 none [] []) = true ∧ flitType (flitBytes 0 0 0 none [] []) = 0) ∧
    (flitGood (flitBytes 1 0 0 none [] [7]) = true ∧ flitType (flitBytes 1 0 0 none [] [7]) = 1 ∧
      fieldOf (flitBytes 1 0 0 none [] [7]) 2 2 % 4096 = Port.reset.rxSeq ∧
      fieldOf (flitBytes 1 0 0 none [] [7]) 2 2 % 4096 ≠ ({ Port.reset with rxSeq := 4095 } : Port).rxSeq) ∧
    (flitGood (flitBytes 2 0 0 none [] []) = true ∧ flitType (flitBytes 2 0 0 none [] []) = 2) ∧
    (flitGood (flitBytes 3 0 0 none [] []) = true ∧ flitType (flitBytes 3 0 0 none [] []) = 3) := by
  have h (k : Nat) (b : List Byte) (hk : k < 4) := (flitGood_flitBytes k 0 0 none [] b hk (by decide)).1
  refine ⟨⟨h 0 _ (by decide), ?_⟩, ⟨h 1 _ (by decide), ?_, ?_, ?_⟩, ⟨h 2 _ (by decide), ?_⟩, ⟨h 3 _ (by decide), ?_⟩⟩
  all_goals decide +kernel

theorem test_wit_PortsAndFlitsReplay :
    (let x := { Port.reset with replay := [⟨0, 0, [(16, [7])]⟩] };
      let s := ported 2 x [(Fld.IWL_P_REPLAY_CFG_REPLAY_TIMEOUT, 5, 100), (Fld.IWL_P_REPLAY_CFG_REPLAY_MAX, 5, 1)];
      s.portUp 5 = true ∧ (s.port 5).replay ≠ [] ∧
      s.refTime < (s.port 5).ackAt + 4 * s.get Fld.IWL_P_REPLAY_CFG_REPLAY_TIMEOUT 5 ∧
      (s.port 5).ackAt + 4 * s.get Fld.IWL_P_REPLAY_CFG_REPLAY_TIMEOUT 5 ≤ ({ s with refTime := 400 } : State).refTime ∧
      (s.port 5).fruitless < s.get Fld.IWL_P_REPLAY_CFG_REPLAY_MAX 5 ∧
      s.get Fld.IWL_P_REPLAY_CFG_REPLAY_MAX 5 ≤ ({ x with fruitless := 1 } : Port).fruitless) ∧
    (stateIn .run []).isSet Fld.IWL_TS_CTRL_TS_EN 0 = false ∧
    (wholeCodeword 0 = some 0 ∧ wholeCodeword 2 = none ∧ (0 : Nat) ≤ 0 ∧ (0 : Nat) < 1) ∧
    ((Port.reset.rx.filter (fun f => f.1 == 5)).length < 32 ∧
      32 ≤ (({ Port.reset with rx := List.replicate 32 (5, []) } : Port).rx.filter (fun f => f.1 == 5)).length) := by
  decide +kernel

/-- A SYNC flit with T_TX 100 and, where answered, the peer's two stamps. -/
def syncFlit : List Byte := flitBytes 3 0 0 none [] (leBytes 8 100 ++ leBytes 8 50 ++ leBytes 8 60 ++ [1])

theorem test_wit_SystemTimeSync :
    (let s := ported 2 Port.reset [(Fld.IWL_TS_CTRL_TS_EN, 0, 1), (Fld.IWL_TS_CTRL_PERIOD, 0, 1)];
      s.isSet Fld.IWL_TS_CTRL_TS_EN 0 = true ∧ s.portUp 5 = true ∧ s.refTime < (s.port 5).sentAt + s.syncPeriod ∧
      (s.port 5).sentAt + s.syncPeriod ≤ ({ s with refTime := 4000 } : State).refTime) ∧
    (let s := ported 2 Port.reset [(Fld.IWL_TS_CTRL_TS_EN, 0, 1), (Fld.IWL_TS_CTRL_MASTER_PKG, 0, 0)];
      let t := (s.fecCounts 5 0 false).flitControl 5 syncFlit;
      flitType syncFlit = 3 ∧ t.isSet Fld.IWL_TS_CTRL_TS_EN 0 = true ∧
      5 ≠ (t.modPort 5 (fun x => { x with peerTx := fieldOf syncFlit 10 8, peerRx := t.now, heardAt := t.refTime })).upstream ∧
      fieldOf syncFlit 34 1 % 2 = 1 ∧ fieldOf syncFlit 18 8 ≠ 0) ∧
    (let s := ported 2 Port.reset [(Fld.IWL_TS_CTRL_TS_EN, 0, 1), (Fld.IWL_TS_CTRL_MASTER_PKG, 0, 6),
        (Fld.IWL_TS_CTRL_PERIOD, 0, 1)];
      5 = s.upstream ∧ s.isSet Fld.IWL_TS_STATUS_HOLDOVER 0 = false ∧ s.refTime < (s.port 5).heardAt + 4 * s.syncPeriod ∧
      (s.port 5).heardAt + 4 * s.syncPeriod ≤ ({ s with refTime := 16000 } : State).refTime) ∧
    (stateIn .run [(Fld.IWL_TS_STATUS_HOLDOVER, 0, 1)]).isSet Fld.IWL_TS_STATUS_HOLDOVER 0 = true := by
  decide +kernel

theorem test_wit_SystemTimeSyncGood : flitGood syncFlit = true := (flitGood_flitBytes 3 0 0 none [] _ (by decide) (by decide)).1

/-- A transaction of this package to itself: its type, its KEY 1, ARG, XID and TARGET, and its rows. -/
def selfTx (tt arg xid target : Nat) (body : List Byte) : List Byte :=
  leBytes 1 tt ++ [0, 0] ++ leBytes 1 arg ++ leBytes 4 1 ++ leBytes 4 xid ++ leBytes 4 target ++ body

/-- A state in which that transaction waits, with window 15 of skein 63 as given. -/
def received (tx : List Byte) (w : Window) (f : List (Field × Nat × Nat)) : State :=
  { stateIn .run f with windows := [(ix 63 15, w)], iwl := { Iwl.reset with loop := [tx] } }

/-- An open window of that skein for every row, with its permissions. -/
def openWindow (r w : Bool) : Window := ⟨.active, 0, r, w, 1, 0, 12288, 1⟩

theorem test_wit_RequestsFromOtherPackages :
    (stateIn .run []).front 5 0 = none ∧
    (let tx := selfTx 0x01 0 0 (2 ^ 16 * 63 + 12287) (List.replicate 512 7);
      ∃ t, (received tx (openWindow false true) []).takeTx 6 0 0x01 = some (tx, t) ∧ txRow tx = (63, 12287) ∧
        t.windowCheck 63 (txKey tx) (txSrc tx) (some 12287) 0 true = .inl (openWindow false true)) ∧
    (let tx := selfTx 0x02 0 0 (2 ^ 16 * 63 + 12287) [];
      ∃ t, (received tx (openWindow true false) []).takeTx 6 0 0x02 = some (tx, t) ∧ txRow tx = (63, 12287) ∧
        t.windowCheck 63 (txKey tx) (txSrc tx) (some 12287) 0 false = .inl (openWindow true false) ∧
        t.windowCheck 63 (txKey tx) (txSrc tx) (some 12287) 0 true = .inr 5) ∧
    (let tx := selfTx 0x03 0 0 (2 ^ 16 * 2 + 63 * 1024) [];
      ∃ t, (received tx (openWindow true true) []).takeTx 6 0 0x03 = some (tx, t) ∧ bitsOf (txTarget tx) 0 16 = 64512 ∧
        t.windowCheck (tokenHome 64512) (txKey tx) (txSrc tx) none 64512 true = .inl (openWindow true true) ∧
        t.windowCheck (tokenHome 64512) 2 (txSrc tx) none 64512 true = .inr 1) ∧
    (∀ x ∈ (stateIn .run []).pathFaults, x ≠ 64 * Config.rows + 400 + 6) ∧
    64 * Config.rows + 400 + 6 ∈ ({ stateIn .run [] with pathFaults := [64 * Config.rows + 406] } : State).pathFaults := by
  refine ⟨by decide +kernel, ⟨_, rfl, ?_, ?_⟩, ⟨_, rfl, ?_, ?_, ?_⟩, ⟨_, rfl, ?_, ?_, ?_⟩, ?_, ?_⟩
  all_goals decide +kernel

/-- A state whose barrier 15 is valid with this package as its master and member, whose expert 0 is homed here with inbox
63 (or not), and whose relay entry 1023 is valid for package 7, with a relay token's signal waiting. -/
def grouped (tx : List Byte) (valid home : Byte) (blocked : List Nat) (w : List (Field × Nat × Nat)) : State :=
  let s := received tx (openWindow true true) ([(Fld.MEMC_CAPACITY_GIB, 0, 64), (Fld.IWL_EXPERT_BASE_BASE, 0, 1000),
    (Fld.IWL_CTRL_MODE, 0, 2), (Fld.IWL_CTRL_DIM_X, 0, 8), (Fld.IWL_INBOX_CFG_VALID, 63, 1),
    (Fld.IWL_INBOX_CFG_SKEIN, 63, 63)] ++ w);
  { s with
    mem := Mem.write (Mem.write (Mem.write [] (Mem.lpddr (32 * 15)) ([valid * 128] ++ List.replicate 15 0 ++ [1]))
      (Mem.lpddr (16 * 1023)) [128, 7]) (Mem.lpddr 64000) [home * 128, 0, 63]
    iwl := { s.iwl with ports := [(6, { Port.reset with blocked := blocked })], relays := [(65535, 3)] } }

/-- Its arrival at barrier 15, its release of it, and a parcel of one row for expert 0. -/
def arrival : List Byte := selfTx 0x04 0 0 15 []
def release : List Byte := selfTx 0x04 1 0 15 []
def oneRow : List Byte := selfTx 0x05 1 0 0 []

theorem test_wit_BarriersRelaysAndParcels :
    (∃ t, (grouped arrival 1 1 [] []).front 6 0 = some arrival ∧ txArg arrival = 0 ∧
      (grouped arrival 1 1 [] []).takeTx 6 0 0x04 = some (arrival, t) ∧ bitsOf (txTarget arrival) 0 4 = 15 ∧
      (t.barrier 15).valid = true ∧ (t.barrier 15).master = t.pkg ∧ (t.barrier 15).members / 2 ^ txSrc arrival % 2 = 1 ∧
      ¬ (15, (0, 0)) ∈ t.iwl.arrivals) ∧
    ((grouped arrival 0 1 [] []).barrier 15).valid = false ∧
    (∃ t, (grouped release 1 1 [] []).front 6 0 = some release ∧ txArg release ≠ 0 ∧
      (grouped release 1 1 [] []).takeTx 6 0 0x04 = some (release, t) ∧
      bitsOf (txTarget release) 16 16 = Sparse.get 0 t.iwl.gens 15 ∧ (t.barrier 15).valid = true) ∧
    (bitsOf (txTarget (selfTx 0x04 1 0 (2 ^ 16 + 15) [])) 16 16 ≠ Sparse.get 0 (grouped release 1 1 [] []).iwl.gens 15) ∧
    (let s := grouped [] 1 1 [] [];
      s.iwl.relays.find? (fun p => p.1 == 63 * 1024 + 1023) = some (65535, 3) ∧
      s.relayOk (s.relayEntry (63 * 16 + (1023 - 1008))) 0 3 = true ∧
      s.relayOk (s.relayEntry (63 * 16 + (1023 - 1008))) 1 3 = false) ∧
    (stateIn .run []).iwl.relays.find? (fun p => p.1 == 65535) = none ∧
    (∃ t, (grouped oneRow 1 1 [] []).front 6 4 = some oneRow ∧ txType oneRow = 0x05 ∧
      txDst oneRow = (grouped oneRow 1 1 [] []).pkg ∧ (grouped oneRow 1 1 [] []).takeTx 6 4 0x05 = some (oneRow, t)) ∧
    (let s := grouped oneRow 1 1 [] [];
      ¬ 4 ∈ (s.port 6).blocked ∧ s.parcelInbox oneRow = some 63 ∧ s.parcelRefused 63 oneRow = none ∧
      s.parcelFits 63 (txArg oneRow) = true) ∧
    (let s := grouped oneRow 1 1 [4] [(Fld.IWL_INBOX_LEVEL_HELD, 63, 1)];
      4 ∈ (s.port 6).blocked ∧ s.parcelFits 63 (txArg oneRow) = false) ∧
    (grouped oneRow 1 0 [] []).parcelInbox oneRow = none ∧
    ({ grouped oneRow 1 1 [] [] with windows := [] } : State).parcelRefused 63 oneRow = some (1, 0) := by
  refine ⟨⟨_, by decide +kernel, by decide +kernel, rfl, ?_⟩, ?_, ⟨_, by decide +kernel, by decide +kernel, rfl, ?_⟩, ?_, ?_,
    ?_, ⟨_, by decide +kernel, by decide +kernel, by decide +kernel, rfl⟩, ?_, ?_, ?_, ?_⟩
  all_goals decide +kernel

/-- A state with a reply waiting and a request of XID 9 that expects something. -/
def asking (tx : List Byte) (e : Expect) : State :=
  { stateIn .run [(Fld.IWL_TIMEOUT_US, 0, 1)] with iwl := { Iwl.reset with loop := [tx], reqs := [⟨9, 5, 6, 0, 0, 0, e⟩] } }

theorem test_wit_RepliesReachTheirRequests :
    (∃ t, (asking (selfTx 0x81 0 8 0 []) (.write 1)).takeTx 6 2 0x81 = some (selfTx 0x81 0 8 0 [], t) ∧
      t.req? (txXid (selfTx 0x81 0 8 0 [])) = none) ∧
    (∃ t, (asking (selfTx 0x81 0 9 0 []) (.write 1)).takeTx 6 2 0x81 = some (selfTx 0x81 0 9 0 [], t) ∧
      t.req? (txXid (selfTx 0x81 0 9 0 [])) = some ⟨9, 5, 6, 0, 0, 0, .write 1⟩) ∧
    (∃ t, (asking (selfTx 0x82 0 9 0 []) (.read 1 0)).takeTx 6 2 0x82 = some (selfTx 0x82 0 9 0 [], t) ∧
      t.req? (txXid (selfTx 0x82 0 9 0 [])) = some ⟨9, 5, 6, 0, 0, 0, .read 1 0⟩) ∧
    (∃ t, (asking (selfTx 0x83 6 9 0 []) (.batch 1 true)).takeTx 6 2 0x83 = some (selfTx 0x83 6 9 0 [], t) ∧
      t.req? (txXid (selfTx 0x83 6 9 0 [])) = some ⟨9, 5, 6, 0, 0, 0, .batch 1 true⟩) ∧
    (∃ t, (asking (selfTx 0x84 0 9 0 []) (.batch 1 true)).takeTx 6 2 0x84 = some (selfTx 0x84 0 9 0 [], t) ∧
      t.req? (txXid (selfTx 0x84 0 9 0 [])) = some ⟨9, 5, 6, 0, 0, 0, .batch 1 true⟩) ∧
    ([⟨1, 7, 1⟩, ⟨2, 7, 2⟩].find? (fun (b : DispBatch) => b.id == 2) = some ⟨2, 7, 2⟩ ∧ (1 : Nat) ≤ 1 ∧ (1 : Nat) < 2) ∧
    ((stateIn .run []).req? 9 = none ∧ (asking [] (.write 1)).req? 9 = some ⟨9, 5, 6, 0, 0, 0, .write 1⟩) ∧
    (let s := asking [] (.write 1);
      (Expect.write 1).exempt = false ∧ s.refTime < 0 + s.get Fld.IWL_TIMEOUT_US 0 * Config.us ∧
      0 + s.get Fld.IWL_TIMEOUT_US 0 * Config.us ≤ ({ s with refTime := 4000 } : State).refTime) ∧
    (Expect.batch 1 true).exempt = true := by
  refine ⟨⟨_, rfl, ?_⟩, ⟨_, rfl, ?_⟩, ⟨_, rfl, ?_⟩, ⟨_, rfl, ?_⟩, ⟨_, rfl, ?_⟩, ?_, ?_, ?_, ?_⟩
  all_goals decide +kernel

/-- A transmit descriptor of length 60 with its control byte and launch time. -/
def txDesc (control launch : Byte) : List Byte := List.replicate 8 0 ++ [60, 0, control, 0, 0, 0, 0, 0, launch]

/-- MAC 3 on at 10 Gb/s with its first descriptor, at count 100, with its progress. -/
def macState (d : List Byte) (x : Mac) (w : List (Field × Nat × Nat)) : State :=
  { stateIn .run ([(Fld.ETH_CTRL_EN, 3, 1), (Fld.ETH_CTRL_MODE, 3, 1), (Fld.ETH_CTRL_MAX_LEN, 3, 1518),
      (Fld.ETH_ADDR_ADDR, 3, 1)] ++ w) with
    whorl := { Whorl.reset with count := 100 }, mem := Mem.write [] (Mem.lpddr 0) d, macs := [(3, x)] }

/-- A frame for an address, of a type. -/
def etherFrame (dst t0 t1 op : Byte) : List Byte := [dst] ++ List.replicate 11 0 ++ [t0, t1, 0, op] ++ List.replicate 44 0

theorem test_wit_EthernetCommands :
    ((stateIn .run []).setUp = true ∧ 4 ≤ (stateIn .run [(Fld.ETH_CTRL_MODE, 3, 4)]).get Fld.ETH_CTRL_MODE 3 ∧
      (stateIn .run []).isSet Fld.ETH_CTRL_EN 3 = false ∧
      (stateIn .run [(Fld.ETH_CTRL_MODE, 3, 3)]).get Fld.ETH_CTRL_MODE 3 < 4) ∧
    (let s := macState (txDesc 0x80 0) Mac.reset [];
      s.macOn 3 = true ∧ (s.mac 3).sending = none ∧ descOwn (s.load (s.txHead 3) 32) = true ∧
      s.descBad 3 (s.load (s.txHead 3) 32) = false ∧ s.macRate 3 ≠ 0 ∧ s.macReqs 3 = [] ∧
      s.get Fld.ETH_CTRL_MODE 3 ≠ 3 ∧ s.isSet Fld.ETH_STATUS_LINK_UP 3 = false ∧
      ({ s with whorl := { s.whorl with unsynced := [72] } } : State).hubSynced = false ∧
      ({ s with whorl := { s.whorl with unsynced := [72] } } : State).macOn 3 = true ∧
      (s.ethLate 3 1).ethChoice 3 = none) ∧
    descOwn (txDesc 0x00 0) = false ∧
    (let s := macState (txDesc 0x80 0) { Mac.reset with head := some (txDesc 0x80 0) } [];
      ∃ q, (s.ethLate 3 1).ethChoice 3 = some q) ∧
    (let d := txDesc 0xC0 100;
      let s := macState d { Mac.reset with head := some d } [(Fld.ETH_TX_CFG_LATE_TOL, 3, 0)];
      s.macOn 3 = true ∧ (s.mac 3).head = some d ∧ (s.mac 3).sending = none ∧
      (∀ j < 4, Sparse.find s.flyer.slots (4 * (8 + 3) + j) = none) ∧ (s.mac 3).late = [] ∧ descLaunch d ≠ 0 ∧
      s.dev ≠ .safe ∧ descLaunch d + s.get Fld.ETH_TX_CFG_LATE_TOL 3 ≤ s.now ∧ s.hubSynced = true ∧
      descSkip d = true ∧
      descSkip (txDesc 0x80 100) = false ∧
      (let t := ((s.raise Flg.ETH_EVT_TX_LATE 3).txBack 3 ((s.raise Flg.ETH_EVT_TX_LATE 3).txHead 3) 0x0401 0).txNext 3;
        (t.macReqs 3).find? (t.ethOverdue 3 0) = none ∧ t.dev ≠ .safe)) ∧
    (let x : EthSend := ⟨some 3, 0, true, 0, 0, 1, []⟩;
      let s := macState [] { Mac.reset with sending := some x } [];
      (s.mac 3).sending = some x ∧ s.refTime < x.began + x.ticks ∧
      x.began + x.ticks ≤ ({ s with refTime := 1 } : State).refTime ∧ x.slot ≠ none ∧
      ({ x with slot := none } : EthSend).slot = none) ∧
    (let s := macState [] Mac.reset [];
      s.get Fld.ETH_CTRL_MAX_LEN 3 < 1515 + 4 ∧ (etherFrame 1 8 0 0).length + 4 ≤ s.get Fld.ETH_CTRL_MAX_LEN 3 ∧
      framePause (etherFrame 1 0x88 0x08 1) = true ∧ framePause (etherFrame 1 8 0 0) = false ∧
      s.ethAccepts 3 (etherFrame 1 8 0 0) = true ∧ s.ethAccepts 3 (etherFrame 2 8 0 0) = false) := by
  iterate 3 refine And.intro (by decide +kernel) ?_
  refine ⟨⟨⟨4, 0, false⟩, by decide +kernel⟩, ?_, ?_, ?_⟩
  all_goals decide +kernel

/-- CAN controller 7 enabled and integrated with rings of 64 entries, a transmit entry at its head, and its progress. -/
def canState (entry : List Byte) (x : CanCtl) (w : List (Field × Nat × Nat)) : State :=
  { stateIn .run ([(Fld.CAN_CTRL_EN, 7, 1), (Fld.CAN_STATUS_SYNCED, 7, 1), (Fld.CAN_TX_CFG_LOG2, 7, 6),
      (Fld.CAN_RX_CFG_LOG2, 7, 6)] ++ w) with
    mem := Mem.write [] (Mem.lpddr 0) entry, cans := [(7, x)], whorl := { Whorl.reset with count := 100 } }

theorem test_wit_CanSetUpAndIndices :
    ((canState [] CanCtl.reset []).setUp = true ∧ (canState [] CanCtl.reset []).isSet Fld.CAN_CTRL_EN 7 = true) ∧
    (stateIn .run []).isSet Fld.CAN_CTRL_EN 7 = false ∧
    ((stateIn .run [(Fld.CAN_NBT_BRP_M1, 7, 0), (Fld.CAN_NBT_TSEG1_M1, 7, 0)]).canRates 7 = false ∧
      (stateIn .run [(Fld.CAN_NBT_BRP_M1, 7, 159), (Fld.CAN_NBT_TSEG1_M1, 7, 0), (Fld.CAN_NBT_TSEG2_M1, 7, 0)]).canRates 7 =
        true) ∧
    ((stateIn .run []).can 7).attempt = none ∧
    ((canState [] { CanCtl.reset with attempt := some ⟨4, 0, Mem.lpddr 0⟩ } []).can 7).attempt ≠ none ∧
    (let s := canState [] CanCtl.reset [(Fld.CAN_STATUS_SYNCED, 7, 0)];
      s.canOn 7 = true ∧ s.isSet Fld.CAN_STATUS_SYNCED 7 = false ∧ s.get Fld.CAN_STATUS_ERR_STATE 7 ≠ 2) ∧
    (canState [] CanCtl.reset []).canHead 7 = none ∧
    (∃ h, (canState [] CanCtl.reset [(Fld.CAN_TX_TAIL_INDEX, 7, 63)]).canHead 7 = some h ∧
      (canState [] CanCtl.reset []).canEntryBad 7 h = false) ∧
    (stateIn .run []).canOn 7 = false := by
  iterate 7 refine And.intro (by decide +kernel) ?_
  refine ⟨⟨_, rfl, ?_⟩, ?_⟩
  all_goals decide +kernel

theorem test_wit_CanTrafficAndErrors :
    (let s := canState [] CanCtl.reset [];
      s.canLive 7 = true ∧ s.canReqs 7 = [] ∧ s.isSet Fld.CAN_CTRL_MON 7 = false ∧ (s.can 7).attempt = none ∧
      (s.canLate 7 1).canChoice 7 = none) ∧
    (canState [] CanCtl.reset [(Fld.CAN_CTRL_MON, 7, 1)]).isSet Fld.CAN_CTRL_MON 7 = true ∧
    (∃ q, ((canState [] CanCtl.reset [(Fld.CAN_TX_TAIL_INDEX, 7, 1)]).canLate 7 1).canChoice 7 = some q) ∧
    (let s := canState ([0, 0, 0, 0, 0x80] ++ List.replicate 11 0 ++ [100]) CanCtl.reset
        [(Fld.CAN_TX_TAIL_INDEX, 7, 1), (Fld.CAN_TX_CFG_LATE_TOL, 7, 0)];
      s.canLive 7 = true ∧ s.canReqs 7 = [⟨4, 100, true⟩] ∧ 100 + s.get Fld.CAN_TX_CFG_LATE_TOL 7 ≤ s.now ∧
      s.hubSynced = true ∧ ({ s with whorl := { s.whorl with unsynced := [72] } } : State).hubSynced = false ∧
      ({ s with whorl := { s.whorl with unsynced := [72] } } : State).canLive 7 = true ∧
      (let t := ((s.canBack 7 (s.canDoneAddr 7) 0x0401 0).raise Flg.CAN_EVT_TX_LATE 7).canNext 7;
        (t.canReqs 7).find? (t.canOverdue 7 0) = none ∧ t.dev ≠ .safe)) ∧
    (let s := canState [] CanCtl.reset [];
      s.canRises 7 0 1 = true ∧ s.canRises 7 0 8 = true ∧ s.canRises 7 8 0 = false ∧ s.canRises 7 0 2 = false) ∧
    (let s := { stateIn .run [] with cans := [(7, { CanCtl.reset with ending := some 100 })] };
      s.canLive 7 = false ∧ s.canEnds 7 100 = true ∧ s.canEnds 7 101 = false ∧ s.canFormat 7 0 = true) ∧
    (let s := canState [] { CanCtl.reset with attempt := some ⟨4, 99, Mem.lpddr 0⟩ } [(Fld.CAN_TX_TAIL_INDEX, 7, 1)];
      s.ioOn = true ∧ (s.can 7).attempt = some ⟨4, 99, Mem.lpddr 0⟩ ∧ hdrLaunch (s.load (Mem.lpddr 0) 32) = 0) ∧
    ((127 : Nat) < 128 ∧ (255 : Nat) < 256 ∧ (128 : Nat) ≤ 128 ∧ (256 : Nat) ≤ 256 ∧
      (stateIn .run []).get Fld.CAN_STATUS_ERR_STATE 7 ≠ 1 ∧ (stateIn .run []).get Fld.CAN_STATUS_ERR_STATE 7 ≠ 2) ∧
    (let s := canState [] CanCtl.reset [(Fld.CAN_CTRL_AUTO_RECOVER, 7, 1), (Fld.CAN_STATUS_ERR_STATE, 7, 2)];
      s.canOn 7 = true ∧ s.isSet Fld.CAN_CTRL_AUTO_RECOVER 7 = true ∧ s.get Fld.CAN_STATUS_ERR_STATE 7 = 2) ∧
    (let s := canState [] CanCtl.reset [(Fld.CAN_CTRL_ACCEPT_ALL, 7, 1)];
      let f : CanFrame := ⟨5, 0, false, false, false, false, 8, 0, 0, 0, []⟩;
      s.canLive 7 = true ∧ s.canFormat 7 0 = true ∧ lenLegal 0 8 = true ∧ (s.canHeardOk 7).canMatch 7 f = some 0xFF ∧
      (canState [] CanCtl.reset []).canMatch 7 f = none ∧
      (if (s.canHeardOk 7).isSet Fld.CAN_RX_CFG_BIG 7 = true then 2048 else 64) < 65 ∧
      ((s.canHeardOk 7).get Fld.CAN_RX_TAIL_INDEX 7 + 1) % (s.canHeardOk 7).canRxSize 7 ≠
        (s.canHeardOk 7).get Fld.CAN_RX_ACK_INDEX 7) ∧
    (let t := (canState [] CanCtl.reset [(Fld.CAN_RX_TAIL_INDEX, 7, 63)]).canHeardOk 7;
      (t.get Fld.CAN_RX_TAIL_INDEX 7 + 1) % t.canRxSize 7 = t.get Fld.CAN_RX_ACK_INDEX 7) := by
  refine ⟨by decide +kernel, by decide +kernel, ⟨⟨4, 0, false⟩, by decide +kernel⟩, ?_, ?_, ?_, ?_, ?_, ?_, ?_, ?_⟩
  all_goals decide +kernel

/-- A state in RUN with every skein in service, a DTI of 1 ms, at a reference time. -/
def covering (t : Nat) : State := { withCmds .run [(Fld.SELV_CTRL_DTI, 0, 1)] [] with refTime := t }

theorem test_wit_SelvedgeEvents :
    ((stateIn .run []).selv.on = false ∧ ({ stateIn .run [] with selv := { Selv.reset with on := true } } : State).selv.on = true) ∧
    ((stateIn .standby []).dev = .standby ∧ (stateIn .safe []).dev ≠ .standby ∧ (stateIn .safe []).dev ≠ .run ∧
      (stateIn .safe []).sleeping = false ∧
      ({ stateIn .sleep [] with aon := { Aon.reset with sleepReq := true } } : State).sleeping = true) ∧
    (let c := cmdOn 1 0x01 (.loom 63) .queued [];
      (withCmds .run [] [c]).cmd? 1 = some c ∧ c.phase ≠ .running) ∧
    (let c := cmdOn 1 0x06 .kv .running [];
      let s := withCmds .run [(Fld.SELV_CTRL_HANG_US, 0, 1)] [c];
      s.cmd? 1 = some c ∧ c.phase = .running ∧ s.dev = .run ∧ c.engine.hangSource = 72 ∧
      s.refTime < c.since + s.get Fld.SELV_CTRL_HANG_US 0 * Config.us ∧
      c.since + s.get Fld.SELV_CTRL_HANG_US 0 * Config.us ≤ ({ s with refTime := 4000 } : State).refTime) ∧
    (cmdOn 1 0x01 (.loom 63) .running []).engine.hangSource < 64 ∧
    (let c := cmdOn 1 0x20 (.ply 7) .running [];
      64 ≤ c.engine.hangSource ∧ c.engine.hangSource ≠ 72 ∧ c.phase = .running ∧ (withCmds .run [] [c]).cmd? 1 = some c) ∧
    ((covering 4000000).overdue 63 = false ∧ (covering 4000001).overdue 63 = true ∧ ¬ 63 ∈ (covering 0).selv.warned) ∧
    ((covering 8000000).uncovered 63 ≤ 2 * (covering 8000000).dti ∧ (covering 8000001).live 63 = true ∧
      2 * (covering 8000001).dti < (covering 8000001).uncovered 63 ∧ ¬ 63 ∈ (covering 0).selv.faulted) := by
  decide +kernel

/-- A value of SELV_PAIR_CFG: main job 1 on hank 0, checker job 2 on hank 7, and VALID. -/
def pairValue (valid : Nat) : Nat := 2 ^ 31 * valid + 2 ^ 24 * 7 + 2 ^ 16 * 2 + 2 ^ 8 * 1

/-- A state whose jobs 1 and 2 may form a pair, with pair 3 as given and the listed commands, 5 cycles into its run. -/
def paired (w : List (Field × Nat × Nat)) (x : Pair) (cs : List Cmd) : State :=
  { withCmds .run ([(Fld.HEDDLE_JOB_CFG_CLASS, 1, 0), (Fld.HEDDLE_JOB_CFG_CLASS, 2, 0), (Fld.HEDDLE_DETJ_CFG_TWIST, 1, 1),
      (Fld.HEDDLE_DETJ_CFG_TWIST, 2, 1), (Fld.HEDDLE_CYCLE_COUNT_COUNT, 0, 5)] ++ w) cs with
    selv := { Selv.reset with pairs := [(3, x)] } }

/-- The main copy's tile and the checker's, of frame 4. -/
def mainTile : Tile := ⟨1, 0, 0, true, 4⟩
def checkTile : Tile := ⟨2, 0, 0, false, 4⟩

theorem test_wit_PairedExecution :
    (let s := paired [] Pair.reset [];
      s.setUp = true ∧ PairCfg.ofValue 0 = s.pairCfg 3 ∧ PairCfg.ofValue (pairValue 1) ≠ s.pairCfg 3 ∧
      s.pairConfig 3 = true ∧ (PairCfg.ofValue (pairValue 1)).valid = true ∧
      s.pairOk 3 (PairCfg.ofValue (pairValue 1)) = true) ∧
    (stateIn .run []).pairOk 3 (PairCfg.ofValue (2 ^ 31)) = false ∧
    (let s := paired [(Fld.SELV_PAIR_CFG_VALID, 3, 1), (Fld.SELV_PAIR_CFG_MAIN_JOB, 3, 1), (Fld.SELV_PAIR_CFG_CHECK_JOB, 3, 2)]
        Pair.reset [{ cmdOn 1 0x01 (.loom 0) .running [] with job := 1 }];
      s.isSet Fld.SELV_PAIR_CFG_VALID 3 = true ∧ s.pairConfig 3 = false) ∧
    (let a := { cmdOn 1 0x01 (.loom 0) .ended [] with job := 1 };
      let b := { cmdOn 2 0x01 (.loom 56) .ended [] with job := 2 };
      let x := { Pair.reset with tiles := [mainTile, checkTile], frames := [4] };
      let s := paired [] x [a, b];
      s.pair 3 = x ∧ x.tiles.find? (s.tileBoth x) = some mainTile ∧ s.tileOver mainTile = some a ∧
      x.tile mainTile.engine mainTile.ordinal false = some checkTile ∧ s.tileOver checkTile = some b ∧
      x.frames.find? (s.frameOver x) = none) ∧
    (let a := { cmdOn 1 0x01 (.loom 0) .ended [] with job := 1 };
      let x := { Pair.reset with tiles := [mainTile] };
      let s := { paired [] x [a] with refTime := 2 ^ 60 };
      s.pair 3 = x ∧ x.tiles.find? (s.tileBoth x) = none ∧ s.pairHalted 3 = false ∧
      x.tiles.find? (s.tileLone x) = some mainTile) ∧
    (let x := { Pair.reset with bad := [4], watch := some (4, 0) };
      4 ∈ ((paired [] x []).pair 3).bad ∧ ¬ 5 ∈ ((paired [] Pair.reset []).pair 3).bad ∧
      ((paired [] Pair.reset []).pair 3).watch = none ∧
      ((paired [] { Pair.reset with watch := some (4, 0) } []).pair 3).watch = some (4, 0) ∧ 4 + 100 < 105 ∧ 104 ≤ 4 + 100) ∧
    (let x := { Pair.reset with frames := [4], watch := some (3, 1) };
      let s := paired [] x [];
      x.frames.find? (s.frameOver x) = some 4 ∧ ¬ 4 ∈ x.bad ∧ x.watch = some (3, 1) ∧ 3 < 4 ∧ 1 < 2) ∧
    ({ Pair.reset with frames := [4], watch := some (3, 2) } : Pair).watch = some (3, 2) := by
  decide +kernel

/-- A state whose enclave runs a command, with its result or without, and the listed fields. -/
def secured (d : DevState) (op : Nat) (result : Option (Nat × Nat)) (w : List (Field × Nat × Nat)) : State :=
  { stateIn d w with sec := { Sec.reset with running := some ⟨op, result⟩ } }

theorem test_wit_SecurityCommandsRun :
    ((stateIn .safe []).isSet Fld.SEC_STATUS_BUSY 0 = false ∧ (0x10 * 256 + 11) % 256 = 11 ∧
      (stateIn .safe []).dev = .safe ∧ (stateIn .run []).dev = .run ∧ (stateIn .standby []).dev = .standby) ∧
    (stateIn .run [(Fld.SEC_STATUS_BUSY, 0, 1)]).isSet Fld.SEC_STATUS_BUSY 0 = true ∧
    (stateIn .run []).sec.running = none ∧
    (secured .run 10 (some (0x0702, 5)) []).sec.running = some ⟨10, some (0x0702, 5)⟩ ∧
    ((secured .standby 9 none []).sec.running = some ⟨9, none⟩ ∧ (secured .standby 10 none []).dev = .standby) ∧
    ((secured .run 11 none []).sec.running = some ⟨11, none⟩ ∧ (secured .run 11 none []).secWorks = true) ∧
    ((secured .run 8 none []).attestReady = false ∧
      (∃ s : State, s.sec.running = some ⟨8, none⟩ ∧ s.dev = .run ∧ s.attestReady = true)) ∧
    ((secured .standby 5 none [(Fld.SEC_CMD_TYPE, 0, 3)]).secType ≠ 1 ∧
      (secured .standby 5 none [(Fld.SEC_CMD_TYPE, 0, 3)]).secType ≠ 2 ∧
      (secured .standby 5 none [(Fld.SEC_CMD_TYPE, 0, 2)]).secType = 1 + 1 ∧ (1 : Nat) < 2) ∧
    ((secured .standby 6 none [(Fld.SEC_CMD_TYPE, 0, 1)]).secType = 0 + 1 ∧
      (secured .standby 6 none []).headerNow (secured .standby 6 none []).sec.journalKey = none ∧
      booted.headerNow booted.sec.journalKey = some 0) := by
  refine ⟨by decide +kernel, by decide +kernel, by decide +kernel, by decide +kernel, by decide +kernel, by decide +kernel,
    ⟨by decide +kernel, { stateIn .run [(Fld.SEC_STATUS_KEYS_READY, 0, 1), (Fld.SEC_CTRL_ATTEST_EN, 0, 1)] with
      sec := { Sec.reset with running := some ⟨8, none⟩, attest := [1] } }, ?_⟩, ?_, ?_⟩
  all_goals decide +kernel

theorem test_wit_JournalCommands :
    (∀ op, (secured .run op none []).sec.running = some ⟨op, none⟩ ∧ (secured .run op none []).dev = .run) ∧
    (0x0F < 0x10 ∧ 0x12 < 0x13 ∧ (65536 : Nat) < 65537 ∧ (387 : Nat) ≠ 388 ∧
      (stateIn .run [(Fld.SEC_CMD_TYPE, 0, 0x12)]).secType = 0x12 ∧
      (stateIn .run [(Fld.SEC_CMD_TYPE, 0, 0x12), (Fld.SEC_ARG_LEN_BYTES, 0, 388)]).secLen = 388) ∧
    (0x10 ≤ (stateIn .run [(Fld.SEC_CMD_TYPE, 0, 0x11)]).secType ∧
      (stateIn .run [(Fld.SEC_CMD_TYPE, 0, 0x11)]).secType < 0x12 ∧
      (stateIn .run [(Fld.SEC_ARG_LEN_BYTES, 0, 65536)]).secLen ≤ 65536) ∧
    ((stateIn .run [(Fld.SEC_CMD_ID, 0, 3)]).secId < 4 ∧ 15 < (stateIn .run [(Fld.SEC_CMD_ID, 0, 16)]).secId ∧
      4 ≤ (stateIn .run [(Fld.SEC_CMD_ID, 0, 15)]).secId ∧ (stateIn .run [(Fld.SEC_CMD_ID, 0, 15)]).secId ≤ 15) ∧
    ((secured .standby 7 none []).sec.running = some ⟨7, none⟩ ∧ (secured .standby 7 none []).dev = .standby) ∧
    ((stateIn .run [(Fld.SEC_STATUS_COMPACTING, 0, 1)]).isSet Fld.SEC_STATUS_COMPACTING 0 = true ∧
      (stateIn .run []).isSet Fld.SEC_STATUS_COMPACTING 0 = false ∧ (stateIn .run []).aon.sleepReq = false ∧
      (stateIn .run []).sec.torn = false ∧
      ({ stateIn .run [] with sec := { Sec.reset with torn := true } } : State).sec.torn = true ∧
      (stateIn .run []).sec.journalKey = [] ∧
      ({ stateIn .run [(Fld.SEC_STATUS_COMPACTING, 0, 1)] with sec := { Sec.reset with journalKey := [1] } } :
        State).sec.journalKey ≠ []) := by
  refine ⟨fun op => ⟨rfl, rfl⟩, ?_⟩
  decide +kernel

/-- A state in RUN whose tamper policies are 1, 2, 3 and, for the last sensor, 3. -/
def guardedState : State := { stateIn .run [] with aon := { Aon.reset with policy := [1, 2, 3, 1, 3] } }

theorem test_wit_TamperReactions :
    guardedState.dev = .run ∧ guardedState.aon.policy[0]? = some 1 ∧ guardedState.aon.policy[1]? = some 2 ∧
    guardedState.aon.policy[4]? = some 3 ∧ (4 : Nat) < 5 := by
  decide +kernel

/-! ### Worked examples of the spec, on its own numbers -/

/-- Bytes from numbers. -/
def bytesOf (l : List Nat) : List Byte := l.map (BitVec.ofNat 8)

/-- The first rescale entry of 06_quantisation_and_rescaling.md's worked examples. -/
def exampleEntry : Rescale :=
  Rescale.ofBytes (bytesOf [0, 0, 0, 0x60, 0x2A, 5, 0, 0, 0x23, 0, 0xFB, 0xFF, 0x80, 0xFF, 0x7F, 0])

theorem test_requantise_tie :
    requantise (-202) exampleEntry ⟨8, true⟩ false = ⟨48, false, true⟩ ∧
    requantise (-202) exampleEntry ⟨8, true⟩ true = ⟨47, false, true⟩ := by decide +kernel

theorem test_requantise_clamps :
    requantise 1000 ⟨0x40000000, 0, 32, 0, -128, 127⟩ ⟨8, true⟩ false = ⟨127, true, false⟩ ∧
    requantise (-150) ⟨0x40000000, 0, 32, 0, 0, 127⟩ ⟨8, true⟩ false = ⟨0, false, true⟩ := by decide +kernel

/-- The bundle of 03_wide_instruction_programming.md whose INT0 slot holds ADD g3 := g1 + 5. -/
def addBundle : Nat := leNat (bytesOf [1, 1, 5, 0, 0, 0, 0x10, 0x84, 1, 1])

theorem test_add_slot :
    staticTrap addBundle = none ∧
    State.reset.intWrites 0 0 0 { CoreRegs.zero with g := [(1, 37)] } addBundle .int0 = wG 3 42 := by decide +kernel

/-- The product of 05_loom_matrix_engine.md's FP8 E5M2 example. -/
def twistExample : Gemm :=
  let el (big : Nat) (k : Nat) : Nat := if k < 32 then big else if k % 32 = 0 then 0x3C else 0
  ⟨.flt .e5m2 false, .flt .e5m2 false, .float8, .flt .fp32, false, 96, 0, 0, 0, fun _ k => some (el 0x64 k), fun _ k => el 0x60 k,
    fun _ _ => 127, fun _ _ => 127, fun _ _ => 0, fun _ => exampleEntry⟩

theorem test_matmul_free_twist : (twistExample.elem false false 0 0).bits = 0x4B800000 := by decide +kernel

theorem test_matmul_fixed_twist : (twistExample.elem true false 0 0).bits = 0x4B800001 := by decide +kernel

/-- The SOLVE of 09_ply_solver_engine.md's worked example, its range entry and its matrix. -/
def cholExample : Solve :=
  ⟨.chol, 0, true, false, 50, 0, 3, 0, 0, 0, 1, 0, 0, 0, 0, 0, 0, 0, 0, 0, 0, 0x100, 0x4000, 0⟩
def cholRange : RangeEntry := ⟨16, 0, 0, 16, 5, true, 0⟩
def cholMatrix (i j : Nat) : Int :=
  [0x40000, 0x20000, 0x20000, 0x20000, 0x10000, 0x8000, 0x20000, 0x8000, 0x30000].getD (3 * i + j) 0

theorem test_chol_regularises :
    (let t := (List.range 3).foldl (cholCol cholExample cholRange cholMatrix) Item.empty;
      [t.at 0, t.at 3, t.at 4, t.at 6, t.at 7, t.at 8] = [0x20000, 0x10000, 0x8000, 0x10000, -0x10000, 0x10000] ∧
      t.reg = true ∧ t.ovf = false ∧ t.zero = false) := by decide +kernel

theorem test_crop_and_resize :
    cropOf 1920 1080 0x8000 0x8000 (0x40000000, 0xC0000000, 0x80000000, 0x10000000) = ⟨360, 8, 1200, 945⟩ ∧
    sourceLevel ⟨360, 8, 1200, 945⟩ 224 224 = 2 ∧ resizeAt 360 1200 224 2 0 = (90, 43) := by decide +kernel

theorem test_sample_mean : dsMean false 5120000 20512 = 5122048 := by decide +kernel

/-- A row whose first n bytes are 7. -/
def partRow (n : Nat) : List Byte := List.replicate n 7 ++ List.replicate (512 - n) 0

theorem test_compressed_segments :
    [150, 0, 512].map (fun n => (compressRow (partRow n)).length) = [256, 64, 576] := by decide +kernel

/-- Package p of the 8 × 4 torus of 14_idward_links_and_experts.md's worked example. -/
def torus (p : Nat) : State :=
  State.reset.setAll [(Fld.IWL_CTRL_DIM_X, 0, 8), (Fld.IWL_CTRL_DIM_Y, 0, 4), (Fld.IWL_CTRL_PKG_ID, 0, p)]

theorem test_torus_route :
    [5, 4, 3].map (fun p => (torus p).nextHop 26) = List.replicate 3 (some (1, 0, false)) ∧
    (torus 2).nextHop 26 = some (3, 1, true) ∧ (torus 26).nextHop 26 = none := by decide +kernel

/-- Loop F2 of 10_flyer_loop_engines.md's worked example: two competing controllers, PWM1, its carrier at `now`. -/
def loopF2 (now : Nat) : State :=
  { stateIn .run [(Fld.FLYER_LOOP_CFG_SP_SRC, 2, 0), (Fld.FLYER_LOOP_STATE_STATE, 2, 2), (Fld.FLYER_CTL_CFG_EN, ix 2 0, 1),
      (Fld.FLYER_CTL_CFG_FB_SRC, ix 2 0, 0x63), (Fld.FLYER_CTL_KP_GAIN, ix 2 0, 0x20000000),
      (Fld.FLYER_CTL_KI_GAIN, ix 2 0, 0x08000000), (Fld.FLYER_CTL_I_VALUE, ix 2 0, 0x04000000),
      (Fld.FLYER_CTL_CFG_EN, ix 2 1, 1), (Fld.FLYER_CTL_CFG_FB_SRC, ix 2 1, 0x69), (Fld.FLYER_CTL_CFG_SP_SEL, ix 2 1, 1),
      (Fld.FLYER_CTL_SP_CONST_VALUE, ix 2 1, 0x18000000), (Fld.FLYER_CTL_KP_GAIN, ix 2 1, 0x60000000),
      (Fld.FLYER_CTL_I_VALUE, ix 2 1, 0x30000000), (Fld.FLYER_ADC_VALUE_CODE, 3, 1536), (Fld.FLYER_ADC_VALUE_CODE, 9, 3200),
      (Fld.FLYER_PWM_PERIOD_TICKS, 1, 40000), (Fld.FLYER_PWM_DEADTIME_TICKS, 1, 400),
      (Fld.FLYER_PWM_PHASE_TICKS, 1, 20000)] with
    whorl := { Whorl.reset with count := now }
    flyer := { Flyer.reset with loops := [(2, { Loop.reset with sp := 0x20000000, selected := some 0 })] } }

theorem test_loop_selects_lower :
    (let r := ((loopF2 0).runCtls 2 0x20000000 0 0 0 [0, 1]).1;
      r.ctl Fld.FLYER_CTL_I_VALUE 2 0 = 0x0A000000 ∧ r.ctl Fld.FLYER_CTL_U_VALUE 2 0 = 0x22000000 ∧
      r.ctl Fld.FLYER_CTL_I_VALUE 2 1 = 0x30000000 ∧ r.ctl Fld.FLYER_CTL_U_VALUE 2 1 = 0x1E000000 ∧
      r.select 2 (r.competing 2) = some 1) := by decide +kernel

theorem test_pwm_half_width : Sparse.get 0 ((loopF2 0).drivePhase 1 0 0x1E000000).flyer.shadow 4 = 14688 := by decide +kernel

theorem test_pwm_edges :
    [25311, 25711, 25712, 54687, 54688, 55087, 55088].map (fun t =>
      let s : State := { loopF2 t with flyer := { (loopF2 t).flyer with compare := [(4, 14688)] } };
      (s.carrierOn 1 0, s.carrierOn 1 1)) =
    [(false, true), (false, false), (true, false), (true, false), (false, false), (false, false), (false, true)] := by decide +kernel

theorem test_record_size : jnlSize 1520 = 1632 := by decide +kernel

theorem test_page_positions : ppp 128 1 = 256 := by decide +kernel

/-- A transmit descriptor that asks for insertion mode 1 in domain 1 at offset 14, and a state with its OFS. -/
def syncDescriptor : List Byte := List.replicate 10 0 ++ bytesOf [0x14, 14] ++ List.replicate 20 0
def primaryAhead : State := stateIn .run [(Fld.WHORL_DOMSET_OFS_OFS, 0, 6400000000003)]

theorem test_sync_stamp :
    (let r := primaryAhead.insertTime syncDescriptor (List.replicate 60 0) 40967;
      r.2 = false ∧ beField r.1 48 6 = 1600 ∧ beField r.1 54 4 = 10242 ∧ beField r.1 22 8 = 0x8000) := by decide +kernel

end
end

section
/-! SUPPORT. Every command keeps what Keeps names, whatever its family: the lemmas of the Keeps files joined over the
commands of the table, and with them every step. -/

namespace Sys2Proof.Machine

/-! ## One step -/

/-- A step runs the front of the queue on the rest of it, or lets a tick pass where the queue is empty. -/
theorem step_cases {s t : State} (h : step s = .next t) :
    (s.pending = [] ∧ t = s.tick) ∨ ∃ c rest, s.pending = c :: rest ∧ exec c { s with pending := rest } = .next t := by
  unfold step at h
  split at h
  next hp => exact .inl ⟨hp, by cases h; rfl⟩
  next c rest hp => exact .inr ⟨c, rest, hp, h⟩

/-! ## Every command -/

/-- A command reaches only states that Keeps allows: one lemma for each row of the table. -/
theorem exec_keeps {r s : State} (i : Instr) (hk : Keeps r s) : ∀ t, exec i s = .next t → Keeps r t :=
  match i with
  | .regWrite .. => execRegWrite_keeps _ _ _ _ hk
  | .lowHalfRead .. => execLowHalfRead_keeps _ _ hk
  | .rcCounterRead .. => execRcCounterRead_keeps _ _ hk
  | .railsUp => execRailsUp_keeps hk
  | .railLoss .. => execRailLoss_keeps _ hk
  | .resetNAssert .. => execResetNAssert_keeps _ hk
  | .resetNRelease => execResetNRelease_keeps hk
  | .internalResetEnd => execInternalResetEnd_keeps hk
  | .bootSequence .. => execBootSequence_keeps _ hk
  | .stateReqRun => execStateReqRun_keeps hk
  | .runStart => execRunStart_keeps hk
  | .stateReqStandby => execStateReqStandby_keeps hk
  | .runExit => execRunExit_keeps hk
  | .stateReqSleep => execStateReqSleep_keeps hk
  | .sleepEntry => execSleepEntry_keeps hk
  | .stateReqReleaseSafe .. => execStateReqReleaseSafe_keeps _ hk
  | .stateReqReset => execStateReqReset_keeps hk
  | .wakeNEvent .. => execWakeNEvent_keeps _ hk
  | .canWakeDominant .. => execCanWakeDominant_keeps _ _ hk
  | .canWakeFrame .. => execCanWakeFrame_keeps _ _ _ _ hk
  | .wakeBootStart => execWakeBootStart_keeps hk
  | .wakeTimeout => execWakeTimeout_keeps hk
  | .refclkLost => execRefclkLost_keeps hk
  | .refclkRestored => execRefclkRestored_keeps hk
  | .whorlStepWrite .. => execWhorlStepWrite_keeps _ hk
  | .domainWrite .. => execDomainWrite_keeps _ hk
  | .holdEnd => execHoldEnd_keeps hk
  | .timeWaveFrame .. => execTimeWaveFrame_keeps _ hk
  | .beatmonUpdate .. => execBeatmonUpdate_keeps _ hk
  | .launchGuard .. => execLaunchGuard_keeps _ hk
  | .launchStart .. => execLaunchStart_keeps _ hk
  | .launchLate .. => execLaunchLate_keeps _ hk
  | .bundle .. => execBundle_keeps _ _ hk
  | .bundleResume .. => execBundleResume_keeps _ _ hk
  | .tokenWaitRegister .. => execTokenWaitRegister_keeps _ hk
  | .tokenSignalArrive .. => execTokenSignalArrive_keeps _ hk
  | .tokenAssign .. => execTokenAssign_keeps _ _ _ _ _ _ hk
  | .tokenRelease .. => execTokenRelease_keeps _ _ hk
  | .releaseTokens .. => execReleaseTokens_keeps _ hk
  | .matmul .. => execMatmul_keeps _ _ hk
  | .vec .. => execVec_keeps _ _ hk
  | .conv .. => execConv_keeps _ _ hk
  | .pool .. => execPool_keeps _ _ hk
  | .attn .. => execAttn_keeps _ _ _ hk
  | .kvappend .. => execKvappend_keeps _ _ hk
  | .kvappendWaitEnd .. => execKvappendWaitEnd_keeps _ hk
  | .kvappendTimeout .. => execKvappendTimeout_keeps _ hk
  | .kvappendCommit .. => execKvappendCommit_keeps _ hk
  | .slotFlush .. => execSlotFlush_keeps _ hk
  | .flushDeadline .. => execFlushDeadline_keeps _ hk
  | .dropStage .. => execDropStage_keeps _ hk
  | .kvEnableWrite .. => execKvEnableWrite_keeps _ hk
  | .freeTailWrite .. => execFreeTailWrite_keeps _ hk
  | .solve .. => execSolve_keeps _ _ hk
  | .dyn .. => execDyn_keeps _ _ hk
  | .move .. => execMove_keeps _ _ hk
  | .prog .. => execProg_keeps _ hk
  | .wait .. => execWait_keeps _ hk
  | .waitDeadline .. => execWaitDeadline_keeps _ hk
  | .signal .. => execSignal_keeps _ hk
  | .fenceDescriptor .. => execFenceDescriptor_keeps _ hk
  | .digest .. => execDigest_keeps _ _ hk
  | .commandComplete .. => execCommandComplete_keeps _ hk
  | .abortTokenReset => execAbortTokenReset_keeps hk
  | .abortRecoveryEnd => execAbortRecoveryEnd_keeps hk
  | .loomYield .. => execLoomYield_keeps _ hk
  | .plyYield .. => execPlyYield_keeps _ hk
  | .regionWrite .. => execRegionWrite_keeps _ _ _ hk
  | .winOpen .. => execWinOpen_keeps _ _ hk
  | .winClose .. => execWinClose_keeps _ _ hk
  | .winDrained .. => execWinDrained_keeps _ _ hk
  | .winAlarmPeriod .. => execWinAlarmPeriod_keeps _ hk
  | .apertureRead .. => execApertureRead_keeps _ _ hk
  | .apertureWrite .. => execApertureWrite_keeps _ _ _ hk
  | .loopSample .. => execLoopSample_keeps _ hk
  | .loopClose .. => execLoopClose_keeps _ hk
  | .loopOpen .. => execLoopOpen_keeps _ hk
  | .loopRelease .. => execLoopRelease_keeps _ hk
  | .openAll => execOpenAll_keeps hk
  | .encEdge .. => execEncEdge_keeps _ _ hk
  | .ssiFrameStart .. => execSsiFrameStart_keeps _ hk
  | .ssiFrameEnd .. => execSsiFrameEnd_keeps _ _ _ hk
  | .ssiTimeout .. => execSsiTimeout_keeps _ hk
  | .sdOutput .. => execSdOutput_keeps _ _ hk
  | .sdClkLost .. => execSdClkLost_keeps _ hk
  | .adcTrigger .. => execAdcTrigger_keeps _ hk
  | .adcEndOfConversion .. => execAdcEndOfConversion_keeps _ _ hk
  | .pwmCounterZero .. => execPwmCounterZero_keeps _ hk
  | .pwmCentreLoad .. => execPwmCentreLoad_keeps _ hk
  | .frameStartPacket .. => execFrameStartPacket_keeps _ _ _ _ hk
  | .linePacket .. => execLinePacket_keeps _ _ _ _ _ _ hk
  | .frameEndPacket .. => execFrameEndPacket_keeps _ _ _ hk
  | .publicationDecision .. => execPublicationDecision_keeps _ hk
  | .capEnable .. => execCapEnable_keeps _ hk
  | .capDisable .. => execCapDisable_keeps _ hk
  | .dsEnable .. => execDsEnable_keeps _ hk
  | .dsDisable .. => execDsDisable_keeps _ hk
  | .dsSampleStart .. => execDsSampleStart_keeps _ _ hk
  | .dsSampleEnd .. => execDsSampleEnd_keeps _ _ _ hk
  | .decodeBudget .. => execDecodeBudget_keeps _ _ hk
  | .batchPublish .. => execBatchPublish_keeps _ hk
  | .sqDoorbell .. => execSqDoorbell_keeps _ _ _ _ _ hk
  | .cqDoorbell .. => execCqDoorbell_keeps _ _ _ _ _ hk
  | .descriptorFetch .. => execDescriptorFetch_keeps _ hk
  | .completionRecordWrite .. => execCompletionRecordWrite_keeps _ _ hk
  | .coalTimer .. => execCoalTimer_keeps _ _ hk
  | .msixUnmask .. => execMsixUnmask_keeps _ _ hk
  | .sqEnable .. => execSqEnable_keeps _ _ hk
  | .sqDisable .. => execSqDisable_keeps _ _ hk
  | .cqEnable .. => execCqEnable_keeps _ _ hk
  | .cqDisable .. => execCqDisable_keeps _ _ hk
  | .functionLevelReset .. => execFunctionLevelReset_keeps _ hk
  | .flrTimeout .. => execFlrTimeout_keeps _ hk
  | .tableLoad => execTableLoad_keeps hk
  | .tableArm => execTableArm_keeps hk
  | .cycleBoundary => execCycleBoundary_keeps hk
  | .slotOpen .. => execSlotOpen_keeps _ hk
  | .slotClose .. => execSlotClose_keeps _ hk
  | .quiesceStart .. => execQuiesceStart_keeps _ hk
  | .goldenRunEnd .. => execGoldenRunEnd_keeps _ _ _ _ hk
  | .goldenTimeout .. => execGoldenTimeout_keeps _ hk
  | .steal .. => execSteal_keeps _ _ hk
  | .stealCopyBackEnd .. => execStealCopyBackEnd_keeps _ hk
  | .drainEnd => execDrainEnd_keeps hk
  | .drainTimeout => execDrainTimeout_keeps hk
  | .sliceEnd .. => execSliceEnd_keeps _ _ _ hk
  | .accountingInterval => execAccountingInterval_keeps hk
  | .portEnable .. => execPortEnable_keeps _ hk
  | .portDisable .. => execPortDisable_keeps _ hk
  | .portTrained .. => execPortTrained_keeps _ _ _ _ hk
  | .linkDown .. => execLinkDown_keeps _ hk
  | .dataFlit .. => execDataFlit_keeps _ _ _ _ hk
  | .idleFlit .. => execIdleFlit_keeps _ _ _ _ hk
  | .nakFlit .. => execNakFlit_keeps _ _ _ _ hk
  | .syncFlit .. => execSyncFlit_keeps _ _ _ _ hk
  | .replayTimeout .. => execReplayTimeout_keeps _ hk
  | .syncSend .. => execSyncSend_keeps _ hk
  | .tsLost => execTsLost_keeps hk
  | .rowWrite .. => execRowWrite_keeps _ _ hk
  | .rowRead .. => execRowRead_keeps _ _ hk
  | .tokenSignal .. => execTokenSignal_keeps _ _ hk
  | .barrierArrive .. => execBarrierArrive_keeps _ _ hk
  | .barrierRelease .. => execBarrierRelease_keeps _ _ hk
  | .parcel .. => execParcel_keeps _ _ hk
  | .parcelUnblock .. => execParcelUnblock_keeps _ _ hk
  | .ack .. => execAck_keeps _ _ hk
  | .readData .. => execReadData_keeps _ _ hk
  | .refuse .. => execRefuse_keeps _ _ hk
  | .parcelAck .. => execParcelAck_keeps _ _ hk
  | .remoteTimeout .. => execRemoteTimeout_keeps _ hk
  | .relaySignal .. => execRelaySignal_keeps _ _ hk
  | .ethEnable .. => execEthEnable_keeps _ _ hk
  | .ethTxKick .. => execEthTxKick_keeps _ hk
  | .ethTxStart .. => execEthTxStart_keeps _ hk
  | .ethTxDone .. => execEthTxDone_keeps _ hk
  | .ethTxLate .. => execEthTxLate_keeps _ hk
  | .ethRxFrame .. => execEthRxFrame_keeps _ _ _ _ hk
  | .ethLinkChange .. => execEthLinkChange_keeps _ _ _ hk
  | .domOfsWrite .. => execDomOfsWrite_keeps _ _ hk
  | .domRateWrite .. => execDomRateWrite_keeps _ _ hk
  | .domainLost .. => execDomainLost_keeps _ hk
  | .timeInEdge .. => execTimeInEdge_keeps _ _ _ hk
  | .tinStampHighRead .. => execTinStampHighRead_keeps _ hk
  | .canEnable .. => execCanEnable_keeps _ hk
  | .canDisable .. => execCanDisable_keeps _ hk
  | .canTxTailWrite .. => execCanTxTailWrite_keeps _ _ hk
  | .canTxAckWrite .. => execCanTxAckWrite_keeps _ _ hk
  | .canRxAckWrite .. => execCanRxAckWrite_keeps _ _ hk
  | .canTxAttempt .. => execCanTxAttempt_keeps _ hk
  | .canArbLost .. => execCanArbLost_keeps _ hk
  | .canTxDone .. => execCanTxDone_keeps _ hk
  | .canTxLate .. => execCanTxLate_keeps _ hk
  | .canRxFrame .. => execCanRxFrame_keeps _ _ _ hk
  | .canProtocolError .. => execCanProtocolError_keeps _ _ _ hk
  | .canBusOffRecovery .. => execCanBusOffRecovery_keeps _ hk
  | .ndcClear .. => execNdcClear_keeps _ hk
  | .lockstepMismatch => execLockstepMismatch_keeps hk
  | .pairDecision .. => execPairDecision_keeps _ hk
  | .pairTimeout .. => execPairTimeout_keeps _ hk
  | .pairFrameEnd .. => execPairFrameEnd_keeps _ hk
  | .pairValidWrite .. => execPairValidWrite_keeps _ _ hk
  | .engineHang .. => execEngineHang_keeps _ hk
  | .dtiExceeded .. => execDtiExceeded_keeps _ hk
  | .dtiFault .. => execDtiFault_keeps _ hk
  | .refHoldExpire => execRefHoldExpire_keeps hk
  | .jnlRead => execJnlRead_keeps hk
  | .jnlWrite => execJnlWrite_keeps hk
  | .jnlDelete => execJnlDelete_keeps hk
  | .ctrInc => execCtrInc_keeps hk
  | .update => execUpdate_keeps hk
  | .activate => execActivate_keeps hk
  | .commitVersion => execCommitVersion_keeps hk
  | .attest => execAttest_keeps hk
  | .debugChallenge => execDebugChallenge_keeps hk
  | .debugUnlock => execDebugUnlock_keeps hk
  | .debugLock => execDebugLock_keeps hk
  | .secCommandDone => execSecCommandDone_keeps hk
  | .compactionEnd => execCompactionEnd_keeps hk
  | .tamperTrip .. => execTamperTrip_keeps _ hk
  | .zeroisationComplete => execZeroisationComplete_keeps hk
  | .vsetWrite .. => execVsetWrite_keeps _ hk
  | .rampStep => execRampStep_keeps hk
  | .avsTransactionFail => execAvsTransactionFail_keeps hk
  | .telemetrySample .. => execTelemetrySample_keeps _ _ _ _ _ _ hk
  | .powerWindow => execPowerWindow_keeps hk
  | .canBusIntegrated .. => execCanBusIntegrated_keeps _ hk
  | .debuggerHaltStep .. => execDebuggerHaltStep_keeps _ _ hk

/-! ## Canonical form -/

theorem State.canonical_iff (s : State) :
    s.canonical = true ↔ Memory.wf s.mem = true ∧ Sparse.sorted s.regs = true := by
  simp [State.canonical]

/-- What Keeps allows holds memory and the register file in canonical form. -/
theorem Keeps.canonical {r t : State} (h : Keeps r t) (hr : r.canonical = true) : t.canonical = true := by
  obtain ⟨hm, hg⟩ := r.canonical_iff.mp hr
  exact t.canonical_iff.mpr ⟨h.mem hm, h.regs hg⟩

/-- Settles O2: a tick and every command keep canonical form, and taking a command off the queue does not touch it. -/
theorem stepsKeepCanonicalForm : Obligations.StepsKeepCanonicalForm := by
  unfold Obligations.StepsKeepCanonicalForm
  intro s t hs h
  rcases step_cases h with ⟨-, rfl⟩ | ⟨c, rest, -, hc⟩
  · exact (State.tick_keeps (Keeps.refl s)).canonical hs
  · exact (exec_keeps c (Keeps.refl { s with pending := rest }) t hc).canonical hs

end Sys2Proof.Machine
end

section
/-! SUPPORT. The state after reset, and the rules for a register field, a run of bytes and an event flag. -/

namespace Sys2Proof.Machine

/-- Settles O4: each part stands in State.reset as the statement says, with no field and no byte listed. -/
theorem resetState : Obligations.ResetState := by
  unfold Obligations.ResetState
  exact ⟨rfl, rfl, rfl, rfl, fun _ _ => rfl, fun _ => rfl, rfl, rfl, rfl, rfl, rfl⟩

/-! ## Fields and memory -/

/-- Bytes that read one by one as a list are that list. -/
theorem Mem.bytes_of_read (m : List Host.Cell) (a : Nat) (bs : List Byte)
    (h : ∀ j, j < bs.length → Mem.read m (a + j) = bs.getD j 0) : Mem.bytes m a bs.length = bs := by
  induction bs generalizing a with
  | nil => rfl
  | cons b rest ih =>
    have hb : Mem.read m a = b := h 0 (by simp)
    have hrest : Mem.bytes m (a + 1) rest.length = rest := by
      refine ih (a + 1) fun j hj => ?_
      have hj' := h (j + 1) (by simpa using hj)
      rw [Nat.add_assoc, Nat.add_comm 1 j]
      simpa using hj'
    simp only [List.length_cons, Mem.bytes, hb, hrest]

/-- Stored bytes read back. -/
theorem State.load_store (s : State) (a : Nat) (bs : List Byte) : (s.store a bs).load a bs.length = bs := by
  refine Mem.bytes_of_read _ a bs fun j hj => ?_
  rw [State.read_store, if_pos (by omega), Nat.add_sub_cancel_left]

/-- Settles O5: the field part by the keys of fields, the memory part byte by byte. -/
theorem fieldsAndMemoryReadBack : Obligations.FieldsAndMemoryReadBack := by
  unfold Obligations.FieldsAndMemoryReadBack
  refine ⟨State.get_set_same, fun s f g i j v hc hi hj => ?_, fun s f i j v h => ?_, State.read_store, State.load_store⟩
  · exact s.get_set_key f g i j v (Field.key_ne hc.symm hj hi)
  · exact s.get_set_key f f i j v (Field.key_ne_index h.symm)

/-! ## Flags and interrupts -/

/-- A counter after an addition: the sum, or all ones (R13). -/
theorem State.get_count (s : State) (f : Field) (i n : Nat) :
    (s.count f i n).get f i = min (s.get f i + n) (2 ^ f.width - 1) := by
  have hpos : 0 < 2 ^ f.width := Nat.pow_pos (by decide)
  rw [State.count_eq, State.get_set_same, Nat.mod_eq_of_lt (by omega)]

/-- A hardware set of a flag without an event source: its bit and its counter (R11). -/
theorem State.raise_of_noSource (s : State) (f : Flag) (i : Nat) (h : f.source = none) :
    s.raise f i = (s.set f.fld i 1).count f.cnt (f.cntIx i) 1 := by
  simp [State.raise, State.raiseN, h]

/-- A hardware set of a flag with an event source: its bit and its counter, then its source (R11, R382). -/
theorem State.raise_of_source (s : State) (f : Flag) (i b : Nat) (h : f.source = some b) :
    s.raise f i = ((s.set f.fld i 1).count f.cnt (f.cntIx i) 1).raiseSource (b + i) := by
  simp [State.raise, State.raiseN, h]

theorem State.raiseSource_disabled (s : State) (n : Nat) (h : s.isSet Fld.RING_EVSRC_EN n = false) :
    s.raiseSource n = s := by
  simp [State.raiseSource, h]

theorem State.raiseSource_enabled (s : State) (n : Nat) (h : s.isSet Fld.RING_EVSRC_EN n = true) :
    s.raiseSource n = s.sendVector (s.get Fld.RING_EVSRC_CLIENT n) (s.get Fld.RING_EVSRC_VECTOR n) := by
  simp [State.raiseSource, h]

theorem State.sendVector_unlinked (s : State) (c v : Nat) (h : s.linked = false) : s.sendVector c v = s := by
  simp [State.sendVector, h]

theorem State.sendVector_masked (s : State) (c v : Nat) (h : s.linked = true)
    (hm : s.isSet Fld.MSIX_CTRL_MASK (ix c v) = true) :
    s.sendVector c v = s.set Fld.MSIX_PBA_PENDING c (s.get Fld.MSIX_PBA_PENDING c ||| 2 ^ v) := by
  simp [State.sendVector, h, hm]

/-- The message of an unmasked vector: its data at its address in host memory (R381). -/
def State.messageStored (s : State) (c v : Nat) : State :=
  s.store (Mem.host ((s.get Fld.MSIX_ADDR_LO_ADDR (ix c v) + 2 ^ 32 * s.get Fld.MSIX_ADDR_HI_ADDR (ix c v)) / 4 * 4))
    (leBytes 4 (s.get Fld.MSIX_DATA_DATA (ix c v)))

theorem State.sendVector_unmasked (s : State) (c v : Nat) (h : s.linked = true)
    (hm : s.isSet Fld.MSIX_CTRL_MASK (ix c v) = false) :
    s.sendVector c v = { s.messageStored c v with
      rings := { (s.messageStored c v).rings with messages := (s.messageStored c v).rings.messages ++ [(c, v)] } } := by
  simp [State.sendVector, State.messageStored, h, hm]

/-- Settles O6: a set of a flag, its counter, the three ways of a vector, and the frame of all of it. -/
theorem flagsCountAndRaiseTheirSources : Obligations.FlagsCountAndRaiseTheirSources := by
  unfold Obligations.FlagsCountAndRaiseTheirSources
  refine ⟨fun s t f i ht => ?_, State.get_count, fun s c v => ?_, fun s f i => ?_⟩
  · subst ht
    refine ⟨s.raise_of_noSource f i, fun b hb he => ?_, fun b c v hb he hc hv => ?_⟩
    · rw [s.raise_of_source f i b hb, State.raiseSource_disabled _ _ he]
    · rw [s.raise_of_source f i b hb, State.raiseSource_enabled _ _ he, hc, hv]
  · exact ⟨s.sendVector_unlinked c v, s.sendVector_masked c v,
      fun h hm => ⟨s.messageStored c v, rfl, s.sendVector_unmasked c v h hm⟩⟩
  · obtain ⟨regs, mem, rings, e⟩ := s.raise_frame f i
    refine ⟨regs, mem, rings, e, fun a ha => ?_⟩
    have hread := s.raise_read f i a ha
    rwa [e] at hread

end Sys2Proof.Machine
end

section
/-! SUPPORT. Host accesses of the set-up registers: what an access of another shape does, what a write and a read of a
register of each access code do, and the two halves of a 64-bit register. -/

namespace Sys2Proof.Machine

/-! ## Width and alignment (R6) -/

theorem accessFits_iff (a size : Nat) : accessFits a size = true ↔ size = 4 ∧ a % 4 = 0 := by
  simp [accessFits]

/-- The bus keeps the alignment of an offset: a function's window begins at a multiple of 4 (R361). -/
theorem State.busAddress_mod {s : State} {fn offset a : Nat} (h : s.busAddress fn offset = some a) :
    a % 4 = offset % 4 := by
  unfold State.busAddress at h
  split at h
  · cases h; rfl
  · split at h
    · cases h; omega
    · cases h

theorem State.busAddress_unfit {s : State} {fn offset a size : Nat} (h : size ≠ 4 ∨ offset % 4 ≠ 0)
    (ha : s.busAddress fn offset = some a) : accessFits a size = false := by
  have hmod := State.busAddress_mod ha
  rw [Bool.eq_false_iff, Ne, accessFits_iff]
  omega

theorem State.writeBar_unfit (s : State) (a size v : Nat) (h : accessFits a size = false) : s.writeBar a size v = s := by
  simp [State.writeBar, h]

theorem State.readBar_unfit (s : State) (a size : Nat) (ha : s.answersAt a = true) (h : accessFits a size = false) :
    s.readBar a size = { s with hostRead := 0 } := by
  simp [State.readBar, ha, h]

/-- A write of another width or alignment is discarded, whatever answers. -/
theorem execRegWrite_unfit (s : State) (fn offset size v : Nat) (h : size ≠ 4 ∨ offset % 4 ≠ 0) :
    execRegWrite fn offset size v s = .next s := by
  unfold execRegWrite
  cases ha : s.busAddress fn offset with
  | none => rfl
  | some a => exact congrArg _ (s.writeBar_unfit a size v (State.busAddress_unfit h ha))

/-- A read of another width or alignment returns 0 where the block at its address answers. -/
theorem State.readAt_unfit (s : State) (fn offset size : Nat) (h : size ≠ 4 ∨ offset % 4 ≠ 0)
    (hans : ∀ a, s.busAddress fn offset = some a → s.answersAt a = true) :
    s.readAt fn offset size = { s with hostRead := 0 } := by
  unfold State.readAt
  split
  · rfl
  · cases ha : s.busAddress fn offset with
    | none => rfl
    | some a => exact s.readBar_unfit a size (hans a ha) (State.busAddress_unfit h ha)

/-- Settles O8: both commands of a read are reads of four bytes, and the address that the bus makes of an offset is as
far from a multiple of 4 as the offset. -/
theorem otherWidthsAndAlignmentsAnswerZero : Obligations.OtherWidthsAndAlignmentsAnswerZero := by
  unfold Obligations.OtherWidthsAndAlignmentsAnswerZero
  intro s fn offset size v h
  refine ⟨execRegWrite_unfit s fn offset size v h, fun hans => ⟨s.readAt_unfit fn offset size h hans, fun hsize => ?_⟩⟩
  have hread := s.readAt_unfit fn offset 4 (hsize ▸ h) hans
  exact ⟨congrArg _ hread, congrArg _ hread⟩

/-! ## Writes and reads that reach a register -/

theorem State.answersAt_setUp (s : State) (a : Nat) (h : s.setUp = true) : s.answersAt a = true := by
  simp [State.answersAt, h]

section
variable {s : State} {a : Nat} {r : Reg} {i : Nat}

/-- A write of a 32-bit register takes effect at once. -/
theorem State.writeBar_narrow (v : Nat) (ha : s.answersAt a = true) (hl : Reg.lookup allRegs a = some (r, i, false))
    (h4 : a % 4 = 0) (hw : r.wide = false) : s.writeBar a 4 v = s.writeReg r i (v % 2 ^ 32) := by
  simp [State.writeBar, ha, hl, hw, accessFits, h4]

/-- A write of a low half is staged (R7). -/
theorem State.writeBar_low (v : Nat) (ha : s.answersAt a = true) (hl : Reg.lookup allRegs a = some (r, i, false))
    (h4 : a % 4 = 0) (hw : r.wide = true) :
    s.writeBar a 4 v = { s with staging := Sparse.insert s.staging a (v % 2 ^ 32) } := by
  simp [State.writeBar, ha, hl, hw, accessFits, h4]

/-- A write of a high half writes the whole register, with the staged or the present low half (R7). -/
theorem State.writeBar_high (v : Nat) (ha : s.answersAt a = true) (hl : Reg.lookup allRegs a = some (r, i, true))
    (h4 : a % 4 = 0) :
    s.writeBar a 4 v = ({ s with staging := Sparse.erase s.staging (a - 4) }).writeReg r i
      ((Sparse.find s.staging (a - 4)).getD (s.presentLow r i) + 2 ^ 32 * (v % 2 ^ 32)) := by
  cases hf : Sparse.find s.staging (a - 4) <;> simp [State.writeBar, ha, hl, accessFits, h4, hf]

/-- A read of a 32-bit register returns it, and clears its RC fields (R9). -/
theorem State.readBar_narrow (ha : s.answersAt a = true) (hl : Reg.lookup allRegs a = some (r, i, false))
    (h4 : a % 4 = 0) (hw : r.wide = false) :
    s.readBar a 4 = { s.clearRc r i with hostRead := s.readReg r i } := by
  simp [State.readBar, ha, hl, hw, accessFits, h4]

theorem State.readBar_low (ha : s.answersAt a = true) (hl : Reg.lookup allRegs a = some (r, i, false))
    (h4 : a % 4 = 0) (hw : r.wide = true) : s.readBar a 4 = s.readLow r i a := by
  simp [State.readBar, ha, hl, hw, accessFits, h4]

theorem State.readBar_high (ha : s.answersAt a = true) (hl : Reg.lookup allRegs a = some (r, i, true))
    (h4 : a % 4 = 0) : s.readBar a 4 = s.readHigh r i a := by
  simp [State.readBar, ha, hl, accessFits, h4]

end

/-- The physical function's write of a 32-bit register while the set-up blocks answer. -/
theorem exec_regWrite_narrow {s : State} {a i : Nat} {r : Reg} (v : Nat) (hs : s.setUp = true) (hv : v < 2 ^ 32)
    (hl : Reg.lookup allRegs a = some (r, i, false)) (h4 : a % 4 = 0) (hw : r.wide = false) :
    exec (.regWrite 0 a 4 v) s = .next (s.writeReg r i v) := by
  have h := State.writeBar_narrow v (s.answersAt_setUp a hs) hl h4 hw
  rw [Nat.mod_eq_of_lt hv] at h
  exact congrArg _ h

/-! ## The fields of one write (R9, R14, R600) -/

/-- An RWO field takes no write of the value that it holds. -/
theorem Written.field_rwo_same (w : Written) (cfg : Bool) (i v : Nat) (f : Field) (ha : f.acc = .rwo)
    (he : w.state.get f i = bitsOf v f.lo f.width) : w.field cfg i v f = w := by
  simp [Written.field, ha, he]

/-- In CONFIG an RWO field that takes every value takes another one. -/
theorem Written.field_rwo_config (w : Written) (i v : Nat) (f : Field) (ha : f.acc = .rwo) (hl : f.legal = .any)
    (he : w.state.get f i ≠ bitsOf v f.lo f.width) :
    w.field true i v f = { w with state := w.state.set f i (bitsOf v f.lo f.width) } := by
  simp [Written.field, ha, hl, Legal.allows, he]

/-- Outside CONFIG it is locked. -/
theorem Written.field_rwo_locked (w : Written) (i v : Nat) (f : Field) (ha : f.acc = .rwo) (hl : f.legal = .any)
    (he : w.state.get f i ≠ bitsOf v f.lo f.width) : w.field false i v f = { w with locked := true } := by
  simp [Written.field, ha, hl, Legal.allows, he]

theorem bitsOf_whole {v w : Nat} (h : v < 2 ^ w) : bitsOf v 0 w = v := by
  simp [bitsOf, Nat.mod_eq_of_lt h]

theorem bitsOf_lt (v lo w : Nat) : bitsOf v lo w < 2 ^ w := Nat.mod_lt _ (Nat.pow_pos (by decide))

/-! ## One register of each code -/

theorem State.inConfig_loopGear (s : State) (n : Nat) : s.inConfig Reg.FLYER_LOOP_GEAR n = s.loopConfig n := by
  simp [State.inConfig, Reg.outer, Reg.FLYER_LOOP_GEAR]

theorem lookup_rateAdj : Reg.lookup allRegs 0x300010 = some (Reg.WHORL_RATE_ADJ, 0, false) := by decide +kernel

theorem lookup_hubEvt : Reg.lookup allRegs 0x18 = some (Reg.HUB_EVT, 0, false) := by decide +kernel

theorem lookup_hubStateCount : Reg.lookup allRegs 0x1C = some (Reg.HUB_EVT_CNT_STATE, 0, false) := by decide +kernel

theorem lookup_loopGear :
    ∀ n, n < 32 → Reg.lookup allRegs (0x408018 + 0x400 * n) = some (Reg.FLYER_LOOP_GEAR, n, false) := by decide +kernel

theorem lookup_whorlTime : Reg.lookup allRegs 0x300000 = some (Reg.WHORL_TIME, 0, false) := by decide +kernel

theorem lookup_whorlTime_high : Reg.lookup allRegs 0x300004 = some (Reg.WHORL_TIME, 0, true) := by decide +kernel

/-- WHORL_RATE_ADJ is RW: a write of it sets its field. -/
theorem State.writeReg_rateAdj (s : State) (v : Nat) (hv : v < 2 ^ 32) :
    s.writeReg Reg.WHORL_RATE_ADJ 0 v = s.set Fld.WHORL_RATE_ADJ_ADJ 0 v :=
  calc s.writeReg Reg.WHORL_RATE_ADJ 0 v
    _ = s.set Fld.WHORL_RATE_ADJ_ADJ 0 (bitsOf v 0 32) := rfl
    _ = s.set Fld.WHORL_RATE_ADJ_ADJ 0 v := by rw [bitsOf_whole hv]

/-- Bits of one more field taken out, of a code that none of the fields written before has. -/
theorem SetsOnly.mask {s t : State} {w : List (Field × Nat × Nat)} {i : Nat} (h : SetsOnly s t w) (f : Field) (x : Nat)
    (hc : w.all (fun p => p.1.code != f.code) = true) (hi : ∀ p ∈ w, p.2.1 = i) :
    SetsOnly s (t.set f i (t.get f i &&& x)) (w ++ [(f, i, s.get f i &&& x)]) := by
  have hkey : ∀ p ∈ w, f.key i ≠ p.1.key p.2.1 := fun p hp => by
    have hcode : p.1.code ≠ f.code := by simpa using List.all_eq_true.mp hc p hp
    rw [hi p hp]
    unfold Field.key
    omega
  have hget : t.get f i = s.get f i := by
    obtain ⟨-, -, hframe⟩ := h
    exact hframe f i hkey
  rw [hget]
  exact h.more f _ (Nat.lt_of_le_of_lt Nat.and_le_left (s.get_lt f i)) hc hi

/-- HUB_EVT holds RW1C flags: a write clears those that it writes 1 to. -/
theorem State.writeReg_hubEvt (s : State) (v : Nat) : SetsOnly s (s.writeReg Reg.HUB_EVT 0 v)
    [(Fld.HUB_EVT_SKEIN_RETIRED, 0, s.get Fld.HUB_EVT_SKEIN_RETIRED 0 &&& (1 - bitsOf v 2 1)),
     (Fld.HUB_EVT_REQ_REFUSED, 0, s.get Fld.HUB_EVT_REQ_REFUSED 0 &&& (1 - bitsOf v 1 1)),
     (Fld.HUB_EVT_STATE_CHANGED, 0, s.get Fld.HUB_EVT_STATE_CHANGED 0 &&& (1 - bitsOf v 0 1))] :=
  (((SetsOnly.none s).mask (i := 0) Fld.HUB_EVT_SKEIN_RETIRED (1 - bitsOf v 2 1) rfl (by simp)).mask
    Fld.HUB_EVT_REQ_REFUSED (1 - bitsOf v 1 1) rfl (by simp)).mask Fld.HUB_EVT_STATE_CHANGED (1 - bitsOf v 0 1) rfl (by simp)

/-- A hub counter is RC: a write of it does nothing. -/
theorem State.writeReg_hubStateCount (s : State) (v : Nat) : s.writeReg Reg.HUB_EVT_CNT_STATE 0 v = s := rfl

/-- GEAR of a loop is RWO: what a write of it does is what it does to its one field, gated by the loop. -/
theorem State.writeReg_loopGear (s : State) (n v : Nat) : s.writeReg Reg.FLYER_LOOP_GEAR n v =
    ((⟨s, false, false⟩ : Written).field (s.loopConfig n) n v Fld.FLYER_LOOP_GEAR_GEAR).report Reg.FLYER_LOOP_GEAR n := by
  rw [← s.inConfig_loopGear n]
  rfl

/-- A loop register's write that is locked reports COEF_LOCKED (R313) and sets no refusal flag. -/
theorem Written.report_lockedGear (s : State) (n : Nat) : (⟨s, false, true⟩ : Written).report Reg.FLYER_LOOP_GEAR n =
    (s.set Fld.FLYER_LOOP_STATE_LAST_STATUS n 0x0306).raise Flg.FLYER_LOOP_EVT_COEF_LOCKED n := by
  have houter : Reg.FLYER_LOOP_GEAR.outer n = n := by simp [Reg.outer, Reg.FLYER_LOOP_GEAR]
  calc (⟨s, false, true⟩ : Written).report Reg.FLYER_LOOP_GEAR n
    _ = s.reportLocked Reg.FLYER_LOOP_GEAR n := rfl
    _ = (s.set Fld.FLYER_LOOP_STATE_LAST_STATUS (Reg.FLYER_LOOP_GEAR.outer n) 0x0306).raise
          Flg.FLYER_LOOP_EVT_COEF_LOCKED (Reg.FLYER_LOOP_GEAR.outer n) := rfl
    _ = _ := by rw [houter]

section
variable {s : State} {n v : Nat}

theorem State.writeReg_loopGear_same (hv : v < 2 ^ 32) (he : s.get Fld.FLYER_LOOP_GEAR_GEAR n = v) :
    s.writeReg Reg.FLYER_LOOP_GEAR n v = s := by
  rw [s.writeReg_loopGear, Written.field_rwo_same _ _ _ _ _ rfl (he.trans (bitsOf_whole hv).symm)]
  rfl

theorem State.writeReg_loopGear_config (hv : v < 2 ^ 32) (hc : s.loopConfig n = true)
    (he : s.get Fld.FLYER_LOOP_GEAR_GEAR n ≠ v) :
    s.writeReg Reg.FLYER_LOOP_GEAR n v = s.set Fld.FLYER_LOOP_GEAR_GEAR n v := by
  have hx : bitsOf v Fld.FLYER_LOOP_GEAR_GEAR.lo Fld.FLYER_LOOP_GEAR_GEAR.width = v := bitsOf_whole hv
  rw [s.writeReg_loopGear, hc, Written.field_rwo_config _ _ _ _ rfl rfl (by rwa [hx]), hx]
  rfl

theorem State.writeReg_loopGear_locked (hv : v < 2 ^ 32) (hc : s.loopConfig n = false)
    (he : s.get Fld.FLYER_LOOP_GEAR_GEAR n ≠ v) : s.writeReg Reg.FLYER_LOOP_GEAR n v =
      (s.set Fld.FLYER_LOOP_STATE_LAST_STATUS n 0x0306).raise Flg.FLYER_LOOP_EVT_COEF_LOCKED n := by
  have hx : bitsOf v Fld.FLYER_LOOP_GEAR_GEAR.lo Fld.FLYER_LOOP_GEAR_GEAR.width = v := bitsOf_whole hv
  rw [s.writeReg_loopGear, hc, Written.field_rwo_locked _ _ _ _ rfl rfl (by rwa [hx]), Written.report_lockedGear]

end

/-- In CONFIG, GEAR holds the value written, whether or not it held it before. -/
theorem State.writeReg_loopGear_sets (s : State) (n v : Nat) (hv : v < 2 ^ 32) (hc : s.loopConfig n = true) :
    SetsOnly s (s.writeReg Reg.FLYER_LOOP_GEAR n v) [(Fld.FLYER_LOOP_GEAR_GEAR, n, v)] := by
  by_cases he : s.get Fld.FLYER_LOOP_GEAR_GEAR n = v
  · rw [State.writeReg_loopGear_same hv he]
    exact ⟨rfl, by simpa using he, fun _ _ _ => rfl⟩
  · rw [State.writeReg_loopGear_config hv hc he]
    exact SetsOnly.one s _ n v hv

/-! ## Reads -/

theorem State.readReg_hubStateCount (s : State) :
    s.readReg Reg.HUB_EVT_CNT_STATE 0 = s.get Fld.HUB_EVT_CNT_STATE_COUNT 0 % 2 ^ 32 :=
  calc s.readReg Reg.HUB_EVT_CNT_STATE 0
    _ = s.readField Fld.HUB_EVT_CNT_STATE_COUNT 0 * 1 := rfl
    _ = s.readField Fld.HUB_EVT_CNT_STATE_COUNT 0 := Nat.mul_one _
    _ = s.get Fld.HUB_EVT_CNT_STATE_COUNT 0 % 2 ^ 32 := rfl

/-- WHORL_TIME shows the Whorl count. -/
theorem State.readReg_whorlTime (s : State) : s.readReg Reg.WHORL_TIME 0 = s.now :=
  calc s.readReg Reg.WHORL_TIME 0
    _ = s.readField Fld.WHORL_TIME_TIME 0 * 1 := rfl
    _ = s.readField Fld.WHORL_TIME_TIME 0 := Nat.mul_one _
    _ = s.now % 2 ^ 64 := rfl
    _ = s.now := Nat.mod_eq_of_lt s.whorl.count.isLt

/-- A read of a hub counter clears it and returns what it held. -/
theorem exec_rcCounterRead_hubStateCount (s : State) (hs : s.setUp = true) :
    exec (.rcCounterRead 0 0x1C) s = .next (({ s with
      hostRead := s.get Fld.HUB_EVT_CNT_STATE_COUNT 0 % 2 ^ 32 }).set Fld.HUB_EVT_CNT_STATE_COUNT 0 0) := by
  have h := State.readBar_narrow (s.answersAt_setUp _ hs) lookup_hubStateCount rfl rfl
  rw [s.readReg_hubStateCount] at h
  exact congrArg _ h

/-- A read of the low half of WHORL_TIME captures the count. -/
theorem exec_lowHalfRead_whorlTime (s : State) (hs : s.setUp = true) : exec (.lowHalfRead 0 0x300000) s =
    .next { s with hostRead := s.now % 2 ^ 32, shadows := Sparse.put 0 s.shadows 0x300000 s.now } := by
  have h := State.readBar_low (s.answersAt_setUp _ hs) lookup_whorlTime rfl rfl
  have hlow : s.readLow Reg.WHORL_TIME 0 0x300000 = { s with
      shadows := Sparse.put 0 s.shadows 0x300000 (s.readReg Reg.WHORL_TIME 0)
      hostRead := s.readReg Reg.WHORL_TIME 0 % 2 ^ 32 } := rfl
  rw [hlow, s.readReg_whorlTime] at h
  exact congrArg _ h

/-- A read of the high half returns what was captured. -/
theorem exec_highHalfRead_whorlTime (u : State) (hu : u.setUp = true) :
    exec (.lowHalfRead 0 0x300004) u = .next { u with hostRead := Sparse.get 0 u.shadows 0x300000 / 2 ^ 32 } :=
  congrArg _ (State.readBar_high (u.answersAt_setUp _ hu) lookup_whorlTime_high rfl)

/-- Settles O9: where a write goes by its half, then one register of each access code, and the two halves of a read. -/
theorem registerAccessCodes : Obligations.RegisterAccessCodes := by
  unfold Obligations.RegisterAccessCodes
  refine ⟨fun s a v r i high ha hl h4 => ?_, fun s v hs hv => ⟨?_, ?_, ?_, fun n hn => ?_⟩, fun s hs => ?_, fun s hs => ?_⟩
  · cases high with
    | true => exact congrArg _ (State.writeBar_high v ha hl h4)
    | false =>
      cases hw : r.wide with
      | true => exact congrArg _ (State.writeBar_low v ha hl h4 hw)
      | false => exact congrArg _ (State.writeBar_narrow v ha hl h4 hw)
  · refine ⟨_, exec_regWrite_narrow v hs hv lookup_rateAdj rfl rfl, ?_⟩
    rw [s.writeReg_rateAdj v hv]
    exact SetsOnly.one s _ 0 v hv
  · exact ⟨_, exec_regWrite_narrow v hs hv lookup_hubEvt rfl rfl, s.writeReg_hubEvt v⟩
  · exact ⟨_, exec_regWrite_narrow v hs hv lookup_hubStateCount rfl rfl, s.writeReg_hubStateCount v⟩
  · have hw := exec_regWrite_narrow v hs hv (lookup_loopGear n hn) (by omega) rfl
    refine ⟨fun hc => ⟨_, hw, s.writeReg_loopGear_sets n v hv hc⟩, fun _ he => ?_, fun hc he => ?_⟩
    · rw [hw, State.writeReg_loopGear_same hv he]
    · exact ⟨_, hw.trans (congrArg _ (State.writeReg_loopGear_locked hv hc he)), SetsOnly.one s _ n 0x0306 (by decide)⟩
  · exact ⟨_, exec_rcCounterRead_hubStateCount s hs, SetsOnly.one _ _ 0 0 (by decide)⟩
  · have hlow := exec_lowHalfRead_whorlTime s hs
    refine ⟨hlow, fun t ht u hu hsh => ?_⟩
    rw [hlow] at ht
    cases ht
    rw [exec_highHalfRead_whorlTime u hu, hsh, Sparse.get_put, if_pos rfl]

end Sys2Proof.Machine
end

section
/-! SUPPORT. Writes of job row regions, the states of a window, the alarm period of a skein and the debug aperture. -/

namespace Sys2Proof.Machine

/-! ## Regions (R110, R112) -/

theorem exec_regionWrite {s : State} (k n : Nat) (v : BitVec 64) (hs : s.setUp = true) :
    exec (.regionWrite k n v) s = .next (s.regionWrite k n v.toNat) := congrArg _ (State.host_up _ hs)

/-- A write of what a region holds does nothing. -/
theorem State.regionWrite_same (s : State) (k n v : Nat)
    (h : ∀ p ∈ regionFields n k v, s.get p.1 p.2.1 = p.2.2) : s.regionWrite k n v = s := by
  unfold State.regionWrite
  exact if_pos (List.all_eq_true.mpr fun p hp => beq_iff_eq.mpr (h p hp))

section
variable {s : State} {k n v : Nat} (hne : ∃ p ∈ regionFields n k v, s.get p.1 p.2.1 ≠ p.2.2)
include hne

theorem regionFields_differ : ¬ (regionFields n k v).all (fun f => s.get f.1 f.2.1 == f.2.2) = true := by
  obtain ⟨p, hp, hd⟩ := hne
  exact fun h => hd (beq_iff_eq.mp (List.all_eq_true.mp h p hp))

/-- A change outside CONFIG is refused. -/
theorem State.regionWrite_locked (h : s.regionConfig k n = false) :
    s.regionWrite k n v = s.raise Flg.SKEIN_BOB_EVT_CONFIG_REFUSED k := by
  unfold State.regionWrite
  simp [if_neg (regionFields_differ hne), h]

/-- A change to a valid region that R110 or R527 forbids is refused. -/
theorem State.regionWrite_bad (h1 : bitsOf v 63 1 = 1)
    (h : s.regionBad k n (bitsOf v 48 8) (bitsOf v 0 14) (bitsOf v 16 14) = true) :
    s.regionWrite k n v = s.raise Flg.SKEIN_BOB_EVT_CONFIG_REFUSED k := by
  unfold State.regionWrite
  simp [if_neg (regionFields_differ hne), h1, h]

/-- Any other change gives the region's fields their values. -/
theorem State.regionWrite_taken (hc : s.regionConfig k n = true)
    (h : bitsOf v 63 1 = 1 → s.regionBad k n (bitsOf v 48 8) (bitsOf v 0 14) (bitsOf v 16 14) = false) :
    s.regionWrite k n v = s.setAll (regionFields n k v) := by
  unfold State.regionWrite
  rw [if_neg (regionFields_differ hne), if_neg]
  by_cases h1 : bitsOf v 63 1 = 1
  · simp [hc, h h1]
  · simp [hc, h1]

end

/-- Limits the wrong way round. -/
theorem State.regionBad_reversed (s : State) (k n job first last : Nat) (h : last < first) :
    s.regionBad k n job first last = true := by
  simp [State.regionBad, h]

/-- A row of a valid region of another job. -/
theorem State.regionBad_overlap (s : State) (k n job first last m : Nat) (hm : m < 8) (hmn : m ≠ n)
    (hv : s.isSet Fld.SKEIN_BOB_REGION_VALID (ix k m) = true) (hj : s.get Fld.SKEIN_BOB_REGION_JOB (ix k m) ≠ job)
    (hf : s.get Fld.SKEIN_BOB_REGION_FIRST (ix k m) ≤ last) (hl : first ≤ s.get Fld.SKEIN_BOB_REGION_LAST (ix k m)) :
    s.regionBad k n job first last = true := by
  unfold State.regionBad
  rw [Bool.or_eq_true, List.any_eq_true]
  exact .inr ⟨m, List.mem_range.mpr hm, by simp [hmn, hv, hj, hf, hl]⟩

/-- The fields of a region take the bits of the value, and nothing else changes. -/
theorem State.setAll_regionFields (s : State) (n k v : Nat) :
    SetsOnly s (s.setAll (regionFields n k v)) (regionFields n k v) :=
  (((SetsOnly.one s Fld.SKEIN_BOB_REGION_VALID (ix k n) _ (bitsOf_lt v 63 1)).more
    Fld.SKEIN_BOB_REGION_JOB _ (bitsOf_lt v 48 8) rfl (by simp)).more
    Fld.SKEIN_BOB_REGION_LAST _ (bitsOf_lt v 16 14) rfl (by simp)).more
    Fld.SKEIN_BOB_REGION_FIRST _ (bitsOf_lt v 0 14) rfl (by simp)

/-! ## Windows (R125, R131) -/

/-- A window is replaced, and only it. -/
theorem State.putWindow_only (s : State) (k n : Nat) (w : Window) :
    s.putWindow k n w = { s with windows := (s.putWindow k n w).windows } ∧ (s.putWindow k n w).window k n = w ∧
      ∀ j m, ix j m ≠ ix k n → (s.putWindow k n w).window j m = s.window j m := by
  refine ⟨rfl, ?_, fun j m h => ?_⟩
  · simp [State.window, State.putWindow, Sparse.get_put]
  · simp [State.window, State.putWindow, Sparse.get_put, h]

/-- A window without a key, a row or a package does not open. -/
theorem State.windowOk_empty (s : State) (k n : Nat) (w : Window) (h : w.key = 0 ∨ w.count = 0 ∨ w.mask = 0) :
    s.windowOk k n w = false := by
  rcases h with h | h | h <;> simp [State.windowOk, h]

theorem exec_winOpen_opens {s : State} {k n : Nat} (hs : s.setUp = true) (hi : (s.window k n).state = .idle)
    (hok : s.windowOk k n (s.window k n) = true) :
    exec (.winOpen k n) s = .next (s.putWindow k n { s.window k n with state := .active }) := by
  show execWinOpen k n s = _
  rw [execWinOpen, State.host_up _ hs]
  exact congrArg Host.Outcome.next (if_pos ⟨hi, hok⟩)

theorem exec_winOpen_refused {s : State} {k n : Nat} (hs : s.setUp = true)
    (h : (s.window k n).state ≠ .idle ∨ s.windowOk k n (s.window k n) = false) :
    exec (.winOpen k n) s = .next (s.raise Flg.SKEIN_BOB_EVT_CONFIG_REFUSED k) := by
  have hno : ¬ ((s.window k n).state = .idle ∧ s.windowOk k n (s.window k n) = true) := by
    rintro ⟨hi, hok⟩
    rcases h with h | h
    · exact h hi
    · simp [hok] at h
  show execWinOpen k n s = _
  rw [execWinOpen, State.host_up _ hs]
  exact congrArg Host.Outcome.next (if_neg hno)

theorem exec_winClose_up {s : State} (k n : Nat) (hs : s.setUp = true) :
    exec (.winClose k n) s = .next (s.windowDrain k n) := congrArg _ (State.host_up _ hs)

theorem State.windowDrain_active {s : State} {k n : Nat} (h : (s.window k n).state = .active) :
    s.windowDrain k n = s.putWindow k n { s.window k n with state := .draining } := if_pos h

theorem State.windowDrain_inactive {s : State} {k n : Nat} (h : (s.window k n).state ≠ .active) :
    s.windowDrain k n = s := if_neg h

theorem exec_winDrained_idle {s : State} {k n : Nat} (h : (s.window k n).state = .draining) :
    exec (.winDrained k n) s = .next (s.putWindow k n { s.window k n with state := .idle }) := congrArg _ (if_pos h)

theorem exec_winDrained_none {s : State} {k n : Nat} (h : (s.window k n).state ≠ .draining) :
    exec (.winDrained k n) s = .next s := congrArg _ (if_neg h)

/-! ## The counting period (R129) -/

/-- Before the end of its period a skein keeps its count. -/
theorem State.alarmPeriod_within (s : State) (k : Nat)
    (h : s.refTime < (Sparse.get WinAlarm.reset s.winAlarm k).began + 4000 * s.get Fld.SKEIN_WIN_ALARM_PERIOD k) :
    s.alarmPeriod k = Sparse.get WinAlarm.reset s.winAlarm k := if_pos h

/-- After it, it counts afresh from the last end of a period. -/
theorem State.alarmPeriod_late (s : State) (k : Nat) {x : WinAlarm} {ticks : Nat}
    (hx : x = Sparse.get WinAlarm.reset s.winAlarm k) (ht : ticks = 4000 * s.get Fld.SKEIN_WIN_ALARM_PERIOD k)
    (h : x.began + ticks ≤ s.refTime) :
    s.alarmPeriod k = ⟨0, false, x.began + (s.refTime - x.began) / ticks * ticks⟩ := by
  subst hx ht
  exact if_neg (Nat.not_lt.mpr h)

/-- From the n-th end on, up to the next one, that is the n-th. -/
theorem State.alarmPeriod_after (s : State) (k n : Nat) {x : WinAlarm} {ticks : Nat}
    (hx : x = Sparse.get WinAlarm.reset s.winAlarm k) (ht : ticks = 4000 * s.get Fld.SKEIN_WIN_ALARM_PERIOD k)
    (hn : 0 < n) (hlo : x.began + n * ticks ≤ s.refTime) (hhi : s.refTime < x.began + (n + 1) * ticks) :
    s.alarmPeriod k = ⟨0, false, x.began + n * ticks⟩ := by
  have hfirst : ticks ≤ n * ticks := Nat.le_mul_of_pos_left ticks hn
  have hdiv : (s.refTime - x.began) / ticks = n := Nat.div_eq_of_lt_le (by omega) (by omega)
  rw [s.alarmPeriod_late k hx ht (by omega), hdiv]

/-! ## The debug aperture (R134) -/

/-- Where an offset of BAR4 lies. -/
theorem aperturePlace_eq {k row b : Nat} (hrow : row < 12288) (hb : b < 512) :
    aperturePlace (k * 0x800000 + row * 512 + b) = (k, row, b) := by
  unfold aperturePlace
  rw [Prod.mk.injEq, Prod.mk.injEq]
  omega

/-- An aperture that is locked, or an access of another shape or past the last skein. -/
theorem State.apertureOpen_false (s : State) (offset size : Nat)
    (h : s.isSet Fld.SEC_STATUS_DEBUG_LOCKED 0 = true ∨ size ≠ 4 ∨ offset % 4 ≠ 0 ∨ 64 * 0x800000 ≤ offset) :
    s.apertureOpen offset size = false := by
  rcases h with h | h | h | h
  · simp [State.apertureOpen, h]
  · simp [State.apertureOpen, accessFits, h]
  · simp [State.apertureOpen, accessFits, h]
  · have hk : ¬ (aperturePlace offset).1 < 64 := by
      unfold aperturePlace
      omega
    simp [State.apertureOpen, hk]

theorem exec_aperture_closed {s : State} {offset size : Nat} (value : Nat) (hs : s.setUp = true)
    (h : s.apertureOpen offset size = false) :
    exec (.apertureRead offset size) s = .next { s with hostRead := 0 } ∧
    exec (.apertureWrite offset size value) s = .next s := by
  have hno : ¬ s.apertureOpen offset size = true := by simp [h]
  refine ⟨?_, ?_⟩
  · show execApertureRead offset size s = _
    rw [execApertureRead, State.host_up _ hs, if_neg hno]
  · show execApertureWrite offset size value s = _
    rw [execApertureWrite, State.host_up _ hs, if_neg hno]

/-- Without a fault there is nothing to settle. -/
theorem State.settle_quiet {s : State} (h : s.heddle.fault = none) : s.settle = s := by
  simp [State.settle, h]

theorem State.aperture_of_find {s : State} {k : Nat} {x : Aperture} (h : Sparse.find s.apertures k = some x) :
    s.aperture k = x := by
  simp [State.aperture, h]

/-- The row that the copy holds already is not captured again. -/
theorem State.holdRow_held {s : State} {k row : Nat} {x : Aperture} (h : Sparse.find s.apertures k = some x)
    (hrow : x.row = row) : s.holdRow k row = s := by
  simp [State.holdRow, h, hrow]

section
variable {s : State} {k row b : Nat} {x : Aperture} (hs : s.setUp = true)
  (hopen : s.apertureOpen (k * 0x800000 + row * 512 + b) 4 = true) (hrow : row < 12288) (hb : b < 512)
  (hfind : Sparse.find s.apertures k = some x) (hheld : x.row = row)
include hs hopen hrow hb hfind hheld

/-- A read of the row that the copy holds. -/
theorem exec_apertureRead_held (hquiet : s.heddle.fault = none) :
    exec (.apertureRead (k * 0x800000 + row * 512 + b) 4) s = .next { s with hostRead := fieldOf x.data b 4 } := by
  show execApertureRead _ _ s = _
  unfold execApertureRead
  simp only [State.host_up _ hs, hopen, if_true, aperturePlace_eq hrow hb, State.holdRow_held hfind hheld,
    State.aperture_of_find hfind]
  exact congrArg Host.Outcome.next (State.settle_quiet (s := { s with hostRead := fieldOf x.data b 4 }) hquiet)

/-- A write of the row that the copy holds patches it; the last word commits it. -/
theorem exec_apertureWrite_held (value : Nat) :
    exec (.apertureWrite (k * 0x800000 + row * 512 + b) 4 value) s = .next (((s.putAperture k
      { x with data := patch x.data b (leBytes 4 value), dirty := true }).doIf (b == 508)
        fun u => u.commitAperture k).settle) := by
  show execApertureWrite _ _ _ s = _
  unfold execApertureWrite
  simp only [State.host_up _ hs, hopen, if_true, aperturePlace_eq hrow hb, State.holdRow_held hfind hheld,
    State.aperture_of_find hfind]

end

/-- An unlocked aperture answers a 32-bit access of a row of a skein that is no checker's. -/
theorem State.apertureOpen_true {s : State} {k row b : Nat} (hk : k < 64) (hrow : row < 12288) (hb : b < 512)
    (hb4 : b % 4 = 0) (hl : s.isSet Fld.SEC_STATUS_DEBUG_LOCKED 0 = false) (hp : s.checkHankPair k = none) :
    s.apertureOpen (k * 0x800000 + row * 512 + b) 4 = true := by
  have hfit : accessFits (k * 0x800000 + row * 512 + b) 4 = true := (accessFits_iff _ _).mpr ⟨rfl, by omega⟩
  have hrows : row < Config.rows := hrow
  simp [State.apertureOpen, aperturePlace_eq hrow hb, hfit, hl, hk, hrows, hp]

/-! ## The statement's parts -/

/-- Settles O34: a region write by what refuses it, a window by its state, a period by the number of its ends that have
passed, and an aperture access by whether the aperture answers and the copy holds the row. -/
theorem bobbinRegionsWindowsAndAperture : Obligations.BobbinRegionsWindowsAndAperture := by
  unfold Obligations.BobbinRegionsWindowsAndAperture
  refine ⟨fun s k n v hs _ _ => ?_, fun s k n => ?_,
    fun s offset size value hs h => exec_aperture_closed value hs h, State.apertureOpen_false,
    fun s k row b value x hs hk hrow hb hb4 hl hp hq hfind hheld => ?_⟩
  · -- a region write (R110, R112)
    rw [exec_regionWrite k n v hs]
    refine ⟨fun h => by rw [s.regionWrite_same k n _ h], fun hne => ⟨fun h => by rw [State.regionWrite_locked hne h],
      fun h1 h => ?_, fun m h1 hm hmn hv hj hf hl => ?_, fun hc h => ⟨_, rfl, ?_⟩⟩⟩
    · rw [State.regionWrite_bad hne h1 (s.regionBad_reversed _ _ _ _ _ h)]
    · rw [State.regionWrite_bad hne h1 (s.regionBad_overlap _ _ _ _ _ m hm hmn hv hj hf hl)]
    · rw [State.regionWrite_taken hne hc h]
      exact s.setAll_regionFields n k _
  · -- a window and the counting period (R125, R129, R131)
    refine ⟨fun hs hi hok => ⟨_, exec_winOpen_opens hs hi hok, s.putWindow_only k n _⟩,
      fun hs h => exec_winOpen_refused hs h, s.windowOk_empty k n _, fun hs h => ⟨_, ?_, s.putWindow_only k n _⟩,
      fun hs h => ?_, fun h => ⟨_, exec_winDrained_idle h, s.putWindow_only k n _⟩, fun h => exec_winDrained_none h,
      _, rfl, rfl, fun j hj => ?_, fun x hx => ?_⟩
    · rw [exec_winClose_up k n hs, State.windowDrain_active h]
    · rw [exec_winClose_up k n hs, State.windowDrain_inactive h]
    · exact (Sparse.get_put _ _ _ _ _).trans (if_neg hj)
    · have hget : Sparse.get WinAlarm.reset (Sparse.put WinAlarm.reset s.winAlarm k (s.alarmPeriod k)) k =
        s.alarmPeriod k := (Sparse.get_put _ _ _ _ _).trans (if_pos rfl)
      exact ⟨fun h => hget.trans ((s.alarmPeriod_within k (hx ▸ h)).trans hx.symm),
        fun m _ hm hlo hhi => hget.trans (s.alarmPeriod_after k m hx rfl hm hlo hhi)⟩
  · -- the row that the aperture's copy holds (R134)
    have hopen := State.apertureOpen_true hk hrow hb hb4 hl hp
    have hwrite := exec_apertureWrite_held hs hopen hrow hb hfind hheld value
    refine ⟨exec_apertureRead_held hs hopen hrow hb hfind hheld hq, fun h => ?_, fun h t ht => ?_⟩
    · rw [hwrite, beq_eq_false_iff_ne.mpr h, State.doIf_false]
      exact congrArg Host.Outcome.next (State.settle_quiet (s := s.putAperture k _) hq)
    · rw [hwrite, beq_iff_eq.mpr h, State.doIf_true, ht]

end Sys2Proof.Machine
end

section
/-! SUPPORT. What holds of every command: it answers a next state, and it keeps the queue, time, names and free values.
And what a host access does where no block answers it. -/

namespace Sys2Proof.Machine

/-! ## Every command -/

/-- The meaning of every row of the table answers a next state. -/
theorem exec_next (c : Instr) (s : State) : ∃ t, exec c s = .next t := by
  cases c <;> exact ⟨_, rfl⟩

/-- Settles O3: each row's meaning answers a next state, and what its Keeps lemma names includes the queue, time, names
and free values. -/
theorem commandsCompleteAndLeaveQueueAndTime : Obligations.CommandsCompleteAndLeaveQueueAndTime := by
  unfold Obligations.CommandsCompleteAndLeaveQueueAndTime
  refine ⟨exec_next, fun c s t h => ?_⟩
  have hk : Keeps s t := exec_keeps c (Keeps.refl s) t h
  exact ⟨hk.pending, hk.time, hk.uid, hk.free⟩

/-! ## Host accesses without an answer (Table 1.7, R29) -/

/-- A meaning that is a host access of the set-up registers changes nothing where they do not answer. -/
theorem next_host_down {s : State} (f : State → State) (h : s.setUp = false) :
    (Host.Outcome.next (s.host f) : Host.Outcome State Fault Refusal) = .next s := congrArg _ (State.host_down f h)

/-- In OFF, RESET, SLEEP and ALARM the HUB block does not answer. -/
theorem State.hubAnswers_false {s : State} (h : s.dev = .off ∨ s.dev = .reset ∨ s.dev = .sleep ∨ s.dev = .alarm) :
    s.hubAnswers = false := by
  rcases h with h | h | h | h <;> simp [State.hubAnswers, h]

/-- A request that the HUB block does not answer changes nothing. -/
theorem State.rankedReq_unanswered {s : State} (rank : Nat) (allowed : Bool) (f : State → State)
    (h : s.hubAnswers = false) : s.rankedReq rank allowed f = s := by
  simp [State.rankedReq, h]

/-- Settles O7: each of the commands named is a host access, and each request asks the HUB block. -/
theorem hostAccessesNeedAnAnsweringBlock : Obligations.HostAccessesNeedAnAnsweringBlock := by
  unfold Obligations.HostAccessesNeedAnAnsweringBlock
  refine ⟨fun c s hs hc => ?_, fun s check hd => ?_⟩
  · cases c
    case ndcClear | ethEnable | ethTxKick | apertureRead | apertureWrite | whorlStepWrite | domainWrite | domOfsWrite
      | domRateWrite | tinStampHighRead | loopClose | loopOpen | loopRelease | openAll | regionWrite | winOpen
      | winClose | canTxTailWrite | canTxAckWrite | canRxAckWrite | canEnable | canDisable | capDisable | dsDisable
      | tableLoad | tableArm | dropStage | kvEnableWrite | freeTailWrite | vsetWrite | portEnable | portDisable
      | pairValidWrite | tokenAssign | tokenRelease | releaseTokens | sqDoorbell | cqDoorbell | msixUnmask
      | sqEnable | sqDisable | cqEnable | cqDisable | functionLevelReset | capEnable | dsEnable => exact next_host_down _ hs
    all_goals exact False.elim hc
  · have hh := State.hubAnswers_false hd
    have hno (rank : Nat) (allowed : Bool) (f : State → State) :
        (Host.Outcome.next (s.rankedReq rank allowed f) : Host.Outcome State Fault Refusal) = .next s :=
      congrArg _ (State.rankedReq_unanswered rank allowed f hh)
    have hsafe : decide (s.dev = .safe) = false := by rcases hd with h | h | h | h <;> simp [h]
    refine ⟨hno _ _ _, hno _ _ _, hno _ _ _, hno _ _ _, ?_⟩
    show execStateReqReleaseSafe check s = _
    rw [execStateReqReleaseSafe, hsafe, State.doIf_false]
    exact hno _ _ _

end Sys2Proof.Machine
end

section
/-! SUPPORT. Transitions of the device state: what a raised flag leaves, the entries to RESET, OFF and SLEEP, and the
pulse of RESET_N. -/

namespace Sys2Proof.Machine

/-! ## What a set of a flag leaves (R11, R382) -/

@[simp] theorem State.raise_dev (s : State) (f : Flag) (i : Nat) : (s.raise f i).dev = s.dev := by
  obtain ⟨_, _, _, e⟩ := s.raise_frame f i
  rw [e]

@[simp] theorem State.raise_aon (s : State) (f : Flag) (i : Nat) : (s.raise f i).aon = s.aon := by
  obtain ⟨_, _, _, e⟩ := s.raise_frame f i
  rw [e]

@[simp] theorem State.raise_whorl (s : State) (f : Flag) (i : Nat) : (s.raise f i).whorl = s.whorl := by
  obtain ⟨_, _, _, e⟩ := s.raise_frame f i
  rw [e]

@[simp] theorem State.raise_sec (s : State) (f : Flag) (i : Nat) : (s.raise f i).sec = s.sec := by
  obtain ⟨_, _, _, e⟩ := s.raise_frame f i
  rw [e]

/-! ## A transition (R29, R30) -/

section
variable (s : State) (d left : DevState) (cause : Nat) (decided : Option (Nat × Nat × DevState))

@[simp] theorem State.turn_dev : (s.turn d left cause decided).dev = d := by simp [State.turn]

@[simp] theorem State.turn_aon : (s.turn d left cause decided).aon =
    { s.aon with prev := left, cause := cause, decided := decided } := by simp [State.turn]

@[simp] theorem State.turn_whorl : (s.turn d left cause decided).whorl = s.whorl := by simp [State.turn]

@[simp] theorem State.turn_sec : (s.turn d left cause decided).sec = s.sec := by simp [State.turn]

end

/-- What has been decided in this beat keeps the state before it. -/
theorem State.before_decided {s : State} {rank : Nat} {d : DevState} (h : s.aon.decided = some (s.refTime, rank, d)) :
    s.before = d := by
  simp [State.before, h]

/-- The state before the causes of a beat rests on the time, the state and the always-on record alone. -/
theorem State.before_congr {s t : State} (ht : t.refTime = s.refTime) (hd : t.dev = s.dev)
    (ha : t.aon.decided = s.aon.decided) : t.before = s.before := by
  simp [State.before, ht, hd, ha]

/-! ## Entry to RESET (R589) -/

/-- RESET loses the main domain, whatever its cause. -/
theorem State.enterReset_mainLost (s : State) (cause rank : Nat) (internal : Bool) :
    MainLost s (s.enterReset cause rank internal) aonFields true :=
  (s.mainLost_spec aonFields true).with _ _ _ _

theorem State.resetBy_first {s : State} (cause : Nat) (internal : Bool) (h : s.outranked 3 = false) :
    s.resetBy cause internal = s.enterReset cause 3 internal := by
  simp [State.resetBy, h]

/-- Power-up: the board holds RESET_N low (R589). -/
theorem exec_railsUp_off {s : State} (h : s.dev = .off) : exec .railsUp s = .next { s.enterReset 0 0 false with
    aon := { (s.enterReset 0 0 false).aon with resetLow := true, up := true } } := congrArg _ (if_pos h)

theorem exec_zeroisationComplete_alarm {s : State} (h : s.dev = .alarm) :
    exec .zeroisationComplete s = .next (s.enterReset 7 0 true) := congrArg _ (if_pos h)

/-! ## The pulse of RESET_N (Table 21.2, R591) -/

/-- RESET_N has been taken low by a pulse that resets, and the one free value of the pulse is used. -/
def State.resetNLow (s : State) : State :=
  { s with freeCount := s.freeCount + 1, aon := { s.aon with resetLow := true } }

theorem State.pulseResets_long (s : State) {lowNs : Nat} (h : 10000 ≤ lowNs) : s.pulseResets lowNs = true := by
  simp [State.pulseResets, h]

theorem State.pulseResets_short (s : State) {lowNs : Nat} (h : lowNs ≤ 1000) : s.pulseResets lowNs = false := by
  have hlong : ¬ 10000 ≤ lowNs := by omega
  simp [State.pulseResets, hlong, Nat.not_lt.mpr h]

theorem State.pulseResets_between (s : State) {lowNs : Nat} (h1 : 1000 < lowNs) (h2 : lowNs < 10000) :
    s.pulseResets lowNs = Config.freeBit s.freeCount 0 := by
  simp [State.pulseResets, h1, Nat.not_le.mpr h2]

section
variable {s : State} {lowNs : Nat}

theorem exec_resetNAssert_ignored (h : s.pulseResets lowNs = false) :
    exec (.resetNAssert lowNs) s = .next { s with freeCount := s.freeCount + 1 } :=
  congrArg _ (if_pos (by simp [h]))

theorem exec_resetNAssert_off (h : s.pulseResets lowNs = true) (hd : s.dev = .off) :
    exec (.resetNAssert lowNs) s = .next s.resetNLow := by
  show execResetNAssert lowNs s = _
  simp [execResetNAssert, h, hd, State.resetNLow]

/-- A pulse in SLEEP wakes. -/
theorem exec_resetNAssert_sleep (h : s.pulseResets lowNs = true) (hd : s.dev = .sleep) (hs : s.sleeping = false) :
    exec (.resetNAssert lowNs) s = .next (s.resetNLow.wakeBy 3) := by
  show execResetNAssert lowNs s = _
  simp [execResetNAssert, h, hd, hs, State.resetNLow]

/-- A pulse in a state that has its main domain resets. -/
theorem exec_resetNAssert_resets (h : s.pulseResets lowNs = true) (hoff : s.dev ≠ .off) (hsleep : s.dev ≠ .sleep) :
    exec (.resetNAssert lowNs) s = .next (s.resetNLow.resetBy 1 false) := by
  show execResetNAssert lowNs s = _
  cases hd : s.dev <;> simp_all [execResetNAssert, State.resetNLow]

/-- What resets does so as a pulse of 10 us does. -/
theorem exec_resetNAssert_whole (h : s.pulseResets lowNs = true) :
    exec (.resetNAssert lowNs) s = exec (.resetNAssert 10000) s := by
  show execResetNAssert lowNs s = execResetNAssert 10000 s
  simp only [execResetNAssert, h, s.pulseResets_long (Nat.le_refl 10000)]

end

/-- A pulse of 10 us in a beat in which nothing has decided a transition. -/
theorem exec_resetNAssert_fresh {s : State} {lowNs : Nat} (h : 10000 ≤ lowNs) (hoff : s.dev ≠ .off)
    (hsleep : s.dev ≠ .sleep) (hf : s.freshBeat = true) :
    exec (.resetNAssert lowNs) s = .next (s.resetNLow.enterReset 1 3 false) := by
  rw [exec_resetNAssert_resets (s.pulseResets_long h) hoff hsleep,
    State.resetBy_first _ _ (State.outranked_fresh (s := s.resetNLow) hf 3)]

/-! ## The end of RESET (R589) -/

theorem exec_resetNRelease_boots {s : State} (hl : s.aon.resetLow = true) (hd : s.dev = .reset)
    (hi : s.aon.internal = false) : exec .resetNRelease s =
    .next (State.beginBoot { s with aon := { s.aon with resetLow := false } }) := by
  show execResetNRelease s = _
  simp [execResetNRelease, hl, hd, hi]

theorem exec_resetNRelease_held {s : State} (hl : s.aon.resetLow = true) (hi : s.aon.internal = true) :
    exec .resetNRelease s = .next { s with aon := { s.aon with resetLow := false } } := by
  show execResetNRelease s = _
  simp [execResetNRelease, hl, hi]

theorem exec_internalResetEnd_boots {s : State} (hd : s.dev = .reset) (hi : s.aon.internal = true)
    (hl : s.aon.resetLow = false) (ht : s.aon.resetAt + 10 * Config.us ≤ s.refTime) : exec .internalResetEnd s =
    .next (State.beginBoot { s with aon := { s.aon with internal := false } }) := congrArg _ (if_pos ⟨hd, hi, hl, ht⟩)

/-- BOOT begins with RESET as the state before and the cause as it was. -/
theorem State.beginBoot_reset {s : State} (h : s.dev = .reset) : s.beginBoot = State.raise { s with
    dev := .boot, aon := { s.aon with prev := .reset, decided := none } } Flg.HUB_EVT_STATE_CHANGED 0 := by
  simp [State.beginBoot, State.go, State.turn, h]

theorem State.wakeBy_begins {s : State} (source : Nat) (hd : s.dev = .sleep) (hw : s.aon.wake = none) :
    s.wakeBy source = { s.set Fld.PWR_WAKE_LAST_SOURCE 0 source with
      aon := { s.aon with wake := some (source, s.refTime) } } := if_pos ⟨hd, hw⟩

/-- Settles O11: RESET ends by the later of its two ends, and a pulse is taken whole or ignored whole by its length. -/
theorem resetEnds : Obligations.ResetEnds := by
  unfold Obligations.ResetEnds
  refine ⟨⟨fun s hd hl hi => ?_, fun s hd hl hi ht => ?_, fun s hl hi => exec_resetNRelease_held hl hi⟩,
    fun s lowNs => ⟨fun h => exec_resetNAssert_ignored (s.pulseResets_short h), fun h hd hs hw => ?_, fun h1 h2 => ?_⟩⟩
  · rw [exec_resetNRelease_boots hl hd hi, State.beginBoot_reset (by exact hd)]
  · rw [exec_internalResetEnd_boots hd hi hl ht, State.beginBoot_reset (by exact hd)]
  · rw [exec_resetNAssert_sleep (s.pulseResets_long h) hd hs, State.wakeBy_begins (s := s.resetNLow) 3 hd hw]
    exact ⟨_, rfl, SetsOnly.one { s with
      freeCount := s.freeCount + 1
      aon := { s.aon with resetLow := true, wake := some (3, s.refTime) } } Fld.PWR_WAKE_LAST_SOURCE 0 3 (by decide)⟩
  · have hp := s.pulseResets_between h1 h2
    cases hb : Config.freeBit s.freeCount 0 with
    | true => exact (exec_resetNAssert_whole (hp.trans hb)).trans (if_pos rfl).symm
    | false => exact (exec_resetNAssert_ignored (hp.trans hb)).trans (if_neg Bool.false_ne_true).symm

/-! ## Loss of the rails (R578, R593) -/

/-- The supply's loss may tear a record of the flash and touches nothing but it and a free value (R565). -/
theorem State.tearAppend_frame (s : State) :
    ∃ freeCount mem, s.tearAppend = { s with freeCount := freeCount, mem := mem } := by
  unfold State.tearAppend
  split
  · exact ⟨_, _, rfl⟩
  · split
    · exact ⟨_, _, rfl⟩
    · exact ⟨_, _, rfl⟩

@[simp] theorem State.tearAppend_refTime (s : State) : s.tearAppend.refTime = s.refTime := by
  obtain ⟨_, _, e⟩ := s.tearAppend_frame
  rw [e]

@[simp] theorem State.tearAppend_dev (s : State) : s.tearAppend.dev = s.dev := by
  obtain ⟨_, _, e⟩ := s.tearAppend_frame
  rw [e]

@[simp] theorem State.tearAppend_aon (s : State) : s.tearAppend.aon = s.aon := by
  obtain ⟨_, _, e⟩ := s.tearAppend_frame
  rw [e]

@[simp] theorem State.tearAppend_whorl (s : State) : s.tearAppend.whorl = s.whorl := by
  obtain ⟨_, _, e⟩ := s.tearAppend_frame
  rw [e]

@[simp] theorem State.tearAppend_sec (s : State) : s.tearAppend.sec = s.sec := by
  obtain ⟨_, _, e⟩ := s.tearAppend_frame
  rw [e]

@[simp] theorem State.tearAppend_before (s : State) : s.tearAppend.before = s.before :=
  State.before_congr s.tearAppend_refTime s.tearAppend_dev (by rw [s.tearAppend_aon])

theorem State.tearAppend_none {s : State} (h : s.sec.programming = none) : s.tearAppend = s := by
  simp [State.tearAppend, h]

/-- A record that the flash still programs is torn at one of its bytes. -/
theorem State.tearAppend_some {s : State} {p : Programming} (h : s.sec.programming = some p)
    (ht : s.refTime < p.since + 20 * Config.us + ceilDiv p.size 256 * 1000 * Config.us) :
    ∃ n, n ≤ p.size ∧ s.tearAppend = { s with
      freeCount := s.freeCount + 1, mem := Mem.clear s.mem (p.addr + n) (p.size - n) } := by
  refine ⟨(Config.freeWord s.freeCount).toNat % (p.size + 1), Nat.le_of_lt_succ (Nat.mod_lt _ (Nat.succ_pos _)), ?_⟩
  simp only [State.tearAppend, h]
  exact if_neg (Nat.not_le.mpr ht)

/-- Where the always-on rails hold, OFF keeps its fields and those of the wake listener. -/
theorem State.enterOff_mainLost (s : State) : MainLost s (s.enterOff true) (aonFields ++ listenerFields) false :=
  (s.mainLost_spec _ false).with _ _ _ _

/-- Where they do not, it keeps no field. -/
theorem State.enterOff_mainLost_all (s : State) : MainLost s (s.enterOff false) [] false :=
  (s.mainLost_spec _ false).with _ _ _ _

@[simp] theorem State.enterOff_dev (s : State) (aonHolds : Bool) : (s.enterOff aonHolds).dev = .off := by
  cases aonHolds <;> rfl

@[simp] theorem State.enterOff_prev (s : State) (aonHolds : Bool) : (s.enterOff aonHolds).aon.prev = s.before := by
  cases aonHolds <;> rfl

@[simp] theorem State.enterOff_count (s : State) : (s.enterOff true).whorl.count = s.whorl.count := rfl

@[simp] theorem State.enterOff_keys (s : State) : (s.enterOff true).sec.keys = s.sec.keys := rfl

@[simp] theorem State.enterOff_journalKey (s : State) : (s.enterOff true).sec.journalKey = s.sec.journalKey := rfl

theorem exec_railLoss_held {s : State} (h : s.dev ≠ .off) :
    exec (.railLoss true) s = .next (s.tearAppend.enterOff true) :=
  congrArg _ (if_neg fun hd => h hd.1)

theorem exec_railLoss_all (s : State) : exec (.railLoss false) s = .next (s.tearAppend.enterOff false) :=
  congrArg _ (if_neg fun hd => Bool.false_ne_true hd.2)

/-! ## Entry to SLEEP (R590) -/

theorem exec_sleepEntry_enters {s : State} (hd : s.dev = .standby) (hq : s.aon.sleepReq = true) :
    exec .sleepEntry s = .next s.enterSleep := congrArg _ (if_pos ⟨hd, hq⟩)

@[simp] theorem State.enterSleep_dev (s : State) : s.enterSleep.dev = .sleep := by simp [State.enterSleep, State.goBy]

@[simp] theorem State.enterSleep_aon (s : State) : s.enterSleep.aon =
    { s.aon with prev := s.before, cause := 2, decided := some (s.refTime, 5, s.before) } := by
  simp [State.enterSleep, State.goBy]

@[simp] theorem State.enterSleep_whorl (s : State) : s.enterSleep.whorl = s.whorl := by
  simp [State.enterSleep, State.goBy]

@[simp] theorem State.enterSleep_sec (s : State) : s.enterSleep.sec = s.sec := by simp [State.enterSleep, State.goBy]

/-- With the end of the beat of its entry, SLEEP loses the main domain. -/
theorem State.settleSleep_sleeping {s : State} (h : s.sleeping = true) : s.settleSleep =
    { s.mainLost (aonFields ++ listenerFields) false with
      whorl := { (s.mainLost (aonFields ++ listenerFields) false).whorl with count := s.whorl.count, fraction := 0 }
      aon := { (s.mainLost (aonFields ++ listenerFields) false).aon with wake := s.aon.wake } } :=
  if_neg (by simp [h])

theorem State.settleSleep_mainLost {s : State} (h : s.sleeping = true) :
    MainLost s s.settleSleep (aonFields ++ listenerFields) false := by
  rw [State.settleSleep_sleeping h]
  exact (s.mainLost_spec _ false).with _ _ _ _

/-! ## Host requests (R29, R30) -/

/-- A request that the rules allow is done. -/
theorem State.rankedReq_granted {s : State} {rank : Nat} {allowed : Bool} (f : State → State)
    (hh : s.hubAnswers = true) (ha : allowed = true) (ht : s.inTransition = false) (ho : s.outranked rank = false) :
    s.rankedReq rank allowed f = f s := by
  simp [State.rankedReq, hh, ha, ht, ho]

/-- Any other is refused. -/
theorem State.rankedReq_refused {s : State} {rank : Nat} {allowed : Bool} (f : State → State)
    (hh : s.hubAnswers = true) (h : allowed = false ∨ s.inTransition = true ∨ s.outranked rank = true) :
    s.rankedReq rank allowed f = s.raise Flg.HUB_EVT_REQ_REFUSED 0 := by
  rcases h with h | h | h <;> simp [State.rankedReq, State.refuseReq, hh, h]

theorem exec_stateReqReset_granted {s : State} (hh : s.hubAnswers = true) (ht : s.inTransition = false)
    (ho : s.outranked 3 = false) : exec .stateReqReset s = .next (s.enterReset 2 3 true) :=
  congrArg _ ((State.rankedReq_granted _ hh rfl ht ho).trans (State.resetBy_first 2 true ho))

/-- Settles O10: each entry to RESET, OFF or SLEEP is a loss of the main domain, and then the always-on record is
given. -/
theorem mainDomainLost : Obligations.MainDomainLost := by
  unfold Obligations.MainDomainLost
  refine ⟨⟨fun s hd => ?_, fun s lowNs h hoff hsleep hf => ?_, fun s hh ht hf => ?_, fun s hd => ?_⟩,
    fun s hd hf => ?_, fun s => ?_, fun s => ⟨State.tearAppend_none, fun p hp ht => State.tearAppend_some hp ht⟩,
    fun s hd hq hf => ?_⟩
  · -- power-up
    exact ⟨_, exec_railsUp_off hd, (s.enterReset_mainLost 0 0 false).with _ _ _ _, rfl, rfl, hd, rfl⟩
  · -- a pulse of RESET_N
    exact ⟨_, _, exec_resetNAssert_fresh h hoff hsleep hf, rfl, s.resetNLow.enterReset_mainLost 1 3 false, rfl, rfl,
      State.before_fresh (s := s.resetNLow) hf, rfl, rfl⟩
  · -- the host request
    exact ⟨_, exec_stateReqReset_granted hh ht (State.outranked_fresh hf 3), s.enterReset_mainLost 2 3 true, rfl, rfl,
      State.before_fresh hf, rfl, rfl⟩
  · -- the end of zeroisation
    have hleft : (s.enterReset 7 0 true).aon.fromAlarm = true := by simp [State.enterReset, hd]
    exact ⟨_, exec_zeroisationComplete_alarm hd, s.enterReset_mainLost 7 0 true, rfl, rfl, hd, hleft⟩
  · -- rail loss with the always-on rails held
    refine ⟨_, exec_railLoss_held hd, s.tearAppend.enterOff_mainLost, rfl, ?_, ?_, ?_, ?_⟩ <;>
      simp [State.before_fresh hf]
  · -- rail loss with the always-on rails lost too
    exact ⟨_, exec_railLoss_all s, s.tearAppend.enterOff_mainLost_all, rfl, rfl⟩
  · -- SLEEP
    have hs : s.enterSleep.sleeping = true := by simp [State.sleeping, hq]
    have hb : s.before = .standby := (State.before_fresh hf).trans hd
    refine ⟨_, _, exec_sleepEntry_enters hd hq, s.enterSleep_dev, ?_, ?_, rfl, State.settleSleep_mainLost hs, ?_⟩
    · simp [hb]
    · simp
    · simp [State.settleSleep_sleeping hs, State.mainLost, hb]

end Sys2Proof.Machine
end

section
/-! SUPPORT. The host state requests, granted and refused, and the beginning and the end of RUN. -/

namespace Sys2Proof.Machine

/-! ## Granted and refused (R29, R30) -/

/-- The HUB block answers in STANDBY, RUN and SAFE. -/
theorem State.hubAnswers_of {s : State} (h : s.dev = .standby ∨ s.dev = .run ∨ s.dev = .safe) :
    s.hubAnswers = true := by
  rcases h with h | h | h <;> simp [State.hubAnswers, h]

section
variable {s : State}

theorem exec_stateReqReset_refused (hh : s.hubAnswers = true) (h : s.inTransition = true ∨ s.outranked 3 = true) :
    exec .stateReqReset s = .next (s.raise Flg.HUB_EVT_REQ_REFUSED 0) :=
  congrArg _ (State.rankedReq_refused _ hh (.inr h))

theorem exec_stateReqRun_granted (hd : s.dev = .standby) (hp : s.heddle.pending.isSome = true)
    (ht : s.inTransition = false) (ho : s.outranked 5 = false) :
    exec .stateReqRun s = .next { s with heddle := { s.heddle with runReq := true, runAt := s.now } } :=
  congrArg _ (State.rankedReq_granted _ (State.hubAnswers_of (.inl hd)) (by simp [hd, hp]) ht ho)

theorem exec_stateReqRun_refused (hh : s.hubAnswers = true)
    (h : (s.dev ≠ .standby ∨ s.heddle.pending = none) ∨ s.inTransition = true ∨ s.outranked 5 = true) :
    exec .stateReqRun s = .next (s.raise Flg.HUB_EVT_REQ_REFUSED 0) :=
  congrArg _ (State.rankedReq_refused _ hh (h.imp_left fun h => by rcases h with h | h <;> simp [h]))

theorem exec_stateReqStandby_granted (hd : s.dev = .run) (ht : s.inTransition = false) (ho : s.outranked 5 = false) :
    exec .stateReqStandby s = .next { s with heddle := { s.heddle with standbyReq := true } } :=
  congrArg _ (State.rankedReq_granted _ (State.hubAnswers_of (.inr (.inl hd))) (by simp [hd]) ht ho)

theorem exec_stateReqStandby_refused (hh : s.hubAnswers = true)
    (h : s.dev ≠ .run ∨ s.inTransition = true ∨ s.outranked 5 = true) :
    exec .stateReqStandby s = .next (s.raise Flg.HUB_EVT_REQ_REFUSED 0) :=
  congrArg _ (State.rankedReq_refused _ hh (h.imp_left fun h => by simp [h]))

theorem exec_stateReqSleep_granted (hd : s.dev = .standby) (hc : ∀ n, n < 8 → s.isSet Fld.CAN_CTRL_EN n = false)
    (ht : s.inTransition = false) (ho : s.outranked 5 = false) :
    exec .stateReqSleep s = .next { s with aon := { s.aon with sleepReq := true } } :=
  congrArg _ (State.rankedReq_granted _ (State.hubAnswers_of (.inl hd)) (by simpa [hd] using hc) ht ho)

theorem exec_stateReqSleep_refused (hh : s.hubAnswers = true)
    (h : (s.dev ≠ .standby ∨ ∃ n, n < 8 ∧ s.isSet Fld.CAN_CTRL_EN n = true) ∨ s.inTransition = true ∨
      s.outranked 5 = true) :
    exec .stateReqSleep s = .next (s.raise Flg.HUB_EVT_REQ_REFUSED 0) :=
  congrArg _ (State.rankedReq_refused _ hh (h.imp_left fun h => by
    rcases h with h | h
    · simp [h]
    · simpa using fun _ => h))

/-- RELEASE_SAFE outside SAFE is refused, and no self-check runs. -/
theorem exec_stateReqReleaseSafe_outside (ok : Bool) (hh : s.hubAnswers = true) (hd : s.dev ≠ .safe) :
    exec (.stateReqReleaseSafe ok) s = .next (s.raise Flg.HUB_EVT_REQ_REFUSED 0) := by
  show execStateReqReleaseSafe ok s = _
  rw [execStateReqReleaseSafe, decide_eq_false hd]
  exact congrArg _ (State.rankedReq_refused _ hh (.inl rfl))

/-- In SAFE the self-check shows in LOCKSTEP_OK; without it or against R519 the request is refused. -/
theorem exec_stateReqReleaseSafe_refused {ok : Bool} (hd : s.dev = .safe) (h : (ok && s.releasable) = false) :
    exec (.stateReqReleaseSafe ok) s =
      .next ((s.setBit Fld.SELV_STATUS_LOCKSTEP_OK 0 ok).raise Flg.HUB_EVT_REQ_REFUSED 0) := by
  show execStateReqReleaseSafe ok s = _
  rw [execStateReqReleaseSafe, decide_eq_true hd]
  exact congrArg _ (State.rankedReq_refused _ (State.hubAnswers_of (.inr (.inr hd))) (.inl h))

theorem exec_stateReqReleaseSafe_granted (hd : s.dev = .safe) (hr : s.releasable = true) (ht : s.inTransition = false)
    (ho : s.outranked 5 = false) : exec (.stateReqReleaseSafe true) s =
    .next (((s.set Fld.SELV_STATUS_LOCKSTEP_OK 0 1).set Fld.SELV_STATUS_FAULT_ACTIVE 0 0).enterStandby 2) := by
  show execStateReqReleaseSafe true s = _
  rw [execStateReqReleaseSafe, decide_eq_true hd]
  exact congrArg _ (State.rankedReq_granted _ (State.hubAnswers_of (.inr (.inr hd))) hr ht ho)

end

/-! ## RUN begins and ends (R29, R395) -/

/-- At the boundary after a RUN request the pending table becomes active. -/
theorem exec_runStart_begins {s : State} {x : Table} (hp : s.heddle.pending = some x) (hd : s.dev = .standby)
    (hr : s.heddle.runReq = true) (hb : s.runBoundary x.cycle ≤ s.now) {u : State}
    (hu : u = ((s.set Fld.HEDDLE_CYCLE_START_TIME 0
      (s.runBoundary x.cycle + (s.now - s.runBoundary x.cycle) / x.cycle * x.cycle)).accum
        Fld.HEDDLE_CYCLE_COUNT_COUNT 0 1).set Fld.HEDDLE_TBL_CMD_ARM 0 0) :
    exec .runStart s = .next (State.goBy { u with heddle := { u.heddle with
      active := some x, openSlots := [], quiesced := [], runReq := false } } .run 2 5) := by
  subst hu
  show execRunStart s = _
  rw [execRunStart, hp]
  exact congrArg _ (if_pos ⟨hd, hr, hb⟩)

/-- A boundary that finds no command left ends RUN. -/
theorem exec_runExit_ends {s : State} {x : Table} (ha : s.heddle.active = some x) (hd : s.dev = .run)
    (hq : s.heddle.standbyReq = true) (hb : s.boundary + x.cycle ≤ s.now) (hc : ∀ c ∈ s.cmds, c.phase = .ended) :
    exec .runExit s = .next (s.crossCycles.enterStandby 2) := by
  show execRunExit s = _
  rw [execRunExit, ha]
  exact congrArg _ (if_pos ⟨hd, hq, hb, by simpa using hc⟩)

/-- A command that has not ended holds RUN. -/
theorem exec_runExit_holds {s : State} {x : Table} (ha : s.heddle.active = some x)
    (hc : ∃ c ∈ s.cmds, c.phase ≠ .ended) : exec .runExit s = .next s := by
  obtain ⟨c, hmem, hp⟩ := hc
  have hall : ¬ s.cmds.all (fun c => decide (c.phase = .ended)) = true := fun h =>
    hp (by simpa using List.all_eq_true.mp h c hmem)
  show execRunExit s = _
  rw [execRunExit, ha]
  exact congrArg _ (if_neg fun ⟨_, _, _, h⟩ => hall h)

/-! ## Causes of one beat (R30) -/

/-- Settles O12: a request is granted or refused by what rankedReq asks, and OFF keeps the state before its beat. -/
theorem stateRequests : Obligations.StateRequests := by
  unfold Obligations.StateRequests
  refine ⟨⟨fun s t hd ht hf hp => ⟨?_, rfl⟩, fun s hd ht hf => ?_, fun s hd ht hf hc => ?_, fun s hd ht hf hr => ?_⟩,
    ⟨fun s hh h => ?_, fun s hh h => ?_, fun s hh h => ?_, fun s hh ht => exec_stateReqReset_refused hh (.inl ht),
      fun s ok hh hd => exec_stateReqReleaseSafe_outside ok hh hd,
      fun s hd hr => exec_stateReqReleaseSafe_refused hd (by simp [hr]),
      fun s hd => exec_stateReqReleaseSafe_refused hd rfl⟩,
    ⟨fun s x hp hd hf hr hb u hu => ?_, fun s x ha hd hq hb hc => exec_runExit_ends ha hd hq hb hc,
      fun s x ha _ hc => exec_runExit_holds ha hc⟩,
    fun s lowNs h hoff hsleep hf => ?_, fun s hh ho => exec_stateReqReset_refused hh (.inr ho),
    fun s hh ht ho => exec_stateReqReset_granted hh ht ho, fun s hh ho => ?_⟩
  · exact exec_stateReqRun_granted hd (by simp [hp]) ht (State.outranked_fresh hf 5)
  · exact exec_stateReqStandby_granted hd ht (State.outranked_fresh hf 5)
  · exact exec_stateReqSleep_granted hd hc ht (State.outranked_fresh hf 5)
  · exact exec_stateReqReleaseSafe_granted hd hr ht (State.outranked_fresh hf 5)
  · exact exec_stateReqRun_refused hh (h.elim (.inl ∘ .inl) fun h => h.elim (.inr ∘ .inl) (.inl ∘ .inr))
  · exact exec_stateReqStandby_refused hh (h.imp_right .inl)
  · exact exec_stateReqSleep_refused hh (h.elim (.inl ∘ .inl) fun h => h.elim (.inr ∘ .inl) (.inl ∘ .inr))
  · -- RUN begins
    have hbefore : s.before = .standby := (State.before_fresh hf).trans hd
    rw [exec_runStart_begins hp hd hr hb hu, State.goBy, State.turn,
      State.before_congr (s := s) (by rw [hu]; rfl) (by rw [hu]; rfl) (by rw [hu]; rfl), hbefore, hu]
    rfl
  · -- rail loss and a pulse of RESET_N in one beat
    have hv : (s.tearAppend.enterOff true).aon.prev = s.dev := by
      rw [State.enterOff_prev, State.tearAppend_before, State.before_fresh hf]
    have hu : ((s.resetNLow.enterReset 1 3 false).tearAppend.enterOff true).aon.prev = s.dev := by
      rw [State.enterOff_prev, State.tearAppend_before]
      exact (State.before_decided rfl).trans (State.before_fresh (s := s.resetNLow) hf)
    exact ⟨_, _, _, _, exec_resetNAssert_fresh h hoff hsleep hf, exec_railLoss_held DevState.noConfusion,
      exec_railLoss_held hoff, exec_resetNAssert_off (State.pulseResets_long _ h) (State.enterOff_dev _ _),
      rfl, hu, rfl, hv⟩
  · exact ⟨exec_stateReqRun_refused hh (.inr (.inr ho)), exec_stateReqStandby_refused hh (.inr (.inr ho)),
      exec_stateReqSleep_refused hh (.inr (.inr ho))⟩

end Sys2Proof.Machine
end

section
/-! SUPPORT. The boot sequence, branch by branch, and the states in which it can end. -/

namespace Sys2Proof.Machine

/-! ## Where BOOT ends (Table 1.7, R559) -/

/-- One of the states in which BOOT can end. -/
def State.bootEnded (s : State) : Prop := s.dev = .standby ∨ s.dev = .recovery ∨ s.dev = .safe

theorem State.go_dev (s : State) (d : DevState) (cause : Nat) : (s.go d cause).dev = d := State.turn_dev ..

theorem State.bootRecovery_dev (s : State) (cause status : Nat) : (s.bootRecovery cause status).dev = .recovery :=
  State.go_dev ..

/-- A RECOVERY holds its cause, its status and the state before. -/
theorem State.bootRecovery_aon (s : State) (cause status : Nat) : (s.bootRecovery cause status).aon =
    { s.aon with causeStatus := status, prev := s.dev, cause := cause, decided := none } := State.turn_aon ..

theorem State.bootEnded_recovery (s : State) (cause status : Nat) : (s.bootRecovery cause status).bootEnded :=
  .inr (.inl (s.bootRecovery_dev cause status))

theorem State.bootEnded_rom (s : State) : s.bootRom.bootEnded := State.bootEnded_recovery ..

theorem State.bootEnded_safe (s : State) (checker source : Nat) : (s.bootSafe checker source).bootEnded :=
  .inr (.inr (State.go_dev ..))

theorem State.bootEnded_ite {c : Prop} [Decidable c] {s t : State} (hs : s.bootEnded) (ht : t.bootEnded) :
    (if c then s else t).bootEnded := by
  split <;> assumption

/-! ## Steps 7 to 12 -/

section
variable {s : State} (x : BootInputs) (root : List Byte) {hub selv : List Byte}

theorem State.bootLate_unfit (h : manifestCompat hub ≠ manifestCompat selv ∨ manifestB1 hub = false ∨
    manifestB1 selv = false) : s.bootLate x root hub selv = s.bootRecovery 4 0x0701 :=
  if_pos (by simpa using h)

variable (hc : manifestCompat hub = manifestCompat selv) (hh : manifestB1 hub = true) (hs : manifestB1 selv = true)
  {t : State} (ht : t = s.set Fld.HUB_COMPAT_SET_SET_ID 0 (manifestCompat hub))
include hc hh hs ht

theorem State.bootLate_belowFloor (h : manifestVersion hub < t.get Fld.SEC_HUB_FLOOR_FLOOR 0 ∨
    manifestVersion selv < t.get Fld.SEC_SELV_FLOOR_FLOOR 0) :
    s.bootLate x root hub selv = t.bootRecovery 4 0x0702 := by
  subst ht
  exact (if_neg (by simp [hc, hh, hs])).trans (if_pos h)

variable (h1 : t.get Fld.SEC_HUB_FLOOR_FLOOR 0 ≤ manifestVersion hub)
  (h2 : t.get Fld.SEC_SELV_FLOOR_FLOOR 0 ≤ manifestVersion selv)
include h1 h2

theorem State.bootLate_pendingB (hb : t.aon.pendingB = true) : s.bootLate x root hub selv =
    State.bootRecovery { t with aon := { t.aon with pendingB := false } } 6 0x0703 := by
  subst ht
  exact (if_neg (by simp [hc, hh, hs])).trans ((if_neg (by omega)).trans (if_pos hb))

theorem State.bootLate_standby (hb : t.aon.pendingB = false) (hm : firstMissed x.missed = none) :
    s.bootLate x root hub selv = (((t.bootKeys root).bootSelvedge x).autoload).go .standby 3 := by
  subst ht
  refine (if_neg (by simp [hc, hh, hs])).trans ((if_neg (by omega)).trans ((if_neg (ne_true_of_eq_false hb)).trans ?_))
  rw [hm]

theorem State.bootLate_missed (hb : t.aon.pendingB = false) {checker source : Nat}
    (hm : firstMissed x.missed = some (checker, source)) :
    s.bootLate x root hub selv = ((t.bootKeys root).bootSelvedge x).bootSafe checker source := by
  subst ht
  refine (if_neg (by simp [hc, hh, hs])).trans ((if_neg (by omega)).trans ((if_neg (ne_true_of_eq_false hb)).trans ?_))
  rw [hm]

end

theorem State.bootEnded_late (s : State) (x : BootInputs) (root hub selv : List Byte) :
    (s.bootLate x root hub selv).bootEnded := by
  refine State.bootEnded_ite (State.bootEnded_recovery ..) (State.bootEnded_ite (State.bootEnded_recovery ..)
    (State.bootEnded_ite (State.bootEnded_recovery ..) ?_))
  split
  · exact State.bootEnded_safe ..
  · exact .inl (State.go_dev ..)

/-! ## Steps 5 and 6 -/

/-- The images by the manifests of the slots that the header names; what the hub's manifest gives plays no part in
judging the Selvedge's. -/
theorem State.bootImages_eq {s t : State} (x : BootInputs) (root : List Byte) {hub selv : List Byte}
    (hhub : hub = s.slotManifest 0 (s.headerSlot 0)) (hselv : selv = s.slotManifest 1 (s.headerSlot 1))
    (ht : t = State.set { s with
      aon := { s.aon with policy := manifestPolicy hub }
      sec := { s.sec with hubManifest := hub } } Fld.SEC_HUB_VERSION_VERSION 0 (manifestVersion hub)) :
    s.bootImages x root =
      if s.slotValid s.jnlNow 0 (s.headerSlot 0) = false then s.bootRom
      else if s.slotValid s.jnlNow 1 (s.headerSlot 1) = false then t.bootRecovery 4 0x0702
      else (State.loadSelvedge (State.set { t with
          sec := { t.sec with selvManifest := selv }
          selv := { t.selv with on := true } } Fld.SEC_SELV_VERSION_VERSION 0 (manifestVersion selv))
        (s.headerSlot 1)).bootLate x root hub selv := by
  subst hhub hselv ht
  have hsame : State.slotValid (State.set { s with
      aon := { s.aon with policy := manifestPolicy (s.slotManifest 0 (s.headerSlot 0)) }
      sec := { s.sec with hubManifest := s.slotManifest 0 (s.headerSlot 0) } } Fld.SEC_HUB_VERSION_VERSION 0
        (manifestVersion (s.slotManifest 0 (s.headerSlot 0)))) s.jnlNow 1 (s.headerSlot 1) =
      s.slotValid s.jnlNow 1 (s.headerSlot 1) := rfl
  unfold State.bootImages
  simp only [hsame, Bool.not_eq_true']
  rfl

theorem State.bootEnded_images (s : State) (x : BootInputs) (root : List Byte) : (s.bootImages x root).bootEnded := by
  rw [State.bootImages_eq x root rfl rfl rfl]
  exact State.bootEnded_ite s.bootEnded_rom
    (State.bootEnded_ite (State.bootEnded_recovery ..) (State.bootEnded_late ..))

/-! ## Steps 3 and 4 -/

section
variable {s : State} (x : BootInputs) (root : List Byte)

theorem State.bootJournal_noHeader (h : s.headerNow s.sec.journalKey = none) : s.bootJournal x root = s.bootRom :=
  if_pos h

variable (h : s.headerNow s.sec.journalKey ≠ none) {t : State}
  (ht : t = (s.setAll [(Fld.SEC_STATUS_HUB_SLOT, 0, s.headerSlot 0),
    (Fld.SEC_STATUS_SELV_SLOT, 0, s.headerSlot 1)]).bootReplay)
include h ht

theorem State.bootJournal_unwritable (hp : t.aon.pendingEpoch = true ∨ t.aon.held ≠ []) (hw : x.flashWrites = false) :
    s.bootJournal x root = (t.set Fld.SEC_STATUS_ROM_SERVICE 0 1).bootRecovery 9 0x0703 := by
  subst ht
  exact (if_neg h).trans (if_pos ⟨hp, hw⟩)

theorem State.bootJournal_writable (hw : x.flashWrites = true) : s.bootJournal x root =
    State.bootImages { t.bootWrites with sec := { t.bootWrites.sec with replayed := true } } x root := by
  subst ht
  exact (if_neg h).trans (if_neg fun hn => Bool.noConfusion (hw.symm.trans hn.2))

end

theorem State.bootEnded_journal (s : State) (x : BootInputs) (root : List Byte) : (s.bootJournal x root).bootEnded :=
  State.bootEnded_ite s.bootEnded_rom (State.bootEnded_ite (State.bootEnded_recovery ..) (State.bootEnded_images ..))

/-! ## Steps 1 and 2 -/

theorem State.setAll_sec (s : State) (w : List (Field × Nat × Nat)) : (s.setAll w).sec = s.sec := by
  induction w generalizing s with
  | nil => rfl
  | cons p rest ih => exact ih _

theorem State.forEach_sec {α : Type} (s : State) (l : List α) (f : State → α → State) (h : ∀ t a, (f t a).sec = t.sec) :
    (s.forEach l f).sec = s.sec := by
  induction l generalizing s with
  | nil => rfl
  | cons a rest ih => exact (ih _).trans (h s a)

theorem State.pwrSync_sec (s : State) : s.pwrSync.sec = s.sec := rfl

/-- Step 1 reads the PUF region (R549). -/
theorem State.bootBegin_puf (s : State) (x : BootInputs) : (s.bootBegin x).sec.puf = sliceOf x.puf 0 8192 := by
  unfold State.bootBegin
  rw [State.pwrSync_sec, State.forEach_sec, State.setAll_sec]
  exact fun _ _ => rfl

theorem exec_bootSequence_outside {s : State} (x : BootInputs) (h : s.dev ≠ .boot) :
    exec (.bootSequence x) s = .next s := congrArg _ (if_pos h)

/-- Step 2 goes on with the root that the PUF gives, or ends in ROM service. -/
theorem exec_bootSequence_boot {s : State} (x : BootInputs) (h : s.dev = .boot) {a : State} (ha : a = s.bootBegin x) :
    exec (.bootSequence x) s = .next (match
      (Config.pufRoot a.sec.puf a.helperData).map (fun r => leBytes 32 r.toNat) with
      | none => State.bootRom { a with sec := { a.sec with
          journalKey := [], identity := [], attest := [], wrap := [], keys := [] } }
      | some root => (State.setPub { a with sec := { a.sec with
          journalKey := hmac512 root labelJournal, identity := (hmac512 root labelIdentity).take 32
          attest := [], wrap := [], keys := [] } } Fld.SEC_IDENT_PUB_KEY
            (edPublic ((hmac512 root labelIdentity).take 32))).bootJournal x root) := by
  subst ha
  exact congrArg _ (if_neg (not_not_intro h))

theorem exec_bootSequence_ends {s : State} (x : BootInputs) (h : s.dev = .boot) :
    ∃ t, exec (.bootSequence x) s = .next t ∧ t.bootEnded := by
  refine ⟨_, exec_bootSequence_boot x h rfl, ?_⟩
  split
  · exact State.bootEnded_rom ..
  · exact State.bootEnded_journal ..

/-- Settles O18: the sequence is cut at its steps, and each branch of a step is one lemma. -/
theorem bootStepsInOrder : Obligations.BootStepsInOrder := by
  unfold Obligations.BootStepsInOrder
  refine ⟨fun s x h => exec_bootSequence_outside x h, fun s x h => exec_bootSequence_ends x h,
    fun s x h a ha => ⟨?_, exec_bootSequence_boot x h ha⟩, fun s x root h => State.bootJournal_noHeader x root h,
    fun s t x root h ht => ⟨State.bootJournal_unwritable x root h ht, State.bootJournal_writable x root h ht⟩,
    fun s t x root hub selv => State.bootImages_eq x root, fun s x root hub selv h => State.bootLate_unfit x root h,
    fun s t x root hub selv hc hh hs ht => ⟨State.bootLate_belowFloor x root hc hh hs ht, fun h1 h2 =>
      ⟨State.bootLate_pendingB x root hc hh hs ht h1 h2, State.bootLate_standby x root hc hh hs ht h1 h2,
        fun _ _ hb hm => State.bootLate_missed x root hc hh hs ht h1 h2 hb hm⟩⟩,
    fun s cause status => ⟨_, rfl, s.bootRecovery_dev cause status, ?_, ?_, ?_⟩⟩
  · rw [ha, State.bootBegin_puf]
  all_goals rw [State.bootRecovery_aon]

end Sys2Proof.Machine
end

section
/-! SUPPORT. The events of the Selvedge: its faults, engine hangs and the coverage limits. -/

namespace Sys2Proof.Machine

/-! ## Selvedge faults (R518) -/

theorem exec_lockstepMismatch_off {s : State} (h : s.selv.on = false) : exec .lockstepMismatch s = .next s :=
  congrArg _ (if_neg (by simp [h]))

theorem exec_lockstepMismatch_on {s : State} (h : s.selv.on = true) :
    exec .lockstepMismatch s = .next ((s.raise Flg.SELV_EVT_LOCKSTEP 0).selvFault 1 0 73) := congrArg _ (if_pos h)

section
variable {s t : State} {kind status source : Nat}
  (ht : t = ((((s.set Fld.SELV_FAULT_CAP_STATUS 0 status).set Fld.SELV_FAULT_CAP_KIND 0 kind).set
    Fld.SELV_FAULT_CAP_SOURCE 0 source).set Fld.SELV_FAULT_TIME_TIME 0 s.now).set Fld.SELV_STATUS_FAULT_ACTIVE 0 1)
include ht

theorem State.selvFault_safe (h : s.dev = .standby ∨ s.dev = .run ∨ s.sleeping = true) :
    s.selvFault kind status source = t.enterSafe status source := by
  subst ht
  exact if_pos h

theorem State.selvFault_elsewhere (h1 : s.dev ≠ .standby) (h2 : s.dev ≠ .run) (h3 : s.sleeping = false) :
    s.selvFault kind status source = t := by
  subst ht
  exact if_neg (by simp [h1, h2, h3])

end

/-! ## Engine hangs (R535) -/

/-- A command has hung when it has run for HANG_US. -/
theorem State.hung_iff (s : State) (c : Cmd) : s.hung c = true ↔
    c.phase = .running ∧ c.since + s.get Fld.SELV_CTRL_HANG_US 0 * Config.us ≤ s.refTime := by
  simp [State.hung]

section
variable {s : State} {uid : Nat} {c : Cmd} (hc : s.cmd? uid = some c)
include hc

theorem exec_engineHang_none (h : ¬ s.hung c = true) : exec (.engineHang uid) s = .next s := by
  show execEngineHang uid s = _
  rw [execEngineHang, hc]
  exact congrArg _ (if_pos (.inl (by simpa using h)))

omit hc

variable (hh : s.hung c = true) (hd : s.dev = .standby ∨ s.dev = .run)
include hh hd

theorem State.hang_taken : ¬ ((!s.hung c) = true ∨ (s.dev ≠ .standby ∧ s.dev ≠ .run)) := by
  rintro (h | ⟨h1, h2⟩)
  · exact Bool.false_ne_true ((Bool.not_eq_true' _).mp h |>.symm.trans hh)
  · exact hd.elim h1 h2

include hc

/-- A hang of a package engine is a Selvedge fault. -/
theorem exec_engineHang_package (h : c.engine.hangSource = 72) :
    exec (.engineHang uid) s = .next ((s.raise Flg.SELV_EVT_HANG 0).selvFault 5 0x0605 72) := by
  show execEngineHang uid s = _
  rw [execEngineHang, hc]
  exact congrArg _ ((if_neg (State.hang_taken hh hd)).trans (if_pos h))

/-- A hang of a skein engine ends its command, makes its skein suspect and is a job fault. -/
theorem exec_engineHang_skein {k : Nat} (h : c.engine.hangSource ≠ 72)
    (hk : (if c.engine.hangSource < 64 then c.engine.hangSource else 8 * (c.engine.hangSource - 64)) = k) :
    exec (.engineHang uid) s = .next ((((((s.raise Flg.SELV_EVT_HANG 0).cutShort c 0x0605).makeSuspect k).jobFault
      0x0605 c.job c.engine.hangSource).settle)) := by
  subst hk
  show execEngineHang uid s = _
  rw [execEngineHang, hc]
  exact congrArg _ ((if_neg (State.hang_taken hh hd)).trans (if_neg h))

end

/-! ## Coverage limits (R540) -/

section
variable {s : State} {k : Nat}

theorem exec_dtiExceeded_none (h : s.overdue k = false ∨ k ∈ s.selv.warned) :
    exec (.dtiExceeded k) s = .next s :=
  congrArg _ (if_neg fun ⟨_, ho, hw⟩ => h.elim (by simp [ho]) hw)

theorem exec_dtiExceeded_warns (hd : s.dev = .run ∨ s.dev = .safe) (ho : s.overdue k = true) (hw : k ∉ s.selv.warned)
    {t : State} (ht : t = s.raise Flg.SELV_EVT_DTI_EXCEEDED 0) : exec (.dtiExceeded k) s =
    .next (State.startOverdue { t with selv := { t.selv with warned := t.selv.warned ++ [k] } }) := by
  subst ht
  exact congrArg _ (if_pos ⟨hd, ho, hw⟩)

theorem exec_dtiFault_none (h : s.uncovered k ≤ 2 * s.dti ∨ k ∈ s.selv.faulted) : exec (.dtiFault k) s = .next s :=
  congrArg _ (if_neg fun ⟨_, _, hu, hf⟩ => h.elim (Nat.not_le.mpr hu) hf)

theorem exec_dtiFault_faults (hd : s.dev = .run ∨ s.dev = .safe) (hl : s.live k = true)
    (hu : 2 * s.dti < s.uncovered k) (hf : k ∉ s.selv.faulted) : exec (.dtiFault k) s =
    .next (State.selvFault { s with selv := { s.selv with faulted := s.selv.faulted ++ [k] } } 2 0x0603 k) :=
  congrArg _ (if_pos ⟨hd, hl, hu, hf⟩)

end

/-- Settles O55: each event by the conditions that it asks, a hang by where its engine lies. -/
theorem selvedgeEvents : Obligations.SelvedgeEvents := by
  unfold Obligations.SelvedgeEvents
  refine ⟨fun s => ⟨exec_lockstepMismatch_off, exec_lockstepMismatch_on⟩,
    fun s t kind status source ht => ⟨State.selvFault_safe ht, State.selvFault_elsewhere ht⟩,
    fun s uid c hc => ⟨fun h => exec_engineHang_none hc ?_, fun hr hs hd => ?_⟩,
    fun s k => ⟨exec_dtiExceeded_none, fun hd ho hw => ⟨_, rfl, exec_dtiExceeded_warns hd ho hw rfl⟩,
      exec_dtiFault_none, exec_dtiFault_faults⟩⟩
  · rw [State.hung_iff]
    exact fun ⟨hr, hs⟩ => h.elim (fun h => h hr) (Nat.not_lt.mpr hs)
  · have hh : s.hung c = true := (s.hung_iff c).mpr ⟨hr, hs⟩
    exact ⟨exec_engineHang_package hc hh hd, fun h => exec_engineHang_skein hc hh hd (by omega) (if_pos h),
      fun h hne => exec_engineHang_skein hc hh hd hne (if_neg (by omega))⟩

end Sys2Proof.Machine
end

section
/-! SUPPORT. One step, the tick of an empty queue, and the steps and holds of the Whorl count. -/

namespace Sys2Proof.Machine

/-! ## One step (R36, R39) -/

theorem step_command {s : State} {c : Instr} {rest : List Instr} (h : s.pending = c :: rest) :
    step s = exec c { s with pending := rest } := by
  unfold step
  rw [h]

theorem step_empty {s : State} (h : s.pending = []) : step s = .next s.tick := by
  unfold step
  rw [h]

/-- Settles O1: the two cases of a step by what stands at the front of the queue. -/
theorem queueFirstInFirstOut : Obligations.QueueFirstInFirstOut := by
  unfold Obligations.QueueFirstInFirstOut
  exact ⟨fun _ _ _ => step_command, fun _ => step_empty⟩

/-! ## What the end of the beat that enters SLEEP leaves (R590) -/

theorem State.settleSleep_awake {s : State} (h : s.sleeping = false) : s.settleSleep = s := by
  simp [State.settleSleep, h]

theorem State.settleSleep_leaves (s : State) : s.settleSleep.pending = s.pending ∧
    s.settleSleep.refTime = s.refTime ∧ s.settleSleep.dev = s.dev ∧ s.settleSleep.whorl.count = s.whorl.count := by
  cases h : s.sleeping with
  | false => simp [State.settleSleep_awake h]
  | true =>
    rw [State.settleSleep_sleeping h]
    exact ⟨rfl, rfl, rfl, rfl⟩

/-! ## The count in a tick (R39, R41, R45) -/

theorem State.powered_iff (s : State) : s.powered = true ↔ s.dev ≠ .off ∧ s.dev ≠ .reset ∧ s.dev ≠ .sleep := by
  simp [State.powered]

theorem State.sleeping_of_powered {s : State} (h : s.powered = true) : s.sleeping = false := by
  have hsleep := ((s.powered_iff).mp h).2.2
  simp [State.sleeping, hsleep]

/-- A tick of the count touches the time base and the bit of a hold, and nothing else. -/
theorem State.tickCount_frame (s : State) : ∃ w regs, s.tickCount = { s with whorl := w, regs := regs } := by
  unfold State.tickCount
  split
  · exact ⟨_, _, rfl⟩
  · split <;> exact ⟨_, _, rfl⟩
  · exact ⟨_, _, rfl⟩
  · dsimp only
    generalize (if s.refTime % 40 = 0 then _ else _ : Word) = rate
    split <;> exact ⟨_, _, rfl⟩

theorem State.tickCount_reset {s : State} (h : s.dev = .reset) : s.tickCount = s := by
  simp [State.tickCount, h]

theorem State.tickCount_sleep {s : State} (h : s.dev = .sleep) :
    s.tickCount = { s with whorl := { s.whorl with count := s.whorl.count + 1 } } := by
  simp [State.tickCount, h]

/-- WHORL_RATE_ADJ in the tick that comes: a new reference period takes what the register holds (R41). -/
def State.rateNext (s : State) : Word :=
  if s.refTime % 40 = 0 then BitVec.ofNat 32 (s.get Fld.WHORL_RATE_ADJ_ADJ 0) else s.whorl.rate

theorem State.rateNext_zero {s : State} (hr : s.whorl.rate = 0) (ha : s.get Fld.WHORL_RATE_ADJ_ADJ 0 = 0) :
    s.rateNext = 0 := by
  simp [State.rateNext, hr, ha]

theorem State.tickCount_held {s : State} (hp : s.powered = true) (hh : s.whorl.hold ≠ 0) :
    s.tickCount = ({ s with whorl := { s.whorl with hold := s.whorl.hold - 1, rate := s.rateNext } }).setBit
      Fld.WHORL_STATUS_HOLDING 0 (decide (1 < s.whorl.hold)) := by
  obtain ⟨hoff, hreset, hsleep⟩ := (s.powered_iff).mp hp
  unfold State.tickCount
  split
  case h_4 => exact if_pos hh
  all_goals contradiction

theorem State.tickCount_free {s : State} (hp : s.powered = true) (hh : s.whorl.hold = 0) :
    s.tickCount = { s with whorl := { s.whorl with
      count := s.whorl.count + BitVec.ofNat 64 (s.whorl.advance s.rateNext.toInt).1
      fraction := (s.whorl.advance s.rateNext.toInt).2
      rate := s.rateNext } } := by
  obtain ⟨hoff, hreset, hsleep⟩ := (s.powered_iff).mp hp
  unfold State.tickCount
  split
  case h_4 => exact if_neg (not_not_intro hh)
  all_goals contradiction

/-- A whole unit on top of a fraction is one, and the fraction is left. -/
theorem Whorl.unit_split {fraction unit : Nat} (h : fraction < unit) :
    ((((fraction + unit : Nat) : Int) + 0) / unit).toNat = 1 ∧
      ((((fraction + unit : Nat) : Int) + 0) % unit).toNat = fraction := by
  have hpos : 0 < unit := Nat.lt_of_le_of_lt (Nat.zero_le _) h
  rw [Int.add_zero, ← Int.natCast_ediv, ← Int.natCast_emod, Int.toNat_natCast, Int.toNat_natCast,
    Nat.add_div_right _ hpos, Nat.div_eq_of_lt h, Nat.add_mod_right, Nat.mod_eq_of_lt h]
  exact ⟨rfl, rfl⟩

/-- Without a correction a tick is one tick of the count, and the fraction carried stays. -/
theorem Whorl.advance_zero {w : Whorl} (h : w.fraction < Whorl.unit) : w.advance 0 = (1, w.fraction) := by
  obtain ⟨hone, hrest⟩ := Whorl.unit_split h
  exact Prod.ext hone hrest

/-! ## The tick of the whole package -/

theorem State.passTick_leaves (s : State) : s.passTick.refTime = s.refTime + 1 ∧ s.passTick.pending = s.pending ∧
    s.passTick.dev = s.dev := by
  obtain ⟨w, regs, e⟩ := s.settleSleep.tickCount_frame
  obtain ⟨hq, ht, hd, -⟩ := s.settleSleep_leaves
  simp [State.passTick, e, hq, ht, hd]

theorem State.passTick_whorl (s : State) : s.passTick.whorl = s.settleSleep.tickCount.whorl := rfl

/-- While no SLEEP begins a tick leaves memory and the commands. -/
theorem State.passTick_awake {s : State} (h : s.sleeping = false) :
    s.passTick.mem = s.mem ∧ s.passTick.cmds = s.cmds := by
  obtain ⟨w, regs, e⟩ := s.tickCount_frame
  simp [State.passTick, State.settleSleep_awake h, e]

theorem State.passTick_reset {s : State} (h : s.dev = .reset) : s.passTick.now = s.now := by
  have hawake : s.sleeping = false := by simp [State.sleeping, h]
  rw [State.now, State.passTick_whorl, State.settleSleep_awake hawake, State.tickCount_reset h, State.now]

theorem State.passTick_sleep {s : State} (h : s.dev = .sleep) : s.passTick.whorl.count = s.whorl.count + 1 := by
  obtain ⟨-, -, hd, hc⟩ := s.settleSleep_leaves
  rw [State.passTick_whorl, State.tickCount_sleep (hd.trans h), hc]

/-- In a hold a tick takes one from the hold and leaves the count (R45). -/
theorem State.passTick_held {s : State} (hp : s.powered = true) (hh : s.whorl.hold ≠ 0) :
    s.passTick.whorl.hold = s.whorl.hold - 1 ∧ s.passTick.now = s.now := by
  rw [State.now, State.passTick_whorl, State.settleSleep_awake (State.sleeping_of_powered hp),
    State.tickCount_held hp hh]
  exact ⟨rfl, rfl⟩

theorem State.passTick_uncorrected {s : State} (hp : s.powered = true) (hh : s.whorl.hold = 0)
    (hr : s.whorl.rate = 0) (ha : s.get Fld.WHORL_RATE_ADJ_ADJ 0 = 0) (hf : s.whorl.fraction < Whorl.unit) :
    s.passTick.whorl.count = s.whorl.count + 1 ∧ s.passTick.whorl.fraction = s.whorl.fraction := by
  have hadv : s.whorl.advance s.rateNext.toInt = (1, s.whorl.fraction) := by
    rw [State.rateNext_zero hr ha]
    exact Whorl.advance_zero hf
  rw [State.passTick_whorl, State.settleSleep_awake (State.sleeping_of_powered hp), State.tickCount_free hp hh, hadv]
  exact ⟨rfl, rfl⟩

/-! ## What the host writes to the SR-IOV capability (R360) -/

theorem State.sriovWrite_none {s : State} {instant : Nat} (h : Config.sriov instant = none) :
    s.sriovWrite instant = s := by
  simp [State.sriovWrite, h]

theorem State.sriovWrite_unpowered {s : State} (instant : Nat) (h : s.powered = false) :
    s.sriovWrite instant = s := by
  unfold State.sriovWrite
  split <;> simp [h]

theorem State.sriovWrite_functions {s : State} {instant : Nat} {n : Fin 16} (hp : s.powered = true)
    (h : Config.sriov instant = some n) : (s.sriovWrite instant).rings.functions = 2 ^ (n.val + 1) - 1 := by
  simp [State.sriovWrite, h, hp, State.setFunctions]

/-! ## A step request (R44 to R46) -/

section
variable {s : State} {step : BitVec 64}

theorem exec_whorlStepWrite_taken {t : State} (hs : s.setUp = true) (h : s.stepBy step.toInt = some t) :
    exec (.whorlStepWrite step) s = .next t := by
  show execWhorlStepWrite step s = _
  rw [execWhorlStepWrite, State.host_up _ hs, h]

theorem exec_whorlStepWrite_refused (hs : s.setUp = true) (h : s.stepBy step.toInt = none) :
    exec (.whorlStepWrite step) s = .next (s.raise Flg.WHORL_EVT_STEP_REFUSED 0) := by
  show execWhorlStepWrite step s = _
  rw [execWhorlStepWrite, State.host_up _ hs, h]
  rfl

end

/-- The count has been stepped to a value, no hold is in progress, and STEPPED is set. -/
def State.stepped (s : State) (count : BitVec 64) : State :=
  ({ s.set Fld.WHORL_STATUS_HOLDING 0 0 with
    whorl := { s.whorl with hold := 0, count := count } }).raise Flg.WHORL_EVT_STEPPED 0

/-- Outside RUN a step does not act on the cycle. -/
theorem State.stepCycle_outside {s : State} (lo : Nat) (h : s.dev ≠ .run) : s.stepCycle lo = s := if_pos h

theorem State.stepTo_same (s : State) : s.stepTo s.now = s := if_pos rfl

theorem State.stepTo_forward {s : State} {count : Nat} (h : s.now < count) : s.stepTo count =
    (({ s with whorl := { s.whorl with count := BitVec.ofNat 64 count } }).raise Flg.WHORL_EVT_STEPPED 0).stepCycle
      s.now := (if_neg (Nat.ne_of_gt h)).trans (if_pos h)

theorem State.stepTo_outside {s : State} {count : Nat} (hd : s.dev ≠ .run) (h : count ≠ s.now) : s.stepTo count =
    ({ s with whorl := { s.whorl with count := BitVec.ofNat 64 count } }).raise Flg.WHORL_EVT_STEPPED 0 := by
  refine (if_neg h).trans ?_
  split
  · exact State.stepCycle_outside _ (by rwa [State.raise_dev])
  · rfl

section
variable {s : State} {d sum : Int} (hsum : sum = d - s.whorl.hold)
include hsum

/-- A sum that may become a hold does so up to WHORL_HOLD_MAX. -/
theorem State.stepBy_holds (hneg : sum < 0) (hh : s.dev = .run ∨ s.whorl.hold ≠ 0)
    (hmax : sum.natAbs ≤ s.get Fld.WHORL_HOLD_MAX_TICKS 0) :
    s.stepBy d = some { s.set Fld.WHORL_STATUS_HOLDING 0 1 with whorl := { s.whorl with hold := sum.natAbs } } := by
  subst hsum
  have hbit : decide ((d - (s.whorl.hold : Int)).natAbs ≠ 0) = true := decide_eq_true (by omega)
  refine (if_pos ⟨hneg, hh⟩).trans ((if_pos hmax).trans (congrArg some ?_))
  rw [State.setHold, hbit]
  rfl

theorem State.stepBy_tooLong (hneg : sum < 0) (hh : s.dev = .run ∨ s.whorl.hold ≠ 0)
    (hmax : s.get Fld.WHORL_HOLD_MAX_TICKS 0 < sum.natAbs) : s.stepBy d = none := by
  subst hsum
  exact (if_pos ⟨hneg, hh⟩).trans (if_neg (Nat.not_le.mpr hmax))

variable (hmoves : ¬ (sum < 0 ∧ (s.dev = .run ∨ s.whorl.hold ≠ 0)))
include hmoves

/-- A sum that moves the count is refused where it would leave its range. -/
theorem State.stepBy_outOfRange (h : (s.now : Int) + sum < 0 ∨ 2 ^ 64 ≤ (s.now : Int) + sum) : s.stepBy d = none := by
  subst hsum
  exact (if_neg hmoves).trans (if_pos h)

theorem State.stepBy_inRange (h0 : 0 ≤ (s.now : Int) + sum) (h64 : (s.now : Int) + sum < 2 ^ 64) :
    s.stepBy d = some ((s.setHold 0).stepTo ((s.now : Int) + sum).toNat) := by
  subst hsum
  exact (if_neg hmoves).trans (if_neg (by omega))

omit hmoves

theorem State.stepBy_zero (h : sum = 0) : s.stepBy d =
    some { s.set Fld.WHORL_STATUS_HOLDING 0 0 with whorl := { s.whorl with hold := 0 } } := by
  have hlt : (s.now : Int) < 2 ^ 64 := by exact_mod_cast s.whorl.count.isLt
  have hnow : ((s.now : Int) + sum).toNat = (s.setHold 0).now := by
    rw [h, Int.add_zero, Int.toNat_natCast]
    rfl
  rw [State.stepBy_inRange hsum (by omega) (by omega) (by omega), hnow, State.stepTo_same]
  rfl

/-- A positive sum is a forward step of the count, on which the cycle follows (R397). -/
theorem State.stepBy_forward (hpos : 0 < sum) (h64 : (s.now : Int) + sum < 2 ^ 64) : s.stepBy d =
    some ((s.stepped (BitVec.ofNat 64 ((s.now : Int) + sum).toNat)).stepCycle s.now) := by
  have hlt : (s.setHold 0).now < ((s.now : Int) + sum).toNat := by
    show s.now < _
    omega
  rw [State.stepBy_inRange hsum (by omega) (by omega) h64, State.stepTo_forward hlt]
  rfl

/-- Outside RUN any step of the count moves it and leaves the cycle. -/
theorem State.stepBy_outside (hd : s.dev ≠ .run) (hh : s.whorl.hold = 0) (hne : sum ≠ 0)
    (h0 : 0 ≤ (s.now : Int) + sum) (h64 : (s.now : Int) + sum < 2 ^ 64) :
    s.stepBy d = some (s.stepped (BitVec.ofNat 64 ((s.now : Int) + sum).toNat)) := by
  have hcount : ((s.now : Int) + sum).toNat ≠ (s.setHold 0).now := by
    show _ ≠ s.now
    omega
  rw [State.stepBy_inRange hsum (by simp [hd, hh]) h0 h64, State.stepTo_outside (by exact hd) hcount]
  rfl

end

/-- The count that a step in range reaches, as a word. -/
theorem State.count_add_step (s : State) (step : BitVec 64) (h0 : 0 ≤ (s.now : Int) + step.toInt) :
    BitVec.ofNat 64 ((s.now : Int) + step.toInt).toNat = s.whorl.count + step := by
  calc BitVec.ofNat 64 ((s.now : Int) + step.toInt).toNat
    _ = BitVec.ofInt 64 ((s.now : Int) + step.toInt) := by rw [← BitVec.ofInt_natCast, Int.toNat_of_nonneg h0]
    _ = BitVec.ofInt 64 s.now + BitVec.ofInt 64 step.toInt := BitVec.ofInt_add _ _
    _ = s.whorl.count + step := by
      rw [BitVec.ofInt_toInt, BitVec.ofInt_natCast, State.now, BitVec.ofNat_toNat, BitVec.setWidth_eq]

/-! ## The end of a hold (R45) -/

theorem exec_holdEnd_none {s : State} (h : s.whorl.hold = 0) : exec .holdEnd s = .next s :=
  congrArg _ (if_pos (.inl h))

/-- Reference time reaches the end of the hold. -/
theorem exec_holdEnd_ends {s : State} (hw : s.sleeping = false) (hh : s.whorl.hold ≠ 0) : ∃ rate, exec .holdEnd s =
    .next { s.set Fld.WHORL_STATUS_HOLDING 0 0 with
      refTime := s.refTime + s.whorl.hold, whorl := { s.whorl with hold := 0, rate := rate } } :=
  ⟨_, congrArg _ (if_neg (by simp [hw, hh]))⟩

theorem State.isSet_set_zero (s : State) (f : Field) (i : Nat) : (s.set f i 0).isSet f i = false := by
  simp [State.isSet]

/-- Settles O14: a step by the sum that it makes with no hold, the end of a hold, and the tick by the device state. -/
theorem whorlStepsHoldsAndTicks : Obligations.WhorlStepsHoldsAndTicks := by
  unfold Obligations.WhorlStepsHoldsAndTicks
  refine ⟨fun s step hs hd hh => ?_, fun s step hd hh hneg => ?_,
    ⟨fun s h => exec_holdEnd_none h, fun s hw hh => ?_, fun s hp hh hq => ?_⟩, fun s hq => ?_⟩
  · -- outside RUN
    have hsum : step.toInt = step.toInt - s.whorl.hold := by simp [hh]
    refine ⟨fun hne h0 h64 => ?_, fun hz => ?_, fun hr => ?_⟩
    · have hne' : step.toInt ≠ 0 := fun h => hne (BitVec.eq_of_toInt_eq h)
      rw [exec_whorlStepWrite_taken hs (State.stepBy_outside hsum hd hh hne' h0 h64), State.stepped,
        s.count_add_step step h0, ← hh]
    · rw [exec_whorlStepWrite_taken hs (State.stepBy_zero hsum (by simp [hz])), ← hh]
      rfl
    · exact exec_whorlStepWrite_refused hs (State.stepBy_outOfRange hsum (by simp [hd, hh]) hr)
  · -- backward in RUN
    have hs : s.setUp = true := by simp [State.setUp, hd]
    have hsum : step.toInt = step.toInt - s.whorl.hold := by simp [hh]
    exact ⟨fun hmax => exec_whorlStepWrite_taken hs (State.stepBy_holds hsum hneg (.inl hd) hmax),
      fun hmax => exec_whorlStepWrite_refused hs (State.stepBy_tooLong hsum hneg (.inl hd) hmax)⟩
  · -- the end of a hold
    obtain ⟨rate, e⟩ := exec_holdEnd_ends hw hh
    exact ⟨_, e, rfl, rfl, rfl, State.isSet_set_zero s _ 0⟩
  · -- a tick of a hold
    obtain ⟨hhold, hnow⟩ := State.passTick_held hp hh
    obtain ⟨htime, -, -⟩ := s.passTick_leaves
    exact ⟨s.passTick, step_empty hq, hhold, hnow, htime⟩
  · -- any tick
    obtain ⟨htime, hpending, hdev⟩ := s.passTick_leaves
    refine ⟨s.passTick, step_empty hq, htime, hpending.trans hq, hdev, State.passTick_awake, ?_,
      State.passTick_reset, State.passTick_sleep, State.passTick_uncorrected⟩
    cases hp : s.passTick.powered with
    | false => rw [State.sriovWrite_unpowered _ hp, if_pos rfl]
    | true =>
      cases hv : Config.sriov s.refTime with
      | none => rw [State.sriovWrite_none hv, if_neg Bool.noConfusion]
      | some n => rw [State.sriovWrite_functions hp hv, if_neg Bool.noConfusion]

/-- Settles O15: the four cases of the sum. -/
theorem stepDuringAHoldIsSummed : Obligations.StepDuringAHoldIsSummed := by
  unfold Obligations.StepDuringAHoldIsSummed
  intro s step sum hs hh hsum
  exact ⟨fun hneg hmax => exec_whorlStepWrite_taken hs (State.stepBy_holds hsum hneg (.inr hh) hmax),
    fun hneg hmax => exec_whorlStepWrite_refused hs (State.stepBy_tooLong hsum hneg (.inr hh) hmax),
    fun hz => exec_whorlStepWrite_taken hs (State.stepBy_zero hsum hz),
    fun hpos h64 => ⟨_, rfl, exec_whorlStepWrite_taken hs (State.stepBy_forward hsum hpos h64)⟩⟩

end Sys2Proof.Machine
end

section
/-! SUPPORT. The time domains: writes of WHORL_CTRL.DOMAIN, of OFS and of RATE, and a set that becomes LOST. -/

namespace Sys2Proof.Machine

/-! ## Writes of the active domain (R44, R45, R472) -/

section
variable {s : State} {d : Nat}

theorem exec_domainWrite_up (d : Nat) (hs : s.setUp = true) : exec (.domainWrite d) s = .next (s.writeDomain d) :=
  congrArg _ (State.host_up _ hs)

theorem State.writeDomain_active (s : State) : s.writeDomain s.domain = s := if_pos rfl

/-- A gPTP set joined from another kind of domain. -/
theorem State.writeDomain_join (hd : d = 1 ∨ d = 2) (hne : s.domain ≠ d) (hcur : ¬ (s.domain = 1 ∨ s.domain = 2))
    (hrun : s.dev ≠ .run) (hv : s.isSet Fld.WHORL_DOMSET_CFG_VALID (d - 1) = true) :
    s.writeDomain d = (s.joinSet (d - 1)).getD s.stepRefused := by
  have hle : ¬ (3 < d ∨ s.dev = .run) := by simpa [hrun] using (by omega : d ≤ 3)
  exact (if_neg (Ne.symm hne)).trans ((if_neg fun h => hcur h.2).trans
    ((if_neg hle).trans ((if_pos hd).trans (if_pos hv))))

theorem State.writeDomain_joinRefused (hd : d = 1 ∨ d = 2) (hne : s.domain ≠ d)
    (hcur : ¬ (s.domain = 1 ∨ s.domain = 2))
    (h : s.dev = .run ∨ s.isSet Fld.WHORL_DOMSET_CFG_VALID (d - 1) = false) : s.writeDomain d = s.stepRefused := by
  refine (if_neg (Ne.symm hne)).trans ((if_neg fun h => hcur h.2).trans ?_)
  by_cases hrun : s.dev = .run
  · exact if_pos (.inr hrun)
  · have hle : ¬ (3 < d ∨ s.dev = .run) := by simpa [hrun] using (by omega : d ≤ 3)
    exact (if_neg hle).trans ((if_pos hd).trans (if_neg (by simpa using h.resolve_left hrun)))

/-- From one gPTP set to the other. -/
theorem State.writeDomain_switch (hd : d = 1 ∨ d = 2) (hcur : s.domain = 3 - d) :
    s.writeDomain d = (s.switchSet (d - 1)).getD s.stepRefused :=
  (if_neg (show d ≠ s.domain by omega)).trans (if_pos ⟨hd, by omega⟩)

/-- To LOCAL or to system time. -/
theorem State.writeDomain_plain (hd : d = 0 ∨ d = 3) (hne : s.domain ≠ d) (hrun : s.dev ≠ .run) :
    s.writeDomain d = s.setDomain d := by
  have hgptp : ¬ (d = 1 ∨ d = 2) := by omega
  have hle : ¬ (3 < d ∨ s.dev = .run) := by simpa [hrun] using (by omega : d ≤ 3)
  exact (if_neg (Ne.symm hne)).trans ((if_neg fun h => hgptp h.1).trans ((if_neg hle).trans (if_neg hgptp)))

/-- Neither set is the active one in LOCAL or system time. -/
theorem State.setDomain_plain (s : State) (hd : d = 0 ∨ d = 3) : s.setDomain d =
    ((s.set Fld.WHORL_CTRL_DOMAIN 0 d).set Fld.WHORL_DOMSET_STATUS_ACTIVE 0 0).set Fld.WHORL_DOMSET_STATUS_ACTIVE 1 0 := by
  rcases hd with rfl | rfl <;> rfl

end

/-! ## The step of a set's OFS (R44, R472) -/

section
variable {s t : State} {set : Nat}

theorem State.joinSet_taken (h : s.stepBy (s.ofs set) = some t) : s.joinSet set =
    some (((t.lessOfs 0 (s.ofs set)).lessOfs 1 (s.ofs set)).setDomain (set + 1)) := by
  simp [State.joinSet, h]

theorem State.switchSet_invalid (h : s.isSet Fld.WHORL_DOMSET_CFG_VALID set = false) : s.switchSet set = none :=
  if_pos (by simp [h])

/-- A switch between the sets joins the other one and copies its RATE. -/
theorem State.switchSet_taken (hv : s.isSet Fld.WHORL_DOMSET_CFG_VALID set = true)
    (h : s.stepBy (s.ofs set) = some t) : s.switchSet set =
    some ((((t.lessOfs 0 (s.ofs set)).lessOfs 1 (s.ofs set)).setDomain (set + 1)).set Fld.WHORL_RATE_ADJ_ADJ 0
      (s.get Fld.WHORL_DOMSET_RATE_RATE set)) := by
  refine (if_neg (by simp [hv])).trans ?_
  rw [State.joinSet_taken h]
  rfl

end

/-! ## OFS and RATE (R471) -/

section
variable {s : State} {set : Nat}

/-- OFS of a set that is not the active one is kept, with the reference time of its write. -/
theorem exec_domOfsWrite_inactive (ofs : BitVec 64) (hs : s.setUp = true) (hset : set < 2) (hd : s.domain ≠ set + 1) :
    exec (.domOfsWrite set ofs) s = .next { (s.set Fld.WHORL_DOMSET_OFS_OFS set ofs.toNat).set
        Fld.WHORL_DOMSET_STATUS_LOST set 0 with
      net := { s.net with written := Sparse.insert s.net.written set s.refTime } } := by
  have hdomain : ((s.set Fld.WHORL_DOMSET_OFS_OFS set ofs.toNat).set Fld.WHORL_DOMSET_STATUS_LOST set 0).domain =
      s.domain := by
    unfold State.domain
    rw [State.get_set_key _ _ _ _ _ _ (Field.key_ne (by decide) (by decide) (by omega)),
      State.get_set_key _ _ _ _ _ _ (Field.key_ne (by decide) (by decide) (by omega))]
  show execDomOfsWrite set ofs s = _
  rw [execDomOfsWrite, State.host_up _ hs]
  exact congrArg _ (if_neg fun h => hd (hdomain.symm.trans h.1))

theorem exec_domRateWrite_inactive (rate : BitVec 32) (hs : s.setUp = true) (hd : s.domain ≠ set + 1) :
    exec (.domRateWrite set rate) s = .next (s.set Fld.WHORL_DOMSET_RATE_RATE set rate.toNat) := by
  show execDomRateWrite set rate s = _
  rw [execDomRateWrite, State.host_up _ hs]
  exact congrArg _ (if_neg hd)

/-- RATE of the active set is the correction in force. -/
theorem exec_domRateWrite_active (rate : BitVec 32) (hs : s.setUp = true) (hd : s.domain = set + 1) :
    exec (.domRateWrite set rate) s =
      .next ((s.set Fld.WHORL_DOMSET_RATE_RATE set rate.toNat).set Fld.WHORL_RATE_ADJ_ADJ 0 rate.toNat) := by
  show execDomRateWrite set rate s = _
  rw [execDomRateWrite, State.host_up _ hs]
  exact congrArg _ (if_pos hd)

theorem State.setsOnly_rate (s : State) (set : Nat) (rate : BitVec 32) :
    SetsOnly s (s.set Fld.WHORL_DOMSET_RATE_RATE set rate.toNat) [(Fld.WHORL_DOMSET_RATE_RATE, set, rate.toNat)] :=
  SetsOnly.one s _ set _ rate.isLt

theorem State.setsOnly_rateInForce (s : State) (rate : BitVec 32) (hset : set < 2) :
    SetsOnly s ((s.set Fld.WHORL_DOMSET_RATE_RATE set rate.toNat).set Fld.WHORL_RATE_ADJ_ADJ 0 rate.toNat)
      [(Fld.WHORL_DOMSET_RATE_RATE, set, rate.toNat), (Fld.WHORL_RATE_ADJ_ADJ, 0, rate.toNat)] := by
  refine (s.setsOnly_rate set rate).set Fld.WHORL_RATE_ADJ_ADJ 0 _ rate.isLt fun p hp => ?_
  obtain rfl := List.mem_singleton.mp hp
  exact Field.key_ne (f := Fld.WHORL_DOMSET_RATE_RATE) (i := set) (by decide) (by omega) (by decide)

end

/-! ## A set that becomes LOST (R473, R536) -/

section
variable {s : State} {set : Nat}

theorem exec_domainLost_early
    (h : s.refTime < Sparse.get 0 s.net.written set + s.get Fld.WHORL_DOMSET_LOSS_US set * Config.us) :
    exec (.domainLost set) s = .next s := congrArg _ (if_pos (by simp [h]))

variable (hp : s.powered = true) (hl : s.isSet Fld.WHORL_DOMSET_STATUS_LOST set = false)
  (hlate : Sparse.get 0 s.net.written set + s.get Fld.WHORL_DOMSET_LOSS_US set * Config.us ≤ s.refTime)
  {t : State} (ht : t = (s.set Fld.WHORL_DOMSET_STATUS_LOST set 1).raise Flg.WHORL_DOM_EVT_DOM_LOST 0)
include hp hl hlate ht

omit ht in
/-- The set has become LOST. -/
theorem State.domainLost_due : ¬ (!s.powered || s.isSet Fld.WHORL_DOMSET_STATUS_LOST set ||
    decide (s.refTime < Sparse.get 0 s.net.written set + s.get Fld.WHORL_DOMSET_LOSS_US set * Config.us)) = true := by
  simp [hp, hl, hlate]

theorem exec_domainLost_inactive (hd : t.domain ≠ set + 1) : exec (.domainLost set) s = .next t := by
  subst ht
  exact congrArg _ ((if_neg (State.domainLost_due hp hl hlate)).trans (if_pos hd))

variable (hd : t.domain = set + 1)
include hd

/-- The active set is lost where no automatic switch is allowed. -/
theorem exec_domainLost_faults (ha : t.isSet Fld.WHORL_DOMSET_CFG_AUTO_SWITCH 0 = false) :
    exec (.domainLost set) s = .next (t.timeFault (t.isSet Fld.SELV_TIME_CFG_DOM_FAULT 0)) := by
  subst ht
  exact congrArg _ ((if_neg (State.domainLost_due hp hl hlate)).trans ((if_neg (not_not_intro hd)).trans
    (if_neg (by simp [ha]))))

/-- The active set is lost and the other one takes its place. -/
theorem exec_domainLost_switches {u : State} (ha : t.isSet Fld.WHORL_DOMSET_CFG_AUTO_SWITCH 0 = true)
    (hv : t.isSet Fld.WHORL_DOMSET_CFG_VALID (1 - set) = true)
    (hn : t.isSet Fld.WHORL_DOMSET_STATUS_LOST (1 - set) = false) (hu : t.switchSet (1 - set) = some u) :
    exec (.domainLost set) s = .next (u.raise Flg.WHORL_DOM_EVT_AUTO_SWITCHED 0) := by
  subst ht
  refine congrArg _ ((if_neg (State.domainLost_due hp hl hlate)).trans ((if_neg (not_not_intro hd)).trans
    ((if_pos (by simp [ha, hv, hn])).trans ?_)))
  rw [hu]

end

/-- Settles O16: a domain write by the two domains that it goes between, OFS and RATE by whether the set is active, and
a lost set by what may take its place. -/
theorem domainsAndTheirRegisters : Obligations.DomainsAndTheirRegisters := by
  unfold Obligations.DomainsAndTheirRegisters
  refine ⟨fun s hs => ⟨?_, fun d hd hne hcur h => ?_, fun d hd hcur hv => ?_, fun d hd hne hrun => ?_,
      fun d t hd hne hcur hrun hv ht => ?_, fun d t hd hcur hv ht => ?_⟩,
    ⟨fun s set ofs hs hset hd => exec_domOfsWrite_inactive ofs hs hset hd,
      fun s set rate hs _ hd => ⟨_, exec_domRateWrite_inactive rate hs hd, s.setsOnly_rate set rate⟩,
      fun s set rate hs hset hd => ⟨_, exec_domRateWrite_active rate hs hd, s.setsOnly_rateInForce rate hset⟩⟩,
    fun s set _ hp hl => ⟨exec_domainLost_early, fun hlate t ht => ⟨exec_domainLost_inactive hp hl hlate ht,
      exec_domainLost_faults hp hl hlate ht, fun u hd => exec_domainLost_switches hp hl hlate ht hd⟩⟩⟩
  · rw [exec_domainWrite_up _ hs, State.writeDomain_active]
  · rw [exec_domainWrite_up _ hs, State.writeDomain_joinRefused hd hne hcur h, State.stepRefused]
  · rw [exec_domainWrite_up _ hs, State.writeDomain_switch hd hcur, State.switchSet_invalid hv]
    rfl
  · rw [exec_domainWrite_up _ hs, State.writeDomain_plain hd hne hrun, State.setDomain_plain s hd]
  · have hsucc : d - 1 + 1 = d := by omega
    rw [exec_domainWrite_up _ hs, State.writeDomain_join hd hne hcur hrun hv, State.joinSet_taken ht, hsucc]
    rfl
  · have hsucc : d - 1 + 1 = d := by omega
    rw [exec_domainWrite_up _ hs, State.writeDomain_switch hd hcur, State.switchSet_taken hv ht, hsucc]
    rfl

end Sys2Proof.Machine
end

section
/-! SUPPORT. The reference clock, the beat monitor, the time wave and the stamps of TIME_IN. -/

namespace Sys2Proof.Machine

/-! ## The reference clock (R42, R536) -/

@[simp] theorem State.raise_selv (s : State) (f : Flag) (i : Nat) : (s.raise f i).selv = s.selv := by
  obtain ⟨_, _, _, e⟩ := s.raise_frame f i
  rw [e]

/-- What turns the time monitors on is the Selvedge and the device state. -/
theorem State.timed_congr {s t : State} (hs : t.selv.on = s.selv.on) (hd : t.dev = s.dev) : t.timed = s.timed := by
  simp [State.timed, hs, hd]

theorem State.timeFault_off {s : State} (escalates : Bool) (h : s.timed = false) : s.timeFault escalates = s :=
  if_pos (by simp [h])

/-- A time fault is noted, and is a Selvedge fault where Table 18.3 escalates it. -/
theorem State.timeFault_on {s t : State} (escalates : Bool) (h : s.timed = true)
    (ht : t = s.raise Flg.SELV_EVT_TIME_FAULT 0) :
    s.timeFault escalates = if escalates then t.selvFault 4 0 72 else t := by
  subst ht
  exact if_neg (by simp [h])

/-- The reference has gone: holdover begins and REF_LOST is set. -/
def State.referenceLost (s : State) : State :=
  ((({ s with whorl := { s.whorl with refValid := false, lostAt := s.refTime, expired := false } }).set
    Fld.WHORL_STATUS_HOLDOVER 0 1).set Fld.WHORL_STATUS_REF_LOCK 0 0).raise Flg.WHORL_EVT_REF_LOST 0

theorem State.referenceLost_timed (s : State) : s.referenceLost.timed = s.timed :=
  State.timed_congr (by simp [State.referenceLost]) (by simp [State.referenceLost])

theorem exec_refclkLost_powered {s : State} (hp : s.powered = true) (hv : s.whorl.refValid = true) :
    exec .refclkLost s = .next (s.referenceLost.timeFault (s.isSet Fld.SELV_TIME_CFG_REF_FAULT 0)) :=
  congrArg _ (if_pos (by simp [hp, hv]))

theorem exec_refclkRestored_powered {s : State} (hp : s.powered = true) : exec .refclkRestored s =
    .next ((({ s with whorl := { s.whorl with refValid := true } }).set Fld.WHORL_STATUS_HOLDOVER 0 0).set
      Fld.WHORL_STATUS_REF_LOCK 0 1) := congrArg _ (if_pos hp)

/-- Holdover for REF_HOLD is a Selvedge fault, once. -/
theorem exec_refHoldExpire_faults {s : State} (ht : s.timed = true) (hh : s.isSet Fld.WHORL_STATUS_HOLDOVER 0 = true)
    (hv : s.whorl.refValid = false) (he : s.whorl.expired = false)
    (hl : s.whorl.lostAt + s.get Fld.SELV_TIMING_REF_HOLD 0 * 1000 * Config.us ≤ s.refTime) : exec .refHoldExpire s =
    .next (State.selvFault { s with whorl := { s.whorl with expired := true } } 4 0 72) :=
  congrArg _ (if_pos (by simp [ht, hh, hv, he, hl]))

theorem exec_refHoldExpire_early {s : State}
    (h : s.refTime < s.whorl.lostAt + s.get Fld.SELV_TIMING_REF_HOLD 0 * 1000 * Config.us) :
    exec .refHoldExpire s = .next s := congrArg _ (if_neg (by simp [h]))

/-! ## The beat monitor (R61) -/

section
variable {s : State} {k : Nat}

/-- An idle loom whose interval is its own shows what its count has gained. -/
theorem State.beatSample_idle (beats : Nat) (hb : k ∉ s.busyLooms) (hm : s.beatsMixed k = false) :
    s.beatSample k beats = s.beatsDone k := by
  simp [State.beatSample, hb, hm]

/-- An idle loom whose count has gained nothing shows none, whatever it is sampled at. -/
theorem State.beatSample_still (beats : Nat) (hb : k ∉ s.busyLooms) (hd : s.beatsDone k = 0) :
    s.beatSample k beats = 0 := by
  simp [State.beatSample, hb, hd]

/-- A loom at work shows no less than what its count has gained. -/
theorem State.beatSample_busy (beats : Nat) (hb : k ∈ s.busyLooms) (hm : s.beatsMixed k = false) :
    s.beatSample k beats = max beats (s.beatsDone k) := by
  simp [State.beatSample, hb, hm]

end

/-- The beats of work in progress that a sample adds to a loom's count. -/
def State.beatsMore (s : State) (k beats : Nat) : Nat :=
  if s.busyLooms.contains k then s.beatSample k beats - s.beatsDone k else 0

theorem State.beatsMore_busy {s : State} {k : Nat} (beats : Nat) (h : k ∈ s.busyLooms) :
    s.beatsMore k beats = s.beatSample k beats - s.beatsDone k := if_pos (by simpa using h)

theorem exec_beatmonUpdate_within {s : State} (beats : Nat) (h : s.now / 4000 = s.heddle.beatAt) :
    exec (.beatmonUpdate beats) s = .next s := congrArg _ (if_pos (by simp [h]))

/-- With a new interval the monitored loom's count takes what its sample adds, and the interval begins at the counts
as they stand then. -/
theorem exec_beatmonUpdate_next {s : State} (beats : Nat) {k : Nat} (hp : s.powered = true)
    (h : s.now / 4000 ≠ s.heddle.beatAt) (hk : k = s.get Fld.WHORL_BEATMON_SEL_SKEIN 0) :
    ∃ t, exec (.beatmonUpdate beats) s = .next t ∧
      t = { s.set Fld.WHORL_BEATMON_BEATS 0 (s.beatSample k beats) with heddle := t.heddle } ∧
      t.heddle.beatAt = s.now / 4000 ∧ t.heddle.beatBase = t.heddle.beats ∧
      Sparse.get 0 t.heddle.beats k = Sparse.get 0 s.heddle.beats k + s.beatsMore k beats := by
  subst hk
  refine ⟨_, congrArg Host.Outcome.next (if_neg (by simp [hp, h])), rfl, rfl, rfl, ?_⟩
  exact (Sparse.get_put _ _ _ _ _).trans (if_pos rfl)

/-! ## The time wave (R49) -/

section
variable {s : State} (r : Nat) (hp : s.powered = true)
include hp

theorem exec_timeWaveFrame_good (hu : s.whorl.unsynced = []) :
    exec (.timeWaveFrame []) s = .next (s.set Fld.WHORL_STATUS_WAVE_OK 0 1) := by
  show execTimeWaveFrame [] s = _
  rw [execTimeWaveFrame, hp, hu]
  exact congrArg (fun l => Host.Outcome.next (State.set { s with whorl := { s.whorl with unsynced := l } }
    Fld.WHORL_STATUS_WAVE_OK 0 1)) hu.symm

theorem exec_timeWaveFrame_bad (hu : s.whorl.unsynced = []) : exec (.timeWaveFrame [r]) s =
    .next (State.set { s with whorl := { s.whorl with unsynced := [r] } } Fld.WHORL_STATUS_WAVE_OK 0 0) := by
  show execTimeWaveFrame [r] s = _
  rw [execTimeWaveFrame, hp, hu]
  rfl

/-- The good frame after a slip. -/
theorem exec_timeWaveFrame_resyncs (hu : s.whorl.unsynced = [r]) : exec (.timeWaveFrame []) s =
    .next ((State.set { s with whorl := { s.whorl with unsynced := [] } } Fld.WHORL_STATUS_WAVE_OK 0 1).resync r) := by
  show execTimeWaveFrame [] s = _
  rw [execTimeWaveFrame, hp, hu]
  rfl

end

/-! ## TIME_IN (R475, R476) -/

section
variable {s : State} {pin : Nat} {rising : Bool} {ticks : Nat} (hp : s.powered = true)
include hp

/-- Both edges of a pulse that the filter takes out leave the level as it was. -/
theorem exec_timeInEdge_short (h : ticks < 4 * s.get Fld.WHORL_TINPIN_CFG_FILTER pin) :
    exec (.timeInEdge pin rising ticks) s =
      .next (s.tinLevel pin ((Sparse.find s.net.levels pin).getD (!rising))) :=
  congrArg _ ((if_neg (by simp [hp])).trans (if_pos h))

variable (hf : 4 * s.get Fld.WHORL_TINPIN_CFG_FILTER pin ≤ ticks)
include hf

theorem exec_timeInEdge_same (h : Sparse.find s.net.levels pin = some rising) :
    exec (.timeInEdge pin rising ticks) s = .next s :=
  congrArg _ ((if_neg (by simp [hp])).trans ((if_neg (Nat.not_lt.mpr hf)).trans (if_pos (by rw [h]; rfl))))

/-- A selected edge that the filter passes is stamped. -/
theorem exec_timeInEdge_selected (he : s.isSet Fld.WHORL_TINPIN_CFG_EN pin = true)
    (hs : s.tinSelects pin rising = true) (h : Sparse.find s.net.levels pin ≠ some rising) :
    exec (.timeInEdge pin rising ticks) s = .next ((s.tinLevel pin rising).tinStamp pin rising) := by
  have hbefore : (Sparse.find s.net.levels pin).getD (!rising) ≠ rising := by
    cases hl : Sparse.find s.net.levels pin with
    | none => simp
    | some l => exact fun e => h (hl.trans (congrArg some e))
  show execTimeInEdge pin rising ticks s = _
  rw [execTimeInEdge, hp, he, hs]
  exact congrArg _ ((if_neg (Nat.not_lt.mpr hf)).trans (if_neg hbefore))

end

section
variable {s : State} {pin : Nat}

theorem State.tinStamp_room (rising : Bool) (h : (s.tinFifo pin).length < 16) : s.tinStamp pin rising =
    { s with net := { s.net with fifos := Sparse.insert s.net.fifos pin (s.tinFifo pin ++ [(s.now, !rising)]) } } :=
  if_neg (Nat.not_le.mpr h)

theorem State.tinStamp_full (rising : Bool) (h : 16 ≤ (s.tinFifo pin).length) : s.tinStamp pin rising =
    ((s.set Fld.WHORL_TIN_EVT_OVERRUN 0 (s.get Fld.WHORL_TIN_EVT_OVERRUN 0 ||| 2 ^ pin)).count
      Fld.WHORL_TIN_EVT_CNT_COUNT pin 1).raiseSource 21 := if_pos h

/-- The host's read of a high half returns what the low half's read has captured. -/
def State.tinRead (s : State) (pin : Nat) : State :=
  { s with hostRead := Sparse.get 0 s.shadows (Reg.WHORL_TINPIN_STAMP.base + 0x10 * pin) / 2 ^ 32 }

theorem exec_tinStampHighRead_again (hs : s.setUp = true) (h : pin ∉ s.net.captured) :
    exec (.tinStampHighRead pin) s = .next (s.tinRead pin) := by
  show execTinStampHighRead pin s = _
  rw [execTinStampHighRead, State.host_up _ hs]
  exact congrArg _ (if_neg (by simpa using h))

/-- The first read after a capture takes the head out. -/
theorem exec_tinStampHighRead_first (hs : s.setUp = true) (h : pin ∈ s.net.captured) :
    exec (.tinStampHighRead pin) s = .next { s.tinRead pin with net := { s.net with
      fifos := Sparse.put [] s.net.fifos pin ((s.tinFifo pin).drop 1)
      captured := s.net.captured.filter (fun p => p != pin) } } := by
  show execTinStampHighRead pin s = _
  rw [execTinStampHighRead, State.host_up _ hs]
  exact congrArg _ (if_pos (by simpa using h))

end

/-! ## The statement's parts -/

/-- Settles O17: the reference by whether the monitors are on, the monitor's count by whether its loom is at work, the
wave by what was out of step, and an edge by the filter, the selection and the room of its FIFO. -/
theorem referenceWaveAndStamps : Obligations.ReferenceWaveAndStamps := by
  unfold Obligations.ReferenceWaveAndStamps
  refine ⟨⟨fun s hp hv ht => ?_, fun s => rfl, fun s t hp hv ht e => ?_, fun s hp => exec_refclkRestored_powered hp,
      fun s ht hh hv he hl => exec_refHoldExpire_faults ht hh hv he hl, fun s h => exec_refHoldExpire_early h⟩,
    ⟨fun s beats k hp h hk => ?_, fun s beats h => exec_beatmonUpdate_within beats h,
      fun s hp hu => exec_timeWaveFrame_good hp hu, fun s r hp hu => exec_timeWaveFrame_bad r hp hu,
      fun s r hp hu => exec_timeWaveFrame_resyncs r hp hu⟩,
    fun s u pin rising ticks hp he hs hl hf hu => ?_, fun s pin rising ticks hp h => ?_,
    fun s pin rising ticks hp hl hf => exec_timeInEdge_same hp hf hl, fun s pin hs h => ?_,
    fun s pin hs h => exec_tinStampHighRead_again hs h⟩
  · rw [exec_refclkLost_powered hp hv, State.timeFault_off _ (s.referenceLost_timed.trans ht), State.referenceLost]
  · rw [exec_refclkLost_powered hp hv, State.timeFault_on _ (s.referenceLost_timed.trans ht) e]
  · -- the beat monitor
    obtain ⟨t, hexec, ht, hat, hbase, hbeats⟩ := exec_beatmonUpdate_next beats hp h hk
    refine ⟨t, _, hexec, ht, hat, hbase, fun hb hm => State.beatSample_idle beats hb hm,
      fun hb hd => State.beatSample_still beats hb (by simp [State.beatsDone, hd]), fun hb hm => ?_⟩
    rw [hbeats, State.beatsMore_busy beats hb, State.beatSample_busy beats hb hm, State.beatsDone]
    exact ⟨Nat.le_max_right _ _, Nat.le_add_right _ _, fun hle => by omega⟩
  · -- a selected edge
    have hexec := exec_timeInEdge_selected hp hf he hs hl
    subst hu
    exact ⟨fun h => hexec.trans (congrArg _ (State.tinStamp_room (s := s.tinLevel pin rising) rising h)),
      fun h => hexec.trans (congrArg _ (State.tinStamp_full (s := s.tinLevel pin rising) rising h))⟩
  · -- a pulse that the filter takes out
    exact ⟨_, fun l hl => by rw [hl]; rfl, exec_timeInEdge_short hp h⟩
  · -- the first read after a capture
    refine ⟨_, exec_tinStampHighRead_first hs h, rfl, ?_, by simp, fun p hne => ⟨?_, by simp [hne]⟩⟩
    · exact (Sparse.get_put _ _ _ _ _).trans (if_pos rfl)
    · exact (Sparse.get_put _ _ _ _ _).trans (if_neg hne)

end Sys2Proof.Machine
end

section
/-! SUPPORT. Launch times: the guard, the start and lateness of a command, and the yield of a loom. -/

namespace Sys2Proof.Machine

/-! ## The guard (R56) -/

section
variable {s : State} {uid : Nat} {c : Cmd} (hc : s.cmd? uid = some c)
include hc

theorem exec_launchGuard_guards (hl : c.launch ≠ 0) (hg : c.launch ≤ s.now + c.guard) (hp : c.phase = .queued) :
    exec (.launchGuard uid) s = .next (s.modCmd uid (fun c => { c with guarded := true })) := by
  show execLaunchGuard uid s = _
  rw [execLaunchGuard, hc]
  exact congrArg _ (if_pos ⟨hl, hg, .inr hp⟩)

theorem exec_launchGuard_early (h : s.now + c.guard < c.launch) : exec (.launchGuard uid) s = .next s := by
  show execLaunchGuard uid s = _
  rw [execLaunchGuard, hc]
  exact congrArg _ (if_neg fun ⟨_, hg, _⟩ => Nat.not_le.mpr h hg)

end

/-! ## The start (R53) -/

/-- What a command that may start has, of the conditions of R53. -/
theorem State.startable_needs {s : State} {c : Cmd} (h : s.startable c = true) :
    s.serving = true ∧ c.tokenOk = true ∧ c.launch ≤ s.now := by
  simp only [State.startable, Bool.and_eq_true, decide_eq_true_eq] at h
  simp [h]

section
variable {s : State} {uid : Nat} {c : Cmd} (hc : s.cmd? uid = some c)
include hc

theorem exec_launchStart_none (h : s.startable c = false) : exec (.launchStart uid) s = .next s := by
  show execLaunchStart uid s = _
  rw [execLaunchStart, hc]
  exact congrArg _ (if_neg (by simp [h]))

variable (hs : s.startable c = true) (hch : s.chooses c = true)
include hs hch

theorem exec_launchStart_begins (hp : c.phase = .queued) : exec (.launchStart uid) s =
    .next ((s.begin c (s.target c)).noteJob (s.target c) c.job) := by
  have hy : ¬ c.phase = .yielded := by simp [hp]
  show execLaunchStart uid s = _
  simp only [execLaunchStart, hc, hs, hch, Bool.and_self, if_true, if_neg hy]

/-- A yielded command resumes on the engine that it has. -/
theorem exec_launchStart_resumes (hp : c.phase = .yielded) : exec (.launchStart uid) s =
    .next ((s.resume c).noteJob c.engine c.job) := by
  have htarget : s.target c = c.engine := if_pos hp
  show execLaunchStart uid s = _
  simp only [execLaunchStart, hc, hs, hch, Bool.and_self, if_true, if_pos hp, htarget]

end

/-! ## Lateness (R55) -/

section
variable {s : State} {uid : Nat} {c : Cmd} (hc : s.cmd? uid = some c)
include hc

theorem exec_launchLate_none (h : s.now < c.launch + c.tol ∨ c.launch = 0) : exec (.launchLate uid) s = .next s := by
  show execLaunchLate uid s = _
  rw [execLaunchLate, hc]
  exact congrArg _ (if_neg fun ⟨hl, ht, _⟩ => h.elim (Nat.not_lt.mpr ht) hl)

variable (hlaunch : c.launch ≠ 0) (htol : c.launch + c.tol ≤ s.now) (hlate : c.late = false)
  (hphase : c.phase = .admitted ∨ c.phase = .queued) (hsync : s.synced c.home = true)
  (habort : s.isSet Fld.HEDDLE_STATUS_ABORTING 0 = false) {t : State} (ht : t = s.raise Flg.WHORL_EVT_LAUNCH_LATE 0)
include hlaunch htol hlate hphase hsync habort ht

/-- The policy lets a late command run. -/
theorem exec_launchLate_runs (hs : s.skipsLate c = false) :
    exec (.launchLate uid) s = .next (t.modCmd uid (fun c => { c with late := true })) := by
  subst ht
  show execLaunchLate uid s = _
  rw [execLaunchLate, hc]
  exact congrArg _ ((if_pos ⟨hlaunch, htol, hlate, hphase, hsync, by simp [habort]⟩).trans (if_neg (by simp [hs])))

/-- The policy skips a late command, and its queue fills up behind it. -/
theorem exec_launchLate_skips (hs : s.skipsLate c = true) : exec (.launchLate uid) s =
    .next (((t.withdraw (.cmd uid)).finish uid 0x0401 0).modCmd uid (fun c => { c with via := none })).fillQueues := by
  subst ht
  show execLaunchLate uid s = _
  rw [execLaunchLate, hc]
  exact congrArg _ ((if_pos ⟨hlaunch, htol, hlate, hphase, hsync, by simp [habort]⟩).trans (if_pos hs))

end

/-! ## The yield of a loom (R175) -/

section
variable {s : State} {k : Nat}

/-- A loom keeps at most two yielded commands. -/
theorem exec_loomYield_full
    (h : 2 ≤ (s.cmds.filter (fun d => decide (d.engine = .loom k) && decide (d.phase = .yielded))).length) :
    exec (.loomYield k) s = .next s := by
  show execLoomYield k s = _
  unfold execLoomYield
  split
  · rfl
  · exact congrArg _ (if_pos h)

theorem exec_loomYield_yields {c : Cmd} (hc : s.cmds.find? (fun c =>
      decide (c.engine = .loom k) && decide (c.phase = .running) && c.yieldReq) = some c)
    (h : (s.cmds.filter (fun d => decide (d.engine = .loom k) && decide (d.phase = .yielded))).length < 2) :
    exec (.loomYield k) s =
      .next (((s.noteGroup c).modCmd c.uid (fun c => { c with phase := .yielded, yieldReq := false })).count
        Fld.SKEIN_LOOM_CNT_YIELD_COUNT k 1) := by
  show execLoomYield k s = _
  rw [execLoomYield, hc]
  exact congrArg _ (if_neg (Nat.not_le.mpr h))

theorem exec_loomYield_unasked (h : ∀ c ∈ s.cmds, c.yieldReq = false) : exec (.loomYield k) s = .next s := by
  have hc : s.cmds.find? (fun c => decide (c.engine = .loom k) && decide (c.phase = .running) && c.yieldReq) = none :=
    List.find?_eq_none.mpr fun c hmem => by simp [h c hmem]
  show execLoomYield k s = _
  rw [execLoomYield, hc]

end

/-- Settles O19: a start by what it needs, lateness by the policy, and a yield by how many have yielded. -/
theorem launchAndYield : Obligations.LaunchAndYield := by
  unfold Obligations.LaunchAndYield
  refine ⟨fun s uid c hc => ⟨exec_launchGuard_guards hc, exec_launchGuard_early hc, exec_launchStart_begins hc,
      exec_launchStart_resumes hc, fun h => ?_, fun h => ?_, fun h => ?_⟩,
    fun s uid c hc => ⟨fun t ht hl htol hn hp hy ha => ⟨exec_launchLate_runs hc hl htol hn hp hy ha ht,
      exec_launchLate_skips hc hl htol hn hp hy ha ht⟩, fun h => exec_launchLate_none hc (.inl h),
      fun h => exec_launchLate_none hc (.inr h)⟩,
    fun s k c hc h => exec_loomYield_yields hc h, fun s k h => exec_loomYield_full (Nat.le_of_eq h.symm),
    fun s k h => exec_loomYield_unasked h⟩
  all_goals
    refine exec_launchStart_none hc (Bool.eq_false_iff.mpr fun hs => ?_)
    obtain ⟨hserving, htoken, hlaunch⟩ := State.startable_needs hs
  · omega
  · simp [h] at htoken
  · simp [h] at hserving

end Sys2Proof.Machine
end

section
/-! SUPPORT. The commands of a state by their numbers: what a number names, and what a change of a command leaves. -/

namespace Sys2Proof.Machine

theorem State.uid_of_cmd? {s : State} {uid : Nat} {c : Cmd} (h : s.cmd? uid = some c) : c.uid = uid := by
  simpa using List.find?_some h

theorem State.mem_of_cmd? {s : State} {uid : Nat} {c : Cmd} (h : s.cmd? uid = some c) : c ∈ s.cmds :=
  List.mem_of_find?_eq_some h

/-- A change that keeps the numbers changes what its own number names, and nothing that another one names. -/
theorem State.cmd?_modCmd (s : State) (uid u : Nat) {f : Cmd → Cmd} (hf : ∀ c, (f c).uid = c.uid) :
    (s.modCmd uid f).cmd? u = if u = uid then (s.cmd? u).map f else s.cmd? u := by
  have hnumber : (fun c : Cmd => c.uid == u) ∘ (fun c => if c.uid = uid then f c else c) = fun c => c.uid == u := by
    funext c
    by_cases h : c.uid = uid <;> simp [h, hf]
  show List.find? _ (s.cmds.map _) = _
  rw [List.find?_map, hnumber]
  cases hc : s.cmds.find? (fun c => c.uid == u) with
  | none => simp [State.cmd?, hc]
  | some c =>
    have hu : c.uid = u := State.uid_of_cmd? hc
    subst hu
    show some (if c.uid = uid then f c else c) = _
    rw [State.cmd?, hc]
    split <;> rfl

theorem State.cmd?_modCmd_same {s : State} {uid : Nat} {c : Cmd} {f : Cmd → Cmd} (hf : ∀ c, (f c).uid = c.uid)
    (h : s.cmd? uid = some c) : (s.modCmd uid f).cmd? uid = some (f c) := by
  rw [State.cmd?_modCmd s uid uid hf, if_pos rfl, h]
  rfl

/-- A running command of an opcode is what its number names. -/
theorem State.cmd?_of_runningCmd {s : State} {uid op : Nat} {c : Cmd} (h : s.runningCmd uid op = some c) :
    s.cmd? uid = some c := by
  unfold State.runningCmd at h
  split at h
  next d hd =>
    split at h
    · exact hd.trans h
    · contradiction
  next => contradiction

theorem State.uid_of_runningCmd {s : State} {uid op : Nat} {c : Cmd} (h : s.runningCmd uid op = some c) :
    c.uid = uid := State.uid_of_cmd? (State.cmd?_of_runningCmd h)

end Sys2Proof.Machine
end

section
/-! SUPPORT. Tokens: the test of the waiters, the arrival of a signal, and the registration of a wait. -/

namespace Sys2Proof.Machine

/-! ## The waiters of a token (R88 to R91) -/

@[simp] theorem State.token_putToken (s : State) (id j : Nat) (t : Token) :
    (s.putToken id t).token j = if j = id then t else s.token j := Sparse.get_put _ _ _ _ _

@[simp] theorem State.contested_one (s : State) (w : Waiter) : s.contested [w] = false := rfl

section
variable {s : State} {id : Nat}

theorem State.testWaiters_none (fuel : Nat) (h : (s.token id).waiters = []) : s.testWaiters id fuel = s := by
  cases fuel with
  | zero => rfl
  | succ n =>
    unfold State.testWaiters
    dsimp only
    rw [h]

theorem State.testWaiters_short (fuel : Nat) (h : (s.token id).count < (s.token id).target) :
    s.testWaiters id fuel = s := by
  cases fuel with
  | zero => rfl
  | succ n =>
    unfold State.testWaiters
    dsimp only
    split
    · rfl
    · rw [if_pos h]

/-- Waiters of one source are tested, whatever the mode and the twist. -/
theorem State.serve_uncontested (h : s.contested (s.token id).waiters = false) :
    s.serve id = s.testWaiters id (s.token id).fuel := if_neg (by simp [h])

theorem State.serve_none (h : (s.token id).waiters = []) : s.serve id = s :=
  (State.serve_uncontested (by rw [h]; rfl)).trans (State.testWaiters_none _ h)

theorem State.serve_contested (hl : (s.token id).level = false) (hc : s.contested (s.token id).waiters = true)
    (hf : s.fixedTwist ((s.token id).owner.getD 0) = true) :
    s.serve id = s.trap (tokenHome id) 0 0x08 0 ((s.token id).owner.getD 0) := if_pos (by simp [hl, hc, hf])

/-- The token that a grant to its one waiter leaves: TARGET is taken off, and the grant joins those of the beat. -/
def State.grantedOnce (s : State) (id : Nat) (w : Waiter) : Token :=
  { s.token id with
    count := (s.token id).count - (s.token id).target, waiters := []
    grants := s.beatGrants (s.token id) ++ [(s.refTime, w.source s, false)] }

/-- A command that waits alone at a CONSUME token whose TARGET is reached is granted. -/
theorem State.serve_command {uid : Nat} (hw : (s.token id).waiters = [.cmd uid]) (hl : (s.token id).level = false)
    (ht : (s.token id).target ≤ (s.token id).count) :
    s.serve id = (s.putToken id (s.grantedOnce id (.cmd uid))).grantTo (.cmd uid) := by
  have hfuel : (s.token id).fuel = (s.token id).count + 1 := by simp [Token.fuel, hw]
  have hdone : (((s.putToken id (s.grantedOnce id (.cmd uid))).grantTo (.cmd uid)).token id).waiters = [] :=
    congrArg Token.waiters ((s.token_putToken id id _).trans (if_pos rfl))
  rw [State.serve_uncontested (by rw [hw]; rfl), hfuel]
  unfold State.testWaiters
  dsimp only
  rw [hw]
  dsimp only
  rw [if_neg (Nat.not_lt.mpr ht), if_neg (by simp [hl])]
  exact State.testWaiters_none _ hdone

end

/-! ## A signal arrives (R89, R90) -/

theorem takeFirst_head {α : Type} {p : α → Bool} {a : α} (rest : List α) (h : p a = true) :
    takeFirst p (a :: rest) = (some a, rest) := if_pos h

theorem takeFirst_none {α : Type} {p : α → Bool} {l : List α} (h : ∀ a ∈ l, p a = false) :
    (takeFirst p l).1 = none := by
  induction l with
  | nil => rfl
  | cons a rest ih =>
    rw [takeFirst, if_neg (by simp [h a])]
    exact ih fun b hb => h b (by simp [hb])

theorem exec_tokenSignalArrive_none {s : State} {id : Nat} (h : ∀ p ∈ s.signals, p.1 ≠ id) :
    exec (.tokenSignalArrive id) s = .next s := by
  show execTokenSignalArrive id s = _
  have hnone := takeFirst_none (p := fun p => p.1 == id) (l := s.signals) fun p hp => by simp [h p hp]
  unfold execTokenSignalArrive
  split
  next hs => rw [hs] at hnone; contradiction
  next => rfl

section
variable {s : State} {id n : Nat}

theorem exec_tokenSignalArrive_head {rest : List (Nat × Nat)} (h : s.signals = (id, n) :: rest) :
    exec (.tokenSignalArrive id) s = .next (State.arrive { s with signals := rest } id n).settle := by
  show execTokenSignalArrive id s = _
  rw [execTokenSignalArrive, h, takeFirst_head _ (by simp)]

/-- A signal has left the queue of those in flight, and its amount is in COUNT. -/
def State.signalAdded (s : State) (rest : List (Nat × Nat)) (id n : Nat) : State :=
  State.putToken { s with signals := rest } id { s.token id with count := (s.token id).count + n }

theorem State.signalAdded_token (s : State) (rest : List (Nat × Nat)) (id n : Nat) :
    (s.signalAdded rest id n).token id = { s.token id with count := (s.token id).count + n } :=
  (State.token_putToken _ _ _ _).trans (if_pos rfl)

variable {rest : List (Nat × Nat)} (hs : s.signals = (id, n) :: rest) (hn : tokenNull id = false)
  (hr : s.heddle.tokenReset = false) (hrelay : s.relays id = false) (hf : s.heddle.fault = none)
  (hc : (s.token id).count + n ≤ 0xFFFF)
include hs hn hr hrelay hc

/-- Away from relays and aborts a signal that does not saturate COUNT adds to it, and its token is served. -/
theorem exec_tokenSignalArrive_serves :
    exec (.tokenSignalArrive id) s = .next ((s.signalAdded rest id n).serve id).settle := by
  have hmin : min ((s.token id).count + n) 0xFFFF = (s.token id).count + n := Nat.min_eq_left hc
  have hfits : decide (0xFFFF < (s.token id).count + n) = false := decide_eq_false (Nat.not_lt.mpr hc)
  have hrelay' : State.relays { s with signals := rest } id = false := hrelay
  have hsame : State.token { s with signals := rest } id = s.token id := rfl
  rw [exec_tokenSignalArrive_head hs, State.arrive, if_neg (by simp [hn, hr]), if_neg (by simp [hrelay'])]
  dsimp only
  rw [hsame, hmin, hfits]
  rfl

include hf

/-- Without a waiter the amount is all that changes. -/
theorem exec_tokenSignalArrive_counts (hw : (s.token id).waiters = []) :
    exec (.tokenSignalArrive id) s = .next (s.signalAdded rest id n) := by
  have hnone : ((s.signalAdded rest id n).token id).waiters = [] := by rw [State.signalAdded_token]; exact hw
  rw [exec_tokenSignalArrive_serves hs hn hr hrelay hc, State.serve_none hnone]
  exact congrArg _ (State.settle_quiet hf)

/-- One command that waits in CONSUME mode is granted where the amount reaches TARGET. -/
theorem exec_tokenSignalArrive_grants {uid : Nat} (hw : (s.token id).waiters = [.cmd uid])
    (hl : (s.token id).level = false) (ht : (s.token id).target ≤ (s.token id).count + n)
    {u : State} (hu : u = s.signalAdded rest id n) :
    exec (.tokenSignalArrive id) s = .next ((u.putToken id (u.grantedOnce id (.cmd uid))).grantTo (.cmd uid)) := by
  have htoken : u.token id = { s.token id with count := (s.token id).count + n } :=
    hu ▸ s.signalAdded_token rest id n
  have hserve : u.serve id = (u.putToken id (u.grantedOnce id (.cmd uid))).grantTo (.cmd uid) :=
    State.serve_command (by rw [htoken]; exact hw) (by rw [htoken]; exact hl) (by rw [htoken]; exact ht)
  rw [exec_tokenSignalArrive_serves hs hn hr hrelay hc, ← hu, hserve]
  exact congrArg _ (State.settle_quiet (hu ▸ hf))

end

/-- A grant to a queued command notes it with the command. -/
theorem State.cmd?_grantTo_queued {s : State} {uid : Nat} {c : Cmd} (h : s.cmd? uid = some c) (hq : c.phase = .queued) :
    (s.grantTo (.cmd uid)).cmd? uid = some { c with granted := true } := by
  refine (State.cmd?_modCmd_same (fun d => ?_) h).trans (congrArg some (if_neg (by simp [hq])))
  split <;> rfl

/-! ## A wait registers (R88, R90, R91) -/

section
variable {s : State}

theorem exec_tokenWaitRegister_queued {uid : Nat} {c : Cmd} (hc : s.cmd? uid = some c) (hp : c.phase = .queued)
    (hh : s.isHead c = true) (hr : c.registered = false) (ht : c.tokenOk = false)
    (hcut : s.cutNow = false ∨ uid ∉ s.heddle.cutWaits) : exec (.tokenWaitRegister (.cmd uid)) s =
    .next ((s.modCmd uid (fun c => { c with registered := true })).register c.waitToken (.cmd uid)).settle := by
  have hnot : ¬ (s.cutNow = true ∧ uid ∈ s.heddle.cutWaits) := fun ⟨h1, h2⟩ =>
    hcut.elim (fun h => by simp [h] at h1) (fun h => h h2)
  show execTokenWaitRegister (.cmd uid) s = _
  rw [execTokenWaitRegister, hc]
  exact congrArg (fun t => Host.Outcome.next (State.settle t)) ((if_neg hnot).trans (if_pos ⟨hp, hh, hr, ht⟩))

theorem exec_tokenWaitRegister_late {uid : Nat} {c : Cmd} (hc : s.cmd? uid = some c) (hn : s.cutNow = true)
    (hcut : uid ∈ s.heddle.cutWaits) : exec (.tokenWaitRegister (.cmd uid)) s = .next (s.cmdWaitLate c).settle := by
  show execTokenWaitRegister (.cmd uid) s = _
  rw [execTokenWaitRegister, hc]
  exact congrArg (fun t => Host.Outcome.next (State.settle t)) (if_pos ⟨hn, hcut⟩)

section
variable {k q : Nat}

theorem exec_tokenWaitRegister_core {id : Nat} (hw : s.coreWait k q = some id) (hst : (s.core k q).state = .stalled)
    (hr : (s.core k q).waitReg = false) (hg : (s.core k q).waitGranted = false)
    (hcut : s.cutNow = false ∨ (s.core k q).cutWait = false) : exec (.tokenWaitRegister (.core k q)) s =
    .next ((s.putCore k q { s.core k q with waitReg := true }).register id (.core k q)).settle := by
  have hnot : ¬ (s.cutNow = true ∧ (s.core k q).cutWait = true) := fun ⟨h1, h2⟩ =>
    hcut.elim (fun h => by simp [h] at h1) (fun h => by simp [h] at h2)
  show execTokenWaitRegister (.core k q) s = _
  rw [execTokenWaitRegister]
  dsimp only
  rw [if_neg hnot, hw]
  exact congrArg (fun t => Host.Outcome.next (State.settle t)) (if_pos ⟨hst, hr, hg⟩)

theorem exec_tokenWaitRegister_coreLate (hn : s.cutNow = true) (hcut : (s.core k q).cutWait = true) :
    exec (.tokenWaitRegister (.core k q)) s = .next (s.coreWaitLate k q).settle :=
  congrArg (fun t => Host.Outcome.next (State.settle t)) (if_pos ⟨hn, hcut⟩)

end

theorem exec_tokenWaitRegister_capture {n : Nat} (h : (s.cap n).live = true) :
    exec (.tokenWaitRegister (.capture n)) s = .next (s.register (s.get Fld.CARD_CAP_TOKENS_FREE n) (.cap n)).settle :=
  congrArg (fun t => Host.Outcome.next (State.settle t)) (if_pos h)

theorem exec_tokenWaitRegister_dataset {d : Nat} (h : (s.ds d).live = true) :
    exec (.tokenWaitRegister (.dataset d)) s = .next (s.register (s.get Fld.CARD_DS_TOKENS_FREE d) (.ds d)).settle :=
  congrArg (fun t => Host.Outcome.next (State.settle t)) (if_pos h)

section
variable {id : Nat} {w : Waiter}

/-- In fixed twist a late wait that proves two sources to have met at a CONSUME token traps. -/
theorem State.lateWait_contested (hl : (s.token id).level = false)
    (hf : s.fixedTwist ((s.token id).owner.getD 0) = true) (hc : s.contested ((s.token id).cut ++ [w]) = true) :
    s.lateWait id w = (s.putToken id { s.token id with cut := (s.token id).cut ++ [w] }).trap (tokenHome id) 0 0x08 0
      ((s.token id).owner.getD 0) := if_pos (by simp [hl, hf, hc])

theorem State.register_null (h : tokenNull id = true) : s.register id w = s.grantTo w := if_pos h

variable (hn : tokenNull id = false)
include hn

/-- A new waiter that meets no grant of this beat joins the token, which is then served. -/
theorem State.register_joins (hw : w ∉ (s.token id).waiters) (hm : s.meetsGrant (s.token id) w = false) :
    s.register id w = (s.putToken id { s.token id with waiters := (s.token id).waiters ++ [w] }).serve id :=
  (if_neg (by simp [hn])).trans ((if_neg hw).trans (if_neg (by simp [hm])))

/-- The first waiter of a token below its TARGET stays registered. -/
theorem State.register_waits (hw : (s.token id).waiters = []) (hc : (s.token id).count < (s.token id).target)
    (hm : s.meetsGrant (s.token id) w = false) :
    s.register id w = s.putToken id { s.token id with waiters := [w] } := by
  have htoken : (s.putToken id { s.token id with waiters := [w] }).token id = { s.token id with waiters := [w] } :=
    (State.token_putToken _ _ _ _).trans (if_pos rfl)
  rw [State.register_joins hn (by simp [hw]) hm, hw, List.nil_append,
    State.serve_uncontested (by rw [htoken]; rfl), State.testWaiters_short _ (by rw [htoken]; exact hc)]

variable (hw : w ∉ (s.token id).waiters) (hm : s.meetsGrant (s.token id) w = true)
include hw hm

theorem State.register_met_fixed (hf : s.fixedTwist ((s.token id).owner.getD 0) = true) :
    s.register id w = (s.putToken id (s.joined (s.token id) w)).trap (tokenHome id) 0 0x08 0
      ((s.token id).owner.getD 0) :=
  (if_neg (by simp [hn])).trans ((if_neg hw).trans ((if_pos hm).trans (if_pos hf)))

theorem State.register_met_away (hf : s.fixedTwist ((s.token id).owner.getD 0) = false) :
    s.register id w = ((s.putToken id (s.joined (s.token id) w)).ndcs ((s.token id).owner.getD 0)
      (s.metGrants (s.token id) w)).serve id :=
  (if_neg (by simp [hn])).trans ((if_neg hw).trans ((if_pos hm).trans (if_neg (by simp [hf]))))

end
end

/-- Settles O23: a signal by who waits at its token, and a wait by its waiter and by what it meets there. -/
theorem tokenSignalsAndWaits : Obligations.TokenSignalsAndWaits := by
  unfold Obligations.TokenSignalsAndWaits
  refine ⟨⟨fun s id n rest hs hn hr hrelay hf hc => ⟨fun hw => ?_, fun uid c hw hl hcmd hq ht => ?_⟩,
      fun s id h => exec_tokenSignalArrive_none h⟩,
    fun s uid c hc hp hh hr ht hcut => exec_tokenWaitRegister_queued hc hp hh hr ht hcut,
    fun s k q id hw hst hr hg hcut => exec_tokenWaitRegister_core hw hst hr hg hcut,
    fun s uid c hc hn hcut => exec_tokenWaitRegister_late hc hn hcut,
    fun s k q hn hcut => exec_tokenWaitRegister_coreLate hn hcut,
    fun s id w hl hf hc => State.lateWait_contested hl hf hc,
    fun s n h => exec_tokenWaitRegister_capture h, fun s d h => exec_tokenWaitRegister_dataset h,
    fun s id w h => State.register_null h, fun s id w hn hw hc hm => State.register_waits hn hw hc hm,
    fun s id w hn hw hm hf => State.register_met_fixed hn hw hm hf,
    fun s id w hn hw hm hf => State.register_met_away hn hw hm hf,
    fun s id hl hc hf => State.serve_contested hl hc hf⟩
  · -- no waiter
    refine ⟨_, exec_tokenSignalArrive_counts hs hn hr hrelay hf hc hw, rfl, ?_, fun j hj => ?_⟩
    · exact (State.token_putToken _ _ _ _).trans (if_pos rfl)
    · exact (State.token_putToken _ _ _ _).trans (if_neg hj)
  · -- one command waits
    refine ⟨_, exec_tokenSignalArrive_grants hs hn hr hrelay hf hc hw hl ht rfl, ?_,
      State.cmd?_grantTo_queued hcmd hq, rfl, rfl, rfl⟩
    refine ((State.token_putToken _ _ _ _).trans (if_pos rfl)).trans ?_
    rw [State.grantedOnce, State.signalAdded_token]
    rfl

/-! ## Assignment and release (R86, R87) -/

section
variable {s : State} {k i job : Nat} (hs : s.setUp = true)
include hs

/-- An unassigned token at which nothing waits is given its owner and armed. -/
theorem exec_tokenAssign_arms (n target : Nat) (level : Bool) (hf : s.heddle.fault = none) (hi : i ≠ 0)
    (ho : (s.token (k * 1024 + i)).owner = none) (hw : (s.token (k * 1024 + i)).waiters = []) :
    exec (.tokenAssign k i job n target level) s = .next (s.putToken (k * 1024 + i) { s.token (k * 1024 + i) with
      count := n, target := target, level := level, owner := some job }) := by
  show execTokenAssign k i job n target level s = _
  rw [execTokenAssign, State.host_up _ hs, State.assignToken]
  dsimp only
  rw [ho, if_neg (by simp [hi]), State.armToken, State.serve_none (by simpa using hw)]
  exact congrArg _ (State.settle_quiet hf)

/-- The null token, a token of another job and one of a busy job are not assigned. -/
theorem exec_tokenAssign_refused {j : Nat} (n target : Nat) (level : Bool)
    (h : i = 0 ∨ ((s.token (k * 1024 + i)).owner = some j ∧ (j ≠ job ∨ s.jobBusy job = true))) :
    exec (.tokenAssign k i job n target level) s = .next (s.raise Flg.SKEIN_EVT_TOKEN_REFUSED k).settle := by
  show execTokenAssign k i job n target level s = _
  rw [execTokenAssign, State.host_up _ hs, State.assignToken]
  refine congrArg (fun t => Host.Outcome.next (State.settle t)) (if_pos (h.imp_right fun ⟨ho, hbad⟩ => ?_))
  rw [ho]
  rcases hbad with hj | hb
  · simp [hj]
  · simp [hb]

theorem exec_tokenRelease_owned (hi : i ≠ 0) (ho : (s.token (k * 1024 + i)).owner = some job) :
    exec (.tokenRelease k i) s = .next (if s.mayRelease job then s.putToken (k * 1024 + i) Token.reset
      else s.raise Flg.SKEIN_EVT_TOKEN_REFUSED k) := by
  show execTokenRelease k i s = _
  rw [execTokenRelease, State.host_up _ hs, State.releaseToken]
  rw [ho]
  dsimp only
  simp only [ne_eq, hi, not_false_eq_true, true_and, State.tokenRefused]

theorem exec_tokenRelease_unowned (ho : (s.token (k * 1024 + i)).owner = none) :
    exec (.tokenRelease k i) s = .next (s.raise Flg.SKEIN_EVT_TOKEN_REFUSED k) := by
  show execTokenRelease k i s = _
  rw [execTokenRelease, State.host_up _ hs, State.releaseToken]
  rw [ho]
  rfl

theorem exec_releaseTokens_refused (h : s.mayRelease job = false) :
    exec (.releaseTokens job) s = .next (s.raise Flg.RING_EVT_CFG_REFUSED 0) := by
  show execReleaseTokens job s = _
  rw [execReleaseTokens, State.host_up _ hs]
  exact congrArg _ (if_neg (by simp [h]))

theorem exec_releaseTokens_released (h : s.mayRelease job = true) : exec (.releaseTokens job) s =
    .next (s.forEach (s.ownedTokens job) (fun t id => t.putToken id Token.reset)) := by
  show execReleaseTokens job s = _
  rw [execReleaseTokens, State.host_up _ hs]
  exact congrArg _ (if_pos h)

end

/-- Tokens reset one after another: those listed are reset, and nothing else changes. -/
theorem State.forEach_resetTokens (s : State) (l : List Nat) :
    ∃ t, s.forEach l (fun t id => t.putToken id Token.reset) = t ∧ t = { s with tokens := t.tokens } ∧
      ∀ id, t.token id = if id ∈ l then Token.reset else s.token id := by
  induction l generalizing s with
  | nil => exact ⟨s, rfl, rfl, fun id => by simp⟩
  | cons a rest ih =>
    obtain ⟨t, hrun, hframe, htoken⟩ := ih (s.putToken a Token.reset)
    refine ⟨t, hrun, hframe, fun id => ?_⟩
    rw [htoken, State.token_putToken]
    by_cases hrest : id ∈ rest <;> by_cases ha : id = a <;> simp [hrest, ha]

/-- Settles O24: an assignment and a release by the token's owner, and the release of a job by whether it may. -/
theorem tokensAssignedAndReleased : Obligations.TokensAssignedAndReleased := by
  unfold Obligations.TokensAssignedAndReleased
  refine ⟨fun s k i job n target level hs hf hi ho hw => exec_tokenAssign_arms hs n target level hf hi ho hw,
    fun s k i job n target j level hs h => exec_tokenAssign_refused hs n target level h,
    fun s k i job hs hi ho => exec_tokenRelease_owned hs hi ho, fun s k i hs ho => exec_tokenRelease_unowned hs ho,
    fun s job hs h => exec_releaseTokens_refused hs h, fun s job hs h => ?_⟩
  obtain ⟨t, hrun, hframe, htoken⟩ := s.forEach_resetTokens (s.ownedTokens job)
  exact ⟨t, (exec_releaseTokens_released hs h).trans (congrArg _ hrun), hframe, htoken⟩

end Sys2Proof.Machine
end

section
/-! SUPPORT. The integer slots of a bundle: the scalar register that a slot's write leaves, by the opcode. -/

namespace Sys2Proof.Machine

/-! ## Scalar registers after a bundle's writes (R67) -/

theorem CoreRegs.gr_setG (r : CoreRegs) {n : Nat} (v : Nat) (h : n ≠ 0) : (r.setG n v).gr n = v % 2 ^ 64 := by
  rw [CoreRegs.gr, if_neg h, CoreRegs.setG, if_neg h]
  exact (congrArg BitVec.toNat ((Sparse.get_put _ _ _ _ _).trans (if_pos rfl))).trans (BitVec.toNat_ofNat _ _)

theorem CoreRegs.setP_g (r : CoreRegs) (n : Nat) (b : Bool) : (r.setP n b).g = r.g := by
  unfold CoreRegs.setP
  split <;> rfl

theorem CoreRegs.foldl_setP_g (l : List (Nat × Bool)) (r : CoreRegs) :
    (l.foldl (fun r p => r.setP p.1 p.2) r).g = r.g := by
  induction l generalizing r with
  | nil => rfl
  | cons p rest ih => exact (ih _).trans (r.setP_g _ _)

theorem CoreRegs.foldl_setV_g (l : List (Nat × Nat)) (r : CoreRegs) :
    (l.foldl (fun r p => r.setV p.1 p.2) r).g = r.g := by
  induction l generalizing r with
  | nil => rfl
  | cons p rest ih => exact ih _

/-- The scalar registers take the scalar writes, whatever else lands with them. -/
theorem CoreRegs.land_g (r : CoreRegs) (x : Writes) (g : List (Nat × Nat)) :
    (r.land x g).g = ((x.g ++ g).foldl (fun r p => r.setG p.1 p.2) r).g := by
  unfold CoreRegs.land
  dsimp only
  split <;> exact (CoreRegs.foldl_setV_g _ _).trans (CoreRegs.foldl_setP_g _ _)

/-- A slot whose one scalar write is that of n leaves its value there. -/
theorem CoreRegs.gr_land (r : CoreRegs) {x : Writes} {n v : Nat} (hn : n ≠ 0) (hx : x.g = [(n, v)]) :
    (r.land x []).gr n = v % 2 ^ 64 := by
  rw [CoreRegs.gr, CoreRegs.land_g, hx]
  exact r.gr_setG v hn

/-! ## The opcodes (Table 3.4) -/

section
variable {s : State} {k q job v : Nat} {r : CoreRegs} {a b : BitVec 64} (hd : bitsOf v 47 5 ≠ 0)
  (himm : bitsOf v 36 1 = 0) (ha : r.gr (bitsOf v 42 5) = a.toNat) (hb : r.gr (bitsOf v 37 5) = b.toNat)
include hd

/-- A slot whose write is a 64-bit word leaves that word. -/
theorem State.gr_land_intSlot {o : IntOp} {y : BitVec 64} {x : Nat}
    (hg : (s.intSlot k q job r v o).g = [(bitsOf v 47 5, x % 2 ^ 64)]) (hx : x % 2 ^ 64 = y.toNat) :
    (r.land (s.intSlot k q job r v o) []).gr (bitsOf v 47 5) = y.toNat := by
  rw [r.gr_land hd hg, Nat.mod_mod, hx]

include himm ha hb

theorem State.gr_land_add : (r.land (s.intSlot k q job r v .add) []).gr (bitsOf v 47 5) = (a + b).toNat :=
  State.gr_land_intSlot hd (x := a.toNat + b.toNat) (by simp [State.intSlot, wG, himm, ha, hb])
    (BitVec.toNat_add a b).symm

theorem State.gr_land_sub : (r.land (s.intSlot k q job r v .sub) []).gr (bitsOf v 47 5) = (a - b).toNat := by
  refine State.gr_land_intSlot hd (x := a.toNat + 2 ^ 64 - b.toNat) (by simp [State.intSlot, wG, himm, ha, hb]) ?_
  rw [BitVec.toNat_sub]
  omega

theorem State.gr_land_mul : (r.land (s.intSlot k q job r v .mul) []).gr (bitsOf v 47 5) = (a * b).toNat :=
  State.gr_land_intSlot hd (x := a.toNat * b.toNat) (by simp [State.intSlot, wG, himm, ha, hb])
    (BitVec.toNat_mul a b).symm

theorem State.gr_land_and : (r.land (s.intSlot k q job r v .and) []).gr (bitsOf v 47 5) = (a &&& b).toNat :=
  State.gr_land_intSlot hd (x := (a &&& b).toNat) (by simp [State.intSlot, wG, himm, ha, hb])
    (Nat.mod_eq_of_lt (BitVec.isLt _))

theorem State.gr_land_or : (r.land (s.intSlot k q job r v .or) []).gr (bitsOf v 47 5) = (a ||| b).toNat :=
  State.gr_land_intSlot hd (x := (a ||| b).toNat) (by simp [State.intSlot, wG, himm, ha, hb])
    (Nat.mod_eq_of_lt (BitVec.isLt _))

theorem State.gr_land_xor : (r.land (s.intSlot k q job r v .xor) []).gr (bitsOf v 47 5) = (a ^^^ b).toNat :=
  State.gr_land_intSlot hd (x := (a ^^^ b).toNat) (by simp [State.intSlot, wG, himm, ha, hb])
    (Nat.mod_eq_of_lt (BitVec.isLt _))

theorem State.gr_land_shl :
    (r.land (s.intSlot k q job r v .shl) []).gr (bitsOf v 47 5) = (a <<< (b.toNat % 64)).toNat := by
  refine State.gr_land_intSlot hd (x := a.toNat * 2 ^ (b.toNat % 64)) (by simp [State.intSlot, wG, himm, ha, hb]) ?_
  rw [BitVec.toNat_shiftLeft, Nat.shiftLeft_eq]

theorem State.gr_land_shr :
    (r.land (s.intSlot k q job r v .shr) []).gr (bitsOf v 47 5) = (a >>> (b.toNat % 64)).toNat := by
  refine State.gr_land_intSlot hd (x := (a >>> (b.toNat % 64)).toNat) ?_ (Nat.mod_eq_of_lt (BitVec.isLt _))
  simp [State.intSlot, wG, himm, ha, hb, Nat.shiftRight_eq_div_pow]

/-- Division by zero gives all ones and sets DIVZ, and its remainder is the dividend. -/
theorem State.gr_land_div_zero (hz : b = 0) :
    (r.land (s.intSlot k q job r v .div) []).gr (bitsOf v 47 5) = 2 ^ 64 - 1 ∧
      (r.land (s.intSlot k q job r v .div) []).divz = true ∧
      (r.land (s.intSlot k q job r v .rem) []).gr (bitsOf v 47 5) = a.toNat := by
  have hb0 : r.gr (bitsOf v 37 5) = 0 := by rw [hb, hz]; rfl
  refine ⟨State.gr_land_intSlot hd (y := BitVec.allOnes 64) (x := 2 ^ 64 - 1) ?_ rfl, ?_,
    State.gr_land_intSlot hd (x := a.toNat) ?_ (Nat.mod_eq_of_lt a.isLt)⟩
  · simp [State.intSlot, wG, divide, himm, hb0]
  · simp [CoreRegs.land, State.intSlot, himm, hb0]
  · simp [State.intSlot, wG, remainder, himm, ha, hb0]

end

/-- Settles O21: one lemma for each opcode. -/
theorem integerSlotArithmetic : Obligations.IntegerSlotArithmetic := by
  unfold Obligations.IntegerSlotArithmetic
  intro s k q job r v a b hd himm ha hb
  exact ⟨State.gr_land_add hd himm ha hb, State.gr_land_sub hd himm ha hb, State.gr_land_mul hd himm ha hb,
    State.gr_land_and hd himm ha hb, State.gr_land_or hd himm ha hb, State.gr_land_xor hd himm ha hb,
    State.gr_land_shl hd himm ha hb, State.gr_land_shr hd himm ha hb, State.gr_land_div_zero hd himm ha hb⟩

end Sys2Proof.Machine
end

section
/-! SUPPORT. The bundle of a core: whether it traps, stalls or completes, and which cores take none. -/

namespace Sys2Proof.Machine

/-! ## What a bundle waits for (R70) -/

/-- Whether a bundle cannot complete yet: its wait is not granted, its fence is open, or a queue has no room. -/
def State.bundleWaits (s : State) (k q : Nat) (b : Branch) (is : List IssueSlot) : Bool :=
  (match b.wait with
    | some id => !tokenNull id && !(s.core k q).waitGranted
    | none => false) || s.fenceOpen k q b.fence || !is.all (s.issueRoom (s.core k q).job)

theorem State.bundleWaits_iff {s : State} {k q : Nat} {b : Branch} {is : List IssueSlot} :
    s.bundleWaits k q b is = true ↔
    (∃ id, b.wait = some id ∧ tokenNull id = false ∧ (s.core k q).waitGranted = false) ∨
      s.fenceOpen k q b.fence = true ∨ ∃ x ∈ is, s.issueRoom (s.core k q).job x = false := by
  cases hwait : b.wait <;> simp [State.bundleWaits, hwait, or_assoc]

/-! ## A bundle that a core runs (R67, R70, R72, R73) -/

section
variable {s : State} {k q w : Nat} {a : Writes × Option RowUse} {b : Branch} {is : List IssueSlot}
  (hw : w = s.bundleAt k q) (ha : a = s.slotWrites k q (s.core k q).job (s.core k q).regs w)
  (hb : b = branchOf (s.core k q) (s.mayWait (s.core k q).job) w)
  (his : is = (s.landDmem k q a.1.dmem).issueSlots k q (s.core k q).job (s.core k q).regs w)
include hw

theorem State.trapOf_static {cause : Nat} (h : staticTrap w = some cause) : s.trapOf k q = some (cause, 0) := by
  rw [State.trapOf, ← hw, h]

include ha hb his

theorem State.trapOf_slots (h : staticTrap w = none) : s.trapOf k q =
    bundleTrap a.1.trap b.trap (is.findSome? (s.issueTrap (s.core k q).job)) := by
  rw [State.trapOf, ← hw, h, his, hb, ha]

theorem State.runBundle_untrapped (uid : Nat) (h : s.trapOf k q = none) : s.runBundle k q uid =
    if s.bundleWaits k q b is then s.putCore k q { s.core k q with state := .stalled }
    else (s.landBundle k q uid a.1 a.2 b is).settle := by
  rw [State.runBundle, h, his, hb, ha, hw]
  rfl

end

theorem State.runBundle_trapped {s : State} {k q cause code : Nat} (uid : Nat) (h : s.trapOf k q = some (cause, code)) :
    s.runBundle k q uid = s.coreTrap k q cause code := by
  rw [State.runBundle, h]

/-! ## Which cores take a bundle (R67, R70, R541) -/

section
variable {s : State} {k q : Nat}

theorem exec_bundle_taken (h : (s.core k q).state = .run ∨ s.coreCut k q = true) (hh : s.coreHalted k q = false) :
    exec (.bundle k q) s = .next (s.takeBundle k q) := congrArg _ (if_pos ⟨h, by simp [hh]⟩)

theorem exec_bundleResume_taken (h : (s.core k q).state = .stalled) (hh : s.coreHalted k q = false) :
    exec (.bundleResume k q) s = .next (s.takeBundle k q) := congrArg _ (if_pos ⟨h, by simp [hh]⟩)

theorem exec_bundle_none (h : ((s.core k q).state ≠ .run ∧ s.coreCut k q = false) ∨ s.coreHalted k q = true) :
    exec (.bundle k q) s = .next s := by
  refine congrArg _ (if_neg fun ⟨ht, hh⟩ => ?_)
  rcases h with ⟨hrun, hcut⟩ | hhalted
  · exact ht.elim hrun (by simp [hcut])
  · exact hh hhalted

theorem exec_bundleResume_none (h : (s.core k q).state ≠ .stalled ∨ s.coreHalted k q = true) :
    exec (.bundleResume k q) s = .next s :=
  congrArg _ (if_neg fun ⟨ht, hh⟩ => h.elim (fun hst => hst ht) hh)

theorem State.takeBundle_runs {uid : Nat} (h : s.coreRuns k q = some uid) : s.takeBundle k q = s.runBundle k q uid := by
  rw [State.takeBundle, h]

theorem State.takeBundle_none (h : s.coreRuns k q = none) (hc : s.coreCut k q = false) : s.takeBundle k q = s := by
  rw [State.takeBundle, h]
  exact if_neg (by simp [hc])

/-- A core whose program an abort of this beat has cut short traps where its bundle does. -/
theorem State.takeBundle_cut (h : s.coreRuns k q = none) (hc : s.coreCut k q = true) :
    s.takeBundle k q = match s.trapOf k q with
      | some p => s.coreTrap k q p.1 p.2
      | none => s := by
  rw [State.takeBundle, h]
  exact if_pos hc

/-- A core that runs nothing takes no bundle of either command. -/
theorem exec_bundle_idle (h : s.coreRuns k q = none) (hc : s.coreCut k q = false) :
    exec (.bundle k q) s = .next s ∧ exec (.bundleResume k q) s = .next s := by
  have hnone := State.takeBundle_none h hc
  constructor <;>
    · show Host.Outcome.next (if _ then s.takeBundle k q else s) = _
      rw [hnone, ite_self]

theorem State.coreRuns_unserved (h : s.serving = false) : s.coreRuns k q = none := by
  unfold State.coreRuns
  split
  · exact if_neg (by simp [h])
  · rfl

end

/-- Settles O20: a bundle that is taken by its trap and by what it waits for, and a core that takes none by its state. -/
theorem spindleBundles : Obligations.SpindleBundles := by
  unfold Obligations.SpindleBundles
  refine ⟨fun s k q uid w a b is hr hh hw ha hb his c hc => ?_,
    fun s k q => ⟨fun hrun hcut => exec_bundle_none (.inl ⟨hrun, hcut⟩),
      fun hst => exec_bundleResume_none (.inl hst), fun hh => ⟨exec_bundle_none (.inr hh), exec_bundleResume_none (.inr hh)⟩,
      fun hr hcut => exec_bundle_idle hr hcut, State.coreRuns_unserved, fun hr hcut hh => ?_⟩⟩
  · have hexec : exec c s = .next (s.runBundle k q uid) := by
      rw [← State.takeBundle_runs hr]
      rcases hc with ⟨rfl, hst⟩ | ⟨rfl, hst⟩
      · exact exec_bundle_taken (.inl hst) hh
      · exact exec_bundleResume_taken hst hh
    have hslots := State.trapOf_slots hw ha hb his
    have hrun := State.runBundle_untrapped hw ha hb his uid
    refine ⟨fun cause h => ?_, fun cause code hs h => ?_,
      fun hs h => ⟨fun hwait => ?_, fun hwait hfence hroom => ?_⟩⟩
    · rw [hexec, State.runBundle_trapped uid (State.trapOf_static hw h)]
    · rw [hexec, State.runBundle_trapped uid ((hslots hs).trans h)]
    · rw [hexec, hrun ((hslots hs).trans h), if_pos (State.bundleWaits_iff.mpr hwait)]
    · rw [hexec, hrun ((hslots hs).trans h), if_neg fun hno => ?_]
      rcases State.bundleWaits_iff.mp hno with ⟨id, hid, hnull, hgrant⟩ | hopen | ⟨x, hx, hfull⟩
      · exact (hwait id hid).elim (by simp [hnull]) (by simp [hgrant])
      · simp [hfence] at hopen
      · simp [hroom x hx] at hfull
  · exact (exec_bundle_taken (.inr hcut) hh).trans (congrArg _ (State.takeBundle_cut hr hcut))

end Sys2Proof.Machine
end

section
/-! SUPPORT. PROG, with a load and without, and the actions of the debugger. -/

namespace Sys2Proof.Machine

/-! ## The load of a tile (R523, R529) -/

theorem State.tileLoad_noRows (s : State) (c : Cmd) {x : Image} (h : x.bobbinRows = []) : s.tileLoad c x = s := by
  simp [State.tileLoad, h]

theorem State.tileLoad_rows (s : State) (c : Cmd) {x : Image} (h : x.bobbinRows ≠ []) : s.tileLoad c x =
    (s.enrol c).modCmd c.uid (fun c => { c with digest := rowsDigest x.bobbinRows }) :=
  if_pos (by simpa using h)

/-! ## PROG (R98, R100 to R102) -/

section
variable {s : State} {uid k q : Nat} {c : Cmd} (hc : s.runningCmd uid 0x0A = some c) (he : c.engine = .prog k q)
include hc he

theorem exec_prog_running (h : (s.core k q).prog ≠ none) : exec (.prog uid) s = .next s := by
  show execProg uid s = _
  rw [execProg, hc]
  dsimp only
  rw [he]
  exact congrArg _ (if_pos (Option.isSome_iff_ne_none.mpr h))

variable (hp : (s.core k q).prog = none)
include hp

theorem exec_prog_starts : exec (.prog uid) s = .next (if (Prog.ofBytes c.desc).load
    then s.loadProgram c k q (Prog.ofBytes c.desc) else s.runResident c k q (Prog.ofBytes c.desc)).settle := by
  show execProg uid s = _
  rw [execProg, hc]
  dsimp only
  rw [he]
  exact congrArg _ (if_neg (by simp [hp]))

theorem exec_prog_loads (hl : (Prog.ofBytes c.desc).load = true) :
    exec (.prog uid) s = .next (s.loadProgram c k q (Prog.ofBytes c.desc)).settle := by
  rw [exec_prog_starts hc he hp, if_pos hl]

theorem exec_prog_enters (hl : (Prog.ofBytes c.desc).load = false) :
    exec (.prog uid) s = .next (s.runResident c k q (Prog.ofBytes c.desc)).settle := by
  rw [exec_prog_starts hc he hp, if_neg (by simp [hl])]

end

section
variable {s : State} {c : Cmd} {k q : Nat} {p : Prog}

theorem State.loadProgram_unread (h : s.readImage p.image = none) : s.loadProgram c k q p = s.finish c.uid 0x0102 0 := by
  rw [State.loadProgram, h]

/-- An image that has been read is refused, or placed, and then started where placing it met no race. -/
theorem State.loadProgram_read {x : Image} (h : s.readImage p.image = some x) : s.loadProgram c k q p =
    if s.loadOk c k q p x = false then s.finish c.uid 0x0102 0
    else if ((s.tileLoad c x).placeImage c k q x).2 = 0 then
      ((s.tileLoad c x).placeImage c k q x).1.startProgram c k q p (x.resident c.job)
    else ((s.tileLoad c x).placeImage c k q x).1.finish c.uid ((s.tileLoad c x).placeImage c k q x).2 0 := by
  rw [State.loadProgram, h]
  dsimp only
  cases s.loadOk c k q p x with
  | false => rfl
  | true => exact ite_not _ _ _

theorem State.runResident_none (h : s.residentsOf k q = []) : s.runResident c k q p = s.finish c.uid 0x0102 0 := by
  rw [State.runResident, h]
  rfl

/-- The one resident image of the job that holds ENTRY and fits its twist is started. -/
theorem State.runResident_one {r : Resident} (h : s.residentsOf k q = [r]) (hj : r.job = c.job)
    (hlo : r.imemBase ≤ p.entry) (hhi : p.entry < r.imemBase + r.imemLen)
    (ht : r.fixedOnly = true → s.fixedTwist c.job = true) : s.runResident c k q p = s.startProgram c k q p r := by
  have hfits : s.twistFits c.job r.fixedOnly = true := by
    cases hr : r.fixedOnly with
    | false => rfl
    | true => exact ht hr
  have hfind : [r].find? (fun r => r.job == c.job && decide (r.imemBase ≤ p.entry) &&
      decide (p.entry < r.imemBase + r.imemLen)) = some r := List.find?_cons_of_pos (by simp [hj, hlo, hhi])
  rw [State.runResident, h, hfind]
  exact if_pos hfits

theorem State.startProgram_opens {r : Resident} {t : State} (h : s.openWindows k true r.windows = some t) :
    s.startProgram c k q p r = t.putCore k q { t.core k q with
      state := .run, pc := p.entry, job := c.job, regs := ((t.core k q).regs.setG 1 p.arg1).setG 2 p.arg2
      prog := some c.uid, imemBase := r.imemBase, imemLen := r.imemLen, waitReg := false, waitGranted := false
      cut := none } := by
  rw [State.startProgram, h]

end

/-! ## The memories of the Selvedge cores (R515, R541) -/

/-- What a byte of either memory, or beyond both, reads after a write that lies within them. -/
theorem State.read_selvedgeWrite (s : State) (a x : Nat) (bs : List Byte) : Mem.read (s.selvedgeWrite a bs).mem x =
    if Mem.selvedge 1 a ≤ x ∧ x < Mem.selvedge 1 a + bs.length then bs.getD (x - Mem.selvedge 1 a) 0
    else if Mem.selvedge 0 a ≤ x ∧ x < Mem.selvedge 0 a + bs.length then bs.getD (x - Mem.selvedge 0 a) 0
    else Mem.read s.mem x := by
  rw [State.selvedgeWrite, State.read_store, State.read_store]

section
variable (s : State) {a : Nat} {bs : List Byte}

theorem State.read_selvedgeWrite_main {i : Nat} (hi : i < 2 ^ 19) :
    Mem.read (s.selvedgeWrite a bs).mem (Mem.selvedge 0 i) =
      if a ≤ i ∧ i < a + bs.length then bs.getD (i - a) 0 else Mem.read s.mem (Mem.selvedge 0 i) := by
  have hother : ¬ (Mem.selvedge 1 a ≤ Mem.selvedge 0 i ∧ Mem.selvedge 0 i < Mem.selvedge 1 a + bs.length) := by
    simp only [Mem.selvedge]; omega
  have hin : (Mem.selvedge 0 a ≤ Mem.selvedge 0 i ∧ Mem.selvedge 0 i < Mem.selvedge 0 a + bs.length) ↔
      (a ≤ i ∧ i < a + bs.length) := by simp only [Mem.selvedge]; omega
  have hplace : Mem.selvedge 0 i - Mem.selvedge 0 a = i - a := by simp only [Mem.selvedge]; omega
  rw [State.read_selvedgeWrite, if_neg hother, hplace]
  simp only [hin]

variable (h : a + bs.length ≤ 2 ^ 19)
include h

theorem State.read_selvedgeWrite_checker (i : Nat) :
    Mem.read (s.selvedgeWrite a bs).mem (Mem.selvedge 1 i) =
      if a ≤ i ∧ i < a + bs.length then bs.getD (i - a) 0 else Mem.read s.mem (Mem.selvedge 1 i) := by
  have hother : ¬ (Mem.selvedge 0 a ≤ Mem.selvedge 1 i ∧ Mem.selvedge 1 i < Mem.selvedge 0 a + bs.length) := by
    simp only [Mem.selvedge]; omega
  have hin : (Mem.selvedge 1 a ≤ Mem.selvedge 1 i ∧ Mem.selvedge 1 i < Mem.selvedge 1 a + bs.length) ↔
      (a ≤ i ∧ i < a + bs.length) := by simp only [Mem.selvedge]; omega
  have hplace : Mem.selvedge 1 i - Mem.selvedge 1 a = i - a := by simp only [Mem.selvedge]; omega
  rw [State.read_selvedgeWrite, if_neg hother, hplace]
  simp only [hin]

/-- A write within the memories touches nothing beyond them. -/
theorem State.read_selvedgeWrite_beyond {x : Nat} (hx : x < Mem.selvedge 0 0 ∨ Mem.selvedge 1 (2 ^ 19) ≤ x) :
    Mem.read (s.selvedgeWrite a bs).mem x = Mem.read s.mem x := by
  simp only [Mem.selvedge] at hx
  rw [State.read_selvedgeWrite, if_neg (by simp only [Mem.selvedge]; omega), if_neg (by simp only [Mem.selvedge]; omega)]

end

/-! ## The debugger (R541, R573) -/

/-- The debugger has halted other targets than before, and nothing else is different. -/
def State.withHalted (s : State) (l : List Nat) : State := { s with selv := { s.selv with halted := l } }

section
variable {s : State}

theorem exec_debugger_locked (target : Option (Nat × Nat)) (a : DebugAction)
    (h : s.isSet Fld.SEC_STATUS_DEBUG_LOCKED 0 = true) :
    exec (.debuggerHaltStep target a) s = .next (s.tamper (if s.sensorActive 3 then [3] else [])) := by
  have hsensors : [3].filter s.sensorActive = if s.sensorActive 3 then [3] else [] := by
    cases hs : s.sensorActive 3 <;> simp [hs]
  exact congrArg _ ((if_pos h).trans (congrArg s.tamper hsensors))

variable (h : s.isSet Fld.SEC_STATUS_DEBUG_LOCKED 0 = false)
include h

theorem exec_debugger_selvedge (a : DebugAction) :
    exec (.debuggerHaltStep none a) s = .next (s.selvedgeAct a) := congrArg _ (if_neg (by simp [h]))

/-- A step of the halted Selvedge leaves eight free bytes at a free place of both memories. -/
theorem exec_debugger_selvedgeStep (hon : s.selv.on = true) (hh : 128 ∈ s.selv.halted) :
    ∃ a bs, a + bs.length ≤ 2 ^ 19 ∧ exec (.debuggerHaltStep none .step) s = .next
      (State.selvedgeWrite { s with
        freeCount := s.freeCount + 2
        selv := { s.selv with stepped := (s.selv.stepped.1 + 1, s.selv.stepped.2 + 1) } } a bs) := by
  refine ⟨8 * ((Config.freeWord s.freeCount).toNat % 65536), leBytes 8 (Config.freeWord (s.freeCount + 1)).toNat, ?_,
    (exec_debugger_selvedge h .step).trans (congrArg _ (if_neg (by simp [hon, hh])))⟩
  simp only [leBytes, List.length_cons, List.length_nil]
  omega

theorem exec_debugger_selvedgeWord {a : Nat} (v : Nat) (ha : a < 2 ^ 19) (h4 : a % 4 = 0) :
    exec (.debuggerHaltStep none (.read a)) s = .next
      { s with selv := { s.selv with debugRead := leNat (s.load (Mem.selvedge 0 a) 4) } } ∧
    exec (.debuggerHaltStep none (.write a v)) s = .next (s.selvedgeWrite a (leBytes 4 v)) := by
  have hword : a % 524288 / 4 * 4 = a := by omega
  rw [exec_debugger_selvedge h, exec_debugger_selvedge h, State.selvedgeAct, State.selvedgeAct, hword]
  exact ⟨rfl, rfl⟩

theorem exec_debugger_checker {k : Nat} (q : Nat) (a : DebugAction)
    (hk : (s.pairOfHank Fld.SELV_PAIR_CFG_CHECK_HANK k).isSome = true) :
    exec (.debuggerHaltStep (some (k, q)) a) s = .next s :=
  congrArg _ ((if_neg (by simp [h])).trans (if_pos hk))

end

/-! ### A core of no pair -/

section
variable {s : State} (hv : ∀ p, p < 4 → s.isSet Fld.SELV_PAIR_CFG_VALID p = false)
include hv

theorem State.pairOfHank_none (f : Field) (k : Nat) : s.pairOfHank f k = none :=
  List.find?_eq_none.mpr fun p hp => by simp [hv p (List.mem_range.mp hp)]

/-- Without a valid pair a halt stops no wait. -/
theorem State.forEach_stopWaits (old : State) {l : List Nat} (hl : ∀ p ∈ l, p < 4) :
    s.forEach l (State.stopWaits old) = s := by
  induction l with
  | nil => rfl
  | cons p rest ih =>
    have hp : old.stopWaits s p = s := if_pos (by simp [hv p (hl p (by simp))])
    rw [State.forEach, hp]
    exact ih fun p hmem => hl p (by simp [hmem])

variable {k q : Nat} (h : s.isSet Fld.SEC_STATUS_DEBUG_LOCKED 0 = false)
include h

/-- An action on a core of no pair reaches that core alone. -/
theorem exec_debugger_core (a : DebugAction) : exec (.debuggerHaltStep (some (k, q)) a) s =
    .next ((s.debugAct [(k, q)] a).forEach (List.range 4) (State.stopWaits s)) := by
  have hmain := s.pairOfHank_none hv Fld.SELV_PAIR_CFG_MAIN_HANK k
  have hcores : s.debugCores k q = [(k, q)] := by rw [State.debugCores, hmain]
  show execDebuggerHaltStep (some (k, q)) a s = _
  rw [execDebuggerHaltStep.eq_def, if_neg (by simp [h])]
  dsimp only
  rw [if_neg (by simp [s.pairOfHank_none hv]), hmain, hcores]

/-- A change of what is halted stops no wait of such a core either. -/
theorem exec_debugger_coreHalts {a : DebugAction} {l : List Nat} (ha : s.debugAct [(k, q)] a = s.withHalted l) :
    exec (.debuggerHaltStep (some (k, q)) a) s = .next (s.withHalted l) := by
  rw [exec_debugger_core hv h, ha]
  exact congrArg _ (State.forEach_stopWaits (s := s.withHalted l) hv s fun p hp => List.mem_range.mp hp)

theorem exec_debugger_coreStep (hh : s.coreHalted k q = true) : exec (.debuggerHaltStep (some (k, q)) .step) s =
    .next ((s.takeBundle k q).forEach (List.range 4) (State.stopWaits s)) := by
  have hstep : s.debugAct [(k, q)] .step = s.takeBundle k q := if_pos hh
  rw [exec_debugger_core hv h, hstep]

theorem exec_debugger_coreStep_running (hh : s.coreHalted k q = false) :
    exec (.debuggerHaltStep (some (k, q)) .step) s = .next s := by
  have hstep : s.debugAct [(k, q)] .step = s := if_neg (by simp [hh])
  rw [exec_debugger_core hv h, hstep, State.forEach_stopWaits hv s fun p hp => List.mem_range.mp hp]

end

/-- Settles O22: a PROG by what it loads or finds resident, and an action of the debugger by its target. -/
theorem programsAndDebugger : Obligations.ProgramsAndDebugger := by
  unfold Obligations.ProgramsAndDebugger
  refine ⟨fun s uid k q c hc he => ⟨fun x => ⟨s.tileLoad_noRows c, s.tileLoad_rows c⟩, exec_prog_running hc he,
      fun hp hl => ?_, fun hp hl hr => ?_, fun r t hp hl hr hj hlo hhi hf ht => ?_⟩,
    fun s target a h => exec_debugger_locked target a h,
    fun s h => ⟨s.withHalted _, exec_debugger_selvedge h .halt, rfl, by simp [State.withHalted],
      fun n hn => by simp [State.withHalted, hn]⟩,
    fun s h => ⟨s.withHalted _, exec_debugger_selvedge h .resume, rfl, by simp [State.withHalted],
      fun n hn => by simp [State.withHalted, hn]⟩,
    fun s h hon hh => exec_debugger_selvedgeStep h hon hh, fun s a v h ha h4 => exec_debugger_selvedgeWord h v ha h4,
    fun s t a bs hfit ht hsame => ?_,
    fun s k q h hv => ⟨⟨s.withHalted _, exec_debugger_coreHalts hv h rfl, rfl,
        by simp [State.withHalted, State.coreHalted], fun n hn => by simp [State.withHalted, hn]⟩,
      ⟨s.withHalted _, exec_debugger_coreHalts hv h rfl, rfl,
        by simp [State.withHalted, State.coreHalted], fun n hn => by simp [State.withHalted, hn]⟩,
      exec_debugger_coreStep hv h, exec_debugger_coreStep_running hv h⟩,
    fun s k q a h hk => exec_debugger_checker h q a hk⟩
  · -- PROG with LOAD
    obtain rfl := State.uid_of_runningCmd hc
    rw [exec_prog_loads hc he hp hl]
    cases hx : s.readImage (Prog.ofBytes c.desc).image with
    | none => rw [State.loadProgram_unread hx]
    | some x =>
      rw [State.loadProgram_read hx]
      dsimp only
      split
      · rfl
      · split <;> rfl
  · -- no resident image
    obtain rfl := State.uid_of_runningCmd hc
    rw [exec_prog_enters hc he hp hl, State.runResident_none hr]
  · -- one resident image
    obtain rfl := State.uid_of_runningCmd hc
    rw [exec_prog_enters hc he hp hl, State.runResident_one hr hj hlo hhi hf, State.startProgram_opens ht]
  · -- a write of both memories
    subst ht
    refine ⟨fun i hi => ?_, fun x hx => State.read_selvedgeWrite_beyond s hfit hx⟩
    rw [State.read_selvedgeWrite_main s hi, State.read_selvedgeWrite_checker s hfit, hsame i hi]

end Sys2Proof.Machine
end

section
/-! SUPPORT. The commands of the ring engine, and what the end of a command's work changes. -/

namespace Sys2Proof.Machine

section
variable {s : State} {uid : Nat} {c : Cmd}

/-! ## WAIT (R98) -/

theorem exec_wait_registers (hc : s.runningCmd uid 0x0B = some c) (hr : c.registered = false) :
    exec (.wait uid) s = .next (if c.field 32 8 ≠ 0 ∧ c.field 32 8 < s.now then s.finish uid 0x0402 0
      else ((s.modCmd uid (fun c => { c with registered := true })).register (c.field 24 2) (.cmd uid)).settle) := by
  show execWait uid s = _
  rw [execWait, hc]
  exact congrArg _ (if_neg (by simp [hr]))

theorem exec_waitDeadline_passed (hc : s.runningCmd uid 0x0B = some c) (hr : c.registered = true)
    (hd : c.field 32 8 ≠ 0) (h : c.field 32 8 ≤ s.now) :
    exec (.waitDeadline uid) s = .next ((s.withdraw (.cmd uid)).finish uid 0x0402 0) := by
  show execWaitDeadline uid s = _
  rw [execWaitDeadline, hc]
  exact congrArg _ (if_pos ⟨hr, hd, h⟩)

theorem exec_waitDeadline_early (hc : s.runningCmd uid 0x0B = some c) (h : s.now < c.field 32 8) :
    exec (.waitDeadline uid) s = .next s := by
  show execWaitDeadline uid s = _
  rw [execWaitDeadline, hc]
  exact congrArg _ (if_neg fun ⟨_, _, hpassed⟩ => Nat.not_le.mpr h hpassed)

/-! ## SIGNAL and FENCE (R89, R98) -/

theorem exec_signal_sends (hc : s.runningCmd uid 0x0C = some c) :
    exec (.signal uid) s = .next ((s.signal (c.field 24 2) (c.field 26 2)).finish uid 0 0) := by
  show execSignal uid s = _
  rw [execSignal, hc]

theorem exec_fence_over (hc : s.runningCmd uid 0x0D = some c) (h : ∀ u ∈ c.awaits, s.cmd? u = none) :
    exec (.fenceDescriptor uid) s = .next (s.finish uid 0 0) := by
  have hnone : c.awaits.any (fun u => (s.cmd? u).isSome) = false :=
    List.any_eq_false.mpr fun u hu => by simp [h u hu]
  show execFenceDescriptor uid s = _
  rw [execFenceDescriptor, hc]
  exact congrArg _ (if_neg (by simp [hnone]))

theorem exec_fence_open (hc : s.runningCmd uid 0x0D = some c) (h : ∃ u ∈ c.awaits, s.cmd? u ≠ none) :
    exec (.fenceDescriptor uid) s = .next s := by
  obtain ⟨u, hu, hne⟩ := h
  have hsome : c.awaits.any (fun u => (s.cmd? u).isSome) = true :=
    List.any_eq_true.mpr ⟨u, hu, Option.isSome_iff_ne_none.mpr hne⟩
  show execFenceDescriptor uid s = _
  rw [execFenceDescriptor, hc]
  exact congrArg _ (if_pos hsome)

/-! ## The end of a command's work (R89) -/

theorem State.cmd?_finish_same (status result : Nat) (hc : s.cmd? uid = some c) :
    (s.finish uid status result).cmd? uid = some (s.ending c status result) :=
  State.cmd?_modCmd_same (fun _ => rfl) hc

theorem State.cmd?_finish_other (s : State) {u : Nat} (status result : Nat) (h : u ≠ uid) :
    (s.finish uid status result).cmd? u = s.cmd? u :=
  (State.cmd?_modCmd s uid u (f := fun c => s.ending c status result) fun _ => rfl).trans (if_neg h)

end

/-- Settles O25: one rule for each command and each way that it goes, and the two rules of an end. -/
theorem ringEngineCommands : Obligations.RingEngineCommands := by
  unfold Obligations.RingEngineCommands
  exact ⟨fun s uid c hc hr => exec_wait_registers hc hr,
    fun s uid c hc hr hd => ⟨exec_waitDeadline_passed hc hr hd, exec_waitDeadline_early hc⟩,
    fun s uid c hc => exec_signal_sends hc, fun s uid c hc => ⟨exec_fence_over hc, exec_fence_open hc⟩,
    fun s uid status result c hc => ⟨_, s.ending c status result, rfl, State.cmd?_finish_same status result hc,
      rfl, rfl, rfl, rfl, fun u hu => s.cmd?_finish_other status result hu⟩⟩

end Sys2Proof.Machine
end

section
/-! SUPPORT. The completion of a command, the end of an abort, and stolen commands. -/

namespace Sys2Proof.Machine

/-! ## Completion (R89, R513) -/

section
variable {s : State} {uid : Nat} {c : Cmd} (hc : s.cmd? uid = some c)
include hc

theorem exec_commandComplete_completes (hp : c.phase = .ended) (ht : s.tileReady c = true) (hd : c.copyDue = false)
    (hr : s.recordDue c = true → s.recordTurn c = true) :
    exec (.commandComplete uid) s = .next (s.complete c) := by
  have hrecord : s.recordDue c = false ∨ s.recordTurn c = true := by
    cases hdue : s.recordDue c with
    | false => exact .inl rfl
    | true => exact .inr (hr hdue)
  show execCommandComplete uid s = _
  rw [execCommandComplete, hc]
  exact congrArg _ (if_pos ⟨hp, ht, hd, hrecord⟩)

/-- A command stays while its work, its copy-back or the turn of its record is open. -/
theorem exec_commandComplete_stays
    (h : c.phase ≠ .ended ∨ c.copyDue = true ∨ (s.recordDue c = true ∧ s.recordTurn c = false)) :
    exec (.commandComplete uid) s = .next s := by
  show execCommandComplete uid s = _
  rw [execCommandComplete, hc]
  refine congrArg _ (if_neg fun ⟨hp, _, hd, hrecord⟩ => ?_)
  rcases h with hphase | hcopy | ⟨hdue, hturn⟩
  · exact hphase hp
  · simp [hcopy] at hd
  · simp [hdue, hturn] at hrecord

end

/-- A record that became due before a command's comes first. -/
theorem State.recordTurn_behind {s : State} {c : Cmd}
    (h : ∃ d ∈ s.cmds, s.recordDue d = true ∧ d.dueAt < c.dueAt) : s.recordTurn c = false := by
  obtain ⟨d, hd, hdue, hlt⟩ := h
  have hany : s.cmds.any (fun d => s.recordDue d && decide (d.dueAt < c.dueAt)) = true :=
    List.any_eq_true.mpr ⟨d, hd, by simp [hdue, hlt]⟩
  simp [State.recordTurn, hany]

/-! ## The end of an abort (R417) -/

section
variable {s : State}

theorem exec_abortTokenReset_resets (ht : s.heddle.tokenReset = true) (hs : s.signals = []) :
    exec .abortTokenReset s = .next { s with
      tokens := [], cores := s.cores.map (fun p => (p.1, p.2.untrapped))
      heddle := { s.heddle with tokenReset := false } } := congrArg _ (if_pos (by simp [ht, hs]))

theorem exec_abortTokenReset_waits (hs : s.signals ≠ []) : exec .abortTokenReset s = .next s :=
  congrArg _ (if_neg (by simp [hs]))

theorem exec_abortRecoveryEnd_ends (ha : s.isSet Fld.HEDDLE_STATUS_ABORTING 0 = true)
    (ht : s.heddle.tokenReset = false) (hc : s.cmds = []) :
    exec .abortRecoveryEnd s = .next (s.set Fld.HEDDLE_STATUS_ABORTING 0 0) :=
  congrArg _ (if_pos (by simp [ha, ht, hc]))

theorem exec_abortRecoveryEnd_waits (h : s.heddle.tokenReset = true ∨ s.cmds ≠ []) :
    exec .abortRecoveryEnd s = .next s := congrArg _ (if_neg (by rcases h with h | h <;> simp [h]))

end

/-! ## Stealing (R404 to R406) -/

/-- What a command that a skein may steal has, of the conditions of R404. -/
theorem State.stealable_needs {s : State} {c : Cmd} {thief : Nat} (h : s.stealable c thief = true) :
    c.phase = .queued ∧ c.launch = 0 ∧ s.isSet Fld.HEDDLE_JOB_CFG_STEAL_EN c.job = true ∧
      s.fixedTwist c.job = false := by
  unfold State.stealable at h
  split at h
  · contradiction
  · simp only [Bool.and_eq_true, decide_eq_true_eq, beq_iff_eq, Bool.not_eq_true'] at h
    simp [h]

section
variable {s : State} {uid thief : Nat} {c : Cmd} (hc : s.cmd? uid = some c)
include hc

/-- The command that ranks first among those of its kind that the thief may steal begins on the thief. -/
theorem exec_steal_steals {e : Engine} (he : c.thiefEngine thief = some e) (hs : s.stealable c thief = true)
    (hfirst : ∀ d ∈ s.cmds, d.thiefEngine thief = some e →
      stealRank thief c.home.skein ≤ stealRank thief d.home.skein ∨ s.stealable d thief = false) :
    exec (.steal uid thief) s = .next
      ((((s.count Fld.HEDDLE_CNT_STEAL_COUNT 0 1).ndc c.job).begin c e).noteJob e c.job).fillQueues := by
  have hbefore : s.cmds.any (fun d => decide (d.thiefEngine thief = some e) &&
      decide (stealRank thief d.home.skein < stealRank thief c.home.skein) && s.stealable d thief) = false := by
    refine List.any_eq_false.mpr fun d hd hbad => ?_
    simp only [Bool.and_eq_true, decide_eq_true_eq] at hbad
    obtain ⟨⟨hkind, hrank⟩, hmay⟩ := hbad
    exact (hfirst d hd hkind).elim (Nat.not_le.mpr hrank) (by simp [hmay])
  show execSteal uid thief s = _
  rw [execSteal, hc]
  dsimp only
  rw [he]
  dsimp only
  rw [hbefore]
  exact congrArg _ (if_pos (by simp [hs]))

theorem exec_steal_leaves (hs : s.stealable c thief = false) : exec (.steal uid thief) s = .next s := by
  show execSteal uid thief s = _
  rw [execSteal, hc]
  dsimp only
  split
  · rfl
  · exact congrArg _ (if_neg (by simp [hs]))

/-! ## The copy-back (R406) -/

theorem exec_stealCopyBackEnd_none (h : c.copyDue = false) : exec (.stealCopyBackEnd uid) s = .next s := by
  show execStealCopyBackEnd uid s = _
  rw [execStealCopyBackEnd, hc]
  exact congrArg _ (if_neg (by simp [h]))

variable (hp : c.phase = .ended) (hd : c.copyDue = true) {rows : List Nat} {r w : State × Nat}
  (hrows : rows = (rowsOf c.writes).filter (fun row => !c.heldRows.contains row))
  (hr : r = s.readRows c.engine.skein 6 uid rows)
include hp hd hrows hr

theorem exec_stealCopyBackEnd_unread (h : r.2 ≠ 0) :
    exec (.stealCopyBackEnd uid) s = .next (r.1.finish uid r.2 0) := by
  subst hr hrows
  show execStealCopyBackEnd uid s = _
  rw [execStealCopyBackEnd, hc]
  exact congrArg _ ((if_pos ⟨hp, hd⟩).trans (if_pos h))

variable (hw : w = r.1.writeRows c.home.skein 6 uid (rows.map (fun row => (row, s.readRow c.engine.skein row))))
  (hread : r.2 = 0)
include hw hread

/-- Once its rows are read and written, a stolen command meets those that it holds back. -/
theorem exec_stealCopyBackEnd_read {m : State × Nat}
    (hm : m = if w.2 = 0 then w.1.meetRows c.home.skein 6 uid c.heldRows else w) : exec (.stealCopyBackEnd uid) s =
    .next (if m.2 ≠ 0 then m.1.finish uid m.2 0
      else m.1.modCmd uid (fun c => { c with copied := true, since := s.refTime })) := by
  subst hm hw hr hrows
  show execStealCopyBackEnd uid s = _
  rw [execStealCopyBackEnd, hc]
  exact congrArg _ ((if_pos ⟨hp, hd⟩).trans (if_neg (not_not_intro hread)))

theorem exec_stealCopyBackEnd_unwritten (h : w.2 ≠ 0) :
    exec (.stealCopyBackEnd uid) s = .next (w.1.finish uid w.2 0) := by
  rw [exec_stealCopyBackEnd_read hc hp hd hrows hr hw hread rfl, if_neg h, if_pos h]

theorem exec_stealCopyBackEnd_copied (hwritten : w.2 = 0)
    (hmet : (w.1.meetRows c.home.skein 6 uid c.heldRows).2 = 0) : exec (.stealCopyBackEnd uid) s =
    .next ((w.1.meetRows c.home.skein 6 uid c.heldRows).1.modCmd uid
      (fun c => { c with copied := true, since := s.refTime })) := by
  rw [exec_stealCopyBackEnd_read hc hp hd hrows hr hw hread rfl, if_pos hwritten, if_neg (not_not_intro hmet)]

end

/-- Settles O26: a completion by what holds it, an abort's end by what is left, and a stolen command by its rows. -/
theorem completionRecoveryAndStealing : Obligations.CompletionRecoveryAndStealing := by
  unfold Obligations.CompletionRecoveryAndStealing
  refine ⟨⟨fun s uid c hc => ⟨exec_commandComplete_completes hc,
        fun hdue hbefore => exec_commandComplete_stays hc (.inr (.inr ⟨hdue, State.recordTurn_behind hbefore⟩)),
        fun hp => exec_commandComplete_stays hc (.inl hp), fun hd => exec_commandComplete_stays hc (.inr (.inl hd))⟩,
      fun s => exec_abortTokenReset_resets, fun s => exec_abortTokenReset_waits,
      fun s ha ht hc => ⟨_, exec_abortRecoveryEnd_ends ha ht hc, SetsOnly.one s _ 0 0 (by decide)⟩,
      fun s => exec_abortRecoveryEnd_waits⟩,
    fun s uid thief c e hc he hs hfirst => exec_steal_steals hc he hs hfirst,
    fun s uid thief c hc h => exec_steal_leaves hc (Bool.eq_false_iff.mpr fun hs => ?_),
    fun s uid c rows r w hc hp hd hrows hr hw => ⟨exec_stealCopyBackEnd_unread hc hp hd hrows hr,
      exec_stealCopyBackEnd_unwritten hc hp hd hrows hr hw, exec_stealCopyBackEnd_copied hc hp hd hrows hr hw⟩,
    fun s uid c hc h => exec_stealCopyBackEnd_none hc h⟩
  obtain ⟨hp, hl, hen, hf⟩ := State.stealable_needs hs
  simp [hp, hl, hen, hf] at h

end Sys2Proof.Machine
end

section
/-! SUPPORT. MOVE, DIGEST with its record, and the clearing of a job's counter. -/

namespace Sys2Proof.Machine

/-! ## MOVE (R81) -/

section
variable {s t : State} {uid beats : Nat} {c : Cmd} {x : RowMove} (hc : s.runningCmd uid 0x09 = some c)
  (ht : t = s.chargeCmd c beats) (hx : x = RowMove.ofBytes c.desc)
include hc

theorem exec_move_begun (hw : c.work ≠ .plain) : exec (.move uid beats) s = .next s := by
  show execMove uid beats s = _
  rw [execMove, hc]
  exact congrArg _ (if_pos hw)

include ht

theorem exec_move_refused {st : Nat} (hw : c.work = .plain) (h : moveCheck s c.job c.stream c.desc = some st) :
    exec (.move uid beats) s = .next (t.finish uid st 0) := by
  subst ht
  show execMove uid beats s = _
  rw [execMove, hc]
  dsimp only
  rw [if_neg (not_not_intro hw), h]

include hx

theorem exec_move_runs (hw : c.work = .plain) (h : moveCheck s c.job c.stream c.desc = none) :
    exec (.move uid beats) s = .next (t.runMove c x) := by
  subst ht hx
  show execMove uid beats s = _
  rw [execMove, hc]
  dsimp only
  rw [if_neg (not_not_intro hw), h]

end

section
variable {t : State} {c : Cmd} {x : RowMove}

theorem State.runMove_outside (h : t.moveFits c x = false ∨
    t.inRegions c.job (x.reads c.engine.skein ++ x.writes c.engine.skein) = false) :
    t.runMove c x = t.finish c.uid 0x0204 0 := by
  unfold State.runMove
  exact if_pos (by rcases h with h | h <;> simp [h])

variable (hfit : t.moveFits c x = true)
  (hin : t.inRegions c.job (x.reads c.engine.skein ++ x.writes c.engine.skein) = true)
include hfit hin

/-- A MOVE from another package asks for its rows. -/
theorem State.runMove_asks (hsk : x.sk = 2) :
    t.runMove c x = (t.modCmd c.uid (fun c => { c with work := .remote 0 0 [] })).askOn c.uid := by
  unfold State.runMove
  exact (if_neg (by simp [hfit, hin])).trans (if_pos hsk)

/-- A MOVE to another package sends its rows, and their answers end it. -/
theorem State.runMove_sends (hsk : x.sk ≠ 2) (hdk : x.dk = 2) {r : State × Progress × Nat}
    (hr : r = (t.modCmd c.uid (fun c => { c with work := .remote 0 0 [] })).moveRows c x ⟨0, 0, 0, []⟩ x.places) :
    t.runMove c x = if r.2.2 = 0 then r.1 else r.1.finish c.uid r.2.2 0 := by
  subst hr
  unfold State.runMove
  dsimp only
  rw [if_neg (by simp [hfit, hin]), if_neg hsk, if_pos hdk, if_pos hdk]
  exact ite_not _ _ _

theorem State.runMove_local (hsk : x.sk ≠ 2) (hdk : x.dk ≠ 2) {r : State × Progress × Nat}
    (hr : r = t.moveRows c x ⟨0, 0, 0, []⟩ x.places) :
    t.runMove c x = if r.2.2 = 0 then r.1.moveEnd c x r.2.1 else r.1.finish c.uid r.2.2 0 := by
  subst hr
  unfold State.runMove
  dsimp only
  rw [if_neg (by simp [hfit, hin]), if_neg hsk, if_neg hdk, if_neg hdk]
  exact ite_not _ _ _

end

/-! ## DIGEST (R508, R509, R513) -/

section
variable {s t : State} {uid beats : Nat} {c : Cmd} (hc : s.runningCmd uid 0x0E = some c)
  (ht : t = s.chargeCmd c beats)
include hc

theorem exec_digest_waits (h : s.recordTurn c = false) : exec (.digest uid beats) s = .next s := by
  show execDigest uid beats s = _
  rw [execDigest, hc]
  exact congrArg _ (if_pos (by simp [h]))

variable (hturn : s.recordTurn c = true)
include ht hturn

theorem exec_digest_refused {st : Nat} (h : digestCheck t c.job c.desc = some st) :
    exec (.digest uid beats) s = .next (t.finish uid st 0) := by
  subst ht
  show execDigest uid beats s = _
  rw [execDigest, hc]
  dsimp only
  rw [if_neg (by simp [hturn]), h]

theorem exec_digest_runs (h : digestCheck t c.job c.desc = none) :
    exec (.digest uid beats) s = .next (t.runDigest c) := by
  subst ht
  show execDigest uid beats s = _
  rw [execDigest, hc]
  dsimp only
  rw [if_neg (by simp [hturn]), h]

end

section
variable {t : State} {c : Cmd}

/-- A list of extents that leaves memory. -/
theorem State.runDigest_beyond (h : t.lpddrBytes < c.field 32 8 + 16 * c.field 26 2) :
    t.runDigest c = t.finish c.uid 0x0204 0 := if_pos (.inl h)

/-- Without extents each category takes the digest of nothing. -/
theorem State.runDigest_empty (hn : c.field 26 2 = 0) (hlist : c.field 32 8 ≤ t.lpddrBytes)
    (hfit : t.recordFits c (c.field 40 8) = true) : t.runDigest c = ((t.chargeRead c false 0).modCmd c.uid
      (fun d => { d with work := .digested c.since (categoryDigests []) })).finish c.uid 0 0 := by
  have hxs : t.extentList c.desc = [] := by
    have hcount : fieldOf c.desc 26 2 = 0 := hn
    simp [State.extentList, hcount]
  have hok : ¬ (t.lpddrBytes < c.field 32 8 + 16 * 0 ∨ (!t.recordFits c (c.field 40 8)) = true) := by
    simp [hfit, hlist]
  unfold State.runDigest
  dsimp only
  rw [hn, hxs, if_neg hok]
  rfl

end

/-! ## The record of a DIGEST (R508, R511) -/

section
variable {s : State} {c : Cmd} {due : Nat} {ds : List Byte} {x : GulecParts} {v : State}
  (hw : c.work = .digested due ds) (hst : c.status = 0)
  (hx : x = ⟨c.field 24 1 % 2 == 1, s.nextRecord c, c.capture, ds⟩)
  (hv : v = if c.field 40 8 = 0 then (s.writeRing c x).1 else s.writeGulec c (c.field 40 8) x)
include hw hst hx hv

theorem State.record_digested : s.record c = (v.doIf (c.field 24 1 / 2 % 2 == 1)
    (fun v => v.set Fld.HEDDLE_DET_BASE_REC_ADDR c.job (s.nextRecord c)), s.nextRecord c, 0) := by
  subst hv hx
  rw [State.record, hw]
  exact if_pos hst

theorem State.record_unchained (h : c.field 24 1 / 2 % 2 = 0) : s.record c = (v, s.nextRecord c, 0) := by
  rw [State.record_digested hw hst hx hv, h]
  rfl

theorem State.record_chained (h : c.field 24 1 / 2 % 2 = 1) : s.record c =
    (v.set Fld.HEDDLE_DET_BASE_REC_ADDR c.job (s.nextRecord c), s.nextRecord c, 0) := by
  rw [State.record_digested hw hst hx hv, h]
  rfl

end

/-! ## CLEAR (R501) -/

theorem exec_ndcClear_up {s : State} (job : Nat) (hs : s.setUp = true) :
    exec (.ndcClear job) s = .next (s.clearNdc job) := congrArg _ (State.host_up _ hs)

theorem State.setsOnly_clearNdc (s : State) (job : Nat) : SetsOnly s (s.clearNdc job)
    [(Fld.HEDDLE_DETJ_NDC_COUNT, job, 0), (Fld.HEDDLE_DETJ_STATUS_TIMING_STATUS, job, 0)] :=
  (SetsOnly.one s Fld.HEDDLE_DETJ_NDC_COUNT job 0 (by decide)).more _ _ (by decide) rfl (by simp)

/-- Settles O32: a MOVE by its checks and its two sides, a DIGEST by its turn and its checks, a record by its option. -/
theorem moveDigestAndCounters : Obligations.MoveDigestAndCounters := by
  unfold Obligations.MoveDigestAndCounters
  refine ⟨fun s t uid beats c x hc ht hx => ?_, fun s t uid beats c hc ht => ?_,
    fun s c due ds x v hw hst hx hv => ⟨State.record_unchained hw hst hx hv, State.record_chained hw hst hx hv⟩,
    fun s job hs => ⟨_, exec_ndcClear_up job hs, s.setsOnly_clearNdc job⟩⟩
  · -- MOVE
    obtain rfl := State.uid_of_runningCmd hc
    refine ⟨exec_move_begun hc, fun st => exec_move_refused hc ht, fun hw h hout => ?_, fun hw h hfit hin => ?_⟩
    · rw [exec_move_runs hc ht hx hw h, State.runMove_outside hout]
    · rw [exec_move_runs hc ht hx hw h]
      exact ⟨fun hsk => congrArg _ (State.runMove_asks hfit hin hsk),
        fun r hsk hdk hr => congrArg _ (State.runMove_sends hfit hin hsk hdk hr),
        fun r hsk hdk hr => congrArg _ (State.runMove_local hfit hin hsk hdk hr)⟩
  · -- DIGEST
    obtain rfl := State.uid_of_runningCmd hc
    refine ⟨exec_digest_waits hc, fun st hturn => exec_digest_refused hc ht hturn, fun hturn h => ?_⟩
    rw [exec_digest_runs hc ht hturn h]
    exact ⟨fun hout => congrArg _ (State.runDigest_beyond hout),
      fun hn hlist hfit => congrArg _ (State.runDigest_empty hn hlist hfit)⟩

end Sys2Proof.Machine
end

section
/-! SUPPORT. What the loom and vector commands store: one that reads good rows and meets no race writes the rows of its
outputs, sets its flags and ends. -/

namespace Sys2Proof.Machine

/-! ## What a part of a command leaves -/

/-- The commands stand as they were, and memory reads as it did at the free addresses. -/
structure Untouched (s t : State) (free : Nat → Prop) : Prop where
  cmds : t.cmds = s.cmds
  read : ∀ a, free a → Mem.read t.mem a = Mem.read s.mem a

/-- The command of a number has ended, every other one is as it was, and memory reads as it did at the free addresses. -/
structure CommandEnds (s t : State) (uid : Nat) (free : Nat → Prop) : Prop where
  ended : ∃ d, t.cmd? uid = some d ∧ d.phase = .ended
  others : ∀ u, u ≠ uid → t.cmd? u = s.cmd? u
  read : ∀ a, free a → Mem.read t.mem a = Mem.read s.mem a

section
variable {s t u : State} {uid : Nat} {free : Nat → Prop}

theorem Untouched.trans (h : Untouched s t free) (h' : Untouched t u free) : Untouched s u free :=
  ⟨h'.cmds.trans h.cmds, fun a ha => (h'.read a ha).trans (h.read a ha)⟩

theorem Untouched.cmd? (h : Untouched s t free) (n : Nat) : t.cmd? n = s.cmd? n := by
  rw [State.cmd?, State.cmd?, h.cmds]

theorem Untouched.ends (h : Untouched s t free) (h' : CommandEnds t u uid free) : CommandEnds s u uid free :=
  ⟨h'.ended, fun n hn => (h'.others n hn).trans (h.cmd? n), fun a ha => (h'.read a ha).trans (h.read a ha)⟩

theorem CommandEnds.untouched (h : CommandEnds s t uid free) (h' : Untouched t u free) : CommandEnds s u uid free := by
  obtain ⟨d, hd, hp⟩ := h.ended
  exact ⟨⟨d, (h'.cmd? uid).trans hd, hp⟩, fun n hn => (h'.cmd? n).trans (h.others n hn),
    fun a ha => (h'.read a ha).trans (h.read a ha)⟩

theorem State.set_untouched (s : State) (f : Field) (i v : Nat) : Untouched s (s.set f i v) free := ⟨rfl, fun _ _ => rfl⟩

theorem State.count_untouched (s : State) (f : Field) (i n : Nat) : Untouched s (s.count f i n) free :=
  s.set_untouched f i _

theorem State.chargeCmd_untouched (s : State) (c : Cmd) (beats : Nat) : Untouched s (s.chargeCmd c beats) free := by
  unfold State.chargeCmd
  split <;> exact ⟨rfl, fun _ _ => rfl⟩

theorem State.leaveAccs_untouched (s : State) (c : Cmd) (accs : List (Nat × BitVec 80)) :
    Untouched s (s.leaveAccs c accs) free := by
  unfold State.leaveAccs
  split <;> exact ⟨rfl, fun _ _ => rfl⟩

theorem State.finish_ends {c : Cmd} (status result : Nat) (hc : s.cmd? uid = some c) :
    CommandEnds s (s.finish uid status result) uid free :=
  ⟨⟨_, State.cmd?_finish_same status result hc, rfl⟩, fun _ hn => s.cmd?_finish_other status result hn, fun _ _ => rfl⟩

/-- The digest of the rows written is noted in the command before it ends. -/
theorem State.noteWritten_finish_ends {c d : Cmd} (status result : Nat) (hc : s.cmd? c.uid = some d) :
    CommandEnds s ((s.noteWritten c).finish c.uid status result) c.uid free := by
  have hkept : ∀ n, n ≠ c.uid → (s.noteWritten c).cmd? n = s.cmd? n := fun n hn => by
    rw [State.noteWritten, State.cmd?_modCmd, if_neg hn]
    exact fun _ => rfl
  have hends := State.finish_ends (s := s.noteWritten c) (free := free) status result
    (State.cmd?_modCmd_same (fun _ => rfl) hc)
  exact ⟨hends.ended, fun n hn => (hends.others n hn).trans (hkept n hn), hends.read⟩

/-! ### The flags of an end (R178) -/

variable (hfree : ∀ a, free a → a < 2 ^ 64 ∨ 2 ^ 65 ≤ a)
include hfree

/-- A flag may send a message to host memory, and stores nothing elsewhere. -/
theorem State.raise_untouched (s : State) (f : Flag) (i : Nat) : Untouched s (s.raise f i) free := by
  obtain ⟨regs, mem, rings, e⟩ := s.raise_frame f i
  exact ⟨by rw [e], fun a ha => s.raise_read f i a (hfree a ha)⟩

theorem State.doIf_raise_untouched (s : State) (b : Bool) (f : Flag) (i : Nat) :
    Untouched s (s.doIf b fun t => t.raise f i) free := by
  cases b with
  | false => exact ⟨rfl, fun _ _ => rfl⟩
  | true => exact s.raise_untouched hfree f i

theorem State.loomFlags_untouched (s : State) (k : Nat) (os : List Output) : Untouched s (s.loomFlags k os) free :=
  (((s.doIf_raise_untouched hfree _ _ k).trans (State.doIf_raise_untouched hfree _ _ _ k)).trans
    (State.doIf_raise_untouched hfree _ _ _ k)).trans (State.count_untouched _ _ _ _)

end

/-! ## Rows that outputs reach -/

/-- An address outside host memory and outside the rows of outputs. -/
def State.Elsewhere (s : State) (k : Nat) (os : List Output) (a : Nat) : Prop :=
  (a < 2 ^ 64 ∨ 2 ^ 65 ≤ a) ∧ ∀ o ∈ os, ¬ (s.rowAddr k (outRow o) ≤ a ∧ a < s.rowAddr k (outRow o) + 512)

/-- Only rows of outputs have been written: their bytes and their parity bits, which are good then. -/
structure RowsWritten (s t : State) (k : Nat) (os : List Output) : Prop where
  frame : t = { s with mem := t.mem, badParity := t.badParity }
  parity : t.badParity ⊆ s.badParity
  read : ∀ a, s.Elsewhere k os a → Mem.read t.mem a = Mem.read s.mem a

/-- No row of outputs has bad parity, and no access of a command to its skein races. -/
structure State.Quiet (s : State) (c : Cmd) (os : List Output) : Prop where
  parity : ∀ o ∈ os, s.parityBad c.engine.skein (outRow o) = false
  race : ∀ row w, s.raceWith c.engine.skein row w c.engine.source (some c.uid) = none

section
variable {s t u : State} {c : Cmd} {k row : Nat} {os all : List Output}

theorem RowsWritten.refl (s : State) (k : Nat) (os : List Output) : RowsWritten s s k os :=
  ⟨rfl, List.Subset.refl _, fun _ _ => rfl⟩

theorem RowsWritten.elsewhere (h : RowsWritten s t k os) : t.Elsewhere k os = s.Elsewhere k os := by
  rw [h.frame]; rfl

theorem RowsWritten.trans (h : RowsWritten s t k os) (h' : RowsWritten t u k os) : RowsWritten s u k os := by
  refine ⟨h'.frame.trans (by rw [h.frame]), List.Subset.trans h'.parity h.parity, fun a ha => ?_⟩
  have ht : t.Elsewhere k os a := by rwa [h.elsewhere]
  rw [h'.read a ht, h.read a ha]

theorem RowsWritten.untouched (h : RowsWritten s t k os) : Untouched s t (s.Elsewhere k os) :=
  ⟨by rw [h.frame], h.read⟩

/-- No row's parity gets worse. -/
theorem RowsWritten.parityBad (h : RowsWritten s t k os) {j : Nat} (hp : s.parityBad j row = false) :
    t.parityBad j row = false := by
  obtain ⟨hbits, hpath⟩ := Bool.or_eq_false_iff.mp hp
  rw [h.frame]
  refine Bool.or_eq_false_iff.mpr ⟨List.any_eq_false.mpr fun x hx => ?_, hpath⟩
  exact List.any_eq_false.mp hbits x (h.parity hx)

theorem RowsWritten.quiet (h : RowsWritten s t k os) (hq : s.Quiet c all) : t.Quiet c all :=
  ⟨fun o ho => h.parityBad (hq.parity o ho), fun row w => by rw [h.frame]; exact hq.race row w⟩

theorem State.writeRow_rowsWritten (bs : List Byte) (h : ∃ o ∈ os, outRow o = row) :
    RowsWritten s (s.writeRow k row bs) k os := by
  obtain ⟨o, ho, rfl⟩ := h
  refine ⟨rfl, fun _ hx => (List.mem_filter.mp hx).1, fun a ⟨_, ha⟩ => ?_⟩
  show Mem.read (s.store _ _).mem a = _
  rw [State.read_store, sliceOf_length]
  exact if_neg (ha o ho)

/-! ## A command's outputs are stored (R144, R161) -/

theorem State.accessRow_quiet (hq : s.Quiet c all) (row : Nat) (w : Bool) :
    s.accessRow c.engine.skein row w c.engine.source (some c.uid) = (s, false) := by
  rw [State.accessRow, hq.race row w]

/-- A row that its outputs cover only in part is read first, and its read is good. -/
theorem State.mergeRow_quiet (os : List Output) (hq : s.Quiet c all) (h : ∃ o ∈ all, outRow o = row) :
    ∃ bs, s.mergeRow c c.engine.skein os row = (s.writeRow c.engine.skein row bs, 0) := by
  have hread : s.readRows c.engine.skein c.engine.source c.uid [row] = (s, 0) := by
    obtain ⟨o, ho, rfl⟩ := h
    exact s.readRows_quiet _ _ _ _ (by simpa using hq.parity o ho) fun r _ => hq.race r false
  rw [State.mergeRow, hread, ite_self, if_neg (by simp), State.writeRows, State.accessRow_quiet hq]
  exact ⟨_, rfl⟩

theorem State.mergeRows_quiet (os : List Output) {rows : List Nat} (hq : s.Quiet c all)
    (h : ∀ row ∈ rows, ∃ o ∈ all, outRow o = row) :
    ∃ t, s.mergeRows c c.engine.skein os rows = (t, 0) ∧ RowsWritten s t c.engine.skein all := by
  induction rows generalizing s with
  | nil => exact ⟨s, rfl, RowsWritten.refl s _ _⟩
  | cons row rest ih =>
    have hrow := h row (by simp)
    obtain ⟨bs, hbs⟩ := State.mergeRow_quiet os hq hrow
    have hw : RowsWritten s _ c.engine.skein all := State.writeRow_rowsWritten bs hrow
    obtain ⟨t, ht, hwt⟩ := ih (hw.quiet hq) fun r hr => h r (by simp [hr])
    refine ⟨t, ?_, hw.trans hwt⟩
    rw [State.mergeRows, hbs]
    exact (if_neg (by simp)).trans ht

theorem State.commitTiles_quiet {tiles : List (List Output)} (hq : s.Quiet c all) (h : ∀ o ∈ tiles.flatten, o ∈ all) :
    ∃ t, s.commitTiles c c.engine.skein tiles = (t, 0, tiles.flatten) ∧ RowsWritten s t c.engine.skein all := by
  induction tiles generalizing s with
  | nil => exact ⟨s, rfl, RowsWritten.refl s _ _⟩
  | cons os rest ih =>
    have hrows : ∀ row ∈ outRows os, ∃ o ∈ all, outRow o = row := fun row hrow => by
      obtain ⟨o, ho, hrow⟩ := List.mem_map.mp (List.mem_eraseDups.mp hrow)
      exact ⟨o, h o (by simp [ho]), hrow⟩
    obtain ⟨t, ht, hw⟩ := State.mergeRows_quiet os hq hrows
    have hrest : ∀ o ∈ rest.flatten, o ∈ all := fun o ho => h o (List.mem_append_right os ho)
    obtain ⟨u, hu, hwu⟩ := ih (hw.quiet hq) hrest
    refine ⟨u, ?_, hw.trans hwu⟩
    rw [State.commitTiles, ht]
    refine (if_neg (by simp)).trans ?_
    rw [hu, List.flatten_cons]

end

/-- A command whose reads are good and whose accesses do not race stores the rows of its outputs and ends (R159). -/
theorem State.endFormed_ends {s : State} {c d : Cmd} {reads : List RowRange} {tiles : List (List Output)}
    (satReport : Bool) (hc : s.cmd? c.uid = some d)
    (hreads : ∀ row ∈ rowsOf reads, s.parityBad c.engine.skein row = false) (hq : s.Quiet c tiles.flatten) :
    CommandEnds s (s.endFormed c satReport reads tiles) c.uid (s.Elsewhere c.engine.skein tiles.flatten) := by
  obtain ⟨t, ht, hw⟩ := State.commitTiles_quiet hq fun o ho => ho
  have hcommit : s.commitOutputs c c.engine.skein reads tiles = (t, 0, tiles.flatten) := by
    rw [State.commitOutputs, s.readRows_quiet _ _ _ _ hreads fun r _ => hq.race r false]
    exact (if_pos rfl).trans ht
  have hflags := hw.untouched.trans (t.loomFlags_untouched (fun _ ha => ha.1) c.engine.skein tiles.flatten)
  rw [State.endFormed, hcommit]
  exact hflags.ends (State.noteWritten_finish_ends _ _ ((hflags.cmd? _).trans hc))

/-! ## The four commands -/

section
variable {s : State} {uid beats : Nat} {c : Cmd}

/-- A running MATMUL is refused for a bad field or runs. -/
theorem exec_matmul_running (hc : s.runningCmd uid 0x01 = some c) :
    exec (.matmul uid beats) s = .next ((s.chargeCmd c beats).finish uid 0x0102 0) ∨
    ∃ x, Matmul.ofBytes c.desc = some x ∧ exec (.matmul uid beats) s = .next ((s.chargeCmd c beats).runMatmul c x) := by
  have hexec : exec (.matmul uid beats) s = execMatmul uid beats s := rfl
  rw [hexec, execMatmul, hc]
  dsimp only
  split
  next x _ hx => exact .inr ⟨x, hx, rfl⟩
  next => exact .inl rfl

/-- A running CONV is refused for a bad field or runs. -/
theorem exec_conv_running (hc : s.runningCmd uid 0x02 = some c) :
    exec (.conv uid beats) s = .next ((s.chargeCmd c beats).finish uid 0x0102 0) ∨
    ∃ x, Conv.ofBytes c.desc = some x ∧ exec (.conv uid beats) s = .next ((s.chargeCmd c beats).runConv c x) := by
  have hexec : exec (.conv uid beats) s = execConv uid beats s := rfl
  rw [hexec, execConv, hc]
  dsimp only
  split
  next x _ hx => exact .inr ⟨x, hx, rfl⟩
  next => exact .inl rfl

/-- A running POOL is refused for a bad field or runs. -/
theorem exec_pool_running (hc : s.runningCmd uid 0x03 = some c) :
    exec (.pool uid beats) s = .next ((s.chargeCmd c beats).finish uid 0x0102 0) ∨
    ∃ x, Pool.ofBytes c.desc = some x ∧ exec (.pool uid beats) s = .next ((s.chargeCmd c beats).runPool c x) := by
  have hexec : exec (.pool uid beats) s = execPool uid beats s := rfl
  rw [hexec, execPool, hc]
  dsimp only
  split
  next x _ hx => exact .inr ⟨x, hx, rfl⟩
  next => exact .inl rfl

/-- A running VEC is refused for a bad field or runs. -/
theorem exec_vec_running (hc : s.runningCmd uid 0x04 = some c) :
    exec (.vec uid beats) s = .next ((s.chargeCmd c beats).finish uid 0x0102 0) ∨
    ∃ x, Vec.ofBytes c.desc = some x ∧ exec (.vec uid beats) s = .next ((s.chargeCmd c beats).runVec c x) := by
  have hexec : exec (.vec uid beats) s = execVec uid beats s := rfl
  rw [hexec, execVec, hc]
  dsimp only
  split
  next x _ hx => exact .inr ⟨x, hx, rfl⟩
  next => exact .inl rfl

end

section
variable {s : State} {c d : Cmd} {k : Nat} (hc : s.cmd? c.uid = some d) (hk : k = c.engine.skein)
include hc hk

theorem State.runMatmul_ends {x : Matmul} {os : List Output}
    (hos : os = (x.tiles s k (s.fixedTwist c.job) c.even c.routed).flatten)
    (hreads : ∀ row ∈ rowsOf c.reads, s.parityBad k row = false) (hq : s.Quiet c os) :
    CommandEnds s (s.runMatmul c x) c.uid (s.Elsewhere k os) := by
  subst hk hos
  unfold State.runMatmul
  split
  · exact (State.endFormed_ends x.satReport hc hreads hq).untouched (State.leaveAccs_untouched _ c _)
  · exact State.finish_ends _ _ hc

theorem State.runConv_ends {x : Conv} {os : List Output} {t : State}
    (ht : t = s.set Fld.SKEIN_CONV_STATUS_GROUP k (x.groups - 1))
    (hos : os = (x.tiles s k (s.fixedTwist c.job) c.even).flatten)
    (hreads : ∀ row ∈ rowsOf (x.touched k), t.parityBad k row = false) (hq : t.Quiet c os) :
    CommandEnds s (s.runConv c x) c.uid (t.Elsewhere k os) := by
  have hct : t.cmd? c.uid = some d := ht ▸ hc
  subst hk hos ht
  unfold State.runConv
  split
  · exact (s.set_untouched _ _ _).ends (((State.endFormed_ends x.satReport hct hreads hq).untouched
      (State.leaveAccs_untouched _ c _)).untouched (State.count_untouched _ _ _ _))
  · exact State.finish_ends _ _ hc

theorem State.endVector_ends {reads : List RowRange} {os : List Output} (satReport : Bool)
    (hreads : ∀ row ∈ rowsOf reads, s.parityBad k row = false) (hq : s.Quiet c os) :
    CommandEnds s (s.endVector c satReport reads os) c.uid (s.Elsewhere k os) := by
  subst hk
  have hflat : [os].flatten = os := by simp
  have hends := State.endFormed_ends (tiles := [os]) satReport hc hreads (hflat.symm ▸ hq)
  rwa [hflat] at hends

theorem State.runPool_ends {x : Pool} {os : List Output} (hos : os = x.outputs s k c.even)
    (hreads : ∀ row ∈ rowsOf (x.touched k), s.parityBad k row = false) (hq : s.Quiet c os) :
    CommandEnds s (s.runPool c x) c.uid (s.Elsewhere k os) := by
  have hends := State.endVector_ends hc hk false hreads hq
  subst hk hos
  unfold State.runPool
  split
  · exact hends.untouched (State.count_untouched _ _ _ _)
  · exact State.finish_ends _ _ hc

theorem State.runVec_ends {x : Vec} {os : List Output} (hos : os = x.allOutputs s k c.even)
    (hreads : ∀ row ∈ rowsOf c.reads, s.parityBad k row = false) (hq : s.Quiet c os) :
    CommandEnds s (s.runVec c x) c.uid (s.Elsewhere k os) := by
  have hends := State.endVector_ends hc hk x.satReport hreads hq
  subst hk hos
  unfold State.runVec
  split
  · exact hends
  · exact State.finish_ends _ _ hc

end

/-- A command that is refused or runs ends where its run ends it. -/
theorem ends_of_running {α : Type} {u : State} {uid : Nat} {c : Cmd} {free : Nat → Prop} {of : Option α}
    {run : α → State} {e : Host.Outcome State Fault Refusal}
    (h : e = .next (u.finish uid 0x0102 0) ∨ ∃ x, of = some x ∧ e = .next (run x)) (hc : u.cmd? uid = some c)
    (hrun : ∀ x, of = some x → CommandEnds u (run x) uid free) : ∃ t, e = .next t ∧ CommandEnds u t uid free := by
  obtain h | ⟨x, hx, h⟩ := h
  · exact ⟨_, h, State.finish_ends _ _ hc⟩
  · exact ⟨_, h, hrun x hx⟩

/-- Settles O28: each command is refused, or it forms its outputs and ends, and on both ways nothing but the rows of its
outputs is stored. -/
theorem loomAndVectorStoreOnlyTheirRows : Obligations.LoomAndVectorStoreOnlyTheirRows := by
  unfold Obligations.LoomAndVectorStoreOnlyTheirRows
  intro s u v uid beats k c i rd os hu hk hi hreads hout hrace
  subst hu
  suffices hends : ∃ t, exec i s = .next t ∧ CommandEnds (s.chargeCmd c beats) t uid (v.Elsewhere k os) by
    obtain ⟨t, ht, hends⟩ := hends
    obtain ⟨⟨d, hd, hp⟩, hothers, hread⟩ := (s.chargeCmd_untouched c beats).ends hends
    exact ⟨t, d, ht, hd, hp, hothers, fun a ha hrows => hread a ⟨ha, hrows⟩⟩
  have hcmd : ∀ {op : Nat}, s.runningCmd uid op = some c → (s.chargeCmd c beats).cmd? uid = some c := fun hc =>
    ((s.chargeCmd_untouched (free := v.Elsewhere k os) c beats).cmd? uid).trans (State.cmd?_of_runningCmd hc)
  have hquiet : c.uid = uid → v.Quiet c os := fun hc => ⟨hk ▸ hout, hk ▸ hc ▸ hrace⟩
  obtain ⟨rfl, hc, h⟩ | ⟨rfl, hc, h⟩ | ⟨rfl, hc, h⟩ | ⟨rfl, hc, h⟩ := hi
  all_goals
    have hu := hcmd hc
    have hq := hquiet (State.uid_of_runningCmd hc)
    obtain rfl := State.uid_of_runningCmd hc
  · -- MATMUL
    refine ends_of_running (exec_matmul_running hc) hu fun x hx => ?_
    obtain ⟨rfl, rfl, hos⟩ := h x hx
    exact State.runMatmul_ends hu hk hos hreads hq
  · -- CONV
    refine ends_of_running (exec_conv_running hc) hu fun x hx => ?_
    obtain ⟨hv, rfl, hos⟩ := h x hx
    exact State.runConv_ends hu hk hv hos hreads hq
  · -- POOL
    refine ends_of_running (exec_pool_running hc) hu fun x hx => ?_
    obtain ⟨rfl, rfl, hos⟩ := h x hx
    exact State.runPool_ends hu hk hos hreads hq
  · -- VEC
    refine ends_of_running (exec_vec_running hc) hu fun x hx => ?_
    obtain ⟨rfl, rfl, hos⟩ := h x hx
    exact State.runVec_ends hu hk hos hreads hq

end Sys2Proof.Machine
end

section
/-! SUPPORT. The conditions under which a window opens. -/

namespace Sys2Proof.Machine

/-- One region of the job holds the rows. -/
theorem State.regionHolds_iff (s : State) (k job first last : Nat) : s.regionHolds k job first last = true ↔
    ∃ m, m < 8 ∧ s.isSet Fld.SKEIN_BOB_REGION_VALID (ix k m) = true ∧
      s.get Fld.SKEIN_BOB_REGION_JOB (ix k m) = job ∧ s.get Fld.SKEIN_BOB_REGION_FIRST (ix k m) ≤ first ∧
      last ≤ s.get Fld.SKEIN_BOB_REGION_LAST (ix k m) := by
  simp only [State.regionHolds, List.any_eq_true, List.mem_range, Bool.and_eq_true, beq_iff_eq, decide_eq_true_eq,
    and_assoc]

/-- No other open window of the skein has the key. -/
theorem State.keyFree_iff (s : State) (k n key : Nat) :
    (List.range 16).any (fun m => m != n && (s.window k m).open_ && (s.window k m).key == key) = false ↔
      ∀ m, m < 16 → m ≠ n → (s.window k m).state ≠ .idle → (s.window k m).key ≠ key := by
  simp only [List.any_eq_false, List.mem_range, Bool.and_eq_true, bne_iff_ne, Window.open_, decide_eq_true_eq,
    beq_iff_eq, not_and, and_imp]

/-- The five conditions of R125. -/
theorem State.windowOk_iff (s : State) (k n : Nat) (w : Window) : s.windowOk k n w = true ↔
    w.key ≠ 0 ∧ (∀ m, m < 16 → m ≠ n → (s.window k m).state ≠ .idle → (s.window k m).key ≠ w.key) ∧
      (1 ≤ w.count ∧ ∃ m, m < 8 ∧ s.isSet Fld.SKEIN_BOB_REGION_VALID (ix k m) = true ∧
        s.get Fld.SKEIN_BOB_REGION_JOB (ix k m) = w.job ∧ s.get Fld.SKEIN_BOB_REGION_FIRST (ix k m) ≤ w.first ∧
        w.first + w.count - 1 ≤ s.get Fld.SKEIN_BOB_REGION_LAST (ix k m)) ∧
      w.mask ≠ 0 ∧ (w.permitRead = true ∨ w.permitWrite = true) := by
  rw [← s.keyFree_iff, ← s.regionHolds_iff]
  simp only [State.windowOk, Bool.and_eq_true, bne_iff_ne, decide_eq_true_eq, Bool.or_eq_true, Bool.not_eq_true']
  constructor
  · rintro ⟨⟨⟨⟨⟨hkey, hcount⟩, hmask⟩, hpermit⟩, hregion⟩, hfree⟩
    exact ⟨hkey, hfree, ⟨hcount, hregion⟩, hmask, hpermit⟩
  · rintro ⟨hkey, hfree, ⟨hcount, hregion⟩, hmask, hpermit⟩
    exact ⟨⟨⟨⟨⟨hkey, hcount⟩, hmask⟩, hpermit⟩, hregion⟩, hfree⟩

/-- A flag leaves the windows as they are. -/
theorem State.window_raise (s : State) (f : Flag) (i k n : Nat) : (s.raise f i).window k n = s.window k n := by
  obtain ⟨regs, mem, rings, e⟩ := s.raise_frame f i
  rw [e]
  rfl

/-- Settles O35: what is asked of a window is the conditions of R125, one by one. -/
theorem windowOpensOnlyUnderItsConditions : Obligations.WindowOpensOnlyUnderItsConditions := by
  unfold Obligations.WindowOpensOnlyUnderItsConditions
  rintro s k n w hs rfl hi - ok hok
  rw [← s.windowOk_iff k n] at hok
  refine ⟨fun h => ⟨_, exec_winOpen_opens hs hi (hok.mp h), s.putWindow_only k n _⟩, fun h => ?_⟩
  have hno : s.windowOk k n (s.window k n) = false := Bool.eq_false_iff.mpr fun h' => h (hok.mpr h')
  exact ⟨_, exec_winOpen_refused hs (.inr hno), rfl, by rw [State.window_raise, hi]⟩

end Sys2Proof.Machine
end

section
/-! SUPPORT. Row writes, row reads and token signals of other packages. -/

namespace Sys2Proof.Machine

/-! ## Nothing waits -/

section
variable {s : State} {p vc : Nat} (h : s.front p vc = none)
include h

theorem State.takeTx_empty (tt : Nat) : s.takeTx p vc tt = none := by
  rw [State.takeTx, h]

theorem State.answer_empty (tt : Nat) (f : State → List Byte → Req → State) : s.answer p vc tt f = s := by
  rw [State.answer, State.takeTx_empty h]

theorem State.parcelAt_empty : s.parcelAt p vc = s := by
  rw [State.parcelAt, h]

theorem exec_request_empty : exec (.rowWrite p vc) s = .next s ∧ exec (.rowRead p vc) s = .next s ∧
    exec (.tokenSignal p vc) s = .next s := by
  show execRowWrite p vc s = _ ∧ execRowRead p vc s = _ ∧ execTokenSignal p vc s = _
  simp only [execRowWrite, execRowRead, execTokenSignal, State.takeTx_empty h, and_self]

theorem exec_barrier_empty : exec (.barrierArrive p vc) s = .next s ∧ exec (.barrierRelease p vc) s = .next s := by
  show execBarrierArrive p vc s = _ ∧ execBarrierRelease p vc s = _
  simp only [execBarrierArrive, execBarrierRelease, h, and_self]

theorem exec_parcel_empty : exec (.parcel p vc) s = .next s ∧ exec (.parcelUnblock p vc) s = .next s := by
  show execParcel p vc s = _ ∧ execParcelUnblock p vc s = _
  simp only [execParcel, execParcelUnblock, State.parcelAt_empty h, ite_self, and_self]

theorem exec_reply_empty : exec (.ack p vc) s = .next s ∧ exec (.readData p vc) s = .next s ∧
    exec (.refuse p vc) s = .next s ∧ exec (.parcelAck p vc) s = .next s := by
  show execAck p vc s = _ ∧ execReadData p vc s = _ ∧ execRefuse p vc s = _ ∧ execParcelAck p vc s = _
  simp only [execAck, execReadData, execRefuse, execParcelAck, State.answer_empty h, and_self]

end

/-! ## Row writes (R434, R521) -/

section
variable {s t u : State} {p vc k row r : Nat} {w : Window} {bad : Bool} {tx : List Byte}

section
variable (htx : s.takeTx p vc 0x01 = some (tx, t)) (hrow : txRow tx = (k, row))
include htx hrow

theorem exec_rowWrite_passed (hw : t.windowCheck k (txKey tx) (txSrc tx) (some row) 0 true = .inl w)
    (hport : t.portCheck p = (u, bad)) : exec (.rowWrite p vc) s = .next (if bad = true then u.parityOwner k row w.job
      else (((u.accessRow k row true 6 none).1).writeRow k row (tx.drop 16)).reply (t.jobRow w.job) tx 0x81 []) := by
  show execRowWrite p vc s = _
  simp only [execRowWrite, htx, hrow, hw, hport]

theorem exec_rowWrite_dropped (hw : t.windowCheck k (txKey tx) (txSrc tx) (some row) 0 true = .inr r) :
    exec (.rowWrite p vc) s = .next (t.dropTx k tx r row) := by
  show execRowWrite p vc s = _
  simp only [execRowWrite, htx, hrow, hw]

end

/-! ## Row reads (R434, R521) -/

section
variable (htx : s.takeTx p vc 0x02 = some (tx, t)) (hrow : txRow tx = (k, row))
include htx hrow

theorem exec_rowRead_passed (hw : t.windowCheck k (txKey tx) (txSrc tx) (some row) 0 false = .inl w)
    (hport : t.portCheck p = (u, bad)) : exec (.rowRead p vc) s = .next
      (if t.parityBad k row = true ∨ bad = true then (u.pathMet k row).parityOwner k row w.job
        else ((u.accessRow k row false 6 none).1).reply (t.jobRow w.job) tx 0x82 (t.readRow k row)) := by
  show execRowRead p vc s = _
  simp only [execRowRead, htx, hrow, hw, hport, Bool.or_eq_true]

theorem exec_rowRead_dropped (hw : t.windowCheck k (txKey tx) (txSrc tx) (some row) 0 false = .inr r) :
    exec (.rowRead p vc) s = .next (t.dropTx k tx r row) := by
  show execRowRead p vc s = _
  simp only [execRowRead, htx, hrow, hw]

end

/-! ## Token signals (R434) -/

section
variable {id : Nat} (htx : s.takeTx p vc 0x03 = some (tx, t)) (hid : id = bitsOf (txTarget tx) 0 16)
include htx hid

theorem exec_tokenSignal_passed (hw : t.windowCheck (tokenHome id) (txKey tx) (txSrc tx) none id true = .inl w) :
    exec (.tokenSignal p vc) s = .next
      ((t.arrive id (bitsOf (txTarget tx) 16 16)).reply (t.jobRow w.job) tx 0x81 []) := by
  subst hid
  show execTokenSignal p vc s = _
  simp only [execTokenSignal, htx, hw]

theorem exec_tokenSignal_dropped (hw : t.windowCheck (tokenHome id) (txKey tx) (txSrc tx) none id true = .inr r) :
    exec (.tokenSignal p vc) s = .next (t.dropTx (tokenHome id) tx r 0) := by
  subst hid
  show execTokenSignal p vc s = _
  simp only [execTokenSignal, htx, hw]

end

end

/-! ## The path between a port and a row (R520) -/

section
variable {s : State} {p : Nat}

theorem State.portCheck_sound (h : ∀ x ∈ s.pathFaults, x ≠ 64 * Config.rows + 400 + p) :
    s.portCheck p = (s, false) := by
  have hkept : s.pathFaults.filter (fun x => x != 64 * Config.rows + 400 + p) = s.pathFaults :=
    List.filter_eq_self.mpr fun x hx => bne_iff_ne.mpr (h x hx)
  have hnone : s.pathFaults.contains (64 * Config.rows + 400 + p) = false :=
    Bool.eq_false_iff.mpr fun hc => h _ (List.contains_iff_mem.mp hc) rfl
  rw [State.portCheck, hkept, hnone]

theorem State.portCheck_faulty (h : 64 * Config.rows + 400 + p ∈ s.pathFaults) :
    (s.portCheck p).2 = true ∧ 64 * Config.rows + 400 + p ∉ (s.portCheck p).1.pathFaults :=
  ⟨List.contains_iff_mem.mpr h, fun hmem => bne_iff_ne.mp (List.mem_filter.mp hmem).2 rfl⟩

end

/-- Settles O49: the commands without a transaction, then each request by its window check, and the check of the path. -/
theorem requestsFromOtherPackages : Obligations.RequestsFromOtherPackages := by
  unfold Obligations.RequestsFromOtherPackages
  refine ⟨fun s p vc h => ?_,
    fun s t p vc k row tx htx hrow => ⟨fun w u bad => exec_rowWrite_passed htx hrow,
      fun r => exec_rowWrite_dropped htx hrow⟩,
    fun s t p vc k row tx htx hrow => ⟨fun w u bad => exec_rowRead_passed htx hrow,
      fun r => exec_rowRead_dropped htx hrow⟩,
    fun s t p vc id tx htx hid => ⟨fun w => exec_tokenSignal_passed htx hid, fun r => exec_tokenSignal_dropped htx hid⟩,
    fun s p => State.portCheck_sound, fun s p => State.portCheck_faulty⟩
  obtain ⟨hwrite, hread, hsignal⟩ := exec_request_empty h
  obtain ⟨harrive, hrelease⟩ := exec_barrier_empty h
  obtain ⟨hparcel, hunblock⟩ := exec_parcel_empty h
  exact ⟨hwrite, hread, hsignal, harrive, hrelease, hparcel, hunblock, exec_reply_empty h⟩

end Sys2Proof.Machine
end

section
/-! SUPPORT. Replies of other packages, the batches that they count down, and requests that time out. -/

namespace Sys2Proof.Machine

/-! ## A reply and its request (R409, R431) -/

section
variable {s t : State} {p vc tt : Nat} {tx : List Byte} (htx : s.takeTx p vc tt = some (tx, t))
include htx

/-- A reply that answers no request is late. -/
theorem State.answer_late (f : State → List Byte → Req → State) (h : t.req? (txXid tx) = none) :
    s.answer p vc tt f = t.raiseIwl Flg.IWL_EVT_LATE_REPLY p := by
  simp only [State.answer, htx, h]

/-- Any other one ends its request. -/
theorem State.answer_met (f : State → List Byte → Req → State) {r : Req} (h : t.req? (txXid tx) = some r) :
    s.answer p vc tt f = f (t.dropReq r.xid) tx r := by
  simp only [State.answer, htx, h]

end

section
variable {s t : State} {p vc : Nat} {tx : List Byte} {r : Req} (h : t.req? (txXid tx) = some r)
include h

theorem exec_ack_write {uid : Nat} (htx : s.takeTx p vc 0x81 = some (tx, t)) (he : r.expect = .write uid) :
    exec (.ack p vc) s = .next ((t.dropReq r.xid).moveAnswered uid) := by
  show execAck p vc s = _
  rw [execAck, State.answer_met htx _ h, he]

theorem exec_ack_batch {id : Nat} {b : Bool} (htx : s.takeTx p vc 0x81 = some (tx, t)) (he : r.expect = .batch id b) :
    exec (.ack p vc) s = .next ((t.dropReq r.xid).batchAnswered id) := by
  show execAck p vc s = _
  rw [execAck, State.answer_met htx _ h, he]

theorem exec_readData_read {uid i : Nat} (htx : s.takeTx p vc 0x82 = some (tx, t)) (he : r.expect = .read uid i) :
    exec (.readData p vc) s = .next ((t.dropReq r.xid).moveArrived uid i (tx.drop 16)) := by
  show execReadData p vc s = _
  rw [execReadData, State.answer_met htx _ h, he]

theorem exec_refuse_met (htx : s.takeTx p vc 0x83 = some (tx, t)) : exec (.refuse p vc) s = .next
    ((t.dropReq r.xid).endReq r (if txArg tx = 6 then 0x0502 else 0x0201)).settle := by
  show execRefuse p vc s = _
  rw [execRefuse, State.answer_met htx _ h, refusalStatus]

theorem exec_parcelAck_batch {id : Nat} {b : Bool} (htx : s.takeTx p vc 0x84 = some (tx, t))
    (he : r.expect = .batch id b) : exec (.parcelAck p vc) s = .next ((t.dropReq r.xid).batchAnswered id) := by
  show execParcelAck p vc s = _
  rw [execParcelAck, State.answer_met htx _ h, he]

end

/-! ## Batches (R449) -/

section
variable {s : State} {id : Nat} {b : DispBatch} (hb : s.iwl.batches.find? (fun b => b.id == id) = some b)
include hb

theorem State.batchAnswered_last (h : b.left ≤ 1) : s.batchAnswered id = State.signal { s with iwl := { s.iwl with
    batches := s.iwl.batches.filter (fun x => x.id != id) } } (s.get Fld.IWL_DISP_CFG_DONE_TOKEN b.disp) 1 := by
  rw [State.batchAnswered, hb]
  exact if_pos h

theorem State.batchAnswered_more (h : 1 < b.left) : s.batchAnswered id = { s with iwl := { s.iwl with
    batches := s.iwl.batches.map (fun x => if x.id = id then { x with left := x.left - 1 } else x) } } := by
  rw [State.batchAnswered, hb]
  exact if_neg (Nat.not_le.mpr h)

end

/-! ## Time-outs (R431) -/

section
variable {s : State} {xid : Nat}

theorem exec_remoteTimeout_none (h : s.req? xid = none) : exec (.remoteTimeout xid) s = .next s := by
  show execRemoteTimeout xid s = _
  rw [execRemoteTimeout, h]

variable {r : Req} (h : s.req? xid = some r)
include h

theorem exec_remoteTimeout_waits
    (hw : r.expect.exempt = true ∨ s.refTime < r.issued + s.get Fld.IWL_TIMEOUT_US 0 * Config.us) :
    exec (.remoteTimeout xid) s = .next s := by
  show execRemoteTimeout xid s = _
  rw [execRemoteTimeout, h]
  exact congrArg _ (if_pos hw)

theorem exec_remoteTimeout_passed (he : r.expect.exempt = false)
    (hp : r.issued + s.get Fld.IWL_TIMEOUT_US 0 * Config.us ≤ s.refTime) : exec (.remoteTimeout xid) s = .next
      (((s.raiseIwl Flg.IWL_EVT_REMOTE_TIMEOUT r.port).dropReq xid).endReq r 0x0501).settle := by
  show execRemoteTimeout xid s = _
  rw [execRemoteTimeout, h]
  exact congrArg _ (if_neg (by simp [he, hp]))

end

/-- Settles O51: a reply by whether it finds its request, a batch by what is left of it, and a request by its limit. -/
theorem repliesReachTheirRequests : Obligations.RepliesReachTheirRequests := by
  unfold Obligations.RepliesReachTheirRequests
  refine ⟨fun s t p vc tx h => ⟨fun htx => ?_, fun htx => ?_, fun htx => ?_, fun htx => ?_⟩,
    fun s t p vc tx r h => ⟨fun uid => exec_ack_write h, fun id b => exec_ack_batch h,
      fun uid i => exec_readData_read h, exec_refuse_met h, fun id b => exec_parcelAck_batch h⟩,
    fun s id b hb => ⟨State.batchAnswered_last hb, State.batchAnswered_more hb⟩,
    fun s xid => ⟨exec_remoteTimeout_none,
      fun r h => ⟨exec_remoteTimeout_waits h, exec_remoteTimeout_passed h⟩⟩⟩
  all_goals exact congrArg Host.Outcome.next (State.answer_late htx _ h)

end Sys2Proof.Machine
end

section
/-! SUPPORT. The 32-bit integer accumulator: it saturates only where an exact sum leaves its range. -/

namespace Sys2Proof.Machine

/-! ## One addition (R146) -/

theorem addSat32_eq {a b : Int} (hlo : -2 ^ 31 ≤ a + b) (hhi : a + b < 2 ^ 31) : addSat32 a b = (a + b, false) := by
  have hnlo : ¬ a + b < -2147483648 := by omega
  have hnhi : ¬ a + b > 2147483647 := by omega
  rw [addSat32, if_neg hnlo, if_neg hnhi]

theorem addSat32_inRange (a b : Int) : -2 ^ 31 ≤ (addSat32 a b).1 ∧ (addSat32 a b).1 < 2 ^ 31 := by
  dsimp only [addSat32]
  split
  · decide
  · split
    · decide
    · dsimp only
      omega

/-! ## A list of chunk sums (R136, R146) -/

/-- Without a saturation at any partial sum, the accumulator is the sum. -/
theorem intAccumulate_eq_sum {a : Int} {l : List Int}
    (h : ∀ n, n ≤ l.length → -2 ^ 31 ≤ a + (l.take n).sum ∧ a + (l.take n).sum < 2 ^ 31) :
    intAccumulate (a, false) l = (a + l.sum, false) := by
  induction l generalizing a with
  | nil => rw [intAccumulate, List.sum_nil, Int.add_zero]
  | cons t rest ih =>
    have hfirst : addSat32 a t = (a + t, false) := by
      obtain ⟨hlo, hhi⟩ := h 1 (Nat.succ_le_succ (Nat.zero_le _))
      simp only [List.take_succ_cons, List.take_zero, List.sum_cons, List.sum_nil, Int.add_zero] at hlo hhi
      exact addSat32_eq hlo hhi
    have hrest : intAccumulate (a + t, false) rest = (a + t + rest.sum, false) := ih fun n hn => by
      have hnext := h (n + 1) (Nat.succ_le_succ hn)
      rwa [List.take_succ_cons, List.sum_cons, ← Int.add_assoc] at hnext
    rw [intAccumulate, hfirst, List.sum_cons, ← Int.add_assoc]
    exact hrest

/-- Each addition saturates to the range, whatever was added before. -/
theorem intAccumulate_inRange {a : Int} (f : Bool) (l : List Int) (hlo : -2 ^ 31 ≤ a) (hhi : a < 2 ^ 31) :
    -2 ^ 31 ≤ (intAccumulate (a, f) l).1 ∧ (intAccumulate (a, f) l).1 < 2 ^ 31 := by
  induction l generalizing a f with
  | nil => exact ⟨hlo, hhi⟩
  | cons t rest ih =>
    obtain ⟨hlo', hhi'⟩ := addSat32_inRange a t
    exact ih _ hlo' hhi'

/-! ## An output of a product (R153) -/

section
variable {x : Gemm} {m n : Nat} (haccum : x.accum = false)
  (h : ∀ j, j ≤ x.chunks → -2 ^ 31 ≤ ((List.range j).map (x.chunkSum m n)).sum ∧
    ((List.range j).map (x.chunkSum m n)).sum < 2 ^ 31)
include haccum h

/-- A product without ACCUM starts at 0, and its partial sums are those of its first chunks. -/
theorem Gemm.intAcc_eq_sum : x.intAcc m n = (((List.range x.chunks).map (x.chunkSum m n)).sum, false) := by
  rw [Gemm.intAcc, haccum, if_neg Bool.false_ne_true, intAccumulate_eq_sum, Int.zero_add]
  intro j hj
  rw [List.length_map, List.length_range] at hj
  rw [Int.zero_add, ← List.map_take, List.take_range, Nat.min_eq_left hj]
  exact h j hj

theorem Gemm.intOut_int32 (even : Bool) (hout : x.out = .int32) : x.intOut even m n =
    ⟨unsigned 32 ((List.range x.chunks).map (x.chunkSum m n)).sum, false, false, false, false, none, none⟩ := by
  rw [Gemm.intOut, hout, Gemm.intAcc_eq_sum haccum h]

end

/-- Settles O29: the list by induction, one addition at a time, and an output as the list of its chunk sums. -/
theorem integerAccumulatorSaturatesOnly : Obligations.IntegerAccumulatorSaturatesOnly := by
  unfold Obligations.IntegerAccumulatorSaturatesOnly
  exact ⟨fun _ _ => intAccumulate_eq_sum, fun _ f l => intAccumulate_inRange f l,
    fun _ even _ _ hout haccum h => Gemm.intOut_int32 haccum h even hout⟩

end Sys2Proof.Machine
end

section
/-! SUPPORT. What MATMUL, CONV, VEC and POOL come to: the check of the payload, the check of the regions, and the run. -/

namespace Sys2Proof.Machine

/-! ## A command that is checked and runs -/

/-- A payload that its check accepts is run; any other ends the command with BAD_FIELD. -/
def State.checkedRun {α : Type} (t : State) (uid : Nat) (check : Option Nat) (payload : Option α) (run : α → State) :
    State :=
  match check, payload with
  | none, some x => run x
  | _, _ => t.finish uid 0x0102 0

section
variable {α : Type} {t : State} {uid : Nat} {check : Option Nat} {payload : Option α} {run : α → State}

theorem State.checkedRun_refused (h : ∀ x, check = none → payload = some x → False) :
    t.checkedRun uid check payload run = t.finish uid 0x0102 0 := by
  cases check with
  | some st => rfl
  | none =>
    cases payload with
    | none => rfl
    | some x => exact (h x rfl rfl).elim

theorem State.checkedRun_accepted {x : α} (h : check = none) (hx : payload = some x) :
    t.checkedRun uid check payload run = run x := by
  rw [h, hx]
  rfl

/-- The three ends of a command that checks its payload and then its regions. -/
theorem State.checkedRun_ends {within : Bool} {formed : α → State} {e : Host.Outcome State Fault Refusal}
    (he : e = .next (t.checkedRun uid check payload run))
    (hrun : ∀ x, run x = if within = true then formed x else t.finish uid 0x0204 0) :
    (check ≠ none → e = .next (t.finish uid 0x0102 0)) ∧
      ∀ x, check = none → payload = some x →
        (within = true → e = .next (formed x)) ∧ (within = false → e = .next (t.finish uid 0x0204 0)) := by
  subst he
  refine ⟨fun h => congrArg _ (checkedRun_refused fun _ hnone _ => h hnone), fun x h hx => ?_⟩
  rw [checkedRun_accepted h hx, hrun x]
  exact ⟨fun hin => congrArg _ (if_pos hin), fun hout => congrArg _ (if_neg (Bool.eq_false_iff.mp hout))⟩

end

/-! ## The four commands check their payload (R158, R168, R207, R212) -/

section
variable {s : State} {uid beats : Nat} {c : Cmd}

theorem exec_matmul_checked (hc : s.runningCmd uid 0x01 = some c) :
    exec (.matmul uid beats) s = .next ((s.chargeCmd c beats).checkedRun uid (matmulCheck c.desc)
      (Matmul.ofBytes c.desc) ((s.chargeCmd c beats).runMatmul c)) := by
  show execMatmul uid beats s = _
  rw [execMatmul, hc]
  dsimp only
  split
  next x h hx => rw [State.checkedRun_accepted h hx]
  next h => rw [State.checkedRun_refused h]

theorem exec_conv_checked (hc : s.runningCmd uid 0x02 = some c) :
    exec (.conv uid beats) s = .next ((s.chargeCmd c beats).checkedRun uid (convCheck c.desc)
      (Conv.ofBytes c.desc) ((s.chargeCmd c beats).runConv c)) := by
  show execConv uid beats s = _
  rw [execConv, hc]
  dsimp only
  split
  next x h hx => rw [State.checkedRun_accepted h hx]
  next h => rw [State.checkedRun_refused h]

theorem exec_vec_checked (hc : s.runningCmd uid 0x04 = some c) :
    exec (.vec uid beats) s = .next ((s.chargeCmd c beats).checkedRun uid (vecCheck c.desc)
      (Vec.ofBytes c.desc) ((s.chargeCmd c beats).runVec c)) := by
  show execVec uid beats s = _
  rw [execVec, hc]
  dsimp only
  split
  next x h hx => rw [State.checkedRun_accepted h hx]
  next h => rw [State.checkedRun_refused h]

theorem exec_pool_checked (hc : s.runningCmd uid 0x03 = some c) :
    exec (.pool uid beats) s = .next ((s.chargeCmd c beats).checkedRun uid (poolCheck c.desc)
      (Pool.ofBytes c.desc) ((s.chargeCmd c beats).runPool c)) := by
  show execPool uid beats s = _
  rw [execPool, hc]
  dsimp only
  split
  next x h hx => rw [State.checkedRun_accepted h hx]
  next h => rw [State.checkedRun_refused h]

end

/-- Settles O27: the three ends of a checked command, for the run of each of the four. -/
theorem loomAndVectorCommandsRun : Obligations.LoomAndVectorCommandsRun := by
  unfold Obligations.LoomAndVectorCommandsRun
  refine ⟨⟨?_, ?_⟩, ?_, ?_⟩
  all_goals
    rintro s t uid beats c hc rfl
    obtain rfl := State.uid_of_runningCmd hc
  · -- MATMUL
    exact State.checkedRun_ends (exec_matmul_checked hc) fun _ => rfl
  · -- CONV
    exact State.checkedRun_ends (exec_conv_checked hc) fun _ => rfl
  · -- VEC
    obtain ⟨hbad, hrun⟩ := State.checkedRun_ends (exec_vec_checked (beats := beats) hc) fun _ => rfl
    exact ⟨hbad, fun x os h hx hos => hos ▸ hrun x h hx⟩
  · -- POOL
    obtain ⟨hbad, hrun⟩ := State.checkedRun_ends (exec_pool_checked (beats := beats) hc) fun _ => rfl
    exact ⟨hbad, fun x os h hx hos => hos ▸ hrun x h hx⟩

end Sys2Proof.Machine
end

section
/-! SUPPORT. The KV cache: how a KVAPPEND starts, waits, times out and commits, what a flush finds in the free ring, and
the set-up of the pool. -/

namespace Sys2Proof.Machine

theorem State.phase_of_runningCmd {s : State} {uid op : Nat} {c : Cmd} (h : s.runningCmd uid op = some c) :
    c.phase = .running := by
  unfold State.runningCmd at h
  split at h
  next d hd =>
    split at h
    next hrun =>
      obtain rfl := Option.some.inj h
      exact hrun.1
    next => contradiction
  next => contradiction

theorem State.chargeCmd_refTime (s : State) (c : Cmd) (beats : Nat) : (s.chargeCmd c beats).refTime = s.refTime := by
  unfold State.chargeCmd
  split <;> rfl

/-! ## The start of a KVAPPEND (R230, R231) -/

section
variable {t : State} {c : Cmd} {b : Nat}

theorem State.appendStart_refused {st : Nat} (h : appendCheck t c.job c.stream c.desc = some st) :
    t.appendStart c = t.finish c.uid st 0 := by
  unfold State.appendStart
  dsimp only
  rw [h]

theorem State.appendStart_accepted (h : appendCheck t c.job c.stream c.desc = none)
    (hb : tagBytes (t.ctxTag c.stream) = some b) :
    t.appendStart c =
      if t.inRegions c.job ((Append.ofBytes c.desc).reads (t.ctxD c.stream) b) = false ∨
          t.appendFits c.stream b (Append.ofBytes c.desc) = false then t.finish c.uid 0x0204 0
      else if t.appendReady c.stream b (Append.ofBytes c.desc) = true then t.appendProceed c b (Append.ofBytes c.desc)
      else t.modCmd c.uid (fun c => { c with work := .appendWait, since := t.refTime }) := by
  unfold State.appendStart
  dsimp only
  rw [h, hb]
  dsimp only
  cases t.inRegions c.job ((Append.ofBytes c.desc).reads (t.ctxD c.stream) b) with
  | false => rw [if_pos (by rfl), if_pos (.inl rfl)]
  | true => cases t.appendFits c.stream b (Append.ofBytes c.desc) <;> rfl

end

section
variable {s : State} {uid : Nat} {c : Cmd} (hc : s.runningCmd uid 0x06 = some c)
include hc

theorem exec_kvappend_starts (beats : Nat) (hw : c.work = .plain) (hturn : s.kvTurn c = true) :
    exec (.kvappend uid beats) s = .next ((s.chargeCmd c beats).appendStart c) := by
  show execKvappend uid beats s = _
  rw [execKvappend, hc]
  exact congrArg _ (if_pos ⟨hw, hturn⟩)

/-- One that has started, and one whose turn has not come, is left as it is. -/
theorem exec_kvappend_left (beats : Nat) (h : c.work ≠ .plain ∨ s.kvTurn c = false) :
    exec (.kvappend uid beats) s = .next s := by
  show execKvappend uid beats s = _
  rw [execKvappend, hc]
  refine congrArg _ (if_neg fun ⟨hplain, hturn⟩ => ?_)
  rcases h with hw | hout
  · exact hw hplain
  · simp [hturn] at hout

/-! ## A KVAPPEND that waits (R231) -/

section
variable {b : Nat} (hw : c.work = .appendWait) (hb : tagBytes (s.ctxTag c.stream) = some b)
include hw hb

/-- A waiting KVAPPEND is due where what it waits for holds. -/
theorem State.appendDue_waiting : s.appendDue c = s.appendReady c.stream b (Append.ofBytes c.desc) := by
  unfold State.appendDue
  rw [State.phase_of_runningCmd hc, hw, hb]
  rfl

theorem exec_kvappendWaitEnd_waiting : exec (.kvappendWaitEnd uid) s = .next
    (if (s.appendReady c.stream b (Append.ofBytes c.desc) && s.kvTurn c) = true then
      s.appendProceed c b (Append.ofBytes c.desc) else s) := by
  rw [← State.appendDue_waiting hc hw hb]
  show execKvappendWaitEnd uid s = _
  rw [execKvappendWaitEnd, hc]
  dsimp only
  rw [hw, hb]

theorem exec_kvappendTimeout_late (hready : s.appendReady c.stream b (Append.ofBytes c.desc) = false)
    (hlate : c.since + s.kvWaitMax ≤ s.refTime) :
    exec (.kvappendTimeout uid) s = .next ((s.finish uid 0x0402 0).raise Flg.MEMC_KV_EVT_APPEND_TIMEOUT 0) := by
  have hdue : s.appendDue c = false := (State.appendDue_waiting hc hw hb).trans hready
  show execKvappendTimeout uid s = _
  rw [execKvappendTimeout, hc]
  exact congrArg _ (if_pos ⟨hw, hdue, hlate⟩)

/-- A command that is ready is not timed out, however long it has waited. -/
theorem exec_kvappendTimeout_ready (hready : s.appendReady c.stream b (Append.ofBytes c.desc) = true) :
    exec (.kvappendTimeout uid) s = .next s := by
  have hdue : s.appendDue c = true := (State.appendDue_waiting hc hw hb).trans hready
  show execKvappendTimeout uid s = _
  rw [execKvappendTimeout, hc]
  exact congrArg _ (if_neg fun ⟨_, hnot, _⟩ => by simp [hdue] at hnot)

end

theorem exec_kvappendTimeout_early (hearly : s.refTime < c.since + s.kvWaitMax) :
    exec (.kvappendTimeout uid) s = .next s := by
  show execKvappendTimeout uid s = _
  rw [execKvappendTimeout, hc]
  exact congrArg _ (if_neg fun ⟨_, _, hlate⟩ => Nat.not_le.mpr hearly hlate)

/-! ## A KVAPPEND that waits for its flush (R234) -/

theorem exec_flushDeadline_late {len : Nat} (hw : c.work = .appendFlush len)
    (hlate : c.since + s.kvWaitMax ≤ s.refTime) :
    exec (.flushDeadline uid) s = .next (((s.modCmd uid (fun c => { c with work := .plain })).finish uid 0x0402 len).raise
      Flg.MEMC_KV_EVT_APPEND_TIMEOUT 0) := by
  show execFlushDeadline uid s = _
  rw [execFlushDeadline, hc]
  dsimp only
  rw [hw]
  exact congrArg _ (if_pos hlate)

theorem exec_flushDeadline_early (hearly : s.refTime < c.since + s.kvWaitMax) :
    exec (.flushDeadline uid) s = .next s := by
  show execFlushDeadline uid s = _
  rw [execFlushDeadline, hc]
  dsimp only
  split
  · exact congrArg _ (if_neg (Nat.not_le.mpr hearly))
  · rfl

/-! ## The commit (R232, R234) -/

/-- A commit that reads its rows and asks for no flush ends with the new length. -/
theorem exec_kvappendCommit_unflushed {b : Nat} {new : Option Nat} {x : Append} {t : State}
    (hw : c.work = .appendWrite new) (hb : tagBytes (s.ctxTag c.stream) = some b) (hx : x = Append.ofBytes c.desc)
    (hread : s.readRows x.skein c.engine.source uid (rowsOf (x.reads (s.ctxD c.stream) b)) = (s, 0))
    (ht : t = ((s.chargeAppend c x b).appendLand c b new).modCmd uid
      (fun y => { y with digest := x.digest s c.stream }))
    (hflush : x.flush = false) : exec (.kvappendCommit uid) s =
      .next (((t.modCmd uid (fun c => { c with work := .plain })).finish uid 0 (t.ctxLen c.stream)).kvSweep) := by
  subst hx ht
  show execKvappendCommit uid s = _
  rw [execKvappendCommit, hc]
  dsimp only
  rw [hw, hb]
  dsimp only
  rw [hread]
  refine congrArg _ ((if_pos rfl).trans (if_neg ?_))
  simp [hflush]

end

/-! ## Flushes (R233, R235) -/

section
variable {s : State} {stream : Nat}

/-- A stream without a pending slot, and one that found the ring empty, has nothing to flush now. -/
theorem exec_slotFlush_left (h : s.ctxPendSlot stream = 0xFF ∨ stream ∈ s.kv.starved) :
    exec (.slotFlush stream) s = .next s := congrArg _ (if_pos h)

theorem State.takePage_empty (n : Nat) (h : s.freeRing = 0) : s.takePage (n + 1) = (s, none) := by
  rw [State.takePage, if_pos h]

theorem State.takePage_valid (n : Nat) (h : s.freeRing ≠ 0)
    (hp : s.takeEntry.2 < s.get Fld.MEMC_KV_POOL_PAGES_PAGES 0) :
    s.takePage (n + 1) = (s.takeEntry.1, some s.takeEntry.2) := by
  rw [State.takePage, if_neg h]
  exact if_pos hp

variable (hslot : s.ctxPendSlot stream ≠ 0xFF) (hfed : ¬ stream ∈ s.kv.starved)
include hslot hfed

theorem exec_slotFlush_empty (h : s.freeRing = 0) : exec (.slotFlush stream) s = .next
    (({ s with kv := { s.kv with starved := s.kv.starved ++ [stream] } }).raise Flg.MEMC_KV_EVT_POOL_EMPTY 0) := by
  show execSlotFlush stream s = _
  rw [execSlotFlush, if_neg (not_or_intro hslot hfed), State.takePage_empty _ h]

theorem exec_slotFlush_takes (h : s.freeRing ≠ 0) (hp : s.takeEntry.2 < s.get Fld.MEMC_KV_POOL_PAGES_PAGES 0) :
    exec (.slotFlush stream) s = .next
      (((s.takeEntry.1.flushInto stream s.takeEntry.2).count Fld.MEMC_KV_CNT_FLUSH_COUNT 0 1).flushDone stream).kvSweep := by
  show execSlotFlush stream s = _
  rw [execSlotFlush, if_neg (not_or_intro hslot hfed), State.takePage_valid _ h hp]

end

/-! ## Set-up (R235, R236, R258) -/

theorem State.get_set_freeTail (s : State) {tail : Nat} (ht : tail < 2 ^ 32) :
    (s.set Fld.MEMC_KV_FREE_TAIL_TAIL 0 tail).get Fld.MEMC_KV_FREE_TAIL_TAIL 0 = tail :=
  (s.get_set_same _ _ _).trans (Nat.mod_eq_of_lt ht)

section
variable {s : State} (hs : s.setUp = true)
include hs

theorem exec_kvEnableWrite_on : exec (.kvEnableWrite true) s = .next (s.set Fld.MEMC_KV_CTRL_ENABLE 0 1) :=
  congrArg _ (State.host_up _ hs)

theorem exec_kvEnableWrite_off (hslots : s.get Fld.MEMC_KV_STATUS_SLOTS_USED 0 = 0)
    (hnames : ∀ c ∈ s.cmds, c.namesStream = false) :
    exec (.kvEnableWrite false) s = .next (s.set Fld.MEMC_KV_CTRL_ENABLE 0 0) := by
  have hany : s.cmds.any Cmd.namesStream = false := List.any_eq_false.mpr fun c hc => by simp [hnames c hc]
  show execKvEnableWrite false s = _
  rw [execKvEnableWrite, State.host_up _ hs]
  exact congrArg _ ((if_neg Bool.false_ne_true).trans (if_neg (by simp [hslots, hany])))

theorem exec_kvEnableWrite_refused
    (h : s.get Fld.MEMC_KV_STATUS_SLOTS_USED 0 ≠ 0 ∨ ∃ c ∈ s.cmds, c.namesStream = true) :
    exec (.kvEnableWrite false) s = .next (s.raise Flg.MEMC_KV_EVT_CFG_REFUSED 0) := by
  have hused : (s.get Fld.MEMC_KV_STATUS_SLOTS_USED 0 != 0 || s.cmds.any Cmd.namesStream) = true :=
    (Bool.or_eq_true _ _).mpr (h.imp bne_iff_ne.mpr List.any_eq_true.mpr)
  show execKvEnableWrite false s = _
  rw [execKvEnableWrite, State.host_up _ hs]
  exact congrArg _ ((if_neg Bool.false_ne_true).trans (if_pos hused))

/-- A tail that moves feeds the flushes that found the ring empty. -/
theorem exec_freeTailWrite_up {tail : Nat} (ht : tail < 2 ^ 32) : exec (.freeTailWrite tail) s = .next
    (if s.get Fld.MEMC_KV_FREE_TAIL_TAIL 0 = tail then s.set Fld.MEMC_KV_FREE_TAIL_TAIL 0 tail
      else { s.set Fld.MEMC_KV_FREE_TAIL_TAIL 0 tail with kv := { s.kv with starved := [] } }) := by
  show execFreeTailWrite tail s = _
  rw [execFreeTailWrite, State.host_up _ hs]
  dsimp only
  rw [s.get_set_freeTail ht]
  rfl

theorem exec_freeTailWrite_feeds (tail : Nat) (ht : tail < 2 ^ 32) : ∃ t, exec (.freeTailWrite tail) s = .next t ∧
    t.get Fld.MEMC_KV_FREE_TAIL_TAIL 0 = tail ∧
    (tail ≠ s.get Fld.MEMC_KV_FREE_TAIL_TAIL 0 → t.kv = { s.kv with starved := [] }) ∧
    (tail = s.get Fld.MEMC_KV_FREE_TAIL_TAIL 0 → t.kv = s.kv) ∧
    SetsOnly { s with kv := t.kv } t [(Fld.MEMC_KV_FREE_TAIL_TAIL, 0, tail)] := by
  refine ⟨_, exec_freeTailWrite_up hs ht, ?_⟩
  have hsets : ∀ kv, SetsOnly { s with kv := kv } { s.set Fld.MEMC_KV_FREE_TAIL_TAIL 0 tail with kv := kv }
      [(Fld.MEMC_KV_FREE_TAIL_TAIL, 0, tail)] := fun kv => SetsOnly.one { s with kv := kv } _ _ _ ht
  have hback := s.get_set_freeTail ht
  split
  next h => exact ⟨hback, fun hn => absurd h.symm hn, fun _ => rfl, hsets s.kv⟩
  next h => exact ⟨hback, fun _ => rfl, fun he => absurd he.symm h, hsets { s.kv with starved := [] }⟩

theorem exec_dropStage_refused {stream : Nat} (h : s.streamNamed stream = true ∨ s.ctxPendSlot stream ≠ 0xFF) :
    exec (.dropStage stream) s = .next (s.raise Flg.MEMC_KV_EVT_CFG_REFUSED 0) := by
  have hbusy : (s.streamNamed stream || s.ctxPendSlot stream != 0xFF) = true :=
    (Bool.or_eq_true _ _).mpr (h.imp_right bne_iff_ne.mpr)
  show execDropStage stream s = _
  rw [execDropStage, State.host_up _ hs]
  exact congrArg _ (if_pos hbusy)

theorem exec_dropStage_drops {stream : Nat} (hnamed : s.streamNamed stream = false)
    (hslot : s.ctxPendSlot stream = 0xFF) : exec (.dropStage stream) s = .next
      ((((s.ctxPut stream 16 4 (s.ctxLen stream + 2 ^ 32 - s.ctxStaged stream)).ctxPut stream 24 2 0).ctxPut
        stream 22 1 0xFF).kvSweep) := by
  show execDropStage stream s = _
  rw [execDropStage, State.host_up _ hs]
  exact congrArg _ (if_neg (by simp [hnamed, hslot]))

end

/-- Settles O33: a KVAPPEND by the stage of its work, a flush by what the ring holds, and each set-up access by what it
asks of the pool. -/
theorem kvAppendsFlushesAndSetUp : Obligations.KvAppendsFlushesAndSetUp := by
  unfold Obligations.KvAppendsFlushesAndSetUp
  refine ⟨fun s uid b c x hc hx => ?_, fun s stream => ?_, ?_⟩
  · -- KVAPPEND
    subst hx
    obtain rfl := State.uid_of_runningCmd hc
    refine ⟨fun beats t hw ht => ⟨fun st h hturn => ?_, fun h hb => ?_⟩,
      fun beats hw => exec_kvappend_left hc beats (.inl hw), fun hw hb => ⟨fun hready hturn => ?_, fun h => ?_⟩,
      exec_kvappendTimeout_late hc,
      fun hearly => ⟨exec_kvappendTimeout_early hc hearly, exec_flushDeadline_early hc hearly⟩,
      exec_kvappendTimeout_ready hc, fun len => exec_flushDeadline_late hc,
      fun new t hw hb hread ht hflush => exec_kvappendCommit_unflushed hc hw hb rfl hread ht hflush⟩
    · -- a bad field
      rw [exec_kvappend_starts hc beats hw hturn, ← ht, State.appendStart_refused h]
    · -- the start of one that is accepted
      cases hturn : s.kvTurn c with
      | false => exact exec_kvappend_left hc beats (.inr hturn)
      | true =>
        have htime : t.refTime = s.refTime := ht ▸ s.chargeCmd_refTime c beats
        rw [exec_kvappend_starts hc beats hw hturn, ← ht, State.appendStart_accepted h hb, htime]
        rfl
    · rw [exec_kvappendWaitEnd_waiting hc hw hb, hready, hturn]
      rfl
    · rw [exec_kvappendWaitEnd_waiting hc hw hb]
      exact congrArg _ (if_neg (by rcases h with h | h <;> simp [h]))
  · -- SLOT_FLUSH
    exact ⟨fun h => exec_slotFlush_left (.inl h),
      fun hslot hfed => ⟨exec_slotFlush_empty hslot hfed, exec_slotFlush_takes hslot hfed⟩⟩
  · -- the set-up
    exact ⟨fun s hs => ⟨_, exec_kvEnableWrite_on hs, SetsOnly.one s _ _ _ (by decide)⟩,
      fun s hs hslots hnames => ⟨_, exec_kvEnableWrite_off hs hslots hnames, SetsOnly.one s _ _ _ (by decide)⟩,
      fun s hs => exec_kvEnableWrite_refused hs, fun s tail hs => exec_freeTailWrite_feeds hs tail,
      fun s stream hs => exec_dropStage_refused hs, fun s stream hs => exec_dropStage_drops hs⟩

end Sys2Proof.Machine
end

section
/-! SUPPORT. Fused attention: its field check and its snapshot, the ends of a run by its regions, its stream and its rows,
and what its completion writes. -/

namespace Sys2Proof.Machine

/-! ## The field check (R224, R240) -/

section
variable {s : State} {job stream : Nat} {b : List Byte}

/-- The check has one status to refuse with. -/
theorem attnCheck_status {st : Nat} (h : attnCheck s job stream b = some st) : st = 0x0102 := by
  unfold attnCheck at h
  split at h
  · exact (Option.some.inj h).symm
  split at h
  · exact (Option.some.inj h).symm
  · exact (Option.some.inj (Option.ite_none_left_eq_some.mp h).2).symm

theorem attnCheck_foreign (h : s.streamOk job stream = false) : attnCheck s job stream b = some 0x0102 :=
  if_pos (by simp [h])

theorem attnCheck_noAttn (h : Attn.ofBytes b = none) : attnCheck s job stream b = some 0x0102 := by
  unfold attnCheck
  rw [h]
  exact ite_self _

end

/-! ## The start (R241) -/

theorem State.startWork_attn (s : State) {c : Cmd} (hop : c.opcode = 0x05) (heng : ∀ h, c.engine ≠ .ply h) :
    s.startWork c = if attnCheck s c.job c.stream c.desc = none then s.takeSnapshot c else s := by
  unfold State.startWork
  split
  next h hply => exact absurd hply (heng h)
  next => simp [hop]

/-! ## The two ends of the command's step -/

section
variable {s t : State} {uid beats vecBeats : Nat} {c : Cmd} (hc : s.runningCmd uid 0x05 = some c)
  (ht : t = (s.chargeCmd c beats).spend (.vec c.engine.skein) (some c) (s.accountRow c) vecBeats)
include hc ht

/-- Without a payload or a snapshot there is nothing to run. -/
theorem exec_attn_refused (h : Attn.ofBytes c.desc = none ∨ ∀ v, c.work ≠ .snap v) :
    exec (.attn uid beats vecBeats) s = .next (t.finish uid 0x0102 0) := by
  subst ht
  show execAttn uid beats vecBeats s = _
  rw [execAttn, hc]
  dsimp only
  split
  next x v hx hw =>
    rcases h with h | h
    · simp [h] at hx
    · exact absurd hw (h v)
  next => rfl

theorem exec_attn_runs {x : Attn} {v : Snap} (hx : Attn.ofBytes c.desc = some x) (hw : c.work = .snap v) :
    exec (.attn uid beats vecBeats) s = .next (t.runAttn c x v) := by
  subst ht
  show execAttn uid beats vecBeats s = _
  rw [execAttn, hc]
  dsimp only
  rw [hx, hw]

end

/-! ## The outputs of each phase (R246, R247, R248) -/

section
variable {t : State} {c : Cmd} {x : Attn} {v : Snap}

theorem State.attnOutputs_merge (h : x.phase = .merge) : t.attnOutputs c x v =
    some (x.rowsOut ((List.range x.nq).map (x.mergeRow t c.engine.skein (t.ctxD c.stream)))) := by
  simp [State.attnOutputs, Attn.outputs, h]

/-- A stream that fails a check gives no outputs. -/
theorem State.attnOutputs_bad (h : x.phase ≠ .merge) (hbad : (t.runsOf x c.stream v).2 ≠ 0) :
    t.attnOutputs c x v = none := by
  simp [State.attnOutputs, h, hbad]

/-- A stream that passes is read block by block. -/
theorem State.attnOutputs_walked (h : x.phase ≠ .merge) (hok : (t.runsOf x c.stream v).2 = 0) :
    t.attnOutputs c x v = some (x.outputs t c.engine.skein (t.ctxD c.stream) (t.fixedTwist c.job)
      ((t.runsOf x c.stream v).1.map (fun q => q.blocks x)).flatten) := by
  simp [State.attnOutputs, h, hok]

/-! ## The ends of a run (R247) -/

theorem State.runAttn_outside (h : t.inRegions c.job (c.reads ++ c.writes) = false) :
    t.runAttn c x v = t.finish c.uid 0x0204 0 := by
  unfold State.runAttn
  exact if_pos (by simp [h])

section
variable (hin : t.inRegions c.job (c.reads ++ c.writes) = true)
include hin

theorem State.runAttn_stops (h : x.phase ≠ .merge) (hbad : (t.runsOf x c.stream v).2 ≠ 0) :
    t.runAttn c x v = if (t.runsOf x c.stream v).2 = 0x0103 then
        ((t.attnCut c x none).finish c.uid (t.runsOf x c.stream v).2 0).raise Flg.MEMC_KV_EVT_FORMAT 0
      else (t.attnCut c x none).finish c.uid (t.runsOf x c.stream v).2 0 := by
  unfold State.runAttn
  dsimp only
  rw [if_neg (by simp [hin]), State.attnOutputs_bad h hbad]
  simp only [State.doIf, State.attnStop, decide_eq_true_eq]

/-- Where its rows and the merged rows read clean, a run holds the rows that it has formed, or ends with the race that it
meets at its output rows. -/
theorem State.runAttn_forms {os : List Output} {u w : State} {r k : Nat} (hk : k = c.engine.skein)
    (hos : t.attnOutputs c x v = some os) (hu : u = t.chargePages c x v)
    (hread : u.readRows k c.engine.source c.uid (rowsOf c.reads) = (u, 0))
    (hmerged : u.readRows k c.engine.source c.uid ((outRows os).filter (partlyCovered os)) = (u, 0))
    (hmeet : u.meetRows k c.engine.source c.uid (rowsOf c.writes) = (w, r)) :
    t.runAttn c x v = if r = 0 then
        (((w.scribble (x.scratch k)).loomFlags k os).attnHold c v
            ((outRows os).map (fun row => (row, (formOutputs t k os).readRow k row)))).finish
          c.uid (if x.satReport && os.any (fun o => o.2.2.2.sat) then 0x0305 else 0) (satResult os)
      else ((w.scribble (x.scratch k)).loomFlags k os).finish c.uid r 0 := by
  subst hk hu
  unfold State.runAttn
  dsimp only
  rw [if_neg (by simp [hin]), hos]
  dsimp only
  rw [hread, if_neg (not_not_intro rfl), hmerged, if_pos rfl, hmeet]

end
end

/-! ## The completion (R247) -/

section
variable {s : State} {c : Cmd} {st : Nat} {v : Snap} {rows : List (Nat × List Byte)}
  (hw : c.work = .attnDone v rows)
include hw

theorem State.attnWrite_held (h : st = 0 ∨ st = 0x0305 ∨ st = 0x0601) (hown : c.stolen = false) :
    s.attnWrite c st = s.forEach rows (fun t row => t.writeRow c.engine.skein row.1 row.2) := by
  unfold State.attnWrite
  rw [hw]
  dsimp only
  rw [if_pos h, hown, State.doIf_false]

theorem State.attnWrite_none (hok : st ≠ 0) (hsat : st ≠ 0x0305) (hframe : st ≠ 0x0601) : s.attnWrite c st = s := by
  unfold State.attnWrite
  rw [hw]
  exact if_neg (not_or_intro hok (not_or_intro hsat hframe))

end

/-- Settles O30: the check by what it refuses, a start by the check, a run by its regions, its stream and its rows, and a
completion by its status. -/
theorem attnRuns : Obligations.AttnRuns := by
  unfold Obligations.AttnRuns
  refine ⟨fun s job stream b => ⟨fun st => attnCheck_status, fun h => h.elim attnCheck_foreign attnCheck_noAttn⟩,
    fun s c hop heng => ?_, fun s t uid beats vecBeats c hc ht => ?_,
    fun s c st v rows hw => ⟨State.attnWrite_held hw, State.attnWrite_none hw⟩⟩
  · -- the start
    rw [s.startWork_attn hop heng]
    exact ⟨fun h => if_pos h, fun h => if_neg h⟩
  · -- the run
    obtain rfl := State.uid_of_runningCmd hc
    refine ⟨exec_attn_refused hc ht, fun x v hx hw => ?_⟩
    rw [exec_attn_runs hc ht hx hw]
    refine ⟨fun hout => congrArg _ (State.runAttn_outside hout), fun st hst hph hin hbad => ?_,
      fun k dim blks os u w r hk hdim hin hos hu hread hmerged hmeet => ?_⟩
    · subst hbad
      exact congrArg _ (State.runAttn_stops hin hph hst)
    · refine congrArg _ (State.runAttn_forms hin hk ?_ hu hread hmerged hmeet)
      subst hk hdim
      rcases hos with ⟨hph, rfl⟩ | ⟨hph, hok, rfl, hfull, hpart⟩
      · exact State.attnOutputs_merge hph
      · rw [State.attnOutputs_walked hph hok, Attn.outputs]
        cases h : x.phase with
        | full => rw [hfull h]
        | partialRec => rw [hpart h]
        | merge => exact absurd h hph

end Sys2Proof.Machine
end

section
/-! SUPPORT. The ply engine: the ends of a SOLVE and of a DYN by their checks, their regions and the model, and a yield. -/

namespace Sys2Proof.Machine

/-! ## SOLVE (R272, R273) -/

section
variable {s t : State} {uid beats : Nat} {c : Cmd} (hc : s.runningCmd uid 0x07 = some c) (ht : t = s.chargeCmd c beats)
include hc ht

theorem exec_solve_refused (h : solveCheck t c.job c.issuer c.desc ≠ none) :
    exec (.solve uid beats) s = .next (t.finish uid 0x0102 0) := by
  subst ht
  show execSolve uid beats s = _
  rw [execSolve, hc]
  dsimp only
  split
  next hok _ => exact absurd hok h
  next => rfl

theorem exec_solve_accepted {x : Solve} (h : solveCheck t c.job c.issuer c.desc = none)
    (hx : Solve.ofBytes c.desc = some x) :
    exec (.solve uid beats) s = .next (if t.inRegions c.job (c.reads ++ c.writes) then
        t.endPly c x.skein (x.outputs (t.rangeEntry (x.skein / 8) x.rangeId)
            (x.items t (t.rangeEntry (x.skein / 8) x.rangeId)))
          (x.items t (t.rangeEntry (x.skein / 8) x.rangeId))
      else t.finish uid 0x0204 0) := by
  subst ht
  show execSolve uid beats s = _
  rw [execSolve, hc]
  dsimp only
  rw [h, hx]

end

/-! ## DYN (R284, R285) -/

section
variable {s t : State} {uid beats : Nat} {c : Cmd} (hc : s.runningCmd uid 0x08 = some c) (ht : t = s.chargeCmd c beats)
include hc ht

theorem exec_dyn_refused (h : dynCheck t c.job c.issuer c.desc ≠ none) :
    exec (.dyn uid beats) s = .next (t.finish uid 0x0102 0) := by
  subst ht
  show execDyn uid beats s = _
  rw [execDyn, hc]
  dsimp only
  split
  next hok _ => exact absurd hok h
  next => rfl

theorem exec_dyn_accepted {x : Dyn} (h : dynCheck t c.job c.issuer c.desc = none) (hx : Dyn.ofBytes c.desc = some x) :
    exec (.dyn uid beats) s = .next (if t.inRegions c.job (c.reads ++ c.writes) = false then t.finish uid 0x0204 0
      else if x.modelOk t = false then t.finish uid 0x0102 0
      else t.endPly c x.skein (x.outputs (x.items t (t.rangeEntry (x.skein / 8) x.rangeId)))
        (x.items t (t.rangeEntry (x.skein / 8) x.rangeId))) := by
  subst ht
  show execDyn uid beats s = _
  rw [execDyn, hc]
  dsimp only
  rw [h, hx]
  dsimp only
  cases (s.chargeCmd c beats).inRegions c.job (c.reads ++ c.writes) with
  | false => rfl
  | true =>
    cases x.modelOk (s.chargeCmd c beats) with
    | false => rfl
    | true => rfl

end

/-! ## The yield (R288) -/

section
variable {s : State} {h : Nat}

theorem exec_plyYield_yields {b : Nat} {c : Cmd} (hc : s.cmds.find? (fun c =>
      decide (c.engine = .ply h) && decide (c.phase = .running) && c.yieldReq) = some c) (hb : c.work = .bank b) :
    exec (.plyYield h) s =
      .next (((s.modCmd c.uid (fun c => { c with phase := .yielded, yieldReq := false })).setBank h b 2 c.job).count
        Fld.PLY_CNT_YIELD_COUNT h 1) := by
  show execPlyYield h s = _
  rw [execPlyYield, hc]
  dsimp only
  rw [hb]

theorem exec_plyYield_unasked (hno : ∀ c ∈ s.cmds, c.yieldReq = false) : exec (.plyYield h) s = .next s := by
  have hc : s.cmds.find? (fun c => decide (c.engine = .ply h) && decide (c.phase = .running) && c.yieldReq) = none :=
    List.find?_eq_none.mpr fun c hmem => by simp [hno c hmem]
  show execPlyYield h s = _
  rw [execPlyYield, hc]

end

/-- Settles O31: SOLVE and DYN by their checks, and a yield by the command that was asked. -/
theorem plyCommandsRun : Obligations.PlyCommandsRun := by
  unfold Obligations.PlyCommandsRun
  refine ⟨fun s t uid beats c hc ht => ⟨exec_solve_refused hc ht, ?_⟩,
    fun s t uid beats c hc ht => ⟨exec_dyn_refused hc ht, ?_⟩,
    fun s h b c hc hb => exec_plyYield_yields hc hb, fun s h hno => exec_plyYield_unasked hno⟩
  · -- SOLVE
    rintro x _ _ hok hx rfl rfl
    exact exec_solve_accepted hc ht hok hx
  · -- DYN
    rintro x _ hok hx rfl
    exact exec_dyn_accepted hc ht hok hx

end Sys2Proof.Machine
end

section
/-! SUPPORT. The requests of the loops, with the causes that decide a loop in one beat, and the triggers and samples of
a loop. -/

namespace Sys2Proof.Machine

/-! ## A loop beyond its registers -/

@[simp] theorem State.loop_modLoop (s : State) (n : Nat) (f : Loop → Loop) : (s.modLoop n f).loop n = f (s.loop n) := by
  simp [State.loop, State.modLoop, State.putLoop, Sparse.get_put]

@[simp] theorem State.loopState_modLoop (s : State) (n : Nat) (f : Loop → Loop) (m : Nat) :
    (s.modLoop n f).loopState m = s.loopState m := rfl

@[simp] theorem State.isSet_modLoop (s : State) (n : Nat) (f : Loop → Loop) (g : Field) (i : Nat) :
    (s.modLoop n f).isSet g i = s.isSet g i := rfl

/-- A change that leaves the deciding cause leaves its rank. -/
theorem State.loopRank_modLoop (s : State) (n : Nat) (f : Loop → Loop)
    (h : (f (s.loop n)).decided = (s.loop n).decided) : (s.modLoop n f).loopRank n = s.loopRank n := by
  have ht : (s.modLoop n f).refTime = s.refTime := rfl
  unfold State.loopRank
  rw [s.loop_modLoop, h, ht]

/-! ## Causes of one beat (R317) -/

section
variable {s : State} {n : Nat} (h : ∀ d, (s.loop n).decided = some d → d.1 ≠ s.refTime)
include h

/-- Nothing has decided the loop in this beat: every cause may, and the state before the beat is the present one. -/
theorem State.loopRank_fresh : s.loopRank n = 6 := by
  unfold State.loopRank
  split
  next hd => exact if_neg (h _ hd)
  next => rfl

theorem State.loopBefore_fresh : s.loopBefore n = s.loopState n := by
  unfold State.loopBefore
  split
  next hd => exact if_neg (h _ hd)
  next => rfl

theorem State.loopTake_fresh {rank : Nat} (hr : rank < 6) : s.loopTake n rank =
    s.modLoop n (fun x => { x with decided := some (s.refTime, rank, s.loopState n) }) := by
  unfold State.loopTake
  rw [State.loopRank_fresh h, State.loopBefore_fresh h, if_neg (Nat.not_le.mpr hr)]
  simp

end

/-- A cause that ranks above the one of this beat undoes what that one did, and a request so dropped is refused. -/
theorem State.loopTake_undoes {s : State} {n rank : Nat} (hr : rank < s.loopRank n)
    (hb : s.loopState n ≠ s.loopBefore n) : s.loopTake n rank =
      ((s.set Fld.FLYER_LOOP_STATE_STATE n (s.loopBefore n)).raise Flg.FLYER_LOOP_EVT_REQ_REFUSED n).modLoop n
        (fun x => { x with decided := some (s.refTime, rank, s.loopBefore n) }) := by
  unfold State.loopTake
  rw [if_neg (Nat.not_le.mpr hr)]
  simp [hb, State.loopRefuse]

/-! ## Requests (R312, R314, R327) -/

section
variable {s : State} {n : Nat}

theorem exec_loopClose_taken (hs : s.setUp = true) (hr : 5 ≤ s.loopRank n) (h0 : s.loopState n = 0) (hd : s.dev = .run) :
    exec (.loopClose n) s = .next (((s.loopTake n 5).modLoop n (fun x => { x with faults := [] })).set
      Fld.FLYER_LOOP_STATE_STATE n 1) := by
  show execLoopClose n s = _
  rw [execLoopClose, State.host_up _ hs, if_pos ⟨hr, h0, hd⟩]

theorem exec_loopClose_refused (hs : s.setUp = true) (h : s.loopState n ≠ 0 ∨ s.dev ≠ .run ∨ s.loopRank n < 5) :
    exec (.loopClose n) s = .next (s.raise Flg.FLYER_LOOP_EVT_REQ_REFUSED n) := by
  have hno : ¬ (5 ≤ s.loopRank n ∧ s.loopState n = 0 ∧ s.dev = .run) := fun ⟨hr, h0, hd⟩ =>
    h.elim (· h0) fun h => h.elim (· hd) (Nat.not_lt.mpr hr)
  show execLoopClose n s = _
  rw [execLoopClose, State.host_up _ hs, if_neg hno, State.loopRefuse]

theorem exec_loopRelease_taken (hs : s.setUp = true) (hr : 5 ≤ s.loopRank n) (h3 : s.loopState n = 3)
    (hd : s.dev = .standby ∨ s.dev = .run) (hin : ∀ c ∈ s.loopInputs n, s.inputFaulty c = false) :
    exec (.loopRelease n) s = .next ((s.loopTake n 5).loopToOpen n) := by
  show execLoopRelease n s = _
  rw [execLoopRelease, State.host_up _ hs, if_pos ⟨hr, h3, hd, by simpa using hin⟩]

theorem exec_loopRelease_refused (hs : s.setUp = true) (h : s.loopState n ≠ 3 ∨ s.dev = .safe ∨
      (∃ c ∈ s.loopInputs n, s.inputFaulty c = true) ∨ s.loopRank n < 5) :
    exec (.loopRelease n) s = .next (s.raise Flg.FLYER_LOOP_EVT_REQ_REFUSED n) := by
  have hno : ¬ (5 ≤ s.loopRank n ∧ s.loopState n = 3 ∧ (s.dev = .standby ∨ s.dev = .run) ∧
      (!(s.loopInputs n).any s.inputFaulty) = true) := by
    rintro ⟨hr, h3, hd, hin⟩
    rcases h with h | h | h | h
    · exact h h3
    · simp [h] at hd
    · simp [List.any_eq_true.mpr h] at hin
    · exact Nat.not_lt.mpr hr h
  show execLoopRelease n s = _
  rw [execLoopRelease, State.host_up _ hs, if_neg hno, State.loopRefuse]

theorem exec_loopOpen_up (hs : s.setUp = true) : exec (.loopOpen n) s = .next (s.loopOpenReq n) :=
  congrArg _ (State.host_up _ hs)

theorem exec_openAll_up (hs : s.setUp = true) :
    exec .openAll s = .next (s.forEach (List.range 32) (fun t n => t.loopOpenReq n)) := by
  show execOpenAll s = _
  rw [execOpenAll, State.host_up _ hs]

theorem State.loopOpenReq_outranked (h : s.loopRank n < 4) :
    s.loopOpenReq n = s.raise Flg.FLYER_LOOP_EVT_REQ_REFUSED n := if_pos h

/-- An OPEN that nothing outranks is taken or refused by the state that it finds when what it undoes is undone. -/
theorem State.loopOpenReq_decides {t : State} (h : 4 ≤ s.loopRank n) (ht : s.loopTake n 4 = t) :
    s.loopOpenReq n = if t.loopState n = 1 ∨ t.loopState n = 2 then t.loopToOpen n
      else t.raise Flg.FLYER_LOOP_EVT_REQ_REFUSED n := by
  subst ht
  exact if_neg (Nat.not_lt.mpr h)

end

/-! ## Triggers (R294) -/

section
variable {s : State} {n : Nat}

theorem State.loopTrigger_taken (h : (s.loop n).seen = some s.now) : s.loopTrigger n = false := by
  simp [State.loopTrigger, h]

/-- In TIMER mode the trigger stands at the loop's phase of the Whorl. -/
theorem State.loopTrigger_timer (hm : s.isSet Fld.FLYER_LOOP_CFG_TRIG_MODE n = false)
    (hseen : (s.loop n).seen ≠ some s.now) : s.loopTrigger n =
      (s.now % s.get Fld.FLYER_LOOP_TRIG_PERIOD_TICKS n == s.get Fld.FLYER_LOOP_TRIG_PHASE_TICKS n) := by
  simp [State.loopTrigger, hm, hseen]

/-- In ADC mode it stands where a conversion has set it. -/
theorem State.loopTrigger_adc (hm : s.isSet Fld.FLYER_LOOP_CFG_TRIG_MODE n = true)
    (hseen : (s.loop n).seen ≠ some s.now) : s.loopTrigger n = true ↔ (s.loop n).due = some s.now := by
  simp [State.loopTrigger, hm, hseen]

theorem exec_loopSample_untriggered (h : s.loopTrigger n = false) : exec (.loopSample n) s = .next s :=
  congrArg _ (if_pos (by simp [h]))

section
variable {t : State} (hon : s.flyerOn = true) (htr : s.loopTrigger n = true)
  (ht : t = s.modLoop n (fun x => { x with seen := some s.now }))
include hon htr ht

/-- A trigger is taken; where a request or a fault has decided the loop in this beat, no sample follows. -/
theorem exec_loopSample_decided (hr : s.loopRank n < 5) : exec (.loopSample n) s = .next (t.sampleDropped n) := by
  subst ht
  have hrank := s.loopRank_modLoop n (fun x => { x with seen := some s.now }) rfl
  show execLoopSample n s = _
  simp [execLoopSample, hon, htr, hrank, hr]

/-- Otherwise the time since the last sample decides. -/
theorem exec_loopSample_free (hr : 5 ≤ s.loopRank n) : exec (.loopSample n) s = .next
    (if ∃ l, (t.loop n).last = some l ∧ l ≤ s.now ∧ s.now < l + 4000 then t.raise Flg.FLYER_LOOP_EVT_TRIG_DROP n
      else t.loopSample n s.now) := by
  subst ht
  have hrank := s.loopRank_modLoop n (fun x => { x with seen := some s.now }) rfl
  show execLoopSample n s = _
  simp only [execLoopSample, hon, htr, hrank, if_neg (Nat.not_lt.mpr hr)]
  cases hl : (s.loop n).last <;> simp [hl]

end

/-! ## Samples (R312, R314, R317, R318) -/

/-- A dropped sample moves a loop only where an OPEN decided it and a fault that takes it to SAFE outranks that OPEN. -/
theorem State.sampleDropped_stays (h : (s.loop n).faults = [] ∨ s.isSet Fld.FLYER_LOOP_CFG_FAULT_ACTION n = false ∨
    s.loopRank n ≠ 4) : s.sampleDropped n = s := by
  refine if_neg ?_
  rintro ⟨hrank, -, hfault, hact⟩
  rcases h with h | h | h
  · simp [h] at hfault
  · simp [h] at hact
  · exact h hrank

theorem State.sampleBody_closed (stamp : Nat) (h : s.loopState n = 2) (hf : (s.loop n).faults = []) :
    s.sampleBody n stamp = s.runSample n stamp false := by
  unfold State.sampleBody
  simp [h, hf]

section
variable {f : Nat} (hf : (s.loop n).faults = [f]) (hact : s.isSet Fld.FLYER_LOOP_CFG_FAULT_ACTION n = true)
include hf hact

theorem State.sampleBody_closed_stops (stamp : Nat) (h : s.loopState n = 2) : s.sampleBody n stamp =
    ((s.raise Flg.FLYER_LOOP_EVT_INPUT_FAULT n).loopToSafe n 2).openSample n := by
  unfold State.sampleBody
  simp [h, hf, hact]

theorem State.sampleBody_closing_stops (stamp : Nat) (h : s.loopState n = 1) :
    s.sampleBody n stamp = (s.loopToSafe n 2).openSample n := by
  unfold State.sampleBody
  simp [h, hf, hact]

end

end

/-- Settles O36: each request by the rank of what has decided the loop in its beat and by the loop's state, each trigger
by its mode, and each sample by what precedes it. -/
theorem loopRequestsAndSamples : Obligations.LoopRequestsAndSamples := by
  unfold Obligations.LoopRequestsAndSamples
  refine ⟨fun s n hs => ⟨fun hfresh h0 hd => ?_, exec_loopClose_refused hs, fun t hfresh ht => ?_,
    fun t v hr hv hne ht => ?_, fun hr => ?_, fun hfresh h3 hd hin => ?_, exec_loopRelease_refused hs,
    exec_loopOpen_up hs, exec_openAll_up hs⟩, fun s n stamp hon => ⟨exec_loopSample_untriggered, fun t htr hr ht => ?_,
    fun t htr hr ht => ?_, fun hm hseen => ?_, State.loopTrigger_adc, State.loopTrigger_taken,
    State.sampleBody_closed stamp, fun f h hf hact => State.sampleBody_closed_stops hf hact stamp h,
    fun f h hf hact => State.sampleBody_closing_stops hf hact stamp h⟩⟩
  · -- CLOSE is taken
    have htake : s.loopTake n 5 = _ := State.loopTake_fresh hfresh (by decide)
    have hex := exec_loopClose_taken hs (by simp [State.loopRank_fresh hfresh]) h0 hd
    rw [htake, h0] at hex
    exact ⟨_, hex, SetsOnly.one _ _ n 1 (by decide)⟩
  · -- OPEN in a fresh beat
    have htake : s.loopTake n 4 = t := (State.loopTake_fresh hfresh (by decide)).trans ht.symm
    have hst : t.loopState n = s.loopState n := by rw [ht, State.loopState_modLoop]
    rw [exec_loopOpen_up hs, State.loopOpenReq_decides (by simp [State.loopRank_fresh hfresh]) htake, hst]
    exact ⟨fun h => by rw [if_pos h], fun h => by rw [if_neg (by omega)]⟩
  · -- OPEN after a CLOSE or RELEASE
    subst hv
    have htake : s.loopTake n 4 = t := (State.loopTake_undoes (by omega) hne).trans ht.symm
    rw [exec_loopOpen_up hs, State.loopOpenReq_decides (by omega) htake]
  · -- OPEN is outranked
    rw [exec_loopOpen_up hs, State.loopOpenReq_outranked hr]
  · -- RELEASE is taken
    have htake : s.loopTake n 5 = _ := State.loopTake_fresh hfresh (by decide)
    have hex := exec_loopRelease_taken hs (by simp [State.loopRank_fresh hfresh]) h3 hd hin
    rwa [htake, h3] at hex
  · -- a trigger of a loop that is decided
    refine ⟨exec_loopSample_decided hon htr ht hr, fun h => ?_⟩
    subst ht
    refine State.sampleDropped_stays ?_
    rwa [State.loopRank_modLoop _ _ _ rfl, State.loop_modLoop, State.isSet_modLoop]
  · -- a trigger of a loop that is not
    rw [exec_loopSample_free hon htr ht hr]
    refine ⟨fun l hl h1 h2 => ?_, fun h => ?_⟩
    · rw [if_pos ⟨l, hl, h1, h2⟩]
    · rw [if_neg]
      rintro ⟨l, hl, h1, h2⟩
      have := h l hl
      omega
  · -- a timer's trigger
    rw [State.loopTrigger_timer hm hseen]
    exact ⟨fun h => by simp [h], fun h => by simp [h]⟩

end Sys2Proof.Machine
end

section
/-! SUPPORT. The encoder, SSI and sigma-delta inputs: what each of their events does, and the weights of the sinc3
filter. -/

namespace Sys2Proof.Machine

/-! ## Encoders (R319) -/

section
variable {s : State} {ch : Nat} {e : EncEdge}

theorem exec_encEdge_short (h : e.ticks < s.get Fld.FLYER_ENC_CFG_FILTER ch * 4) : exec (.encEdge ch e) s = .next s :=
  congrArg _ (if_pos (by simp [h]))

/-- An edge that passes the filter of an encoder without INDEX_ZERO does what its mode says. -/
theorem exec_encEdge_passes (hon : s.flyerOn = true) (h : s.get Fld.FLYER_ENC_CFG_FILTER ch * 4 ≤ e.ticks)
    (hz : s.isSet Fld.FLYER_ENC_CFG_INDEX_ZERO ch = false) {y : Enc}
    (hy : y = { s.enc ch with a := e.a, b := e.b, i := e.i }) :
    exec (.encEdge ch e) s = .next ((s.putEnc ch y).encMode ch (s.enc ch) y) := by
  subst hy
  show execEncEdge ch e s = _
  simp [execEncEdge, hon, Nat.not_lt.mpr h, hz]

/-- In step mode a rising A edge counts, up where B is low. -/
theorem State.encMode_step {x y : Enc} (hm : s.get Fld.FLYER_ENC_CFG_MODE ch = 1) (hx : x.a = false) (hy : y.a = true) :
    s.encMode ch x y = s.encCount ch (!y.b) := by
  unfold State.encMode
  simp [hm, hx, hy]

/-- In quadrature mode a change of both levels is ILLEGAL. -/
theorem State.encMode_illegal {x y : Enc} (hm : s.get Fld.FLYER_ENC_CFG_MODE ch = 0) (ha : x.a ≠ y.a) (hb : x.b ≠ y.b) :
    s.encMode ch x y = (s.raise Flg.FLYER_ENC_EVT_ILLEGAL ch).inputFault ch := by
  unfold State.encMode
  simp [hm, ha, hb]

/-- Without DIR_INV a step down adds 2³² - 1 modulo 2³². -/
theorem State.encCount_plain (up : Bool) (hd : s.isSet Fld.FLYER_ENC_CFG_DIR_INV ch = false) :
    s.encCount ch up = s.set Fld.FLYER_ENC_COUNT_COUNT ch
      ((s.get Fld.FLYER_ENC_COUNT_COUNT ch + (if up then 1 else 2 ^ 32 - 1)) % 2 ^ 32) := by
  rw [State.encCount, hd, Nat.add_sub_assoc Nat.one_le_two_pow]
  refine Eq.trans ?_ (s.set_mod Fld.FLYER_ENC_COUNT_COUNT ch _).symm
  cases up <;> rfl

end

/-! ## SSI frames (R320) -/

section
variable {s : State} {ch : Nat}

theorem exec_ssiFrameStart_starts (hon : s.flyerOn = true) (hb : 8 ≤ s.get Fld.FLYER_SSI_CFG_BITS ch)
    (hidle : Sparse.find s.flyer.ssi ch = none)
    (hphase : s.now % s.get Fld.FLYER_SSI_PERIOD_TICKS ch = s.get Fld.FLYER_SSI_PHASE_TICKS ch) :
    exec (.ssiFrameStart ch) s = .next (s.putSsi ch (some (s.now, s.refTime))) :=
  congrArg _ (if_pos (by simp [hon, hb, hidle, hphase]))

section
variable {v start ref : Nat} {p : Bool} (hf : Sparse.find s.flyer.ssi ch = some (start, ref))
include hf

theorem exec_ssiFrameEnd_early (h : s.refTime < ref + s.ssiTicks ch) : exec (.ssiFrameEnd ch v p) s = .next s := by
  show execSsiFrameEnd ch v p s = _
  simp [execSsiFrameEnd, hf, h]

theorem exec_ssiFrameEnd_late (h : ref + s.ssiTicks ch + 20 * Config.us < s.refTime) :
    exec (.ssiFrameEnd ch v p) s = .next (s.ssiLost ch) := by
  have hearly : ¬ s.refTime < ref + s.ssiTicks ch := by omega
  show execSsiFrameEnd ch v p s = _
  simp [execSsiFrameEnd, hf, hearly, h]

theorem exec_ssiTimeout_lost (h : ref + s.ssiTicks ch + 20 * Config.us ≤ s.refTime) :
    exec (.ssiTimeout ch) s = .next (s.ssiLost ch) := by
  show execSsiTimeout ch s = _
  simp [execSsiTimeout, hf, Nat.not_lt.mpr h]

section
variable (hlo : ref + s.ssiTicks ch ≤ s.refTime) (hhi : s.refTime ≤ ref + s.ssiTicks ch + 20 * Config.us)
include hlo hhi

theorem exec_ssiFrameEnd_stores (hpar : s.get Fld.FLYER_SSI_CFG_PARITY ch = 0)
    (hgray : s.isSet Fld.FLYER_SSI_CFG_GRAY ch = false) :
    exec (.ssiFrameEnd ch v p) s = .next (((s.putSsi ch none).set Fld.FLYER_SSI_VALUE_VALUE ch
      (v % 2 ^ s.get Fld.FLYER_SSI_CFG_BITS ch)).set Fld.FLYER_SSI_STAMP_TIME ch start) := by
  show execSsiFrameEnd ch v p s = _
  simp [execSsiFrameEnd, hf, Nat.not_lt.mpr hlo, Nat.not_lt.mpr hhi, hpar, hgray]

theorem exec_ssiFrameEnd_parity (hpar : s.get Fld.FLYER_SSI_CFG_PARITY ch = 1)
    (hodd : (bitSum v (s.get Fld.FLYER_SSI_CFG_BITS ch) + (if p then 1 else 0)) % 2 = 1) :
    exec (.ssiFrameEnd ch v p) s =
      .next (((s.putSsi ch none).raise Flg.FLYER_SSI_EVT_PARITY_ERR ch).inputFault (0x30 + ch)) := by
  show execSsiFrameEnd ch v p s = _
  simp [execSsiFrameEnd, hf, Nat.not_lt.mpr hlo, Nat.not_lt.mpr hhi, hpar, hodd]

end

end

end

/-! ## Sums below a bound -/

/-- The sum of f over the numbers below a bound. -/
def sumBelow (f : Nat → Nat) (n : Nat) : Nat := ((List.range n).map f).sum

theorem sumBelow_succ (f : Nat → Nat) (n : Nat) : sumBelow f (n + 1) = sumBelow f n + f n := by
  simp only [sumBelow, List.range_succ, List.map_append, List.sum_append, List.map_cons, List.map_nil, List.sum_cons,
    List.sum_nil, Nat.add_zero]

theorem sumBelow_congr {f g : Nat → Nat} {n : Nat} (h : ∀ j, j < n → f j = g j) : sumBelow f n = sumBelow g n :=
  congrArg List.sum (List.map_congr_left fun j hj => h j (List.mem_range.mp hj))

theorem sumBelow_zero {f : Nat → Nat} (h : ∀ j, f j = 0) (n : Nat) : sumBelow f n = 0 := by
  induction n with
  | zero => rfl
  | succ n ih => rw [sumBelow_succ, ih, h]

theorem sumBelow_split (f : Nat → Nat) (n m : Nat) :
    sumBelow f (n + m) = sumBelow f n + sumBelow (fun j => f (n + j)) m := by
  induction m with
  | zero => rfl
  | succ m ih => rw [← Nat.add_assoc, sumBelow_succ, sumBelow_succ, ih, Nat.add_assoc]

/-- The terms may be added from the last one down. -/
theorem sumBelow_reflect (f : Nat → Nat) (n : Nat) : sumBelow (fun j => f (n - 1 - j)) n = sumBelow f n := by
  induction n with
  | zero => rfl
  | succ n ih =>
    have hrest : sumBelow (fun j => f (n + 1 - 1 - (1 + j))) n = sumBelow (fun j => f (n - 1 - j)) n :=
      sumBelow_congr fun j _ => congrArg f (by omega)
    have hlast : sumBelow (fun j => f (n + 1 - 1 - j)) 1 = f n := rfl
    rw [Nat.add_comm n 1, sumBelow_split, Nat.add_comm 1 n, hlast, hrest, ih, sumBelow_succ, Nat.add_comm]

/-- An equation between terms is one between their sums. -/
theorem sumBelow_add_mul {f g h : Nat → Nat} {n c : Nat} (hj : ∀ j, j < n → f j + c * g j = h j) :
    sumBelow f n + c * sumBelow g n = sumBelow h n := by
  induction n with
  | zero => rfl
  | succ n ih =>
    have hn := hj n (Nat.lt_succ_self n)
    have hi := ih fun j h => hj j (Nat.lt_succ_of_lt h)
    rw [sumBelow_succ, sumBelow_succ, sumBelow_succ, Nat.mul_add]
    omega

/-! ## The weights of the sinc3 filter (R321) -/

/-- In how many ways k is a sum of three numbers. -/
def sumsOfThree (k : Nat) : Nat := (k + 1) * (k + 2) / 2

theorem two_mul_sumsOfThree (k : Nat) : 2 * sumsOfThree k = (k + 1) * (k + 2) := by
  refine Nat.mul_div_cancel' (Nat.dvd_of_mod_eq_zero ?_)
  rw [Nat.mul_mod]
  rcases Nat.mod_two_eq_zero_or_one k with h | h <;> simp [Nat.add_mod, h]

theorem six_mul_sumBelow_sumsOfThree (n : Nat) : 6 * sumBelow sumsOfThree n = n * (n + 1) * (n + 2) := by
  induction n with
  | zero => rfl
  | succ n ih =>
    have htwo := two_mul_sumsOfThree n
    rw [sumBelow_succ]
    grind

theorem sincWeight_first {n j : Nat} (h : j < n) : sincWeight n j = sumsOfThree j := if_pos h

/-- In the second period the ways that have a number of n or more go off. -/
theorem sincWeight_second {n j : Nat} (h : j < n) :
    sincWeight n (n + j) + 3 * sumsOfThree j = sumsOfThree (n + j) := by
  have hw : sincWeight n (n + j) = sumsOfThree (n + j) - 3 * sumsOfThree j := by
    simp only [sincWeight, if_neg (show ¬ n + j < n by omega), if_pos (show n + j < 2 * n by omega),
      Nat.add_sub_cancel_left]
    rfl
  have hlow : (j + 1) * (3 * (j + 2)) ≤ (j + 1) * (2 * (2 * j + 3)) := Nat.mul_le_mul_left _ (by omega)
  have hmid : (2 * j + 2) * (2 * j + 3) ≤ (n + j + 1) * (n + j + 2) := Nat.mul_le_mul (by omega) (by omega)
  have htwo := two_mul_sumsOfThree j
  have hsum := two_mul_sumsOfThree (n + j)
  grind

/-- In the third they fall as they rose in the first, from n - 3 on. -/
theorem sincWeight_third (n j : Nat) :
    sincWeight n (2 * n + j) = if j + 3 ≤ n then sumsOfThree (n - 3 - j) else 0 := by
  have hlast : 3 * n - 3 - (2 * n + j) = n - 3 - j := by omega
  have hend : 2 * n + j + 3 ≤ 3 * n ↔ j + 3 ≤ n := by omega
  simp only [sincWeight, if_neg (show ¬ 2 * n + j < n by omega), if_neg (show ¬ 2 * n + j < 2 * n by omega), hlast, hend]
  rfl

theorem sumBelow_sincWeight_third (m : Nat) :
    sumBelow (fun j => sincWeight (m + 2) (2 * (m + 2) + j)) (m + 2) = sumBelow sumsOfThree m := by
  have hfall : sumBelow (fun j => sincWeight (m + 2) (2 * (m + 2) + j)) m = sumBelow (fun j => sumsOfThree (m - 1 - j)) m :=
    sumBelow_congr fun j hj => by
      rw [sincWeight_third, if_pos (by omega), show m + 2 - 3 - j = m - 1 - j by omega]
  rw [sumBelow_succ, sumBelow_succ, sincWeight_third, sincWeight_third, if_neg (by omega), if_neg (by omega),
    Nat.add_zero, Nat.add_zero, hfall, sumBelow_reflect]

/-- All weights together: the triples of numbers below n. -/
theorem sumBelow_sincWeight {n : Nat} (h : 2 ≤ n) : sumBelow (sincWeight n) (3 * n) = n ^ 3 := by
  obtain ⟨m, rfl⟩ := Nat.exists_eq_add_of_le' h
  have first : sumBelow (sincWeight (m + 2)) (m + 2) = sumBelow sumsOfThree (m + 2) :=
    sumBelow_congr fun j hj => sincWeight_first hj
  have second : sumBelow (fun j => sincWeight (m + 2) (m + 2 + j)) (m + 2) + 3 * sumBelow sumsOfThree (m + 2) =
      sumBelow (fun j => sumsOfThree (m + 2 + j)) (m + 2) := sumBelow_add_mul fun j hj => sincWeight_second hj
  have third := sumBelow_sincWeight_third m
  have hall := sumBelow_split (sincWeight (m + 2)) (2 * (m + 2)) (m + 2)
  have hhalf := sumBelow_split (sincWeight (m + 2)) (m + 2) (m + 2)
  have hdouble := sumBelow_split sumsOfThree (m + 2) (m + 2)
  rw [← Nat.two_mul] at hhalf hdouble
  have hm := six_mul_sumBelow_sumsOfThree m
  have hn := six_mul_sumBelow_sumsOfThree (m + 2)
  have h2n := six_mul_sumBelow_sumsOfThree (2 * (m + 2))
  rw [show 3 * (m + 2) = 2 * (m + 2) + (m + 2) by omega]
  grind

/-- Every bit of 2^m - 1 below m is 1. -/
theorem bitsOf_ones {m k : Nat} (h : k < m) : bitsOf (2 ^ m - 1) k 1 = 1 := by
  have hbit : (2 ^ m - 1).testBit k = true := by rw [Nat.testBit_two_pow_sub_one, decide_eq_true h]
  rw [Nat.testBit_eq_decide_div_mod_eq, decide_eq_true_eq] at hbit
  exact hbit

/-- Three periods of 1 bits are one number of 1 bits. -/
theorem ones_three_periods (n : Nat) :
    (2 ^ n - 1) % 2 ^ n + (2 ^ n - 1) % 2 ^ n * 2 ^ n + (2 ^ n - 1) % 2 ^ n * 2 ^ (2 * n) = 2 ^ (3 * n) - 1 := by
  obtain ⟨x, hx⟩ := Nat.exists_eq_add_of_le' (Nat.two_pow_pos n)
  rw [Nat.mul_comm 2 n, Nat.mul_comm 3 n, Nat.pow_mul, Nat.pow_mul, hx, Nat.add_sub_cancel,
    Nat.mod_eq_of_lt (Nat.lt_succ_self x)]
  refine (Nat.sub_eq_of_eq_add ?_).symm
  grind

/-- The sum is one over the ages of its bits. -/
theorem sincSum_eq (n a b c : Nat) : sincSum n a b c = sumBelow (fun j =>
    bitsOf (a % 2 ^ n + b % 2 ^ n * 2 ^ n + c % 2 ^ n * 2 ^ (2 * n)) (3 * n - 1 - j) 1 * sincWeight n j) (3 * n) := rfl

theorem sincSum_zero (n : Nat) : sincSum n 0 0 0 = 0 := by
  rw [sincSum_eq]
  refine sumBelow_zero (fun j => ?_) _
  rw [Nat.zero_mod, Nat.zero_mul, Nat.zero_mul, bitsOf, Nat.zero_div, Nat.zero_mod, Nat.zero_mul]

theorem sincSum_ones {n : Nat} (h : 2 ≤ n) : sincSum n (2 ^ n - 1) (2 ^ n - 1) (2 ^ n - 1) = n ^ 3 := by
  rw [sincSum_eq, ones_three_periods, ← sumBelow_sincWeight h]
  refine sumBelow_congr fun j hj => ?_
  rw [bitsOf_ones (by omega), Nat.one_mul]

/-! ## Sigma-delta inputs (R321) -/

section
variable {s : State} {ch : Nat}

theorem exec_sd_disabled (bits : Nat) (h : s.isSet Fld.FLYER_SD_CFG_EN ch = false) :
    exec (.sdClkLost ch) s = .next s ∧ exec (.sdOutput ch bits) s = .next s :=
  ⟨congrArg _ (if_neg (by simp [h])), congrArg _ (if_neg (by simp [h]))⟩

section
variable (hon : s.flyerOn = true) (hen : s.isSet Fld.FLYER_SD_CFG_EN ch = true)
include hon hen

theorem exec_sdOutput_sums {a b : Nat} (bits : Nat) (hold : Sparse.get (0, 0) s.flyer.sdBits ch = (a, b)) :
    exec (.sdOutput ch bits) s = .next (({ s with flyer := { s.flyer with
      sdAt := Sparse.put 0 s.flyer.sdAt ch s.refTime, sdBits := Sparse.put (0, 0) s.flyer.sdBits ch (b, bits) } }).set
      Fld.FLYER_SD_VALUE_VALUE ch (sdValue (s.get Fld.FLYER_SD_CFG_OSR_LOG2 ch)
        (sincSum (2 ^ s.get Fld.FLYER_SD_CFG_OSR_LOG2 ch) a b bits))) := by
  show execSdOutput ch bits s = _
  simp [execSdOutput, hon, hen, hold]

theorem exec_sdClkLost_early (h : s.refTime < Sparse.get 0 s.flyer.sdAt ch + Config.us) :
    exec (.sdClkLost ch) s = .next s :=
  congrArg _ (if_neg (by simp [hon, hen, h]))

theorem exec_sdClkLost_faults (h : Sparse.get 0 s.flyer.sdAt ch + Config.us ≤ s.refTime) :
    exec (.sdClkLost ch) s = .next ((s.raise Flg.FLYER_SD_EVT_CLK_LOST ch).inputFault (0x40 + ch)) := by
  show execSdClkLost ch s = _
  rw [execSdClkLost, if_pos (by simp [hon, hen, h])]

end

end

/-- Settles O37: encoder edges by filter and mode, SSI frames by the time of their end, and sigma-delta inputs by the
sinc3 filter, whose weights sum to n³. -/
theorem encodersSerialAndModulators : Obligations.EncodersSerialAndModulators := by
  unfold Obligations.EncodersSerialAndModulators
  refine ⟨⟨fun s ch e => exec_encEdge_short, fun s ch e hon h hz hm ha hup hd => ?_,
      fun s t ch e hon h hz hm ha hb ht => ?_⟩,
    fun s ch => exec_ssiFrameStart_starts, fun s t ch v start ref p hf ht => ?_,
    fun s ch l a b bits sum hon hen hl hold hsum => ?_, fun l hl _ => ?_,
    fun s ch hon hen => ⟨exec_sdClkLost_early hon hen, exec_sdClkLost_faults hon hen⟩,
    fun s ch bits => exec_sd_disabled bits⟩
  · -- a rising A edge in step mode
    rw [exec_encEdge_passes hon h hz rfl, State.encMode_step (s := s.putEnc ch _) hm ha hup,
      State.encCount_plain (s := s.putEnc ch _) _ hd]
    cases e.b <;> rfl
  · -- a double change in quadrature
    rw [ht, exec_encEdge_passes hon h hz rfl, State.encMode_illegal (s := s.putEnc ch _) hm ha hb]
  · -- the end of an SSI frame
    subst ht
    exact ⟨exec_ssiFrameEnd_early hf, exec_ssiFrameEnd_late hf, exec_ssiFrameEnd_stores hf,
      exec_ssiFrameEnd_parity hf, exec_ssiTimeout_lost hf⟩
  · -- the end of a decimation period
    subst hl hsum
    exact exec_sdOutput_sums hon hen bits hold
  · -- the ends of the sum's range
    have htwo : 2 ≤ 2 ^ l := Nat.le_self_pow (by omega) 2
    exact ⟨sincSum_zero _, by rw [sincSum_ones htwo, ← Nat.pow_mul, Nat.mul_comm]⟩

end Sys2Proof.Machine
end

section
/-! SUPPORT. The conversions of the ADC channels and the compare loads of the PWM groups. -/

namespace Sys2Proof.Machine

/-! ## Conversions (R294, R322) -/

section
variable {s : State} {ch : Nat}

theorem exec_adcTrigger_starts (hon : s.flyerOn = true) (htr : s.adcTriggered ch = true)
    (hidle : Sparse.find s.flyer.adc ch = none) : exec (.adcTrigger ch) s = .next { s with flyer := { s.flyer with
      adc := Sparse.insert s.flyer.adc ch (s.now, s.refTime) } } :=
  congrArg _ (if_pos (by simp [hon, htr, hidle]))

section
variable {stamp ref code : Nat} (hbusy : Sparse.find s.flyer.adc ch = some (stamp, ref))
include hbusy

theorem exec_adcTrigger_busy : exec (.adcTrigger ch) s = .next s := congrArg _ (if_neg (by simp [hbusy]))

theorem exec_adcEndOfConversion_early (h : s.refTime < ref + 800) :
    exec (.adcEndOfConversion ch code) s = .next s := by
  show execAdcEndOfConversion ch code s = _
  simp [execAdcEndOfConversion, hbusy, h]

/-- A code between the two ends is good: it is stored with the time of its sample, and triggers the channel's loops. -/
theorem exec_adcEndOfConversion_good (h : ref + 800 ≤ s.refTime) (hlo : 0 < code) (hhi : code < 4095) {t : State}
    (ht : t = ((({ s with flyer := { s.flyer with
            adc := Sparse.erase s.flyer.adc ch
            good := Sparse.put 0 s.flyer.good ch code } }).set Fld.FLYER_ADC_VALUE_CODE ch code).set
          Fld.FLYER_ADC_STAMP_TIME ch stamp)) :
    exec (.adcEndOfConversion ch code) s = .next (t.forEach (List.range 32) (fun u n =>
          if u.isSet Fld.FLYER_LOOP_CFG_TRIG_MODE n && u.get Fld.FLYER_LOOP_CFG_TRIG_ADC n == ch then
            u.modLoop n (fun x => { x with due := some s.now })
          else u)) := by
  have hgood : (code == 0 || decide (4095 ≤ code)) = false :=
    Bool.or_eq_false_iff.mpr ⟨beq_false_of_ne (by omega), decide_eq_false (by omega)⟩
  subst ht
  show execAdcEndOfConversion ch code s = _
  simp only [execAdcEndOfConversion, hbusy, if_neg (Nat.not_lt.mpr h), hgood, Nat.min_eq_left (Nat.le_of_lt hhi), State.doIf_false]
  rfl

end

end

/-! ## Compare loads (R323) -/

section
variable {s : State} {g : Nat}

/-- A load gives the three compares of the group their shadows, and leaves the other groups. -/
theorem State.pwmLoad_compare (s : State) (g p : Nat) : Sparse.get 0 (s.pwmLoad g).flyer.compare p =
    if p / 4 = g ∧ p % 4 < 3 then Sparse.get 0 s.flyer.shadow p else Sparse.get 0 s.flyer.compare p := by
  have hload : (s.pwmLoad g).flyer.compare = Sparse.put 0 (Sparse.put 0 (Sparse.put 0 s.flyer.compare
      (4 * g + 0) (Sparse.get 0 s.flyer.shadow (4 * g + 0))) (4 * g + 1) (Sparse.get 0 s.flyer.shadow (4 * g + 1)))
      (4 * g + 2) (Sparse.get 0 s.flyer.shadow (4 * g + 2)) := rfl
  rw [hload, Sparse.get_put, Sparse.get_put, Sparse.get_put]
  by_cases hp : p / 4 = g ∧ p % 4 < 3
  · rw [if_pos hp]
    split
    next h => rw [h]
    split
    next h => rw [h]
    rw [if_pos (by omega), show p = 4 * g + 0 by omega]
  · rw [if_neg hp, if_neg (by omega), if_neg (by omega), if_neg (by omega)]

theorem exec_pwmCounterZero_loads (hon : s.flyerOn = true)
    (h : s.now % s.get Fld.FLYER_PWM_PERIOD_TICKS g = s.get Fld.FLYER_PWM_PHASE_TICKS g) :
    exec (.pwmCounterZero g) s = .next (s.pwmLoad g) :=
  congrArg _ (if_pos (by simp [hon, State.pwmZero, h]))

theorem exec_pwmCentreLoad_loads (hon : s.flyerOn = true) (hl : s.isSet Fld.FLYER_PWM_CFG_LOAD g = true)
    (hp : s.get Fld.FLYER_PWM_PHASE_TICKS g < s.get Fld.FLYER_PWM_PERIOD_TICKS g)
    (h : s.now % s.get Fld.FLYER_PWM_PERIOD_TICKS g = (s.get Fld.FLYER_PWM_PHASE_TICKS g +
      s.get Fld.FLYER_PWM_PERIOD_TICKS g / 2) % s.get Fld.FLYER_PWM_PERIOD_TICKS g) :
    exec (.pwmCentreLoad g) s = .next (s.pwmLoad g) :=
  congrArg _ (if_pos (by simp [hon, hl, hp, h]))

theorem exec_pwmCentreLoad_off (hl : s.isSet Fld.FLYER_PWM_CFG_LOAD g = false) :
    exec (.pwmCentreLoad g) s = .next s := congrArg _ (if_neg (by simp [hl]))

end

/-- Settles O38: conversions by whether one is under way, and the loads of a PWM group by its counter. -/
theorem conversionsAndPwm : Obligations.ConversionsAndPwm := by
  unfold Obligations.ConversionsAndPwm
  exact ⟨fun s ch => exec_adcTrigger_starts,
    fun s ch stamp ref code hbusy => ⟨exec_adcTrigger_busy hbusy, exec_adcEndOfConversion_early hbusy,
      fun h hlo hhi t => exec_adcEndOfConversion_good hbusy h hlo hhi⟩,
    fun s g hon h => ⟨s.pwmLoad g, exec_pwmCounterZero_loads hon h, rfl, s.pwmLoad_compare g⟩,
    fun s g => exec_pwmCentreLoad_loads, fun s g => exec_pwmCentreLoad_off⟩

end Sys2Proof.Machine
end

section
/-! SUPPORT. The capture streams of the carding block: the tokens of a stream, enable and disable, the packets of a frame
and its publication decision. -/

namespace Sys2Proof.Machine

/-! ## The tokens of a stream (R333) -/

theorem State.streamToken_iff {s : State} {job id count : Nat} : s.streamToken job id count = true ↔
    tokenNull id = false ∧ (s.token id).level = false ∧ (s.token id).target = 1 ∧ (s.token id).owner = some job ∧
      (s.token id).count = count := by
  simp [State.streamToken, and_assoc]

theorem State.streamTokens_iff {s : State} {job free full nbuf : Nat} : s.streamTokens job free full nbuf = true ↔
    s.streamToken job free nbuf = true ∧ s.mayWait job free = true ∧ (s.token free).waiters = [] ∧
      s.streamToken job full 0 = true := by
  simp [State.streamTokens, and_assoc]

/-! ## Enable and disable (R333, R337, R358) -/

/-- A capture stream as its enable leaves it, before its wait on FREE. -/
def State.capStarted (s : State) (n : Nat) : State :=
  (((((s.set Fld.CARD_CAP_CTRL_EN n 1).set Fld.CARD_CAP_STATUS_POOL n 0).set Fld.CARD_CAP_SEQ_SEQ n 0).set
    Fld.CARD_CAP_STATUS_IN_FRAME n 0).putCap n ⟨true, 0, none, none⟩).capSync n

section
variable {s : State} {n : Nat} (hup : s.setUp = true)
include hup

section
variable {job free full : Nat} (hen : s.isSet Fld.CARD_CAP_CTRL_EN n = false) (hjob : s.get Fld.CARD_CAP_NBUF_JOB n = job)
  (hfree : s.get Fld.CARD_CAP_TOKENS_FREE n = free) (hfull : s.get Fld.CARD_CAP_TOKENS_FULL n = full)
include hen hjob hfree hfull

theorem exec_capEnable_refused (h : s.get Fld.CARD_CAP_CTRL_LANES n = 3 ∨ capDtOk (s.get Fld.CARD_CAP_FMT_DT n) = false ∨
      s.get Fld.CARD_CAP_NBUF_NBUF n = 0 ∨ 32 < s.get Fld.CARD_CAP_NBUF_NBUF n ∨
      s.streamTokens job free full (s.get Fld.CARD_CAP_NBUF_NBUF n) = false) :
    exec (.capEnable n) s = .next (s.raise Flg.CARD_CAP_EVT_CFG_REFUSED n) := by
  subst hjob hfree hfull
  show execCapEnable n s = _
  rw [execCapEnable, State.host_up _ hup]
  refine congrArg _ ((if_neg (by simp [hen])).trans (if_neg ?_))
  simp only [Bool.and_eq_true, bne_iff_ne, decide_eq_true_eq]
  rintro ⟨⟨⟨⟨hlanes, hdt⟩, hmin⟩, hmax⟩, htok⟩
  rcases h with h | h | h | h | h
  · exact hlanes h
  · exact Bool.false_ne_true (h.symm.trans hdt)
  · omega
  · omega
  · exact Bool.false_ne_true (h.symm.trans htok)

theorem exec_capEnable_taken (hlanes : s.get Fld.CARD_CAP_CTRL_LANES n ≠ 3)
    (hdt : capDtOk (s.get Fld.CARD_CAP_FMT_DT n) = true) (hmin : 1 ≤ s.get Fld.CARD_CAP_NBUF_NBUF n)
    (hmax : s.get Fld.CARD_CAP_NBUF_NBUF n ≤ 32)
    (htok : s.streamTokens job free full (s.get Fld.CARD_CAP_NBUF_NBUF n) = true) :
    exec (.capEnable n) s = .next ((s.capStarted n).register free (.cap n)).settle := by
  subst hjob hfree hfull
  show execCapEnable n s = _
  rw [execCapEnable, State.host_up _ hup]
  exact congrArg _ ((if_neg (by simp [hen])).trans (if_pos (by simp [hlanes, hdt, hmin, hmax, htok])))

end

theorem exec_capDisable_idle (h : (s.cap n).frame = none) :
    exec (.capDisable n) s = .next ((s.set Fld.CARD_CAP_CTRL_EN n 0).capStop n) := by
  show execCapDisable n s = _
  rw [execCapDisable, State.host_up _ hup]
  exact congrArg _ (if_neg (by simp [h]))

theorem exec_capDisable_inFrame {f : Frame} (h : (s.cap n).frame = some f) :
    exec (.capDisable n) s = .next (s.set Fld.CARD_CAP_CTRL_EN n 0) := by
  show execCapDisable n s = _
  rw [execCapDisable, State.host_up _ hup]
  exact congrArg _ (if_pos (by simp [h]))

end

/-! ## The packets of a frame (R330, R334, R335) -/

/-- The registers of a stream at a Frame Start packet: SEQ advances and START is stamped. -/
def State.capStamped (s : State) (n : Nat) : State :=
  (s.set Fld.CARD_CAP_SEQ_SEQ n (s.get Fld.CARD_CAP_SEQ_SEQ n + 1)).set Fld.CARD_CAP_LAST_START_TIME n s.now

section
variable {s : State} {n : Nat}

/-- The stamp leaves every other field. -/
theorem State.get_capStamped {g : Field} (hseq : g.code ≠ Fld.CARD_CAP_SEQ_SEQ.code)
    (hstart : g.code ≠ Fld.CARD_CAP_LAST_START_TIME.code) : (s.capStamped n).get g n = s.get g n :=
  (State.get_set_code _ _ _ _ _ hstart).trans (State.get_set_code _ _ _ _ _ hseq)

variable (hlive : (s.cap n).live = true)
include hlive

theorem exec_frameStartPacket_otherVc {vc : Nat} (csi : Nat) (b : Bool) (hvc : vc ≠ s.get Fld.CARD_CAP_FMT_VC n) :
    exec (.frameStartPacket n vc csi b) s = .next (s.raise Flg.CARD_CAP_EVT_PKT_DISCARDED n) :=
  congrArg _ ((if_neg (by simp [hlive])).trans (if_pos hvc))

/-- With no frame under way and no buffer kept, a frame starts in a buffer of the pool, or without one. -/
theorem exec_frameStartPacket_starts {vc k : Nat} (csi : Nat) (hframe : (s.cap n).frame = none)
    (hen : s.isSet Fld.CARD_CAP_CTRL_EN n = true) (hvc : vc = s.get Fld.CARD_CAP_FMT_VC n) (hheld : (s.cap n).held = none)
    (hk : k = s.get Fld.CARD_CAP_STATUS_POOL n) : exec (.frameStartPacket n vc csi false) s = .next (
      if k = 0 then ((s.capStamped n).putCap n { s.cap n with
          frame := some ⟨s.now, vc, csi, (s.capStamped n).get Fld.CARD_CAP_SEQ_SEQ n, false, false, 0, 0, none⟩ }).raise
        Flg.CARD_CAP_EVT_NO_BUFFER n
      else ((((s.capStamped n).set Fld.CARD_CAP_STATUS_POOL n (k - 1)).putCap n { s.cap n with
          next := ((s.cap n).next + 1) % s.get Fld.CARD_CAP_NBUF_NBUF n
          held := some (s.cap n).next
          frame := some ⟨s.now, vc, csi, (s.capStamped n).get Fld.CARD_CAP_SEQ_SEQ n, false, false, 0, 0, none⟩ }).set
        Fld.CARD_CAP_STATUS_IN_FRAME n 1).capSync n) := by
  have hclose : s.capClose n = s := by rw [State.capClose, hframe]
  have hpool : (s.capStamped n).get Fld.CARD_CAP_STATUS_POOL n = k :=
    (State.get_capStamped (by decide) (by decide)).trans hk.symm
  have hnbuf : (s.capStamped n).get Fld.CARD_CAP_NBUF_NBUF n = s.get Fld.CARD_CAP_NBUF_NBUF n :=
    State.get_capStamped (by decide) (by decide)
  have hcap : (s.capStamped n).cap n = s.cap n := rfl
  show execFrameStartPacket n vc csi false s = _
  rw [execFrameStartPacket, if_neg (by simp [hlive]), if_neg (not_not_intro hvc), hclose]
  refine congrArg _ ((if_neg (by simp [hlive])).trans ((if_neg (by simp [hen])).trans ?_))
  show (match ((s.capStamped n).cap n).held with | some _ => _ | none => _) = _
  rw [hcap, hheld, ← hpool, ← hnbuf]
  rfl

section
variable {f : Frame} {b vc : Nat} (hframe : (s.cap n).frame = some f) (hheld : (s.cap n).held = some b)
  (hopen : f.ended = none) (hvc : vc = s.get Fld.CARD_CAP_FMT_VC n)
include hframe hopen hvc

theorem exec_frameEndPacket_stamps : exec (.frameEndPacket n vc false) s = .next
    (s.putCap n { s.cap n with frame := some { f with ended := some s.now } }) := by
  show execFrameEndPacket n vc false s = _
  simp [execFrameEndPacket, hlive, hvc, hframe, hopen]

include hheld

theorem exec_linePacket_stored {px : List Nat} {job p : Nat} {bs : List Byte}
    (hjob : s.get Fld.CARD_CAP_NBUF_JOB n = job) (hbs : bs = lineBytes (s.get Fld.CARD_CAP_FMT_DT n) px)
    (hp : p = ceilDiv bs.length 64 * 64) (hpx : px.length ≤ 8192)
    (hfit : 512 + f.lines * p + p ≤ s.get Fld.CARD_CAP_BUF_STRIDE_BYTES n) :
    exec (.linePacket n vc (s.get Fld.CARD_CAP_FMT_DT n) .clean true px) s = .next
      ((s.streamStore job (s.capBuffer n b + 512 + f.lines * p) bs).putCap n { s.cap n with
        frame := some { f with lines := f.lines + 1, lineBytes := bs.length } }) := by
  subst hjob hbs hp
  show execLinePacket n vc _ .clean true px s = _
  simp [execLinePacket, hlive, hvc, hframe, hheld, hopen, hpx, hfit]

/-- A line beyond 8,192 pixels makes its frame corrupt, and nothing of it is stored. -/
theorem exec_linePacket_tooLong {px : List Nat} (hpx : 8192 < px.length) :
    exec (.linePacket n vc (s.get Fld.CARD_CAP_FMT_DT n) .clean true px) s = .next
      (s.putCap n { s.cap n with frame := some { f with corrupt := true } }) := by
  show execLinePacket n vc _ .clean true px s = _
  simp [execLinePacket, hlive, hvc, hframe, hheld, hopen, Nat.not_le.mpr hpx]

end

end

/-! ## The publication decision (R336) -/

section
variable {s : State} {n e b full : Nat} {f : Frame} (hframe : (s.cap n).frame = some f) (hended : f.ended = some e)
  (hgood : f.corrupt = false)
include hframe hended hgood

/-- A frame that is not stale gets its record, and then FULL is signalled. -/
theorem exec_publicationDecision_publishes {t : State} (hheld : (s.cap n).held = some b)
    (hfull : s.get Fld.CARD_CAP_TOKENS_FULL n = full)
    (hage : s.get Fld.CARD_CAP_AGE_MAX_TICKS n = 0 ∨ s.now - f.start ≤ s.get Fld.CARD_CAP_AGE_MAX_TICKS n)
    (ht : t = ((((s.capRecord n b f 0 e s.now).signal full 1).putCap n
      { s.cap n with held := none, frame := none }).set Fld.CARD_CAP_STATUS_IN_FRAME n 0).capSync n) :
    exec (.publicationDecision n) s = .next (t.doIf (!t.isSet Fld.CARD_CAP_CTRL_EN n) (fun u => u.capStop n)) := by
  have hfresh : ¬ (s.get Fld.CARD_CAP_AGE_MAX_TICKS n ≠ 0 ∧ s.get Fld.CARD_CAP_AGE_MAX_TICKS n < s.now - f.start) := by
    omega
  subst hfull ht
  show execPublicationDecision n s = _
  simp only [execPublicationDecision, hframe, hended, State.capDecide, hgood, if_neg Bool.false_ne_true,
    if_neg hfresh, hheld]

theorem exec_publicationDecision_stale {t : State} (hage : s.get Fld.CARD_CAP_AGE_MAX_TICKS n ≠ 0)
    (hold : s.get Fld.CARD_CAP_AGE_MAX_TICKS n < s.now - f.start) (ht : t = s.capDrop n f true) :
    exec (.publicationDecision n) s = .next (t.doIf (!t.isSet Fld.CARD_CAP_CTRL_EN n) (fun u => u.capStop n)) := by
  subst ht
  show execPublicationDecision n s = _
  simp only [execPublicationDecision, hframe, hended, State.capDecide, hgood, if_neg Bool.false_ne_true,
    if_pos (And.intro hage hold)]

end

/-- Settles O39: enable by its conditions, and each packet and the decision by the frame under way. -/
theorem captureStreams : Obligations.CaptureStreams := by
  unfold Obligations.CaptureStreams
  intro s n job free full hjob hfree hfull
  refine ⟨fun hup hen => ⟨exec_capEnable_refused hup hen hjob hfree hfull,
      exec_capEnable_taken hup hen hjob hfree hfull⟩,
    fun k => ?_, fun hup => ⟨exec_capDisable_idle hup, fun f => exec_capDisable_inFrame hup⟩,
    fun k vc csi b hlive hframe hen => ⟨exec_frameStartPacket_otherVc hlive csi b, fun hvc hheld hk =>
      ⟨s.capStamped n, rfl, exec_frameStartPacket_starts hlive csi hframe hen hvc hheld hk⟩⟩,
    fun f b vc px hlive hframe hheld hopen hvc => ⟨exec_linePacket_stored hlive hframe hheld hopen hvc hjob rfl rfl,
      exec_linePacket_tooLong hlive hframe hheld hopen hvc, exec_frameEndPacket_stamps hlive hframe hopen hvc⟩,
    fun f e b hframe hended hheld _ hgood => ⟨fun hage =>
      ⟨_, rfl, exec_publicationDecision_publishes hframe hended hgood hheld hfull hage rfl⟩,
      fun hage hold => ⟨_, rfl, exec_publicationDecision_stale hframe hended hgood hage hold rfl⟩⟩⟩
  -- the tokens
  rw [State.streamTokens_iff, State.streamToken_iff, State.streamToken_iff]
  constructor
  · rintro ⟨⟨hnull, hmode, htarget, howner, hcount⟩, hwait, hnone, hnull', hmode', htarget', howner', hcount'⟩
    exact ⟨hnull, hnull', hmode, hmode', htarget, htarget', howner, howner', hcount, hcount', hnone, hwait⟩
  · rintro ⟨hnull, hnull', hmode, hmode', htarget, htarget', howner, howner', hcount, hcount', hnone, hwait⟩
    exact ⟨⟨hnull, hmode, htarget, howner, hcount⟩, hwait, hnone, hnull', hmode', htarget', howner', hcount'⟩

end Sys2Proof.Machine
end

section
/-! SUPPORT. The dataset streams of the carding block: enable and disable, the samples in the pipelines with their
budgets, and the batches. -/

namespace Sys2Proof.Machine

/-! ## Enable and disable (R351, R356, R358) -/

/-- The conditions under which a dataset stream takes its enable. -/
def State.dsFits (s : State) (n : Nat) : Prop :=
  s.streamTokens (s.get Fld.CARD_DS_CTRL_JOB n) (s.get Fld.CARD_DS_TOKENS_FREE n)
    (s.get Fld.CARD_DS_TOKENS_FULL n) (s.get Fld.CARD_DS_BATCH_NBUF n) = true ∧
  (1 ≤ s.get Fld.CARD_DS_BATCH_NBUF n ∧ s.get Fld.CARD_DS_BATCH_NBUF n ≤ 32) ∧
  (1 ≤ s.get Fld.CARD_DS_BATCH_BATCH n ∧ s.get Fld.CARD_DS_BATCH_BATCH n ≤ 64) ∧
  (1 ≤ s.get Fld.CARD_DS_N_N n ∧ s.get Fld.CARD_DS_N_N n ≤ 2 ^ 31) ∧
  (1 ≤ s.get Fld.CARD_DS_CTRL_LEVELS n ∧ s.get Fld.CARD_DS_CTRL_LEVELS n ≤ 6) ∧
  (s.get Fld.CARD_DS_CTRL_OUT_C n = 1 ∨ s.get Fld.CARD_DS_CTRL_OUT_C n = 3) ∧
  (s.get Fld.CARD_DS_CTRL_PATH n = 0 ∨ s.get Fld.CARD_DS_CTRL_SHUFFLE n = 0) ∧
  s.dsSlotBytes n ≤ s.get Fld.CARD_DS_SLOT_STRIDE_BYTES n ∧
  512 + (s.get Fld.CARD_DS_BATCH_BATCH n - 1) * s.get Fld.CARD_DS_SLOT_STRIDE_BYTES n + s.dsSlotBytes n ≤
    s.get Fld.CARD_DS_BUF_STRIDE_BYTES n

/-- A dataset stream as its enable leaves it, before its wait on FREE. -/
def State.dsStarted (s : State) (n : Nat) : State :=
  ((((((s.set Fld.CARD_DS_CTRL_EN n 1).set Fld.CARD_DS_POS_POS n 0).set Fld.CARD_DS_MEAN_MEAN n 0).set
    Fld.CARD_DS_LOG_WR_WR n 0).set Fld.CARD_DS_STATUS_POOL n 0).putDs n { DsStream.reset with
      live := true, epoch := s.get Fld.CARD_DS_EPOCH_EPOCH n, regs := dsFields.map (fun f => (f.code, s.get f n)) }).dsSync n

section
variable {s : State} {n : Nat} (hup : s.setUp = true)
include hup

theorem exec_dsEnable_taken (hen : s.isSet Fld.CARD_DS_CTRL_EN n = false) (h : s.dsFits n) : exec (.dsEnable n) s =
    .next ((s.dsStarted n).register (s.get Fld.CARD_DS_TOKENS_FREE n) (.ds n)).settle := by
  show execDsEnable n s = _
  rw [execDsEnable, State.host_up _ hup]
  refine congrArg _ ((if_neg (by simp [hen])).trans (if_pos ?_))
  simpa only [State.dsFits, Bool.and_eq_true, Bool.or_eq_true, decide_eq_true_eq, beq_iff_eq, and_assoc] using h

theorem exec_dsEnable_refused (hen : s.isSet Fld.CARD_DS_CTRL_EN n = false) (h : ¬ s.dsFits n) :
    exec (.dsEnable n) s = .next (s.raise Flg.CARD_DS_EVT_CFG_REFUSED n) := by
  show execDsEnable n s = _
  rw [execDsEnable, State.host_up _ hup]
  refine congrArg _ ((if_neg (by simp [hen])).trans (if_neg ?_))
  simpa only [State.dsFits, Bool.and_eq_true, Bool.or_eq_true, decide_eq_true_eq, beq_iff_eq, and_assoc] using h

theorem exec_dsDisable_idle (h : (s.ds n).batch = none) :
    exec (.dsDisable n) s = .next ((s.set Fld.CARD_DS_CTRL_EN n 0).dsStop n) := by
  show execDsDisable n s = _
  rw [execDsDisable, State.host_up _ hup]
  exact congrArg _ (if_neg (by simp [h]))

theorem exec_dsDisable_inBatch {b : Batch} (h : (s.ds n).batch = some b) : exec (.dsDisable n) s =
    .next ((s.set Fld.CARD_DS_CTRL_EN n 0).putDs n { s.ds n with stopping := true }) := by
  show execDsDisable n s = _
  rw [execDsDisable, State.host_up _ hup]
  exact congrArg _ (if_pos (by simp [h]))

end

/-! ## Budgets (R344) -/

theorem State.dsOver_unlimited {s : State} {n : Nat} {v : Sample} (h : v.budget = none) : s.dsOver n v = false := by
  rw [State.dsOver, h]

theorem State.dsOver_iff {s : State} {n b : Nat} {v : Sample} (h : v.budget = some b) :
    s.dsOver n v = true ↔ b ≤ s.dsBeats n v := by
  rw [State.dsOver, h]
  exact decide_eq_true_iff

/-- A sample whose beats stay below its budget, if it has one, is not over it. -/
theorem State.dsOver_within {s : State} {n : Nat} {v : Sample} (h : ∀ b, v.budget = some b → s.dsBeats n v < b) :
    s.dsOver n v = false := by
  cases hb : v.budget with
  | none => exact State.dsOver_unlimited hb
  | some b => exact Bool.eq_false_iff.mpr (mt (State.dsOver_iff hb).mp (Nat.not_le.mpr (h b hb)))

/-! ## The start of a sample (R341, R343, R345) -/

/-- The sample that a stream starts at a position. -/
def State.dsNextSample (s : State) (n p : Nat) : Sample :=
  Sample.mk (s.ds n).started p (s.ds n).epoch
    (if s.dsIs Fld.CARD_DS_CTRL_SHUFFLE n = true then shuffled (s.dsGet Fld.CARD_DS_SEED_SEED n)
      (s.ds n).epoch (s.dsN n) p else p) (s.dsBudget n (s.ds n).started) none

/-- A stream with a sample more in its pipelines. -/
def State.dsStartedSample (s : State) (n p : Nat) : State :=
  (s.putDs n { s.ds n with
    samples := (s.ds n).samples ++ [s.dsNextSample n p], started := (s.ds n).started + 1 }).set Fld.CARD_DS_POS_POS n (p + 1)

section
variable {s t : State} {n p : Nat} (ht : t = s.dsAdvance n) (hp : p = t.get Fld.CARD_DS_POS_POS n)
include ht hp

theorem exec_dsSampleStart_holds {k : Nat} (h : (t.ds n).live = false ∨ k ≠ p ∨ t.dsN n ≤ p ∨
      (t.ds n).taken + 16 ≤ (t.ds n).started ∨ 4 ≤ t.dsBusy) : exec (.dsSampleStart n k) s = .next t := by
  subst hp ht
  refine congrArg _ (if_neg ?_)
  simp only [Bool.and_eq_true, beq_iff_eq, decide_eq_true_eq]
  rintro ⟨⟨⟨⟨hlive, hk⟩, hn⟩, hahead⟩, hfree⟩
  rcases h with h | h | h | h | h
  · exact Bool.false_ne_true (h.symm.trans hlive)
  · exact h hk
  · omega
  · omega
  · omega

theorem exec_dsSampleStart_starts {u : State} {v : Sample} (hlive : (t.ds n).live = true) (hn : p < t.dsN n)
    (hahead : (t.ds n).started < (t.ds n).taken + 16) (hfree : t.dsBusy < 4) (hv : v = t.dsNextSample n p)
    (hu : u = t.dsStartedSample n p) : exec (.dsSampleStart n p) s = .next (
      if u.dsChecks n v.epoch v.index = 0 ∨ u.dsOver n v = true then u
      else (u.dsEnd n v.serial 64 (u.dsChecks n v.epoch v.index)).dsAdvance n) := by
  subst hv hu hp ht
  exact congrArg _ (if_pos (by simp [hlive, hn, hahead, hfree]))

end

/-! ## The end of a sample (R339, R343, R344) -/

section
variable {s : State} {n pos e : Nat} {v : Sample}

section
variable (hrun : s.dsRunning n pos (fun v => v.epoch == e) = some v)
include hrun

theorem exec_dsSampleEnd_over {b : Nat} (hb : v.budget = some b) (h : b ≤ s.dsBeats n v) :
    exec (.dsSampleEnd n pos e) s = .next s := by
  show execDsSampleEnd n pos e s = _
  rw [execDsSampleEnd, hrun]
  exact congrArg _ (if_pos ((State.dsOver_iff hb).mpr h))

/-- A sample within its budget ends with its beats, as the decoder takes it or not. -/
theorem exec_dsSampleEnd_within (h : ∀ b, v.budget = some b → s.dsBeats n v < b) {a len kind : Nat}
    (he : s.dsEntry n v.index = (a, len, kind)) :
    exec (.dsSampleEnd n pos e) s = .next ((s.dsEnd n v.serial (s.dsBeats n v)
      (if kind = 0 ∧ s.jpegOk n (s.load (Mem.lpddr a) len) = false then 0x0805 else 0)).dsAdvance n) := by
  show execDsSampleEnd n pos e s = _
  rw [execDsSampleEnd, hrun]
  refine congrArg _ ((if_neg (ne_true_of_eq_false (State.dsOver_within h))).trans ?_)
  rw [he]
  simp

end

theorem exec_decodeBudget_none (h : s.dsRunning n pos (s.dsOver n) = none) : exec (.decodeBudget n pos) s = .next s := by
  show execDecodeBudget n pos s = _
  rw [execDecodeBudget, h]

theorem exec_decodeBudget_abandons {b : Nat} (h : s.dsRunning n pos (s.dsOver n) = some v) (hb : v.budget = some b) :
    exec (.decodeBudget n pos) s = .next ((s.dsEnd n v.serial b 0x0802).dsAdvance n) := by
  show execDecodeBudget n pos s = _
  rw [execDecodeBudget, h]
  dsimp only
  rw [hb, Option.getD_some]

end

/-! ## The publication of a batch (R352) -/

/-- The batch header of Table 11.6. -/
def State.batchHeader (s : State) (n : Nat) (b : Batch) : List Byte :=
  leBytes 4 ((s.ds n).published + 1) ++ leBytes 4 b.epoch ++ leBytes 4 b.firstPos ++ leBytes 1 b.slots.length ++
  leBytes 1 n ++ leBytes 2 0 ++ leBytes 8 s.now ++ List.replicate 40 0 ++
  tableBytes 4 64 (b.slots.map Prod.fst) ++ tableBytes 2 64 (b.slots.map Prod.snd) ++ List.replicate 64 0

section
variable {s : State} {n : Nat} {b : Batch} (hb : (s.ds n).batch = some b)
include hb

theorem exec_batchPublish_partial (h : b.full = false) : exec (.batchPublish n) s = .next (s.dsAdvance n) := by
  show execBatchPublish n s = _
  rw [execBatchPublish]
  dsimp only
  rw [hb]
  exact congrArg _ (if_pos (by simp [h]))

theorem exec_batchPublish_full (h : b.full = true) (hs : (s.ds n).stopping = false) :
    exec (.batchPublish n) s = .next (State.dsAdvance (State.signal
      (((s.streamStore (s.get Fld.CARD_DS_CTRL_JOB n) (512 * s.dsGet Fld.CARD_DS_BUF_BASE_BASE n +
          b.buffer * s.dsGet Fld.CARD_DS_BUF_STRIDE_BYTES n) (s.batchHeader n b)).putDs n
        { s.ds n with batch := none, published := (s.ds n).published + 1 }).dsSync n)
      (s.dsGet Fld.CARD_DS_TOKENS_FULL n) 1) n) := by
  show execBatchPublish n s = _
  rw [execBatchPublish]
  dsimp only
  rw [hb]
  exact congrArg _ ((if_neg (by simp [h])).trans (if_neg (by simp [hs])))

end

/-- Settles O40: enable by its conditions, a sample by the pipelines and its budget, and a batch by its slots. -/
theorem datasetStreams : Obligations.DatasetStreams := by
  unfold Obligations.DatasetStreams
  refine ⟨fun s n hup hen ok hok => ⟨fun h => exec_dsEnable_taken hup hen (hok.mp h),
      fun h => exec_dsEnable_refused hup hen (mt hok.mpr h)⟩,
    fun s n hup => ⟨exec_dsDisable_idle hup, fun b => exec_dsDisable_inBatch hup⟩,
    fun s t n p k ht hp => ⟨exec_dsSampleStart_holds ht hp, fun hlive hn hahead hfree =>
      ⟨_, _, rfl, rfl, exec_dsSampleStart_starts ht hp hlive hn hahead hfree rfl rfl⟩⟩,
    fun s n pos e v hrun => ⟨fun b => exec_dsSampleEnd_over hrun, fun hin => ⟨fun hkind => ?_, fun a len he => ?_⟩⟩,
    fun s n pos => ⟨exec_decodeBudget_none, fun v b => exec_decodeBudget_abandons,
      fun v => ⟨State.dsOver_unlimited, fun b => State.dsOver_iff⟩⟩,
    fun s n b hb => ⟨exec_batchPublish_partial hb, exec_batchPublish_full hb⟩⟩
  · -- a tensor
    rcases he : s.dsEntry n v.index with ⟨a, len, kind⟩
    have htensor : kind = 1 := by rw [← hkind, he]
    rw [exec_dsSampleEnd_within hrun hin he, if_neg (by simp [htensor])]
  · -- an image
    rw [exec_dsSampleEnd_within hrun hin he]
    cases hok : s.jpegOk n (s.load (Mem.lpddr a) len) with
    | false => rfl
    | true => rfl

end Sys2Proof.Machine
end

section
/-! SUPPORT. The Larhelen rings: what reaches a ring, and the doorbells. -/

namespace Sys2Proof.Machine

/-! ## What reaches a ring (R360, R367) -/

section
variable {s : State} {c q : Nat} (f : State → State)

theorem State.ringHost_up (hup : s.setUp = true) (hring : s.ringExists c q = true) : s.ringHost c q f = f s :=
  (State.host_up _ hup).trans (if_pos hring)

/-- A set-up write of a ring changes nothing where no block answers or the function is not enabled. -/
theorem State.ringHost_unreached (h : s.setUp = false ∨ s.ringExists c q = false) : s.ringHost c q f = s := by
  rw [State.ringHost, State.host]
  split
  next hup => exact if_neg (by simpa [hup] using h)
  next => rfl

theorem State.doorbell_taken (hup : s.setUp = true) (hring : s.ringExists c q = true) : s.doorbell c q 0 4 f = f s :=
  (State.host_up _ hup).trans (if_pos ⟨rfl, rfl, hring⟩)

/-- A write of another width or place is no doorbell (R367). -/
theorem State.doorbell_misplaced {off size : Nat} (hup : s.setUp = true) (h : off ≠ 0 ∨ size ≠ 4) :
    s.doorbell c q off size f = s :=
  (State.host_up _ hup).trans (if_neg fun ⟨hoff, hsize, _⟩ => h.elim (· hoff) (· hsize))

end

/-! ## Doorbells (R368 to R370) -/

theorem State.sqDoorbellOk_iff (s : State) (c q v : Nat) : s.sqDoorbellOk c q v = true ↔
    s.isSet Fld.RING_SQ_CFG_EN (ix c q) = true ∧ v < 2 ^ s.get Fld.RING_SQ_CFG_LOG2_SIZE (ix c q) ∧
      ringGap (s.sqSize c q) v (s.get Fld.RING_SQ_TAIL_TAIL (ix c q)) + ringGap (s.sqSize c q)
        (s.get Fld.RING_SQ_TAIL_TAIL (ix c q)) (s.get Fld.RING_SQ_HEAD_HEAD (ix c q)) ≤ s.sqSize c q - 1 := by
  rw [State.sqDoorbellOk, Bool.and_eq_true, Bool.and_eq_true, decide_eq_true_eq, decide_eq_true_eq, and_assoc]
  rfl

theorem State.cqDoorbellOk_iff (s : State) (c q v : Nat) : s.cqDoorbellOk c q v = true ↔
    s.isSet Fld.RING_CQ_CFG_EN (ix c q) = true ∧ v < 2 ^ s.get Fld.RING_CQ_CFG_LOG2_SIZE (ix c q) ∧
      ringGap (s.cqSize c q) v (s.get Fld.RING_CQ_HEAD_HEAD (ix c q)) ≤ ringGap (s.cqSize c q)
        (s.get Fld.RING_CQ_TAIL_TAIL (ix c q)) (s.get Fld.RING_CQ_HEAD_HEAD (ix c q)) := by
  rw [State.cqDoorbellOk, Bool.and_eq_true, Bool.and_eq_true, decide_eq_true_eq, decide_eq_true_eq, and_assoc]
  rfl

/-- A doorbell that fails one of its three conditions does not meet them all. -/
theorem not_doorbellConditions {en : Bool} {v size gap room : Nat} (h : en = false ∨ size ≤ v ∨ room < gap) :
    ¬ (en = true ∧ v < size ∧ gap ≤ room) := by
  rintro ⟨hen, hsize, hgap⟩
  rcases h with h | h | h
  · exact Bool.false_ne_true (h.symm.trans hen)
  · omega
  · omega

/-- The capture takes an invalid doorbell where it is clear (R370). -/
theorem State.doorbellInvalid_captured {s : State} {c : Nat} (ring v : Nat) (h : s.isSet Fld.RING_EVT_DB_INVALID c = false) :
    s.doorbellInvalid c ring v =
      ((s.set Fld.RING_DB_CAP_RING c ring).set Fld.RING_DB_CAP_VALUE c v).raise Flg.RING_EVT_DB_INVALID c := by
  simp [State.doorbellInvalid, h]

theorem State.doorbellInvalid_again {s : State} {c : Nat} (ring v : Nat) (h : s.isSet Fld.RING_EVT_DB_INVALID c = true) :
    s.doorbellInvalid c ring v = s.raise Flg.RING_EVT_DB_INVALID c := by
  simp [State.doorbellInvalid, h]

section
variable {s : State} {c q v : Nat} (hup : s.setUp = true) (hring : s.ringExists c q = true)
include hup hring

theorem exec_sqDoorbell : exec (.sqDoorbell c q 0 4 v) s = .next
    (if s.sqDoorbellOk c q v then s.set Fld.RING_SQ_TAIL_TAIL (ix c q) v else s.doorbellInvalid c q v) :=
  congrArg _ (State.doorbell_taken _ hup hring)

theorem exec_cqDoorbell : exec (.cqDoorbell c q 0 4 v) s = .next
    (if s.cqDoorbellOk c q v then s.set Fld.RING_CQ_HEAD_HEAD (ix c q) v else s.doorbellInvalid c (64 + q) v) :=
  congrArg _ (State.doorbell_taken _ hup hring)

theorem exec_sqDoorbell_invalid (h : s.isSet Fld.RING_SQ_CFG_EN (ix c q) = false ∨
      2 ^ s.get Fld.RING_SQ_CFG_LOG2_SIZE (ix c q) ≤ v ∨
      s.sqSize c q - 1 < ringGap (s.sqSize c q) v (s.get Fld.RING_SQ_TAIL_TAIL (ix c q)) + ringGap (s.sqSize c q)
        (s.get Fld.RING_SQ_TAIL_TAIL (ix c q)) (s.get Fld.RING_SQ_HEAD_HEAD (ix c q))) :
    exec (.sqDoorbell c q 0 4 v) s = .next (s.doorbellInvalid c q v) :=
  (exec_sqDoorbell hup hring).trans
    (congrArg _ (if_neg (mt (s.sqDoorbellOk_iff c q v).mp (not_doorbellConditions h))))

theorem exec_cqDoorbell_invalid (h : s.isSet Fld.RING_CQ_CFG_EN (ix c q) = false ∨
      2 ^ s.get Fld.RING_CQ_CFG_LOG2_SIZE (ix c q) ≤ v ∨
      ringGap (s.cqSize c q) (s.get Fld.RING_CQ_TAIL_TAIL (ix c q)) (s.get Fld.RING_CQ_HEAD_HEAD (ix c q)) <
        ringGap (s.cqSize c q) v (s.get Fld.RING_CQ_HEAD_HEAD (ix c q))) :
    exec (.cqDoorbell c q 0 4 v) s = .next (s.doorbellInvalid c (64 + q) v) :=
  (exec_cqDoorbell hup hring).trans
    (congrArg _ (if_neg (mt (s.cqDoorbellOk_iff c q v).mp (not_doorbellConditions h))))

end

/-- Settles O41: a doorbell by the conditions of its validity, and an invalid one by what the capture holds. -/
theorem doorbellsMoveOrAreCaptured : Obligations.DoorbellsMoveOrAreCaptured := by
  unfold Obligations.DoorbellsMoveOrAreCaptured
  refine fun s c q v hup hring => ⟨fun hen hsize hgap => ?_, fun hen hsize hgap => ?_,
    fun h => ⟨fun hev => ?_, fun hev => ?_⟩, fun h => ⟨fun hev => ?_, fun hev => ?_⟩,
    fun off size h => ⟨congrArg _ (State.doorbell_misplaced _ hup h), congrArg _ (State.doorbell_misplaced _ hup h)⟩⟩
  · rw [exec_sqDoorbell hup hring, if_pos ((s.sqDoorbellOk_iff c q v).mpr ⟨hen, hsize, hgap⟩)]
  · rw [exec_cqDoorbell hup hring, if_pos ((s.cqDoorbellOk_iff c q v).mpr ⟨hen, hsize, hgap⟩)]
  · rw [exec_sqDoorbell_invalid hup hring h, State.doorbellInvalid_captured q v hev]
  · rw [exec_sqDoorbell_invalid hup hring h, State.doorbellInvalid_again q v hev]
  · rw [exec_cqDoorbell_invalid hup hring h, State.doorbellInvalid_captured (64 + q) v hev]
  · rw [exec_cqDoorbell_invalid hup hring h, State.doorbellInvalid_again (64 + q) v hev]

end Sys2Proof.Machine
end

section
/-! SUPPORT. The enable and disable of rings, and the reset of a client's function with its time-out. -/

namespace Sys2Proof.Machine

/-! ## Enable and disable (R386, R387) -/

/-- A completion ring as its enable leaves it, before its coalescing starts afresh. -/
def State.cqStarted (s : State) (c q : Nat) : State :=
  (((s.set Fld.RING_CQ_CFG_EN (ix c q) 1).set Fld.RING_CQ_TAIL_TAIL (ix c q) 0).set
    Fld.RING_CQ_HEAD_HEAD (ix c q) 0).set Fld.RING_CQ_TAIL_PHASE (ix c q) 1

section
variable {s : State} {c q : Nat} (hup : s.setUp = true) (hring : s.ringExists c q = true)
include hup hring

theorem exec_sqEnable_disabled (hen : s.isSet Fld.RING_SQ_CFG_EN (ix c q) = false) : exec (.sqEnable c q) s = .next (
    if s.get Fld.RING_PROTO_SEL_VERSION c ≠ 0 ∧ 8 ≤ s.get Fld.RING_SQ_CFG_LOG2_SIZE (ix c q) ∧
        s.get Fld.RING_SQ_CFG_LOG2_SIZE (ix c q) ≤ 16 ∧
        s.isSet Fld.RING_CQ_CFG_EN (ix c (s.get Fld.RING_SQ_CFG_CQ (ix c q))) then
      (((s.set Fld.RING_SQ_CFG_EN (ix c q) 1).set Fld.RING_SQ_HEAD_HEAD (ix c q) 0).set
        Fld.RING_SQ_TAIL_TAIL (ix c q) 0).set Fld.RING_SQ_SEQ_SEQ (ix c q) 0
    else s.raise Flg.RING_EVT_CFG_REFUSED c) := by
  show execSqEnable c q s = _
  rw [execSqEnable, State.ringHost_up _ hup hring]
  exact congrArg _ (if_neg (by simp [hen]))

theorem exec_sqDisable : exec (.sqDisable c q) s = .next (s.set Fld.RING_SQ_CFG_EN (ix c q) 0) :=
  congrArg _ (State.ringHost_up _ hup hring)

theorem exec_cqEnable_disabled (hen : s.isSet Fld.RING_CQ_CFG_EN (ix c q) = false) : exec (.cqEnable c q) s = .next (
    if s.get Fld.RING_PROTO_SEL_VERSION c ≠ 0 ∧ 8 ≤ s.get Fld.RING_CQ_CFG_LOG2_SIZE (ix c q) ∧
        s.get Fld.RING_CQ_CFG_LOG2_SIZE (ix c q) ≤ 16 then
      { s.cqStarted c q with rings := { (s.cqStarted c q).rings with
          coal := Sparse.erase (s.cqStarted c q).rings.coal (ix c q) } }
    else s.raise Flg.RING_EVT_CFG_REFUSED c) := by
  show execCqEnable c q s = _
  rw [execCqEnable, State.ringHost_up _ hup hring]
  exact congrArg _ (if_neg (by simp [hen]))

section
variable (hen : s.isSet Fld.RING_CQ_CFG_EN (ix c q) = true)
include hen

theorem exec_cqDisable_free (hbound : ∀ x, x < 64 → s.isSet Fld.RING_SQ_CFG_EN (ix c x) = true →
      s.get Fld.RING_SQ_CFG_CQ (ix c x) ≠ q) (hawait : s.cqAwaited c q = false) :
    exec (.cqDisable c q) s = .next (s.set Fld.RING_CQ_CFG_EN (ix c q) 0) := by
  show execCqDisable c q s = _
  rw [execCqDisable, State.ringHost_up _ hup hring]
  refine congrArg _ ((if_neg (by simp [hen])).trans (if_neg ?_))
  simpa [hawait] using hbound

theorem exec_cqDisable_inUse (h : (∃ x, x < 64 ∧ s.isSet Fld.RING_SQ_CFG_EN (ix c x) = true ∧
      s.get Fld.RING_SQ_CFG_CQ (ix c x) = q) ∨ s.cqAwaited c q = true) :
    exec (.cqDisable c q) s = .next (s.raise Flg.RING_EVT_CFG_REFUSED c) := by
  show execCqDisable c q s = _
  rw [execCqDisable, State.ringHost_up _ hup hring]
  refine congrArg _ ((if_neg (by simp [hen])).trans (if_pos ?_))
  simpa using h

end
end

/-! ## Function-level reset (R388) -/

/-- The commands of a client that a reset of its function removes: those that have not started. -/
def State.unstarted (s : State) (c : Nat) : List Cmd := s.cmds.filter (fun x => s.orphaned c x && !x.inProgress)

/-- The state with those commands withdrawn and taken out. -/
def State.unstartedGone (s : State) (c : Nat) : State :=
  s.forEach (s.unstarted c) (fun t x => (t.withdraw (.cmd x.uid)).dropCmd x.uid)

/-- The state that a reset of a client's function leaves, before the queues fill. -/
def State.functionCleared (s : State) (c : Nat) : State :=
  { s.unstartedGone c with
    cmds := (s.unstartedGone c).cmds.map
      (fun (x : Cmd) => if (s.unstartedGone c).orphaned c x then { x with orphan := true } else x)
    regs := (s.unstartedGone c).regs.filter (fun p => !inWindow c p.1)
    rings := { (s.unstartedGone c).rings with
      records := (s.unstartedGone c).rings.records.filter (fun r => r.client != c)
      coal := (s.unstartedGone c).rings.coal.filter (fun p => p.1 / 256 != c)
      resets := Sparse.insert (s.unstartedGone c).rings.resets c (s.unstartedGone c).refTime } }

theorem exec_functionLevelReset {s : State} {c : Nat} (hup : s.setUp = true) (hring : s.ringExists c 0 = true) :
    exec (.functionLevelReset c) s = .next (s.functionCleared c).fillQueues :=
  congrArg _ (State.ringHost_up (fun s => s.functionReset c) hup hring)

/-- Commands withdrawn and taken out one after another: only tokens and commands change, and a command that is left is
an earlier one of another number. -/
theorem State.forEach_withdrawn (s : State) (l : List Cmd) :
    ∃ t, s.forEach l (fun t x => (t.withdraw (.cmd x.uid)).dropCmd x.uid) = t ∧
      t = { s with tokens := t.tokens, cmds := t.cmds } ∧ ∀ x ∈ t.cmds, x ∈ s.cmds ∧ ∀ y ∈ l, x.uid ≠ y.uid := by
  induction l generalizing s with
  | nil => exact ⟨s, rfl, rfl, fun x hx => ⟨hx, by simp⟩⟩
  | cons a rest ih =>
    obtain ⟨t, hrun, hframe, hcmds⟩ := ih ((s.withdraw (.cmd a.uid)).dropCmd a.uid)
    refine ⟨t, hrun, hframe, fun x hx => ?_⟩
    obtain ⟨hleft, hrest⟩ := hcmds x hx
    have hx' : x ∈ s.cmds ∧ x.uid ≠ a.uid := by simpa [State.dropCmd, State.withdraw] using hleft
    exact ⟨hx'.1, List.forall_mem_cons.mpr ⟨hx'.2, hrest⟩⟩

theorem State.unstartedGone_frame (s : State) (c : Nat) :
    s.unstartedGone c = { s with tokens := (s.unstartedGone c).tokens, cmds := (s.unstartedGone c).cmds } := by
  obtain ⟨t, hrun, hframe, -⟩ := s.forEach_withdrawn (s.unstarted c)
  rwa [State.unstartedGone, hrun]

/-- A command of the client that is left has started. -/
theorem State.unstartedGone_inProgress {s : State} {c : Nat} {x : Cmd} (hx : x ∈ (s.unstartedGone c).cmds)
    (ho : s.orphaned c x = true) : x.inProgress = true := by
  obtain ⟨t, hrun, -, hcmds⟩ := s.forEach_withdrawn (s.unstarted c)
  rw [State.unstartedGone, hrun] at hx
  obtain ⟨hmem, hgone⟩ := hcmds x hx
  cases hstarted : x.inProgress with
  | true => rfl
  | false => exact absurd rfl (hgone x (List.mem_filter.mpr ⟨hmem, by simp [ho, hstarted]⟩))

theorem State.unstartedGone_orphaned (s : State) (c : Nat) (x : Cmd) :
    (s.unstartedGone c).orphaned c x = s.orphaned c x := by
  rw [s.unstartedGone_frame c]
  rfl

/-- A window field has its reset value, and every other field what it held. -/
theorem State.functionCleared_get (s : State) (c : Nat) (f : Field) (i : Nat) : (s.functionCleared c).get f i =
    if inWindow c (f.key i) = true then f.reset % 2 ^ f.width else s.get f i := by
  have hregs : (s.functionCleared c).regs = s.regs.filter (fun p => !inWindow c p.1) := by
    rw [State.functionCleared, s.unstartedGone_frame c]
  rw [State.get, hregs, Sparse.get]
  by_cases h : inWindow c (f.key i) = true
  · rw [if_pos h, Sparse.find_filter_false fun v => by simp [h]]
  · rw [if_neg h, Sparse.find_filter_true fun v => by simp [h]]
    rfl

/-- A command of the client or of a job of the client's that is left has started and is an orphan. -/
theorem State.functionCleared_cmds {s : State} {c : Nat} {x : Cmd} (hx : x ∈ (s.functionCleared c).cmds)
    (h : x.ofClient c = true ∨ (s.isSet Fld.RING_JOB_VALID x.job = true ∧ s.get Fld.RING_JOB_CLIENT x.job = c)) :
    x.inProgress = true ∧ x.orphan = true := by
  obtain ⟨y, hy, rfl⟩ := List.mem_map.mp hx
  rw [State.unstartedGone_orphaned] at h ⊢
  by_cases ho : s.orphaned c y = true
  · rw [if_pos ho]
    have hstarted : y.inProgress = true := State.unstartedGone_inProgress hy ho
    exact ⟨hstarted, rfl⟩
  · rw [if_neg ho] at h
    refine absurd ?_ ho
    rcases h with h | ⟨hvalid, hclient⟩
    · simp [State.orphaned, h]
    · simp [State.orphaned, hvalid, hclient]

theorem State.functionCleared_records {s : State} {c : Nat} {r : Record} (hr : r ∈ (s.functionCleared c).rings.records) :
    r.client ≠ c := by
  simpa using (List.mem_filter.mp hr).2

theorem State.functionCleared_resets (s : State) (c : Nat) :
    Sparse.find (s.functionCleared c).rings.resets c = some s.refTime := by
  rw [State.functionCleared, s.unstartedGone_frame c]
  exact (Sparse.find_insert _ c c _).trans (if_pos rfl)

theorem State.functionCleared_mem (s : State) (c : Nat) : (s.functionCleared c).mem = s.mem := by
  rw [State.functionCleared, s.unstartedGone_frame c]

/-! ## The time-out of a reset (R388) -/

section
variable {s : State} {c a : Nat} (h : Sparse.find s.rings.resets c = some a)
include h

theorem exec_flrTimeout_early (ht : s.refTime < a + 50000 * Config.us) : exec (.flrTimeout c) s = .next s := by
  show execFlrTimeout c s = _
  rw [execFlrTimeout, h]
  exact congrArg _ (if_pos ht)

theorem exec_flrTimeout_due {t : State} (ht : a + 50000 * Config.us ≤ s.refTime)
    (he : t = { s with rings := { s.rings with resets := Sparse.erase s.rings.resets c } }) :
    exec (.flrTimeout c) s = .next (match s.cmds.find? (fun x => x.orphan && s.orphaned c x) with
      | none => t
      | some x => (t.jobFault 0 x.job x.engine.hangSource).settle) := by
  subst he
  show execFlrTimeout c s = _
  rw [execFlrTimeout, h]
  exact congrArg _ (if_neg (Nat.not_lt.mpr ht))

end

/-- Settles O43: a ring by its conditions, a reset by the state before the queues fill, and a time-out by its time. -/
theorem ringSetUpAndReset : Obligations.RingSetUpAndReset := by
  unfold Obligations.RingSetUpAndReset
  refine ⟨fun s c q n hup hring => ⟨?_, ?_, exec_sqDisable hup hring, exec_cqDisable_free hup hring,
      exec_cqDisable_inUse hup hring⟩, fun s c q h => ?_,
    fun s c hup hring => ⟨s.functionCleared c, exec_functionLevelReset hup hring, s.functionCleared_get c,
      fun x => State.functionCleared_cmds, fun r => State.functionCleared_records, s.functionCleared_resets c,
      s.functionCleared_mem c⟩,
    fun s c a h => ⟨exec_flrTimeout_early h, fun ht => ⟨_, rfl, exec_flrTimeout_due h ht rfl⟩⟩⟩
  · rintro hen rfl
    exact exec_sqEnable_disabled hup hring hen
  · rintro hen rfl
    exact ⟨s.cqStarted c q, rfl, exec_cqEnable_disabled hup hring hen⟩
  · have hno (f : State → State) : (Host.Outcome.next (s.ringHost c q f) : Host.Outcome State Fault Refusal) = .next s :=
      congrArg _ (State.ringHost_unreached f h)
    exact ⟨hno _, hno _, hno _, hno _⟩

end Sys2Proof.Machine
end

section
/-! SUPPORT. Descriptors fetched, admitted and rejected, completion records written or waiting, and the vectors of the
completion rings. -/

namespace Sys2Proof.Machine

/-! ## Fetch (R28, R371, R373) -/

section
variable {s : State}

theorem exec_descriptorFetch_none (b : Bool) (h : s.fetching = false ∨ s.nextFetch = none) :
    exec (.descriptorFetch b) s = .next s := by
  show execDescriptorFetch b s = _
  rw [execDescriptorFetch]
  split
  next => rfl
  next hf =>
    have hnone : s.nextFetch = none := h.resolve_left (by simpa using hf)
    rw [hnone]

/-- The state with the next turn begun at a ring of a client. -/
def State.turned (s : State) (c q n : Nat) : State :=
  { s with rings := { s.rings with
    turnClient := c, turnCount := n, turnRing := Sparse.insert s.rings.turnRing c q } }

section
variable {c q n : Nat} (hf : s.fetching = true) (hn : s.nextFetch = some (c, q, n))
include hf hn

theorem exec_descriptorFetch_fails : exec (.descriptorFetch true) s = .next
    (((s.turned c q n).set Fld.RING_SQ_CFG_EN (ix c q) 0).raise Flg.RING_EVT_FETCH_ERR c) := by
  show execDescriptorFetch true s = _
  rw [execDescriptorFetch, hf, hn]
  rfl

theorem exec_descriptorFetch_fetches : exec (.descriptorFetch false) s = .next ((s.turned c q n).fetch c q) := by
  show execDescriptorFetch false s = _
  rw [execDescriptorFetch, hf, hn]
  rfl

end
end

/-! ## The checks of Table 12.4 (R373) -/

theorem State.admitCheck_opcode {d : List Byte} (s : State) (c q : Nat) (h : fieldOf d 0 1 = 0 ∨ 0x0E < fieldOf d 0 1) :
    s.admitCheck c q d = some 0x0101 := if_pos h

theorem State.admitCheck_field {s : State} {c q : Nat} {d : List Byte} (hlo : 1 ≤ fieldOf d 0 1) (hhi : fieldOf d 0 1 ≤ 0x0E)
    (h : s.headerOk c q d = false ∨ s.tokensOk d = false) : s.admitCheck c q d = some 0x0102 := by
  rw [State.admitCheck, if_neg (by omega)]
  cases hh : s.headerOk c q d with
  | false => rfl
  | true =>
    have ht : s.tokensOk d = false := h.resolve_left (by simp [hh])
    rw [ht]
    rfl

/-! ## Completion records (R377) -/

section
variable {s : State} {c q : Nat} {r : Record} {rest : List Record}
  (h : takeFirst (fun r => r.client == c && r.cq == q) s.rings.records = (some r, rest))
include h

theorem exec_completionRecordWrite_waits (hfull : s.cqFull c q = true) :
    exec (.completionRecordWrite c q) s = .next (s.recordsWait c q) := by
  show execCompletionRecordWrite c q s = _
  rw [execCompletionRecordWrite, show takeFirst (fun r => r.isFor c q) s.rings.records = _ from h]
  exact congrArg _ (if_pos hfull)

theorem exec_completionRecordWrite_writes (hroom : s.cqFull c q = false) : exec (.completionRecordWrite c q) s =
    .next (({ s with rings := { s.rings with records := rest } }).putRecord r) := by
  show execCompletionRecordWrite c q s = _
  rw [execCompletionRecordWrite, show takeFirst (fun r => r.isFor c q) s.rings.records = _ from h]
  exact congrArg _ (if_neg (by simp [hroom]))

end

/-- A ring without interrupts coalesces nothing (R381). -/
theorem State.coalesce_silent {s : State} {c q : Nat} (irq : Bool) (h : s.isSet Fld.RING_CQ_CFG_IEN (ix c q) = false) :
    s.coalesce c q irq = s := if_pos (by simp [h])

/-- A record in its ring: its bytes at TAIL, and TAIL and the phase moved on. -/
def State.recordPut (s : State) (r : Record) : State :=
  ((s.store (Mem.host ((32 * s.get Fld.RING_CQ_BASE_BASE (ix r.client r.cq) +
        32 * s.get Fld.RING_CQ_TAIL_TAIL (ix r.client r.cq)) % 2 ^ 64))
      (s.recordBytes r (s.get Fld.RING_CQ_TAIL_PHASE (ix r.client r.cq)))).set Fld.RING_CQ_TAIL_TAIL (ix r.client r.cq)
    ((s.get Fld.RING_CQ_TAIL_TAIL (ix r.client r.cq) + 1) % s.cqSize r.client r.cq)).set Fld.RING_CQ_TAIL_PHASE
      (ix r.client r.cq)
    (if (s.get Fld.RING_CQ_TAIL_TAIL (ix r.client r.cq) + 1) % s.cqSize r.client r.cq = 0 then
      1 - s.get Fld.RING_CQ_TAIL_PHASE (ix r.client r.cq) else s.get Fld.RING_CQ_TAIL_PHASE (ix r.client r.cq))

theorem State.putRecord_eq (s : State) (r : Record) : s.putRecord r = (s.recordPut r).coalesce r.client r.cq r.irq := rfl

/-- Writing a record leaves its ring's interrupt enable. -/
theorem State.recordPut_ien (s : State) (r : Record) : (s.recordPut r).isSet Fld.RING_CQ_CFG_IEN (ix r.client r.cq) =
    s.isSet Fld.RING_CQ_CFG_IEN (ix r.client r.cq) := by
  rw [State.isSet, State.recordPut, State.get_set_code _ _ _ _ _ (by decide), State.get_set_code _ _ _ _ _ (by decide),
    State.get_store, State.isSet]

theorem State.putRecord_silent {s : State} {r : Record} (h : s.isSet Fld.RING_CQ_CFG_IEN (ix r.client r.cq) = false) :
    s.putRecord r = s.recordPut r := by
  rw [State.putRecord_eq, State.coalesce_silent r.irq ((s.recordPut_ien r).trans h)]

/-! ## Vectors (R381) -/

theorem exec_coalTimer_counting {s : State} {c q n first : Nat} (h : Sparse.find s.rings.coal (ix c q) = some (n, first))
    (hien : s.isSet Fld.RING_CQ_CFG_IEN (ix c q) = true) (htime : s.get Fld.RING_CQ_CFG_COAL_TIME (ix c q) ≠ 0) :
    exec (.coalTimer c q) s = .next
      (if first + s.get Fld.RING_CQ_CFG_COAL_TIME (ix c q) * Config.us ≤ s.refTime then s.sendCq c q else s) := by
  show execCoalTimer c q s = _
  rw [execCoalTimer]
  dsimp only
  rw [h]
  simp only [hien, htime, ne_eq, not_false_eq_true, true_and]

/-- A clear of a vector's mask leaves the pending bits of its client. -/
theorem State.get_pending_set_mask {s : State} {c v : Nat} (h : s.ringExists c v = true) (m : Nat) :
    (s.set Fld.MSIX_CTRL_MASK (ix c v) m).get Fld.MSIX_PBA_PENDING c = s.get Fld.MSIX_PBA_PENDING c := by
  obtain ⟨⟨hc, hv⟩, -⟩ : (c < 16 ∧ v < 64) ∧ _ := by simpa [State.ringExists] using h
  exact s.get_set_key _ _ _ _ _ (Field.key_ne (by decide) (by omega) (by unfold ix; omega))

theorem exec_msixUnmask {s : State} {c v : Nat} (hup : s.setUp = true) (h : s.ringExists c v = true) :
    exec (.msixUnmask c v) s = .next (
      if s.get Fld.MSIX_PBA_PENDING c / 2 ^ v % 2 = 1 then
        ((s.set Fld.MSIX_CTRL_MASK (ix c v) 0).set Fld.MSIX_PBA_PENDING c
          (s.get Fld.MSIX_PBA_PENDING c - 2 ^ v)).sendVector c v
      else s.set Fld.MSIX_CTRL_MASK (ix c v) 0) := by
  refine congrArg _ ((State.ringHost_up (fun s => s.unmask c v) hup h).trans ?_)
  rw [State.unmask, State.get_pending_set_mask h]

/-- Settles O42: a fetch by whether its read fails and by what its descriptor holds, a record by the room in its ring,
and a vector by its timer and its mask. -/
theorem descriptorsFetchedAndRecordsWritten : Obligations.DescriptorsFetchedAndRecordsWritten := by
  unfold Obligations.DescriptorsFetchedAndRecordsWritten
  refine ⟨fun s => exec_descriptorFetch_none, ?_,
    fun s c q d => ⟨s.admitCheck_opcode c q, State.admitCheck_field⟩,
    fun s c q r rest h => ⟨fun hfull => ⟨_, rfl, exec_completionRecordWrite_waits h hfull⟩,
      exec_completionRecordWrite_writes h⟩, ?_,
    fun s c q n first => exec_coalTimer_counting, fun s c v => exec_msixUnmask⟩
  · rintro s t c q n head d hf hn rfl rfl rfl
    exact ⟨exec_descriptorFetch_fails hf hn, _, rfl, exec_descriptorFetch_fetches hf hn⟩
  · rintro s r tail rfl hien
    exact ⟨s.recordPut r, rfl, State.putRecord_silent hien⟩

end Sys2Proof.Machine
end

section
/-! SUPPORT. The power block and the accounting interval: the shares of energy, the set point, the ramp, telemetry and
the capping window. -/

namespace Sys2Proof.Machine

/-! ## Accounting (R421) -/

/-- What every step of a list leaves, the whole list leaves. -/
theorem State.forEach_leaves {α β : Type} (part : State → β) {f : State → α → State}
    (h : ∀ t a, part (f t a) = part t) (s : State) (l : List α) : part (s.forEach l f) = part s := by
  induction l generalizing s with
  | nil => rfl
  | cons a rest ih => exact (ih (f s a)).trans (h s a)

/-- Additions to different rows of a wrapping counter: each listed row takes its own amount. -/
theorem State.get_forEach_accum (f : Field) (amount : Nat → Nat) {l : List Nat} (hl : l.Nodup) (s : State) (i : Nat) :
    (s.forEach l (fun t c => t.accum f c (amount c))).get f i =
      if i ∈ l then (s.get f i + amount i) % 2 ^ f.width else s.get f i := by
  induction l generalizing s with
  | nil => rfl
  | cons c rest ih =>
    obtain ⟨hc, hrest⟩ := List.nodup_cons.mp hl
    rw [State.forEach, ih hrest]
    by_cases hi : i = c
    · subst hi
      rw [if_neg hc, if_pos List.mem_cons_self, State.accum_eq, State.get_set_same]
    · have hkey : (s.accum f c (amount c)).get f i = s.get f i := s.get_set_key f f c i _ (Field.key_ne_index hi)
      simp only [hkey, List.mem_cons, hi, false_or]

/-- Additions to rows below 2^32 of one counter leave every other field. -/
theorem State.get_forEach_accum_other {f g : Field} (amount : Nat → Nat) (hg : g.code ≠ f.code) {i : Nat}
    (hi : i < 0x100000000) {l : List Nat} (hl : ∀ c ∈ l, c < 0x100000000) (s : State) :
    (s.forEach l (fun t c => t.accum f c (amount c))).get g i = s.get g i := by
  induction l generalizing s with
  | nil => rfl
  | cons c rest ih =>
    rw [State.forEach, ih fun x hx => hl x (List.mem_cons_of_mem _ hx)]
    exact s.get_set_key f g c i _ (Field.key_ne hg hi (hl c List.mem_cons_self))

/-- An interval's energy, shared: each client's amount to its row, and what is left to the package's row 16. -/
def State.energyShared (s : State) (share : Nat → Nat) (left : Nat) : State :=
  (s.forEach (List.range 16) (fun t c => t.accum Fld.HEDDLE_ACCT_ENERGY_COUNT c (share c))).accum
    Fld.HEDDLE_ACCT_ENERGY_COUNT 16 left

section
variable (s : State) (share : Nat → Nat) (left : Nat)

theorem State.energyShared_heddle : (s.energyShared share left).heddle = s.heddle := by
  rw [State.energyShared, State.accum_eq, State.set_heddle]
  refine State.forEach_leaves State.heddle (fun t c => ?_) s (List.range 16)
  rfl

theorem State.energyShared_client {c : Nat} (hc : c < 16) :
    (s.energyShared share left).get Fld.HEDDLE_ACCT_ENERGY_COUNT c =
      (s.get Fld.HEDDLE_ACCT_ENERGY_COUNT c + share c) % 2 ^ Fld.HEDDLE_ACCT_ENERGY_COUNT.width := by
  rw [State.energyShared, State.accum_eq, State.get_set_key _ _ _ _ _ _ (Field.key_ne_index (by omega)),
    State.get_forEach_accum _ _ List.nodup_range, if_pos (List.mem_range.mpr hc)]

theorem State.energyShared_package : (s.energyShared share left).get Fld.HEDDLE_ACCT_ENERGY_COUNT 16 =
    (s.get Fld.HEDDLE_ACCT_ENERGY_COUNT 16 + left) % 2 ^ Fld.HEDDLE_ACCT_ENERGY_COUNT.width := by
  rw [State.energyShared, State.accum_eq, State.get_set_same, State.get_forEach_accum _ _ List.nodup_range,
    if_neg (by simp)]

theorem State.energyShared_other {g : Field} (hg : g.code ≠ Fld.HEDDLE_ACCT_ENERGY_COUNT.code) {i : Nat}
    (hi : i < 0x100000000) : (s.energyShared share left).get g i = s.get g i := by
  rw [State.energyShared, State.accum_eq, State.get_set_key _ _ _ _ _ _ (Field.key_ne hg hi (by decide)),
    State.get_forEach_accum_other _ hg hi fun c hc => by have := List.mem_range.mp hc; omega]

end

theorem exec_accountingInterval_none {s : State} (h : s.powered = false ∨
    (s.heddle.intervalAt ≤ s.now ∧ s.now < s.heddle.intervalAt + 4000000)) : exec .accountingInterval s = .next s :=
  congrArg _ (if_pos (by simpa using h))

/-- A shared interval's state with the next interval begun at the count and energy of s. -/
def State.intervalBegun (u s : State) : State :=
  { u with heddle := { u.heddle with interval := [], intervalAt := s.now, energyAt := s.get Fld.PWR_ENERGY_ENERGY 0 } }

theorem State.get_intervalBegun (u s : State) (f : Field) (i : Nat) : (u.intervalBegun s).get f i = u.get f i := rfl

theorem State.intervalBegun_heddle {u s : State} (h : u.heddle = s.heddle) : (u.intervalBegun s).heddle =
    { s.heddle with interval := [], intervalAt := s.now, energyAt := s.get Fld.PWR_ENERGY_ENERGY 0 } := by
  rw [State.intervalBegun, h]

theorem exec_accountingInterval_due {s : State} {e idle total : Nat} {share : Nat → Nat} (hp : s.powered = true)
    (ht : s.heddle.intervalAt + 4000000 ≤ s.now)
    (he : e = (s.get Fld.PWR_ENERGY_ENERGY 0 + 2 ^ 64 - s.heddle.energyAt) % 2 ^ 64)
    (hidle : idle = min e (s.get Fld.HEDDLE_ACCT_IDLE_MW 0 * 65536 / 1000))
    (htotal : total = ((List.range 17).map s.weighted).sum)
    (hshare : share = fun c => if total = 0 then 0 else (e - idle) * s.weighted c / total) :
    exec .accountingInterval s = .next ((s.energyShared share (e - ((List.range 16).map share).sum)).intervalBegun s) := by
  have hdue : ¬ ((!s.powered || (decide (s.heddle.intervalAt ≤ s.now) &&
      decide (s.now < s.heddle.intervalAt + 4000000))) = true) := by simp [hp]; omega
  show execAccountingInterval s = _
  rw [execAccountingInterval, if_neg hdue, hshare, htotal, hidle, he, State.intervalBegun, State.energyShared]

/-! ## Set point and ramp (R581, R583) -/

/-- What a write of a set point does. -/
def State.writeVset (s : State) (mv : Nat) : State :=
  if mv < 600 ∨ 850 < mv ∨ mv % 5 ≠ 0 then s.raise Flg.PWR_EVT_SET_REFUSED 0
  else (s.set Fld.PWR_VSET_MV 0 mv).pwrSync

theorem exec_vsetWrite_refused {s : State} {mv : Nat} (hup : s.setUp = true) (h : mv < 600 ∨ 850 < mv ∨ mv % 5 ≠ 0) :
    exec (.vsetWrite mv) s = .next (s.raise Flg.PWR_EVT_SET_REFUSED 0) :=
  (congrArg Host.Outcome.next (State.host_up (fun s => s.writeVset mv) hup)).trans (congrArg _ (if_pos h))

theorem exec_vsetWrite_taken {s : State} {mv : Nat} (hup : s.setUp = true) (hlo : 600 ≤ mv) (hhi : mv ≤ 850)
    (h5 : mv % 5 = 0) : exec (.vsetWrite mv) s = .next (s.set Fld.PWR_VSET_MV 0 mv).pwrSync :=
  (congrArg Host.Outcome.next (State.host_up (fun s => s.writeVset mv) hup)).trans (congrArg _ (if_neg (by omega)))

theorem State.avsOn_ready {s : State} (hp : s.powered = true) (hr : s.pwr.ready = true) : s.avsOn = true := by
  rw [State.avsOn, hp, hr]
  rfl

theorem State.avsOn_unready {s : State} (hr : s.pwr.ready = false) : s.avsOn = false := by
  rw [State.avsOn, hr, Bool.and_false]

section
variable {s : State} (hon : s.avsOn = true)
include hon

theorem exec_rampStep_none (h : s.pwr.waiting = true ∨ s.pwr.commanded = s.vTarget ∨
    s.refTime < s.pwr.stepAt + s.get Fld.PWR_SLEW_STEP_US 0 * Config.us) : exec .rampStep s = .next s :=
  congrArg _ (if_pos (by simpa [hon, or_assoc] using h))

theorem exec_rampStep_steps {v : Nat} (hw : s.pwr.waiting = false) (hne : s.pwr.commanded ≠ s.vTarget)
    (ht : s.pwr.stepAt + s.get Fld.PWR_SLEW_STEP_US 0 * Config.us ≤ s.refTime)
    (hv : v = rampTo s.pwr.commanded s.vTarget (s.get Fld.PWR_SLEW_STEP_MV 0)) :
    exec .rampStep s = .next (((State.set { s with pwr := { s.pwr with commanded := v, stepAt := s.refTime } }
      Fld.PWR_VAPPLIED_MV 0 v).set Fld.PWR_STATUS_AVS_OK 0 1).pwrSync) := by
  subst hv
  exact congrArg _ (if_neg (by simp [hon, hw, hne, ht]))

theorem exec_avsTransactionFail_stops : exec .avsTransactionFail s = .next (((State.set
    { s with pwr := { s.pwr with waiting := true } } Fld.PWR_STATUS_AVS_OK 0 0).raise Flg.PWR_EVT_AVS_ERR 0)) :=
  congrArg _ (if_pos hon)

/-! ## Telemetry and the window (R585 to R587) -/

omit hon in
theorem exec_telemetrySample_early {cm cc sm sc : Nat} {tj : List Int} {b : Bool}
    (h : s.refTime < s.pwr.sampleAt + 100 * Config.us) : exec (.telemetrySample cm cc sm sc tj b) s = .next s :=
  congrArg _ (if_pos (by simp [h]))

omit hon in
/-- A sample's rails and temperatures, recorded. -/
def State.sampled (s : State) (cm cc sm sc : Nat) (tj : List Int) (b : Bool) : State :=
  (((((State.forEach { s with pwr := { s.pwr with
      rails := [(0, (cm, cc)), (1, (sm, sc))]
      core := s.pwr.core + cm * cc
      sram := s.pwr.sram + sm * sc
      waiting := s.pwr.waiting && !b
      sampleAt := s.refTime } } ((List.range 5).zip tj) (fun t p => t.set Fld.PWR_TJN_TJ p.1 (unsigned 16 p.2))).set
    Fld.PWR_TJ_MAX 0 (unsigned 16 (tj.foldl max (tj.headD 0)))).set Fld.PWR_TJ_PEAK 0 (unsigned 16
      (if s.getInt Fld.PWR_TJ_PEAK 0 < tj.foldl max (tj.headD 0) then tj.foldl max (tj.headD 0)
        else s.getInt Fld.PWR_TJ_PEAK 0))).set Fld.PWR_STATUS_AVS_OK 0 1).railSample 0 cm s.pwr.commanded).railSample 1
    sm 800

section
variable {cm cc sm sc : Nat} {tj : List Int} {b : Bool} (h : s.pwr.sampleAt + 100 * Config.us ≤ s.refTime)
include h

theorem exec_telemetrySample_cool (hcool : tj.foldl max (tj.headD 0) < (s.sampled cm cc sm sc tj b).gradeMax) :
    exec (.telemetrySample cm cc sm sc tj b) s = .next (s.sampled cm cc sm sc tj b) :=
  congrArg _ ((if_neg (by simp [hon, h])).trans (if_neg (Int.not_le.mpr hcool)))

theorem exec_telemetrySample_hot {v w : State} (hv : v = s.sampled cm cc sm sc tj b)
    (hhot : v.gradeMax ≤ tj.foldl max (tj.headD 0)) (hl : v.isSet Fld.PWR_STATUS_TJ_LIMIT 0 = false)
    (hw : w = ((v.set Fld.PWR_VAPPLIED_CEIL_MV 0 600).set Fld.PWR_STATUS_TJ_LIMIT 0 1).raise Flg.PWR_EVT_TJ_LIMIT 0) :
    exec (.telemetrySample cm cc sm sc tj b) s = .next (State.pwrSync
      { w with pwr := { w.pwr with hot := some (w.gradeMax, true) } }) := by
  subst hv
  have hdo : w = ((s.sampled cm cc sm sc tj b).set Fld.PWR_VAPPLIED_CEIL_MV 0 600).doIf
      (!(s.sampled cm cc sm sc tj b).isSet Fld.PWR_STATUS_TJ_LIMIT 0)
      (fun w => (w.set Fld.PWR_STATUS_TJ_LIMIT 0 1).raise Flg.PWR_EVT_TJ_LIMIT 0) := by
    rw [hl, hw]
    rfl
  rw [hdo]
  exact congrArg _ ((if_neg (by simp [hon, h])).trans (if_pos hhot))

end

omit hon in
theorem exec_powerWindow_within (hlo : s.pwr.windowAt ≤ s.now) (hhi : s.now < s.pwr.windowAt + 4000000) :
    exec .powerWindow s = .next s :=
  congrArg _ (if_pos (by simp [hlo, hhi]))

theorem exec_powerWindow_ends {mw units : Nat} (h : s.pwr.windowAt + 4000000 ≤ s.now)
    (hmw : mw = (s.pwr.core + s.pwr.sram) / 1000 + s.get Fld.PWR_OTHER_MW 0)
    (hunits : units = s.pwr.core * 65536 + s.pwr.carry) {t : State}
    (ht : t = ((s.set Fld.PWR_POWER_MW 0 (min mw (2 ^ 32 - 1))).accum Fld.PWR_ENERGY_ENERGY 0
      (units / 1000000)).capWindow mw) :
    exec .powerWindow s = .next (State.pwrSync { t with pwr := { t.pwr with
      core := 0, sram := 0, carry := units % 1000000, windowAt := s.now } }) := by
  subst hmw hunits ht
  exact congrArg _ (if_neg (by simp [hon]; omega))

end

/-- Before BOOT has read the voltage, nothing of the AVSBus block happens (R580). -/
theorem exec_power_unready {s : State} (cm cc sm sc : Nat) (tj : List Int) (b : Bool) (hr : s.pwr.ready = false) :
    exec .rampStep s = .next s ∧ exec .avsTransactionFail s = .next s ∧ exec .powerWindow s = .next s ∧
    exec (.telemetrySample cm cc sm sc tj b) s = .next s := by
  have hoff : s.avsOn = false := State.avsOn_unready hr
  exact ⟨congrArg _ (if_pos (by simp [hoff])), congrArg _ (if_neg (by simp [hoff])),
    congrArg _ (if_pos (by simp [hoff])), congrArg _ (if_pos (by simp [hoff]))⟩

/-- Over the cap, and no hotter than the limit allows, the ceiling falls by a step (R586). -/
theorem State.capWindow_over {s t : State} {mw : Nat} (hhot : s.pwr.hot = none)
    (htop : s.getInt Fld.PWR_TJ_MAX 0 < s.gradeMax - 80) (hcap : s.get Fld.PWR_CAP_WATTS 0 * 1000 < mw)
    (ht : t = s.raise Flg.PWR_EVT_CAP_ACTIVE 0) : s.capWindow mw =
      (State.set { t with pwr := { t.pwr with hot := none } } Fld.PWR_STATUS_TJ_LIMIT 0 0).setCeiling
        (max 600 (s.get Fld.PWR_VAPPLIED_CEIL_MV 0 - s.get Fld.PWR_SLEW_STEP_MV 0)) := by
  subst ht
  rw [State.capWindow]
  simp only [hhot, hcap, decide_true, State.doIf_true, if_true]
  exact if_neg (Int.not_le.mpr htop)

/-- Settles O46: the interval by the rows of its shares, and each power event by whether it is due. -/
theorem energyAndPower : Obligations.EnergyAndPower := by
  unfold Obligations.EnergyAndPower
  refine ⟨fun s e idle total => ⟨exec_accountingInterval_none, fun hp ht he hidle htotal =>
      ⟨_, exec_accountingInterval_due hp ht he hidle htotal rfl,
        State.intervalBegun_heddle (s.energyShared_heddle _ _),
        fun c hc => (State.get_intervalBegun _ _ _ _).trans (s.energyShared_client _ _ hc),
        (State.get_intervalBegun _ _ _ _).trans (s.energyShared_package _ _),
        fun f i hf hi => (State.get_intervalBegun _ _ _ _).trans (s.energyShared_other _ _ hf hi)⟩⟩,
    fun s mv hup => ⟨exec_vsetWrite_refused hup, exec_vsetWrite_taken hup⟩, fun s hp hr => ?_,
    fun s cm cc sm sc tj b hp hr => ?_, fun s hp hr => ?_, fun s cm cc sm sc tj b => exec_power_unready cm cc sm sc tj b,
    fun s mw hhot htop hcap => ⟨_, rfl, State.capWindow_over hhot htop hcap rfl⟩⟩
  all_goals have hon : s.avsOn = true := State.avsOn_ready hp hr
  · exact ⟨exec_rampStep_none hon, fun v => exec_rampStep_steps hon, exec_avsTransactionFail_stops hon⟩
  · refine ⟨exec_telemetrySample_early, ?_⟩
    rintro top u v hs rfl rfl rfl
    exact ⟨exec_telemetrySample_cool hon hs, fun hhot hl => ⟨_, rfl, exec_telemetrySample_hot hon hs rfl hhot hl rfl⟩⟩
  · exact ⟨exec_powerWindow_within, fun mw units h hmw hu => ⟨_, rfl, exec_powerWindow_ends hon h hmw hu rfl⟩⟩

end Sys2Proof.Machine
end

section
/-! SUPPORT. The Heddle's tables, its cycle boundary, and its slots. -/

namespace Sys2Proof.Machine

/-- A host access of a block that answers, by what it does. -/
theorem next_host_up {s t : State} {f : State → State} (hup : s.setUp = true) (h : f s = t) :
    (Host.Outcome.next (s.host f) : Host.Outcome State Fault Refusal) = .next t :=
  congrArg _ ((State.host_up f hup).trans h)

/-! ## Tables (R392, R393) -/

/-- A table is taken only where it meets every check (Table 13.2). -/
theorem State.readTable_checked {s : State} {t : Table} (h : s.readTable = .inl t) :
    400000 ≤ t.cycle ∧ t.cycle ≤ 400000000 ∧ slotsOrdered t.cycle 0 t.slots = true ∧ slotsApart t.slots = true ∧
    goldenOk t.slots = true ∧
    ∀ k ∈ s.liveSkeins, testable t.cycle (s.get Fld.HEDDLE_TEST_BOUND_TICKS 0) t.slots k = true := by
  unfold State.readTable at h
  extract_lets _ _ _ cycle _ _ xs at h
  split_ifs at h with _ _ hcycle _ hordered hapart hgolden htest
  cases h
  simp only [Bool.not_eq_true, Bool.not_eq_false', List.all_eq_true] at hordered hapart hgolden htest
  exact ⟨(by omega : 400000 ≤ cycle), (by omega : cycle ≤ 400000000), hordered, hapart, hgolden, htest⟩

section
variable {s : State} (hup : s.setUp = true)
include hup

section
variable (harm : s.isSet Fld.HEDDLE_TBL_CMD_ARM 0 = true)
include harm

theorem exec_tableLoad_armed : exec .tableLoad s = .next
    ((s.set Fld.HEDDLE_STATUS_LOAD_REASON 0 8).raise Flg.HEDDLE_EVT_TBL_REFUSED 0) :=
  next_host_up hup (if_pos harm)

theorem exec_tableArm_armed : exec .tableArm s = .next s := next_host_up hup (if_pos harm)

end

section
variable (harm : s.isSet Fld.HEDDLE_TBL_CMD_ARM 0 = false)
include harm

theorem exec_tableLoad_taken {t : Table} (h : s.readTable = .inl t) :
    exec .tableLoad s = .next { s with heddle := { s.heddle with pending := some t } } :=
  next_host_up hup (by rw [State.loadTable, harm, h]; rfl)

theorem exec_tableLoad_refused {r : Nat} (h : s.readTable = .inr r) : exec .tableLoad s = .next
    ((({ s with heddle := { s.heddle with pending := none } }).set Fld.HEDDLE_STATUS_LOAD_REASON 0 r).raise
      Flg.HEDDLE_EVT_TBL_REFUSED 0) :=
  next_host_up hup (by rw [State.loadTable, harm, h]; rfl)

theorem exec_tableArm_refused (h : s.heddle.pending = none) : exec .tableArm s = .next
    ((s.set Fld.HEDDLE_STATUS_LOAD_REASON 0 0).raise Flg.HEDDLE_EVT_TBL_REFUSED 0) :=
  next_host_up hup (by rw [State.armTable, harm, h]; rfl)

theorem exec_tableArm_taken (h : s.heddle.pending ≠ none) : exec .tableArm s = .next
    { s.set Fld.HEDDLE_TBL_CMD_ARM 0 1 with heddle := { s.heddle with armAt := s.now } } := by
  refine next_host_up hup ((if_neg (by simp [harm])).trans (if_neg ?_))
  simpa using h

end
end

/-! ## Boundaries (R394) -/

@[simp] theorem State.raise_heddle (s : State) (f : Flag) (i : Nat) : (s.raise f i).heddle = s.heddle := by
  obtain ⟨_, _, _, h⟩ := s.raise_frame f i
  rw [h]

section
variable {s : State} {t : Table} {n : Nat}

theorem exec_cycleBoundary_stopped (h : s.dev ≠ .run) : exec .cycleBoundary s = .next s := congrArg _ (if_neg h)

theorem exec_cycleBoundary_runs (h : s.dev = .run) : exec .cycleBoundary s = .next s.crossCycles := congrArg _ (if_pos h)

variable (ha : s.heddle.active = some t) (hn : n = (s.now - s.boundary) / t.cycle)
include ha hn

theorem State.crossCycles_within (h0 : n = 0) : s.crossCycles = s := by
  subst hn
  rw [State.crossCycles, ha]
  exact if_pos h0

theorem State.crossCycles_unarmed (h0 : n ≠ 0) (harm : s.isSet Fld.HEDDLE_TBL_CMD_ARM 0 = false) :
    s.crossCycles = { s.advanceCycle t.cycle n with heddle := { s.heddle with openSlots := [], quiesced := [] } } := by
  subst hn
  rw [State.crossCycles, ha]
  refine (if_neg h0).trans ?_
  simp only [harm, Bool.false_and]
  rfl

theorem State.crossCycles_swaps {u : Table} {v w : State} (h0 : n ≠ 0)
    (harm : s.isSet Fld.HEDDLE_TBL_CMD_ARM 0 = true) (hswap : s.swapAfter t.cycle ≤ n)
    (hp : s.heddle.pending = some u) (hv : v = s.advanceCycle t.cycle (s.swapAfter t.cycle))
    (hw : w = State.raise { (v.set Fld.HEDDLE_TBL_CMD_ARM 0 0).set Fld.HEDDLE_CYCLE_EPOCH_TIME 0 v.boundary with
      heddle := { s.heddle with active := some u } } Flg.HEDDLE_EVT_SWAPPED 0) :
    s.crossCycles = { w.advanceCycle u.cycle ((w.now - w.boundary) / u.cycle) with
      heddle := { s.heddle with active := some u, openSlots := [], quiesced := [] } } := by
  have hvw : v.swapTable = w := by
    rw [hw, ← hp, hv]
    rfl
  have hwh : w.heddle = { s.heddle with active := some u } := by rw [hw, State.raise_heddle]
  subst hn
  rw [State.crossCycles, ha]
  refine (if_neg h0).trans ?_
  simp only [harm, hswap, decide_true, Bool.and_self, if_true, ← hv, hvw, hwh]
  rw [State.advanceCycle, State.accum_eq, State.set_heddle, State.set_heddle, hwh]

end

/-! ## Slots (R397, R402) -/

section
variable {s : State} {t : Table} {i : Nat} {x : Slot} (ha : s.heddle.active = some t) (hx : t.slots[i]? = some x)

section
include ha hx

theorem exec_slotOpen_none (h : s.dev ≠ .run ∨ i ∈ s.heddle.openSlots ∨ s.slotHolds x = false) :
    exec (.slotOpen i) s = .next s := by
  refine congrArg Host.Outcome.next ?_
  rw [State.openSlot, ha]
  dsimp only
  rw [hx]
  exact if_pos (by simpa using h)

theorem exec_slotOpen_opens {v : State} (hd : s.dev = .run) (ho : i ∉ s.heddle.openSlots) (hh : s.slotHolds x = true)
    (hv : v = State.preemptFor ({ s.closeSlots with heddle := { s.closeSlots.heddle with
      openSlots := s.closeSlots.heddle.openSlots ++ [i]
      quiesced := s.closeSlots.heddle.quiesced.filter (fun j => j != i) } }) x) :
    exec (.slotOpen i) s = .next (if x.cls = 3 then (if x.golden then v.startGolden x else v).openTest x
      else if x.golden then v.startGolden x else v) := by
  subst hv
  refine congrArg Host.Outcome.next ?_
  rw [State.openSlot, ha]
  dsimp only
  rw [hx]
  exact if_neg (by simp [hd, ho, hh])

theorem exec_slotClose_eq : exec (.slotClose i) s = .next (if s.slotHolds x = true then s else
    { s with heddle := { s.heddle with openSlots := s.heddle.openSlots.filter (fun j => j != i) } }) := by
  show execSlotClose i s = _
  rw [execSlotClose, ha]
  dsimp only
  rw [hx]

theorem exec_quiesceStart_eq : exec (.quiesceStart i) s = .next (
    if s.dev = .run ∧ (if s.now < s.boundary + x.start then s.boundary + x.start else s.boundary + t.cycle + x.start) ≤
        s.now + s.get Fld.HEDDLE_QUIESCE_TICKS 0 ∧ ¬ i ∈ s.heddle.quiesced ∧ ¬ i ∈ s.heddle.openSlots then
      { s with heddle := { s.heddle with quiesced := s.heddle.quiesced ++ [i] } } else s) := by
  show execQuiesceStart i s = _
  rw [execQuiesceStart, ha]
  dsimp only
  rw [hx]

end
end

/-- Settles O44: LOAD and ARM by the swap that is armed, a boundary by the cycles passed and the swap, and a slot by
whether it holds the count. -/
theorem scheduleTablesAndCycles : Obligations.ScheduleTablesAndCycles := by
  unfold Obligations.ScheduleTablesAndCycles
  refine ⟨fun s hup => ⟨fun harm => ⟨exec_tableLoad_armed hup harm, exec_tableArm_armed hup harm⟩,
      fun harm => ⟨fun t => exec_tableLoad_taken hup harm, fun r => exec_tableLoad_refused hup harm,
        exec_tableArm_refused hup harm, exec_tableArm_taken hup harm⟩, fun t => State.readTable_checked⟩,
    fun s t n ha hn => ⟨exec_cycleBoundary_stopped,
      fun hd h0 => (exec_cycleBoundary_runs hd).trans (congrArg _ (State.crossCycles_within ha hn h0)),
      fun hd h0 harm => (exec_cycleBoundary_runs hd).trans (congrArg _ (State.crossCycles_unarmed ha hn h0 harm)),
      fun u hd h0 harm hswap hp => ⟨_, _, rfl, rfl,
        (exec_cycleBoundary_runs hd).trans (congrArg _ (State.crossCycles_swaps ha hn h0 harm hswap hp rfl rfl))⟩⟩,
    fun s t i x ha hx => ⟨exec_slotOpen_none ha hx, fun hd ho hh => ⟨_, rfl, exec_slotOpen_opens ha hx hd ho hh rfl⟩,
      fun hh => ?_, fun hh => ?_, fun hd hlo hhi hq ho => ?_, fun hlo hhi => ?_⟩⟩
  · rw [exec_slotClose_eq ha hx, if_pos hh]
  · rw [exec_slotClose_eq ha hx, if_neg (by simp [hh])]
  · rw [exec_quiesceStart_eq ha hx, if_pos hlo, if_pos ⟨hd, hhi, hq, ho⟩]
  · rw [exec_quiesceStart_eq ha hx, if_pos hlo, if_neg (by omega)]

end Sys2Proof.Machine
end

section
/-! SUPPORT. Golden runs, the drain for a field test, and the end of a slice. -/

namespace Sys2Proof.Machine

/-! ## Golden runs (R525) -/

section
variable {s : State} {k : Nat}

theorem exec_goldenRunEnd_none (equal : Bool) (a b : Nat) (h : s.inGolden k = false) :
    exec (.goldenRunEnd k equal a b) s = .next s := congrArg _ (if_neg (by simp [h]))

theorem exec_goldenRunEnd_ends {t : State} {a b : Nat} (h : s.inGolden k = true)
    (ht : t = (((s.spend (.loom k) none 16 a).spend (.vec k) none 16 b).goldenTies k).dropGolden k) (equal : Bool) :
    exec (.goldenRunEnd k equal a b) s = .next (if equal = true then t else t.goldenFail k) := by
  subst ht
  exact congrArg _ (if_pos h)

theorem exec_goldenTimeout_eq {began : Nat} (h : Sparse.find s.heddle.golden k = some began) :
    exec (.goldenTimeout k) s = .next (if began + 20 * Config.us ≤ s.refTime then
      ((s.goldenTies k).dropGolden k).goldenFail k else s) := by
  show execGoldenTimeout k s = _
  rw [execGoldenTimeout, h]

end

/-! ## The drain (R413 to R415) -/

/-- Whether a command other than a program runs on a skein, which a drain waits for. -/
def State.drainBusy (s : State) (k : Nat) : Bool :=
  s.cmds.any (fun c => decide (c.phase = .running) && c.engine.on k && decide (c.engine.kind ≠ 3))

theorem State.drainBusy_iff (s : State) (k : Nat) : s.drainBusy k = true ↔
    ∃ c ∈ s.cmds, c.phase = .running ∧ c.engine.on k = true ∧ c.engine.kind ≠ 3 := by
  simp [State.drainBusy, and_assoc]

section
variable {s : State} {k : Nat} (hk : k = s.get Fld.HEDDLE_TEST_STATE_SKEIN 0)
include hk

theorem exec_drainEnd_none (h : s.get Fld.HEDDLE_TEST_STATE_PHASE 0 ≠ 1 ∨ s.drainBusy k = true) :
    exec .drainEnd s = .next s := by
  subst hk
  exact congrArg _ (if_pos h)

theorem exec_drainEnd_drained (hp : s.get Fld.HEDDLE_TEST_STATE_PHASE 0 = 1) (hb : ¬ s.drainBusy k = true) :
    exec .drainEnd s = .next (s.trySlice k) := by
  subst hk
  exact congrArg _ (if_neg (not_or.mpr ⟨not_not.mpr hp, hb⟩))

theorem exec_drainTimeout_eq : exec .drainTimeout s = .next (
    if s.get Fld.HEDDLE_TEST_STATE_PHASE 0 = 1 ∧ s.heddle.drainStart + s.get Fld.HEDDLE_DRAIN_MAX_TICKS 0 ≤ s.now then
      s.giveUpTest k Flg.HEDDLE_EVT_TEST_DEFER_DRAIN else s) := by
  subst hk
  rfl

end

theorem State.trySlice_eq (s : State) (k : Nat) : s.trySlice k =
    if s.testFits k = true ∧ s.testOpen k = true then
      if s.suspect k = true then s.startSlice k (Sparse.get 0 s.selv.suspectNext k) true
      else s.startSlice k (Sparse.get 0 s.selv.next k) false
    else s.giveUpTest k Flg.HEDDLE_EVT_TEST_DEFER_FIT := by
  simp only [State.trySlice, Bool.and_eq_true]

section
variable {s : State} {k : Nat} (f : Flag)

theorem State.giveUpTest_rotation (h : s.suspect k = false) : s.giveUpTest k f = s.deferTest k f := by
  rw [State.giveUpTest, h, State.doIf_false]

theorem State.giveUpTest_suspect (h : s.suspect k = true) : s.giveUpTest k f = (s.deferTest k f).afterSuspect k := by
  rw [State.giveUpTest, h, State.doIf_true]

end

/-! ## The end of a slice (R524, R539) -/

/-- A list without repeats keeps all of its entries. -/
theorem eraseDups_of_nodup {l : List Nat} (h : l.Nodup) : l.eraseDups = l := by
  induction l with
  | nil => rfl
  | cons a rest ih =>
    obtain ⟨ha, hrest⟩ := List.nodup_cons.mp h
    have hf : rest.filter (fun b => !b == a) = rest :=
      List.filter_eq_self.mpr fun b hb => by simpa using fun e : b = a => ha (e ▸ hb)
    rw [List.eraseDups_cons, hf, ih hrest]

/-- A slice is over: its engines' beats are charged, and its skein counts a test run. -/
def State.sliceOver (s : State) (x : Slice) (beats : List Nat) : State :=
  ((({ s with selv := { s.selv with running := none } }).set Fld.HEDDLE_TEST_STATE_PHASE 0 0).forEach
    (x.engines.zip beats) (fun t p => t.spend p.1 none 16 p.2)).testRun x.skein

/-- The skeins that a slice's results fail: the whole hank for its ply engine, and the slice's own skein. -/
def Slice.failed (x : Slice) (pass plyFails : Bool) : List Nat :=
  (if (plyFails && x.slice == 15 && x.skein % 8 == 0) = true then (List.range 8).map (fun i => x.skein + i) else []) ++
    (if pass = true then [] else [x.skein])

/-- What follows the end of a slice by the skeins it has failed. -/
def State.sliceJudged (u : State) (x : Slice) (bad : List Nat) : State :=
  if bad.contains x.skein = true then
    (u.forEach bad.eraseDups State.retireFaulty).doIf x.suspect (fun v => v.afterSuspect x.skein)
  else if x.suspect = true then (u.forEach bad.eraseDups State.retireFaulty).suspectPass x
  else (u.forEach bad.eraseDups State.retireFaulty).rotationPass x

theorem exec_sliceEnd_eq {s : State} {x : Slice} (pass plyFails : Bool) (beats : List Nat)
    (h : s.selv.running = some x) : exec (.sliceEnd pass plyFails beats) s =
      .next ((s.sliceOver x beats).sliceJudged x (x.failed pass plyFails)).startOverdue := by
  show execSliceEnd pass plyFails beats s = _
  rw [execSliceEnd, h]
  rfl

theorem State.sliceJudged_passed (u : State) (x : Slice) :
    u.sliceJudged x [] = if x.suspect = true then u.suspectPass x else u.rotationPass x := rfl

theorem State.sliceJudged_failed (u : State) {x : Slice} {bad : List Nat} (hn : bad.Nodup) (hx : x.skein ∈ bad)
    {v : State} (hv : v = u.forEach bad State.retireFaulty) :
    u.sliceJudged x bad = if x.suspect = true then v.afterSuspect x.skein else v := by
  rw [State.sliceJudged, if_pos (by simpa using hx), eraseDups_of_nodup hn, ← hv]
  rfl

section
variable {x : Slice}

theorem Slice.failed_ply (hs : x.slice = 15) (hk : x.skein % 8 = 0) :
    x.failed true true = (List.range 8).map (fun i => x.skein + i) := by
  simp [Slice.failed, hs, hk]

theorem Slice.failed_noPly (h : x.slice ≠ 15 ∨ x.skein % 8 ≠ 0) (pass : Bool) :
    x.failed pass true = x.failed pass false := by
  have hno : (x.slice == 15 && x.skein % 8 == 0) = false := by simpa [imp_iff_not_or] using h
  simp [Slice.failed, hno]

theorem hank_nodup (k : Nat) : ((List.range 8).map (fun i => k + i)).Nodup :=
  List.nodup_range.map fun _ _ h => Nat.add_left_cancel h

theorem State.rotationPass_next {s : State} (h : x.slice < 15) : s.rotationPass x =
    { s with selv := { s.selv with next := Sparse.put 0 s.selv.next x.skein (x.slice + 1) } } := by
  rw [State.rotationPass, Nat.mod_eq_of_lt (by omega)]
  exact if_neg (by omega)

theorem State.rotationPass_last {s : State} (h : x.slice = 15) : s.rotationPass x =
    ({ s with selv := { s.selv with next := Sparse.put 0 s.selv.next x.skein 0 } }).coverage x.skein := by
  rw [State.rotationPass, h]
  rfl

end

/-- Settles O45: a golden run by whether one occupies its skein, a drain by what still runs, and a slice by the skeins
its results fail. -/
theorem goldenRunsAndFieldTests : Obligations.GoldenRunsAndFieldTests := by
  unfold Obligations.GoldenRunsAndFieldTests
  refine ⟨fun s t k a b ht => ⟨fun h => ⟨exec_goldenRunEnd_ends h ht true, exec_goldenRunEnd_ends h ht false⟩,
      fun h => ⟨exec_goldenRunEnd_none true a b h, exec_goldenRunEnd_none false a b h⟩⟩,
    fun s k began => exec_goldenTimeout_eq, fun s k hk => ⟨fun h => ?_, fun hp h => ?_, exec_drainTimeout_eq hk⟩,
    fun s k f => ⟨State.giveUpTest_rotation f, State.giveUpTest_suspect f⟩, ?_,
    fun s x => State.rotationPass_next, fun s x => State.rotationPass_last⟩
  · exact exec_drainEnd_none hk (h.imp_right (s.drainBusy_iff k).mpr)
  · rw [exec_drainEnd_drained hk hp, State.trySlice_eq]
    rw [State.drainBusy_iff]
    rintro ⟨c, hc, hr, he, hkind⟩
    exact hkind (h c hc hr he)
  · rintro s x u beats hx rfl
    refine ⟨?_, ?_, ?_, fun h pass => ?_⟩
    · exact exec_sliceEnd_eq true false beats hx
    · rw [exec_sliceEnd_eq false false beats hx]
      exact congrArg (fun v => Host.Outcome.next v.startOverdue)
        (State.sliceJudged_failed _ (List.nodup_singleton _) (List.mem_singleton_self _) rfl)
    · rintro v hs hk rfl
      rw [exec_sliceEnd_eq true true beats hx, Slice.failed_ply hs hk]
      exact congrArg (fun v => Host.Outcome.next v.startOverdue)
        (State.sliceJudged_failed _ (hank_nodup _) (List.mem_map.mpr ⟨0, by simp, rfl⟩) rfl)
    · rw [exec_sliceEnd_eq pass true beats hx, exec_sliceEnd_eq pass false beats hx, Slice.failed_noPly h]

end Sys2Proof.Machine
end

section
/-! SUPPORT. Idward ports: training, loss, the flits that arrive and the replay of those sent. -/

namespace Sys2Proof.Machine

@[simp] theorem State.port_putPort (s : State) (p : Nat) (x : Port) : (s.putPort p x).port p = x := by
  simp [State.port, State.putPort, Sparse.get_put]

/-! ## Training and loss (R429, R430) -/

section
variable {s : State} {p : Nat}

/-- A port below 6 is UP when its state is 2. -/
theorem State.portUp_iff (hp : p < 6) : s.portUp p = true ↔ s.get Fld.IWL_P_STATUS_STATE p = 2 := by
  simp [State.portUp, hp]

section
variable (hup : s.setUp = true) (hp : p < 6)
include hup hp

theorem exec_portEnable_off (h : s.get Fld.IWL_P_STATUS_STATE p = 0) :
    exec (.portEnable p) s = .next ((s.set Fld.IWL_P_CTRL_EN p 1).emptyPort p 1) :=
  next_host_up hup ((if_pos hp).trans (if_pos h))

theorem exec_portEnable_on (h : s.get Fld.IWL_P_STATUS_STATE p ≠ 0) :
    exec (.portEnable p) s = .next (s.set Fld.IWL_P_CTRL_EN p 1) :=
  next_host_up hup ((if_pos hp).trans (if_neg h))

theorem exec_portDisable_down (h : s.get Fld.IWL_P_STATUS_STATE p ≠ 2) :
    exec (.portDisable p) s = .next ((s.set Fld.IWL_P_CTRL_EN p 0).emptyPort p 0) :=
  next_host_up hup ((if_pos hp).trans (if_neg (mt (State.portUp_iff hp).mp h)))

theorem exec_portDisable_up (h : s.get Fld.IWL_P_STATUS_STATE p = 2) :
    exec (.portDisable p) s = .next ((s.set Fld.IWL_P_CTRL_EN p 0).portLost p 0) :=
  next_host_up hup ((if_pos hp).trans (if_pos ((State.portUp_iff hp).mpr h)))

end

variable {lanes n : Nat}

theorem exec_portTrained_idle (fec : Bool) (h : s.get Fld.IWL_P_STATUS_STATE p ≠ 1) :
    exec (.portTrained p lanes fec n) s = .next s := congrArg _ (if_pos (.inr h))

section
variable (hp : p < 6) (h : s.get Fld.IWL_P_STATUS_STATE p = 1)
include hp h

theorem State.training : ¬ (6 ≤ p ∨ s.get Fld.IWL_P_STATUS_STATE p ≠ 1) := by omega

theorem exec_portTrained_part {fec : Bool} (hl : lanes % 16 ≠ 15 ∨ fec = false) :
    exec (.portTrained p lanes fec n) s = .next (s.set Fld.IWL_P_STATUS_LANE_LOCK p lanes) :=
  congrArg _ ((if_neg (State.training hp h)).trans (if_pos hl))

variable (hl : lanes % 16 = 15)
include hl

theorem exec_portTrained_up (hn : s.neighbour p = some n) :
    exec (.portTrained p lanes true n) s = .next ((((s.set Fld.IWL_P_STATUS_LANE_LOCK p lanes).set
      Fld.IWL_P_STATUS_NEIGHBOUR p n).set Fld.IWL_P_STATUS_STATE p 2).putPort p
      { (s.port p).emptied with ackAt := s.refTime, sentAt := s.refTime }) :=
  congrArg _ ((if_neg (State.training hp h)).trans ((if_neg (by simp [hl])).trans (if_pos hn)))

theorem exec_portTrained_miswired (hn : s.neighbour p ≠ some n) :
    exec (.portTrained p lanes true n) s = .next ((((s.set Fld.IWL_P_STATUS_LANE_LOCK p lanes).set
      Fld.IWL_P_STATUS_NEIGHBOUR p n).set Fld.IWL_P_STATUS_STATE p 0).raiseIwl Flg.IWL_EVT_MISWIRED p) :=
  congrArg _ ((if_neg (State.training hp h)).trans ((if_neg (by simp [hl])).trans (if_neg hn)))

end

theorem exec_linkDown_down (h : s.portUp p = false) : exec (.linkDown p) s = .next s :=
  congrArg _ (if_neg (by simp [h]))

theorem exec_linkDown_up (h : s.portUp p = true) : exec (.linkDown p) s = .next (s.portLost p (s.fallState p)) :=
  congrArg _ (if_pos h)

/-- An emptied port keeps the stamps of the last SYNC (R444, R445). -/
theorem State.port_emptyPort (s : State) (p state : Nat) : (s.emptyPort p state).port p = (s.port p).emptied :=
  s.port_putPort p (s.port p).emptied

end

/-! ## The FEC counts (R424) -/

section
variable {s t : State} {p n : Nat}
  (ht : t = (s.putPort p { s.port p with flits := (s.port p).flits + 1 }).count Fld.IWL_P_FEC_CORR_COUNT p n)
include ht

theorem State.fecCounts_noCodeword (failed : Bool) (h : wholeCodeword (s.port p).flits = none) :
    s.fecCounts p n failed = t := by
  subst ht
  simp only [State.fecCounts, h]

theorem State.fecCounts_good : s.fecCounts p n false = t := by
  cases hw : wholeCodeword (s.port p).flits with
  | none => exact State.fecCounts_noCodeword ht false hw
  | some j =>
    subst ht
    simp only [State.fecCounts, hw]
    exact if_neg (fun h => Bool.false_ne_true h.1)

variable {j : Nat} (hj : wholeCodeword (s.port p).flits = some j)
include hj

theorem State.fecCounts_fails (h : (s.port p).judged ≤ j) : s.fecCounts p n true =
    (t.modPort p (fun x => { x with judged := j + 1 })).count Fld.IWL_P_FEC_UNCORR_COUNT p 1 := by
  subst ht
  simp only [State.fecCounts, hj]
  exact if_pos ⟨trivial, h⟩

theorem State.fecCounts_judged (h : j < (s.port p).judged) : s.fecCounts p n true = t := by
  subst ht
  simp only [State.fecCounts, hj]
  exact if_neg (fun hb => Nat.not_le.mpr h hb.2)

end

/-! ## Arriving flits (R425 to R428) -/

section
variable {s : State} {p n type : Nat} {b : List Byte} {f : State → State}

theorem next_flitArrives_down (failed : Bool) (h : s.portUp p = false) :
    (Host.Outcome.next (s.flitArrives p b n failed type f) : Host.Outcome State Fault Refusal) = .next s :=
  congrArg _ (if_pos (by simp [h]))

variable (hup : s.portUp p = true)
include hup

/-- A flit that fails is counted and answered with a NAK. -/
theorem next_flitArrives_bad {failed : Bool} (h : (failed || !flitGood b) = true) :
    (Host.Outcome.next (s.flitArrives p b n failed type f) : Host.Outcome State Fault Refusal) =
      .next (((s.fecCounts p n failed).count Fld.IWL_P_CRC_ERR_COUNT p 1).nak p) :=
  congrArg _ ((if_neg (by simp [hup])).trans (if_pos h))

/-- A good flit of the type named takes its effect, and the port then sends what it can. -/
theorem next_flitArrives_good {r v : State} (hg : flitGood b = true) (hr : r = s.fecCounts p n false)
    (ht : flitType b = type) (hv : f r = v) :
    (Host.Outcome.next (s.flitArrives p b n false type f) : Host.Outcome State Fault Refusal) = .next (v.pump p) := by
  subst hr hv
  exact congrArg _ ((if_neg (by simp [hup])).trans ((if_neg (by simp [hg])).trans (if_pos ht)))

variable {r : State} (hg : flitGood b = true) (hr : r = s.fecCounts p n false)
include hg hr

theorem exec_idleFlit_taken (ht : flitType b = 0) :
    exec (.idleFlit p b n false) s = .next ((r.flitControl p b).pump p) :=
  next_flitArrives_good hup hg hr ht rfl

theorem exec_dataFlit_outOfOrder (ht : flitType b = 1) (hs : fieldOf b 2 2 % 4096 ≠ (r.port p).rxSeq) :
    exec (.dataFlit p b n false) s = .next ((r.nak p).pump p) :=
  next_flitArrives_good hup hg hr ht (if_pos hs)

theorem exec_dataFlit_taken (ht : flitType b = 1) (hs : fieldOf b 2 2 % 4096 = (r.port p).rxSeq)
    (hroom : ((r.port p).rx.filter (fun f => f.1 == flitVc b)).length < 32) {v : State}
    (hv : v = (r.flitControl p b).acceptData p b) :
    exec (.dataFlit p b n false) s = .next ((v.passOn p (flitVc b) (v.port p).rx.length).noteParcels.pump p) := by
  subst hv
  exact next_flitArrives_good hup hg hr ht ((if_neg (not_not.mpr hs)).trans (if_pos (decide_eq_true hroom)))

theorem exec_dataFlit_full (ht : flitType b = 1) (hs : fieldOf b 2 2 % 4096 = (r.port p).rxSeq)
    (hfull : 32 ≤ ((r.port p).rx.filter (fun f => f.1 == flitVc b)).length) :
    exec (.dataFlit p b n false) s = .next (r.pump p) :=
  next_flitArrives_good hup hg hr ht ((if_neg (not_not.mpr hs)).trans (if_neg (by simpa [Port.roomFor] using hfull)))

theorem exec_nakFlit_taken {t : State} (ht : flitType b = 2) (hc : t = r.flitControl p b) :
    exec (.nakFlit p b n false) s = .next ((if (t.port p).replay = [] then t else t.replay p).pump p) := by
  subst hc
  refine next_flitArrives_good hup hg hr ht ?_
  simp only [List.isEmpty_iff]

theorem exec_syncFlit_off {t : State} (ht : flitType b = 3) (hc : t = r.flitControl p b)
    (hen : t.isSet Fld.IWL_TS_CTRL_TS_EN 0 = false) : exec (.syncFlit p b n false) s = .next (t.pump p) := by
  subst hc
  exact next_flitArrives_good hup hg hr ht (if_pos (by simp [hen]))

end

/-! ## Replay (R428) -/

section
variable {s : State} {p : Nat}

theorem exec_replayTimeout_none (h : s.portUp p = false ∨
    s.refTime < (s.port p).ackAt + 4 * s.get Fld.IWL_P_REPLAY_CFG_REPLAY_TIMEOUT p) :
    exec (.replayTimeout p) s = .next s := by
  refine congrArg _ (if_neg ?_)
  rintro ⟨hup, -, hlate⟩
  exact h.elim (by simp [hup]) (Nat.not_lt.mpr hlate)

theorem exec_replayTimeout_due (hup : s.portUp p = true) (hr : (s.port p).replay ≠ [])
    (h : (s.port p).ackAt + 4 * s.get Fld.IWL_P_REPLAY_CFG_REPLAY_TIMEOUT p ≤ s.refTime) :
    exec (.replayTimeout p) s = .next (s.replay p) := congrArg _ (if_pos ⟨hup, hr, h⟩)

theorem State.replay_limit (h : s.get Fld.IWL_P_REPLAY_CFG_REPLAY_MAX p ≤ (s.port p).fruitless) :
    s.replay p = (s.raiseIwl Flg.IWL_EVT_REPLAY_LIMIT p).portLost p (s.fallState p) := if_pos h

theorem State.replay_again (h : (s.port p).fruitless < s.get Fld.IWL_P_REPLAY_CFG_REPLAY_MAX p) :
    s.replay p = ((s.putPort p { s.port p with fruitless := (s.port p).fruitless + 1, ackAt := s.refTime }).count
      Fld.IWL_P_REPLAYS_COUNT p 1).forEach (s.port p).replay (fun t f => t.sendData p f) := if_neg (Nat.not_le.mpr h)

theorem exec_syncSend_down (h : s.portUp p = false) : exec (.syncSend p) s = .next s :=
  congrArg _ (if_neg (by simp [h]))

end

/-- Settles O47: training and loss by the state of the port, a flit by whether it is good, its type and its order, and a
replay by its limit. -/
theorem portsAndFlits : Obligations.PortsAndFlits := by
  unfold Obligations.PortsAndFlits
  refine ⟨⟨fun s p hup hp => ⟨exec_portEnable_off hup hp, exec_portEnable_on hup hp, exec_portDisable_down hup hp,
        exec_portDisable_up hup hp⟩,
      fun s p lanes n fec hp => ⟨exec_portTrained_idle fec, fun h => exec_portTrained_part hp h, exec_portTrained_up hp,
        exec_portTrained_miswired hp⟩,
      fun s p => ⟨exec_linkDown_down, ?_⟩, State.port_emptyPort⟩,
    ⟨fun s p n b bad h => ⟨next_flitArrives_down bad h, next_flitArrives_down bad h, next_flitArrives_down bad h,
        next_flitArrives_down bad h, exec_replayTimeout_none (.inl h), exec_syncSend_down h⟩,
      fun s t p n ht => ⟨State.fecCounts_good ht, fun j => State.fecCounts_fails ht, fun j => State.fecCounts_judged ht,
        State.fecCounts_noCodeword ht true⟩,
      fun s p n b hup => ⟨next_flitArrives_bad hup rfl, fun hg => next_flitArrives_bad hup (by simp [hg])⟩,
      ?_,
      fun s p hup hr => ⟨fun h => exec_replayTimeout_none (.inr h), fun h =>
        ⟨fun hm => (exec_replayTimeout_due hup hr h).trans (congrArg _ (State.replay_limit hm)),
          fun hm => (exec_replayTimeout_due hup hr h).trans (congrArg _ (State.replay_again hm))⟩⟩⟩⟩
  · rintro t u v w hup rfl rfl rfl rfl
    exact exec_linkDown_up hup
  · rintro s r t p n b hup hg hr rfl
    exact ⟨exec_idleFlit_taken hup hg hr, exec_dataFlit_outOfOrder hup hg hr,
      fun ht hs => ⟨fun v hroom hv => exec_dataFlit_taken hup hg hr ht hs hroom hv, exec_dataFlit_full hup hg hr ht hs⟩,
      fun ht => exec_nakFlit_taken hup hg hr ht rfl, fun ht => exec_syncFlit_off hup hg hr ht rfl⟩

end Sys2Proof.Machine
end

section
/-! SUPPORT. System time between packages: SYNC sent and received, and its loss. -/

namespace Sys2Proof.Machine

/-! ## SYNC sent (R444) -/

section
variable {s : State} {p : Nat}

theorem exec_syncSend_early (h : s.refTime < (s.port p).sentAt + s.syncPeriod) : exec (.syncSend p) s = .next s :=
  congrArg _ (if_neg fun ⟨_, _, hdue⟩ => Nat.not_le.mpr h hdue)

theorem exec_syncSend_due (hen : s.isSet Fld.IWL_TS_CTRL_TS_EN 0 = true) (hup : s.portUp p = true)
    (h : (s.port p).sentAt + s.syncPeriod ≤ s.refTime) {body : List Byte}
    (hb : body = leBytes 8 s.now ++ leBytes 8 (s.port p).peerTx ++ leBytes 8 (s.port p).peerRx ++
      leBytes 1 (if s.timeMaster = true ∨ s.isSet Fld.IWL_TS_STATUS_LOCKED 0 = true then 1 else 0)) :
    exec (.syncSend p) s = .next ((s.putPort p { (s.port p).send 3 0 0 body with sentAt := s.refTime }).chargeBody p 16
      body.length) := by
  simp only [← Bool.or_eq_true] at hb
  subst hb
  exact congrArg _ (if_pos ⟨hen, hup, h⟩)

end

/-! ## SYNC received (R444) -/

/-- A port changed beside its registers leaves the upstream port. -/
theorem State.upstream_modPort (s : State) (p : Nat) (f : Port → Port) : (s.modPort p f).upstream = s.upstream := rfl

theorem exec_syncFlit_delay {s t u : State} {p : Nat} {b : List Byte} (hup : s.portUp p = true)
    (hg : flitGood b = true) (htype : flitType b = 3) (ht : t = (s.fecCounts p 0 false).flitControl p b)
    (hen : t.isSet Fld.IWL_TS_CTRL_TS_EN 0 = true)
    (hu : u = t.modPort p (fun x => { x with peerTx := fieldOf b 10 8, peerRx := t.now, heardAt := t.refTime }))
    (hp : p ≠ u.upstream) (hsys : fieldOf b 34 1 % 2 = 1) (hstamp : fieldOf b 18 8 ≠ 0) :
    exec (.syncFlit p b 0 false) s = .next ((u.set Fld.IWL_P_LINK_DELAY_TICKS p (unsigned 32
      ((((t.now : Int) - fieldOf b 18 8) - ((fieldOf b 10 8 : Int) - fieldOf b 26 8)) / 2))).pump p) := by
  have hup' : (p == t.upstream) = false := by
    rw [hu, State.upstream_modPort] at hp
    simpa using hp
  refine next_flitArrives_good hup hg rfl htype ?_
  dsimp only
  rw [← ht]
  refine (if_neg (by simp [hen])).trans ?_
  rw [hup', State.doIf_false, ← hu]
  exact (if_neg (by simp [hsys, hstamp])).trans (if_neg (by simp))

/-! ## SYNC lost (R445, R536) -/

section
variable {s : State} {p : Nat} (hp : p = s.upstream)
include hp

theorem exec_tsLost_none (h : s.isSet Fld.IWL_TS_STATUS_HOLDOVER 0 = true ∨
    s.refTime < (s.port p).heardAt + 4 * s.syncPeriod) : exec .tsLost s = .next s := by
  subst hp
  exact congrArg _ (if_neg fun ⟨_, hh, hdue⟩ => h.elim hh (Nat.not_lt.mpr hdue))

theorem exec_tsLost_due (h6 : p < 6) (hh : s.isSet Fld.IWL_TS_STATUS_HOLDOVER 0 = false)
    (hdue : (s.port p).heardAt + 4 * s.syncPeriod ≤ s.refTime) {t : State}
    (ht : t = ((s.set Fld.IWL_TS_STATUS_HOLDOVER 0 1).set Fld.IWL_TS_STATUS_LOCKED 0 0).raiseIwl Flg.IWL_EVT_TS_LOST p) :
    exec .tsLost s = .next
      (State.timeFault { t with iwl := { t.iwl with steady := 0 } } (s.isSet Fld.SELV_TIME_CFG_TS_FAULT 0)) := by
  subst hp ht
  exact congrArg _ (if_pos ⟨h6, by simp [hh], hdue⟩)

end

/-- Settles O48: a SYNC sent by its period, one received by its stamps, and its loss by four periods without one. -/
theorem systemTimeSync : Obligations.SystemTimeSync := by
  unfold Obligations.SystemTimeSync
  exact ⟨fun s p hen hup => ⟨exec_syncSend_early, fun body h hb => exec_syncSend_due hen hup h hb⟩,
    fun s t u p b => exec_syncFlit_delay,
    fun s p hp h6 => ⟨exec_tsLost_none hp, fun hh hdue => ⟨_, rfl, exec_tsLost_due hp h6 hh hdue rfl⟩⟩⟩

end Sys2Proof.Machine
end

section
/-! SUPPORT. Barriers, relays, and parcels at an inbox. -/

namespace Sys2Proof.Machine

/-! ## Barriers (R442) -/

section
variable {s : State} {p vc : Nat} {f : List Byte} (hf : s.front p vc = some f)
include hf

theorem exec_barrierRelease_arrival (h : txArg f = 0) : exec (.barrierRelease p vc) s = .next s := by
  show execBarrierRelease p vc s = _
  rw [execBarrierRelease, hf]
  exact congrArg _ (if_pos h)

theorem exec_barrierArrive_release (h : txArg f ≠ 0) : exec (.barrierArrive p vc) s = .next s := by
  show execBarrierArrive p vc s = _
  rw [execBarrierArrive, hf]
  exact congrArg _ (if_pos h)

variable {t : State} {tx : List Byte} {n : Nat} (htx : s.takeTx p vc 0x04 = some (tx, t))
  (hn : n = bitsOf (txTarget tx) 0 4)
include htx hn

theorem exec_barrierArrive_eq (h : txArg f = 0) {a : Nat × (Nat × Nat)}
    (ha : a = (n, (bitsOf (txTarget tx) 16 16, txSrc tx))) : exec (.barrierArrive p vc) s = .next (
      if (!(t.barrier n).valid || (t.barrier n).master != t.pkg || (t.barrier n).members / 2 ^ txSrc tx % 2 == 0 ||
        t.iwl.arrivals.contains a) = true then t
      else State.releaseBarrier { t with iwl := { t.iwl with arrivals := t.iwl.arrivals ++ [a] } } n
        (t.iwl.arrivals.length + 1)) := by
  subst hn ha
  show execBarrierArrive p vc s = _
  rw [execBarrierArrive, hf]
  dsimp only
  rw [if_neg (not_not.mpr h), htx]

theorem exec_barrierArrive_ignored (h : txArg f = 0) {a : Nat × (Nat × Nat)}
    (ha : a = (n, (bitsOf (txTarget tx) 16 16, txSrc tx)))
    (hi : (t.barrier n).valid = false ∨ (t.barrier n).master ≠ t.pkg ∨ (t.barrier n).members / 2 ^ txSrc tx % 2 = 0 ∨
      a ∈ t.iwl.arrivals) : exec (.barrierArrive p vc) s = .next t :=
  (exec_barrierArrive_eq hf htx hn h ha).trans (congrArg _ (if_pos (by simpa [or_assoc] using hi)))

theorem exec_barrierArrive_recorded (h : txArg f = 0) {a : Nat × (Nat × Nat)}
    (ha : a = (n, (bitsOf (txTarget tx) 16 16, txSrc tx))) (hv : (t.barrier n).valid = true)
    (hm : (t.barrier n).master = t.pkg) (hmem : (t.barrier n).members / 2 ^ txSrc tx % 2 = 1)
    (hnew : a ∉ t.iwl.arrivals) : exec (.barrierArrive p vc) s = .next
      (State.releaseBarrier { t with iwl := { t.iwl with arrivals := t.iwl.arrivals ++ [a] } } n
        (t.iwl.arrivals.length + 1)) :=
  (exec_barrierArrive_eq hf htx hn h ha).trans (congrArg _ (if_neg (by simp [hv, hm, hmem, hnew])))

theorem exec_barrierRelease_eq (h : txArg f ≠ 0) {g : Nat} (hg : g = Sparse.get 0 t.iwl.gens n) :
    exec (.barrierRelease p vc) s = .next (
      if bitsOf (txTarget tx) 16 16 ≠ g ∨ (t.barrier n).valid = false then t
      else State.signal { t with iwl := { t.iwl with gens := Sparse.put 0 t.iwl.gens n ((g + 1) % 65536) } }
        (t.barrier n).release 1) := by
  subst hn hg
  show execBarrierRelease p vc s = _
  rw [execBarrierRelease, hf]
  dsimp only
  rw [if_neg h, htx]

end

/-! ## Relays (R440) -/

section
variable {s : State} {k i : Nat}

theorem exec_relaySignal_none (h : s.iwl.relays.find? (fun p => p.1 == k * 1024 + i) = none) :
    exec (.relaySignal k i) s = .next s := by
  show execRelaySignal k i s = _
  rw [execRelaySignal]
  dsimp only
  rw [h]

theorem exec_relaySignal_eq {t : State} {id amount : Nat} {r : Relay} {e : Nat × Nat} (hid : id = k * 1024 + i)
    (he : e = (id, amount)) (h : s.iwl.relays.find? (fun p => p.1 == id) = some e)
    (ht : t = { s with iwl := { s.iwl with relays := s.iwl.relays.erase e } })
    (hr : r = t.relayEntry (k * 16 + (i - 1008))) : exec (.relaySignal k i) s = .next (
      if t.relayOk r (((t.token id).owner).getD 0) amount = true then t.relayAct r amount
      else ((t.raiseIwl Flg.IWL_EVT_RELAY_BAD 6).jobFault 0x0204 (((t.token id).owner).getD 0) 72).settle) := by
  subst hid he ht hr
  show execRelaySignal k i s = _
  rw [execRelaySignal]
  dsimp only
  rw [h]

end

/-! ## Parcels (R449, R450) -/

section
variable {s : State} {p vc : Nat}

theorem exec_parcel_open (h : vc ∉ (s.port p).blocked) : exec (.parcel p vc) s = .next (s.parcelAt p vc) ∧
    exec (.parcelUnblock p vc) s = .next s :=
  ⟨congrArg _ (if_neg (by simpa using h)), congrArg _ (if_neg (by simpa using h))⟩

theorem exec_parcel_blocked (h : vc ∈ (s.port p).blocked) : exec (.parcelUnblock p vc) s = .next (s.parcelAt p vc) ∧
    exec (.parcel p vc) s = .next s :=
  ⟨congrArg _ (if_pos (by simpa using h)), congrArg _ (if_pos (by simpa using h))⟩

theorem State.blockParcel_again (h : vc ∈ (s.port p).blocked) : s.blockParcel p vc = s :=
  if_pos (by simpa using h)

theorem State.blockParcel_first (h : vc ∉ (s.port p).blocked) : s.blockParcel p vc =
    (s.modPort p (fun x => { x with blocked := x.blocked ++ [vc] })).raiseIwl Flg.IWL_EVT_BACKPRESSURE p :=
  if_neg (by simpa using h)

variable {t : State} {f tx : List Byte} (hf : s.front p vc = some f) (htype : txType f = 0x05) (hdst : txDst f = s.pkg)
include hf htype hdst

/-- A parcel for this package at the front, by its inbox. -/
theorem State.parcelAt_none (htx : s.takeTx p vc 0x05 = some (tx, t)) (h : s.parcelInbox f = none) :
    s.parcelAt p vc = t.refuse tx 7 := by
  rw [State.parcelAt, hf]
  refine (if_neg (by simp [htype, hdst])).trans ?_
  rw [h]
  dsimp only
  rw [htx]

variable {n : Nat} (hn : s.parcelInbox f = some n)
include hn

theorem State.parcelAt_dropped (htx : s.takeTx p vc 0x05 = some (tx, t)) {r : Nat × Nat}
    (h : s.parcelRefused n f = some r) :
    s.parcelAt p vc = t.dropTx (s.get Fld.IWL_INBOX_CFG_SKEIN n) tx r.1 r.2 := by
  rw [State.parcelAt, hf]
  refine (if_neg (by simp [htype, hdst])).trans ?_
  rw [hn]
  dsimp only
  rw [h]
  dsimp only
  rw [htx]

variable (hok : s.parcelRefused n f = none)
include hok

theorem State.parcelAt_waits (h : s.parcelFits n (txArg f) = false) : s.parcelAt p vc = s.blockParcel p vc := by
  rw [State.parcelAt, hf]
  refine (if_neg (by simp [htype, hdst])).trans ?_
  rw [hn]
  dsimp only
  rw [hok]
  exact if_pos (by simp [h])

theorem State.parcelAt_lands (htx : s.takeTx p vc 0x05 = some (tx, t)) (h : s.parcelFits n (txArg f) = true) {v : State}
    {bad : Bool} (hcheck : t.portCheck p = (v, bad)) : s.parcelAt p vc =
      if bad = true then v.parityOwner (s.get Fld.IWL_INBOX_CFG_SKEIN n)
        (s.get Fld.IWL_INBOX_CFG_FIRST_ROW n + (s.inbox n).tail % s.inboxCap n) (s.get Fld.IWL_INBOX_TOKENS_JOB n)
      else v.landParcel n tx := by
  rw [State.parcelAt, hf]
  refine (if_neg (by simp [htype, hdst])).trans ?_
  rw [hn]
  dsimp only
  rw [hok]
  refine (if_neg (by simp [h])).trans ?_
  rw [htx]
  dsimp only
  rw [hcheck]

end

/-- Settles O50: a barrier message by its kind, a relay by its entry, and a parcel by the inbox it is for. -/
theorem barriersRelaysAndParcels : Obligations.BarriersRelaysAndParcels := by
  unfold Obligations.BarriersRelaysAndParcels
  refine ⟨fun s t p vc n f tx a hf h htx hn ha => ⟨exec_barrierRelease_arrival hf h,
      exec_barrierArrive_ignored hf htx hn h ha, exec_barrierArrive_recorded hf htx hn h ha⟩,
    fun s t p vc n g f tx hf h htx hn hg => ⟨exec_barrierArrive_release hf h, fun hne => ?_, fun he hv => ?_⟩,
    fun s t k i id amount r e hid he h ht hr => ⟨fun hok => ?_, fun hok => ?_⟩, fun s k i => exec_relaySignal_none,
    fun s t p vc f tx hf htype hdst htx => ⟨s.parcelAt p vc, exec_parcel_open, exec_parcel_blocked,
      State.parcelAt_none hf htype hdst htx, fun n hn => ⟨fun r => State.parcelAt_dropped hf htype hdst hn htx,
        fun v bad hok hfit => State.parcelAt_lands hf htype hdst hn hok htx hfit,
        fun hok hfit => ?_⟩⟩⟩
  · rw [exec_barrierRelease_eq hf htx hn h hg, if_pos (.inl hne)]
  · rw [exec_barrierRelease_eq hf htx hn h hg, if_neg (by simp [he, hv])]
  · rw [exec_relaySignal_eq hid he h ht hr, if_pos hok]
  · rw [exec_relaySignal_eq hid he h ht hr, if_neg (by simp [hok])]
  · rw [State.parcelAt_waits hf htype hdst hn hok hfit]
    exact ⟨State.blockParcel_again, State.blockParcel_first⟩

end Sys2Proof.Machine
end

section
/-! SUPPORT. The Ethernet MACs: set-up, the head entry, lateness, the start and end of a frame, and reception. -/

namespace Sys2Proof.Machine

@[simp] theorem State.raise_flyer (s : State) (f : Flag) (i : Nat) : (s.raise f i).flyer = s.flyer := by
  obtain ⟨_, _, _, h⟩ := s.raise_frame f i
  rw [h]

@[simp] theorem State.mac_raise (s : State) (f : Flag) (i m : Nat) : (s.raise f i).mac m = s.mac m := by
  obtain ⟨_, _, _, h⟩ := s.raise_frame f i
  rw [h]
  rfl

/-! ## Set-up (R458, R478) -/

section
variable {s : State} {m : Nat} (hup : s.setUp = true)
include hup

theorem exec_ethEnable_refused (hmode : 4 ≤ s.get Fld.ETH_CTRL_MODE m) (hen : s.isSet Fld.ETH_CTRL_EN m = false) :
    exec (.ethEnable m true) s = .next (s.raise Flg.ETH_EVT_CFG_REFUSED m) :=
  next_host_up hup (if_pos (by simp [hmode, hen]))

theorem exec_ethEnable_taken (hmode : s.get Fld.ETH_CTRL_MODE m < 4) :
    exec (.ethEnable m true) s = .next (s.setBit Fld.ETH_CTRL_EN m true) :=
  next_host_up hup ((if_neg (by simp [hmode])).trans rfl)

theorem exec_ethEnable_off : exec (.ethEnable m false) s =
    .next ((s.setBit Fld.ETH_CTRL_EN m false).putMac m { s.mac m with head := none, late := [] }) :=
  next_host_up hup rfl

end

/-! ## The head entry (R458) -/

section
variable {s : State} {m : Nat}

/-- With nothing on the line the head entry waits in its ring. -/
theorem State.ringHead_idle (h : (s.mac m).sending = none) : s.ringHead m = (s.mac m).head := by
  rw [State.ringHead, h]

theorem State.txNext_reads (hon : s.macOn m = true) (h : (s.mac m).sending = none) :
    s.txNext m = s.txRead m (2 ^ s.get Fld.ETH_TX_CFG_LOG2 m) := by
  refine if_pos ?_
  rw [hon, State.ringHead_idle h]
  cases (s.mac m).head <;> rfl

theorem State.txRead_unowned {fuel : Nat} (hf : 0 < fuel) (h : descOwn (s.load (s.txHead m) 32) = false) :
    s.txRead m fuel = s.putMac m { s.mac m with head := none } := by
  obtain ⟨n, rfl⟩ := Nat.exists_eq_add_one.mpr hf
  exact if_pos (by simp [h])

theorem State.txRead_owned {fuel : Nat} (hf : 0 < fuel) (h : descOwn (s.load (s.txHead m) 32) = true)
    (hok : s.descBad m (s.load (s.txHead m) 32) = false) :
    s.txRead m fuel = s.putMac m { s.mac m with head := some (s.load (s.txHead m) 32) } := by
  obtain ⟨n, rfl⟩ := Nat.exists_eq_add_one.mpr hf
  exact (if_neg (by simp [h])).trans (if_neg (by simp [hok]))

variable (hup : s.setUp = true) (hon : s.macOn m = true) (hidle : (s.mac m).sending = none)
include hup hon hidle

theorem exec_ethTxKick_unowned (h : descOwn (s.load (s.txHead m) 32) = false) :
    exec (.ethTxKick m) s = .next (s.putMac m { s.mac m with head := none }) :=
  next_host_up hup ((State.txNext_reads hon hidle).trans (State.txRead_unowned (Nat.two_pow_pos _) h))

theorem exec_ethTxKick_owned (h : descOwn (s.load (s.txHead m) 32) = true)
    (hok : s.descBad m (s.load (s.txHead m) 32) = false) :
    exec (.ethTxKick m) s = .next (s.putMac m { s.mac m with head := some (s.load (s.txHead m) 32) }) :=
  next_host_up hup ((State.txNext_reads hon hidle).trans (State.txRead_owned (Nat.two_pow_pos _) h hok))

end

/-! ## Link changes (Table 15.6) -/

theorem exec_ethLinkChange_eq {s : State} {m : Nat} (up : Bool) (rate : Nat) (hon : s.macOn m = true)
    (hmode : s.get Fld.ETH_CTRL_MODE m ≠ 3) : exec (.ethLinkChange m up rate) s = .next (
      if s.isSet Fld.ETH_STATUS_LINK_UP m = up then s
      else (s.setBit Fld.ETH_STATUS_LINK_UP m up).raise Flg.ETH_EVT_LINK_CHANGE m) := by
  have h3 : (s.get Fld.ETH_CTRL_MODE m == 3) = false := by simpa using hmode
  show execEthLinkChange m up rate s = _
  rw [execEthLinkChange, h3, State.doIf_false, if_neg (by simp [hon])]
  simp only [beq_iff_eq]

/-! ## Lateness (R463, R465) -/

section
variable {s : State} {m : Nat}

theorem State.ethJudgeAll_none {after : Nat} (h : (s.macReqs m).find? (s.ethOverdue m after) = none) (fuel : Nat) :
    s.ethJudgeAll m after fuel = s := by
  cases fuel with
  | zero => rfl
  | succ n => rw [State.ethJudgeAll, h]

theorem State.ethJudgeAll_some {after : Nat} {q : TxReq} (h : (s.macReqs m).find? (s.ethOverdue m after) = some q)
    (fuel : Nat) : s.ethJudgeAll m after (fuel + 1) = (s.ethJudge m q).ethJudgeAll m after fuel := by
  rw [State.ethJudgeAll, h]

theorem State.ethSafeBack_none (h : s.ringHead m = none ∨ s.dev ≠ .safe) (fuel : Nat) : s.ethSafeBack m fuel = s := by
  cases fuel with
  | zero => rfl
  | succ n =>
    rw [State.ethSafeBack]
    cases hr : s.ringHead m with
    | none => rfl
    | some d => exact if_neg fun hs => h.elim (by simp [hr]) (fun hd => hd hs.1)

theorem State.ethLate_unsynced (after : Nat) (h : s.hubSynced = false) : s.ethLate m after = s :=
  if_pos (by simp [h])

theorem State.ethLate_synced (after : Nat) (h : s.hubSynced = true) : s.ethLate m after =
    (s.ethJudgeAll m after (2 ^ s.get Fld.ETH_TX_CFG_LOG2 m + 5)).ethSafeBack m
      (2 ^ s.get Fld.ETH_TX_CFG_LOG2 m + 5) := if_neg (by simp [h])

/-- A MAC without requests has no entry in its ring. -/
theorem State.ringHead_of_noReqs (h : s.macReqs m = []) : s.ringHead m = none := by
  have hring := (List.append_eq_nil_iff.mp h).2
  cases hr : s.ringHead m with
  | none => rfl
  | some d =>
    rw [hr] at hring
    exact absurd hring (List.cons_ne_nil _ _)

theorem State.ethLate_noReqs (after : Nat) (h : s.macReqs m = []) : s.ethLate m after = s := by
  cases hs : s.hubSynced with
  | false => exact State.ethLate_unsynced after hs
  | true =>
    rw [State.ethLate_synced after hs, State.ethJudgeAll_none (by rw [h]; rfl),
      State.ethSafeBack_none (.inl (State.ringHead_of_noReqs h))]

theorem State.ethChoice_noReqs (h : s.macReqs m = []) : s.ethChoice m = none := by
  rw [State.ethChoice, h]
  rfl

/-- With no Flyer slot in use and nothing on the line, the head entry is the only request. -/
theorem State.macReqs_head {d : List Byte} (hidle : (s.mac m).sending = none) (hd : (s.mac m).head = some d)
    (hslots : ∀ j < 4, Sparse.find s.flyer.slots (4 * (8 + m) + j) = none) :
    s.macReqs m = [⟨4, descLaunch d, descSkip d⟩] := by
  have hnone : (List.range 4).filterMap (fun j => (Sparse.find s.flyer.slots (4 * (8 + m) + j)).map
      (fun (q : SlotReq) => (⟨j, q.launch, s.isSet Fld.ETH_SLOT_CFG_LATE_SKIP (ix m j)⟩ : TxReq))) = [] :=
    List.filterMap_eq_nil_iff.mpr fun j hj => by rw [hslots j (List.mem_range.mp hj)]; rfl
  rw [State.macReqs, hnone, State.ringHead_idle hidle, hd]
  rfl

/-- A request that has been judged is not overdue. -/
theorem State.ethOverdue_judged {q : TxReq} (after : Nat) (h : q.src ∈ (s.mac m).late) :
    s.ethOverdue m after q = false := by
  simp [State.ethOverdue, h]

theorem State.ethOverdue_late {q : TxReq} (hl : q.launch ≠ 0)
    (h : q.launch + s.get Fld.ETH_TX_CFG_LATE_TOL m ≤ s.now) (hnew : q.src ∉ (s.mac m).late) :
    s.ethOverdue m 0 q = true := by
  simp [State.ethOverdue, hl, h, hnew]

theorem State.ethJudge_noted {q : TxReq} (hnew : q.src ∉ (s.mac m).late) (hskip : q.skip = false) : s.ethJudge m q =
    (s.raise Flg.ETH_EVT_TX_LATE m).putMac m { s.mac m with late := (s.mac m).late ++ [q.src] } :=
  (if_neg (by simpa using hnew)).trans (if_pos (by simp [hskip]))

theorem State.ethJudge_skipped {q : TxReq} {r : State} (hr : r = s.raise Flg.ETH_EVT_TX_LATE m)
    (hnew : q.src ∉ (s.mac m).late) (hskip : q.skip = true) (hsrc : q.src = 4) (hh : (s.mac m).head.isSome = true) :
    s.ethJudge m q = (r.txBack m (r.txHead m) 0x0401 0).txNext m := by
  subst hr
  exact (if_neg (by simpa using hnew)).trans ((if_neg (by simp [hskip])).trans ((if_neg (by omega)).trans (if_pos hh)))

theorem exec_ethTxLate_on (hon : s.macOn m = true) : exec (.ethTxLate m) s = .next (s.ethLate m 0) :=
  congrArg _ (if_pos hon)

end

section
variable {s : State} {m : Nat} {d : List Byte} (hd : (s.mac m).head = some d) (hidle : (s.mac m).sending = none)
  (hslots : ∀ j < 4, Sparse.find s.flyer.slots (4 * (8 + m) + j) = none) (hlate : (s.mac m).late = [])
  (hlaunch : descLaunch d ≠ 0) (htol : descLaunch d + s.get Fld.ETH_TX_CFG_LATE_TOL m ≤ s.now)
  (hsync : s.hubSynced = true)
include hd hidle hslots hlate hlaunch htol

/-- The late head entry is the one to be judged. -/
theorem State.find_ethOverdue_head :
    (s.macReqs m).find? (s.ethOverdue m 0) = some ⟨4, descLaunch d, descSkip d⟩ := by
  rw [State.macReqs_head hidle hd hslots]
  exact List.find?_cons_of_pos (State.ethOverdue_late hlaunch htol (by simp [hlate]))

include hsync

theorem State.ethLate_noted (hskip : descSkip d = false) (hsafe : s.dev ≠ .safe) : s.ethLate m 0 =
    (s.raise Flg.ETH_EVT_TX_LATE m).putMac m { s.mac m with late := [4] } := by
  have hjudge : s.ethJudge m ⟨4, descLaunch d, descSkip d⟩ =
      (s.raise Flg.ETH_EVT_TX_LATE m).putMac m { s.mac m with late := [4] } := by
    rw [State.ethJudge_noted (by simp [hlate]) hskip, hlate]
    rfl
  have hagain : ((s.raise Flg.ETH_EVT_TX_LATE m).putMac m { s.mac m with late := [4] }).macReqs m =
      [⟨4, descLaunch d, descSkip d⟩] :=
    State.macReqs_head (by simpa using hidle) (by simpa using hd) (by simpa [State.putMac] using hslots)
  have hdone : (((s.raise Flg.ETH_EVT_TX_LATE m).putMac m { s.mac m with late := [4] }).macReqs m).find?
      (((s.raise Flg.ETH_EVT_TX_LATE m).putMac m { s.mac m with late := [4] }).ethOverdue m 0) = none := by
    rw [hagain]
    exact List.find?_cons_of_neg (by rw [State.ethOverdue_judged 0 (by simp)]; exact Bool.false_ne_true)
  rw [State.ethLate_synced 0 hsync, State.ethJudgeAll_some
    (State.find_ethOverdue_head hd hidle hslots hlate hlaunch htol) (2 ^ s.get Fld.ETH_TX_CFG_LOG2 m + 4), hjudge,
    State.ethJudgeAll_none hdone, State.ethSafeBack_none (.inr (by simpa [State.putMac] using hsafe))]

theorem State.ethLate_skipped (hskip : descSkip d = true) {r t : State} (hr : r = s.raise Flg.ETH_EVT_TX_LATE m)
    (ht : t = (r.txBack m (r.txHead m) 0x0401 0).txNext m) : s.ethLate m 0 =
      (t.ethJudgeAll m 0 (2 ^ s.get Fld.ETH_TX_CFG_LOG2 m + 4)).ethSafeBack m
        (2 ^ s.get Fld.ETH_TX_CFG_LOG2 m + 5) := by
  rw [State.ethLate_synced 0 hsync, State.ethJudgeAll_some
    (State.find_ethOverdue_head hd hidle hslots hlate hlaunch htol) (2 ^ s.get Fld.ETH_TX_CFG_LOG2 m + 4),
    State.ethJudge_skipped hr (by simp [hlate]) hskip rfl (by simp [hd]), ht]

end

/-! ## Frames start and end (R458, R464) -/

section
variable {s : State} {m : Nat}

theorem exec_ethTxStart_free (hon : s.macOn m = true) (hrate : s.macRate m ≠ 0) (hidle : (s.mac m).sending = none)
    {t : State} (ht : t = s.ethLate m 1) : exec (.ethTxStart m) s = .next (
      match t.ethChoice m with
      | some q => t.ethStart m q
      | none => t) := by
  subst ht
  exact congrArg _ (if_neg (by simp [hon, hidle, hrate]))

variable {x : EthSend} (hx : (s.mac m).sending = some x)
include hx

theorem exec_ethTxDone_early (h : s.refTime < x.began + x.ticks) : exec (.ethTxDone m) s = .next s := by
  show execEthTxDone m s = _
  rw [execEthTxDone, hx]
  exact congrArg _ (if_pos h)

variable {t : State} (ht : t = ((s.putMac m { s.mac m with sending := none }).set Fld.ETH_STATUS_TX_ACTIVE m 0).accum
  Fld.ETH_TX_BYTES_BYTES m x.frame.length) (h : x.began + x.ticks ≤ s.refTime)
include ht h

theorem exec_ethTxDone_eq : exec (.ethTxDone m) s = .next (
    if x.slot.isNone = true then (t.txBack m x.entry (if x.late = true then 0x0401 else 0) x.stamp).txNext m else t) := by
  subst ht
  show execEthTxDone m s = _
  rw [execEthTxDone, hx]
  exact congrArg _ (if_neg (Nat.not_lt.mpr h))

end

/-! ## Reception (R456, R460) -/

section
variable {s : State} {m sfd : Nat} {f : List Byte} (hon : s.macOn m = true)
include hon

theorem exec_ethRxFrame_error {ok : Bool} (h : ok = false ∨ s.get Fld.ETH_CTRL_MAX_LEN m < f.length + 4) :
    exec (.ethRxFrame m f ok sfd) s = .next (s.raise Flg.ETH_EVT_RX_ERR m) :=
  congrArg _ ((if_neg (by simp [hon])).trans (if_pos (by simpa using h)))

variable (hlen : f.length + 4 ≤ s.get Fld.ETH_CTRL_MAX_LEN m)
include hlen

theorem exec_ethRxFrame_good : exec (.ethRxFrame m f true sfd) s = .next (
    if framePause f = true then s.raise Flg.ETH_EVT_PAUSE_RX m
    else if s.ethAccepts m f = true then (s.accum Fld.ETH_RX_BYTES_BYTES m (f.length + 4)).ethStore m f sfd else s) :=
  congrArg _ ((if_neg (by simp [hon])).trans (if_neg (by simpa using hlen)))

end

/-- Settles O52: the head entry by its owner, the late requests by their judgement one by one, and a received frame by
its length and kind. -/
theorem ethernetCommands : Obligations.EthernetCommands := by
  unfold Obligations.EthernetCommands
  refine ⟨fun s m hup => ⟨exec_ethEnable_refused hup, exec_ethEnable_taken hup, exec_ethEnable_off hup,
      exec_ethTxKick_unowned hup, exec_ethTxKick_owned hup⟩,
    fun s m rate up hon hmode => ⟨fun h => ?_, fun h => ?_⟩,
    fun s m hon hrate hidle => ⟨⟨_, rfl, fun h => ?_, fun q h => ?_⟩, fun h => ⟨?_, ?_⟩, fun h => ?_⟩,
    fun s m d hon hd hidle hslots hlate hlaunch hsafe htol hsync => ⟨fun hskip => ?_, fun hskip => ?_⟩,
    fun s t m x hx ht => ⟨exec_ethTxDone_early hx, fun h => ⟨fun hs => ?_, fun hs => ?_⟩⟩,
    fun s m sfd f hon => ⟨exec_ethRxFrame_error hon (.inl rfl), fun h => exec_ethRxFrame_error hon (.inr h),
      fun hlen => ⟨fun hp => ?_, fun hp ha => ?_, fun hp ha => ?_⟩⟩⟩
  · rw [exec_ethLinkChange_eq up rate hon hmode, if_pos h]
  · rw [exec_ethLinkChange_eq up rate hon hmode, if_neg h]
  · rw [exec_ethTxStart_free hon hrate hidle rfl, h]
  · rw [exec_ethTxStart_free hon hrate hidle rfl, h]
  · rw [exec_ethTxLate_on hon, State.ethLate_noReqs 0 h]
  · rw [exec_ethTxStart_free hon hrate hidle rfl, State.ethLate_noReqs 1 h, State.ethChoice_noReqs h]
  · rw [exec_ethTxLate_on hon, State.ethLate_unsynced 0 h]
  · rw [exec_ethTxLate_on hon, State.ethLate_noted hd hidle hslots hlate hlaunch htol hsync hskip hsafe]
  · refine ⟨_, _, rfl, rfl, ?_⟩
    rw [exec_ethTxLate_on hon, State.ethLate_skipped hd hidle hslots hlate hlaunch htol hsync hskip rfl rfl]
    refine ⟨rfl, fun hdone hback => ?_⟩
    rw [State.ethJudgeAll_none hdone, State.ethSafeBack_none hback]
  · rw [exec_ethTxDone_eq hx ht h, hs]
    rfl
  · rw [exec_ethTxDone_eq hx ht h, if_neg (by simpa using hs)]
  · rw [exec_ethRxFrame_good hon hlen, if_pos hp]
  · rw [exec_ethRxFrame_good hon hlen, if_neg (by simp [hp]), if_neg (by simp [ha])]
  · rw [exec_ethRxFrame_good hon hlen, if_neg (by simp [hp]), if_pos ha]

end Sys2Proof.Machine
end

section
/-! SUPPORT. The CAN controllers: enable and disable, the ring indices, and integration. -/

namespace Sys2Proof.Machine

/-! ## Enable and disable (R487) -/

section
variable {s : State} {n : Nat} (hup : s.setUp = true)
include hup

theorem exec_canEnable_again (hen : s.isSet Fld.CAN_CTRL_EN n = true) : exec (.canEnable n) s = .next s :=
  next_host_up hup (if_pos hen)

theorem exec_canEnable_refused (hen : s.isSet Fld.CAN_CTRL_EN n = false) (hr : s.canRates n = false) :
    exec (.canEnable n) s = .next (s.raise Flg.CAN_EVT_CFG_REFUSED n) :=
  next_host_up hup ((if_neg (by simp [hen])).trans (if_pos (by simp [hr])))

theorem exec_canEnable_taken (hen : s.isSet Fld.CAN_CTRL_EN n = false) (hr : s.canRates n = true) {t : State}
    (ht : t = s.forEach [Fld.CAN_TX_TAIL_INDEX, Fld.CAN_TX_DONE_INDEX, Fld.CAN_TX_ACK_INDEX, Fld.CAN_RX_TAIL_INDEX,
      Fld.CAN_RX_ACK_INDEX, Fld.CAN_STATUS_SYNCED, Fld.CAN_STATUS_TEC, Fld.CAN_STATUS_REC, Fld.CAN_STATUS_ERR_STATE]
      (fun t f => t.set f n 0)) :
    exec (.canEnable n) s = .next ((t.putCan n { t.can n with
      attempt := (t.can n).attempt.map (fun a => { a with src := 5 }), ending := none }).set Fld.CAN_CTRL_EN n 1) := by
  subst ht
  exact next_host_up hup ((if_neg (by simp [hen])).trans (if_neg (by simp [hr])))

omit hup

theorem State.canStop_idle (hen : s.isSet Fld.CAN_CTRL_EN n = false) (ha : (s.can n).attempt = none) :
    s.canStop n = s.set Fld.CAN_STATUS_SYNCED n 0 := if_pos (by simp [hen, ha])

theorem State.canStop_busy (ha : (s.can n).attempt ≠ none) : s.canStop n = s :=
  if_neg (by simpa [Option.isNone_iff_eq_none] using fun _ => ha)

theorem State.canDisable_eq (s : State) (n : Nat) : s.canDisable n =
    ((s.doIf (s.canLive n && (s.can n).attempt.isNone) fun s => s.putCan n { s.can n with ending := some s.now }).set
      Fld.CAN_CTRL_EN n 0).canStop n := rfl

/-- With no attempt, the mark of a frame that still ends leaves it so. -/
theorem State.attempt_canEnding (ha : (s.can n).attempt = none) (live : Bool) :
    ((s.doIf live fun s => s.putCan n { s.can n with ending := some s.now }).can n).attempt = none := by
  cases live with
  | false => exact ha
  | true => rw [State.doIf_true, State.can_putCan]; exact ha

include hup

theorem exec_canDisable_idle (ha : (s.can n).attempt = none) : exec (.canDisable n) s = .next
    (((s.doIf (s.canLive n) fun s => s.putCan n { s.can n with ending := some s.now }).set Fld.CAN_CTRL_EN n 0).set
      Fld.CAN_STATUS_SYNCED n 0) := by
  refine next_host_up hup ((State.canDisable_eq s n).trans ?_)
  rw [ha, Option.isNone_none, Bool.and_true]
  exact State.canStop_idle (State.isSet_set_zero _ _ _) ((congrArg CanCtl.attempt (State.can_set _ _ _ _ _)).trans
    (State.attempt_canEnding ha _))

theorem exec_canDisable_busy (ha : (s.can n).attempt ≠ none) :
    exec (.canDisable n) s = .next (s.set Fld.CAN_CTRL_EN n 0) := by
  refine next_host_up hup ?_
  have hsome : (s.can n).attempt.isNone = false := by simpa [← Option.not_isSome] using Option.isSome_iff_ne_none.mpr ha
  rw [State.canDisable_eq, hsome, Bool.and_false, State.doIf_false]
  exact State.canStop_busy ha

end

/-! ## Indices (R483, R484) -/

section
variable {s : State} (n v : Nat) (hup : s.setUp = true)
include hup

theorem exec_canTxTailWrite_up : exec (.canTxTailWrite n v) s = .next (
    if indexGap v (s.get Fld.CAN_TX_TAIL_INDEX n) (s.canTxSize n) ≤
      s.canTxSize n - 1 - indexGap (s.get Fld.CAN_TX_TAIL_INDEX n) (s.get Fld.CAN_TX_ACK_INDEX n) (s.canTxSize n) then
      (s.set Fld.CAN_TX_TAIL_INDEX n (v % s.canTxSize n)).canNext n
    else s.raise Flg.CAN_EVT_IDX_INVALID n) := next_host_up hup rfl

theorem exec_canTxAckWrite_up : exec (.canTxAckWrite n v) s = .next (
    if indexGap v (s.get Fld.CAN_TX_ACK_INDEX n) (s.canTxSize n) ≤
      indexGap (s.get Fld.CAN_TX_DONE_INDEX n) (s.get Fld.CAN_TX_ACK_INDEX n) (s.canTxSize n) then
      s.set Fld.CAN_TX_ACK_INDEX n (v % s.canTxSize n)
    else s.raise Flg.CAN_EVT_IDX_INVALID n) := next_host_up hup rfl

theorem exec_canRxAckWrite_up : exec (.canRxAckWrite n v) s = .next (
    if indexGap v (s.get Fld.CAN_RX_ACK_INDEX n) (s.canRxSize n) ≤
      indexGap (s.get Fld.CAN_RX_TAIL_INDEX n) (s.get Fld.CAN_RX_ACK_INDEX n) (s.canRxSize n) then
      s.set Fld.CAN_RX_ACK_INDEX n (v % s.canRxSize n)
    else s.raise Flg.CAN_EVT_IDX_INVALID n) := next_host_up hup rfl

end

/-! ## The entry at DONE, and integration (R486, R487) -/

section
variable {s : State} {n : Nat}

/-- Where the scan changes nothing, looking at the entry at DONE changes nothing. -/
theorem State.canNext_of_scan (h : ∀ fuel, s.canScan n fuel = s) : s.canNext n = s := by
  rw [State.canNext]
  simp only [h, ite_self]

theorem State.canNext_empty (h : s.canHead n = none) : s.canNext n = s := by
  refine State.canNext_of_scan fun fuel => ?_
  cases fuel with
  | zero => rfl
  | succ k => rw [State.canScan, h]

theorem State.canNext_sound {hdr : List Byte} (h : s.canHead n = some hdr) (hok : s.canEntryBad n hdr = false) :
    s.canNext n = s := by
  refine State.canNext_of_scan fun fuel => ?_
  cases fuel with
  | zero => rfl
  | succ k =>
    rw [State.canScan, h]
    exact if_neg (by simp [hok])

theorem exec_canBusIntegrated_joins (hon : s.canOn n = true) (hs : s.isSet Fld.CAN_STATUS_SYNCED n = false)
    (he : s.get Fld.CAN_STATUS_ERR_STATE n ≠ 2) :
    exec (.canBusIntegrated n) s = .next ((s.set Fld.CAN_STATUS_SYNCED n 1).canNext n) :=
  congrArg _ (if_pos (by simp [hon, hs, he]))

theorem exec_canBusIntegrated_off (hon : s.canOn n = false) : exec (.canBusIntegrated n) s = .next s :=
  congrArg _ (if_neg (by simp [hon]))

end

/-- Settles O53: enable by its rates, disable by the attempt, and an index by its bound. -/
theorem canSetUpAndIndices : Obligations.CanSetUpAndIndices := by
  unfold Obligations.CanSetUpAndIndices
  exact ⟨fun s n v hup => ⟨exec_canEnable_again hup, exec_canEnable_refused hup,
      fun hen hr => ⟨_, rfl, exec_canEnable_taken hup hen hr rfl⟩, exec_canDisable_idle hup, exec_canDisable_busy hup,
      exec_canTxTailWrite_up n v hup, exec_canTxAckWrite_up n v hup, exec_canRxAckWrite_up n v hup⟩,
    fun s n => exec_canBusIntegrated_joins, fun s n => State.canNext_empty, fun s n h => State.canNext_sound,
    fun s n => exec_canBusIntegrated_off⟩

end Sys2Proof.Machine
end

section
/-! SUPPORT. CAN traffic: attempts, lateness, error states, and received frames. -/

namespace Sys2Proof.Machine

/-! ## Lateness (R489, R492) -/

section
variable {s : State} {n after : Nat}

theorem State.canJudgeAll_none (h : (s.canReqs n).find? (s.canOverdue n after) = none) (fuel : Nat) :
    s.canJudgeAll n after fuel = s := by
  cases fuel with
  | zero => rfl
  | succ k => rw [State.canJudgeAll, h]

theorem State.canJudgeAll_some {q : TxReq} (h : (s.canReqs n).find? (s.canOverdue n after) = some q) (fuel : Nat) :
    s.canJudgeAll n after (fuel + 1) = (s.canSkip n q).canJudgeAll n after fuel := by
  rw [State.canJudgeAll, h]

theorem State.canSafeBack_none (h : s.canReqs n = [] ∨ s.dev ≠ .safe) (fuel : Nat) : s.canSafeBack n fuel = s := by
  cases fuel with
  | zero => rfl
  | succ k =>
    rw [State.canSafeBack]
    cases hq : (s.canReqs n).find? (fun q => q.src == 4) with
    | none => rfl
    | some q => exact if_neg fun hs => h.elim (fun he => by simp [he] at hq) (fun hd => hd hs.1)

theorem State.canLate_unsynced (h : s.hubSynced = false) : s.canLate n after = s := if_pos (by simp [h])

theorem State.canLate_synced (h : s.hubSynced = true) : s.canLate n after =
    (s.canJudgeAll n after (s.canTxSize n + 5)).canSafeBack n (s.canTxSize n + 5) := if_neg (by simp [h])

theorem State.canLate_noReqs (h : s.canReqs n = []) : s.canLate n after = s := by
  cases hs : s.hubSynced with
  | false => exact State.canLate_unsynced hs
  | true => rw [State.canLate_synced hs, State.canJudgeAll_none (by rw [h]; rfl), State.canSafeBack_none (.inl h)]

theorem State.canChoice_noReqs (h : s.canReqs n = []) : s.canChoice n = none := by
  rw [State.canChoice, h]
  rfl

/-- A late ring entry with LATE_SKIP goes back before what stands behind it is judged. -/
theorem State.canLate_skips {q : TxReq} {t : State} (hq : s.canReqs n = [q]) (hsrc : q.src = 4) (hl : q.launch ≠ 0)
    (hskip : q.skip = true) (htol : q.launch + s.get Fld.CAN_TX_CFG_LATE_TOL n ≤ s.now) (hs : s.hubSynced = true)
    (ht : t = ((s.canBack n (s.canDoneAddr n) 0x0401 0).raise Flg.CAN_EVT_TX_LATE n).canNext n) : s.canLate n 0 =
      (t.canJudgeAll n 0 (s.canTxSize n + 4)).canSafeBack n (s.canTxSize n + 5) := by
  have hover : (s.canReqs n).find? (s.canOverdue n 0) = some q := by
    rw [hq]
    exact List.find?_cons_of_pos (by simp [State.canOverdue, hl, hskip, htol])
  have hback : s.canSkip n q = t := (if_pos hsrc).trans ht.symm
  rw [State.canLate_synced hs, State.canJudgeAll_some hover (s.canTxSize n + 4), hback]

theorem exec_canTxLate_live (hlive : s.canLive n = true) : exec (.canTxLate n) s = .next (s.canLate n 0) :=
  congrArg _ (if_pos hlive)

end

/-! ## Attempts (R489, R490) -/

section
variable {s : State} {n : Nat}

theorem exec_canTxAttempt_none (h : s.isSet Fld.CAN_CTRL_MON n = true ∨ (s.can n).attempt ≠ none) :
    exec (.canTxAttempt n) s = .next s := by
  refine congrArg _ (if_pos ?_)
  rcases h with h | h
  · simp [h]
  · simp [Option.isSome_iff_ne_none.mpr h]

theorem exec_canTxAttempt_free (hlive : s.canLive n = true) (hmon : s.isSet Fld.CAN_CTRL_MON n = false)
    (ha : (s.can n).attempt = none) {t : State} (ht : t = s.canLate n 1) : exec (.canTxAttempt n) s = .next (
      match t.canChoice n with
      | some q => t.canStart n q
      | none => t) := by
  subst ht
  exact congrArg _ (if_neg (by simp [hlive, hmon, ha]))

theorem exec_canTxAttempt_noReqs (hlive : s.canLive n = true) (h : s.canReqs n = []) :
    exec (.canTxAttempt n) s = .next s := by
  by_cases hfree : s.isSet Fld.CAN_CTRL_MON n = true ∨ (s.can n).attempt ≠ none
  · exact exec_canTxAttempt_none hfree
  · obtain ⟨hmon, ha⟩ := not_or.mp hfree
    rw [exec_canTxAttempt_free hlive (Bool.eq_false_iff.mpr hmon) (not_not.mp ha) rfl, State.canLate_noReqs h,
      State.canChoice_noReqs h]

theorem exec_canArbLost_lost {a : Attempt} (hio : s.ioOn = true) (ha : (s.can n).attempt = some a) :
    exec (.canArbLost n) s = .next
      (((s.count Fld.CAN_CNT_ARB_LOST_COUNT n 1).putCan n { s.can n with attempt := none }).canStop n) :=
  congrArg _ (if_pos (by simp [hio, ha]))

theorem exec_canArbLost_none (ha : (s.can n).attempt = none) : exec (.canArbLost n) s = .next s :=
  congrArg _ (if_neg (by simp [ha]))

theorem exec_canTxDone_none (ha : (s.can n).attempt = none) : exec (.canTxDone n) s = .next s := by
  show execCanTxDone n s = _
  rw [execCanTxDone, ha]

/-- An untimed ring entry is never late. -/
theorem exec_canTxDone_untimed {a : Attempt} {h : List Byte} (hio : s.ioOn = true) (ha : (s.can n).attempt = some a)
    (hsrc : a.src = 4) (hh : h = s.load a.entry 32) (hl : hdrLaunch h = 0) : exec (.canTxDone n) s = .next
      ((((((s.putCan n { s.can n with
        attempt := none, sent := some (txFrame h (s.load (a.entry + 32) (hdrLen h))) }).canBack n a.entry 0
        a.stamp).canSentOk n).canNext n).canStop n)) := by
  subst hh
  show execCanTxDone n s = _
  rw [execCanTxDone, ha]
  refine congrArg Host.Outcome.next ((if_neg (by simp [hio])).trans ?_)
  refine congrArg (fun t => ((State.canSentOk t n).canNext n).canStop n) ((if_pos hsrc).trans ?_)
  dsimp only
  rw [hl]
  rfl

end

/-! ## Error states (R492) -/

section
variable {s : State} {n tec rxc : Nat}

theorem exec_canProtocolError_eq (hlive : s.canLive n = true) : exec (.canProtocolError n tec rxc) s = .next (
    if s.canRises n tec rxc = true then
      (((s.raise Flg.CAN_EVT_PROTO_ERR n).canErrors n tec rxc).canFail n).canEnded n
    else s) := by
  show execCanProtocolError n tec rxc s = _
  rw [execCanProtocolError, hlive, Bool.true_or, Bool.true_or, Bool.true_and]

variable {t : State}
  (ht : t = (s.set Fld.CAN_STATUS_TEC n (min tec 255)).set Fld.CAN_STATUS_REC n (min rxc 255))
include ht

theorem State.canErrors_active (h1 : tec < 128) (h2 : rxc < 128) :
    s.canErrors n tec rxc = t.set Fld.CAN_STATUS_ERR_STATE n 0 := by
  subst ht
  rw [State.canErrors, if_neg (by omega), if_neg (by omega)]
  simp only [Nat.reduceBEq, Bool.false_and, State.doIf_false]

theorem State.canErrors_passive (h1 : tec < 256) (h2 : 128 ≤ tec ∨ 128 ≤ rxc)
    (hold : s.get Fld.CAN_STATUS_ERR_STATE n ≠ 1) : s.canErrors n tec rxc =
      (t.set Fld.CAN_STATUS_ERR_STATE n 1).raise Flg.CAN_EVT_ERR_PASSIVE n := by
  subst ht
  have hnew : (s.get Fld.CAN_STATUS_ERR_STATE n != 1) = true := by simpa using hold
  rw [State.canErrors, if_neg (by omega), if_pos h2]
  simp only [hnew, Nat.reduceBEq, Bool.true_and, Bool.false_and, State.doIf_true, State.doIf_false]

theorem State.canErrors_busOff (h : 256 ≤ tec) (hold : s.get Fld.CAN_STATUS_ERR_STATE n ≠ 2) :
    s.canErrors n tec rxc =
      ((t.set Fld.CAN_STATUS_ERR_STATE n 2).set Fld.CAN_STATUS_SYNCED n 0).raise Flg.CAN_EVT_BUS_OFF n := by
  subst ht
  have hnew : (s.get Fld.CAN_STATUS_ERR_STATE n != 2) = true := by simpa using hold
  rw [State.canErrors, if_pos h]
  simp only [hnew, Nat.reduceBEq, Bool.and_self, Bool.false_and, State.doIf_true, State.doIf_false]

omit ht

theorem exec_canBusOffRecovery_recovers (hon : s.canOn n = true) (hauto : s.isSet Fld.CAN_CTRL_AUTO_RECOVER n = true)
    (he : s.get Fld.CAN_STATUS_ERR_STATE n = 2) : exec (.canBusOffRecovery n) s = .next
      ((((s.canErrors n 0 0).set Fld.CAN_STATUS_SYNCED n 1).canNext n).canLate n 0) :=
  congrArg _ (if_pos (by simp [hon, hauto, he]))

end

/-! ## Reception (R483) -/

section
variable {s : State} {n sof : Nat} {f : CanFrame}

theorem exec_canRxFrame_eq {t : State} (hlive : s.canLive n = true ∨ s.canEnds n sof = true)
    (hf : s.canFormat n f.format = true) (hl : lenLegal f.format f.len = true) (ht : t = (s.canHeardOk n).canEnded n) :
    exec (.canRxFrame n f sof) s = .next (
      match t.canMatch n f with
      | some i => t.canStore n f i sof
      | none => t) := by
  subst ht
  exact congrArg _ (if_neg (by simp [hf, hl, Bool.or_eq_true _ _ ▸ hlive]))

variable (i : Nat)

theorem State.canStore_long (h : (if s.isSet Fld.CAN_RX_CFG_BIG n = true then 2048 else 64) < f.len) :
    s.canStore n f i sof = s.raise Flg.CAN_EVT_RX_TOO_LONG n := if_pos h

variable (h : f.len ≤ (if s.isSet Fld.CAN_RX_CFG_BIG n = true then 2048 else 64))
include h

theorem State.canStore_overrun
    (hfull : (s.get Fld.CAN_RX_TAIL_INDEX n + 1) % s.canRxSize n = s.get Fld.CAN_RX_ACK_INDEX n) :
    s.canStore n f i sof = s.raise Flg.CAN_EVT_RX_OVERRUN n := (if_neg (Nat.not_lt.mpr h)).trans (if_pos hfull)

theorem State.canStore_stored
    (hroom : (s.get Fld.CAN_RX_TAIL_INDEX n + 1) % s.canRxSize n ≠ s.get Fld.CAN_RX_ACK_INDEX n) :
    s.canStore n f i sof = ((s.store (s.canRxAddr n (s.get Fld.CAN_RX_TAIL_INDEX n))
      (canEntry f i ((sof + 2 ^ 64 - s.get Fld.CAN_PHY_LAT_RX n) % 2 ^ 64))).set Fld.CAN_RX_TAIL_INDEX n
      ((s.get Fld.CAN_RX_TAIL_INDEX n + 1) % s.canRxSize n)).raiseSource (24 + n) :=
  (if_neg (Nat.not_lt.mpr h)).trans (if_neg hroom)

end

/-- Settles O54: the late requests by their judgement one by one, the error state by its counters, and a received frame
by the room for it. -/
theorem canTrafficAndErrors : Obligations.CanTrafficAndErrors := by
  unfold Obligations.CanTrafficAndErrors
  refine ⟨fun s n hlive => ⟨fun h => ⟨?_, exec_canTxAttempt_noReqs hlive h⟩, fun h => ?_, exec_canTxAttempt_none,
      fun hmon ha => ⟨_, rfl, fun h => ?_, fun q h => ?_⟩⟩,
    fun s n q hlive hq hsrc hl hskip htol hs => ⟨_, rfl, ?_, fun hdone hsafe => ?_⟩,
    fun s n a => exec_canArbLost_lost, fun s n ha => ⟨exec_canArbLost_none ha, exec_canTxDone_none ha⟩,
    fun s n tec rxc hlive => ⟨fun h => ?_, fun h => ?_⟩,
    fun s t n tec rxc ht => ⟨State.canErrors_active ht, State.canErrors_passive ht, State.canErrors_busOff ht⟩,
    fun s n => exec_canBusOffRecovery_recovers, fun s n a h => exec_canTxDone_untimed,
    fun s t n sof f hlive hf hl ht => ⟨fun h => ?_, fun i h => ⟨fun hlong => ?_, fun hlen hfull => ?_,
      fun hlen hroom => ?_⟩⟩⟩
  · rw [exec_canTxLate_live hlive, State.canLate_noReqs h]
  · rw [exec_canTxLate_live hlive, State.canLate_unsynced h]
  · rw [exec_canTxAttempt_free hlive hmon ha rfl, h]
  · rw [exec_canTxAttempt_free hlive hmon ha rfl, h]
  · rw [exec_canTxLate_live hlive, State.canLate_skips hq hsrc hl hskip htol hs rfl]
  · rw [exec_canTxLate_live hlive, State.canLate_skips hq hsrc hl hskip htol hs rfl, State.canJudgeAll_none hdone,
      State.canSafeBack_none (.inr hsafe)]
  · rw [exec_canProtocolError_eq hlive, if_pos h]
  · rw [exec_canProtocolError_eq hlive, if_neg (by simp [h])]
  all_goals rw [exec_canRxFrame_eq hlive hf hl ht, h]
  · exact congrArg _ (State.canStore_long i hlong)
  · exact congrArg _ (State.canStore_overrun i hlen hfull)
  · exact congrArg _ (State.canStore_stored i hlen hroom)

end Sys2Proof.Machine
end

section
/-! SUPPORT. Wakes: what begins one, what it captures, and how it ends. -/

namespace Sys2Proof.Machine

/-! ## A wake begins (R493, R494, R591) -/

section
variable {s : State} {us : Nat}

theorem exec_wakeNEvent_wakes (hd : s.dev = .sleep) (hw : s.aon.wake = none) (h : 10 ≤ us) :
    exec (.wakeNEvent us) s = .next { s.set Fld.PWR_WAKE_LAST_SOURCE 0 1 with
      aon := { s.aon with wake := some (1, s.refTime) } } :=
  congrArg _ ((if_pos h).trans (State.wakeBy_begins 1 hd hw))

theorem exec_wakeNEvent_short (h : us < 10) : exec (.wakeNEvent us) s = .next s :=
  congrArg _ (if_neg (Nat.not_le.mpr h))

theorem exec_wakeNEvent_awake (hd : s.dev ≠ .sleep) : exec (.wakeNEvent us) s = .next s := by
  have hnone : s.wakeBy 1 = s := if_neg fun h => hd h.1
  show execWakeNEvent us s = _
  rw [execWakeNEvent, hnone, ite_self]

/-- The listener's capture of a wake: its kind, channel, filter and identifier, and the time. -/
def State.wakeCaptured (s : State) (ch kind filter id : Nat) : State :=
  ((((((s.count Fld.CAN_WAKE_CNT_COUNT 0 1).set Fld.CAN_WAKE_CAP_VALID 0 1).set Fld.CAN_WAKE_CAP_KIND 0 kind).set
    Fld.CAN_WAKE_CAP_CHANNEL 0 ch).set Fld.CAN_WAKE_CAP_FILTER 0 filter).set Fld.CAN_WAKE_ID_ID 0 id).set
    Fld.CAN_WAKE_STAMP_TIME 0 s.now

theorem State.wakeCaptured_aon (s : State) (ch kind filter id : Nat) :
    (s.wakeCaptured ch kind filter id).aon = s.aon := by
  simp only [State.wakeCaptured, State.count_eq, State.set_aon]

theorem State.wakeCaptured_dev (s : State) (ch kind filter id : Nat) :
    (s.wakeCaptured ch kind filter id).dev = s.dev := by
  simp only [State.wakeCaptured, State.count_eq, State.set_dev]

theorem State.wakeCaptured_refTime (s : State) (ch kind filter id : Nat) :
    (s.wakeCaptured ch kind filter id).refTime = s.refTime := by
  simp only [State.wakeCaptured, State.count_eq, State.set_refTime]

variable {ch : Nat}

theorem State.listenerWake_first (kind filter id : Nat) (hd : s.dev = .sleep) (hw : s.aon.wake = none) :
    s.listenerWake ch kind filter id = { (s.wakeCaptured ch kind filter id).set Fld.PWR_WAKE_LAST_SOURCE 0 2 with
      aon := { s.aon with wake := some (2, s.refTime) } } := by
  have hcap : s.listenerWake ch kind filter id = (s.wakeCaptured ch kind filter id).wakeBy 2 := by
    rw [State.listenerWake, hw]
    rfl
  rw [hcap, State.wakeBy_begins 2 (by rwa [State.wakeCaptured_dev]) (by rwa [State.wakeCaptured_aon]),
    State.wakeCaptured_aon, State.wakeCaptured_refTime]

theorem exec_canWakeDominant_wakes (hd : s.dev = .sleep) (hw : s.aon.wake = none)
    (hmode : s.get Fld.CAN_WAKE_CFG_MODE ch = 1) (hlong : s.get Fld.CAN_WAKE_CFG_FILTER ch ≤ us) :
    exec (.canWakeDominant ch us) s = .next { (s.wakeCaptured ch 0 0 0).set Fld.PWR_WAKE_LAST_SOURCE 0 2 with
      aon := { s.aon with wake := some (2, s.refTime) } } :=
  congrArg _ ((if_pos ⟨hd, hmode, hlong⟩).trans (State.listenerWake_first 0 0 0 hd hw))

theorem exec_canWakeFrame_wakes {id f : Nat} {ide : Bool} {data : List Byte} (hd : s.dev = .sleep)
    (hw : s.aon.wake = none) (hmode : s.get Fld.CAN_WAKE_CFG_MODE ch = 2)
    (hf : (List.range 8).find? (fun f => s.get Fld.CAN_WAKE_CFG_FLT_MASK ch / 2 ^ f % 2 == 1 &&
      s.wakeFilter f id ide data) = some f) :
    exec (.canWakeFrame ch id ide data) s = .next { (s.wakeCaptured ch 1 f id).set Fld.PWR_WAKE_LAST_SOURCE 0 2 with
      aon := { s.aon with wake := some (2, s.refTime) } } := by
  show execCanWakeFrame ch id ide data s = _
  rw [execCanWakeFrame, if_pos ⟨hd, hmode⟩, hf]
  exact congrArg _ (State.listenerWake_first 1 f id hd hw)

end

/-! ## A wake ends (R589, R591) -/

section
variable {s : State} {src began : Nat} (hd : s.dev = .sleep) (hw : s.aon.wake = some (src, began))
include hd hw

section
variable (h : began + 50 * Config.us ≤ s.refTime)
include h

theorem exec_wakeBootStart_due : exec .wakeBootStart s = .next (
    if s.aon.resetLow = true then State.enterReset { s with aon := { s.aon with wake := none } } 1 0 false
    else State.go { s with aon := { s.aon with wake := none } } .boot 8) := by
  show execWakeBootStart s = _
  rw [execWakeBootStart, hd, hw]
  exact congrArg _ (if_neg (Nat.not_lt.mpr h))

theorem exec_wakeBootStart_boots (hlow : s.aon.resetLow = false) : exec .wakeBootStart s = .next (({ s with
    dev := .boot, aon := { s.aon with wake := none, prev := .sleep, cause := 8, decided := none } }).raise
      Flg.HUB_EVT_STATE_CHANGED 0) := by
  rw [exec_wakeBootStart_due hd hw h, if_neg (by simp [hlow]), ← hd]
  rfl

theorem exec_wakeBootStart_resets (hlow : s.aon.resetLow = true) : exec .wakeBootStart s = .next
    (State.enterReset { s with aon := { s.aon with wake := none } } 1 0 false) := by
  rw [exec_wakeBootStart_due hd hw h, if_pos hlow]

end

theorem exec_wakeTimeout_fails (h : began + s.get Fld.PWR_WAKE_TIMEOUT 0 * 1000 * Config.us ≤ s.refTime) :
    exec .wakeTimeout s = .next (({ s with aon := { s.aon with wake := none } }).set Fld.PWR_WAKE_WAKE_FAIL_COUNT 0
      (min (s.get Fld.PWR_WAKE_WAKE_FAIL_COUNT 0 + 1) (2 ^ Fld.PWR_WAKE_WAKE_FAIL_COUNT.width - 1))) := by
  show execWakeTimeout s = _
  rw [execWakeTimeout, hd, hw]
  exact congrArg _ (if_neg (Nat.not_lt.mpr h))

end

/-- Settles O13: a wake by what begins it, and its end by RESET_N and the time since. -/
theorem wakesAndTheirEnd : Obligations.WakesAndTheirEnd := by
  unfold Obligations.WakesAndTheirEnd
  exact ⟨⟨fun s us => exec_wakeNEvent_wakes, fun s us => exec_wakeNEvent_short, fun s us => exec_wakeNEvent_awake,
      fun s ch us => exec_canWakeDominant_wakes, fun s ch id ide data f => exec_canWakeFrame_wakes⟩,
    fun s src began => exec_wakeBootStart_boots,
    fun s src began hd hw h hlow => ⟨_, exec_wakeBootStart_resets hd hw h hlow, rfl, rfl, rfl⟩,
    fun s src began => exec_wakeTimeout_fails⟩

end Sys2Proof.Machine
end

section
/-! SUPPORT. Paired execution: the configuration of a pair, its decisions, mismatches and frames. -/

namespace Sys2Proof.Machine

/-! ## The configuration of a pair (R527) -/

section
variable {s : State} {p v : Nat} (hup : s.setUp = true)
include hup

theorem exec_pairValidWrite_same (h : PairCfg.ofValue v = s.pairCfg p) : exec (.pairValidWrite p v) s = .next s :=
  next_host_up hup (if_pos h)

variable (hne : PairCfg.ofValue v ≠ s.pairCfg p)
include hne

theorem exec_pairValidWrite_refused (h : s.pairConfig p = false ∨
    ((PairCfg.ofValue v).valid = true ∧ s.pairOk p (PairCfg.ofValue v) = false)) :
    exec (.pairValidWrite p v) s = .next (s.raise Flg.SELV_EVT_CFG_REFUSED 0) :=
  next_host_up hup ((if_neg hne).trans (if_pos (by simpa using h)))

theorem exec_pairValidWrite_taken (hc : s.pairConfig p = true)
    (hok : (PairCfg.ofValue v).valid = true → s.pairOk p (PairCfg.ofValue v) = true) :
    exec (.pairValidWrite p v) s = .next (s.setPair p (PairCfg.ofValue v)) :=
  next_host_up hup ((if_neg hne).trans (if_neg (by simpa [hc] using hok)))

end

/-! ## Decisions (R529, R530) -/

section
variable {s : State} {p : Nat} {x : Pair} (hx : x = s.pair p)
include hx

theorem exec_pairDecision_none (h : x.tiles.find? (s.tileBoth x) = none) : exec (.pairDecision p) s = .next s := by
  subst hx
  show execPairDecision p s = _
  rw [execPairDecision]
  dsimp only
  rw [h]

theorem exec_pairDecision_judges {t u : Tile} {a b : Cmd} (h : x.tiles.find? (s.tileBoth x) = some t)
    (ha : s.tileOver t = some a) (hu : x.tile t.engine t.ordinal false = some u) (hb : s.tileOver u = some b) :
    exec (.pairDecision p) s = .next (s.verdictOn p t (s.tileDigest a == s.tileDigest b)) := by
  subst hx
  show execPairDecision p s = _
  rw [execPairDecision]
  dsimp only
  rw [h]
  dsimp only
  rw [ha, hu]
  dsimp only
  rw [hb]

theorem exec_pairTimeout_none (h : s.pairHalted p = true ∨ x.tiles.find? (s.tileLone x) = none) :
    exec (.pairTimeout p) s = .next s := by
  subst hx
  show execPairTimeout p s = _
  rw [execPairTimeout]
  rcases h with h | h
  · rw [if_pos h]
  · rw [h, ite_self]

theorem exec_pairTimeout_mismatches {t : Tile} (hh : s.pairHalted p = false)
    (h : x.tiles.find? (s.tileLone x) = some t) : exec (.pairTimeout p) s = .next (s.verdictOn p t false) := by
  subst hx
  show execPairTimeout p s = _
  rw [execPairTimeout, if_neg (by simp [hh]), h]

end

/-! ## Mismatches (R531, R533) -/

section
variable {s : State} {p frame main check : Nat}

theorem State.mismatch_again (h : frame ∈ (s.pair p).bad) : s.mismatch p frame main check = s := if_pos h

variable (h : frame ∉ (s.pair p).bad) {t : State}
  (ht : t = ((((s.withholdFreed p frame).modPair p (fun x => { x with
      bad := x.bad ++ [frame], watch := some (frame, 0) })).set
    Fld.SELV_PAIR_MISMATCH_FRAME_FRAME p frame).count Fld.SELV_PAIR_CNT_MISMATCH_COUNT p 1).raise
    Flg.SELV_EVT_FRAME_MISMATCH 0)
include h ht

theorem State.mismatch_unwatched (hw : (s.pair p).watch = none) : s.mismatch p frame main check = t := by
  subst ht
  refine (if_neg h).trans ?_
  rw [hw]

variable {f1 n : Nat} (hw : (s.pair p).watch = some (f1, n))
include hw

theorem State.mismatch_apart (hf : f1 + 100 < frame) : s.mismatch p frame main check = t := by
  subst ht
  refine (if_neg h).trans ?_
  rw [hw]
  exact if_neg (Nat.not_le.mpr hf)

theorem State.mismatch_escalates (hf : frame ≤ f1 + 100) : s.mismatch p frame main check =
    (((t.raise Flg.SELV_EVT_ESCALATED 0).count Fld.SELV_PAIR_CNT_ESCALATE_COUNT p 1).makeSuspect main).makeSuspect
      check := by
  subst ht
  refine (if_neg h).trans ?_
  rw [hw]
  exact if_pos hf

end

/-! ## Frames (R533) -/

section
variable {s : State} {p : Nat} {x : Pair} (hx : x = s.pair p)
include hx

theorem exec_pairFrameEnd_none (h : x.frames.find? (s.frameOver x) = none) : exec (.pairFrameEnd p) s = .next s := by
  subst hx
  show execPairFrameEnd p s = _
  rw [execPairFrameEnd]
  dsimp only
  rw [h]

variable {f : Nat} {t : State} (h : x.frames.find? (s.frameOver x) = some f)
  (ht : t = (s.modPair p (fun x => { x with frames := x.frames.filter (fun g => g != f) })).set
    Fld.SELV_PAIR_FRAME_FRAME p f)
include h ht

theorem exec_pairFrameEnd_bad (hf : f ∈ x.bad) : exec (.pairFrameEnd p) s = .next t := by
  subst hx ht
  show execPairFrameEnd p s = _
  rw [execPairFrameEnd]
  dsimp only
  rw [h]
  exact congrArg _ (if_pos hf)

variable (hf : f ∉ x.bad)
include hf

theorem exec_pairFrameEnd_unwatched (hw : x.watch = none) : exec (.pairFrameEnd p) s = .next t := by
  subst hx ht
  show execPairFrameEnd p s = _
  rw [execPairFrameEnd]
  dsimp only
  rw [h]
  refine congrArg _ ((if_neg hf).trans ?_)
  rw [hw]

/-- A good frame after the mismatched one is counted, and the third is TRANSIENT. -/
theorem exec_pairFrameEnd_watched {f1 n : Nat} (hw : x.watch = some (f1, n)) (hn : n < 3) (hf1 : f1 < f) {u : State}
    (hu : u = t.modPair p (fun x => { x with watch := some (f1, n + 1) })) : exec (.pairFrameEnd p) s = .next (
      if n = 2 then (u.raise Flg.SELV_EVT_TRANSIENT 0).count Fld.SELV_PAIR_CNT_TRANSIENT_COUNT p 1 else u) := by
  subst hx ht hu
  show execPairFrameEnd p s = _
  rw [execPairFrameEnd]
  dsimp only
  rw [h]
  refine congrArg _ ((if_neg hf).trans ?_)
  rw [hw]
  exact if_pos ⟨hn, hf1⟩

end

/-- Settles O56: a write by what the pair holds, a tile by its digests, and a frame by the mismatch before it. -/
theorem pairedExecution : Obligations.PairedExecution := by
  unfold Obligations.PairedExecution
  refine ⟨fun s p v hup => ⟨exec_pairValidWrite_same hup, exec_pairValidWrite_refused hup, exec_pairValidWrite_taken hup⟩,
    fun s p x hx => ⟨exec_pairDecision_none hx, fun t u a b => exec_pairDecision_judges hx⟩,
    fun s p x hx => ⟨exec_pairTimeout_none hx, fun t => exec_pairTimeout_mismatches hx⟩,
    fun s p frame main check => ⟨State.mismatch_again, fun h => ⟨_, rfl, State.mismatch_unwatched h rfl,
      fun f1 n => State.mismatch_apart h rfl, fun f1 n => State.mismatch_escalates h rfl⟩⟩,
    fun s p x hx => ⟨exec_pairFrameEnd_none hx, fun f t h ht => ⟨fun hend => ?_, fun f1 n hf hw hf1 hn => ?_,
      fun f1 hf hw hf1 => ?_⟩⟩⟩
  · by_cases hf : f ∈ x.bad
    · exact exec_pairFrameEnd_bad hx h ht hf
    · exact exec_pairFrameEnd_unwatched hx h ht hf (hend.resolve_left hf)
  · rw [exec_pairFrameEnd_watched hx h ht hf hw (by omega) hf1 rfl, if_neg (by omega)]
  · rw [exec_pairFrameEnd_watched hx h ht hf hw (by omega) hf1 rfl, if_pos rfl]

end Sys2Proof.Machine
end

section
/-! SUPPORT. Security commands: their issue and results, debug, attestation, update and activation. -/

namespace Sys2Proof.Machine

/-! ## Issue (Table 20.9) -/

section
variable {s : State} {op : Nat} (hlo : 1 ≤ op) (hhi : op ≤ 10)
include hlo hhi

theorem State.secAllowed_safe (hd : s.dev = .safe) : s.secAllowed op = false := by
  have hno (a b c d : Bool) : s.secStates a b c d = false := by rw [State.secStates, hd]
  interval_cases op <;> exact hno _ _ _ _

theorem State.secAllowed_standby (hd : s.dev = .standby) : s.secAllowed op = true := by
  have hyes (b c d : Bool) : s.secStates true b c d = true := by rw [State.secStates, hd]
  interval_cases op <;> exact hyes _ _ _

omit hlo hhi

theorem State.secStates_run (hd : s.dev = .run) (a b c d : Bool) : s.secStates a b c d = b := by
  rw [State.secStates, hd]

theorem State.secAllowed_run_not (hd : s.dev = .run) (h : op = 5 ∨ op = 6 ∨ op = 7 ∨ op = 9 ∨ op = 10) :
    s.secAllowed op = false := by
  rcases h with rfl | rfl | rfl | rfl | rfl <;> exact State.secStates_run hd _ _ _ _

theorem State.secAllowed_run (hd : s.dev = .run) (h : op = 1 ∨ op = 2 ∨ op = 3 ∨ op = 4 ∨ op = 8) :
    s.secAllowed op = true := by
  rcases h with rfl | rfl | rfl | rfl | rfl <;> exact State.secStates_run hd _ _ _ _

end

section
variable {s : State} {v : Nat}

theorem State.secCmd_busy (h : s.isSet Fld.SEC_STATUS_BUSY 0 = true) : s.secCmd v = s.raise Flg.SEC_EVT_CMD_REFUSED 0 :=
  if_pos h

variable {t : State} {op : Nat} (h : s.isSet Fld.SEC_STATUS_BUSY 0 = false) (hop : op = v % 256)
  (ht : t = s.setAll [(Fld.SEC_CMD_OP, 0, op), (Fld.SEC_CMD_TYPE, 0, v / 256 % 256), (Fld.SEC_CMD_ID, 0, v / 65536 % 65536),
    (Fld.SEC_STATUS_BUSY, 0, 1)]) (hlo : 1 ≤ op) (hhi : op ≤ 11)
include h hop ht hlo hhi

/-- An issued command runs, or carries WRONG_STATE from its issue on. -/
theorem State.secCmd_issued : s.secCmd v =
    { t with sec := { t.sec with running := some ⟨op, if s.secAllowed op = true then none else some (0x0706, 0)⟩ } } := by
  have hfields : bitsOf v 0 8 = v % 256 ∧ bitsOf v 8 8 = v / 256 % 256 ∧ bitsOf v 16 16 = v / 65536 % 65536 := by
    simp [bitsOf]
  obtain ⟨h0, h8, h16⟩ := hfields
  subst hop ht
  rw [State.secCmd, if_neg (by simp [h]), h0, h8, h16]
  exact if_pos ⟨hlo, hhi⟩

theorem State.secCmd_refused (ha : s.secAllowed op = false) :
    s.secCmd v = { t with sec := { t.sec with running := some ⟨op, some (0x0706, 0)⟩ } } := by
  rw [State.secCmd_issued h hop ht hlo hhi, ha]
  rfl

theorem State.secCmd_runs (ha : s.secAllowed op = true) :
    s.secCmd v = { t with sec := { t.sec with running := some ⟨op, none⟩ } } := by
  rw [State.secCmd_issued h hop ht hlo hhi, ha]
  rfl

end

/-! ## The command that runs -/

section
variable {s : State} {f : State → State}

/-- No work is done for a command that has its result, nor where none runs. -/
theorem next_secRun_none (op : Nat) (h : s.sec.running = none ∨ ∃ o x, s.sec.running = some ⟨o, some x⟩) :
    (Host.Outcome.next (s.secRun op f) : Host.Outcome State Fault Refusal) = .next s := by
  rw [State.secRun]
  rcases h with h | ⟨o, x, h⟩
  · rw [h]
  · rw [h]
    exact congrArg _ (if_neg fun ⟨_, hr, _⟩ => Option.some_ne_none x hr)

/-- The work of a command that runs. -/
theorem next_secRun {op : Nat} {t : State} (h : s.sec.running = some ⟨op, none⟩) (hw : s.secWorks = true) (ht : f s = t) :
    (Host.Outcome.next (s.secRun op f) : Host.Outcome State Fault Refusal) = .next t := by
  rw [State.secRun, h]
  exact congrArg _ ((if_pos ⟨rfl, rfl, hw⟩).trans ht)

theorem State.secWorks_standby (hd : s.dev = .standby) : s.secWorks = true := by rw [State.secWorks, hd]

theorem State.secWorks_run (hd : s.dev = .run) : s.secWorks = true := by rw [State.secWorks, hd]

/-- The eleven commands' work where none is to be done. -/
theorem exec_secCommands_none (h : s.sec.running = none ∨ ∃ o x, s.sec.running = some ⟨o, some x⟩) :
    exec .jnlRead s = .next s ∧ exec .jnlWrite s = .next s ∧ exec .jnlDelete s = .next s ∧ exec .ctrInc s = .next s ∧
    exec .update s = .next s ∧ exec .activate s = .next s ∧ exec .commitVersion s = .next s ∧ exec .attest s = .next s ∧
    exec .debugChallenge s = .next s ∧ exec .debugUnlock s = .next s ∧ exec .debugLock s = .next s :=
  ⟨next_secRun_none _ h, next_secRun_none _ h, next_secRun_none _ h, next_secRun_none _ h, next_secRun_none _ h,
    next_secRun_none _ h, next_secRun_none _ h, next_secRun_none _ h, next_secRun_none _ h, next_secRun_none _ h,
    next_secRun_none _ h⟩

theorem exec_secCommandDone_none (h : s.sec.running = none) : exec .secCommandDone s = .next s := by
  show execSecCommandDone s = _
  rw [execSecCommandDone, h]

theorem exec_secCommandDone_done {op status value : Nat} (h : s.sec.running = some ⟨op, some (status, value)⟩) :
    exec .secCommandDone s = .next (State.raise
      { s.setAll [(Fld.SEC_RESULT_STATUS, 0, status), (Fld.SEC_RESULT_OP, 0, op), (Fld.SEC_RESULT_VALUE_VALUE, 0, value),
          (Fld.SEC_STATUS_BUSY, 0, 0)] with sec := { s.sec with running := none, programming := none } }
      Flg.SEC_EVT_CMD_DONE 0) := by
  show execSecCommandDone s = _
  rw [execSecCommandDone, h]
  rfl

/-! ## Debug and attestation (R568, R573) -/

theorem exec_debugChallenge_fresh (h : s.sec.running = some ⟨9, none⟩) (hd : s.dev = .standby) :
    exec .debugChallenge s = .next (State.secEnd
      { s with freeCount := s.freeCount + 1, sec := { s.sec with nonce := some (Config.freeWord s.freeCount).toNat } } 0
      (Config.freeWord s.freeCount).toNat) := next_secRun h (State.secWorks_standby hd) rfl

theorem exec_debugUnlock_judged {t u : State} {n : Nat} (h : s.sec.running = some ⟨10, none⟩) (hd : s.dev = .standby)
    (ht : t = { s with sec := { s.sec with nonce := none } }) (hn : n = s.sec.failures + 1)
    (hu : u = (State.raise { t with sec := { t.sec with failures := n } } Flg.SEC_EVT_DEBUG_FAIL 0).secEnd 0x0702 0) :
    exec .debugUnlock s = .next (
      if s.debugToken (s.load s.secAddr 128) = true then (t.set Fld.SEC_STATUS_DEBUG_LOCKED 0 0).secEnd 0 0
      else if n = 3 then u.tamper [3] else u) := by
  subst hu hn ht
  exact next_secRun h (State.secWorks_standby hd) rfl

theorem exec_debugLock_locks (h : s.sec.running = some ⟨11, none⟩) (hw : s.secWorks = true) :
    exec .debugLock s = .next ((s.set Fld.SEC_STATUS_DEBUG_LOCKED 0 1).secEnd 0 0) := next_secRun h hw rfl

section
variable (h : s.sec.running = some ⟨8, none⟩) (hd : s.dev = .run)
include h hd

theorem exec_attest_unready (hr : s.attestReady = false) : exec .attest s = .next (s.secEnd 0x0707 0) :=
  next_secRun h (State.secWorks_run hd) (if_pos (by simp [hr]))

theorem exec_attest_ready (hr : s.attestReady = true) : exec .attest s = .next
    ((s.store (s.secAddr + 64) (s.quote (s.load s.secAddr 32))).secEnd 0 0) :=
  next_secRun h (State.secWorks_run hd) (if_neg (by simp [hr]))

end

/-! ## Update and activation (R560) -/

theorem State.secKind_none (h1 : s.secType ≠ 1) (h2 : s.secType ≠ 2) : s.secKind = none :=
  (if_neg h1).trans (if_neg h2)

theorem State.secKind_some {kind : Nat} (h : s.secType = kind + 1) (hk : kind < 2) : s.secKind = some kind := by
  rw [State.secKind, h]
  interval_cases kind <;> rfl

section
variable (h : s.sec.running = some ⟨5, none⟩) (hd : s.dev = .standby)
include h hd

theorem exec_update_kindless (h1 : s.secType ≠ 1) (h2 : s.secType ≠ 2) :
    exec .update s = .next (s.secEnd 0x0702 0) := by
  refine next_secRun h (State.secWorks_standby hd) ?_
  dsimp only
  rw [State.secKind_none h1 h2]

theorem exec_update_image {kind : Nat} {m image : List Byte} (hm : m = s.load s.secAddr 256)
    (hi : image = s.load s.secAddr (256 + manifestBody m)) (ht : s.secType = kind + 1) (hk : kind < 2) :
    exec .update s = .next (
      if s.secLen < 256 + manifestBody m ∨ manifestValid s.jnlNow kind m (image.drop 256) = false ∨
        manifestVersion m < s.secFloor kind then s.secEnd 0x0702 0
      else State.secEnd { s with
        mem := Mem.write (Mem.clear s.mem (slotAddr kind (1 - s.headerSlot kind)) (slotBytes kind))
          (slotAddr kind (1 - s.headerSlot kind)) image } 0 0) := by
  subst hi hm
  refine next_secRun h (State.secWorks_standby hd) ?_
  dsimp only
  rw [State.secKind_some ht hk]
  simp only [Bool.not_eq_true']

end

/-- The next header: the copy that is not in force, with the next GENERATION. -/
theorem exec_activate_header {kind slot copy gen : Nat} {hdr : List Byte} (h : s.sec.running = some ⟨6, none⟩)
    (hd : s.dev = .standby) (ht : s.secType = kind + 1) (hk : kind < 2) (hs : slot = 1 - s.headerSlot kind)
    (hnone : s.headerNow s.sec.journalKey = none → copy = 0 ∧ gen = 1)
    (hsome : ∀ c, s.headerNow s.sec.journalKey = some c → copy = 1 - c ∧ gen = fieldOf (s.headerBytes c) 8 8 + 1)
    (hhdr : hdr = headerOf s.sec.journalKey (if kind = 0 then slot else s.headerSlot 0)
      (if kind = 1 then slot else s.headerSlot 1) gen) :
    exec .activate s = .next (
      if s.sec.journalKey = [] ∨ s.slotValid s.jnlNow kind slot = false ∨
        manifestVersion (s.slotManifest kind slot) < s.secFloor kind then s.secEnd 0x0702 0
      else State.secEnd { s with
        mem := Mem.write (Mem.clear s.mem (Mem.flash (copy * 0x4000)) 0x4000)
          (Mem.flash (copy * 0x4000)) (hdr ++ List.replicate (0x4000 - 128) 0) } 0 gen) := by
  refine next_secRun h (State.secWorks_standby hd) ?_
  dsimp only
  rw [State.secKind_some ht hk]
  subst hhdr hs
  cases hn : s.headerNow s.sec.journalKey with
  | none =>
    obtain ⟨rfl, rfl⟩ := hnone hn
    simp only [Bool.not_eq_true']
  | some c =>
    obtain ⟨rfl, rfl⟩ := hsome c hn
    simp only [Bool.not_eq_true']

end

/-- Settles O57: a command by the states of its issue, its work by whether it runs, and an image by its manifest. -/
theorem securityCommandsRun : Obligations.SecurityCommandsRun := by
  unfold Obligations.SecurityCommandsRun
  refine ⟨⟨fun s t op v h hop ht hlo hhi => ⟨fun hd h10 => ?_, fun hd hops => ?_, fun hd hops => ?_, fun hd h10 => ?_⟩,
      fun s v => State.secCmd_busy, fun s op x h => exec_secCommands_none (.inr ⟨op, x, h⟩), fun s h => ?_,
      fun s op status value => exec_secCommandDone_done, fun s => exec_debugChallenge_fresh,
      fun s t n h hd ht hn => ⟨_, rfl, exec_debugUnlock_judged h hd ht hn rfl⟩, fun s => exec_debugLock_locks,
      fun s h hd => ⟨exec_attest_unready h hd, exec_attest_ready h hd⟩⟩,
    fun s kind m image h hd hm hi => ⟨exec_update_kindless h hd, exec_update_image h hd hm hi⟩,
    fun s kind slot copy gen hdr => exec_activate_header⟩
  · exact State.secCmd_refused h hop ht hlo hhi (State.secAllowed_safe hlo h10 hd)
  · exact State.secCmd_refused h hop ht hlo hhi (State.secAllowed_run_not hd hops)
  · exact State.secCmd_runs h hop ht hlo hhi (State.secAllowed_run hd hops)
  · exact State.secCmd_runs h hop ht hlo hhi (State.secAllowed_standby hlo h10 hd)
  · obtain ⟨h1, h2, h3, h4, h5, h6, h7, h8, h9, h10, h11⟩ := exec_secCommands_none (.inl h)
    exact ⟨h1, h2, h3, h4, h5, h6, h7, h8, h9, h10, h11, exec_secCommandDone_none h⟩

end Sys2Proof.Machine
end

section
/-! SUPPORT. The journal: the commands that read and append, appends that wait, and the end of a compaction. -/

namespace Sys2Proof.Machine

/-- The record types that the host writes, as a range. -/
theorem hostType_iff (t : Nat) : hostType t = true ↔ 0x10 ≤ t ∧ t ≤ 0x12 := by simp [hostType]

section
variable {s : State}

/-! ## Objects (R563, R574) -/

theorem exec_jnlRead_runs (h : s.sec.running = some ⟨1, none⟩) (hd : s.dev = .run) : exec .jnlRead s = .next (
    match jnlFind s.jnlNow s.secType s.secId with
    | none => s.secEnd 0x0705 0
    | some r => (s.store s.secAddr (r.payload.take s.secLen)).secEnd 0 (r.payload.take s.secLen).length) :=
  next_secRun h (State.secWorks_run hd) rfl

section
variable {n : Nat} (h : s.sec.running = some ⟨2, none⟩) (hd : s.dev = .run) (hn : n = s.secLen)
include h hd hn

theorem exec_jnlWrite_badField (hbad : s.secType < 0x10 ∨ 0x12 < s.secType ∨ 65536 < n ∨ (s.secType = 0x12 ∧ n ≠ 388)) :
    exec .jnlWrite s = .next (s.secEnd 0x0102 0) := by
  subst hn
  refine next_secRun h (State.secWorks_run hd) (if_pos ?_)
  rw [Bool.not_eq_true', Bool.eq_false_iff, Ne, hostType_iff]
  omega

theorem exec_jnlWrite_fits {r : JRecord} (hr : r = ⟨s.secType, 0, 0, s.secId, s.load s.secAddr n⟩)
    (hlo : 0x10 ≤ s.secType) (hhi : s.secType ≤ 0x12) (hlen : n ≤ 65536) (hset : s.secType = 0x12 → n = 388) :
    exec .jnlWrite s = .next (
      if 1572864 < jnlBytes (jnlApply s.jnlNow r) then s.secEnd 0x0704 0
      else s.jnlAppend ⟨r.type, r.id, r.payload, true⟩) := by
  subst hr hn
  refine next_secRun h (State.secWorks_run hd) (if_neg ?_)
  rw [Bool.not_eq_true', Bool.eq_false_iff, Ne, hostType_iff]
  omega

end

section
variable (h : s.sec.running = some ⟨3, none⟩) (hd : s.dev = .run)
include h hd

theorem exec_jnlDelete_badType (hbad : s.secType < 0x10 ∨ 0x12 < s.secType) :
    exec .jnlDelete s = .next (s.secEnd 0x0705 0) := by
  refine next_secRun h (State.secWorks_run hd) (if_pos (.inl ?_))
  rw [Bool.not_eq_true', Bool.eq_false_iff, Ne, hostType_iff]
  omega

theorem exec_jnlDelete_typed (hlo : 0x10 ≤ s.secType) (hhi : s.secType ≤ 0x12) : exec .jnlDelete s = .next (
    if jnlFind s.jnlNow s.secType s.secId = none then s.secEnd 0x0705 0
    else s.jnlAppend ⟨0x3F, s.jnlId 0x3F, leBytes 4 s.secType ++ leBytes 4 s.secId, true⟩) := by
  refine next_secRun h (State.secWorks_run hd) ?_
  simp only [(hostType_iff _).mpr ⟨hlo, hhi⟩, Bool.not_true, Bool.false_eq_true, false_or, Option.isNone_iff_eq_none]

end

/-! ## Counters and floors (R561, R567) -/

section
variable (h : s.sec.running = some ⟨4, none⟩) (hd : s.dev = .run)
include h hd

theorem exec_ctrInc_badField (hbad : s.secId < 4 ∨ 15 < s.secId) : exec .ctrInc s = .next (s.secEnd 0x0102 0) :=
  next_secRun h (State.secWorks_run hd) (if_pos hbad)

theorem exec_ctrInc_counts (hlo : 4 ≤ s.secId) (hhi : s.secId ≤ 15) : exec .ctrInc s = .next
    (s.jnlAppend ⟨0x21, s.secId, leBytes 8 (min (jnlCounter s.jnlNow s.secId + 1) (2 ^ 64 - 1)), true⟩) :=
  next_secRun h (State.secWorks_run hd) (if_neg (by omega))

end

theorem exec_commitVersion_runs (h : s.sec.running = some ⟨7, none⟩) (hd : s.dev = .standby) :
    exec .commitVersion s = .next (
      if s.commitRecords = [] then s.secEnd 0 0
      else s.forEach ((List.range s.commitRecords.length).zip s.commitRecords) (fun t p =>
        t.jnlAppend ⟨p.2.1, p.2.2.1, p.2.2.2, p.1 + 1 == s.commitRecords.length⟩)) := by
  refine next_secRun h (State.secWorks_standby hd) ?_
  simp only [List.isEmpty_iff]

/-! ## Appends and compaction (R564 to R566) -/

section
variable {a : JnlAppend}

theorem State.jnlAppend_waits (h : s.isSet Fld.SEC_STATUS_COMPACTING 0 = true ∨ s.aon.sleepReq = true) :
    s.jnlAppend a = { s with sec := { s.sec with waiting := s.sec.waiting ++ [a] } } :=
  if_pos (by simpa using h)

variable (hc : s.isSet Fld.SEC_STATUS_COMPACTING 0 = false) (hs : s.aon.sleepReq = false)
include hc hs

theorem State.jnlAppend_torn (ht : s.sec.torn = true) : s.jnlAppend a =
    State.set { s with sec := { s.sec with waiting := s.sec.waiting ++ [a] } } Fld.SEC_STATUS_COMPACTING 0 1 :=
  (if_neg (by simp [hc, hs])).trans (if_pos ht)

theorem State.jnlAppend_written (ht : s.sec.torn = false) {t : State}
    (hw : t = (s.jnlWrite a.type a.id a.payload).jnlResult a) : s.jnlAppend a =
      if 3145728 < t.get Fld.SEC_JNL_USED_BYTES 0 then t.set Fld.SEC_STATUS_COMPACTING 0 1 else t := by
  subst hw
  exact (if_neg (by simp [hc, hs])).trans (if_neg (by simp [ht]))

end

theorem exec_compactionEnd_none (h : s.isSet Fld.SEC_STATUS_COMPACTING 0 = false ∨ s.sec.journalKey = []) :
    exec .compactionEnd s = .next s :=
  congrArg _ (if_neg fun ⟨hc, hk⟩ => h.elim (by simp [hc]) hk)

theorem exec_compactionEnd_ends (hc : s.isSet Fld.SEC_STATUS_COMPACTING 0 = true) (hk : s.sec.journalKey ≠ []) :
    exec .compactionEnd s = .next (State.forEach
      { s.compactEnd with sec := { s.compactEnd.sec with waiting := [] } } s.sec.waiting (fun t a => t.jnlAppend a)) :=
  congrArg _ (if_pos ⟨hc, hk⟩)

end

/-- Settles O58: each command by its TYPE, ID and LEN, an append by the compaction in its way, and a compaction by the
journal key. -/
theorem journalCommands : Obligations.JournalCommands := by
  unfold Obligations.JournalCommands
  exact ⟨fun s => exec_jnlRead_runs,
    fun s n r h hd hn hr => ⟨exec_jnlWrite_badField h hd hn, exec_jnlWrite_fits h hd hn hr⟩,
    fun s h hd => ⟨exec_jnlDelete_badType h hd, exec_jnlDelete_typed h hd⟩,
    fun s h hd => ⟨exec_ctrInc_badField h hd, exec_ctrInc_counts h hd⟩, fun s => exec_commitVersion_runs,
    fun s a => ⟨State.jnlAppend_waits, State.jnlAppend_torn, fun hc hs ht => ⟨_, rfl, State.jnlAppend_written hc hs ht rfl⟩⟩,
    fun s => ⟨exec_compactionEnd_none, exec_compactionEnd_ends⟩⟩

end Sys2Proof.Machine
end

section
/-! SUPPORT. The reactions to a tamper trip of one sensor. -/

namespace Sys2Proof.Machine

/-- In RUN every sensor is active (Table 20.8). -/
theorem State.sensorActive_run {s : State} {k : Nat} (hd : s.dev = .run) (hk : k < 5) : s.sensorActive k = true := by
  rw [State.sensorActive, hd, decide_eq_true hk]
  rfl

theorem State.mainOff_run {s : State} (hd : s.dev = .run) : s.mainOff = false := by
  rw [State.mainOff, hd]
  rfl

/-- A trip of one sensor that is active is a tamper of that sensor. -/
theorem exec_tamperTrip_one {s : State} {k : Nat} (h : s.sensorActive k = true) :
    exec (.tamperTrip [k]) s = .next (s.tamper [k]) := by
  have hone : ([k].filter s.sensorActive).eraseDups = [k] := by
    rw [List.filter_cons_of_pos h, List.filter_nil, eraseDups_of_nodup (List.nodup_singleton k)]
  show execTamperTrip [k] s = _
  rw [execTamperTrip, hone]

/-- The capture and the log of a trip whose first sensor of the top class is `first` (R571): the part of
`State.tamper` before the reaction. -/
def State.tamperCapture (s : State) (first top : Nat) (trips : List (Nat × Nat)) (asleep : Bool) (n : Nat) : State :=
  State.forEach (((((State.set { s with freeCount := s.freeCount + 1 } Fld.SEC_ALARM_CAP_SENSOR 0 first).set
    Fld.SEC_ALARM_CAP_CLASS 0 top).set Fld.SEC_ALARM_TIME_TIME 0 s.now).doIf (!asleep)
    (fun u => u.raiseN Flg.SEC_EVT_TAMPER 0 n))) trips (fun v p => v.alarmLog ⟨p.1, p.2, s.now, asleep⟩)

/-- The reaction of the top class of a trip (R571): the part of `State.tamper` after the capture. -/
def State.tamperReaction (v : State) (top : Nat) (asleep : Bool) : State :=
  if top = 3 then v.alarmC
  else if top = 2 then
    if asleep then { v with aon := { v.aon with pendingB := true } }
    else State.resetBy { v with aon := { v.aon with pendingB := true } } 6 true
  else v

/-- A tamper captures the first sensor of the top class, and that class reacts. -/
theorem State.tamper_eq (s : State) (sensors cls : List Nat) (top first c : Nat) (hcls : sensors.map s.tamperClass = cls)
    (htop : cls.foldl max 0 = top) (hfirst : (sensors.zip cls).find? (fun p => p.2 == top) = some (first, c)) :
    s.tamper sensors = (s.tamperCapture first top (sensors.zip cls) s.mainOff sensors.length).tamperReaction top
      s.mainOff := by
  subst hcls htop
  unfold State.tamper
  extract_lets cls top
  rw [show (sensors.zip cls).find? (fun p => p.2 == top) = some (first, c) from hfirst]
  rfl

/-- With the main domain running, one sensor is captured, flagged and logged. -/
theorem State.tamperCapture_one (s : State) (k cls : Nat) : s.tamperCapture k cls [(k, cls)] false 1 =
    State.alarmLog ((((State.set { s with freeCount := s.freeCount + 1 } Fld.SEC_ALARM_CAP_SENSOR 0 k).set
      Fld.SEC_ALARM_CAP_CLASS 0 cls).set Fld.SEC_ALARM_TIME_TIME 0 s.now).raise Flg.SEC_EVT_TAMPER 0)
      ⟨k, cls, s.now, false⟩ := by
  rw [State.tamperCapture, Bool.not_false, State.doIf_true]
  rfl

/-- A tamper of one sensor, the main domain running: it is captured, and its class reacts (R571, R572). -/
theorem State.tamper_one {s : State} {k cls : Nat} (hp : s.aon.policy[k]? = some cls) (hd : s.dev = .run) :
    s.tamper [k] = (s.tamperCapture k cls [(k, cls)] false 1).tamperReaction cls false := by
  have hcls : [k].map s.tamperClass = [cls] := by rw [List.map_singleton, State.tamperClass, hp]
  have hfirst : ([k].zip [cls]).find? (fun p => p.2 == cls) = some (k, cls) := List.find?_cons_of_pos (beq_self_eq_true cls)
  rw [State.tamper_eq s [k] [cls] cls k cls hcls (Nat.zero_max cls) hfirst, State.mainOff_run hd]
  rfl

/-- Settles O59: the trip is taken as it stands, and its class decides. -/
theorem tamperReactions : Obligations.TamperReactions := by
  unfold Obligations.TamperReactions
  intro s t k cls hp hk hd _ _ ht
  have htrip : exec (.tamperTrip [k]) s = .next (t.tamperReaction cls false) := by
    rw [exec_tamperTrip_one (State.sensorActive_run hd hk), State.tamper_one hp hd, State.tamperCapture_one, ← ht]
  rw [htrip]
  exact ⟨fun h => congrArg _ ((if_neg (by omega)).trans (if_neg (by omega))),
    fun h => congrArg _ ((if_neg (by omega)).trans (if_pos h)), fun h => congrArg _ (if_pos h),
    fun _ => ⟨rfl, rfl, rfl, rfl, rfl⟩⟩

end Sys2Proof.Machine
end
